-- ==== Sys2Proof/Word.lean ====
section
/-! DEFINITION. The words of the machine: bytes, 32-bit registers and the 64-bit frame count. -/

namespace Sys2Proof

abbrev Byte := BitVec 8
abbrev Word := BitVec 32

end Sys2Proof
end

