-- ==== Sys2Proof/Syntax.lean ====
section
/-! DEFINITION. The commands the block takes: the ONE inductive Instr, and the small types its operands use. -/

namespace Sys2Proof

/-- Who makes an access (R2, R3, R47, R120, R446). -/
inductive Agent where
  | dap | clove | sumac (c p : Nat) | tileDma (t : Nat) | trunk | host | stream | store
  | anise | saffron | qm | security | core (n : Nat)
  deriving DecidableEq, Repr

/-- A disturbance of one slot of one plane during a frame (R36, R39): `plane` 0 is A, 1 is B and 2 the
producer latch; the word is changed by `mask`; `parBad` says whether its parity bit is bad. -/
structure PlaneFault where
  slot : Nat
  plane : Nat
  mask : Word
  parBad : Bool
  deriving DecidableEq, Repr

/-- What reaches the device from outside during the frame that ends at a frame tick: main-chain
sense outputs before OFFSET and GAIN (R142), TDM words received (R143) and plane disturbances. -/
structure FrameIn where
  sense : List (Nat × Word)
  tdm : List (Nat × Word)
  faults : List PlaneFault
  deriving DecidableEq, Repr

/-- An AVTP packet of the audio format (R166): `fmt` 0 INT_32BIT, 1 INT_24BIT, 2 INT_16BIT, any other
number another format; `nsr` is the nominal rate in Hz; the samples are the container words, frame by frame. -/
structure AvtpPkt where
  streamId : Nat
  tv : Bool
  sp : Bool
  fmt : Nat
  nsr : Nat
  chans : Nat
  bitDepth : Nat
  seq : Nat
  ts : Nat
  samples : List Nat
  deriving DecidableEq, Repr

/-- An RTP packet (R167): `sumOk` says that its UDP checksum is 0 or right; `whole` that it is no
fragment and has no IP options. The samples are the payload words, frame by frame. -/
structure RtpPkt where
  ip : Nat
  port : Nat
  ssrc : Nat
  seq : Nat
  ts : Nat
  sumOk : Bool
  whole : Bool
  samples : List Nat
  deriving DecidableEq, Repr

/-- What a frame carries: an HSR supervision frame (R160); a sync message, with the measured offset from
the master in ns (R161, R162); an announce, with the outcome of the best master clock algorithm; a path
delay result; a stream packet; a hub announce (R181); anything else. -/
inductive FrameBody where
  | supervision
  | sync (offset : Int)
  | master (gm : Bool) (slave : Nat)
  | linkDelay (ns : Nat) (capable : Bool)
  | avtp (p : AvtpPkt)
  | rtp (p : RtpPkt)
  | announce (prio role epoch : Nat)
  | other (kind : Nat)
  deriving DecidableEq, Repr

/-- An Ethernet frame: `len` from the destination address to the FCS; `seq` the sequence number of its
HSR tag; `cls` the traffic class of its PCP. -/
structure EthFrame where
  len : Nat
  fcsOk : Bool
  dst : Nat
  src : Nat
  seq : Option Nat
  cls : Nat
  body : FrameBody
  deriving DecidableEq, Repr


/-- The commands: one constructor per row of spec/opcode_table.json, in the table's order (R466, R20 and
the rule named at each). -/
inductive Instr where
  /-- FRAME_TICK (R466). The frame number F advances by one at the gPTP instant of R5, and every frame-paced action runs whether or not the exchange is running. -/
  | frameTick (x : FrameIn)
  /-- BLOCK_TICK (R20). At a frame tick with F mod N = 0, the block-tick actions of the exchange, drive, stream engine, Anise, Saffron and DMA take place together. -/
  | blockTick
  /-- HOLD_OFF_END (R37). After H frames the plane switch hold-off ends and HELD_OFF reads 0. -/
  | holdOffEnd
  /-- SHADOW_COPY_DONE (R28). The copy of the new active map into the shadow finishes, and COPYING clears. -/
  | shadowCopyDone
  /-- PORT_FAILED (R33). A port late at LATE_LIMIT consecutive block ticks sets FAILED and raises the tile-failure source. -/
  | portFailed (t : Fin 12)
  /-- SWAP_REQ (R26). A write of SX_MAP_CTL.SWAP_REQ requests a map swap at the first following block tick. -/
  | swapReq (ag : Agent)
  /-- SWAP_CANCEL (R28). A write of SX_MAP_CTL.SWAP_CANCEL withdraws a pending swap, and takes precedence over SWAP_REQ in the same write. -/
  | swapCancel (ag : Agent) (withReq : Bool)
  /-- SHADOW_MAP_WRITE (R28). A write to the shadow map is stored, or is discarded with SHADOW_BUSY while COPYING is 1. -/
  | shadowMapWrite (ag : Agent) (off : Nat) (v : Word)
  /-- ACTIVE_MAP_WRITE (R28). A write to the active map is discarded and sets ACTIVE_WRITE. -/
  | activeMapWrite (ag : Agent)
  /-- TP_CFG_WRITE (R30). A write to SX_TP_t_CFG sets the shadow channel counts, or is discarded during COPYING. -/
  | tpCfgWrite (ag : Agent) (t : Fin 12) (v : Word)
  /-- SX_CFG_WRITE (R44). A write to SX_CFG sets fs and N, or is discarded with CFG_WHILE_RUN while RUNNING or STARTING. -/
  | sxCfgWrite (ag : Agent) (v : Word)
  /-- RUN_START (R45). Setting SX_CTL.RUN enters STARTING until the first block tick, which performs a swap and begins the run. -/
  | runStart (ag : Agent)
  /-- RUN_STOP (R46). Clearing SX_CTL.RUN stops the exchange at the next block tick and withdraws a pending swap. -/
  | runStop (ag : Agent)
  /-- PLANE_SELECT_WRITE (R38). A write of SX_PLANE_CTL.SEL changes the plane at the next frame tick, overriding any automatic switch in that frame. -/
  | planeSelectWrite (ag : Agent) (v : Word)
  /-- PLANE_INJECT (R39). SX_PLANE_INJ.GO inverts bit 0 of one slot on one plane in the next frame, with good parity. -/
  | planeInject (ag : Agent) (plane : Fin 2) (slot : Fin 8192)
  /-- TXRDY_WRITE (R32). A write of 1 to SX_TP_t_STAT.TXRDY marks the transmit half ready for the next block tick. -/
  | txrdyWrite (ag : Agent) (t : Fin 12)
  /-- FAIL_SET (R33). A write of SX_TP_t_STAT.FAIL_SET sets FAILED for the port. -/
  | failSet (ag : Agent) (t : Fin 12)
  /-- PHYS_WRITE (R41). A write of SX_TP_t_PHYS.PHYS requests a remap that is judged at the next block tick. -/
  | physWrite (ag : Agent) (t : Fin 12) (phys : Fin 16)
  /-- BUNDLE_ISSUE (R58). A signal core issues one 256-bit bundle whose slot operations read their operands and schedule their results. -/
  | bundleIssue (n : Fin 48)
  /-- RESULT_LANDING (R58). A result in flight lands in its register at issue plus latency, raising its flags; a DATA_ECC load faults here. -/
  | resultLanding (n : Fin 48)
  /-- INTERLOCKED_ACCESS_DONE (R51). An access to an interlocked region completes, and the held core resumes issue. -/
  | interlockedAccessDone (n : Fin 48)
  /-- RETI_RESUME (R72). In cycle r + 22, SC_STATUS is restored from ISTAT and issue resumes at IPC, or the core re-enters its wait. -/
  | retiResume (n : Fin 48)
  /-- LOCK_GRANT (R127). The LOCK bundle issues at the core's turn, and the core holds the common-bank lock. -/
  | lockGrant (n : Fin 48)
  /-- LOCK_BREAK (R127). The eighth bundle after LOCK closes the sequence without a store or UNLOCK, breaking the lock and setting LOCK_BROKEN. -/
  | lockBreak (n : Fin 48)
  /-- HANDLER_ENTRY (R71). 20 cycles after acceptance, IPC, ISTAT and SC_STATUS are set and the first bundle at IVEC or TVEC issues. -/
  | handlerEntry (n : Fin 48)
  /-- FAULT_STATE_ENTRY (R79). 20 cycles after detection the core enters FAULT and raises the core-fault source. -/
  | faultStateEntry (n : Fin 48)
  /-- CORE_START (R82). SC_n_CTL.START begins issue at ENTRY from RESET, or resumes from HALTED. -/
  | coreStart (n : Fin 48)
  /-- CORE_HALT (R78). SC_n_CTL.HALT requests a halt at the next acceptance opportunity. -/
  | coreHalt (n : Fin 48)
  /-- HALT_ENTRY (R78). After draining, the core enters HALTED with SC_n_PC holding the next bundle. -/
  | haltEntry (n : Fin 48)
  /-- WIN_STEP (R78). SC_n_CTL.WIN_STEP resumes issue and halts again at the next acceptance opportunity. -/
  | winStep (n : Fin 48)
  /-- CORE_RESET (R81). SC_n_CTL.CORE_RESET puts the core in RESET and clears its registers, keeping its memories. -/
  | coreReset (n : Fin 48)
  /-- PROGRAM_MEMORY_LOAD (R52). A fabric write to a core's program or private memory takes effect only in RESET, HALTED or FAULT, and is otherwise discarded. -/
  | programMemoryLoad (ag : Agent) (n : Fin 48) (priv : Bool) (off : Fin 131072) (v : Word)
  /-- OWNER_WRITE (R121). A valid write to TL_t_BK_b_OWNER starts a handover drain; invalid or busy writes are refused under R120. -/
  | ownerWrite (ag : Agent) (t : Fin 12) (b : Fin 8) (v : Word)
  /-- HANDOVER_COMPLETE (R121). After the last accepted access completes, CUR takes the new code and BUSY clears; the capturing bank follows under R124. -/
  | handoverComplete (t : Fin 12) (b : Fin 8)
  /-- DRAIN_ABORT (R121). At h + 24 an incomplete access is aborted and DRAIN_ABORT is set. -/
  | drainAbort (t : Fin 12) (b : Fin 8)
  /-- REMAP_WRITE (R130). A write of ROW and EN to a REMAP register starts a spare-row remap or unmap, or is refused. -/
  | remapWrite (t : Fin 12) (b : Fin 9) (k : Fin 4) (v : Word)
  /-- REMAP_COPY_START (R133). A waiting spare-row copy starts in the cycle after the bank's open test window closes. -/
  | remapCopyStart (t : Fin 12) (b : Fin 9) (k : Fin 4)
  /-- REMAP_COPY_DONE (R130). After the 256-cycle copy, accesses to the row go to the spare and BUSY clears. -/
  | remapCopyDone (t : Fin 12) (b : Fin 9) (k : Fin 4)
  /-- TEST_WINDOW_START (R133). Every US microseconds each enabled bank opens its next test window and saves its words. -/
  | testWindowStart (t : Fin 12)
  /-- TEST_WINDOW_END (R131). After March C- and the restore, the window closes; a March mismatch sets FAIL and raises the bank-test source. -/
  | testWindowEnd (t : Fin 12) (b : Fin 9) (f : Option (Fin 64 × Fin 72))
  /-- BKT_INTERVAL_WRITE (R133). A write of TL_t_BKT_INTERVAL.US sets the interval, or is refused below 2 with INTERVAL_RANGE. -/
  | bktIntervalWrite (t : Fin 12) (v : Word)
  /-- CORRECTION_UPDATE (R144). At each 768 kHz update the correction loop computes its error and adds the clamped biquad output. -/
  | correctionUpdate (n : Fin 64) (v : Word)
  /-- LOOP_FAULT (R145). After 64 consecutive updates with error beyond ERR_LIM the loop opens and LOOP_FAULT is set. -/
  | loopFault (n : Fin 64)
  /-- IMPEDANCE_ESTIMATE (R146). Within 64 fabric cycles after a block tick, VRMS, IRMS and ZEST are written, and OPEN_CNT is updated. -/
  | impedanceEstimate (n : Fin 64) (sv : Nat) (si : Nat)
  /-- OPEN_DETECT (R148). OPEN_CNT reaches 4; OPEN is set, the drive-fault source is raised and, with OPEN_OFF, the channel turns off. -/
  | openDetect (n : Fin 64)
  /-- SHORT_DETECT (R147). A short-path current beyond SHORT_LIM drives the outputs low and enters SHORT within 2.6 µs. -/
  | shortDetect (n : Fin 64)
  /-- GROUP_FAULT (R149). DRV_FLT_N_g low for 3 media-clock cycles puts the group in GROUP_FAULT and drops DRV_EN_g. -/
  | groupFault (g : Fin 8)
  /-- FLT_LATCHED_CLEAR (R149). A write of 1 to FLT_LATCHED clears it only while DRV_FLT_N_g is high. -/
  | fltLatchedClear (g : Fin 8)
  /-- DRIVE_ENABLE_LOSS (R150). DRV_EN_g falls for a reason other than a group fault, and channels in STARTING or RUN enter OFF. -/
  | driveEnableLoss (g : Fin 8)
  /-- ENABLE_WRITE (R469). A write of DRV_n_CTL.ENABLE takes effect at the next block tick. -/
  | enableWrite (n : Fin 64) (b : Bool)
  /-- CLR_FAULT (R151). DRV_n_CTL.CLR_FAULT returns a channel in SHORT or GROUP_FAULT to OFF. -/
  | clrFault (n : Fin 64)
  /-- CAL_START (R153). DRV_n_CTL.CAL_START in OFF enters CAL for 4,096 frames. -/
  | calStart (n : Fin 64)
  /-- CAL_DONE (R153). After 4,096 frames the negated means are written into OFFSET and the channel returns to OFF. -/
  | calDone (n : Fin 64)
  /-- SENSE_STUCK (R142). The 64th consecutive equal sampled bit sets SNS_n_STAT.STUCK. -/
  | senseStuck (n : Fin 128)
  /-- SENSE_OVERLOAD (R142). A main-chain output reaching ±FS sets SNS_n_STAT.OVL. -/
  | senseOverload (n : Fin 128)
  /-- TDM_SLIP (R143). A target-mode FS outside ±4 BCLK sets SLIP and realigns the port, zeroing the frame's words. -/
  | tdmSlip (p : Fin 8)
  /-- TDM_LOCK (R143). After 16 frames without a slip LOCKED reads 1. -/
  | tdmLock (p : Fin 8)
  /-- FRAME_RECEIVE (R158). A received Ethernet frame is checked, deduplicated, delivered and forwarded under R156 to R159. -/
  | frameReceive (p : Fin 4) (fr : EthFrame)
  /-- FRAME_FORWARD (R158). Cut-through forwarding of a frame starts once 64 bytes have arrived and the outgoing port is free. -/
  | frameForward (p : Fin 4)
  /-- LINK_UP (R155). A port's link comes up; a rate mismatch between the ports of a ring stops forwarding. -/
  | linkUp (p : Fin 4)
  /-- LINK_DOWN (R160). A port's link goes down; LINK_LOST and the ring-open flag are set, and isolation may follow. -/
  | linkDown (p : Fin 4)
  /-- DD_SOURCE_FORGET (R159). A source silent for 400 ms is removed from the duplicate table. -/
  | ddSourceForget (src : Nat)
  /-- SUPERVISION_SEND (R160). Every 2 s a Sumac channel sends an HSR supervision frame into each enabled ring. -/
  | supervisionSend
  /-- RING_OPEN_TIMEOUT (R160). The device's own supervision frame has not returned within 3 intervals, and A_OPEN or B_OPEN is set. -/
  | ringOpenTimeout (r : Fin 2)
  /-- HOLDOVER_ENTRY (R163). No sync for 3 sync intervals enters time holdover with the DCO frequency frozen. -/
  | holdoverEntry
  /-- DCO_FREQ_WRITE (R162). A write of NET_DCO_FREQ steers the media PLL, clamped to ±100 ppm. -/
  | dcoFreqWrite (v : Word)
  /-- CBS_WRITE (R164). A credit-based shaper slope write is accepted, or refused with CBS_RANGE when the slopes exceed 75 %. -/
  | cbsWrite (p : Fin 4) (hi : Bool) (v : Word)
  /-- GCL_SWAP_REQ (R165). NET_PORT_p_GCL_CTL.SWAP_REQ requests activation of the shadow gate list. -/
  | gclSwapReq (p : Fin 4)
  /-- GCL_CYCLE_START (R165). At a gate cycle start a pending shadow list becomes active, or is refused with GCL_RANGE. -/
  | gclCycleStart (p : Fin 4)
  /-- PACKET_LAUNCH (R171). A transmit context forms and launches its packet within 5 µs after the frame tick of F0 + max(N, P). -/
  | packetLaunch (f : Fin 3072)
  /-- FLOW_ENABLE (R170). A write of FL_f_CTL.EN = 1 is checked and takes effect at the next block tick, or is refused. -/
  | flowEnable (f : Fin 3072)
  /-- FLOW_DISABLE (R170). A write of FL_f_CTL.EN = 0 stops the context at the next block tick. -/
  | flowDisable (f : Fin 3072)
  /-- FLOW_FIELD_WRITE (R170). A write to a context field is stored, or is discarded with BUSY while EN or ACTIVE is 1. -/
  | flowFieldWrite (f : Fin 3072) (r : Fin 14) (v : Word)
  /-- HUB_ANNOUNCE_SEND (R181). Every 10 ms a hub-eligible device sends its hub announce on both rings. -/
  | hubAnnounceSend
  /-- HUB_TAKEOVER (R182). A standby that hears no hub announce for 30 ms takes the hub role with a new epoch. -/
  | hubTakeover
  /-- HUB_ELECTION_TIMEOUT (R181). With no hub or standby heard for 200 ms, an eligible device becomes hub. -/
  | hubElectionTimeout
  /-- ISOLATION (R183). No frame from another device for ISO_TIME sets ISOLATED and raises the isolation source. -/
  | isolation
  /-- RING_ENABLE_WRITE (R183). A write of NET_CTL that enables a ring restarts the isolation timer. -/
  | ringEnableWrite (v : Word)
  /-- REMOTE_FRAME (R361). A remote Molalrik frame is authenticated and its request executed, or it is discarded without a reply. -/
  | remoteFrame (src : Nat) (l : List Byte)
  /-- AN_START (R195). AN_RUN_CTL.START sets WAITING for the next code boundary, or is refused. -/
  | anStart
  /-- AN_STOP (R198). AN_RUN_CTL.STOP ends the run at the next period boundary, or withdraws a waiting start. -/
  | anStop
  /-- AN_RUN_BEGIN (R195). At the first code boundary at least 4,096 frames after START, the run begins and takes its configuration. -/
  | anRunBegin
  /-- AN_RUN_END (R198). A run ends at its K-th period boundary, or early after STOP; processing begins and CONT may start a follow-on run. -/
  | anRunEnd
  /-- AN_PROCESSING_DONE (R199). Impulse responses, verdicts, references and counts are written, DONE is set, and the run-done source is raised. -/
  | anProcessingDone
  /-- AN_MODE_WRITE (R194). A write of AN_CTL.MODE takes effect at the next block tick, or is refused for MODE = 3. -/
  | anModeWrite (m : Fin 4)
  /-- SF_UPDATE (R218). At frame U with U mod (fs/4) = 0, Saffron closes its one-second window for every analysed zone. -/
  | sfUpdate
  /-- SF_RESULTS_WRITTEN (R218). Within 20 ms of U, zone records, STAT, SF_UPD and trims are written and the update source is raised. -/
  | sfResultsWritten
  /-- SF_ENABLE (R218). A write of SF_CTL.EN = 1 starts updates, or is refused with MEM_RANGE. -/
  | sfEnable
  /-- LIM_LOCK (R222). SF_CTL.LIM_LOCK locks every SF_Z_z_LIM register until a warm reset. -/
  | limLock
  /-- SF_LIMIT_WRITE (R222). A write to SF_Z_z_LIM is stored, or is discarded with LIM_LOCKED. -/
  | sfLimitWrite (z : Fin 256) (v : Word)
  /-- NVME_COMPLETION (R225). An NVMe command completes; a write completes on both drives and a failed read is retried and repaired. -/
  | nvmeCompletion (p : Fin 2) (admin : Bool) (what : Fin 3)
  /-- NVME_TIMEOUT (R226). A command not completed within NV_p_TMO.MS marks its drive failed and enters degraded mode. -/
  | nvmeTimeout (p : Fin 2)
  /-- DRIVE_RETURN (R226). A failed drive returns and firmware starts resynchronising its dirty segments. -/
  | driveReturn (p : Fin 2) (intact : Bool)
  /-- RESYNC_DONE (R226). Resynchronisation of a returned drive finishes and RESYNC clears. -/
  | resyncDone (p : Fin 2)
  /-- PLAY_START (R233). At frame Sr a player channel begins play r, replacing any running play. -/
  | playStart (c : Fin 256)
  /-- PLAY_END (R232). A play's last sample passes, and the channel carries 0. -/
  | playEnd (c : Fin 256)
  /-- SCHEDULE_RECEIVE (R237). A received schedule copy is adopted when its (EPOCH, VERSION) is higher, and entries are armed or disarmed. -/
  | scheduleReceive (l : List Byte)
  /-- RECORD_HALF_FULL (R243). A recorder staging half fills; the recorder switches halves or drops samples, and firmware writes the half. -/
  | recordHalfFull (r : Fin 256)
  /-- ENQT (R250). Appends an element at the tail of queue q. -/
  | enqt (ag : Agent) (q : Fin 1048576) (e : Fin 16777216)
  /-- ENQH (R250). Inserts an element at the head of queue q. -/
  | enqh (ag : Agent) (q : Fin 1048576) (e : Fin 16777216)
  /-- DEQ (R250). Removes and returns the head of queue q. -/
  | deq (ag : Agent) (q : Fin 1048576)
  /-- PEEK (R250). Returns the head of queue q without change. -/
  | peek (ag : Agent) (q : Fin 1048576)
  /-- MOVE (R250). Moves the head of q to the tail or head of queue d. -/
  | moveOp (ag : Agent) (q : Fin 1048576) (d : Fin 1048576) (front : Bool)
  /-- SPLICE (R250). Appends all of q to the tail of d, leaving q empty. -/
  | splice (ag : Agent) (q : Fin 1048576) (d : Fin 1048576)
  /-- FLUSH (R250). Returns all of q to the free pool. -/
  | flushOp (ag : Agent) (q : Fin 1048576)
  /-- COUNT (R250). Returns the count of queue q. -/
  | countOp (ag : Agent) (q : Fin 1048576)
  /-- ALLOC (R250). Takes the first element of the free pool. -/
  | alloc (ag : Agent)
  /-- FREE (R250). Puts an element at the head of the free pool. -/
  | freeOp (ag : Agent) (e : Fin 16777216)
  /-- QM_ILLEGAL_OPERATION (R253). A doorbell access with operation code 10–15 or bad form is refused with status ILLEGAL. -/
  | qmIllegalOperation (ag : Agent) (op : Fin 16) (q : Fin 1048576)
  /-- QM_DESCRIPTOR_FETCH_DONE (R255). A cache-miss descriptor fetch completes and waiting operations proceed, or an ECC error closes the queue. -/
  | qmDescriptorFetchDone (q : Fin 1048576)
  /-- INIT_DESC (R259). QM_CTL.INIT_DESC initialises every descriptor and invalidates the cache. -/
  | initDesc
  /-- INIT_DESC_DONE (R259). Descriptor initialisation finishes and DESC_BUSY clears. -/
  | initDescDone
  /-- INIT_POOL (R259). QM_CTL.INIT_POOL links every element into the free pool. -/
  | initPool
  /-- INIT_POOL_DONE (R259). Pool initialisation finishes and POOL_BUSY clears. -/
  | initPoolDone
  /-- QM_WRITE_BACK (R248). QM_CTL.WB writes back every dirty descriptor. -/
  | qmWriteBack
  /-- QM_WRITE_BACK_DONE (R248). The write-back finishes; after an EN clear, EN_OUT reads 0. -/
  | qmWriteBackDone
  /-- QM_ENABLE_WRITE (R259). A write of QM_CTL.EN starts the queue manager, or on clearing starts the final write-back. -/
  | qmEnableWrite (en : Bool)
  /-- QM_QCFG_WRITE (R260). A write of QM_QCFG sets the owner and pin of the selected queue, or is refused. -/
  | qmQcfgWrite (ag : Agent) (v : Word)
  /-- QM_QLIM_WRITE (R260). A write of QM_QLIM sets the limit of the selected queue. -/
  | qmQlimWrite (ag : Agent) (v : Word)
  /-- WATCH_CFG_WRITE (R258). A write of QM_W_w_CFG sets a watch entry and sets its pending bit at once if the queue is non-empty. -/
  | watchCfgWrite (w : Fin 4096) (v : Word)
  /-- WATCH_PEND_CLEAR (R258). A W1C write to QM_W_PEND_i clears pending bits, which are set again while their queues are non-empty. -/
  | watchPendClear (i : Fin 128) (v : Word)
  /-- ARM (R272). DMA_CH_c_CTL.ARM copies the shadow set into the active set when the channel is idle or parked. -/
  | arm (e : Fin 13) (c : Fin 64)
  /-- GO (R272). DMA_CH_c_CTL.GO fetches the descriptor at NEXT and runs the chain. -/
  | go (e : Fin 13) (c : Fin 64)
  /-- DMA_STOP (R275). DMA_CH_c_CTL.STOP stops the channel at the next descriptor boundary. -/
  | dmaStop (e : Fin 13) (c : Fin 64)
  /-- DMA_RESET (R276). DMA_CH_c_CTL.RESET ends the channel at the next burst boundary and marks the descriptor incomplete. -/
  | dmaReset (e : Fin 13) (c : Fin 64)
  /-- APPEND (R274). DMA_CH_c_CTL.APPEND re-reads a parked descriptor, or is remembered for the next EOC completion. -/
  | append (e : Fin 13) (c : Fin 64)
  /-- DMA_DESCRIPTOR_FETCH_DONE (R267). A descriptor read from memory enters the active set and is checked. -/
  | dmaDescriptorFetchDone (e : Fin 13) (c : Fin 64)
  /-- DMA_BURST (R279). The engine grants a burst slot to the ready channel of highest effective priority, sampling any request line. -/
  | dmaBurst (e : Fin 13) (lines : List Nat)
  /-- DMA_TIMEOUT (R277). No response within DMA_t_TMO or TDMA_TMO cycles stops the channel with error TMO. -/
  | dmaTimeout (e : Fin 13) (c : Fin 64)
  /-- DESCRIPTOR_COMPLETE (R271). All write responses return; DONE_CNT counts, STATUS is written back, and the channel follows R273. -/
  | descriptorComplete (e : Fin 13) (c : Fin 64)
  /-- INTERRUPT_PRESENT (R289). Within 24 fabric cycles the winning candidate is presented to its target, replacing a lower one or becoming 1,023. -/
  | interruptPresent (k : Fin 50)
  /-- CLAIM (R291). A read of IC_T_k_CLAIM returns and puts in service the presented source, pushing it onto the target's stack. -/
  | claim (k : Fin 50)
  /-- COMPLETE (R293). A write of IC_T_k_COMPLETE pops the top entry, or is refused and recorded in IC_FAULT. -/
  | complete (k : Fin 50) (n : Fin 1024)
  /-- PEND_SET (R285). A write to IC_PEND_SET_i makes sources pending. -/
  | pendSet (i : Fin 32) (v : Word)
  /-- PEND_CLR (R285). A write to IC_PEND_CLR_i clears pending bits. -/
  | pendClr (i : Fin 32) (v : Word)
  /-- EN_SET (R285). A write to IC_EN_SET_i enables sources. -/
  | enSet (i : Fin 32) (v : Word)
  /-- EN_CLR (R285). A write to IC_EN_CLR_i disables sources. -/
  | enClr (i : Fin 32) (v : Word)
  /-- SRC_CFG_WRITE (R286). A write of IC_SRC_s_CFG or MASK sets priority, wake, group and targets, with source 1 protected. -/
  | srcCfgWrite (n : Fin 1024) (which : Fin 3) (v : Word)
  /-- HOLD_OFF_EXPIRY (R297). A group's hold-off timer expires and its pending sources become candidates again. -/
  | holdOffExpiry (g : Fin 64)
  /-- EDGE_LATCH (R298). The selected edge on an edge input sets its always-on latch, which sets the pending bit and may wake the device. -/
  | edgeLatch (e : Fin 48) (rising : Bool)
  /-- NOP (R308). Clove or Sumac instruction that does nothing. -/
  | nop (p : Fin 97)
  /-- LIT8 (R308). Pushes the 8-bit immediate. -/
  | lit8 (p : Fin 97) (imm : Fin 256)
  /-- LIT (R308). Pushes the 16-bit immediate. -/
  | lit (p : Fin 97) (imm : Fin 65536)
  /-- DUP (R308). Duplicates the top cell. -/
  | dup (p : Fin 97)
  /-- DROP (R308). Drops the top cell. -/
  | dropOp (p : Fin 97)
  /-- SWAP (R308). Exchanges the top two cells. -/
  | swap (p : Fin 97)
  /-- OVER (R308). Copies the second cell to the top. -/
  | over (p : Fin 97)
  /-- ROT (R308). Rotates the third cell to the top. -/
  | rot (p : Fin 97)
  /-- PICK (R308). Copies the cell i8 below the top. -/
  | pick (p : Fin 97) (imm : Fin 256)
  /-- TOR (R308). Moves the top cell to the return stack. -/
  | tor (p : Fin 97)
  /-- FROMR (R308). Moves the return stack top to the operand stack. -/
  | fromr (p : Fin 97)
  /-- RFETCH (R308). Copies the return stack top to the operand stack. -/
  | rfetch (p : Fin 97)
  /-- ADD (R310). Wrapping sum, setting C. -/
  | add (p : Fin 97)
  /-- ADDS (R310). Signed saturating sum. -/
  | adds (p : Fin 97)
  /-- ADDUS (R310). Unsigned saturating sum. -/
  | addus (p : Fin 97)
  /-- ADDC (R310). Sum with carry, setting C. -/
  | addc (p : Fin 97)
  /-- SUB (R310). Wrapping difference, setting C. -/
  | sub (p : Fin 97)
  /-- SUBS (R310). Signed saturating difference. -/
  | subs (p : Fin 97)
  /-- SUBUS (R310). Unsigned saturating difference. -/
  | subus (p : Fin 97)
  /-- SUBB (R310). Difference with borrow, setting C. -/
  | subb (p : Fin 97)
  /-- NEG (R310). Wrapping negation. -/
  | neg (p : Fin 97)
  /-- NEGS (R310). Saturating negation. -/
  | negs (p : Fin 97)
  /-- ABS (R310). Wrapping magnitude. -/
  | abs (p : Fin 97)
  /-- ABSS (R310). Saturating magnitude. -/
  | abss (p : Fin 97)
  /-- MUL (R310). Low cell of the product. -/
  | mul (p : Fin 97)
  /-- MULH (R308). High cell of the signed product. -/
  | mulh (p : Fin 97)
  /-- MULHU (R308). High cell of the unsigned product. -/
  | mulhu (p : Fin 97)
  /-- DIV (R310). Signed wrapping quotient, with divide-by-zero results and an optional DZ trap. -/
  | div (p : Fin 97)
  /-- DIVS (R310). Signed saturating quotient. -/
  | divs (p : Fin 97)
  /-- DIVU (R310). Unsigned quotient. -/
  | divu (p : Fin 97)
  /-- MOD (R310). Signed remainder with the sign of x. -/
  | mod (p : Fin 97)
  /-- MODU (R310). Unsigned remainder. -/
  | modu (p : Fin 97)
  /-- AND (R308). Bitwise AND. -/
  | opAnd (p : Fin 97)
  /-- OR (R308). Bitwise OR. -/
  | opOr (p : Fin 97)
  /-- XOR (R308). Bitwise XOR. -/
  | opXor (p : Fin 97)
  /-- NOT (R308). Bitwise NOT. -/
  | opNot (p : Fin 97)
  /-- SHL (R310). Shift left. -/
  | shl (p : Fin 97)
  /-- SHLS (R310). Saturating shift left. -/
  | shls (p : Fin 97)
  /-- LSR (R310). Logical shift right. -/
  | lsr (p : Fin 97)
  /-- ASR (R310). Arithmetic shift right. -/
  | asr (p : Fin 97)
  /-- EQ (R308). Flag x = y. -/
  | eq (p : Fin 97)
  /-- LT (R308). Flag x < y, signed. -/
  | lt (p : Fin 97)
  /-- LTU (R308). Flag x < y, unsigned. -/
  | ltu (p : Fin 97)
  /-- ZEQ (R308). Flag x = 0. -/
  | zeq (p : Fin 97)
  /-- LD (R308). Loads one cell from the data space. -/
  | ld (p : Fin 97)
  /-- ST (R308). Stores one cell to the data space. -/
  | st (p : Fin 97)
  /-- LDINC (R308). Loads one cell and increments the address. -/
  | ldinc (p : Fin 97)
  /-- STINC (R308). Stores one cell and increments the address. -/
  | stinc (p : Fin 97)
  /-- BR (R309). Relative branch always. -/
  | br (p : Fin 97) (imm : Fin 256)
  /-- BZ (R309). Relative branch if the flag is 0. -/
  | bz (p : Fin 97) (imm : Fin 256)
  /-- BNZ (R309). Relative branch if the flag is not 0. -/
  | bnz (p : Fin 97) (imm : Fin 256)
  /-- JMP (R309). Jumps to the immediate target. -/
  | jmp (p : Fin 97) (imm : Fin 65536)
  /-- CALL (R309). Calls the immediate target, pushing the return address. -/
  | call (p : Fin 97) (imm : Fin 65536)
  /-- RET (R308). Pops the return stack and jumps. -/
  | ret (p : Fin 97)
  /-- CALLS (R309). Calls the address formed from two cells. -/
  | calls (p : Fin 97)
  /-- JMPS (R309). Jumps to the address formed from two cells. -/
  | jmps (p : Fin 97)
  /-- VJMP (R308). Clove jumps through vector i8 in program RAM. -/
  | vjmp (imm : Fin 256)
  /-- RDS (R308). Reads special register i8. -/
  | rds (p : Fin 97) (imm : Fin 256)
  /-- WRS (R302). Writes special register i8; a page register write applies from the next instruction. -/
  | wrs (p : Fin 97) (imm : Fin 256)
  /-- EI (R308). Clove sets STATUS.IE. -/
  | ei
  /-- DI (R308). Clove clears STATUS.IE. -/
  | di
  /-- WAIT (R313). Clove stops fetching until a presentation is held for target 48. -/
  | waitOp
  /-- WAITEV (R315). Sumac waits until an enabled selected event bit is set, then pushes and clears those bits. -/
  | waitev (p : Fin 96) (imm : Fin 256)
  /-- CLOVE_RETI (R313). Clove pops the return entry, restores IE and jumps. -/
  | cloveReti
  /-- SIG (R308). Sumac sets SU_c_p_STAT.SIG. -/
  | sig (p : Fin 96)
  /-- BRK (R420). Halts the processor under a debugger, or raises a BRK trap. -/
  | brk (p : Fin 97)
  /-- TRAP (R311). Raises an SWTRAP trap recording the immediate. -/
  | trap (p : Fin 97) (imm : Fin 256)
  /-- CUSTOMER_OPCODE (R318). An opcode 0xF0–0xFF runs the customer microcode of its decode entry. -/
  | customerOpcode (p : Fin 97) (k : Fin 16) (imm : Fin 65536)
  /-- ILLEGAL_OPCODE (R334). Dispatch of an opcode with an invalid decode entry raises an ILLEGAL trap. -/
  | illegalOpcode (p : Fin 97) (op : Fin 256)
  /-- CLOVE_INTERRUPT_ENTRY (R313). At an instruction boundary with IE set, Clove pushes a return entry and fetches from IVEC. -/
  | cloveInterruptEntry
  /-- WINDOW_ACCESS_COMPLETE (R304). A fabric window access gets its response and the held processor continues, or traps on an error response. -/
  | windowAccessComplete (p : Fin 97)
  /-- MICROWORD_WAIT_LIMIT (R336). A waiting microword reaches its limit L and takes the limit path. -/
  | microwordWaitLimit (p : Fin 97)
  /-- SUMAC_START (R325). SU_c_p_CTL.START begins at byte 0 from RESET or resumes from HALTED. -/
  | sumacStart (ag : Agent) (p : Fin 96)
  /-- SUMAC_HALT (R325). SU_c_p_CTL.HALT stops the processor at the next instruction boundary. -/
  | sumacHalt (ag : Agent) (p : Fin 96)
  /-- SUMAC_RESET (R325). SU_c_p_CTL.RESET empties the stacks, clears state and enters RESET. -/
  | sumacReset (ag : Agent) (p : Fin 96)
  /-- SUMAC_MEMORY_WRITE (R325). A fabric write to Sumac memory takes effect only in RESET, HALTED or TRAPPED. -/
  | sumacMemoryWrite (p : Fin 96) (off : Fin 8192) (v : Word)
  /-- SUMAC_DOORBELL (R315). SU_c_p_DOORBELL.RING sets event bit 3. -/
  | sumacDoorbell (ag : Agent) (p : Fin 96)
  /-- SUMAC_TIMER_EXPIRY (R315). The local timer expires after TMR microseconds, sets event bit 2 and reloads. -/
  | sumacTimerExpiry (p : Fin 96)
  /-- DECODE_TABLE_WRITE (R317). A write to a decode table entry is stored, or refused when locked, out of range, busy or outside the customer rules. -/
  | decodeTableWrite (ag : Agent) (u : Fin 13) (e : Fin 256) (v : Word)
  /-- DT_LOCK (R317). Setting DT_LOCK locks a decode table and clears CUST_OPEN. -/
  | dtLock (ag : Agent) (u : Fin 13)
  /-- CUST_OPEN (R318). Setting CUST_OPEN makes entries 0xF0–0xFF writable. -/
  | custOpen (ag : Agent) (u : Fin 13)
  /-- PATCH_UNIT_WRITE (R324). A write of CV_FPU_u sets a fetch replacement that applies to fetches after the write retires. -/
  | patchUnitWrite (ag : Agent) (u : Fin 16) (data : Bool) (v : Word)
  /-- XIP_LINE_FILL (R323). An execute-in-place cache miss is filled from the boot flash and Clove continues. -/
  | xipLineFill (err : Bool)
  /-- XIP_INV (R323). CV_CTL.XIP_INV invalidates the execute-in-place cache. -/
  | xipInv (ag : Agent)
  /-- LOCKSTEP_INJECT (R321). CV_LS_INJ.GO inverts the checker's next stack write, causing one retry. -/
  | lockstepInject (ag : Agent)
  /-- MICROCODE_COPY_DONE (R327). The boot microcode copy into Clove bank 0 ends and Clove leaves reset at micro-address 0. -/
  | microcodeCopyDone
  /-- CONTROL_STORE_WRITE (R329). A write to a control store slot replaces a parity group, or is refused. -/
  | controlStoreWrite (ag : Agent) (u : Fin 13) (w : Fin 2048) (g : Fin 4) (v : Word)
  /-- BANK_SWAP_REQUEST (R338). MC_CV_CTL.SWAP sets SWAP_PEND. -/
  | bankSwapRequest (ag : Agent)
  /-- CONTROL_STORE_LOCK (R338). A write of MC_CV_CTL.LOCK or MC_SU_c_CTL.LOCK locks a store until a warm reset. -/
  | controlStoreLock (ag : Agent) (u : Fin 13)
  /-- ROM_PATCH_MATCH_WRITE (R339). A write of MC_ROMP_m_MATCH maps ROM words to patch RAM, or is refused. -/
  | romPatchMatchWrite (ag : Agent) (m : Fin 32) (v : Word)
  /-- PATCH_RAM_WRITE (R339). A write of a patch RAM word is stored, or refused when locked or not from ROM code. -/
  | patchRamWrite (w : Fin 1024) (v : Fin 65536)
  /-- ROMP_LOCK (R339). MC_ROMP_CTL.LOCK locks the patch RAM and match registers. -/
  | rompLock (ag : Agent)
  /-- REQUEST_WRITE (R346). A host write to a request mailbox is stored, or discarded with WR_BUSY while REQ_BUSY is 1. -/
  | requestWrite (i : Fin 18) (w : Fin 1024) (v : Word)
  /-- RING (R345). MB_i_DOORBELL.RING submits the request, setting REQ_PEND and REQ_BUSY and raising the doorbell source. -/
  | ring (i : Fin 18)
  /-- TAKE (R345). MB_i_POST.TAKE clears REQ_PEND. -/
  | take (ag : Agent) (i : Fin 18)
  /-- POST (R345). MB_i_POST.POST sets RPL_VALID, clears REQ_BUSY and raises the reply-ready source. -/
  | post (ag : Agent) (i : Fin 18)
  /-- ACK (R345). MB_i_DOORBELL.ACK clears RPL_VALID. -/
  | ack (i : Fin 18)
  /-- ABORT (R346). MB_i_DOORBELL.ABORT withdraws an untaken request. -/
  | abort (i : Fin 18)
  /-- SPI_TRANSACTION (R343). An SPI target transaction reads or writes the SPI address space between chip-select edges. -/
  | spiTransaction (l : List Byte)
  /-- GET_VERSION (R358). Returns the firmware, ROM, patch and table versions and the mode. -/
  | getVersion (i : Fin 18)
  /-- GET_STATUS (R359). Returns mode, hub role, BT_CAUSE, F and epoch. -/
  | getStatus (i : Fin 18)
  /-- SET_MB_PERM (R356). A management pair sets the command groups of another pair. -/
  | setMbPerm (i : Fin 18)
  /-- RESET (R359). Posts its reply and then performs a warm reset. -/
  | resetCmd (i : Fin 18)
  /-- SX_RESTART (R359). Stops and restarts the exchange with new fs and N, re-basing F. -/
  | sxRestart (i : Fin 18)
  /-- HUB_CFG (R359). Sets hub eligibility and priority. -/
  | hubCfg (i : Fin 18)
  /-- MAP_WRITE (R359). Writes words into the shadow map. -/
  | mapWrite (i : Fin 18)
  /-- MAP_READ (R359). Reads words of the shadow or active map. -/
  | mapRead (i : Fin 18)
  /-- TP_CFG (R359). Sets a tile port's receive and transmit channel counts. -/
  | tpCfg (i : Fin 18)
  /-- PLANE_SEL (R359). Sets the plane, comparison and automatic switching. -/
  | planeSel (i : Fin 18)
  /-- SPARE_CFG (R359). Names and enables the spare tile. -/
  | spareCfg (i : Fin 18)
  /-- ZONE_SET (R359). Assigns drive channels to a zone. -/
  | zoneSet (i : Fin 18)
  /-- ZONE_GET (R359). Returns a zone's drive channels. -/
  | zoneGet (i : Fin 18)
  /-- ZONE_GAIN (R359). Sets a zone's gain with a ramp. -/
  | zoneGain (i : Fin 18)
  /-- ZONE_MUTE (R359). Mutes or unmutes a zone. -/
  | zoneMute (i : Fin 18)
  /-- PAIR_SET (R359). Sets a drive channel's A/B partner configuration. -/
  | pairSet (i : Fin 18)
  /-- MSG_STORE (R231). Verifies and stores a signed message object. -/
  | msgStore (i : Fin 18)
  /-- MSG_DELETE (R359). Deletes a message object not named by a schedule entry. -/
  | msgDelete (i : Fin 18)
  /-- MSG_INFO (R359). Returns a message object's header. -/
  | msgInfo (i : Fin 18)
  /-- ANNOUNCE (R237). On the hub, adds a schedule entry and issues a new schedule. -/
  | announce (i : Fin 18)
  /-- CANCEL (R238). On the hub, marks an entry CANCELLED and issues a new schedule. -/
  | cancel (i : Fin 18)
  /-- SCHED_GET (R359). Reads the schedule copy. -/
  | schedGet (i : Fin 18)
  /-- FLOW_SET (R359). Writes a disabled flow context's fields. -/
  | flowSet (i : Fin 18)
  /-- FLOW_EN (R359). Enables or disables a flow context and reports its block tick. -/
  | flowEn (i : Fin 18)
  /-- FLOW_STAT (R359). Returns a flow context's status and counts. -/
  | flowStat (i : Fin 18)
  /-- PORT_CFG (R359). Sets an Ethernet port's rate, FEC, negotiation and delays. -/
  | portCfg (i : Fin 18)
  /-- RING_CFG (R359). Sets ring enables, PRP and isolation time. -/
  | ringCfg (i : Fin 18)
  /-- PTP_CFG (R359). Sets the time profile and domain. -/
  | ptpCfg (i : Fin 18)
  /-- GCL_SET (R359). Writes and activates a port's gate control list. -/
  | gclSet (i : Fin 18)
  /-- AN_LAW (R359). Sets the Anise level law, bands and verdict thresholds. -/
  | anLaw (i : Fin 18)
  /-- AN_CHAN (R359). Sets a drive channel's probe enable, level microphone and code. -/
  | anChan (i : Fin 18)
  /-- AN_RUN (R359). Starts or stops an Anise run with its options. -/
  | anRun (i : Fin 18)
  /-- AN_RESULT (R359). Returns Anise result summaries. -/
  | anResult (i : Fin 18)
  /-- AN_REF (R359). Loads Anise reference responses and summaries. -/
  | anRef (i : Fin 18)
  /-- SF_ZONE (R359). Configures a Saffron zone. -/
  | sfZone (i : Fin 18)
  /-- SF_LIMITS (R359). Sets a zone's trim limits and loop targets before commitment. -/
  | sfLimits (i : Fin 18)
  /-- SF_COMMIT (R222). Writes the limits and sets LIM_LOCK. -/
  | sfCommit (i : Fin 18)
  /-- SF_RESULT (R359). Returns a zone record header. -/
  | sfResult (i : Fin 18)
  /-- SF_LOOP (R222). Enables or disables the intelligibility loop after commitment. -/
  | sfLoop (i : Fin 18)
  /-- STORE_INFO (R359). Returns store capacity, free segments, messages and mirror state. -/
  | storeInfo (i : Fin 18)
  /-- REC_CFG (R359). Enables a recording stream with its ring size. -/
  | recCfg (i : Fin 18)
  /-- REC_PIN (R244). Pins the recording segments of a frame range. -/
  | recPin (i : Fin 18)
  /-- REC_UNPIN (R244). Unpins the recording segments of a frame range. -/
  | recUnpin (i : Fin 18)
  /-- REC_READ (R359). Reads recorded samples of a frame range. -/
  | recRead (i : Fin 18)
  /-- LOG_READ (R359). Reads archive or log records from a sequence number. -/
  | logRead (i : Fin 18)
  /-- REG_READ (R359). Reads control registers with the no-side-effect attribute. -/
  | regRead (i : Fin 18)
  /-- VT_XFER (R421). Exchanges a virtual terminal word with a core or Clove. -/
  | vtXfer (i : Fin 18)
  /-- NUTMEG_READ (R428). Reads Nutmeg records by slot. -/
  | nutmegRead (i : Fin 18)
  /-- HEALTH (R359). Returns the health status words and fault counts. -/
  | health (i : Fin 18)
  /-- ATTEST (R382). Returns a signed measurement report with the nonce. -/
  | attest (i : Fin 18)
  /-- IMAGE_UPLOAD (R380). Stages, verifies and writes a container into the target slot. -/
  | imageUpload (i : Fin 18)
  /-- DEBUG_CHALLENGE (R383). Returns a fresh 32-byte debug challenge. -/
  | debugChallenge (i : Fin 18)
  /-- DEBUG_RESPONSE (R383). Checks a signed debug response and opens a session. -/
  | debugResponse (i : Fin 18)
  /-- REMOTE_KEY (R359). Installs a key for remote Molalrik frames. -/
  | remoteKey (i : Fin 18)
  /-- REMOTE_CLEAR (R359). Removes a remote frame key. -/
  | remoteClear (i : Fin 18)
  /-- ALWAYS_ON_POWER_UP (R393). VDD_AON rises and everything, including the always-on domain, is reset. -/
  | alwaysOnPowerUp
  /-- POWER_ON_RESET (R393). VDD_CORE or VDD_IO rises, or a monitor falls, and every domain except always-on is reset. -/
  | powerOnReset
  /-- PIN_RESET (R393). RESET_N low for at least 1 µs resets as power-on but keeps SRAM and DDR5. -/
  | pinReset
  /-- WARM_RESET (R394). A watchdog, PM_RST_CTL.WARM, machine check, window expiry or PLL loss resets all but always-on state for 10 µs. -/
  | warmReset (soft : Bool)
  /-- TILE_RESET (R393). PM_RST_CTL.TILE resets a tile's cores, DMA, owners and lock, or is ignored while gated. -/
  | tileReset (ag : Agent) (t : Fin 12)
  /-- RESET_RELEASE (R394). A pin or power-on reset ends 100 µs after RESET_N is high and all supplies are good. -/
  | resetRelease
  /-- BOOT_START (R370). The boot ROM runs its steps, choosing and verifying a slot, loading images, or entering minimal mode. -/
  | bootStart (sfdp : Bool) (bad : List Nat)
  /-- START_WINDOW_EXPIRY (R376). The start window expires before BOOT_DONE and a warm reset follows with LAST = WINDOW. -/
  | startWindowExpiry
  /-- BOOT_DONE (R377). BT_CTL.BOOT_DONE ends the start, clears ATTEMPT and sets RUN. -/
  | bootDone (ag : Agent)
  /-- COMMIT_RB (R377). BT_CTL.COMMIT_RB blows OTP bits until RB_CTR equals the running container's ROLLBACK. -/
  | commitRb (ag : Agent)
  /-- XIP_WP (R370). BT_CTL.XIP_WP refuses program and erase in the execute-in-place region until a warm reset. -/
  | xipWp (ag : Agent)
  /-- MINIMAL_NOTICE (R381). Every 1 s in minimal mode ETH0 broadcasts the minimal-mode notice. -/
  | minimalNotice
  /-- SECURITY_JOB_START (R386). A write of SEC_PKE_JOB_HI or SEC_HASH_JOB_HI starts a job, or refuses a key-slot misuse. -/
  | securityJobStart (ag : Agent) (hash : Bool) (v : Word)
  /-- SECURITY_JOB_DONE (R386). A security engine job ends and DONE raises source 809 or 810. -/
  | securityJobDone (hash : Bool)
  /-- GLITCH_DETECT (R387). A supply or clock glitch sets SEC_ALARM, writes a Nutmeg record and clears key slots 2–15. -/
  | glitchDetect (clock : Bool)
  /-- DEBUG_AUTH_GO (R412). DBG_AUTH_CTL.GO starts checking the response in the response window. -/
  | debugAuthGo (ag : Agent) (len : Fin 262144)
  /-- DEBUG_AUTH_DONE (R412). The response check ends with OK, opening a session, or FAIL. -/
  | debugAuthDone
  /-- DEBUG_LOCKOUT_END (R383). 60 s after three refused responses, challenges are accepted again. -/
  | debugLockoutEnd
  /-- SESSION_LOCK (R384). SEC_DBG.LOCK ends the debug session. -/
  | sessionLock (ag : Agent)
  /-- REFCLK_LOSS (R390). A REFCLK gap of 65 detector cycles declares the reference lost and puts the PLLs in hold. -/
  | refclkLoss
  /-- HOLD_EXPIRY (R390). After 200 µs of hold the reference switches to the crystal, or the PLLs free-run. -/
  | holdExpiry
  /-- FALLBACK_LOCK (R390). Every PLL locks after a reference switch, FALLBACK sets and source 648 is raised. -/
  | fallbackLock
  /-- XTAL_READY (R391). After 5 ms of the crystal within tolerance, XTAL_OK reads 1. -/
  | xtalReady
  /-- REF_OK (R391). A returned REFCLK stable for 10 ms sets REF_OK, and with AUTO_RETURN the device switches back. -/
  | refOk
  /-- RETURN (R391). CK_CTL.RETURN switches back to REFCLK when REF_OK is set. -/
  | ckReturn (ag : Agent)
  /-- PLL_LOCK_LOSS (R392). A PLL loses lock with its input present; a core or memory PLL loss causes a warm reset. -/
  | pllLockLoss (p : Fin 4)
  /-- CLOCK_GATE_WRITE (R389). A write of CK_GATE_LO or HI stops or restarts clock domains at their next low phase. -/
  | clockGateWrite (ag : Agent) (hi : Bool) (v : Word)
  /-- TILE_GATE_WRITE (R398). A write of PM_TILE_CTL.GATE gates or ungates a tile, or is refused with GATE_BUSY. -/
  | tileGateWrite (ag : Agent) (v : Word)
  /-- TILE_POWER_OFF (R398). Within 10 µs of an accepted gate the tile domain is off. -/
  | tilePowerOff (t : Fin 12)
  /-- TILE_POWER_ON (R398). Within 20 µs of ungating the tile is powered, TILE_ON reads 1 and cores resume or reset. -/
  | tilePowerOn (t : Fin 12)
  /-- STBY (R400). PM_CTL.STBY enters Standby, or is refused with STBY_BUSY. -/
  | stby (ag : Agent)
  /-- STANDBY_ENTERED (R400). The Standby entry steps finish and STANDBY reads 1. -/
  | standbyEntered
  /-- WAKE (R401). PM_CTL.WAKE or a WAKE edge source requests leaving Standby. -/
  | wake (ag : Agent)
  /-- STANDBY_EXITED (R401). Clocks and DDR5 are back and STANDBY clears. -/
  | standbyExited
  /-- WD_DEV_KICK (R404). A write of WD_DEV_KICK kicks the device watchdog, or expires it if wrong or early. -/
  | wdDevKick (ag : Agent) (v : Word)
  /-- WD_CV_KICK (R402). A write of WD_CV_KICK kicks the Clove watchdog, or expires it if wrong. -/
  | wdCvKick (ag : Agent) (v : Word)
  /-- WD_DEV_ARM (R404). WD_DEV_CTL.EN arms the device watchdog. -/
  | wdDevArm (ag : Agent)
  /-- DEVICE_WATCHDOG_WARNING (R402). WARN ms before expiry the device watchdog raises source 645. -/
  | deviceWatchdogWarning
  /-- DEVICE_WATCHDOG_EXPIRY (R404). The device watchdog expires, pulsing WDO_N, writing Nutmeg and causing a warm reset. -/
  | deviceWatchdogExpiry
  /-- CLOVE_WATCHDOG_WARNING (R402). At half period the Clove watchdog raises source 646. -/
  | cloveWatchdogWarning
  /-- CLOVE_WATCHDOG_EXPIRY (R402). At the full period the Clove watchdog causes a warm reset. -/
  | cloveWatchdogExpiry
  /-- CORE_WATCHDOG_EXPIRY (R403). LIMIT block ticks without a release set EXPIRED and raise the core watchdog source. -/
  | coreWatchdogExpiry (n : Fin 48)
  /-- DDR_CHANNEL_LOST (R408). A failed re-training or 16 consecutive uncorrectable errors mark a DDR5 channel lost and start failover. -/
  | ddrChannelLost (c : Fin 2)
  /-- DDR_REDIRECT_DONE (R432). The controller's map change ends, REDIR sets and DDR5 accesses resume. -/
  | ddrRedirectDone (c : Fin 2)
  /-- SUPPLY_MONITOR_FALL (R454). A supply crosses its falling threshold and its outcome takes effect within 1 µs. -/
  | supplyMonitorFall (k : Fin 8)
  /-- DAP_ACCESS (R410). At Update-DR the debug port issues one 32-bit fabric access, checked against R411 and R413. -/
  | dapAccess (a : Fin 1099511627776) (v : Word) (write : Bool) (nse : Bool)
  /-- FREEZE (R416). DBG_SC_n_CTL.FREEZE requests a freeze at the next issue boundary. -/
  | freeze (n : Fin 48)
  /-- FREEZE_TAKEN (R416). The core enters FROZEN with its issued accesses completed and results held in flight. -/
  | freezeTaken (n : Fin 48)
  /-- FREEZE_LOCK_BREAK (R418). 64 cycles after a deferred freeze request the lock is broken and the freeze taken. -/
  | freezeLockBreak (n : Fin 48)
  /-- BSTEP (R417). DBG_SC_n_CTL.BSTEP issues one bundle from FROZEN and freezes again. -/
  | bstep (n : Fin 48)
  /-- CLOVE_DEBUG_HALT (R420). DBG_CV_CTL.HALT stops Clove at the next instruction boundary. -/
  | cloveDebugHalt (ag : Agent)
  /-- CLOVE_DEBUG_STEP (R420). DBG_CV_CTL.STEP runs one Clove instruction from HALTED. -/
  | cloveDebugStep (ag : Agent)
  /-- RESUME (R420). DBG_CV_CTL.RESUME continues Clove. -/
  | resume (ag : Agent)
  /-- SUMAC_DEBUG_STEP (R420). DBG_SU_STEP runs one instruction of a halted Sumac processor. -/
  | sumacDebugStep (ag : Agent) (p : Fin 96)
  /-- VT_OUT_READ (R421). A read of DBG_VT_t_OUT returns the word and clears OUT_FULL. -/
  | vtOutRead (t : Fin 49)
  /-- VT_IN_WRITE (R421). A write of DBG_VT_t_IN stores the word and sets IN_FULL, or sets IN_OVF. -/
  | vtInWrite (ag : Agent) (t : Fin 49) (v : Word)
  /-- WIN_SEL_WRITE (R422). A write of DBG_WIN_SEL starts a coherent capture of the selected state. -/
  | winSelWrite (ag : Agent) (v : Word)
  /-- WINDOW_CAPTURE_DONE (R422). Within 64 fabric cycles the capture completes and READY reads 1. -/
  | windowCaptureDone
  /-- WINDOW_WRITE (R424). A window write changes a halted unit's state, or is discarded with WIN_RO. -/
  | windowWrite (ag : Agent) (w : Fin 1024) (v : Word)
  /-- NUTMEG_RECORD (R426). A hardware event or a write of BB_WR_HDR commits a Nutmeg record; a fatal record may trigger. -/
  | nutmegRecord (ag : Agent) (v : Word)
  /-- NUTMEG_FREEZE (R427). POST records after the trigger, Nutmeg freezes and raises source 808. -/
  | nutmegFreeze
  /-- REARM (R427). BB_CTL.REARM clears FROZEN and sets ARMED. -/
  | rearm (ag : Agent)
  /-- OUTBOUND_TIMEOUT (R447). A PCIe outbound access without completion within 50 ms receives an error response. -/
  | outboundTimeout (ag : Agent) (a : Fin 1099511627776) (write : Bool)
  /-- RC_READ (R11). A read of an RC register returns its value and clears it. -/
  | rcRead (ag : Agent) (a : Fin 1099511627776)
  /-- LO_HALF_READ (R11). A read of a LO register of a 64-bit pair captures the upper half for the HI read. -/
  | loHalfRead (ag : Agent) (k : Fin 4)
  /-- REGISTER_WRITE (R11). A write to a register without a row of its own acts on its fields by access type. -/
  | registerWrite (ag : Agent) (a : Fin 1099511627776) (v : Word)
  /-- SUPPLY_MONITOR_RISE (R454). A supply such as VDD_LINK, VDDA_LINK or VDDQ_DDR crosses its rising threshold, and the outcome that held while it was below ends. -/
  | supplyMonitorRise (k : Fin 8)
  /-- PLL_LOCK_RETURN (R392). A PLL that lost lock regains it, so its CK_STAT.LOCKED bit returns to 1 and, for the media PLL, NET_PTP_STAT.LOCKED may read 1 again. -/
  | pllLockReturn (p : Fin 4)
  /-- REFCLK_RETURN (R390). REFCLK edges resume while the PLLs are in hold or free-running on REFCLK, and the PLLs leave hold on the reference. -/
  | refclkReturn
  /-- IO_UNIT_READY (R315). The ready line of a Sumac processor's assigned I/O unit asserts and sets event bit 4 of its EVFLAG. -/
  | ioUnitReady (p : Fin 96)
  /-- WDO_PULSE_END (R404). PULSE milliseconds after a device watchdog expiry, WDO_N is released. -/
  | wdoPulseEnd
  /-- PCIE_LINK_UP (R456). A PCIe link of HPE, NVA or NVB finishes training, for example after PERST_N is released, and its LINK status reads 1. -/
  | pcieLinkUp (l : Fin 3)
  /-- PCIE_LINK_DOWN (R447). A PCIe link of HPE, NVA or NVB goes down, or PERST_N is asserted, so outbound windows give error responses and the drive becomes unreachable. -/
  | pcieLinkDown (l : Fin 3)
  /-- HOST_POWER_STATE_CHANGE (R290). The host moves the HPE endpoint into or out of D3hot, or its link into or out of L2, which makes target 49 asleep or awake. -/
  | hostPowerStateChange (d3 : Bool) (l2 : Bool)
  /-- TAP_INSTRUCTION_UPDATE (R409). At Update-IR the test access port loads an instruction such as EXTEST, CLAMP, HIGHZ or BYPASS, subject to the permissions of R409. -/
  | tapInstructionUpdate (ir : Fin 256)
  /-- GATE_INTERVAL_END (R165). The interval of a gate control list entry ends inside a cycle, and the gate states of the next entry take effect. -/
  | gateIntervalEnd (p : Fin 4)
  /-- FLT_INPUT_HIGH (R149). DRV_FLT_N_g returns high, FLT_IN reads 0, and a later write to FLT_LATCHED can clear the latch. -/
  | fltInputHigh (g : Fin 8)
  deriving DecidableEq, Repr

end Sys2Proof
end

