-- ==== Sys2Proof/Config.lean ====
section
/-! DEFINITION. What an implementation fixes and the spec leaves open: the free values. Each is a
constant without a body that no proof can evaluate; a statement holds whatever it is. -/

namespace Sys2Proof.Config

/-- The values the spec leaves open, one name each (notes/assumptions/2.md lists them with their rules). -/
inductive FreeKind where
  /-- R137(3), R137(6): interpolator and noise-shaper outputs, whose coefficients are not given. -/
  | modulator
  /-- R142: the 2 Hz high-pass of the sense path, given by class only. -/
  | dcBlock
  /-- R144, R146: rounding of the correction loop and of the estimates. -/
  | loopError
  | estimate
  /-- R187, R190 to R194, R196, R199 to R204: probe, levels and results of Anise. -/
  | probe
  | anLevel
  | anResult
  /-- R209 to R221: envelopes and results of Saffron. -/
  | sfResult
  /-- R232, R243: player interpolation and recorder decimation, whose taps are not given. -/
  | player
  | recorder
  /-- R246: HEAD and TAIL of a queue whose COUNT is 0. -/
  | queueEnds
  /-- R383: a drawn challenge. -/
  | challenge
  /-- R317, R393: control store and decode table words that nothing has written. -/
  | powerUp
  /-- R299, R327: words of the mask ROM and of the microcode ROM, which the spec does not list. -/
  | rom
  /-- Results the spec does not state for some operands of a command. -/
  | unstated
  deriving DecidableEq, Repr

/-- The free value of kind `k` at count `n` (64 bits, of which the user takes what it needs). -/
opaque freeValue (k : FreeKind) (n : Nat) : BitVec 64

/-- R365, R366: whether a signature over some bytes verifies under some key: the algorithms' results
are not written out in the spec, so the answer is a free function of the bytes. -/
opaque verifies (key data sig : List Byte) : Bool

/-- R364, R367, R372, R386: the digest, cipher and signature functions the spec takes from outside
standards, as free functions from bytes to bytes. -/
opaque digest (alg : Nat) (data : List Byte) : List Byte
opaque cipher (alg : Nat) (key nonce data : List Byte) : List Byte

/-- R199: lag `lag` of the impulse response that a correlation gives, as binary32. The filters, the mean gains
and the rounding are not given; `salt` stands for what else it depends on. -/
opaque response (r : List Int) (salt lag : Nat) : BitVec 32

/-- R215, R216: a band's MTI (kind 0), a microphone's STI (1), its Γ (2) and its confidence (3) from the values they
are formed from: logarithms, roots and means whose arithmetic is not given. -/
opaque intelligibility (kind : Nat) (xs : List Nat) : BitVec 64

/-- R312: how TRAP_CAUSE of Clove holds the code, STATUS.IE and the immediate of TRAP, whose places are not given. -/
opaque trapCause (code ie arg : Nat) : BitVec 16

end Sys2Proof.Config
end

