-- ==== Sys2Proof/Machine/State.lean ====
section
/-! DEFINITION. The state of the block: everything the spec gives it, as plain data, and its state
after reset.
Choices and readings: log entries 4, 5, 6 and 62. -/

namespace Sys2Proof.Machine

/-- A register field: its low bit and its width. -/
structure Fld where
  lo : Nat
  w : Nat
  deriving DecidableEq, Repr

/-- The access types of R11; reserved fields are not listed. -/
inductive Acc where
  | ro | rw | wo | w1s | w1c | rc
  deriving DecidableEq, Repr

/-- One run of bits of a register with one access type. -/
structure FieldRow where
  lo : Nat
  w : Nat
  acc : Acc
  deriving DecidableEq, Repr

/-- One row of the register table: base address, (count, stride) of each index, reset value with
its dependence on the indices, and the fields. -/
structure RegRow where
  base : Nat
  dims : List (Nat × Nat)
  reset : Nat
  coef : List Nat
  fields : List FieldRow
  deriving DecidableEq, Repr

/-- Why a step can stop with a fault. -/
inductive Fault where
  /-- No meaning of this model raises it. Safe. -/
  | never
  deriving DecidableEq, Repr

/-- Why a command is refused. -/
inductive Refusal where
  /-- The dispatch arm of a command whose meaning is not written yet. Safe. -/
  | notModelled (mnemonic : String)
  deriving DecidableEq, Repr

/-- The Sample Exchange beyond its registers (chapter 01). -/
structure Sx where
  /-- A frame tick with F mod N = 0 has come and its block tick has not (R20). -/
  blockDue : Bool
  prodShadow : List (Nat × Word)
  prodActive : List (Nat × Word)
  consShadow : List (Nat × Word)
  consActive : List (Nat × Word)
  /-- Which half of every tile port belongs to the tile (R29). -/
  half : Nat
  /-- Logical ports whose transmit half is sent in this block (R32). -/
  sending : List Nat
  /-- Logical ports whose PHYS was written since the last block tick (R41). -/
  remapReq : List Nat
  /-- SEL was written in this frame (R38). -/
  selWritten : Bool
  /-- Plane and slot of an injection for the next frame and for this frame (R39). -/
  injNext : Option (Nat × Nat)
  injNow : Option (Nat × Nat)
  /-- First frame at which automatic switching is no longer held off (R37). -/
  holdEnd : Nat
  /-- The producer latch array: the words presented in the last frame (R39). -/
  latch : List (Nat × Word)
  /-- Words on their way to the drive and recorder ports, one list for each of the last 2N frames, newest first, by word of
  the consumer regions (R35). -/
  history : List (List (Nat × Word))
  deriving DecidableEq, Repr

/-- A result in flight (R58, R423): `dest` is a register field of R85, 0x100 + a for accumulator a,
0x110 + r for control register r, or 0x3FF for flags alone. It lands in issue cycle `due`. -/
structure Flight where
  due : Nat
  iss : Nat
  slot : Nat
  dest : Nat
  val : Nat
  /-- Bits of SC_STATUS raised at the landing (R115). -/
  sflags : Nat
  /-- Flags of FPCTL raised at the landing: NV, DZ, OF, UF, NX from bit 0 (R111). -/
  fflags : Nat
  /-- Local address of a load, and whether its private data were uncorrectable (R53, R79). -/
  addr : Option Nat
  bad : Bool
  /-- The issuing bundle. -/
  pc : Nat
  deriving DecidableEq, Repr

/-- A store in flight: seen by loads issued in cycle `due` and later (R59). -/
structure StoreFlight where
  due : Nat
  slot : Nat
  addr : Nat
  data : List Byte
  deriving DecidableEq, Repr

/-- An access to an interlocked region that has not completed (R51). -/
structure HeldAccess where
  slot : Nat
  write : Bool
  addr : Nat
  size : Nat
  data : List Byte
  /-- Destination register, sign extension and issue cycle of a load. -/
  dest : Nat
  signed : Bool
  iss : Nat
  pc : Nat
  deriving DecidableEq, Repr

/-- A branch whose delay bundles run: how many are left, where it goes, and whether it is RETI (R64, R72). -/
structure Branch where
  left : Nat
  target : Option Nat
  reti : Bool
  deriving DecidableEq, Repr

/-- Why nothing issues for a while: an entry, a halt, a fault or a return in progress (R71, R72, R78, R79). -/
inductive Gap where
  | none
  | entry (vec : Nat) (wait : Nat)
  | halt (wait : Nat)
  | fault (cause slot pc addr : Nat)
  | reti
  deriving DecidableEq, Repr

/-- One signal core (chapter 02). -/
structure Core where
  /-- STATE of SC_n_STATE. -/
  st : Nat
  /-- Next bundle to issue; 4,096 after the last one. -/
  pc : Nat
  /-- D, P, K, C1 to C7, accumulators and control registers, by the numbers of R423. -/
  r : List (Nat × Nat)
  /-- Issue cycles since the core reset, and held or waited cycles besides them. -/
  cyc : Nat
  idle : Nat
  flight : List Flight
  stores : List StoreFlight
  /-- First issue cycle at which AL1 is free of a divide (R62). -/
  divFree : Nat
  /-- Iterations of the bundle at `pc` still to issue (R67); 0 when no repeat runs. -/
  repLeft : Nat
  /-- The repeated bundle has issued at least once. -/
  repRun : Bool
  br : Option Branch
  gap : Gap
  /-- Issue cycle in which the gap ends. -/
  gapEnd : Nat
  hold : List HeldAccess
  /-- The core is held at a LOCK bundle (R127). -/
  waitLock : Bool
  /-- Bundles issued since LOCK, and whether the eighth has passed unclosed. -/
  lockCnt : Nat
  breakDue : Bool
  haltReq : Bool
  /-- Wait state in which the core was halted, or that a handler was entered from: 3, 4, or 0. -/
  haltWait : Nat
  wstate : Nat
  /-- In a handler entered from BLOCK_WAIT (R76). -/
  fromWait : Bool
  relPend : Bool
  relBlk : Nat
  /-- Bundles issued since the last acceptance opportunity (R69). -/
  oppGap : Nat
  /-- Cycle count at the last release (SC_n_BLKCYC). -/
  relCyc : Nat
  freezeReq : Bool
  /-- A bundle step is under way (R417). -/
  stepping : Bool
  /-- State from which the core was frozen (R419). -/
  frozenFrom : Nat
  deriving DecidableEq, Repr

def Core.reset : Core :=
  { st := 0, pc := 0, r := [], cyc := 0, idle := 0, flight := [], stores := [], divFree := 0,
    repLeft := 0, repRun := false, br := none, gap := .none, gapEnd := 0, hold := [], waitLock := false,
    lockCnt := 0, breakDue := false, haltReq := false, haltWait := 0, wstate := 0, fromWait := false,
    relPend := false, relBlk := 0, oppGap := 0, relCyc := 0, freezeReq := false, stepping := false, frozenFrom := 0 }

/-- A drive channel beyond its registers (chapter 05). -/
structure Drv where
  /-- Samples collected in this block, oldest first; samples latched at the last block tick with the
  probe added; and the block as it goes to the interpolator (R137 steps 1 and 2). -/
  coll : List Word
  lat : List Word
  out : List Word
  /-- Output of the correction loop in units of FS/2^31, its last errors and its last outputs (R144). -/
  corr : Int
  errs : List Int
  ys : List Int
  /-- Consecutive updates with an error beyond ERR_LIM (R145). -/
  errCnt : Nat
  /-- Edge position of the last update (R138). -/
  edge : Nat
  /-- The open condition (R148). -/
  openCond : Bool
  /-- A trigger of R152 holds the channel's partner. -/
  wanted : Bool
  /-- Frames averaged by a calibration, and the two sums in units of FS/2^31 (R153). -/
  calFrames : Nat
  sumV : Int
  sumI : Int
  deriving DecidableEq, Repr

def Drv.reset : Drv :=
  { coll := [], lat := [], out := [], corr := 0, errs := [], ys := [], errCnt := 0, edge := 8000, openCond := false,
    wanted := false, calFrames := 0, sumV := 0, sumI := 0 }

/-- A sequence-number window of one source (R159): the newest number, and those seen per ring. -/
structure DdEntry where
  top : Nat
  seen : List (Nat × Nat)
  deriving DecidableEq, Repr

/-- A copy of a frame for a port, with the path identifier of its HSR tag (R157). -/
structure OutFrame where
  port : Nat
  path : Nat
  frame : EthFrame
  deriving DecidableEq, Repr

/-- Another device's last hub announce (R181): its role is 0 none, 1 standby, 2 hub. -/
structure Peer where
  prio : Nat
  role : Nat
  epoch : Nat
  deriving DecidableEq, Repr

/-- A port's active gate list: LEN, CYCLE, and the entry in effect with its position in the cycle (R165). -/
structure Gcl where
  len : Nat
  cyc : Nat
  idx : Nat
  pos : Nat
  deriving DecidableEq, Repr

def Gcl.reset : Gcl := { len := 0, cyc := 0, idx := 0, pos := 0 }

/-- The network side beyond its registers (chapter 06). -/
structure Net where
  /-- Duplicate table, by source address. -/
  dd : List (Nat × DdEntry)
  /-- Next HSR sequence number of the device. -/
  hsrSeq : Nat
  /-- Frames to forward that have not started, oldest first (R158). -/
  fwd : List OutFrame
  /-- Frames of the device that wait for an open gate, oldest first (R165). -/
  held : List OutFrame
  /-- Frames that the last sending command put on the ports. -/
  sent : List OutFrame
  /-- Consecutive sync messages with an offset within 100 ns, up to 8. -/
  syncGood : Nat
  gcl : List (Nat × Gcl)
  /-- Devices heard in supervision frames (R160). -/
  nodes : List Nat
  hubEligible : Bool
  hubPrio : Nat
  hubRole : Nat
  hubEpoch : Nat
  maxEpoch : Nat
  peers : List (Nat × Peer)
  deriving DecidableEq, Repr

def Net.reset : Net :=
  { dd := [], hsrSeq := 0, fwd := [], held := [], sent := [], syncGood := 0, gcl := [], nodes := [],
    hubEligible := false, hubPrio := 0, hubRole := 0, hubEpoch := 0, maxEpoch := 0, peers := [] }

/-- A flow context beyond its registers. -/
structure Flow where
  /-- In effect since a block tick; EN = 0 was written since (R170). -/
  on : Bool
  stop : Bool
  /-- Highest received frame plus 1 (R175). -/
  hi : Nat
  /-- A sequence number has been received (R179). -/
  seqSeen : Bool
  /-- Presence bits that are set, by F mod DEPTH (R239). -/
  present : List Nat
  /-- Consumed samples by frame, newest first, and the first frame of the last packet launched (R171). -/
  tx : List (Nat × List Word)
  launched : Option Nat
  deriving DecidableEq, Repr

def Flow.reset : Flow :=
  { on := false, stop := false, hi := 0, seqSeen := false, present := [], tx := [], launched := none }

/-- Configuration of a player channel in effect since a block tick (R234). -/
structure PlCfg where
  start : Nat
  period : Nat
  repeats : Nat
  buf : Nat
  deriving DecidableEq, Repr

/-- A recording stream (R243): samples in the filling half, the frame of its first one, and the
first frame of the other half while that is not yet written. -/
structure Recorder where
  pos : Nat
  first : Nat
  other : Option Nat
  /-- Samples discarded since the last written half. -/
  lost : Nat
  deriving DecidableEq, Repr

/-- The header of a store segment (R228). -/
structure Seg where
  area : Nat
  flags : Nat
  owner : Nat
  object : Nat
  seq : Nat
  first : Nat
  count : Nat
  prev : Nat
  deriving DecidableEq, Repr

def Seg.free : Seg := { area := 0, flags := 0, owner := 0, object := 0, seq := 0, first := 0, count := 0, prev := 0 }

/-- A segment write that is under way (R225): completions awaited from each drive, the data's address,
and the recording stream whose half it is. -/
structure StoreOp where
  seg : Nat
  hdr : Seg
  src : Nat
  stream : Option Nat
  leftA : Nat
  leftB : Nat
  deriving DecidableEq, Repr

/-- The message store beyond its registers (chapter 09). -/
structure Store where
  plCfg : List (Nat × PlCfg)
  /-- Play number plus 1 that ended with an image error, by player channel. -/
  plDead : List (Nat × Nat)
  /-- Player samples by frame, for frames F to F + 2. -/
  playOut : List (Nat × List (Nat × Word))
  recs : List (Nat × Recorder)
  /-- Segments of the store, their headers and the next SEQ. -/
  total : Nat
  segs : List (Nat × Seg)
  seq : Nat
  ops : List StoreOp
  /-- Port of the drive whose failed read is being retried on the other (R225). -/
  retry : Option Nat
  deriving DecidableEq, Repr

def Store.reset : Store :=
  { plCfg := [], plDead := [], playOut := [], recs := [], total := 0, segs := [], seq := 0, ops := [], retry := none }

/-- What a run of Anise takes at its start, and what happens to it (R195 to R198). -/
structure AnRun where
  num : Nat
  first : Nat
  periods : Nat
  /-- Enabled drive channels, enabled sense inputs, and enabled microphones with LAG0. -/
  drvs : List Nat
  sns : List Nat
  mics : List (Nat × Nat)
  lmic : List (Nat × Nat)
  codes : List (Nat × Nat)
  mem : Nat
  notDriven : List Nat
  ovl : List Nat
  clip : List Nat
  quiet : Bool
  modeChg : Bool
  truncated : Bool
  refcap : Bool
  /-- Sums of R196 in units of FS/2^31, by 4096 p + lag from the window's first. -/
  acc : List (Nat × Int)
  deriving DecidableEq, Repr

/-- Anise beyond its registers (chapter 07). Levels are in units of 1/19,200 dB. -/
structure Anise where
  /-- MODE, AN_LAW, AN_LAW2 and AN_BANDS in effect (R194). -/
  mode : Nat
  law : Word
  law2 : Word
  bands : Word
  /-- M_b by 31 n + b; P_b of the bands with a gain, for the next block and for this one. -/
  mask : List (Nat × Int)
  gain : List (Nat × Int)
  gainNow : List (Nat × Int)
  /-- Frame at which START landed; STOP was written. -/
  startAt : Nat
  stopReq : Bool
  /-- Codes in use, and AN_MEM as the last run took it. -/
  codes : List (Nat × Nat)
  mem : Nat
  /-- Frame plus 1 since which every block of a channel carried its probe (R197). -/
  good : List (Nat × Nat)
  runNum : Nat
  run : Option AnRun
  /-- The run whose results are being processed. -/
  proc : Option AnRun
  /-- Sums of squares of the tap channels in this block. -/
  tapSq : List (Nat × Nat)
  /-- Channels that clipped and inputs that overloaded since the run began. -/
  clips : List Nat
  ovls : List Nat
  deriving DecidableEq, Repr

def Anise.reset : Anise :=
  { mode := 0, law := 0x92E22818, law2 := 0xC41E, bands := 0x7FFFFFFF, mask := [], gain := [], gainNow := [],
    startAt := 0, stopReq := false, codes := [], mem := 0, good := [], runNum := 0, run := none, proc := none,
    tapSq := [], clips := [], ovls := [] }

/-- The averages of one band of a microphone (R211, R213): m, reference modulation index and coherence
of each modulation frequency, as binary32. -/
structure SfBand where
  vals : List (Nat × Nat × Nat)
  deriving DecidableEq, Repr

/-- Saffron beyond its registers (chapter 08). -/
structure Saffron where
  /-- SF_Z_z_CFG and SF_Z_z_DLY in effect (R208). -/
  cfg : List (Nat × (Word × Word))
  /-- Windows taken since the last clearing. -/
  win : List (Nat × Nat)
  /-- Averages by 32 z + 8 m + k; unlisted before the first window taken. -/
  avg : List (Nat × SfBand)
  /-- Tap channels that were not 0 (1) and that reached ±FS (2), in this quarter second and the last four. -/
  tap : List (Nat × Nat)
  past : List (List (Nat × Nat))
  /-- Zones whose last window took no band, and microphones (4 z + m) with OVL in it. -/
  held : List Nat
  ovl : List Nat
  /-- Frame of the update whose results are not yet written; the number of updates. -/
  pend : Option Nat
  seq : Nat
  deriving DecidableEq, Repr

def Saffron.reset : Saffron :=
  { cfg := [], win := [], avg := [], tap := [], past := [], held := [], ovl := [], pend := none, seq := 0 }

/-- A queue descriptor (R246) as the head cache holds it: changed since it was fetched, and the count of its last use. -/
structure Desc where
  head : Nat
  tail : Nat
  count : Nat
  owner : Nat
  pin : Bool
  limit : Nat
  dirty : Bool
  age : Nat
  deriving DecidableEq, Repr

/-- A doorbell operation that waits for a descriptor (R255). -/
structure QmWait where
  ag : Agent
  op : Nat
  q : Nat
  data : Nat
  deriving DecidableEq, Repr

/-- The queue manager beyond its registers (chapter 10). -/
structure Qm where
  cache : List (Nat × Desc)
  /-- Uses of the cache so far: the order of least recent use. -/
  uses : Nat
  /-- The non-empty map (R249). -/
  nonEmpty : List (Nat × Bool)
  /-- First element of the free pool. -/
  freeHead : Nat
  waiting : List QmWait
  /-- Result word of the last doorbell operation of each fabric port. -/
  results : List (Nat × Nat)
  deriving DecidableEq, Repr

def Qm.reset : Qm := { cache := [], uses := 0, nonEmpty := [], freeHead := 0, waiting := [], results := [] }

/-- A DMA channel beyond its registers (chapter 11). -/
structure DmaCh where
  /-- The active set (R271), and elements moved of it. -/
  w : List Nat
  moved : Nat
  /-- STOP is pending; a burst of this descriptor was refused by a bank. -/
  stop : Bool
  refused : Bool
  /-- Address of the descriptor being fetched; the fetch re-reads a completed one (R273). -/
  fetch : Nat
  reread : Bool
  /-- Lost arbitrations (R279). -/
  loss : Nat
  deriving DecidableEq, Repr

def DmaCh.reset : DmaCh := { w := [], moved := 0, stop := false, refused := false, fetch := 0, reread := false, loss := 0 }

/-- What a window access of Clove or a Sumac processor does when it completes (R303, R304). -/
inductive WinUse where
  | ld
  | ldInc
  | st
  | stInc
  | micro
  deriving DecidableEq, Repr

/-- A fabric access that holds a stack processor: the word's address and data, the part moved, and the
address of the next instruction. -/
structure WinAcc where
  write : Bool
  addr : Nat
  data : Nat
  part : Nat
  use : WinUse
  next : Nat
  deriving DecidableEq, Repr

/-- A microcode run in progress (R330 to R336). -/
structure Micro where
  upc : Nat
  cnt : Nat
  mdr : Nat
  /-- Micro-return stack, top first. -/
  urs : List Nat
  /-- The microword at `upc` waits; the previous ALU result was 0; the last MEM access has completed, with an error. -/
  waiting : Bool
  zero : Bool
  rdy : Bool
  ferr : Bool
  op : Nat
  imm : Nat
  /-- The stacks at the instruction's dispatch (R335), its address, and the IE bit of the last entry popped. -/
  os0 : List Nat
  rs0 : List (Nat × Nat)
  pc0 : Nat
  popIe : Nat
  /-- A stack was written (R320). -/
  wrote : Bool
  deriving DecidableEq, Repr

/-- Clove or a Sumac processor beyond its registers (chapters 13 and 14). -/
structure Cpu where
  /-- Operand cells and return entries (address, IE), top first. -/
  os : List Nat
  rs : List (Nat × Nat)
  /-- STATUS, and the other special registers that hold a value, by number. -/
  status : Nat
  spr : List (Nat × Nat)
  /-- Address of the next instruction. -/
  pc : Nat
  /-- Clove's cycle count and the captured CYC_HI. -/
  cyc : Nat
  cycHi : Nat
  win : Option WinAcc
  /-- The bridge: the word whose parts are held with those parts, and the latched word (R303). -/
  held : Nat
  parts : List (Nat × Nat)
  latch : Option (Nat × Nat)
  haltReq : Bool
  /-- One instruction runs for a debugger's step (R420). -/
  stepping : Bool
  /-- The immediate of the WAITEV in progress. -/
  waitEv : Option Nat
  u : Option Micro
  deriving DecidableEq, Repr

def Cpu.reset : Cpu :=
  { os := [], rs := [], status := 0, spr := [], pc := 0, cyc := 0, cycHi := 0, win := none, held := 0, parts := [],
    latch := none, haltReq := false, stepping := false, waitEv := none, u := none }

/-- An execute-in-place miss that holds Clove (R323): the line, and the instruction that goes on after the fill (opcode
256: the fetch of a debugger's step is made again); `micro` says that a microword read the address `imm`. -/
structure XipWait where
  line : Nat
  op : Nat
  imm : Nat
  micro : Bool
  deriving DecidableEq, Repr

/-- What Clove, the Sumac clusters and the control stores share (chapters 13 and 14). -/
structure Ctl where
  /-- Control store groups and decode table entries with their parity bit as bit 32, by the numbers of Micro.lean. -/
  ucode : List (Nat × Nat)
  /-- Clove banks that hold the image of the microcode ROM except where `ucode` lists a word. -/
  romBanks : List Nat
  /-- Times of the lockstep retries of the last second (R322), an injection that waits (CV_LS_INJ), and the cause of a
  machine check that stopped the pair (R426). -/
  retries : List Nat
  inject : Bool
  mchk : Nat
  /-- Cached lines by 4 set + way: line number plus 1, and its words. -/
  xip : List (Nat × (Nat × List Nat))
  xipWait : Option XipWait
  deriving DecidableEq, Repr

def Ctl.reset : Ctl :=
  { ucode := [], romBanks := [], retries := [], inject := false, mchk := 0, xip := [], xipWait := none }

/-- The black box beyond its registers (R425, R427): records to write before it freezes, and whether the clock has been
locked since always-on power-up. -/
structure Bb where
  post : Option Nat
  locked : Bool
  deriving DecidableEq, Repr

def Bb.reset : Bb := { post := none, locked := false }

/-- One-time programmable bits (R366, R373, R376, R385): the root key hashes and the device-unique secret as bytes. -/
structure Otp where
  lcs : Nat
  serial : Nat
  root0 : List Byte
  root1 : List Byte
  root0Revoked : Bool
  root1Revoked : Bool
  root1Set : Bool
  /-- Rollback bits blown: RB_CTR. -/
  rollback : Nat
  /-- BOOT_LIMIT and START_WIN; 0 unprogrammed. -/
  bootLimit : Nat
  startWin : Nat
  secret : List Byte
  deriving DecidableEq, Repr

def Otp.reset : Otp :=
  { lcs := 0, serial := 0, root0 := [], root1 := [], root0Revoked := false, root1Revoked := false, root1Set := false,
    rollback := 0, bootLimit := 0, startWin := 0, secret := [] }

/-- Security beyond its registers (R383 to R386). -/
structure Sec where
  /-- Key slots that hold a key. -/
  keys : List (Nat × List Byte)
  /-- Time at which the current challenge was drawn, while it is unused. -/
  chalTime : Option Nat
  /-- Refused responses in a row; challenges are refused. -/
  refused : Nat
  lockout : Bool
  /-- Permissions granted since the last warm or wider reset, ORed. -/
  granted : Nat
  /-- A response check is running: the length written with GO. -/
  checking : Option Nat
  deriving DecidableEq, Repr

def Sec.reset : Sec := { keys := [], chalTime := none, refused := 0, lockout := false, granted := 0, checking := none }

/-- Power, clocks, watchdogs, pins and the debug port beyond their registers. -/
structure Dev where
  /-- Supplies below their threshold, in the order of R452 (0 VDD_CORE to 7 VDDQ_DDR); a crystal is fitted. -/
  low : List Nat
  xtal : Bool
  /-- REFCLK edges arrive; time of the last declaration of a loss. -/
  refPresent : Bool
  /-- A switch of the reference is under way (R390, R391). -/
  switching : Bool
  /-- Tiles whose power changes: 1 going off, 2 coming on (R398). -/
  tilePend : List (Nat × Nat)
  /-- 0 awake, 1 entering Standby, 2 in Standby, 3 leaving; a wake request that landed during entry. -/
  stby : Nat
  wakeLater : Bool
  /-- The start window runs (R376); the device watchdog's and Clove's last kicks, by time in ns; their elapsed time while
  frozen (R405 to R407), the device watchdog's with whether a debugger's halt froze it. -/
  winRun : Bool
  devKick : Nat
  cvKick : Nat
  devFrozen : Option (Bool × Nat)
  cvFrozen : Option Nat
  /-- WDO_N is low. -/
  wdo : Bool
  /-- The HPE link is up. -/
  hpe : Bool
  /-- MSI-X is enabled by the host; messages sent. -/
  msix : Bool
  msiSent : Nat
  /-- Bytes that the last SPI transaction returned. -/
  spiOut : List Byte
  /-- Instruction of the test access port; status and data of the last DAP_ACC. -/
  tapIr : Nat
  dapStatus : Nat
  dapData : Nat
  /-- Selection captured but not yet ready, and the readback window's words (R422). -/
  winDue : Bool
  window : List (Nat × Nat)
  /-- Registers read by the last command that reads one. -/
  lastRead : Word
  deriving DecidableEq, Repr

def Dev.reset : Dev :=
  { low := [], xtal := true, refPresent := true, switching := false, tilePend := [], stby := 0, wakeLater := false,
    winRun := false, devKick := 0, cvKick := 0, devFrozen := none, cvFrozen := none, wdo := false, hpe := false,
    msix := false, msiSent := 0, spiOut := [], tapIr := 0x02, dapStatus := 0, dapData := 0, winDue := false, window := [],
    lastRead := 0 }

/-- A zone of ZONE_SET: drive channels, gain in 0.1 dB with the ramp of its last change, and mute. -/
structure Zone where
  drvs : List Nat
  gain : Int
  ramp : Nat
  mute : Bool
  deriving DecidableEq, Repr

/-- A message object of the library (R230): revision, segments in order, and bytes. -/
structure MsgObj where
  rev : Nat
  segs : List Nat
  len : Nat
  deriving DecidableEq, Repr

/-- A schedule entry (R236), with the player channels armed for it (R237). -/
structure SchedEntry where
  entry : Nat
  msg : Nat
  zone : Nat
  prio : Nat
  cancelled : Bool
  period : Nat
  start : Nat
  count : Nat
  deriving DecidableEq, Repr

/-- The schedule copy. -/
structure Sched where
  epoch : Nat
  version : Nat
  issued : Nat
  entries : List SchedEntry
  deriving DecidableEq, Repr

def Sched.reset : Sched := { epoch := 0, version := 0, issued := 0, entries := [] }

/-- A partial transfer (R355): the command, TOTAL and the bytes so far. -/
structure Partial where
  code : Nat
  total : Nat
  data : List Byte
  deriving DecidableEq, Repr

def Partial.none : Partial := { code := 0, total := 0, data := [] }

/-- What a command that has been taken waits for: the flow's block tick (FLOW_EN), the map swap (MAP_SWAP), the stop and the
start of a restart with the SX_CFG to set (SX_RESTART), a port's gate list (GCL_SET), and the post before a reset (RESET). -/
inductive JobKind where
  | flowEn
  | mapSwap
  | sxStop (cfg : Nat)
  | sxStart
  | gcl (port : Nat)
  | reset
  deriving DecidableEq, Repr

/-- A command that firmware has taken and not yet answered: its sender, the key it came under, CODE and SEQ. -/
structure FwJob where
  who : Nat
  key : Nat
  code : Nat
  seq : Nat
  kind : JobKind
  deriving DecidableEq, Repr

/-- Firmware 1.4 and what the boot ROM leaves to it (chapters 09, 15 and 16). A sender is a mailbox pair i, or
256 + the MAC address of a remote device. -/
structure Fw where
  zones : List (Nat × Zone)
  msgs : List (Nat × MsgObj)
  sched : Sched
  /-- Player channels armed for entry number e: (2 e, holdover) and (2 e + 1, source). -/
  armed : List (Nat × Nat)
  /-- Bytes in use for images of the emergency set, and the images loaded there by message ID. -/
  emUsed : Nat
  emAt : List (Nat × Nat)
  /-- Limits given by SF_LIMITS by zone: GUP, GDN, EQUP, EQDN, SLEW, CONF_MIN, TARGET and HYST. -/
  sfLim : List (Nat × List Nat)
  sfDone : Bool
  /-- Pinned frame ranges: stream, first, last. -/
  pins : List (Nat × Nat × Nat)
  /-- Remote keys; last counters accepted by (key, sender), newest first; the device's own counter. -/
  keys : List (Nat × List Byte)
  counters : List (Nat × Nat × Nat)
  ownCtr : Nat
  /-- CODE, SEQ and reply of the last command of each sender (R351). -/
  last : List (Nat × (Nat × Nat × List Byte))
  /-- Partial transfers by sender. -/
  partials : List (Nat × Partial)
  /-- Commands taken and not yet answered, oldest first. -/
  jobs : List FwJob
  /-- Player channels to disarm, with the first frame in which (R238, R242). -/
  stops : List (Nat × Nat)
  /-- The Saffron loop runs (SF_LOOP). -/
  sfLoop : Bool
  /-- SEQ of the first black box record not yet archived; this start has archived (R428). -/
  archNext : Nat
  archDone : Bool
  /-- Replies that wait for an ACK, by pair (R345). -/
  waitPost : List (Nat × List Byte)
  /-- PATCH_VER, FW_VER, FW_BUILD, and HASH of the type 10 entry, of the running container. -/
  patchVer : Nat
  fwVer : Nat
  fwBuild : Nat
  rollback : Nat
  xipHash : List Byte
  /-- Notices sent since minimal mode was entered (R380). -/
  minimalNotices : Nat
  /-- Reply frames sent to remote devices: destination, payload. -/
  sentRemote : List (Nat × List Byte)
  deriving DecidableEq, Repr

def Fw.reset : Fw :=
  { zones := [], msgs := [], sched := Sched.reset, armed := [], emUsed := 0, emAt := [], sfLim := [],
    sfDone := false, pins := [], keys := [], counters := [], ownCtr := 0, last := [], partials := [], jobs := [], stops := [], sfLoop := false, archNext := 0, archDone := false, waitPost := [],
    patchVer := 0, fwVer := 0, fwBuild := 0, rollback := 0, xipHash := [], minimalNotices := 0, sentRemote := [] }

structure State where
  /-- Commands waiting, first in first out. -/
  pending : List Instr
  /-- The model's own counter of free values read so far. -/
  freeCtr : Nat
  /-- Every control register, by fabric address; an unlisted one holds its reset value. -/
  regs : List (Nat × Word)
  /-- Every memory, by fabric address, or by a model address from 2^40 for a memory without one. -/
  mem : List Host.Cell
  /-- Upper halves captured by a read of the LO register of a pair (R11). -/
  captured : List (Nat × Word)
  /-- Frame number F (R5). -/
  frame : Nat
  /-- gPTP time of the device in nanoseconds (R5). -/
  timeNs : Nat
  sx : Sx
  /-- Signal cores by number; an unlisted one is as after a core reset. -/
  cores : List (Nat × Core)
  /-- ECC condition of the 64-bit memory word at 8 times the key: 1 single-bit error, 2 uncorrectable (R53, R129). -/
  ecc : List (Nat × Nat)
  /-- Row that spare row k of bank b of tile t replaces, plus 1, by 36 t + 4 b + k (b = 8: common bank) (R130). -/
  spareRow : List (Nat × Nat)
  /-- Spare-row copy of the same number: 1 waiting, 2 running (R130, R133). -/
  spareCopy : List (Nat × Nat)
  /-- Next background test window of bank b of tile t, by 9 t + b (R131). -/
  nextWin : List (Nat × Nat)
  /-- Priority stacks of the interrupt targets, top first: source and PRIO (R287). -/
  icStack : List (Nat × List (Nat × Nat))
  /-- Presented source of each target: PRES of IC_T_k_STAT (R289). -/
  icPres : List (Nat × Nat)
  /-- NVMe completions posted and not handled: sources 237 to 240 less 237 (R284). -/
  nvPosted : List (Nat × Nat)
  /-- The host's endpoint is in D3hot; its link is in L2 (R290). -/
  hostD3 : Bool
  hostL2 : Bool
  /-- Drive channels by number. -/
  drv : List (Nat × Drv)
  /-- Frame after which DRV_EN_g last rose, by group (R150). -/
  grpRise : List (Nat × Nat)
  /-- Main-chain samples completed in the last frame, by sense input (R142). -/
  senseNow : List (Nat × Word)
  /-- TDM words received in the last frame and words sent in this frame, by TDM channel (R143). -/
  tdmIn : List (Nat × Word)
  tdmOut : List (Nat × Word)
  /-- Frames without a slip, by TDM port, and the ports that slipped in this frame (R143). -/
  tdmClean : List (Nat × Nat)
  tdmSlip : List Nat
  /-- Fitted DDR5 capacity C in bytes (R431): the board's. -/
  ddrCap : Nat
  net : Net
  /-- Flow contexts by number. -/
  flows : List (Nat × Flow)
  /-- Samples fetched for the stream engine's produced channels by frame, for frames F to F + 2 (R175). -/
  streamOut : List (Nat × List (Nat × Word))
  store : Store
  an : Anise
  sf : Saffron
  qm : Qm
  /-- DMA channels by 64 e + c, and the last winner of engine e at rank r by 16 e + r, plus 1; engine 12 is the trunk. -/
  dma : List (Nat × DmaCh)
  dmaLast : List (Nat × Nat)
  /-- Sumac processor 8c + p at 8c + p, and Clove at 96. -/
  cpu : List (Nat × Cpu)
  ctl : Ctl
  bb : Bb
  /-- Phase of a start: 0 held in reset, 1 the microcode copy runs, 2 Clove has left reset (R327, R394). -/
  phase : Nat
  /-- Causes of a warm reset that has not begun, as bits of WD_RST_CAUSE (R393). -/
  rstReq : List Nat
  otp : Otp
  sec : Sec
  dev : Dev
  fw : Fw
  deriving DecidableEq, Repr

def Sx.reset : Sx :=
  { blockDue := false, prodShadow := [], prodActive := [], consShadow := [], consActive := [], half := 0,
    sending := [], remapReq := [], selWritten := false, injNext := none, injNow := none, holdEnd := 0,
    latch := [], history := [] }

def State.reset : State :=
  { pending := [], freeCtr := 0, regs := [], mem := [], captured := [], frame := 0, timeNs := 0, sx := Sx.reset,
    cores := [], ecc := [], spareRow := [], spareCopy := [], nextWin := [],
    icStack := [], icPres := [], nvPosted := [], hostD3 := false, hostL2 := false,
    drv := [], grpRise := [], senseNow := [], tdmIn := [], tdmOut := [], tdmClean := [], tdmSlip := [],
    ddrCap := 0x400000000, net := Net.reset, flows := [], streamOut := [], store := Store.reset,
    an := Anise.reset, sf := Saffron.reset, qm := Qm.reset, dma := [], dmaLast := [],
    cpu := [], ctl := Ctl.reset, bb := Bb.reset, phase := 0, rstReq := [],
    otp := Otp.reset, sec := Sec.reset, dev := Dev.reset, fw := Fw.reset }

end Sys2Proof.Machine
end

