-- ==== Sys2Proof/Machine/RegMap.lean ====
section
/-! DEFINITION. The register map: the fabric address of every control register (R441, R443) and the
place of every field, in the names of the spec's register tables. One definition per register, with
its instance indices as arguments; one per field, with its low bit and width. -/

namespace Sys2Proof.Machine.R
open Sys2Proof.Machine

/-! Registers of spec/01_sample_frames_and_exchange.md -/

def SX_ID : Nat := 0x2000200000
def SX_ID_ID : Fld := ⟨0, 32⟩
def SX_CTL : Nat := 0x2000200004
def SX_CTL_RUN : Fld := ⟨0, 1⟩
def SX_CTL_SPARE_TILE : Fld := ⟨4, 4⟩
def SX_CTL_SPARE_EN : Fld := ⟨8, 1⟩
def SX_CTL_LATE_LIMIT : Fld := ⟨12, 4⟩
def SX_CFG : Nat := 0x2000200008
def SX_CFG_FS : Fld := ⟨0, 1⟩
def SX_CFG_N : Fld := ⟨1, 2⟩
def SX_STAT : Nat := 0x200020000C
def SX_STAT_RUNNING : Fld := ⟨0, 1⟩
def SX_STAT_STARTING : Fld := ⟨1, 1⟩
def SX_FRAME_LO : Nat := 0x2000200010
def SX_FRAME_LO_F : Fld := ⟨0, 32⟩
def SX_FRAME_HI : Nat := 0x2000200014
def SX_FRAME_HI_F : Fld := ⟨0, 32⟩
def SX_BLOCK_LO : Nat := 0x2000200018
def SX_BLOCK_LO_B : Fld := ⟨0, 32⟩
def SX_MAP_CTL : Nat := 0x2000200020
def SX_MAP_CTL_SWAP_REQ : Fld := ⟨0, 1⟩
def SX_MAP_CTL_SWAP_CANCEL : Fld := ⟨1, 1⟩
def SX_MAP_STAT : Nat := 0x2000200024
def SX_MAP_STAT_SWAP_PEND : Fld := ⟨0, 1⟩
def SX_MAP_STAT_COPYING : Fld := ⟨1, 1⟩
def SX_MAP_SWAPBLK : Nat := 0x2000200028
def SX_MAP_SWAPBLK_B : Fld := ⟨0, 32⟩
def SX_PLANE_CTL : Nat := 0x2000200030
def SX_PLANE_CTL_SEL : Fld := ⟨0, 1⟩
def SX_PLANE_CTL_COMPARE_EN : Fld := ⟨1, 1⟩
def SX_PLANE_CTL_AUTO_EN : Fld := ⟨2, 1⟩
def SX_PLANE_STAT : Nat := 0x2000200034
def SX_PLANE_STAT_ACTIVE : Fld := ⟨0, 1⟩
def SX_PLANE_STAT_MISMATCH : Fld := ⟨1, 1⟩
def SX_PLANE_STAT_PAR_A : Fld := ⟨2, 1⟩
def SX_PLANE_STAT_PAR_B : Fld := ⟨3, 1⟩
def SX_PLANE_STAT_SWITCHED : Fld := ⟨4, 1⟩
def SX_PLANE_STAT_HELD_OFF : Fld := ⟨5, 1⟩
def SX_PLANE_STAT_REF_FAIL : Fld := ⟨6, 1⟩
def SX_PLANE_STAT_MISCNT : Fld := ⟨16, 16⟩
def SX_PLANE_HOLDOFF : Nat := 0x2000200038
def SX_PLANE_HOLDOFF_FRAMES : Fld := ⟨0, 16⟩
def SX_PLANE_MISSLOT : Nat := 0x200020003C
def SX_PLANE_MISSLOT_SLOT : Fld := ⟨0, 13⟩
def SX_PLANE_MISSLOT_FRAME : Fld := ⟨16, 16⟩
def SX_PLANE_INJ : Nat := 0x2000200040
def SX_PLANE_INJ_SLOT : Fld := ⟨0, 13⟩
def SX_PLANE_INJ_PLANE : Fld := ⟨16, 1⟩
def SX_PLANE_INJ_GO : Fld := ⟨31, 1⟩
def SX_ERR : Nat := 0x2000200050
def SX_ERR_MAP_RANGE : Fld := ⟨0, 1⟩
def SX_ERR_SHADOW_BUSY : Fld := ⟨1, 1⟩
def SX_ERR_CFG_WHILE_RUN : Fld := ⟨2, 1⟩
def SX_ERR_ACTIVE_WRITE : Fld := ⟨3, 1⟩
def SX_ERR_REMAP_INVALID : Fld := ⟨4, 1⟩
def SX_ERR_WRITER : Fld := ⟨5, 1⟩
def SX_ERR_SLOT : Nat := 0x2000200054
def SX_ERR_SLOT_OFFSET : Fld := ⟨0, 32⟩
def SX_TP_t_CFG (t : Nat) : Nat := 0x2000200100 + t * 0x10
def SX_TP_t_CFG_RXCH : Fld := ⟨0, 11⟩
def SX_TP_t_CFG_TXCH : Fld := ⟨16, 11⟩
def SX_TP_t_ACFG (t : Nat) : Nat := 0x2000200104 + t * 0x10
def SX_TP_t_ACFG_RXCH : Fld := ⟨0, 11⟩
def SX_TP_t_ACFG_TXCH : Fld := ⟨16, 11⟩
def SX_TP_t_STAT (t : Nat) : Nat := 0x2000200108 + t * 0x10
def SX_TP_t_STAT_TXRDY : Fld := ⟨0, 1⟩
def SX_TP_t_STAT_TX_LATE : Fld := ⟨1, 1⟩
def SX_TP_t_STAT_FAILED : Fld := ⟨2, 1⟩
def SX_TP_t_STAT_FAIL_SET : Fld := ⟨3, 1⟩
def SX_TP_t_STAT_LATE_RUN : Fld := ⟨8, 4⟩
def SX_TP_t_PHYS (t : Nat) : Nat := 0x200020010C + t * 0x10
def SX_TP_t_PHYS_PHYS : Fld := ⟨0, 4⟩
def SX_TP_t_PHYS_CUR : Fld := ⟨16, 4⟩
/-! Registers of spec/02_signal_core_architecture.md -/

def SC_n_CTL (n : Nat) : Nat := 0x1000C00000 + (n / 4) * 0x1000000 + (n % 4) * 0x1000
def SC_n_CTL_START : Fld := ⟨0, 1⟩
def SC_n_CTL_HALT : Fld := ⟨1, 1⟩
def SC_n_CTL_CORE_RESET : Fld := ⟨2, 1⟩
def SC_n_CTL_WIN_STEP : Fld := ⟨4, 1⟩
def SC_n_STATE (n : Nat) : Nat := 0x1000C00004 + (n / 4) * 0x1000000 + (n % 4) * 0x1000
def SC_n_STATE_STATE : Fld := ⟨0, 3⟩
def SC_n_STATE_IE : Fld := ⟨3, 1⟩
def SC_n_STATE_IN_HANDLER : Fld := ⟨4, 1⟩
def SC_n_STATE_LOOPACT : Fld := ⟨8, 4⟩
def SC_n_STATE_REPEATING : Fld := ⟨12, 1⟩
def SC_n_STATE_LOCKED : Fld := ⟨13, 1⟩
def SC_n_STATE_REL_PEND : Fld := ⟨14, 1⟩
def SC_n_ENTRY (n : Nat) : Nat := 0x1000C00008 + (n / 4) * 0x1000000 + (n % 4) * 0x1000
def SC_n_ENTRY_ENTRY : Fld := ⟨0, 12⟩
def SC_n_VEC (n : Nat) : Nat := 0x1000C0000C + (n / 4) * 0x1000000 + (n % 4) * 0x1000
def SC_n_VEC_IVEC : Fld := ⟨0, 12⟩
def SC_n_VEC_TVEC : Fld := ⟨16, 12⟩
def SC_n_PC (n : Nat) : Nat := 0x1000C00010 + (n / 4) * 0x1000000 + (n % 4) * 0x1000
def SC_n_PC_PC : Fld := ⟨0, 12⟩
def SC_n_FAULT (n : Nat) : Nat := 0x1000C00014 + (n / 4) * 0x1000000 + (n % 4) * 0x1000
def SC_n_FAULT_CAUSE : Fld := ⟨0, 8⟩
def SC_n_FAULT_SLOT : Fld := ⟨8, 3⟩
def SC_n_FAULT_PC : Fld := ⟨12, 12⟩
def SC_n_FAULT_ADDR (n : Nat) : Nat := 0x1000C00018 + (n / 4) * 0x1000000 + (n % 4) * 0x1000
def SC_n_FAULT_ADDR_ADDR : Fld := ⟨0, 24⟩
def SC_n_OVERRUN (n : Nat) : Nat := 0x1000C0001C + (n / 4) * 0x1000000 + (n % 4) * 0x1000
def SC_n_OVERRUN_COUNT : Fld := ⟨0, 16⟩
def SC_n_WINGAP (n : Nat) : Nat := 0x1000C00020 + (n / 4) * 0x1000000 + (n % 4) * 0x1000
def SC_n_WINGAP_MAXGAP : Fld := ⟨0, 24⟩
def SC_n_BLKCYC (n : Nat) : Nat := 0x1000C00024 + (n / 4) * 0x1000000 + (n % 4) * 0x1000
def SC_n_BLKCYC_LAST : Fld := ⟨0, 21⟩
def SC_n_BLKMAX (n : Nat) : Nat := 0x1000C00028 + (n / 4) * 0x1000000 + (n % 4) * 0x1000
def SC_n_BLKMAX_MAX : Fld := ⟨0, 21⟩
def SC_n_ECC (n : Nat) : Nat := 0x1000C0002C + (n / 4) * 0x1000000 + (n % 4) * 0x1000
def SC_n_ECC_PM_CORR : Fld := ⟨0, 8⟩
def SC_n_ECC_DM_CORR : Fld := ⟨8, 8⟩
def SC_n_ERR (n : Nat) : Nat := 0x1000C00030 + (n / 4) * 0x1000000 + (n % 4) * 0x1000
def SC_n_ERR_LOAD_DISCARD : Fld := ⟨0, 1⟩
/-! Registers of spec/04_tile_memory_banks.md -/

def TL_t_ID (t : Nat) : Nat := 0x1000C10000 + t * 0x1000000
def TL_t_ID_ID : Fld := ⟨0, 32⟩
def TL_t_ERR (t : Nat) : Nat := 0x1000C10004 + t * 0x1000000
def TL_t_ERR_OWNER_WRITER : Fld := ⟨0, 1⟩
def TL_t_ERR_OWNER_CODE : Fld := ⟨1, 1⟩
def TL_t_ERR_OWNER_BUSY : Fld := ⟨2, 1⟩
def TL_t_ERR_DRAIN_ABORT : Fld := ⟨3, 1⟩
def TL_t_ERR_REMAP_DUP : Fld := ⟨4, 1⟩
def TL_t_ERR_INTERVAL_RANGE : Fld := ⟨5, 1⟩
def TL_t_ERR_REMAP_BUSY : Fld := ⟨6, 1⟩
def TL_t_VIOL (t : Nat) : Nat := 0x1000C10010 + t * 0x1000000
def TL_t_VIOL_AGENT : Fld := ⟨0, 4⟩
def TL_t_VIOL_BANK : Fld := ⟨4, 3⟩
def TL_t_VIOL_WRITE : Fld := ⟨7, 1⟩
def TL_t_VIOL_HANDOVER : Fld := ⟨8, 1⟩
def TL_t_VIOL_VALID : Fld := ⟨31, 1⟩
def TL_t_VIOL_ADDR (t : Nat) : Nat := 0x1000C10014 + t * 0x1000000
def TL_t_VIOL_ADDR_OFFSET : Fld := ⟨0, 19⟩
def TL_t_VIOL_CNT (t : Nat) : Nat := 0x1000C10018 + t * 0x1000000
def TL_t_VIOL_CNT_COUNT : Fld := ⟨0, 16⟩
def TL_t_CAP (t : Nat) : Nat := 0x1000C10020 + t * 0x1000000
def TL_t_CAP_PTR : Fld := ⟨0, 19⟩
def TL_t_CAP_BANK : Fld := ⟨20, 3⟩
def TL_t_CAP_ACTIVE : Fld := ⟨23, 1⟩
def TL_t_LOCK (t : Nat) : Nat := 0x1000C10028 + t * 0x1000000
def TL_t_LOCK_HOLDER : Fld := ⟨0, 2⟩
def TL_t_LOCK_HELD : Fld := ⟨2, 1⟩
def TL_t_LOCK_BROKEN_CNT : Fld := ⟨8, 8⟩
def TL_t_BKT_CTL (t : Nat) : Nat := 0x1000C10030 + t * 0x1000000
def TL_t_BKT_CTL_EN : Fld := ⟨0, 9⟩
def TL_t_BKT_INTERVAL (t : Nat) : Nat := 0x1000C10034 + t * 0x1000000
def TL_t_BKT_INTERVAL_US : Fld := ⟨0, 16⟩
def TL_t_BK_b_OWNER (t b : Nat) : Nat := 0x1000C10100 + t * 0x1000000 + b * 0x40
def TL_t_BK_b_OWNER_OWNER : Fld := ⟨0, 4⟩
def TL_t_BK_b_OWNER_CUR : Fld := ⟨8, 4⟩
def TL_t_BK_b_OWNER_BUSY : Fld := ⟨16, 1⟩
def TL_t_BK_b_ECC (t b : Nat) : Nat := 0x1000C10104 + t * 0x1000000 + b * 0x40
def TL_t_BK_b_ECC_CORR : Fld := ⟨0, 8⟩
def TL_t_BK_b_ECC_UNC : Fld := ⟨8, 8⟩
def TL_t_BK_b_ECCADDR (t b : Nat) : Nat := 0x1000C10108 + t * 0x1000000 + b * 0x40
def TL_t_BK_b_ECCADDR_OFFSET : Fld := ⟨3, 16⟩
def TL_t_BK_b_TEST (t b : Nat) : Nat := 0x1000C1010C + t * 0x1000000 + b * 0x40
def TL_t_BK_b_TEST_PASSES : Fld := ⟨0, 16⟩
def TL_t_BK_b_TEST_FAIL : Fld := ⟨16, 1⟩
def TL_t_BK_b_TEST_ACTIVE : Fld := ⟨17, 1⟩
def TL_t_BK_b_TEST_WIN : Fld := ⟨18, 10⟩
def TL_t_BK_b_TADDR (t b : Nat) : Nat := 0x1000C10110 + t * 0x1000000 + b * 0x40
def TL_t_BK_b_TADDR_OFFSET : Fld := ⟨3, 16⟩
def TL_t_BK_b_TADDR_BIT : Fld := ⟨20, 7⟩
def TL_t_BK_b_REMAP_k (t b k : Nat) : Nat := 0x1000C10114 + t * 0x1000000 + b * 0x40 + k * 0x4
def TL_t_BK_b_REMAP_k_ROW : Fld := ⟨0, 9⟩
def TL_t_BK_b_REMAP_k_EN : Fld := ⟨12, 1⟩
def TL_t_BK_b_REMAP_k_BUSY : Fld := ⟨13, 1⟩
def TL_t_CB_ECC (t : Nat) : Nat := 0x1000C10304 + t * 0x1000000
def TL_t_CB_ECC_CORR : Fld := ⟨0, 8⟩
def TL_t_CB_ECC_UNC : Fld := ⟨8, 8⟩
def TL_t_CB_ECCADDR (t : Nat) : Nat := 0x1000C10308 + t * 0x1000000
def TL_t_CB_ECCADDR_OFFSET : Fld := ⟨3, 16⟩
def TL_t_CB_TEST (t : Nat) : Nat := 0x1000C1030C + t * 0x1000000
def TL_t_CB_TEST_PASSES : Fld := ⟨0, 16⟩
def TL_t_CB_TEST_FAIL : Fld := ⟨16, 1⟩
def TL_t_CB_TEST_ACTIVE : Fld := ⟨17, 1⟩
def TL_t_CB_TEST_WIN : Fld := ⟨18, 10⟩
def TL_t_CB_TADDR (t : Nat) : Nat := 0x1000C10310 + t * 0x1000000
def TL_t_CB_TADDR_OFFSET : Fld := ⟨3, 16⟩
def TL_t_CB_TADDR_BIT : Fld := ⟨20, 7⟩
def TL_t_CB_REMAP_k (t k : Nat) : Nat := 0x1000C10314 + t * 0x1000000 + k * 0x4
def TL_t_CB_REMAP_k_ROW : Fld := ⟨0, 9⟩
def TL_t_CB_REMAP_k_EN : Fld := ⟨12, 1⟩
def TL_t_CB_REMAP_k_BUSY : Fld := ⟨13, 1⟩
/-! Registers of spec/05_drive_and_sense.md -/

def DRV_ID : Nat := 0x2000458000
def DRV_ID_ID : Fld := ⟨0, 32⟩
def DRV_GRP_g_CTL (g : Nat) : Nat := 0x2000458020 + g * 0x4
def DRV_GRP_g_CTL_EN : Fld := ⟨0, 1⟩
def DRV_GRP_g_CTL_FLT_LATCHED : Fld := ⟨1, 1⟩
def DRV_GRP_g_CTL_FLT_IN : Fld := ⟨2, 1⟩
def DRV_GRP_g_CTL_EN_OUT : Fld := ⟨3, 1⟩
def DRV_n_CTL (n : Nat) : Nat := 0x2000459000 + n * 0x80
def DRV_n_CTL_ENABLE : Fld := ⟨0, 1⟩
def DRV_n_CTL_MODE : Fld := ⟨1, 1⟩
def DRV_n_CTL_LOOP_EN : Fld := ⟨2, 1⟩
def DRV_n_CTL_OPEN_OFF : Fld := ⟨3, 1⟩
def DRV_n_CTL_CAL_START : Fld := ⟨4, 1⟩
def DRV_n_CTL_CLR_FAULT : Fld := ⟨5, 1⟩
def DRV_n_CTL_DEAD : Fld := ⟨16, 8⟩
def DRV_n_STAT (n : Nat) : Nat := 0x2000459004 + n * 0x80
def DRV_n_STAT_STATE : Fld := ⟨0, 3⟩
def DRV_n_STAT_SHORT : Fld := ⟨4, 1⟩
def DRV_n_STAT_OPEN : Fld := ⟨5, 1⟩
def DRV_n_STAT_GRP : Fld := ⟨6, 1⟩
def DRV_n_STAT_LOOP_FAULT : Fld := ⟨7, 1⟩
def DRV_n_STAT_CLIP : Fld := ⟨8, 1⟩
def DRV_n_STAT_MIRRORING : Fld := ⟨9, 1⟩
def DRV_n_STAT_OPEN_CNT : Fld := ⟨12, 3⟩
def DRV_n_LIM (n : Nat) : Nat := 0x2000459008 + n * 0x80
def DRV_n_LIM_SHORT_LIM : Fld := ⟨0, 16⟩
def DRV_n_LIM_OPEN_TH : Fld := ⟨16, 16⟩
def DRV_n_VMIN (n : Nat) : Nat := 0x200045900C + n * 0x80
def DRV_n_VMIN_VMIN : Fld := ⟨0, 16⟩
def DRV_n_LOOP (n : Nat) : Nat := 0x2000459010 + n * 0x80
def DRV_n_LOOP_CLAMP : Fld := ⟨0, 16⟩
def DRV_n_LOOP_ERR_LIM : Fld := ⟨16, 16⟩
def DRV_n_PAIR (n : Nat) : Nat := 0x2000459014 + n * 0x80
def DRV_n_PAIR_PARTNER : Fld := ⟨0, 6⟩
def DRV_n_PAIR_AUTO : Fld := ⟨8, 1⟩
def DRV_n_PAIR_TRIG : Fld := ⟨9, 3⟩
def DRV_n_PAIR_GAIN_STEP : Fld := ⟨12, 4⟩
def DRV_n_VSCALE (n : Nat) : Nat := 0x2000459018 + n * 0x80
def DRV_n_VSCALE_VSCALE : Fld := ⟨0, 32⟩
def DRV_n_ISCALE (n : Nat) : Nat := 0x200045901C + n * 0x80
def DRV_n_ISCALE_ISCALE : Fld := ⟨0, 32⟩
def DRV_n_LOOPG (n : Nat) : Nat := 0x2000459020 + n * 0x80
def DRV_n_LOOPG_LOOPG : Fld := ⟨0, 32⟩
def DRV_n_ZEST (n : Nat) : Nat := 0x2000459024 + n * 0x80
def DRV_n_ZEST_Z : Fld := ⟨0, 32⟩
def DRV_n_LEVEL (n : Nat) : Nat := 0x2000459028 + n * 0x80
def DRV_n_LEVEL_VRMS : Fld := ⟨0, 16⟩
def DRV_n_LEVEL_IRMS : Fld := ⟨16, 16⟩
def DRV_n_COEF_k (n k : Nat) : Nat := 0x2000459040 + n * 0x80 + k * 0x4
def DRV_n_COEF_k_COEF : Fld := ⟨0, 32⟩
def SNS_ID : Nat := 0x2000465000
def SNS_ID_ID : Fld := ⟨0, 32⟩
def SNS_CLK_g_CFG (g : Nat) : Nat := 0x2000465020 + g * 0x4
def SNS_CLK_g_CFG_EN : Fld := ⟨0, 1⟩
def SNS_CLK_g_CFG_PHASE : Fld := ⟨4, 4⟩
def SNS_n_CFG (n : Nat) : Nat := 0x2000465100 + n * 0x10
def SNS_n_CFG_EN : Fld := ⟨0, 1⟩
def SNS_n_CFG_INV : Fld := ⟨1, 1⟩
def SNS_n_CFG_DCBLK : Fld := ⟨2, 1⟩
def SNS_n_CAL (n : Nat) : Nat := 0x2000465104 + n * 0x10
def SNS_n_CAL_OFFSET : Fld := ⟨0, 16⟩
def SNS_n_CAL_GAIN : Fld := ⟨16, 16⟩
def SNS_n_STAT (n : Nat) : Nat := 0x2000465108 + n * 0x10
def SNS_n_STAT_STUCK : Fld := ⟨0, 1⟩
def SNS_n_STAT_OVL : Fld := ⟨1, 1⟩
def TDM_ID : Nat := 0x2000466000
def TDM_ID_ID : Fld := ⟨0, 32⟩
def TDM_p_CTL (p : Nat) : Nat := 0x2000466100 + p * 0x10
def TDM_p_CTL_EN : Fld := ⟨0, 1⟩
def TDM_p_CTL_MASTER : Fld := ⟨1, 1⟩
def TDM_p_CTL_WIDTH : Fld := ⟨2, 1⟩
def TDM_p_CTL_DELAY : Fld := ⟨3, 1⟩
def TDM_p_CTL_FSW : Fld := ⟨4, 1⟩
def TDM_p_STAT (p : Nat) : Nat := 0x2000466104 + p * 0x10
def TDM_p_STAT_SLIP : Fld := ⟨0, 1⟩
def TDM_p_STAT_LOCKED : Fld := ⟨1, 1⟩
/-! Registers of spec/06_network_streams_and_redundancy.md -/

def FL_ID : Nat := 0x2000380000
def FL_ID_ID : Fld := ⟨0, 32⟩
def FL_ERR : Nat := 0x2000380004
def FL_ERR_OVERLAP : Fld := ⟨0, 1⟩
def FL_ERR_ID_DUP : Fld := ⟨1, 1⟩
def FL_ERR_RANGE : Fld := ⟨2, 1⟩
def FL_ERR_JB_ALIGN : Fld := ⟨3, 1⟩
def FL_ERR_BUSY : Fld := ⟨4, 1⟩
def FL_ERR_FLOW : Nat := 0x2000380008
def FL_ERR_FLOW_FLOW : Fld := ⟨0, 12⟩
def FL_f_CTL (f : Nat) : Nat := 0x2000390000 + f * 0x40
def FL_f_CTL_EN : Fld := ⟨0, 1⟩
def FL_f_CTL_DIR : Fld := ⟨1, 1⟩
def FL_f_CTL_FMT : Fld := ⟨2, 1⟩
def FL_f_CTL_WIDTH : Fld := ⟨3, 2⟩
def FL_f_CTL_TC : Fld := ⟨8, 3⟩
def FL_f_CTL_P : Fld := ⟨16, 7⟩
def FL_f_ID_LO (f : Nat) : Nat := 0x2000390004 + f * 0x40
def FL_f_ID_LO_ID : Fld := ⟨0, 32⟩
def FL_f_ID_HI (f : Nat) : Nat := 0x2000390008 + f * 0x40
def FL_f_ID_HI_ID : Fld := ⟨0, 32⟩
def FL_f_CH (f : Nat) : Nat := 0x200039000C + f * 0x40
def FL_f_CH_BASE : Fld := ⟨0, 13⟩
def FL_f_CH_CHN : Fld := ⟨16, 7⟩
def FL_f_DST_LO (f : Nat) : Nat := 0x2000390010 + f * 0x40
def FL_f_DST_LO_DST : Fld := ⟨0, 32⟩
def FL_f_DST_HI (f : Nat) : Nat := 0x2000390014 + f * 0x40
def FL_f_DST_HI_MAC : Fld := ⟨0, 16⟩
def FL_f_DST_HI_VID : Fld := ⟨16, 12⟩
def FL_f_DST_HI_PCP : Fld := ⟨28, 3⟩
def FL_f_JB_LO (f : Nat) : Nat := 0x2000390018 + f * 0x40
def FL_f_JB_LO_BASE : Fld := ⟨0, 32⟩
def FL_f_JB_HI (f : Nat) : Nat := 0x200039001C + f * 0x40
def FL_f_JB_HI_ADDR : Fld := ⟨0, 8⟩
def FL_f_JB_HI_DLOG : Fld := ⟨8, 4⟩
def FL_f_AUX (f : Nat) : Nat := 0x2000390020 + f * 0x40
def FL_f_AUX_SSRC : Fld := ⟨0, 32⟩
def FL_f_OFS (f : Nat) : Nat := 0x2000390024 + f * 0x40
def FL_f_OFS_OFS : Fld := ⟨0, 11⟩
def FL_f_MCO (f : Nat) : Nat := 0x2000390028 + f * 0x40
def FL_f_MCO_MCO : Fld := ⟨0, 32⟩
def FL_f_STAT (f : Nat) : Nat := 0x200039002C + f * 0x40
def FL_f_STAT_ACTIVE : Fld := ⟨0, 1⟩
def FL_f_STAT_LATE : Fld := ⟨1, 1⟩
def FL_f_STAT_EARLY : Fld := ⟨2, 1⟩
def FL_f_STAT_UNDERRUN : Fld := ⟨3, 1⟩
def FL_f_STAT_SEQ_GAP : Fld := ⟨4, 1⟩
def FL_f_STAT_FMT_ERR : Fld := ⟨5, 1⟩
def FL_f_CNT (f : Nat) : Nat := 0x2000390030 + f * 0x40
def FL_f_CNT_LATE_CNT : Fld := ⟨0, 16⟩
def FL_f_CNT_GAP_CNT : Fld := ⟨16, 16⟩
def FL_f_SEQ (f : Nat) : Nat := 0x2000390034 + f * 0x40
def FL_f_SEQ_SEQ : Fld := ⟨0, 16⟩
def NET_ID : Nat := 0x2000464000
def NET_ID_ID : Fld := ⟨0, 32⟩
def NET_CTL : Nat := 0x2000464004
def NET_CTL_RING_A_EN : Fld := ⟨0, 1⟩
def NET_CTL_RING_B_EN : Fld := ⟨1, 1⟩
def NET_CTL_PRP_EN : Fld := ⟨2, 1⟩
def NET_MAC_LO : Nat := 0x2000464008
def NET_MAC_LO_MAC : Fld := ⟨0, 32⟩
def NET_MAC_HI : Nat := 0x200046400C
def NET_MAC_HI_MAC : Fld := ⟨0, 16⟩
def NET_RING_STAT : Nat := 0x2000464010
def NET_RING_STAT_A_OPEN : Fld := ⟨0, 1⟩
def NET_RING_STAT_B_OPEN : Fld := ⟨1, 1⟩
def NET_RING_STAT_ISOLATED : Fld := ⟨2, 1⟩
def NET_RING_STAT_ISO_EVT : Fld := ⟨3, 1⟩
def NET_RING_STAT_DD_OVF : Fld := ⟨4, 1⟩
def NET_ISO_TIME : Nat := 0x2000464014
def NET_ISO_TIME_US : Fld := ⟨0, 16⟩
def NET_DD_CNT : Nat := 0x2000464018
def NET_DD_CNT_DISCARDED : Fld := ⟨0, 32⟩
def NET_PTP_CTL : Nat := 0x2000464020
def NET_PTP_CTL_PROFILE : Fld := ⟨0, 2⟩
def NET_PTP_CTL_DOMAIN : Fld := ⟨8, 8⟩
def NET_PTP_STAT : Nat := 0x2000464024
def NET_PTP_STAT_LOCKED : Fld := ⟨0, 1⟩
def NET_PTP_STAT_HOLDOVER : Fld := ⟨1, 1⟩
def NET_PTP_STAT_STEP_REQ : Fld := ⟨2, 1⟩
def NET_PTP_STAT_GM : Fld := ⟨3, 1⟩
def NET_PTP_STAT_SLAVE_PORT : Fld := ⟨4, 3⟩
def NET_TIME_NS : Nat := 0x2000464028
def NET_TIME_NS_NS : Fld := ⟨0, 30⟩
def NET_TIME_S_LO : Nat := 0x200046402C
def NET_TIME_S_LO_S : Fld := ⟨0, 32⟩
def NET_TIME_S_HI : Nat := 0x2000464030
def NET_TIME_S_HI_S : Fld := ⟨0, 16⟩
def NET_DCO_FREQ : Nat := 0x2000464034
def NET_DCO_FREQ_PPT : Fld := ⟨0, 32⟩
def NET_OFFSET : Nat := 0x2000464038
def NET_OFFSET_NS : Fld := ⟨0, 32⟩
def NET_PORT_p_CFG (p : Nat) : Nat := 0x2000464100 + p * 0x40
def NET_PORT_p_CFG_RATE : Fld := ⟨0, 2⟩
def NET_PORT_p_CFG_FEC : Fld := ⟨2, 2⟩
def NET_PORT_p_CFG_AN : Fld := ⟨4, 1⟩
def NET_PORT_p_STAT (p : Nat) : Nat := 0x2000464104 + p * 0x40
def NET_PORT_p_STAT_LINK : Fld := ⟨0, 1⟩
def NET_PORT_p_STAT_LINK_LOST : Fld := ⟨1, 1⟩
def NET_PORT_p_STAT_RATE_MISMATCH : Fld := ⟨2, 1⟩
def NET_PORT_p_STAT_AS_CAPABLE : Fld := ⟨3, 1⟩
def NET_PORT_p_STAT_CBS_RANGE : Fld := ⟨4, 1⟩
def NET_PORT_p_STAT_GCL_RANGE : Fld := ⟨5, 1⟩
def NET_PORT_p_DLY (p : Nat) : Nat := 0x2000464108 + p * 0x40
def NET_PORT_p_DLY_TX : Fld := ⟨0, 16⟩
def NET_PORT_p_DLY_RX : Fld := ⟨16, 16⟩
def NET_PORT_p_PDELAY (p : Nat) : Nat := 0x200046410C + p * 0x40
def NET_PORT_p_PDELAY_NS : Fld := ⟨0, 32⟩
def NET_PORT_p_RXERR (p : Nat) : Nat := 0x2000464110 + p * 0x40
def NET_PORT_p_RXERR_COUNT : Fld := ⟨0, 32⟩
def NET_PORT_p_CBS_A (p : Nat) : Nat := 0x2000464114 + p * 0x40
def NET_PORT_p_CBS_A_SLOPE : Fld := ⟨0, 16⟩
def NET_PORT_p_CBS_B (p : Nat) : Nat := 0x2000464118 + p * 0x40
def NET_PORT_p_CBS_B_SLOPE : Fld := ⟨0, 16⟩
def NET_PORT_p_GCL_CTL (p : Nat) : Nat := 0x2000464120 + p * 0x40
def NET_PORT_p_GCL_CTL_EN : Fld := ⟨0, 1⟩
def NET_PORT_p_GCL_CTL_SWAP_REQ : Fld := ⟨1, 1⟩
def NET_PORT_p_GCL_CTL_LEN : Fld := ⟨8, 7⟩
def NET_PORT_p_GCL_CYC (p : Nat) : Nat := 0x2000464124 + p * 0x40
def NET_PORT_p_GCL_CYC_CYCLE : Fld := ⟨0, 32⟩
def NET_PORT_p_GCL_BASE (p : Nat) : Nat := 0x2000464128 + p * 0x40
def NET_PORT_p_GCL_BASE_BASE : Fld := ⟨0, 32⟩
def NET_GCL_p_k (p k : Nat) : Nat := 0x2000464800 + p * 0x100 + k * 0x4
def NET_GCL_p_k_GATES : Fld := ⟨0, 8⟩
def NET_GCL_p_k_INTERVAL : Fld := ⟨8, 24⟩
def NET_GCLA_p_k (p k : Nat) : Nat := 0x2000464C00 + p * 0x100 + k * 0x4
def NET_GCLA_p_k_GATES : Fld := ⟨0, 8⟩
def NET_GCLA_p_k_INTERVAL : Fld := ⟨8, 24⟩
/-! Registers of spec/07_silent_line_verification.md -/

def AN_ID : Nat := 0x2000462000
def AN_ID_ID : Fld := ⟨0, 32⟩
def AN_CTL : Nat := 0x2000462004
def AN_CTL_MODE : Fld := ⟨0, 2⟩
def AN_RUN_CTL : Nat := 0x2000462008
def AN_RUN_CTL_START : Fld := ⟨0, 1⟩
def AN_RUN_CTL_STOP : Fld := ⟨1, 1⟩
def AN_RUN_CTL_CONT : Fld := ⟨2, 1⟩
def AN_RUN_CTL_REFCAP : Fld := ⟨3, 1⟩
def AN_RUN_CTL_PERIODS : Fld := ⟨16, 12⟩
def AN_RUN_STAT : Nat := 0x200046200C
def AN_RUN_STAT_RUNNING : Fld := ⟨0, 1⟩
def AN_RUN_STAT_WAITING : Fld := ⟨1, 1⟩
def AN_RUN_STAT_DONE : Fld := ⟨2, 1⟩
def AN_RUN_STAT_ABORTED : Fld := ⟨3, 1⟩
def AN_RUN_STAT_FAIL_SEEN : Fld := ⟨4, 1⟩
def AN_RUN_STAT_DEGR_SEEN : Fld := ⟨5, 1⟩
def AN_RUN_STAT_PROCESSING : Fld := ⟨6, 1⟩
def AN_RUN_STAT_RUN : Fld := ⟨16, 16⟩
def AN_START_LO : Nat := 0x2000462010
def AN_START_LO_F : Fld := ⟨0, 32⟩
def AN_START_HI : Nat := 0x2000462014
def AN_START_HI_F : Fld := ⟨0, 32⟩
def AN_MEM_LO : Nat := 0x2000462018
def AN_MEM_LO_ADDR : Fld := ⟨21, 11⟩
def AN_MEM_HI : Nat := 0x200046201C
def AN_MEM_HI_ADDR : Fld := ⟨0, 8⟩
def AN_ERR : Nat := 0x2000462020
def AN_ERR_CODE_DUP : Fld := ⟨0, 1⟩
def AN_ERR_MEM_RANGE : Fld := ⟨1, 1⟩
def AN_ERR_MODE_RANGE : Fld := ⟨2, 1⟩
def AN_ERR_WIN_RANGE : Fld := ⟨3, 1⟩
def AN_ERR_MODE_OFF : Fld := ⟨4, 1⟩
def AN_LAW : Nat := 0x2000462030
def AN_LAW_MARGIN : Fld := ⟨0, 8⟩
def AN_LAW_QMARGIN : Fld := ⟨8, 8⟩
def AN_LAW_PMAX : Fld := ⟨16, 8⟩
def AN_LAW_PMIN : Fld := ⟨24, 8⟩
def AN_LAW2 : Nat := 0x2000462034
def AN_LAW2_RELEASE : Fld := ⟨0, 8⟩
def AN_LAW2_AMB_GATE : Fld := ⟨8, 8⟩
def AN_BANDS : Nat := 0x2000462038
def AN_BANDS_EN : Fld := ⟨0, 31⟩
def AN_VERD : Nat := 0x2000462040
def AN_VERD_RHO_PASS : Fld := ⟨0, 10⟩
def AN_VERD_RHO_FAIL : Fld := ⟨16, 10⟩
def AN_VERD2 : Nat := 0x2000462044
def AN_VERD2_LEV_TOL : Fld := ⟨0, 8⟩
def AN_VERD2_LEV_FAIL : Fld := ⟨8, 8⟩
def AN_VERD2_SNR_MIN : Fld := ⟨16, 8⟩
def AN_VERD2_BAND_MIN : Fld := ⟨24, 5⟩
def AN_WIN_S : Nat := 0x2000462048
def AN_WIN_S_LAG_START : Fld := ⟨0, 12⟩
def AN_WIN_S_LAG_END : Fld := ⟨16, 12⟩
def AN_WIN_M : Nat := 0x200046204C
def AN_WIN_M_LAG_START : Fld := ⟨0, 12⟩
def AN_WIN_M_LAG_END : Fld := ⟨16, 12⟩
def AN_TAIL : Nat := 0x2000462050
def AN_TAIL_TAIL_START : Fld := ⟨0, 12⟩
def AN_TAIL_GFLOOR : Fld := ⟨16, 8⟩
def AN_FAIL_CNT : Nat := 0x2000462058
def AN_FAIL_CNT_FAIL : Fld := ⟨0, 11⟩
def AN_FAIL_CNT_DEGRADED : Fld := ⟨16, 11⟩
def AN_DRV_n_CFG (n : Nat) : Nat := 0x2000462400 + n * 0x10
def AN_DRV_n_CFG_EN : Fld := ⟨0, 1⟩
def AN_DRV_n_CFG_LMIC : Fld := ⟨4, 4⟩
def AN_DRV_n_CFG_CODE : Fld := ⟨16, 11⟩
def AN_DRV_n_STAT (n : Nat) : Nat := 0x2000462404 + n * 0x10
def AN_DRV_n_STAT_INJ : Fld := ⟨0, 1⟩
def AN_DRV_n_STAT_LEVEL : Fld := ⟨8, 8⟩
def AN_DRV_n_STAT_BANDS : Fld := ⟨16, 5⟩
def AN_DRV_n_VERD (n : Nat) : Nat := 0x2000462408 + n * 0x10
def AN_DRV_n_VERD_VS : Fld := ⟨0, 4⟩
def AN_DRV_n_VERD_IS : Fld := ⟨4, 4⟩
def AN_MIC_m_CFG (m : Nat) : Nat := 0x2000462800 + m * 0x10
def AN_MIC_m_CFG_EN : Fld := ⟨0, 1⟩
def AN_MIC_m_CFG_LAG0 : Fld := ⟨8, 17⟩
def AN_AMB_m_b (m b : Nat) : Nat := 0x2000462C00 + m * 0x80 + b * 0x4
def AN_AMB_m_b_LEVEL : Fld := ⟨0, 16⟩
def AN_AMB_m_b_HELD : Fld := ⟨16, 1⟩
/-! Registers of spec/08_intelligibility_analyzer.md -/

def SF_ID : Nat := 0x200045C000
def SF_ID_ID : Fld := ⟨0, 32⟩
def SF_CTL : Nat := 0x200045C004
def SF_CTL_EN : Fld := ⟨0, 1⟩
def SF_CTL_AVG : Fld := ⟨1, 3⟩
def SF_CTL_LIM_LOCK : Fld := ⟨4, 1⟩
def SF_STAT : Nat := 0x200045C008
def SF_STAT_ACTIVE : Fld := ⟨0, 1⟩
def SF_STAT_UPD : Fld := ⟨1, 1⟩
def SF_STAT_SEQ : Fld := ⟨16, 16⟩
def SF_ERR : Nat := 0x200045C00C
def SF_ERR_MEM_RANGE : Fld := ⟨0, 1⟩
def SF_ERR_LIM_LOCKED : Fld := ⟨1, 1⟩
def SF_MEM_LO : Nat := 0x200045C010
def SF_MEM_LO_ADDR : Fld := ⟨20, 12⟩
def SF_MEM_HI : Nat := 0x200045C014
def SF_MEM_HI_ADDR : Fld := ⟨0, 8⟩
def SF_VAL : Nat := 0x200045C018
def SF_VAL_LEV_MIN : Fld := ⟨0, 8⟩
def SF_VAL_MREF_MIN : Fld := ⟨8, 8⟩
def SF_VAL_FM_MIN : Fld := ⟨16, 4⟩
def SF_VAL_BAND_MIN : Fld := ⟨20, 4⟩
def SF_UPD_LO : Nat := 0x200045C020
def SF_UPD_LO_U : Fld := ⟨0, 32⟩
def SF_UPD_HI : Nat := 0x200045C024
def SF_UPD_HI_U : Fld := ⟨0, 32⟩
def SF_Z_z_CFG (z : Nat) : Nat := 0x200045D000 + z * 0x20
def SF_Z_z_CFG_EN : Fld := ⟨0, 1⟩
def SF_Z_z_CFG_MIC_EN : Fld := ⟨1, 4⟩
def SF_Z_z_CFG_ZMODE : Fld := ⟨5, 1⟩
def SF_Z_z_DLY (z : Nat) : Nat := 0x200045D004 + z * 0x20
def SF_Z_z_DLY_DLY0 : Fld := ⟨0, 8⟩
def SF_Z_z_DLY_DLY1 : Fld := ⟨8, 8⟩
def SF_Z_z_DLY_DLY2 : Fld := ⟨16, 8⟩
def SF_Z_z_DLY_DLY3 : Fld := ⟨24, 8⟩
def SF_Z_z_STAT (z : Nat) : Nat := 0x200045D008 + z * 0x20
def SF_Z_z_STAT_STI : Fld := ⟨0, 9⟩
def SF_Z_z_STAT_VALID : Fld := ⟨9, 7⟩
def SF_Z_z_STAT_CONF : Fld := ⟨16, 8⟩
def SF_Z_z_STAT_HELD : Fld := ⟨24, 1⟩
def SF_Z_z_TRIM (z : Nat) : Nat := 0x200045D00C + z * 0x20
def SF_Z_z_TRIM_GAIN : Fld := ⟨0, 8⟩
def SF_Z_z_TRIM_EQ (z : Nat) : Nat := 0x200045D010 + z * 0x20
def SF_Z_z_TRIM_EQ_EQ0 : Fld := ⟨0, 4⟩
def SF_Z_z_TRIM_EQ_EQ1 : Fld := ⟨4, 4⟩
def SF_Z_z_TRIM_EQ_EQ2 : Fld := ⟨8, 4⟩
def SF_Z_z_TRIM_EQ_EQ3 : Fld := ⟨12, 4⟩
def SF_Z_z_TRIM_EQ_EQ4 : Fld := ⟨16, 4⟩
def SF_Z_z_TRIM_EQ_EQ5 : Fld := ⟨20, 4⟩
def SF_Z_z_TRIM_EQ_EQ6 : Fld := ⟨24, 4⟩
def SF_Z_z_LIM (z : Nat) : Nat := 0x200045D014 + z * 0x20
def SF_Z_z_LIM_GUP : Fld := ⟨0, 8⟩
def SF_Z_z_LIM_GDN : Fld := ⟨8, 8⟩
def SF_Z_z_LIM_EQUP : Fld := ⟨16, 4⟩
def SF_Z_z_LIM_EQDN : Fld := ⟨20, 4⟩
def SF_Z_z_LIM_SLEW : Fld := ⟨24, 8⟩
def SF_Z_z_TEFF (z : Nat) : Nat := 0x200045D018 + z * 0x20
def SF_Z_z_TEFF_GAIN : Fld := ⟨0, 8⟩
def SF_Z_z_TEFF_EQ (z : Nat) : Nat := 0x200045D01C + z * 0x20
def SF_Z_z_TEFF_EQ_EQ0 : Fld := ⟨0, 4⟩
def SF_Z_z_TEFF_EQ_EQ1 : Fld := ⟨4, 4⟩
def SF_Z_z_TEFF_EQ_EQ2 : Fld := ⟨8, 4⟩
def SF_Z_z_TEFF_EQ_EQ3 : Fld := ⟨12, 4⟩
def SF_Z_z_TEFF_EQ_EQ4 : Fld := ⟨16, 4⟩
def SF_Z_z_TEFF_EQ_EQ5 : Fld := ⟨20, 4⟩
def SF_Z_z_TEFF_EQ_EQ6 : Fld := ⟨24, 4⟩
/-! Registers of spec/09_message_store_and_holdover.md -/

def MS_ID : Nat := 0x2000450000
def MS_ID_ID : Fld := ⟨0, 32⟩
def MS_CTL : Nat := 0x2000450004
def MS_CTL_PLAY_EN : Fld := ⟨0, 1⟩
def MS_CTL_REC_EN : Fld := ⟨1, 1⟩
def MS_CTL_HS_EN : Fld := ⟨2, 1⟩
def MS_STAT : Nat := 0x2000450008
def MS_STAT_MIRROR : Fld := ⟨0, 2⟩
def MS_STAT_RESYNC : Fld := ⟨2, 1⟩
def MS_STAT_SUBST : Fld := ⟨3, 1⟩
def MS_STAT_SUBST_EVT : Fld := ⟨4, 1⟩
def MS_EMER_LO : Nat := 0x2000450010
def MS_EMER_LO_EMER : Fld := ⟨21, 11⟩
def MS_EMER_HI : Nat := 0x2000450014
def MS_EMER_HI_EMER : Fld := ⟨0, 8⟩
def MS_EMER_SIZE : Nat := 0x2000450018
def MS_EMER_SIZE_MIB : Fld := ⟨0, 10⟩
def MS_PL_c_CTL (c : Nat) : Nat := 0x2000451000 + c * 0x20
def MS_PL_c_CTL_EN : Fld := ⟨0, 1⟩
def MS_PL_c_CTL_FMT : Fld := ⟨1, 1⟩
def MS_PL_c_START_LO (c : Nat) : Nat := 0x2000451004 + c * 0x20
def MS_PL_c_START_LO_START : Fld := ⟨0, 32⟩
def MS_PL_c_START_HI (c : Nat) : Nat := 0x2000451008 + c * 0x20
def MS_PL_c_START_HI_START : Fld := ⟨0, 32⟩
def MS_PL_c_BUF_LO (c : Nat) : Nat := 0x200045100C + c * 0x20
def MS_PL_c_BUF_LO_BUF : Fld := ⟨0, 32⟩
def MS_PL_c_BUF_HI (c : Nat) : Nat := 0x2000451010 + c * 0x20
def MS_PL_c_BUF_HI_BUF : Fld := ⟨0, 8⟩
def MS_PL_c_SAMPLES (c : Nat) : Nat := 0x2000451014 + c * 0x20
def MS_PL_c_SAMPLES_SAMPLES : Fld := ⟨0, 27⟩
def MS_PL_c_PERIOD (c : Nat) : Nat := 0x2000451018 + c * 0x20
def MS_PL_c_PERIOD_PERIOD : Fld := ⟨0, 32⟩
def MS_PL_c_STAT (c : Nat) : Nat := 0x200045101C + c * 0x20
def MS_PL_c_STAT_PLAYING : Fld := ⟨0, 1⟩
def MS_PL_c_STAT_IMG_ERR : Fld := ⟨1, 1⟩
def MS_PL_c_STAT_PLAY : Fld := ⟨16, 16⟩
def MS_HS_k_CFG (k : Nat) : Nat := 0x2000453000 + k * 0x8
def MS_HS_k_CFG_ECH : Fld := ⟨0, 13⟩
def MS_HS_k_CFG_PCH : Fld := ⟨16, 8⟩
def MS_HS_k_CFG_EN : Fld := ⟨31, 1⟩
def MS_HS_k_STAT (k : Nat) : Nat := 0x2000453004 + k * 0x8
def MS_HS_k_STAT_ACTIVE : Fld := ⟨0, 1⟩
def MS_HS_k_STAT_FRAMES : Fld := ⟨16, 16⟩
def MS_REC_s_CFG (s : Nat) : Nat := 0x2000454000 + s * 0x10
def MS_REC_s_CFG_EN : Fld := ⟨0, 1⟩
def MS_REC_s_CFG_RING : Fld := ⟨16, 16⟩
def MS_REC_s_BUF_LO (s : Nat) : Nat := 0x2000454004 + s * 0x10
def MS_REC_s_BUF_LO_BUF : Fld := ⟨20, 12⟩
def MS_REC_s_BUF_HI (s : Nat) : Nat := 0x2000454008 + s * 0x10
def MS_REC_s_BUF_HI_BUF : Fld := ⟨0, 8⟩
def MS_REC_s_STAT (s : Nat) : Nat := 0x200045400C + s * 0x10
def MS_REC_s_STAT_HALF : Fld := ⟨0, 1⟩
def MS_REC_s_STAT_DROP : Fld := ⟨1, 1⟩
def MS_REC_s_STAT_FULL : Fld := ⟨2, 1⟩
def MS_PL_c_REPEATS (c : Nat) : Nat := 0x2000455000 + c * 0x4
def MS_PL_c_REPEATS_REPEATS : Fld := ⟨0, 32⟩
def NV_ID : Nat := 0x2000467000
def NV_ID_ID : Fld := ⟨0, 32⟩
def NV_p_CTL (p : Nat) : Nat := 0x2000467100 + p * 0x40
def NV_p_CTL_EN : Fld := ⟨0, 1⟩
def NV_p_CTL_PREF : Fld := ⟨1, 1⟩
def NV_p_STAT (p : Nat) : Nat := 0x2000467104 + p * 0x40
def NV_p_STAT_LINK : Fld := ⟨0, 1⟩
def NV_p_STAT_SPEED : Fld := ⟨1, 2⟩
def NV_p_STAT_WIDTH : Fld := ⟨3, 1⟩
def NV_p_STAT_READY : Fld := ⟨4, 1⟩
def NV_p_STAT_FAILED : Fld := ⟨5, 1⟩
def NV_p_STAT_FMT_REFUSED : Fld := ⟨6, 1⟩
def NV_p_TMO (p : Nat) : Nat := 0x2000467108 + p * 0x40
def NV_p_TMO_MS : Fld := ⟨0, 16⟩
def NV_p_ERRCNT (p : Nat) : Nat := 0x200046710C + p * 0x40
def NV_p_ERRCNT_READ_ERR : Fld := ⟨0, 16⟩
def NV_p_ERRCNT_REPAIRED : Fld := ⟨16, 16⟩
/-! Registers of spec/10_queue_manager.md -/

def QM_ID : Nat := 0x2000448000
def QM_ID_ID : Fld := ⟨0, 32⟩
def QM_CTL : Nat := 0x2000448004
def QM_CTL_EN : Fld := ⟨0, 1⟩
def QM_CTL_INIT_DESC : Fld := ⟨1, 1⟩
def QM_CTL_INIT_POOL : Fld := ⟨2, 1⟩
def QM_CTL_WB : Fld := ⟨3, 1⟩
def QM_STAT : Nat := 0x2000448008
def QM_STAT_EN_OUT : Fld := ⟨0, 1⟩
def QM_STAT_DESC_BUSY : Fld := ⟨1, 1⟩
def QM_STAT_POOL_BUSY : Fld := ⟨2, 1⟩
def QM_STAT_WB_BUSY : Fld := ⟨3, 1⟩
def QM_DESC_LO : Nat := 0x2000448010
def QM_DESC_LO_DESC : Fld := ⟨24, 8⟩
def QM_DESC_HI : Nat := 0x2000448014
def QM_DESC_HI_DESC : Fld := ⟨0, 8⟩
def QM_POOL_LO : Nat := 0x2000448018
def QM_POOL_LO_POOL : Fld := ⟨20, 12⟩
def QM_POOL_HI : Nat := 0x200044801C
def QM_POOL_HI_POOL : Fld := ⟨0, 8⟩
def QM_POOL_SIZE : Nat := 0x2000448020
def QM_POOL_SIZE_ELEMS : Fld := ⟨0, 25⟩
def QM_FREE_CNT : Nat := 0x2000448024
def QM_FREE_CNT_COUNT : Fld := ⟨0, 25⟩
def QM_ERR : Nat := 0x2000448030
def QM_ERR_DENIED : Fld := ⟨0, 1⟩
def QM_ERR_CLOSED : Fld := ⟨1, 1⟩
def QM_ERR_BADINDEX : Fld := ⟨2, 1⟩
def QM_ERR_FULL : Fld := ⟨3, 1⟩
def QM_ERR_ILLEGAL : Fld := ⟨4, 1⟩
def QM_ERR_ECC : Fld := ⟨5, 1⟩
def QM_ERR_CFG_WRITER : Fld := ⟨6, 1⟩
def QM_ERR_CFG_CODE : Fld := ⟨7, 1⟩
def QM_ERR_PIN_FULL : Fld := ⟨8, 1⟩
def QM_ERR_BUSY : Fld := ⟨9, 1⟩
def QM_ERR_Q : Nat := 0x2000448034
def QM_ERR_Q_Q : Fld := ⟨0, 20⟩
def QM_ERR_Q_OP : Fld := ⟨20, 4⟩
def QM_ERR_Q_STATUS : Fld := ⟨24, 3⟩
def QM_CACHE_HIT : Nat := 0x2000448038
def QM_CACHE_HIT_COUNT : Fld := ⟨0, 32⟩
def QM_CACHE_MISS : Nat := 0x200044803C
def QM_CACHE_MISS_COUNT : Fld := ⟨0, 32⟩
def QM_QSEL : Nat := 0x2000448040
def QM_QSEL_Q : Fld := ⟨0, 20⟩
def QM_QCFG : Nat := 0x2000448044
def QM_QCFG_OWNER : Fld := ⟨0, 8⟩
def QM_QCFG_PIN : Fld := ⟨8, 1⟩
def QM_QLIM : Nat := 0x2000448048
def QM_QLIM_LIMIT : Fld := ⟨0, 25⟩
def QM_QSTAT : Nat := 0x200044804C
def QM_QSTAT_COUNT : Fld := ⟨0, 25⟩
def QM_QSTAT_CACHED : Fld := ⟨25, 1⟩
def QM_QSTAT_NONEMPTY : Fld := ⟨26, 1⟩
def QM_W_w_CFG (w : Nat) : Nat := 0x2000449000 + w * 0x4
def QM_W_w_CFG_QUEUE : Fld := ⟨0, 20⟩
def QM_W_w_CFG_GROUP : Fld := ⟨30, 1⟩
def QM_W_w_CFG_EN : Fld := ⟨31, 1⟩
def QM_W_PEND_i (i : Nat) : Nat := 0x200044D000 + i * 0x4
def QM_W_PEND_i_PEND : Fld := ⟨0, 32⟩
/-! Registers of spec/11_dma_engines.md -/

def DMA_t_CH_c_W0 (t c : Nat) : Nat := 0x1000C10800 + t * 0x1000000 + c * 0x40
def DMA_t_CH_c_W0_SRC_LO : Fld := ⟨0, 32⟩
def DMA_t_CH_c_W1 (t c : Nat) : Nat := 0x1000C10804 + t * 0x1000000 + c * 0x40
def DMA_t_CH_c_W1_SRC_HI : Fld := ⟨0, 8⟩
def DMA_t_CH_c_W1_SW : Fld := ⟨8, 3⟩
def DMA_t_CH_c_W1_SMODE : Fld := ⟨12, 2⟩
def DMA_t_CH_c_W2 (t c : Nat) : Nat := 0x1000C10808 + t * 0x1000000 + c * 0x40
def DMA_t_CH_c_W2_DST_LO : Fld := ⟨0, 32⟩
def DMA_t_CH_c_W3 (t c : Nat) : Nat := 0x1000C1080C + t * 0x1000000 + c * 0x40
def DMA_t_CH_c_W3_DST_HI : Fld := ⟨0, 8⟩
def DMA_t_CH_c_W3_DW : Fld := ⟨8, 3⟩
def DMA_t_CH_c_W3_DMODE : Fld := ⟨12, 2⟩
def DMA_t_CH_c_W4 (t c : Nat) : Nat := 0x1000C10810 + t * 0x1000000 + c * 0x40
def DMA_t_CH_c_W4_COUNT : Fld := ⟨0, 24⟩
def DMA_t_CH_c_W4_STATUS : Fld := ⟨24, 8⟩
def DMA_t_CH_c_W5 (t c : Nat) : Nat := 0x1000C10814 + t * 0x1000000 + c * 0x40
def DMA_t_CH_c_W5_IDX : Fld := ⟨0, 24⟩
def DMA_t_CH_c_W5_EOC : Fld := ⟨24, 1⟩
def DMA_t_CH_c_W5_INT : Fld := ⟨25, 1⟩
def DMA_t_CH_c_W5_JUST : Fld := ⟨26, 2⟩
def DMA_t_CH_c_W5_WB : Fld := ⟨28, 1⟩
def DMA_t_CH_c_W6 (t c : Nat) : Nat := 0x1000C10818 + t * 0x1000000 + c * 0x40
def DMA_t_CH_c_W6_LINK_LO : Fld := ⟨0, 32⟩
def DMA_t_CH_c_W7 (t c : Nat) : Nat := 0x1000C1081C + t * 0x1000000 + c * 0x40
def DMA_t_CH_c_W7_LINK_HI : Fld := ⟨0, 8⟩
def DMA_t_CH_c_CTL (t c : Nat) : Nat := 0x1000C10820 + t * 0x1000000 + c * 0x40
def DMA_t_CH_c_CTL_ARM : Fld := ⟨0, 1⟩
def DMA_t_CH_c_CTL_GO : Fld := ⟨1, 1⟩
def DMA_t_CH_c_CTL_STOP : Fld := ⟨2, 1⟩
def DMA_t_CH_c_CTL_RESET : Fld := ⟨3, 1⟩
def DMA_t_CH_c_CTL_APPEND : Fld := ⟨4, 1⟩
def DMA_t_CH_c_CTL_PRIO : Fld := ⟨8, 3⟩
def DMA_t_CH_c_CTL_TICK : Fld := ⟨11, 1⟩
def DMA_t_CH_c_CTL_RBURST : Fld := ⟨20, 4⟩
def DMA_t_CH_c_CTL_ERR_IE : Fld := ⟨24, 1⟩
def DMA_t_CH_c_STAT (t c : Nat) : Nat := 0x1000C10824 + t * 0x1000000 + c * 0x40
def DMA_t_CH_c_STAT_STATE : Fld := ⟨0, 3⟩
def DMA_t_CH_c_STAT_ARMED : Fld := ⟨3, 1⟩
def DMA_t_CH_c_STAT_APP_PEND : Fld := ⟨4, 1⟩
def DMA_t_CH_c_STAT_DONE : Fld := ⟨5, 1⟩
def DMA_t_CH_c_STAT_INCOMPLETE : Fld := ⟨6, 1⟩
def DMA_t_CH_c_STAT_REFUSED : Fld := ⟨7, 1⟩
def DMA_t_CH_c_STAT_STOPPED : Fld := ⟨8, 1⟩
def DMA_t_CH_c_STAT_ERR : Fld := ⟨12, 4⟩
def DMA_t_CH_c_STAT_DONE_CNT : Fld := ⟨16, 8⟩
def DMA_t_CH_c_REMAIN (t c : Nat) : Nat := 0x1000C10828 + t * 0x1000000 + c * 0x40
def DMA_t_CH_c_REMAIN_REMAIN : Fld := ⟨0, 24⟩
def DMA_t_CH_c_CUR_LO (t c : Nat) : Nat := 0x1000C1082C + t * 0x1000000 + c * 0x40
def DMA_t_CH_c_CUR_LO_CUR : Fld := ⟨0, 32⟩
def DMA_t_CH_c_CUR_HI (t c : Nat) : Nat := 0x1000C10830 + t * 0x1000000 + c * 0x40
def DMA_t_CH_c_CUR_HI_CUR : Fld := ⟨0, 8⟩
def DMA_t_CH_c_CUR_HI_MEM : Fld := ⟨31, 1⟩
def DMA_t_CH_c_NEXT_LO (t c : Nat) : Nat := 0x1000C10834 + t * 0x1000000 + c * 0x40
def DMA_t_CH_c_NEXT_LO_NEXT : Fld := ⟨5, 27⟩
def DMA_t_CH_c_NEXT_HI (t c : Nat) : Nat := 0x1000C10838 + t * 0x1000000 + c * 0x40
def DMA_t_CH_c_NEXT_HI_NEXT : Fld := ⟨0, 8⟩
def DMA_t_CH_c_NEXT_HI_VALID : Fld := ⟨31, 1⟩
def DMA_t_TMO (t : Nat) : Nat := 0x1000C10C00 + t * 0x1000000
def DMA_t_TMO_CYCLES : Fld := ⟨0, 20⟩
def DMA_t_BUSY (t : Nat) : Nat := 0x1000C10C04 + t * 0x1000000
def DMA_t_BUSY_CH : Fld := ⟨0, 16⟩
def TDMA_ID : Nat := 0x2000460000
def TDMA_ID_ID : Fld := ⟨0, 32⟩
def TDMA_TMO : Nat := 0x2000460004
def TDMA_TMO_CYCLES : Fld := ⟨0, 20⟩
def TDMA_BUSY_LO : Nat := 0x2000460008
def TDMA_BUSY_LO_CH : Fld := ⟨0, 32⟩
def TDMA_BUSY_HI : Nat := 0x200046000C
def TDMA_BUSY_HI_CH : Fld := ⟨0, 32⟩
def TDMA_CH_c_W0 (c : Nat) : Nat := 0x2000460100 + c * 0x40
def TDMA_CH_c_W0_SRC_LO : Fld := ⟨0, 32⟩
def TDMA_CH_c_W1 (c : Nat) : Nat := 0x2000460104 + c * 0x40
def TDMA_CH_c_W1_SRC_HI : Fld := ⟨0, 8⟩
def TDMA_CH_c_W1_SW : Fld := ⟨8, 3⟩
def TDMA_CH_c_W1_SMODE : Fld := ⟨12, 2⟩
def TDMA_CH_c_W2 (c : Nat) : Nat := 0x2000460108 + c * 0x40
def TDMA_CH_c_W2_DST_LO : Fld := ⟨0, 32⟩
def TDMA_CH_c_W3 (c : Nat) : Nat := 0x200046010C + c * 0x40
def TDMA_CH_c_W3_DST_HI : Fld := ⟨0, 8⟩
def TDMA_CH_c_W3_DW : Fld := ⟨8, 3⟩
def TDMA_CH_c_W3_DMODE : Fld := ⟨12, 2⟩
def TDMA_CH_c_W4 (c : Nat) : Nat := 0x2000460110 + c * 0x40
def TDMA_CH_c_W4_COUNT : Fld := ⟨0, 24⟩
def TDMA_CH_c_W4_STATUS : Fld := ⟨24, 8⟩
def TDMA_CH_c_W5 (c : Nat) : Nat := 0x2000460114 + c * 0x40
def TDMA_CH_c_W5_IDX : Fld := ⟨0, 24⟩
def TDMA_CH_c_W5_EOC : Fld := ⟨24, 1⟩
def TDMA_CH_c_W5_INT : Fld := ⟨25, 1⟩
def TDMA_CH_c_W5_JUST : Fld := ⟨26, 2⟩
def TDMA_CH_c_W5_WB : Fld := ⟨28, 1⟩
def TDMA_CH_c_W6 (c : Nat) : Nat := 0x2000460118 + c * 0x40
def TDMA_CH_c_W6_LINK_LO : Fld := ⟨0, 32⟩
def TDMA_CH_c_W7 (c : Nat) : Nat := 0x200046011C + c * 0x40
def TDMA_CH_c_W7_LINK_HI : Fld := ⟨0, 8⟩
def TDMA_CH_c_CTL (c : Nat) : Nat := 0x2000460120 + c * 0x40
def TDMA_CH_c_CTL_ARM : Fld := ⟨0, 1⟩
def TDMA_CH_c_CTL_GO : Fld := ⟨1, 1⟩
def TDMA_CH_c_CTL_STOP : Fld := ⟨2, 1⟩
def TDMA_CH_c_CTL_RESET : Fld := ⟨3, 1⟩
def TDMA_CH_c_CTL_APPEND : Fld := ⟨4, 1⟩
def TDMA_CH_c_CTL_PRIO : Fld := ⟨8, 3⟩
def TDMA_CH_c_CTL_REQ : Fld := ⟨12, 6⟩
def TDMA_CH_c_CTL_RBURST : Fld := ⟨20, 4⟩
def TDMA_CH_c_CTL_ERR_IE : Fld := ⟨24, 1⟩
def TDMA_CH_c_STAT (c : Nat) : Nat := 0x2000460124 + c * 0x40
def TDMA_CH_c_STAT_STATE : Fld := ⟨0, 3⟩
def TDMA_CH_c_STAT_ARMED : Fld := ⟨3, 1⟩
def TDMA_CH_c_STAT_APP_PEND : Fld := ⟨4, 1⟩
def TDMA_CH_c_STAT_DONE : Fld := ⟨5, 1⟩
def TDMA_CH_c_STAT_INCOMPLETE : Fld := ⟨6, 1⟩
def TDMA_CH_c_STAT_REFUSED : Fld := ⟨7, 1⟩
def TDMA_CH_c_STAT_STOPPED : Fld := ⟨8, 1⟩
def TDMA_CH_c_STAT_ERR : Fld := ⟨12, 4⟩
def TDMA_CH_c_STAT_DONE_CNT : Fld := ⟨16, 8⟩
def TDMA_CH_c_REMAIN (c : Nat) : Nat := 0x2000460128 + c * 0x40
def TDMA_CH_c_REMAIN_REMAIN : Fld := ⟨0, 24⟩
def TDMA_CH_c_CUR_LO (c : Nat) : Nat := 0x200046012C + c * 0x40
def TDMA_CH_c_CUR_LO_CUR : Fld := ⟨0, 32⟩
def TDMA_CH_c_CUR_HI (c : Nat) : Nat := 0x2000460130 + c * 0x40
def TDMA_CH_c_CUR_HI_CUR : Fld := ⟨0, 8⟩
def TDMA_CH_c_CUR_HI_MEM : Fld := ⟨31, 1⟩
def TDMA_CH_c_NEXT_LO (c : Nat) : Nat := 0x2000460134 + c * 0x40
def TDMA_CH_c_NEXT_LO_NEXT : Fld := ⟨5, 27⟩
def TDMA_CH_c_NEXT_HI (c : Nat) : Nat := 0x2000460138 + c * 0x40
def TDMA_CH_c_NEXT_HI_NEXT : Fld := ⟨0, 8⟩
def TDMA_CH_c_NEXT_HI_VALID : Fld := ⟨31, 1⟩
/-! Registers of spec/12_interrupt_exchange.md -/

def IC_ID : Nat := 0x2000440000
def IC_ID_ID : Fld := ⟨0, 32⟩
def IC_FAULT : Nat := 0x2000440010
def IC_FAULT_TARGET : Fld := ⟨0, 6⟩
def IC_FAULT_VALID : Fld := ⟨31, 1⟩
def IC_FAULT_NUM : Nat := 0x2000440014
def IC_FAULT_NUM_WRITTEN : Fld := ⟨0, 10⟩
def IC_FAULT_NUM_TOP : Fld := ⟨16, 10⟩
def IC_PEND_SET_i (i : Nat) : Nat := 0x2000440100 + i * 0x4
def IC_PEND_SET_i_PEND : Fld := ⟨0, 32⟩
def IC_PEND_CLR_i (i : Nat) : Nat := 0x2000440180 + i * 0x4
def IC_PEND_CLR_i_PEND : Fld := ⟨0, 32⟩
def IC_EN_SET_i (i : Nat) : Nat := 0x2000440200 + i * 0x4
def IC_EN_SET_i_EN : Fld := ⟨0, 32⟩
def IC_EN_CLR_i (i : Nat) : Nat := 0x2000440280 + i * 0x4
def IC_EN_CLR_i_EN : Fld := ⟨0, 32⟩
def IC_SERV_i (i : Nat) : Nat := 0x2000440300 + i * 0x4
def IC_SERV_i_SERV : Fld := ⟨0, 32⟩
def IC_GRP_g_HOLD (g : Nat) : Nat := 0x2000440400 + g * 0x4
def IC_GRP_g_HOLD_US : Fld := ⟨0, 16⟩
def IC_GRP_g_HOLD_RUN : Fld := ⟨16, 1⟩
def IC_EDGE_e_CFG (e : Nat) : Nat := 0x2000440600 + e * 0x4
def IC_EDGE_e_CFG_POL : Fld := ⟨0, 2⟩
def IC_EDGE_e_CFG_LATCH : Fld := ⟨2, 1⟩
def IC_T_k_THRESH (k : Nat) : Nat := 0x2000441000 + k * 0x10
def IC_T_k_THRESH_THRESH : Fld := ⟨0, 4⟩
def IC_T_k_CLAIM (k : Nat) : Nat := 0x2000441004 + k * 0x10
def IC_T_k_CLAIM_SRC : Fld := ⟨0, 10⟩
def IC_T_k_COMPLETE (k : Nat) : Nat := 0x2000441008 + k * 0x10
def IC_T_k_COMPLETE_SRC : Fld := ⟨0, 10⟩
def IC_T_k_STAT (k : Nat) : Nat := 0x200044100C + k * 0x10
def IC_T_k_STAT_PRES : Fld := ⟨0, 10⟩
def IC_T_k_STAT_TOP_PRIO : Fld := ⟨12, 4⟩
def IC_T_k_STAT_DEPTH : Fld := ⟨16, 5⟩
def IC_T_k_STAT_ASLEEP : Fld := ⟨21, 1⟩
def IC_T_k_STAT_TOP : Fld := ⟨22, 10⟩
def IC_SRC_s_CFG (s : Nat) : Nat := 0x2000442000 + s * 0x4
def IC_SRC_s_CFG_PRIO : Fld := ⟨0, 4⟩
def IC_SRC_s_CFG_WAKE : Fld := ⟨4, 1⟩
def IC_SRC_s_CFG_GROUP : Fld := ⟨8, 6⟩
def IC_SRC_s_MASK_LO (s : Nat) : Nat := 0x2000444000 + s * 0x8
def IC_SRC_s_MASK_LO_T : Fld := ⟨0, 32⟩
def IC_SRC_s_MASK_HI (s : Nat) : Nat := 0x2000444004 + s * 0x8
def IC_SRC_s_MASK_HI_T : Fld := ⟨0, 18⟩
/-! Registers of spec/13_clove_and_sumac_processors.md -/

def SU_ID : Nat := 0x2000000000
def SU_ID_ID : Fld := ⟨0, 32⟩
def SU_c_CTL (c : Nat) : Nat := 0x2000001000 + c * 0x1000
def SU_c_CTL_DT_LOCK : Fld := ⟨0, 1⟩
def SU_c_CTL_CUST_OPEN : Fld := ⟨1, 1⟩
def SU_c_STAT (c : Nat) : Nat := 0x2000001004 + c * 0x1000
def SU_c_STAT_MCHK : Fld := ⟨0, 1⟩
def SU_c_DT_VER (c : Nat) : Nat := 0x2000001008 + c * 0x1000
def SU_c_DT_VER_BASE : Fld := ⟨0, 16⟩
def SU_c_DT_VER_CUST : Fld := ⟨16, 16⟩
def SU_c_DT_ERR (c : Nat) : Nat := 0x200000100C + c * 0x1000
def SU_c_DT_ERR_LOCKED : Fld := ⟨0, 1⟩
def SU_c_DT_ERR_RANGE : Fld := ⟨1, 1⟩
def SU_c_DT_ERR_CUST_RANGE : Fld := ⟨2, 1⟩
def SU_c_DT_ERR_BUSY : Fld := ⟨3, 1⟩
def SU_c_p_CTL (c p : Nat) : Nat := 0x2000001100 + c * 0x1000 + p * 0x20
def SU_c_p_CTL_START : Fld := ⟨0, 1⟩
def SU_c_p_CTL_HALT : Fld := ⟨1, 1⟩
def SU_c_p_CTL_RESET : Fld := ⟨2, 1⟩
def SU_c_p_CTL_RSWRAP : Fld := ⟨3, 1⟩
def SU_c_p_STAT (c p : Nat) : Nat := 0x2000001104 + c * 0x1000 + p * 0x20
def SU_c_p_STAT_STATE : Fld := ⟨0, 3⟩
def SU_c_p_STAT_SIG : Fld := ⟨3, 1⟩
def SU_c_p_STAT_OSD : Fld := ⟨4, 5⟩
def SU_c_p_STAT_RSD : Fld := ⟨9, 4⟩
def SU_c_p_STAT_LOAD_DISCARD : Fld := ⟨13, 1⟩
def SU_c_p_PC (c p : Nat) : Nat := 0x2000001108 + c * 0x1000 + p * 0x20
def SU_c_p_PC_PC : Fld := ⟨0, 12⟩
def SU_c_p_TRAP (c p : Nat) : Nat := 0x200000110C + c * 0x1000 + p * 0x20
def SU_c_p_TRAP_PC : Fld := ⟨0, 12⟩
def SU_c_p_TRAP_CAUSE : Fld := ⟨12, 4⟩
def SU_c_p_TRAP_ARG : Fld := ⟨16, 8⟩
def SU_c_p_EVQ (c p : Nat) : Nat := 0x2000001110 + c * 0x1000 + p * 0x20
def SU_c_p_EVQ_W : Fld := ⟨0, 12⟩
def SU_c_p_EVQ_EN : Fld := ⟨31, 1⟩
def SU_c_p_DOORBELL (c p : Nat) : Nat := 0x2000001114 + c * 0x1000 + p * 0x20
def SU_c_p_DOORBELL_RING : Fld := ⟨0, 1⟩
def SU_c_DT_e (c e : Nat) : Nat := 0x2000001400 + c * 0x1000 + e * 0x4
def SU_c_DT_e_ENTRY : Fld := ⟨0, 32⟩
def CV_ID : Nat := 0x2000468000
def CV_ID_ID : Fld := ⟨0, 32⟩
def CV_CTL : Nat := 0x2000468004
def CV_CTL_RSWRAP : Fld := ⟨0, 1⟩
def CV_CTL_DT_LOCK : Fld := ⟨1, 1⟩
def CV_CTL_XIP_EN : Fld := ⟨2, 1⟩
def CV_CTL_XIP_INV : Fld := ⟨3, 1⟩
def CV_CTL_CUST_OPEN : Fld := ⟨4, 1⟩
def CV_STAT : Nat := 0x2000468008
def CV_STAT_STATE : Fld := ⟨0, 3⟩
def CV_STAT_IN_TRAP : Fld := ⟨3, 1⟩
def CV_STAT_IE : Fld := ⟨4, 1⟩
def CV_STAT_OSD : Fld := ⟨5, 6⟩
def CV_STAT_RSD : Fld := ⟨11, 6⟩
def CV_PC : Nat := 0x200046800C
def CV_PC_PC : Fld := ⟨0, 24⟩
def CV_TRAP : Nat := 0x2000468010
def CV_TRAP_PC : Fld := ⟨0, 24⟩
def CV_TRAP_CAUSE : Fld := ⟨24, 4⟩
def CV_LS_STAT : Nat := 0x2000468020
def CV_LS_STAT_RETRY_CNT : Fld := ⟨0, 8⟩
def CV_LS_STAT_KIND : Fld := ⟨8, 3⟩
def CV_LS_PC : Nat := 0x2000468024
def CV_LS_PC_PC : Fld := ⟨0, 24⟩
def CV_LS_INJ : Nat := 0x2000468028
def CV_LS_INJ_GO : Fld := ⟨0, 1⟩
def CV_DT_VER : Nat := 0x2000468030
def CV_DT_VER_BASE : Fld := ⟨0, 16⟩
def CV_DT_VER_CUST : Fld := ⟨16, 16⟩
def CV_DT_ERR : Nat := 0x2000468034
def CV_DT_ERR_LOCKED : Fld := ⟨0, 1⟩
def CV_DT_ERR_RANGE : Fld := ⟨1, 1⟩
def CV_DT_ERR_CUST_RANGE : Fld := ⟨2, 1⟩
def CV_DT_ERR_BUSY : Fld := ⟨3, 1⟩
def CV_FPU_u_ADDR (u : Nat) : Nat := 0x2000468100 + u * 0x8
def CV_FPU_u_ADDR_ADDR : Fld := ⟨0, 24⟩
def CV_FPU_u_ADDR_EN : Fld := ⟨31, 1⟩
def CV_FPU_u_DATA (u : Nat) : Nat := 0x2000468104 + u * 0x8
def CV_FPU_u_DATA_DATA : Fld := ⟨0, 16⟩
def CV_DT_e (e : Nat) : Nat := 0x2000468400 + e * 0x4
def CV_DT_e_ENTRY : Fld := ⟨0, 32⟩
/-! Registers of spec/14_microcode_and_control_stores.md -/

def MC_ID : Nat := 0x2000300000
def MC_ID_ID : Fld := ⟨0, 32⟩
def MC_CV_CTL : Nat := 0x2000300004
def MC_CV_CTL_SWAP : Fld := ⟨0, 1⟩
def MC_CV_CTL_LOCK : Fld := ⟨1, 1⟩
def MC_CV_STAT : Nat := 0x2000300008
def MC_CV_STAT_UPC : Fld := ⟨0, 11⟩
def MC_CV_STAT_WAITING : Fld := ⟨11, 1⟩
def MC_CV_STAT_BANK : Fld := ⟨12, 1⟩
def MC_CV_STAT_SWAP_PEND : Fld := ⟨13, 1⟩
def MC_CV_STAT_URS_OVF : Fld := ⟨14, 1⟩
def MC_ERR : Nat := 0x200030000C
def MC_ERR_WR_LOCKED : Fld := ⟨0, 1⟩
def MC_ERR_WR_BUSY : Fld := ⟨1, 1⟩
def MC_ERR_WR_CUST : Fld := ⟨2, 1⟩
def MC_ERR_ROMP_LOCKED : Fld := ⟨3, 1⟩
def MC_ERR_ROMP_RANGE : Fld := ⟨4, 1⟩
def MC_ERR_PERR_READ : Fld := ⟨5, 1⟩
def MC_PERR : Nat := 0x2000300010
def MC_PERR_ADDR : Fld := ⟨0, 11⟩
def MC_PERR_UNIT : Fld := ⟨12, 4⟩
def MC_PERR_TABLE : Fld := ⟨16, 1⟩
def MC_PERR_GROUP : Fld := ⟨17, 2⟩
def MC_PERR_VALID : Fld := ⟨31, 1⟩
def MC_ROMP_CTL : Nat := 0x2000300020
def MC_ROMP_CTL_LOCK : Fld := ⟨0, 1⟩
def MC_ROM_VER : Nat := 0x2000300024
def MC_ROM_VER_MINOR : Fld := ⟨0, 16⟩
def MC_ROM_VER_MAJOR : Fld := ⟨16, 16⟩
def MC_SU_c_CTL (c : Nat) : Nat := 0x2000300100 + c * 0x4
def MC_SU_c_CTL_LOCK : Fld := ⟨0, 1⟩
def MC_ROMP_m_MATCH (m : Nat) : Nat := 0x2000300200 + m * 0x4
def MC_ROMP_m_MATCH_ADDR : Fld := ⟨0, 16⟩
def MC_ROMP_m_MATCH_LEN : Fld := ⟨16, 4⟩
def MC_ROMP_m_MATCH_PADDR : Fld := ⟨20, 10⟩
def MC_ROMP_m_MATCH_EN : Fld := ⟨31, 1⟩
def MC_CV_ADT_e (e : Nat) : Nat := 0x2000300800 + e * 0x4
def MC_CV_ADT_e_ENTRY : Fld := ⟨0, 32⟩
/-! Registers of spec/15_mailboxes_and_molalrik_commands.md -/

def MB_i_STAT (i : Nat) : Nat := 0x20003F0000 + i * 0x20
def MB_i_STAT_REQ_PEND : Fld := ⟨0, 1⟩
def MB_i_STAT_REQ_BUSY : Fld := ⟨1, 1⟩
def MB_i_STAT_RPL_VALID : Fld := ⟨2, 1⟩
def MB_i_STAT_RING_IGN : Fld := ⟨3, 1⟩
def MB_i_STAT_WR_BUSY : Fld := ⟨4, 1⟩
def MB_i_STAT_POST_IGN : Fld := ⟨5, 1⟩
def MB_i_DOORBELL (i : Nat) : Nat := 0x20003F0004 + i * 0x20
def MB_i_DOORBELL_RING : Fld := ⟨0, 1⟩
def MB_i_DOORBELL_ACK : Fld := ⟨1, 1⟩
def MB_i_DOORBELL_ABORT : Fld := ⟨2, 1⟩
def MB_i_POST (i : Nat) : Nat := 0x20003F0008 + i * 0x20
def MB_i_POST_TAKE : Fld := ⟨0, 1⟩
def MB_i_POST_POST : Fld := ⟨1, 1⟩
def MB_i_PERM (i : Nat) : Nat := 0x20003F000C + i * 0x20
def MB_i_PERM_GROUPS : Fld := ⟨0, 10⟩
def MB_i_PERM_MGMT : Fld := ⟨15, 1⟩
def MB_i_CNT (i : Nat) : Nat := 0x20003F0010 + i * 0x20
def MB_i_CNT_RINGS : Fld := ⟨0, 16⟩
def MB_i_CNT_ABORT_CNT : Fld := ⟨16, 8⟩
def MB_ID : Nat := 0x20003F0800
def MB_ID_ID : Fld := ⟨0, 32⟩
/-! Registers of spec/16_boot_and_security.md -/

def BT_ID : Nat := 0x2000469000
def BT_ID_ID : Fld := ⟨0, 32⟩
def BT_CTL : Nat := 0x2000469004
def BT_CTL_BOOT_DONE : Fld := ⟨0, 1⟩
def BT_CTL_COMMIT_RB : Fld := ⟨1, 1⟩
def BT_CTL_XIP_WP : Fld := ⟨2, 1⟩
def BT_STAT : Nat := 0x2000469008
def BT_STAT_RUN : Fld := ⟨0, 1⟩
def BT_STAT_MINIMAL : Fld := ⟨1, 1⟩
def BT_STAT_SLOT : Fld := ⟨2, 1⟩
def BT_STAT_LAST_SLOT : Fld := ⟨3, 1⟩
def BT_STAT_ATTEMPT : Fld := ⟨4, 3⟩
def BT_STAT_LIMIT : Fld := ⟨7, 3⟩
def BT_STAT_KIND : Fld := ⟨10, 1⟩
def BT_STAT_WIN : Fld := ⟨16, 8⟩
def BT_CAUSE : Nat := 0x200046900C
def BT_CAUSE_CODE : Fld := ⟨0, 8⟩
def BT_CAUSE_DETAIL : Fld := ⟨8, 8⟩
def BT_CAUSE_ENTRY : Fld := ⟨16, 6⟩
def BT_CAUSE_LAST : Fld := ⟨24, 2⟩
def SEC_ID : Nat := 0x200046A000
def SEC_ID_ID : Fld := ⟨0, 32⟩
def SEC_LCS : Nat := 0x200046A004
def SEC_LCS_LCS : Fld := ⟨0, 2⟩
def SEC_LCS_ROOT0_REVOKED : Fld := ⟨2, 1⟩
def SEC_LCS_ROOT1_REVOKED : Fld := ⟨3, 1⟩
def SEC_LCS_ROOT1_SET : Fld := ⟨4, 1⟩
def SEC_LCS_RB_CTR : Fld := ⟨8, 7⟩
def SEC_SERIAL_LO : Nat := 0x200046A008
def SEC_SERIAL_LO_SERIAL : Fld := ⟨0, 32⟩
def SEC_SERIAL_HI : Nat := 0x200046A00C
def SEC_SERIAL_HI_SERIAL : Fld := ⟨0, 32⟩
def SEC_DBG : Nat := 0x200046A010
def SEC_DBG_PERMS : Fld := ⟨0, 5⟩
def SEC_DBG_UNLOCKED : Fld := ⟨8, 1⟩
def SEC_DBG_LOCK : Fld := ⟨9, 1⟩
def SEC_ALARM : Nat := 0x200046A014
def SEC_ALARM_VGLITCH : Fld := ⟨0, 1⟩
def SEC_ALARM_CGLITCH : Fld := ⟨1, 1⟩
def SEC_ALARM_OTP_ERR : Fld := ⟨2, 1⟩
def SEC_ALARM_KEY_MISUSE : Fld := ⟨3, 1⟩
def SEC_ALARM_DBG_FAIL : Fld := ⟨4, 1⟩
def SEC_PKE_JOB_LO : Nat := 0x200046A040
def SEC_PKE_JOB_LO_JOB : Fld := ⟨6, 26⟩
def SEC_PKE_JOB_HI : Nat := 0x200046A044
def SEC_PKE_JOB_HI_JOB : Fld := ⟨0, 8⟩
def SEC_PKE_STAT : Nat := 0x200046A048
def SEC_PKE_STAT_BUSY : Fld := ⟨0, 1⟩
def SEC_PKE_STAT_DONE : Fld := ⟨1, 1⟩
def SEC_PKE_STAT_ERR : Fld := ⟨4, 4⟩
def SEC_HASH_JOB_LO : Nat := 0x200046A050
def SEC_HASH_JOB_LO_JOB : Fld := ⟨6, 26⟩
def SEC_HASH_JOB_HI : Nat := 0x200046A054
def SEC_HASH_JOB_HI_JOB : Fld := ⟨0, 8⟩
def SEC_HASH_STAT : Nat := 0x200046A058
def SEC_HASH_STAT_BUSY : Fld := ⟨0, 1⟩
def SEC_HASH_STAT_DONE : Fld := ⟨1, 1⟩
def SEC_HASH_STAT_ERR : Fld := ⟨4, 4⟩
def SEC_MEAS_k (k : Nat) : Nat := 0x200046A100 + k * 0x4
def SEC_MEAS_k_MEAS : Fld := ⟨0, 32⟩
def SEC_DBG_CHAL_k (k : Nat) : Nat := 0x200046A140 + k * 0x4
def SEC_DBG_CHAL_k_CHAL : Fld := ⟨0, 32⟩
/-! Registers of spec/17_clocks_reset_power_watchdogs.md -/

def CK_ID : Nat := 0x200046B000
def CK_ID_ID : Fld := ⟨0, 32⟩
def CK_CTL : Nat := 0x200046B004
def CK_CTL_XTAL_EN : Fld := ⟨0, 1⟩
def CK_CTL_AUTO_RETURN : Fld := ⟨1, 1⟩
def CK_CTL_RETURN : Fld := ⟨2, 1⟩
def CK_STAT : Nat := 0x200046B008
def CK_STAT_REF_LOST : Fld := ⟨0, 1⟩
def CK_STAT_REF_OK : Fld := ⟨1, 1⟩
def CK_STAT_XTAL_OK : Fld := ⟨2, 1⟩
def CK_STAT_REF_SEL : Fld := ⟨3, 1⟩
def CK_STAT_HOLD : Fld := ⟨4, 1⟩
def CK_STAT_FALLBACK : Fld := ⟨5, 1⟩
def CK_STAT_FREERUN : Fld := ⟨6, 1⟩
def CK_STAT_LOCK_LOST : Fld := ⟨8, 4⟩
def CK_STAT_LOCKED : Fld := ⟨12, 4⟩
def CK_GATE_LO : Nat := 0x200046B010
def CK_GATE_LO_GATE : Fld := ⟨0, 32⟩
def CK_GATE_HI : Nat := 0x200046B014
def CK_GATE_HI_GATE : Fld := ⟨0, 32⟩
def PM_ID : Nat := 0x200046C000
def PM_ID_ID : Fld := ⟨0, 32⟩
def PM_CTL : Nat := 0x200046C004
def PM_CTL_STBY : Fld := ⟨0, 1⟩
def PM_CTL_WAKE : Fld := ⟨1, 1⟩
def PM_STAT : Nat := 0x200046C008
def PM_STAT_TILE_ON : Fld := ⟨0, 12⟩
def PM_STAT_STANDBY : Fld := ⟨12, 1⟩
def PM_STAT_WAKE_REQ : Fld := ⟨16, 12⟩
def PM_TILE_CTL : Nat := 0x200046C00C
def PM_TILE_CTL_GATE : Fld := ⟨0, 12⟩
def PM_TILE_CTL_RET : Fld := ⟨16, 12⟩
def PM_TILE_WAKE : Nat := 0x200046C010
def PM_TILE_WAKE_AUTOWAKE : Fld := ⟨0, 12⟩
def PM_RST_CTL : Nat := 0x200046C014
def PM_RST_CTL_WARM : Fld := ⟨0, 1⟩
def PM_RST_CTL_TILE : Fld := ⟨1, 1⟩
def PM_RST_CTL_TILE_SEL : Fld := ⟨4, 4⟩
def PM_ERR : Nat := 0x200046C018
def PM_ERR_GATE_BUSY : Fld := ⟨0, 1⟩
def PM_ERR_STBY_BUSY : Fld := ⟨1, 1⟩
def PM_ERR_GATED : Fld := ⟨2, 1⟩
def PM_DDR_STAT : Nat := 0x200046C020
def PM_DDR_STAT_CH0_LOST : Fld := ⟨0, 1⟩
def PM_DDR_STAT_CH1_LOST : Fld := ⟨1, 1⟩
def PM_DDR_STAT_UNC_CNT : Fld := ⟨16, 16⟩
def WD_ID : Nat := 0x200046D000
def WD_ID_ID : Fld := ⟨0, 32⟩
def WD_RST_CAUSE : Nat := 0x200046D004
def WD_RST_CAUSE_AON_POR : Fld := ⟨0, 1⟩
def WD_RST_CAUSE_POR : Fld := ⟨1, 1⟩
def WD_RST_CAUSE_PIN : Fld := ⟨2, 1⟩
def WD_RST_CAUSE_WD_DEV : Fld := ⟨3, 1⟩
def WD_RST_CAUSE_WD_CV : Fld := ⟨4, 1⟩
def WD_RST_CAUSE_SOFT : Fld := ⟨5, 1⟩
def WD_RST_CAUSE_MCHK : Fld := ⟨6, 1⟩
def WD_RST_CAUSE_WINDOW : Fld := ⟨7, 1⟩
def WD_RST_CAUSE_PLL : Fld := ⟨8, 1⟩
def WD_DEV_CTL : Nat := 0x200046D010
def WD_DEV_CTL_EN : Fld := ⟨0, 1⟩
def WD_DEV_CTL_STBY_PAUSE : Fld := ⟨1, 1⟩
def WD_DEV_CFG : Nat := 0x200046D014
def WD_DEV_CFG_PERIOD : Fld := ⟨0, 16⟩
def WD_DEV_CFG_OPEN : Fld := ⟨16, 8⟩
def WD_DEV_CFG_WARN : Fld := ⟨24, 8⟩
def WD_DEV_PULSE : Nat := 0x200046D018
def WD_DEV_PULSE_PULSE : Fld := ⟨0, 16⟩
def WD_DEV_KICK : Nat := 0x200046D01C
def WD_DEV_KICK_KEY : Fld := ⟨0, 16⟩
def WD_DEV_STAT : Nat := 0x200046D020
def WD_DEV_STAT_ELAPSED : Fld := ⟨0, 16⟩
def WD_DEV_STAT_WARNED : Fld := ⟨16, 1⟩
def WD_DEV_STAT_DBG_RESUMED : Fld := ⟨17, 1⟩
def WD_DEV_STAT_FROZEN : Fld := ⟨18, 1⟩
def WD_CV_CFG : Nat := 0x200046D028
def WD_CV_CFG_PERIOD : Fld := ⟨0, 10⟩
def WD_CV_KICK : Nat := 0x200046D02C
def WD_CV_KICK_KEY : Fld := ⟨0, 16⟩
def WD_CV_STAT : Nat := 0x200046D030
def WD_CV_STAT_ELAPSED : Fld := ⟨0, 16⟩
def WD_CV_STAT_WARNED : Fld := ⟨16, 1⟩
def WD_CV_STAT_DBG_RESUMED : Fld := ⟨17, 1⟩
def WD_CV_STAT_FROZEN : Fld := ⟨18, 1⟩
def WD_SC_n_CFG (n : Nat) : Nat := 0x200046D100 + n * 0x8
def WD_SC_n_CFG_EN : Fld := ⟨0, 1⟩
def WD_SC_n_CFG_LIMIT : Fld := ⟨8, 8⟩
def WD_SC_n_STAT (n : Nat) : Nat := 0x200046D104 + n * 0x8
def WD_SC_n_STAT_TICKS : Fld := ⟨0, 8⟩
def WD_SC_n_STAT_EXPIRED : Fld := ⟨8, 1⟩
def WD_SC_n_STAT_DBG_RESUMED : Fld := ⟨9, 1⟩
/-! Registers of spec/18_debug_readback_black_box.md -/

def BB_ID : Nat := 0x2000280000
def BB_ID_ID : Fld := ⟨0, 32⟩
def BB_CTL : Nat := 0x2000280004
def BB_CTL_POST : Fld := ⟨0, 13⟩
def BB_CTL_REARM : Fld := ⟨16, 1⟩
def BB_STAT : Nat := 0x2000280008
def BB_STAT_FROZEN : Fld := ⟨0, 1⟩
def BB_STAT_ARMED : Fld := ⟨1, 1⟩
def BB_SEQ : Nat := 0x200028000C
def BB_SEQ_SEQ : Fld := ⟨0, 32⟩
def BB_TRIG_SEQ : Nat := 0x2000280010
def BB_TRIG_SEQ_SEQ : Fld := ⟨0, 32⟩
def BB_LOST : Nat := 0x2000280014
def BB_LOST_LOST : Fld := ⟨0, 32⟩
def BB_WR_ARG_k (k : Nat) : Nat := 0x2000280040 + k * 0x4
def BB_WR_ARG_k_ARG : Fld := ⟨0, 32⟩
def BB_WR_HDR : Nat := 0x2000280050
def BB_WR_HDR_CODE : Fld := ⟨0, 16⟩
def BB_WR_HDR_SOURCE : Fld := ⟨16, 16⟩
def DBG_ID : Nat := 0x2000400000
def DBG_ID_ID : Fld := ⟨0, 32⟩
def DBG_ERR : Nat := 0x2000400004
def DBG_ERR_DENIED : Fld := ⟨0, 1⟩
def DBG_ERR_WIN_RO : Fld := ⟨1, 1⟩
def DBG_AUTH_CTL : Nat := 0x2000400010
def DBG_AUTH_CTL_LEN : Fld := ⟨0, 18⟩
def DBG_AUTH_CTL_GO : Fld := ⟨31, 1⟩
def DBG_AUTH_STAT : Nat := 0x2000400014
def DBG_AUTH_STAT_BUSY : Fld := ⟨0, 1⟩
def DBG_AUTH_STAT_OK : Fld := ⟨1, 1⟩
def DBG_AUTH_STAT_FAIL : Fld := ⟨2, 1⟩
def DBG_AUTH_STAT_LOCKOUT : Fld := ⟨3, 1⟩
def DBG_WIN_SEL : Nat := 0x2000400020
def DBG_WIN_SEL_KIND : Fld := ⟨0, 4⟩
def DBG_WIN_SEL_INST : Fld := ⟨16, 12⟩
def DBG_WIN_STAT : Nat := 0x2000400024
def DBG_WIN_STAT_READY : Fld := ⟨0, 1⟩
def DBG_WIN_STAT_UNAVAIL : Fld := ⟨1, 1⟩
def DBG_CV_CTL : Nat := 0x2000400030
def DBG_CV_CTL_HOLD : Fld := ⟨0, 1⟩
def DBG_CV_CTL_HALT : Fld := ⟨1, 1⟩
def DBG_CV_CTL_STEP : Fld := ⟨2, 1⟩
def DBG_CV_CTL_RESUME : Fld := ⟨3, 1⟩
def DBG_SU_HOLD_i (i : Nat) : Nat := 0x2000400034 + i * 0x4
def DBG_SU_HOLD_i_HOLD : Fld := ⟨0, 32⟩
def DBG_SU_STEP : Nat := 0x2000400040
def DBG_SU_STEP_PROC : Fld := ⟨0, 7⟩
def DBG_SU_STEP_STEP : Fld := ⟨31, 1⟩
def DBG_SC_n_CTL (n : Nat) : Nat := 0x2000400100 + n * 0x40
def DBG_SC_n_CTL_FREEZE : Fld := ⟨0, 1⟩
def DBG_SC_n_CTL_BSTEP : Fld := ⟨1, 1⟩
def DBG_SC_n_HIT (n : Nat) : Nat := 0x2000400104 + n * 0x40
def DBG_SC_n_HIT_CAUSE : Fld := ⟨0, 3⟩
def DBG_SC_n_HIT_ACTION : Fld := ⟨3, 1⟩
def DBG_SC_n_HIT_PC : Fld := ⟨16, 12⟩
def DBG_SC_n_HIT_VALID : Fld := ⟨31, 1⟩
def DBG_SC_n_HIT_ADDR (n : Nat) : Nat := 0x2000400108 + n * 0x40
def DBG_SC_n_HIT_ADDR_ADDR : Fld := ⟨0, 24⟩
def DBG_SC_n_BP_k (n k : Nat) : Nat := 0x2000400110 + n * 0x40 + k * 0x4
def DBG_SC_n_BP_k_ADDR : Fld := ⟨0, 12⟩
def DBG_SC_n_BP_k_ACTION : Fld := ⟨30, 1⟩
def DBG_SC_n_BP_k_EN : Fld := ⟨31, 1⟩
def DBG_SC_n_WP_k_ADDR (n k : Nat) : Nat := 0x2000400120 + n * 0x40 + k * 0x8
def DBG_SC_n_WP_k_ADDR_ADDR : Fld := ⟨0, 24⟩
def DBG_SC_n_WP_k_CTL (n k : Nat) : Nat := 0x2000400124 + n * 0x40 + k * 0x8
def DBG_SC_n_WP_k_CTL_RD : Fld := ⟨0, 1⟩
def DBG_SC_n_WP_k_CTL_WR : Fld := ⟨1, 1⟩
def DBG_SC_n_WP_k_CTL_SIZE : Fld := ⟨2, 5⟩
def DBG_SC_n_WP_k_CTL_ACTION : Fld := ⟨30, 1⟩
def DBG_SC_n_WP_k_CTL_EN : Fld := ⟨31, 1⟩
def DBG_VT_t_OUT (t : Nat) : Nat := 0x2000400E00 + t * 0x10
def DBG_VT_t_OUT_OUT : Fld := ⟨0, 32⟩
def DBG_VT_t_IN (t : Nat) : Nat := 0x2000400E04 + t * 0x10
def DBG_VT_t_IN_IN : Fld := ⟨0, 32⟩
def DBG_VT_t_STAT (t : Nat) : Nat := 0x2000400E08 + t * 0x10
def DBG_VT_t_STAT_OUT_FULL : Fld := ⟨0, 1⟩
def DBG_VT_t_STAT_IN_FULL : Fld := ⟨1, 1⟩
def DBG_VT_t_STAT_OUT_OVF : Fld := ⟨2, 1⟩
def DBG_VT_t_STAT_IN_OVF : Fld := ⟨3, 1⟩
/-! Registers of spec/19_failures_load_and_mode_combinations.md -/

def PM_DDR_CFG : Nat := 0x200046C024
def PM_DDR_CFG_MIRROR : Fld := ⟨0, 1⟩
def PM_DDR_CFG_REDIR : Fld := ⟨1, 2⟩
/-! Registers of spec/20_address_map_and_register_index.md -/

def MB_OB_w_BASE (w : Nat) : Nat := 0x20003F3000 + w * 0x8
def MB_OB_w_BASE_HI : Fld := ⟨0, 32⟩
def MB_OB_w_CTL (w : Nat) : Nat := 0x20003F3004 + w * 0x8
def MB_OB_w_CTL_EN : Fld := ⟨0, 1⟩
def DBG_FERR : Nat := 0x2000401200
def DBG_FERR_PORT : Fld := ⟨0, 6⟩
def DBG_FERR_KIND : Fld := ⟨6, 2⟩
def DBG_FERR_WRITE : Fld := ⟨8, 1⟩
def DBG_FERR_VALID : Fld := ⟨31, 1⟩
def DBG_FERR_ADDR_LO : Nat := 0x2000401204
def DBG_FERR_ADDR_LO_ADDR : Fld := ⟨0, 32⟩
def DBG_FERR_ADDR_HI : Nat := 0x2000401208
def DBG_FERR_ADDR_HI_ADDR : Fld := ⟨0, 8⟩
def DBG_FERR_CNT : Nat := 0x200040120C
def DBG_FERR_CNT_COUNT : Fld := ⟨0, 16⟩

end Sys2Proof.Machine.R
end

