-- ==== Sys2Proof/Machine/RegTable.lean ====
section
/-! DEFINITION. The register table: for every register of the map its instance strides and counts
(R443), its reset value and the access type of every field (R11). Reserved fields are not listed:
they read 0 and ignore writes (R11, R12).
Choices and readings: log entry 4. -/

namespace Sys2Proof.Machine

def regRowsSX : List RegRow := [
  ⟨0x2000200000, [], 0x53580100, [], [⟨0, 32, .ro⟩]⟩ /- SX_ID -/,
  ⟨0x2000200004, [], 0x1000, [], [⟨0, 1, .rw⟩, ⟨4, 5, .rw⟩, ⟨12, 4, .rw⟩]⟩ /- SX_CTL -/,
  ⟨0x2000200008, [], 0x2, [], [⟨0, 3, .rw⟩]⟩ /- SX_CFG -/,
  ⟨0x200020000C, [], 0x0, [], [⟨0, 2, .ro⟩]⟩ /- SX_STAT -/,
  ⟨0x2000200010, [], 0x0, [], [⟨0, 32, .ro⟩]⟩ /- SX_FRAME_LO -/,
  ⟨0x2000200014, [], 0x0, [], [⟨0, 32, .ro⟩]⟩ /- SX_FRAME_HI -/,
  ⟨0x2000200018, [], 0x0, [], [⟨0, 32, .ro⟩]⟩ /- SX_BLOCK_LO -/,
  ⟨0x2000200020, [], 0x0, [], [⟨0, 1, .w1s⟩, ⟨1, 1, .wo⟩]⟩ /- SX_MAP_CTL -/,
  ⟨0x2000200024, [], 0x0, [], [⟨0, 2, .ro⟩]⟩ /- SX_MAP_STAT -/,
  ⟨0x2000200028, [], 0x0, [], [⟨0, 32, .ro⟩]⟩ /- SX_MAP_SWAPBLK -/,
  ⟨0x2000200030, [], 0x6, [], [⟨0, 3, .rw⟩]⟩ /- SX_PLANE_CTL -/,
  ⟨0x2000200034, [], 0x0, [], [⟨0, 1, .ro⟩, ⟨1, 4, .w1c⟩, ⟨5, 1, .ro⟩, ⟨6, 1, .w1c⟩, ⟨16, 16, .w1c⟩]⟩ /- SX_PLANE_STAT -/,
  ⟨0x2000200038, [], 0x12C0, [], [⟨0, 16, .rw⟩]⟩ /- SX_PLANE_HOLDOFF -/,
  ⟨0x200020003C, [], 0x0, [], [⟨0, 13, .ro⟩, ⟨16, 16, .ro⟩]⟩ /- SX_PLANE_MISSLOT -/,
  ⟨0x2000200040, [], 0x0, [], [⟨0, 13, .wo⟩, ⟨16, 1, .wo⟩, ⟨31, 1, .wo⟩]⟩ /- SX_PLANE_INJ -/,
  ⟨0x2000200050, [], 0x0, [], [⟨0, 6, .w1c⟩]⟩ /- SX_ERR -/,
  ⟨0x2000200054, [], 0x0, [], [⟨0, 32, .ro⟩]⟩ /- SX_ERR_SLOT -/,
  ⟨0x2000200100, [(12, 0x10)], 0x0, [], [⟨0, 11, .rw⟩, ⟨16, 11, .rw⟩]⟩ /- SX_TP_t_CFG -/,
  ⟨0x2000200104, [(12, 0x10)], 0x0, [], [⟨0, 11, .ro⟩, ⟨16, 11, .ro⟩]⟩ /- SX_TP_t_ACFG -/,
  ⟨0x2000200108, [(12, 0x10)], 0x0, [], [⟨0, 1, .w1s⟩, ⟨1, 2, .w1c⟩, ⟨3, 1, .wo⟩, ⟨8, 4, .ro⟩]⟩ /- SX_TP_t_STAT -/,
  ⟨0x200020010C, [(12, 0x10)], 0x0, [0x10001], [⟨0, 4, .rw⟩, ⟨16, 4, .ro⟩]⟩ /- SX_TP_t_PHYS -/]

def regRowsSCT0 : List RegRow := [
  ⟨0x1000C00000, [(12, 0x1000000), (4, 0x1000)], 0x0, [], [⟨0, 3, .wo⟩, ⟨4, 1, .wo⟩]⟩ /- SC_n_CTL -/,
  ⟨0x1000C00004, [(12, 0x1000000), (4, 0x1000)], 0x0, [], [⟨0, 5, .ro⟩, ⟨8, 7, .ro⟩]⟩ /- SC_n_STATE -/,
  ⟨0x1000C00008, [(12, 0x1000000), (4, 0x1000)], 0x0, [], [⟨0, 12, .rw⟩]⟩ /- SC_n_ENTRY -/,
  ⟨0x1000C0000C, [(12, 0x1000000), (4, 0x1000)], 0x0, [], [⟨0, 12, .rw⟩, ⟨16, 12, .rw⟩]⟩ /- SC_n_VEC -/,
  ⟨0x1000C00010, [(12, 0x1000000), (4, 0x1000)], 0x0, [], [⟨0, 12, .ro⟩]⟩ /- SC_n_PC -/,
  ⟨0x1000C00014, [(12, 0x1000000), (4, 0x1000)], 0x0, [], [⟨0, 11, .ro⟩, ⟨12, 12, .ro⟩]⟩ /- SC_n_FAULT -/,
  ⟨0x1000C00018, [(12, 0x1000000), (4, 0x1000)], 0x0, [], [⟨0, 24, .ro⟩]⟩ /- SC_n_FAULT_ADDR -/,
  ⟨0x1000C0001C, [(12, 0x1000000), (4, 0x1000)], 0x0, [], [⟨0, 16, .rc⟩]⟩ /- SC_n_OVERRUN -/,
  ⟨0x1000C00020, [(12, 0x1000000), (4, 0x1000)], 0x0, [], [⟨0, 24, .rc⟩]⟩ /- SC_n_WINGAP -/,
  ⟨0x1000C00024, [(12, 0x1000000), (4, 0x1000)], 0x0, [], [⟨0, 21, .ro⟩]⟩ /- SC_n_BLKCYC -/,
  ⟨0x1000C00028, [(12, 0x1000000), (4, 0x1000)], 0x0, [], [⟨0, 21, .rc⟩]⟩ /- SC_n_BLKMAX -/,
  ⟨0x1000C0002C, [(12, 0x1000000), (4, 0x1000)], 0x0, [], [⟨0, 16, .rc⟩]⟩ /- SC_n_ECC -/,
  ⟨0x1000C00030, [(12, 0x1000000), (4, 0x1000)], 0x0, [], [⟨0, 1, .w1c⟩]⟩ /- SC_n_ERR -/,
  ⟨0x1000C10000, [(12, 0x1000000)], 0x544C0100, [], [⟨0, 32, .ro⟩]⟩ /- TL_t_ID -/,
  ⟨0x1000C10004, [(12, 0x1000000)], 0x0, [], [⟨0, 7, .w1c⟩]⟩ /- TL_t_ERR -/,
  ⟨0x1000C10010, [(12, 0x1000000)], 0x0, [], [⟨0, 9, .ro⟩, ⟨31, 1, .w1c⟩]⟩ /- TL_t_VIOL -/,
  ⟨0x1000C10014, [(12, 0x1000000)], 0x0, [], [⟨0, 19, .ro⟩]⟩ /- TL_t_VIOL_ADDR -/,
  ⟨0x1000C10018, [(12, 0x1000000)], 0x0, [], [⟨0, 16, .rc⟩]⟩ /- TL_t_VIOL_CNT -/,
  ⟨0x1000C10020, [(12, 0x1000000)], 0x0, [], [⟨0, 19, .ro⟩, ⟨20, 4, .ro⟩]⟩ /- TL_t_CAP -/,
  ⟨0x1000C10028, [(12, 0x1000000)], 0x0, [], [⟨0, 3, .ro⟩, ⟨8, 8, .rc⟩]⟩ /- TL_t_LOCK -/,
  ⟨0x1000C10030, [(12, 0x1000000)], 0x1FF, [], [⟨0, 9, .rw⟩]⟩ /- TL_t_BKT_CTL -/,
  ⟨0x1000C10034, [(12, 0x1000000)], 0x7A1, [], [⟨0, 16, .rw⟩]⟩ /- TL_t_BKT_INTERVAL -/,
  ⟨0x1000C10100, [(12, 0x1000000), (8, 0x40)], 0x707, [], [⟨0, 4, .rw⟩, ⟨8, 4, .ro⟩, ⟨16, 1, .ro⟩]⟩ /- TL_t_BK_b_OWNER -/,
  ⟨0x1000C10104, [(12, 0x1000000), (8, 0x40)], 0x0, [], [⟨0, 16, .rc⟩]⟩ /- TL_t_BK_b_ECC -/]

def regRowsSCT1 : List RegRow := [
  ⟨0x1000C10108, [(12, 0x1000000), (8, 0x40)], 0x0, [], [⟨3, 16, .ro⟩]⟩ /- TL_t_BK_b_ECCADDR -/,
  ⟨0x1000C1010C, [(12, 0x1000000), (8, 0x40)], 0x0, [], [⟨0, 16, .ro⟩, ⟨16, 1, .w1c⟩, ⟨17, 11, .ro⟩]⟩ /- TL_t_BK_b_TEST -/,
  ⟨0x1000C10110, [(12, 0x1000000), (8, 0x40)], 0x0, [], [⟨3, 16, .ro⟩, ⟨20, 7, .ro⟩]⟩ /- TL_t_BK_b_TADDR -/,
  ⟨0x1000C10114, [(12, 0x1000000), (8, 0x40), (4, 0x4)], 0x0, [], [⟨0, 9, .rw⟩, ⟨12, 1, .rw⟩, ⟨13, 1, .ro⟩]⟩ /- TL_t_BK_b_REMAP_k -/,
  ⟨0x1000C10304, [(12, 0x1000000)], 0x0, [], [⟨0, 16, .rc⟩]⟩ /- TL_t_CB_ECC -/,
  ⟨0x1000C10308, [(12, 0x1000000)], 0x0, [], [⟨3, 16, .ro⟩]⟩ /- TL_t_CB_ECCADDR -/,
  ⟨0x1000C1030C, [(12, 0x1000000)], 0x0, [], [⟨0, 16, .ro⟩, ⟨16, 1, .w1c⟩, ⟨17, 11, .ro⟩]⟩ /- TL_t_CB_TEST -/,
  ⟨0x1000C10310, [(12, 0x1000000)], 0x0, [], [⟨3, 16, .ro⟩, ⟨20, 7, .ro⟩]⟩ /- TL_t_CB_TADDR -/,
  ⟨0x1000C10314, [(12, 0x1000000), (4, 0x4)], 0x0, [], [⟨0, 9, .rw⟩, ⟨12, 1, .rw⟩, ⟨13, 1, .ro⟩]⟩ /- TL_t_CB_REMAP_k -/,
  ⟨0x1000C10800, [(12, 0x1000000), (16, 0x40)], 0x0, [], [⟨0, 32, .rw⟩]⟩ /- DMA_t_CH_c_W0 -/,
  ⟨0x1000C10804, [(12, 0x1000000), (16, 0x40)], 0x0, [], [⟨0, 32, .rw⟩]⟩ /- DMA_t_CH_c_W1 -/,
  ⟨0x1000C10808, [(12, 0x1000000), (16, 0x40)], 0x0, [], [⟨0, 32, .rw⟩]⟩ /- DMA_t_CH_c_W2 -/,
  ⟨0x1000C1080C, [(12, 0x1000000), (16, 0x40)], 0x0, [], [⟨0, 32, .rw⟩]⟩ /- DMA_t_CH_c_W3 -/,
  ⟨0x1000C10810, [(12, 0x1000000), (16, 0x40)], 0x0, [], [⟨0, 24, .rw⟩, ⟨24, 8, .ro⟩]⟩ /- DMA_t_CH_c_W4 -/,
  ⟨0x1000C10814, [(12, 0x1000000), (16, 0x40)], 0x0, [], [⟨0, 32, .rw⟩]⟩ /- DMA_t_CH_c_W5 -/,
  ⟨0x1000C10818, [(12, 0x1000000), (16, 0x40)], 0x0, [], [⟨0, 32, .rw⟩]⟩ /- DMA_t_CH_c_W6 -/,
  ⟨0x1000C1081C, [(12, 0x1000000), (16, 0x40)], 0x0, [], [⟨0, 32, .rw⟩]⟩ /- DMA_t_CH_c_W7 -/,
  ⟨0x1000C10820, [(12, 0x1000000), (16, 0x40)], 0x0, [], [⟨0, 1, .w1s⟩, ⟨1, 4, .wo⟩, ⟨8, 4, .rw⟩, ⟨20, 5, .rw⟩]⟩ /- DMA_t_CH_c_CTL -/,
  ⟨0x1000C10824, [(12, 0x1000000), (16, 0x40)], 0x0, [], [⟨0, 5, .ro⟩, ⟨5, 4, .w1c⟩, ⟨12, 12, .ro⟩]⟩ /- DMA_t_CH_c_STAT -/,
  ⟨0x1000C10828, [(12, 0x1000000), (16, 0x40)], 0x0, [], [⟨0, 24, .ro⟩]⟩ /- DMA_t_CH_c_REMAIN -/,
  ⟨0x1000C1082C, [(12, 0x1000000), (16, 0x40)], 0x0, [], [⟨0, 32, .ro⟩]⟩ /- DMA_t_CH_c_CUR_LO -/,
  ⟨0x1000C10830, [(12, 0x1000000), (16, 0x40)], 0x0, [], [⟨0, 8, .ro⟩, ⟨31, 1, .ro⟩]⟩ /- DMA_t_CH_c_CUR_HI -/,
  ⟨0x1000C10834, [(12, 0x1000000), (16, 0x40)], 0x0, [], [⟨5, 27, .rw⟩]⟩ /- DMA_t_CH_c_NEXT_LO -/,
  ⟨0x1000C10838, [(12, 0x1000000), (16, 0x40)], 0x0, [], [⟨0, 8, .rw⟩, ⟨31, 1, .rw⟩]⟩ /- DMA_t_CH_c_NEXT_HI -/]

def regRowsSCT2 : List RegRow := [
  ⟨0x1000C10C00, [(12, 0x1000000)], 0x4000, [], [⟨0, 20, .rw⟩]⟩ /- DMA_t_TMO -/,
  ⟨0x1000C10C04, [(12, 0x1000000)], 0x0, [], [⟨0, 16, .ro⟩]⟩ /- DMA_t_BUSY -/]

def regRowsDRV : List RegRow := [
  ⟨0x2000458000, [], 0x44520100, [], [⟨0, 32, .ro⟩]⟩ /- DRV_ID -/,
  ⟨0x2000458020, [(8, 0x4)], 0x0, [], [⟨0, 1, .rw⟩, ⟨1, 1, .w1c⟩, ⟨2, 2, .ro⟩]⟩ /- DRV_GRP_g_CTL -/,
  ⟨0x2000459000, [(64, 0x80)], 0x300000, [], [⟨0, 4, .rw⟩, ⟨4, 2, .wo⟩, ⟨16, 8, .rw⟩]⟩ /- DRV_n_CTL -/,
  ⟨0x2000459004, [(64, 0x80)], 0x0, [], [⟨0, 3, .ro⟩, ⟨4, 5, .w1c⟩, ⟨9, 1, .ro⟩, ⟨12, 3, .ro⟩]⟩ /- DRV_n_STAT -/,
  ⟨0x2000459008, [(64, 0x80)], 0xFFFF7000, [], [⟨0, 32, .rw⟩]⟩ /- DRV_n_LIM -/,
  ⟨0x200045900C, [(64, 0x80)], 0x148, [], [⟨0, 16, .rw⟩]⟩ /- DRV_n_VMIN -/,
  ⟨0x2000459010, [(64, 0x80)], 0x10000800, [], [⟨0, 32, .rw⟩]⟩ /- DRV_n_LOOP -/,
  ⟨0x2000459014, [(64, 0x80)], 0x6E00, [0x1], [⟨0, 6, .rw⟩, ⟨8, 8, .rw⟩]⟩ /- DRV_n_PAIR -/,
  ⟨0x2000459018, [(64, 0x80)], 0x3F800000, [], [⟨0, 32, .rw⟩]⟩ /- DRV_n_VSCALE -/,
  ⟨0x200045901C, [(64, 0x80)], 0x3F800000, [], [⟨0, 32, .rw⟩]⟩ /- DRV_n_ISCALE -/,
  ⟨0x2000459020, [(64, 0x80)], 0x3F800000, [], [⟨0, 32, .rw⟩]⟩ /- DRV_n_LOOPG -/,
  ⟨0x2000459024, [(64, 0x80)], 0x0, [], [⟨0, 32, .ro⟩]⟩ /- DRV_n_ZEST -/,
  ⟨0x2000459028, [(64, 0x80)], 0x0, [], [⟨0, 32, .ro⟩]⟩ /- DRV_n_LEVEL -/,
  ⟨0x2000459040, [(64, 0x80), (10, 0x4)], 0x0, [], [⟨0, 32, .rw⟩]⟩ /- DRV_n_COEF_k -/]

def regRowsSNS : List RegRow := [
  ⟨0x2000465000, [], 0x534E0100, [], [⟨0, 32, .ro⟩]⟩ /- SNS_ID -/,
  ⟨0x2000465020, [(8, 0x4)], 0xC0, [], [⟨0, 1, .rw⟩, ⟨4, 4, .rw⟩]⟩ /- SNS_CLK_g_CFG -/,
  ⟨0x2000465100, [(128, 0x10)], 0x0, [], [⟨0, 3, .rw⟩]⟩ /- SNS_n_CFG -/,
  ⟨0x2000465104, [(128, 0x10)], 0x80000000, [], [⟨0, 32, .rw⟩]⟩ /- SNS_n_CAL -/,
  ⟨0x2000465108, [(128, 0x10)], 0x0, [], [⟨0, 2, .w1c⟩]⟩ /- SNS_n_STAT -/]

def regRowsTDM : List RegRow := [
  ⟨0x2000466000, [], 0x54440100, [], [⟨0, 32, .ro⟩]⟩ /- TDM_ID -/,
  ⟨0x2000466100, [(8, 0x10)], 0x0, [], [⟨0, 5, .rw⟩]⟩ /- TDM_p_CTL -/,
  ⟨0x2000466104, [(8, 0x10)], 0x0, [], [⟨0, 1, .w1c⟩, ⟨1, 1, .ro⟩]⟩ /- TDM_p_STAT -/]

def regRowsFL : List RegRow := [
  ⟨0x2000380000, [], 0x464C0100, [], [⟨0, 32, .ro⟩]⟩ /- FL_ID -/,
  ⟨0x2000380004, [], 0x0, [], [⟨0, 5, .w1c⟩]⟩ /- FL_ERR -/,
  ⟨0x2000380008, [], 0x0, [], [⟨0, 12, .ro⟩]⟩ /- FL_ERR_FLOW -/,
  ⟨0x2000390000, [(3072, 0x40)], 0x0, [], [⟨0, 5, .rw⟩, ⟨8, 3, .rw⟩, ⟨16, 7, .rw⟩]⟩ /- FL_f_CTL -/,
  ⟨0x2000390004, [(3072, 0x40)], 0x0, [], [⟨0, 32, .rw⟩]⟩ /- FL_f_ID_LO -/,
  ⟨0x2000390008, [(3072, 0x40)], 0x0, [], [⟨0, 32, .rw⟩]⟩ /- FL_f_ID_HI -/,
  ⟨0x200039000C, [(3072, 0x40)], 0x0, [], [⟨0, 13, .rw⟩, ⟨16, 7, .rw⟩]⟩ /- FL_f_CH -/,
  ⟨0x2000390010, [(3072, 0x40)], 0x0, [], [⟨0, 32, .rw⟩]⟩ /- FL_f_DST_LO -/,
  ⟨0x2000390014, [(3072, 0x40)], 0x0, [], [⟨0, 31, .rw⟩]⟩ /- FL_f_DST_HI -/,
  ⟨0x2000390018, [(3072, 0x40)], 0x0, [], [⟨0, 32, .rw⟩]⟩ /- FL_f_JB_LO -/,
  ⟨0x200039001C, [(3072, 0x40)], 0x600, [], [⟨0, 12, .rw⟩]⟩ /- FL_f_JB_HI -/,
  ⟨0x2000390020, [(3072, 0x40)], 0x0, [], [⟨0, 32, .rw⟩]⟩ /- FL_f_AUX -/,
  ⟨0x2000390024, [(3072, 0x40)], 0x60, [], [⟨0, 11, .rw⟩]⟩ /- FL_f_OFS -/,
  ⟨0x2000390028, [(3072, 0x40)], 0x0, [], [⟨0, 32, .rw⟩]⟩ /- FL_f_MCO -/,
  ⟨0x200039002C, [(3072, 0x40)], 0x0, [], [⟨0, 1, .ro⟩, ⟨1, 5, .w1c⟩]⟩ /- FL_f_STAT -/,
  ⟨0x2000390030, [(3072, 0x40)], 0x0, [], [⟨0, 32, .rc⟩]⟩ /- FL_f_CNT -/,
  ⟨0x2000390034, [(3072, 0x40)], 0x0, [], [⟨0, 16, .ro⟩]⟩ /- FL_f_SEQ -/]

def regRowsNET0 : List RegRow := [
  ⟨0x2000464000, [], 0x4E450100, [], [⟨0, 32, .ro⟩]⟩ /- NET_ID -/,
  ⟨0x2000464004, [], 0x0, [], [⟨0, 3, .rw⟩]⟩ /- NET_CTL -/,
  ⟨0x2000464008, [], 0x0, [], [⟨0, 32, .rw⟩]⟩ /- NET_MAC_LO -/,
  ⟨0x200046400C, [], 0x0, [], [⟨0, 16, .rw⟩]⟩ /- NET_MAC_HI -/,
  ⟨0x2000464010, [], 0x0, [], [⟨0, 3, .ro⟩, ⟨3, 2, .w1c⟩]⟩ /- NET_RING_STAT -/,
  ⟨0x2000464014, [], 0x3E8, [], [⟨0, 16, .rw⟩]⟩ /- NET_ISO_TIME -/,
  ⟨0x2000464018, [], 0x0, [], [⟨0, 32, .rc⟩]⟩ /- NET_DD_CNT -/,
  ⟨0x2000464020, [], 0xF801, [], [⟨0, 2, .rw⟩, ⟨8, 8, .rw⟩]⟩ /- NET_PTP_CTL -/,
  ⟨0x2000464024, [], 0x2, [], [⟨0, 2, .ro⟩, ⟨2, 1, .w1c⟩, ⟨3, 4, .ro⟩]⟩ /- NET_PTP_STAT -/,
  ⟨0x2000464028, [], 0x0, [], [⟨0, 30, .ro⟩]⟩ /- NET_TIME_NS -/,
  ⟨0x200046402C, [], 0x0, [], [⟨0, 32, .ro⟩]⟩ /- NET_TIME_S_LO -/,
  ⟨0x2000464030, [], 0x0, [], [⟨0, 16, .ro⟩]⟩ /- NET_TIME_S_HI -/,
  ⟨0x2000464034, [], 0x0, [], [⟨0, 32, .rw⟩]⟩ /- NET_DCO_FREQ -/,
  ⟨0x2000464038, [], 0x0, [], [⟨0, 32, .ro⟩]⟩ /- NET_OFFSET -/,
  ⟨0x2000464100, [(4, 0x40)], 0x3, [], [⟨0, 5, .rw⟩]⟩ /- NET_PORT_p_CFG -/,
  ⟨0x2000464104, [(4, 0x40)], 0x0, [], [⟨0, 1, .ro⟩, ⟨1, 1, .w1c⟩, ⟨2, 2, .ro⟩, ⟨4, 2, .w1c⟩]⟩ /- NET_PORT_p_STAT -/,
  ⟨0x2000464108, [(4, 0x40)], 0x0, [], [⟨0, 32, .rw⟩]⟩ /- NET_PORT_p_DLY -/,
  ⟨0x200046410C, [(4, 0x40)], 0x0, [], [⟨0, 32, .ro⟩]⟩ /- NET_PORT_p_PDELAY -/,
  ⟨0x2000464110, [(4, 0x40)], 0x0, [], [⟨0, 32, .rc⟩]⟩ /- NET_PORT_p_RXERR -/,
  ⟨0x2000464114, [(4, 0x40)], 0x0, [], [⟨0, 16, .rw⟩]⟩ /- NET_PORT_p_CBS_A -/,
  ⟨0x2000464118, [(4, 0x40)], 0x0, [], [⟨0, 16, .rw⟩]⟩ /- NET_PORT_p_CBS_B -/,
  ⟨0x2000464120, [(4, 0x40)], 0x0, [], [⟨0, 1, .rw⟩, ⟨1, 1, .w1s⟩, ⟨8, 7, .rw⟩]⟩ /- NET_PORT_p_GCL_CTL -/,
  ⟨0x2000464124, [(4, 0x40)], 0x0, [], [⟨0, 32, .rw⟩]⟩ /- NET_PORT_p_GCL_CYC -/,
  ⟨0x2000464128, [(4, 0x40)], 0x0, [], [⟨0, 32, .rw⟩]⟩ /- NET_PORT_p_GCL_BASE -/]

def regRowsNET1 : List RegRow := [
  ⟨0x2000464800, [(4, 0x100), (64, 0x4)], 0x0, [], [⟨0, 32, .rw⟩]⟩ /- NET_GCL_p_k -/,
  ⟨0x2000464C00, [(4, 0x100), (64, 0x4)], 0x0, [], [⟨0, 32, .ro⟩]⟩ /- NET_GCLA_p_k -/]

def regRowsAN : List RegRow := [
  ⟨0x2000462000, [], 0x414E0100, [], [⟨0, 32, .ro⟩]⟩ /- AN_ID -/,
  ⟨0x2000462004, [], 0x0, [], [⟨0, 2, .rw⟩]⟩ /- AN_CTL -/,
  ⟨0x2000462008, [], 0xF0000, [], [⟨0, 2, .wo⟩, ⟨2, 2, .rw⟩, ⟨16, 12, .rw⟩]⟩ /- AN_RUN_CTL -/,
  ⟨0x200046200C, [], 0x0, [], [⟨0, 2, .ro⟩, ⟨2, 4, .w1c⟩, ⟨6, 1, .ro⟩, ⟨16, 16, .ro⟩]⟩ /- AN_RUN_STAT -/,
  ⟨0x2000462010, [], 0x0, [], [⟨0, 32, .ro⟩]⟩ /- AN_START_LO -/,
  ⟨0x2000462014, [], 0x0, [], [⟨0, 32, .ro⟩]⟩ /- AN_START_HI -/,
  ⟨0x2000462018, [], 0x0, [], [⟨21, 11, .rw⟩]⟩ /- AN_MEM_LO -/,
  ⟨0x200046201C, [], 0x0, [], [⟨0, 8, .rw⟩]⟩ /- AN_MEM_HI -/,
  ⟨0x2000462020, [], 0x0, [], [⟨0, 5, .w1c⟩]⟩ /- AN_ERR -/,
  ⟨0x2000462030, [], 0x92E22818, [], [⟨0, 32, .rw⟩]⟩ /- AN_LAW -/,
  ⟨0x2000462034, [], 0xC41E, [], [⟨0, 16, .rw⟩]⟩ /- AN_LAW2 -/,
  ⟨0x2000462038, [], 0x7FFFFFFF, [], [⟨0, 31, .rw⟩]⟩ /- AN_BANDS -/,
  ⟨0x2000462040, [], 0x2580384, [], [⟨0, 10, .rw⟩, ⟨16, 10, .rw⟩]⟩ /- AN_VERD -/,
  ⟨0x2000462044, [], 0x60F641E, [], [⟨0, 29, .rw⟩]⟩ /- AN_VERD2 -/,
  ⟨0x2000462048, [], 0x3FF0010, [], [⟨0, 12, .rw⟩, ⟨16, 12, .rw⟩]⟩ /- AN_WIN_S -/,
  ⟨0x200046204C, [], 0xDFF0000, [], [⟨0, 12, .rw⟩, ⟨16, 12, .rw⟩]⟩ /- AN_WIN_M -/,
  ⟨0x2000462050, [], 0x280E00, [], [⟨0, 12, .rw⟩, ⟨16, 8, .rw⟩]⟩ /- AN_TAIL -/,
  ⟨0x2000462058, [], 0x0, [], [⟨0, 11, .ro⟩, ⟨16, 11, .ro⟩]⟩ /- AN_FAIL_CNT -/,
  ⟨0x2000462400, [(64, 0x10)], 0x0, [0x10000], [⟨0, 1, .rw⟩, ⟨4, 4, .rw⟩, ⟨16, 11, .rw⟩]⟩ /- AN_DRV_n_CFG -/,
  ⟨0x2000462404, [(64, 0x10)], 0x8000, [], [⟨0, 1, .ro⟩, ⟨8, 13, .ro⟩]⟩ /- AN_DRV_n_STAT -/,
  ⟨0x2000462408, [(64, 0x10)], 0x0, [], [⟨0, 8, .ro⟩]⟩ /- AN_DRV_n_VERD -/,
  ⟨0x2000462800, [(32, 0x10)], 0x0, [], [⟨0, 1, .rw⟩, ⟨8, 17, .rw⟩]⟩ /- AN_MIC_m_CFG -/,
  ⟨0x2000462C00, [(32, 0x80), (31, 0x4)], 0x8000, [], [⟨0, 17, .ro⟩]⟩ /- AN_AMB_m_b -/]

def regRowsSF : List RegRow := [
  ⟨0x200045C000, [], 0x53460100, [], [⟨0, 32, .ro⟩]⟩ /- SF_ID -/,
  ⟨0x200045C004, [], 0xA, [], [⟨0, 4, .rw⟩, ⟨4, 1, .w1s⟩]⟩ /- SF_CTL -/,
  ⟨0x200045C008, [], 0x0, [], [⟨0, 1, .ro⟩, ⟨1, 1, .w1c⟩, ⟨16, 16, .ro⟩]⟩ /- SF_STAT -/,
  ⟨0x200045C00C, [], 0x0, [], [⟨0, 2, .w1c⟩]⟩ /- SF_ERR -/,
  ⟨0x200045C010, [], 0x0, [], [⟨20, 12, .rw⟩]⟩ /- SF_MEM_LO -/,
  ⟨0x200045C014, [], 0x0, [], [⟨0, 8, .rw⟩]⟩ /- SF_MEM_HI -/,
  ⟨0x200045C018, [], 0x5A0AC4, [], [⟨0, 24, .rw⟩]⟩ /- SF_VAL -/,
  ⟨0x200045C020, [], 0x0, [], [⟨0, 32, .ro⟩]⟩ /- SF_UPD_LO -/,
  ⟨0x200045C024, [], 0x0, [], [⟨0, 32, .ro⟩]⟩ /- SF_UPD_HI -/,
  ⟨0x200045D000, [(256, 0x20)], 0x0, [], [⟨0, 6, .rw⟩]⟩ /- SF_Z_z_CFG -/,
  ⟨0x200045D004, [(256, 0x20)], 0x0, [], [⟨0, 32, .rw⟩]⟩ /- SF_Z_z_DLY -/,
  ⟨0x200045D008, [(256, 0x20)], 0x1FF, [], [⟨0, 25, .ro⟩]⟩ /- SF_Z_z_STAT -/,
  ⟨0x200045D00C, [(256, 0x20)], 0x0, [], [⟨0, 8, .rw⟩]⟩ /- SF_Z_z_TRIM -/,
  ⟨0x200045D010, [(256, 0x20)], 0x0, [], [⟨0, 28, .rw⟩]⟩ /- SF_Z_z_TRIM_EQ -/,
  ⟨0x200045D014, [(256, 0x20)], 0x0, [], [⟨0, 32, .rw⟩]⟩ /- SF_Z_z_LIM -/,
  ⟨0x200045D018, [(256, 0x20)], 0x0, [], [⟨0, 8, .ro⟩]⟩ /- SF_Z_z_TEFF -/,
  ⟨0x200045D01C, [(256, 0x20)], 0x0, [], [⟨0, 28, .ro⟩]⟩ /- SF_Z_z_TEFF_EQ -/]

def regRowsMS : List RegRow := [
  ⟨0x2000450000, [], 0x4D530100, [], [⟨0, 32, .ro⟩]⟩ /- MS_ID -/,
  ⟨0x2000450004, [], 0x0, [], [⟨0, 3, .rw⟩]⟩ /- MS_CTL -/,
  ⟨0x2000450008, [], 0x3, [], [⟨0, 4, .ro⟩, ⟨4, 1, .w1c⟩]⟩ /- MS_STAT -/,
  ⟨0x2000450010, [], 0x0, [], [⟨21, 11, .rw⟩]⟩ /- MS_EMER_LO -/,
  ⟨0x2000450014, [], 0x0, [], [⟨0, 8, .rw⟩]⟩ /- MS_EMER_HI -/,
  ⟨0x2000450018, [], 0x0, [], [⟨0, 10, .rw⟩]⟩ /- MS_EMER_SIZE -/,
  ⟨0x2000451000, [(256, 0x20)], 0x0, [], [⟨0, 2, .rw⟩]⟩ /- MS_PL_c_CTL -/,
  ⟨0x2000451004, [(256, 0x20)], 0x0, [], [⟨0, 32, .rw⟩]⟩ /- MS_PL_c_START_LO -/,
  ⟨0x2000451008, [(256, 0x20)], 0x0, [], [⟨0, 32, .rw⟩]⟩ /- MS_PL_c_START_HI -/,
  ⟨0x200045100C, [(256, 0x20)], 0x0, [], [⟨0, 32, .rw⟩]⟩ /- MS_PL_c_BUF_LO -/,
  ⟨0x2000451010, [(256, 0x20)], 0x0, [], [⟨0, 8, .rw⟩]⟩ /- MS_PL_c_BUF_HI -/,
  ⟨0x2000451014, [(256, 0x20)], 0x0, [], [⟨0, 27, .rw⟩]⟩ /- MS_PL_c_SAMPLES -/,
  ⟨0x2000451018, [(256, 0x20)], 0x0, [], [⟨0, 32, .rw⟩]⟩ /- MS_PL_c_PERIOD -/,
  ⟨0x200045101C, [(256, 0x20)], 0x0, [], [⟨0, 1, .ro⟩, ⟨1, 1, .w1c⟩, ⟨16, 16, .ro⟩]⟩ /- MS_PL_c_STAT -/,
  ⟨0x2000453000, [(256, 0x8)], 0x0, [], [⟨0, 13, .rw⟩, ⟨16, 8, .rw⟩, ⟨31, 1, .rw⟩]⟩ /- MS_HS_k_CFG -/,
  ⟨0x2000453004, [(256, 0x8)], 0x0, [], [⟨0, 1, .ro⟩, ⟨16, 16, .rc⟩]⟩ /- MS_HS_k_STAT -/,
  ⟨0x2000454000, [(256, 0x10)], 0x0, [], [⟨0, 1, .rw⟩, ⟨16, 16, .rw⟩]⟩ /- MS_REC_s_CFG -/,
  ⟨0x2000454004, [(256, 0x10)], 0x0, [], [⟨20, 12, .rw⟩]⟩ /- MS_REC_s_BUF_LO -/,
  ⟨0x2000454008, [(256, 0x10)], 0x0, [], [⟨0, 8, .rw⟩]⟩ /- MS_REC_s_BUF_HI -/,
  ⟨0x200045400C, [(256, 0x10)], 0x0, [], [⟨0, 1, .ro⟩, ⟨1, 2, .w1c⟩]⟩ /- MS_REC_s_STAT -/,
  ⟨0x2000455000, [(256, 0x4)], 0x0, [], [⟨0, 32, .rw⟩]⟩ /- MS_PL_c_REPEATS -/]

def regRowsNV : List RegRow := [
  ⟨0x2000467000, [], 0x4E560100, [], [⟨0, 32, .ro⟩]⟩ /- NV_ID -/,
  ⟨0x2000467100, [(2, 0x40)], 0x0, [], [⟨0, 2, .rw⟩]⟩ /- NV_p_CTL -/,
  ⟨0x2000467104, [(2, 0x40)], 0x0, [], [⟨0, 5, .ro⟩, ⟨5, 2, .w1c⟩]⟩ /- NV_p_STAT -/,
  ⟨0x2000467108, [(2, 0x40)], 0x7D0, [], [⟨0, 16, .rw⟩]⟩ /- NV_p_TMO -/,
  ⟨0x200046710C, [(2, 0x40)], 0x0, [], [⟨0, 32, .rc⟩]⟩ /- NV_p_ERRCNT -/]

def regRowsQM : List RegRow := [
  ⟨0x2000448000, [], 0x514D0100, [], [⟨0, 32, .ro⟩]⟩ /- QM_ID -/,
  ⟨0x2000448004, [], 0x0, [], [⟨0, 1, .rw⟩, ⟨1, 3, .wo⟩]⟩ /- QM_CTL -/,
  ⟨0x2000448008, [], 0x0, [], [⟨0, 4, .ro⟩]⟩ /- QM_STAT -/,
  ⟨0x2000448010, [], 0x0, [], [⟨24, 8, .rw⟩]⟩ /- QM_DESC_LO -/,
  ⟨0x2000448014, [], 0x0, [], [⟨0, 8, .rw⟩]⟩ /- QM_DESC_HI -/,
  ⟨0x2000448018, [], 0x0, [], [⟨20, 12, .rw⟩]⟩ /- QM_POOL_LO -/,
  ⟨0x200044801C, [], 0x0, [], [⟨0, 8, .rw⟩]⟩ /- QM_POOL_HI -/,
  ⟨0x2000448020, [], 0x0, [], [⟨0, 25, .rw⟩]⟩ /- QM_POOL_SIZE -/,
  ⟨0x2000448024, [], 0x0, [], [⟨0, 25, .ro⟩]⟩ /- QM_FREE_CNT -/,
  ⟨0x2000448030, [], 0x0, [], [⟨0, 10, .w1c⟩]⟩ /- QM_ERR -/,
  ⟨0x2000448034, [], 0x0, [], [⟨0, 27, .ro⟩]⟩ /- QM_ERR_Q -/,
  ⟨0x2000448038, [], 0x0, [], [⟨0, 32, .rc⟩]⟩ /- QM_CACHE_HIT -/,
  ⟨0x200044803C, [], 0x0, [], [⟨0, 32, .rc⟩]⟩ /- QM_CACHE_MISS -/,
  ⟨0x2000448040, [], 0x0, [], [⟨0, 20, .rw⟩]⟩ /- QM_QSEL -/,
  ⟨0x2000448044, [], 0xFF, [], [⟨0, 9, .rw⟩]⟩ /- QM_QCFG -/,
  ⟨0x2000448048, [], 0x0, [], [⟨0, 25, .rw⟩]⟩ /- QM_QLIM -/,
  ⟨0x200044804C, [], 0x0, [], [⟨0, 27, .ro⟩]⟩ /- QM_QSTAT -/,
  ⟨0x2000449000, [(4096, 0x4)], 0x0, [], [⟨0, 20, .rw⟩, ⟨30, 2, .rw⟩]⟩ /- QM_W_w_CFG -/,
  ⟨0x200044D000, [(128, 0x4)], 0x0, [], [⟨0, 32, .w1c⟩]⟩ /- QM_W_PEND_i -/]

def regRowsTDMA : List RegRow := [
  ⟨0x2000460000, [], 0x54444D01, [], [⟨0, 32, .ro⟩]⟩ /- TDMA_ID -/,
  ⟨0x2000460004, [], 0x4000, [], [⟨0, 20, .rw⟩]⟩ /- TDMA_TMO -/,
  ⟨0x2000460008, [], 0x0, [], [⟨0, 32, .ro⟩]⟩ /- TDMA_BUSY_LO -/,
  ⟨0x200046000C, [], 0x0, [], [⟨0, 32, .ro⟩]⟩ /- TDMA_BUSY_HI -/,
  ⟨0x2000460100, [(64, 0x40)], 0x0, [], [⟨0, 32, .rw⟩]⟩ /- TDMA_CH_c_W0 -/,
  ⟨0x2000460104, [(64, 0x40)], 0x0, [], [⟨0, 32, .rw⟩]⟩ /- TDMA_CH_c_W1 -/,
  ⟨0x2000460108, [(64, 0x40)], 0x0, [], [⟨0, 32, .rw⟩]⟩ /- TDMA_CH_c_W2 -/,
  ⟨0x200046010C, [(64, 0x40)], 0x0, [], [⟨0, 32, .rw⟩]⟩ /- TDMA_CH_c_W3 -/,
  ⟨0x2000460110, [(64, 0x40)], 0x0, [], [⟨0, 24, .rw⟩, ⟨24, 8, .ro⟩]⟩ /- TDMA_CH_c_W4 -/,
  ⟨0x2000460114, [(64, 0x40)], 0x0, [], [⟨0, 32, .rw⟩]⟩ /- TDMA_CH_c_W5 -/,
  ⟨0x2000460118, [(64, 0x40)], 0x0, [], [⟨0, 32, .rw⟩]⟩ /- TDMA_CH_c_W6 -/,
  ⟨0x200046011C, [(64, 0x40)], 0x0, [], [⟨0, 32, .rw⟩]⟩ /- TDMA_CH_c_W7 -/,
  ⟨0x2000460120, [(64, 0x40)], 0x0, [], [⟨0, 1, .w1s⟩, ⟨1, 4, .wo⟩, ⟨8, 3, .rw⟩, ⟨12, 6, .rw⟩, ⟨20, 5, .rw⟩]⟩ /- TDMA_CH_c_CTL -/,
  ⟨0x2000460124, [(64, 0x40)], 0x0, [], [⟨0, 5, .ro⟩, ⟨5, 4, .w1c⟩, ⟨12, 12, .ro⟩]⟩ /- TDMA_CH_c_STAT -/,
  ⟨0x2000460128, [(64, 0x40)], 0x0, [], [⟨0, 24, .ro⟩]⟩ /- TDMA_CH_c_REMAIN -/,
  ⟨0x200046012C, [(64, 0x40)], 0x0, [], [⟨0, 32, .ro⟩]⟩ /- TDMA_CH_c_CUR_LO -/,
  ⟨0x2000460130, [(64, 0x40)], 0x0, [], [⟨0, 8, .ro⟩, ⟨31, 1, .ro⟩]⟩ /- TDMA_CH_c_CUR_HI -/,
  ⟨0x2000460134, [(64, 0x40)], 0x0, [], [⟨5, 27, .rw⟩]⟩ /- TDMA_CH_c_NEXT_LO -/,
  ⟨0x2000460138, [(64, 0x40)], 0x0, [], [⟨0, 8, .rw⟩, ⟨31, 1, .rw⟩]⟩ /- TDMA_CH_c_NEXT_HI -/]

def regRowsIC : List RegRow := [
  ⟨0x2000440000, [], 0x49430100, [], [⟨0, 32, .ro⟩]⟩ /- IC_ID -/,
  ⟨0x2000440010, [], 0x0, [], [⟨0, 6, .ro⟩, ⟨31, 1, .w1c⟩]⟩ /- IC_FAULT -/,
  ⟨0x2000440014, [], 0x0, [], [⟨0, 10, .ro⟩, ⟨16, 10, .ro⟩]⟩ /- IC_FAULT_NUM -/,
  ⟨0x2000440100, [(32, 0x4)], 0x0, [], [⟨0, 32, .w1s⟩]⟩ /- IC_PEND_SET_i -/,
  ⟨0x2000440180, [(32, 0x4)], 0x0, [], [⟨0, 32, .w1c⟩]⟩ /- IC_PEND_CLR_i -/,
  ⟨0x2000440200, [(32, 0x4)], 0x0, [], [⟨0, 32, .w1s⟩]⟩ /- IC_EN_SET_i -/,
  ⟨0x2000440280, [(32, 0x4)], 0x0, [], [⟨0, 32, .w1c⟩]⟩ /- IC_EN_CLR_i -/,
  ⟨0x2000440300, [(32, 0x4)], 0x0, [], [⟨0, 32, .ro⟩]⟩ /- IC_SERV_i -/,
  ⟨0x2000440400, [(64, 0x4)], 0x0, [], [⟨0, 16, .rw⟩, ⟨16, 1, .ro⟩]⟩ /- IC_GRP_g_HOLD -/,
  ⟨0x2000440600, [(48, 0x4)], 0x3, [], [⟨0, 2, .rw⟩, ⟨2, 1, .ro⟩]⟩ /- IC_EDGE_e_CFG -/,
  ⟨0x2000441000, [(50, 0x10)], 0x0, [], [⟨0, 4, .rw⟩]⟩ /- IC_T_k_THRESH -/,
  ⟨0x2000441004, [(50, 0x10)], 0x0, [], [⟨0, 10, .ro⟩]⟩ /- IC_T_k_CLAIM -/,
  ⟨0x2000441008, [(50, 0x10)], 0x0, [], [⟨0, 10, .wo⟩]⟩ /- IC_T_k_COMPLETE -/,
  ⟨0x200044100C, [(50, 0x10)], 0x0, [], [⟨0, 10, .ro⟩, ⟨12, 20, .ro⟩]⟩ /- IC_T_k_STAT -/,
  ⟨0x2000442000, [(1024, 0x4)], 0x0, [], [⟨0, 5, .rw⟩, ⟨8, 6, .rw⟩]⟩ /- IC_SRC_s_CFG -/,
  ⟨0x2000444000, [(1024, 0x8)], 0x0, [], [⟨0, 32, .rw⟩]⟩ /- IC_SRC_s_MASK_LO -/,
  ⟨0x2000444004, [(1024, 0x8)], 0x0, [], [⟨0, 18, .rw⟩]⟩ /- IC_SRC_s_MASK_HI -/]

def regRowsSU : List RegRow := [
  ⟨0x2000000000, [], 0x53550100, [], [⟨0, 32, .ro⟩]⟩ /- SU_ID -/,
  ⟨0x2000001000, [(12, 0x1000)], 0x0, [], [⟨0, 2, .w1s⟩]⟩ /- SU_c_CTL -/,
  ⟨0x2000001004, [(12, 0x1000)], 0x0, [], [⟨0, 1, .w1c⟩]⟩ /- SU_c_STAT -/,
  ⟨0x2000001008, [(12, 0x1000)], 0x0, [], [⟨0, 32, .rw⟩]⟩ /- SU_c_DT_VER -/,
  ⟨0x200000100C, [(12, 0x1000)], 0x0, [], [⟨0, 4, .w1c⟩]⟩ /- SU_c_DT_ERR -/,
  ⟨0x2000001100, [(12, 0x1000), (8, 0x20)], 0x0, [], [⟨0, 3, .wo⟩, ⟨3, 1, .rw⟩]⟩ /- SU_c_p_CTL -/,
  ⟨0x2000001104, [(12, 0x1000), (8, 0x20)], 0x0, [], [⟨0, 3, .ro⟩, ⟨3, 1, .w1c⟩, ⟨4, 9, .ro⟩, ⟨13, 1, .w1c⟩]⟩ /- SU_c_p_STAT -/,
  ⟨0x2000001108, [(12, 0x1000), (8, 0x20)], 0x0, [], [⟨0, 12, .ro⟩]⟩ /- SU_c_p_PC -/,
  ⟨0x200000110C, [(12, 0x1000), (8, 0x20)], 0x0, [], [⟨0, 24, .ro⟩]⟩ /- SU_c_p_TRAP -/,
  ⟨0x2000001110, [(12, 0x1000), (8, 0x20)], 0x0, [], [⟨0, 12, .rw⟩, ⟨31, 1, .rw⟩]⟩ /- SU_c_p_EVQ -/,
  ⟨0x2000001114, [(12, 0x1000), (8, 0x20)], 0x0, [], [⟨0, 1, .wo⟩]⟩ /- SU_c_p_DOORBELL -/,
  ⟨0x2000001400, [(12, 0x1000), (256, 0x4)], 0x0, [], [⟨0, 32, .rw⟩]⟩ /- SU_c_DT_e -/]

def regRowsCV : List RegRow := [
  ⟨0x2000468000, [], 0x43560100, [], [⟨0, 32, .ro⟩]⟩ /- CV_ID -/,
  ⟨0x2000468004, [], 0x0, [], [⟨0, 1, .rw⟩, ⟨1, 1, .w1s⟩, ⟨2, 1, .rw⟩, ⟨3, 1, .wo⟩, ⟨4, 1, .w1s⟩]⟩ /- CV_CTL -/,
  ⟨0x2000468008, [], 0x0, [], [⟨0, 17, .ro⟩]⟩ /- CV_STAT -/,
  ⟨0x200046800C, [], 0x0, [], [⟨0, 24, .ro⟩]⟩ /- CV_PC -/,
  ⟨0x2000468010, [], 0x0, [], [⟨0, 28, .ro⟩]⟩ /- CV_TRAP -/,
  ⟨0x2000468020, [], 0x0, [], [⟨0, 8, .rc⟩, ⟨8, 3, .ro⟩]⟩ /- CV_LS_STAT -/,
  ⟨0x2000468024, [], 0x0, [], [⟨0, 24, .ro⟩]⟩ /- CV_LS_PC -/,
  ⟨0x2000468028, [], 0x0, [], [⟨0, 1, .wo⟩]⟩ /- CV_LS_INJ -/,
  ⟨0x2000468030, [], 0x0, [], [⟨0, 32, .rw⟩]⟩ /- CV_DT_VER -/,
  ⟨0x2000468034, [], 0x0, [], [⟨0, 4, .w1c⟩]⟩ /- CV_DT_ERR -/,
  ⟨0x2000468100, [(16, 0x8)], 0x0, [], [⟨0, 24, .rw⟩, ⟨31, 1, .rw⟩]⟩ /- CV_FPU_u_ADDR -/,
  ⟨0x2000468104, [(16, 0x8)], 0x0, [], [⟨0, 16, .rw⟩]⟩ /- CV_FPU_u_DATA -/,
  ⟨0x2000468400, [(256, 0x4)], 0x0, [], [⟨0, 32, .rw⟩]⟩ /- CV_DT_e -/]

def regRowsMC : List RegRow := [
  ⟨0x2000300000, [], 0x4D430100, [], [⟨0, 32, .ro⟩]⟩ /- MC_ID -/,
  ⟨0x2000300004, [], 0x0, [], [⟨0, 1, .wo⟩, ⟨1, 1, .w1s⟩]⟩ /- MC_CV_CTL -/,
  ⟨0x2000300008, [], 0x0, [], [⟨0, 14, .ro⟩, ⟨14, 1, .w1c⟩]⟩ /- MC_CV_STAT -/,
  ⟨0x200030000C, [], 0x0, [], [⟨0, 6, .w1c⟩]⟩ /- MC_ERR -/,
  ⟨0x2000300010, [], 0x0, [], [⟨0, 11, .ro⟩, ⟨12, 7, .ro⟩, ⟨31, 1, .w1c⟩]⟩ /- MC_PERR -/,
  ⟨0x2000300020, [], 0x0, [], [⟨0, 1, .w1s⟩]⟩ /- MC_ROMP_CTL -/,
  ⟨0x2000300024, [], 0x10002, [], [⟨0, 32, .ro⟩]⟩ /- MC_ROM_VER -/,
  ⟨0x2000300100, [(12, 0x4)], 0x0, [], [⟨0, 1, .w1s⟩]⟩ /- MC_SU_c_CTL -/,
  ⟨0x2000300200, [(32, 0x4)], 0x0, [], [⟨0, 30, .rw⟩, ⟨31, 1, .rw⟩]⟩ /- MC_ROMP_m_MATCH -/,
  ⟨0x2000300800, [(256, 0x4)], 0x0, [], [⟨0, 32, .ro⟩]⟩ /- MC_CV_ADT_e -/]

def regRowsMB : List RegRow := [
  ⟨0x20003F0000, [(18, 0x20)], 0x0, [], [⟨0, 3, .ro⟩, ⟨3, 3, .w1c⟩]⟩ /- MB_i_STAT -/,
  ⟨0x20003F0004, [(18, 0x20)], 0x0, [], [⟨0, 3, .wo⟩]⟩ /- MB_i_DOORBELL -/,
  ⟨0x20003F0008, [(18, 0x20)], 0x0, [], [⟨0, 2, .wo⟩]⟩ /- MB_i_POST -/,
  ⟨0x20003F000C, [(18, 0x20)], 0x1FE, [], [⟨0, 10, .rw⟩, ⟨15, 1, .ro⟩]⟩ /- MB_i_PERM -/,
  ⟨0x20003F0010, [(18, 0x20)], 0x0, [], [⟨0, 24, .rc⟩]⟩ /- MB_i_CNT -/,
  ⟨0x20003F0800, [], 0x4D420100, [], [⟨0, 32, .ro⟩]⟩ /- MB_ID -/,
  ⟨0x20003F3000, [(16, 0x8)], 0x0, [], [⟨0, 32, .rw⟩]⟩ /- MB_OB_w_BASE -/,
  ⟨0x20003F3004, [(16, 0x8)], 0x0, [], [⟨0, 1, .rw⟩]⟩ /- MB_OB_w_CTL -/]

def regRowsBT : List RegRow := [
  ⟨0x2000469000, [], 0x42540100, [], [⟨0, 32, .ro⟩]⟩ /- BT_ID -/,
  ⟨0x2000469004, [], 0x0, [], [⟨0, 2, .wo⟩, ⟨2, 1, .w1s⟩]⟩ /- BT_CTL -/,
  ⟨0x2000469008, [], 0x0, [], [⟨0, 11, .ro⟩, ⟨16, 8, .ro⟩]⟩ /- BT_STAT -/,
  ⟨0x200046900C, [], 0x0, [], [⟨0, 22, .ro⟩, ⟨24, 2, .ro⟩]⟩ /- BT_CAUSE -/]

def regRowsSEC : List RegRow := [
  ⟨0x200046A000, [], 0x53450100, [], [⟨0, 32, .ro⟩]⟩ /- SEC_ID -/,
  ⟨0x200046A004, [], 0x0, [], [⟨0, 5, .ro⟩, ⟨8, 7, .ro⟩]⟩ /- SEC_LCS -/,
  ⟨0x200046A008, [], 0x0, [], [⟨0, 32, .ro⟩]⟩ /- SEC_SERIAL_LO -/,
  ⟨0x200046A00C, [], 0x0, [], [⟨0, 32, .ro⟩]⟩ /- SEC_SERIAL_HI -/,
  ⟨0x200046A010, [], 0x0, [], [⟨0, 5, .ro⟩, ⟨8, 1, .ro⟩, ⟨9, 1, .wo⟩]⟩ /- SEC_DBG -/,
  ⟨0x200046A014, [], 0x0, [], [⟨0, 5, .w1c⟩]⟩ /- SEC_ALARM -/,
  ⟨0x200046A040, [], 0x0, [], [⟨6, 26, .rw⟩]⟩ /- SEC_PKE_JOB_LO -/,
  ⟨0x200046A044, [], 0x0, [], [⟨0, 8, .rw⟩]⟩ /- SEC_PKE_JOB_HI -/,
  ⟨0x200046A048, [], 0x0, [], [⟨0, 1, .ro⟩, ⟨1, 1, .w1c⟩, ⟨4, 4, .ro⟩]⟩ /- SEC_PKE_STAT -/,
  ⟨0x200046A050, [], 0x0, [], [⟨6, 26, .rw⟩]⟩ /- SEC_HASH_JOB_LO -/,
  ⟨0x200046A054, [], 0x0, [], [⟨0, 8, .rw⟩]⟩ /- SEC_HASH_JOB_HI -/,
  ⟨0x200046A058, [], 0x0, [], [⟨0, 1, .ro⟩, ⟨1, 1, .w1c⟩, ⟨4, 4, .ro⟩]⟩ /- SEC_HASH_STAT -/,
  ⟨0x200046A100, [(12, 0x4)], 0x0, [], [⟨0, 32, .ro⟩]⟩ /- SEC_MEAS_k -/,
  ⟨0x200046A140, [(8, 0x4)], 0x0, [], [⟨0, 32, .ro⟩]⟩ /- SEC_DBG_CHAL_k -/]

def regRowsCK : List RegRow := [
  ⟨0x200046B000, [], 0x434B0100, [], [⟨0, 32, .ro⟩]⟩ /- CK_ID -/,
  ⟨0x200046B004, [], 0x0, [], [⟨0, 2, .rw⟩, ⟨2, 1, .wo⟩]⟩ /- CK_CTL -/,
  ⟨0x200046B008, [], 0x0, [], [⟨0, 1, .w1c⟩, ⟨1, 4, .ro⟩, ⟨5, 1, .w1c⟩, ⟨6, 1, .ro⟩, ⟨8, 4, .w1c⟩, ⟨12, 4, .ro⟩]⟩ /- CK_STAT -/,
  ⟨0x200046B010, [], 0x0, [], [⟨0, 32, .rw⟩]⟩ /- CK_GATE_LO -/,
  ⟨0x200046B014, [], 0x0, [], [⟨0, 32, .rw⟩]⟩ /- CK_GATE_HI -/]

def regRowsPM : List RegRow := [
  ⟨0x200046C000, [], 0x504D0100, [], [⟨0, 32, .ro⟩]⟩ /- PM_ID -/,
  ⟨0x200046C004, [], 0x0, [], [⟨0, 2, .wo⟩]⟩ /- PM_CTL -/,
  ⟨0x200046C008, [], 0x0, [], [⟨0, 13, .ro⟩, ⟨16, 12, .w1c⟩]⟩ /- PM_STAT -/,
  ⟨0x200046C00C, [], 0x0, [], [⟨0, 12, .rw⟩, ⟨16, 12, .rw⟩]⟩ /- PM_TILE_CTL -/,
  ⟨0x200046C010, [], 0x0, [], [⟨0, 12, .rw⟩]⟩ /- PM_TILE_WAKE -/,
  ⟨0x200046C014, [], 0x0, [], [⟨0, 2, .wo⟩, ⟨4, 4, .wo⟩]⟩ /- PM_RST_CTL -/,
  ⟨0x200046C018, [], 0x0, [], [⟨0, 3, .w1c⟩]⟩ /- PM_ERR -/,
  ⟨0x200046C020, [], 0x0, [], [⟨0, 2, .ro⟩, ⟨16, 16, .w1c⟩]⟩ /- PM_DDR_STAT -/,
  ⟨0x200046C024, [], 0x0, [], [⟨0, 1, .rw⟩, ⟨1, 2, .ro⟩]⟩ /- PM_DDR_CFG -/]

def regRowsWD : List RegRow := [
  ⟨0x200046D000, [], 0x57440100, [], [⟨0, 32, .ro⟩]⟩ /- WD_ID -/,
  ⟨0x200046D004, [], 0x1, [], [⟨0, 9, .w1c⟩]⟩ /- WD_RST_CAUSE -/,
  ⟨0x200046D010, [], 0x0, [], [⟨0, 1, .w1s⟩, ⟨1, 1, .rw⟩]⟩ /- WD_DEV_CTL -/,
  ⟨0x200046D014, [], 0x641388, [], [⟨0, 32, .rw⟩]⟩ /- WD_DEV_CFG -/,
  ⟨0x200046D018, [], 0x64, [], [⟨0, 16, .rw⟩]⟩ /- WD_DEV_PULSE -/,
  ⟨0x200046D01C, [], 0x0, [], [⟨0, 16, .wo⟩]⟩ /- WD_DEV_KICK -/,
  ⟨0x200046D020, [], 0x0, [], [⟨0, 16, .ro⟩, ⟨16, 2, .w1c⟩, ⟨18, 1, .ro⟩]⟩ /- WD_DEV_STAT -/,
  ⟨0x200046D028, [], 0x3E8, [], [⟨0, 10, .rw⟩]⟩ /- WD_CV_CFG -/,
  ⟨0x200046D02C, [], 0x0, [], [⟨0, 16, .wo⟩]⟩ /- WD_CV_KICK -/,
  ⟨0x200046D030, [], 0x0, [], [⟨0, 16, .ro⟩, ⟨16, 2, .w1c⟩, ⟨18, 1, .ro⟩]⟩ /- WD_CV_STAT -/,
  ⟨0x200046D100, [(48, 0x8)], 0x400, [], [⟨0, 1, .rw⟩, ⟨8, 8, .rw⟩]⟩ /- WD_SC_n_CFG -/,
  ⟨0x200046D104, [(48, 0x8)], 0x0, [], [⟨0, 8, .ro⟩, ⟨8, 2, .w1c⟩]⟩ /- WD_SC_n_STAT -/]

def regRowsBB : List RegRow := [
  ⟨0x2000280000, [], 0x42420100, [], [⟨0, 32, .ro⟩]⟩ /- BB_ID -/,
  ⟨0x2000280004, [], 0x100, [], [⟨0, 13, .rw⟩, ⟨16, 1, .wo⟩]⟩ /- BB_CTL -/,
  ⟨0x2000280008, [], 0x2, [], [⟨0, 2, .ro⟩]⟩ /- BB_STAT -/,
  ⟨0x200028000C, [], 0x0, [], [⟨0, 32, .ro⟩]⟩ /- BB_SEQ -/,
  ⟨0x2000280010, [], 0x0, [], [⟨0, 32, .ro⟩]⟩ /- BB_TRIG_SEQ -/,
  ⟨0x2000280014, [], 0x0, [], [⟨0, 32, .rc⟩]⟩ /- BB_LOST -/,
  ⟨0x2000280040, [(4, 0x4)], 0x0, [], [⟨0, 32, .rw⟩]⟩ /- BB_WR_ARG_k -/,
  ⟨0x2000280050, [], 0x0, [], [⟨0, 32, .wo⟩]⟩ /- BB_WR_HDR -/]

def regRowsDBG : List RegRow := [
  ⟨0x2000400000, [], 0x44470100, [], [⟨0, 32, .ro⟩]⟩ /- DBG_ID -/,
  ⟨0x2000400004, [], 0x0, [], [⟨0, 2, .w1c⟩]⟩ /- DBG_ERR -/,
  ⟨0x2000400010, [], 0x0, [], [⟨0, 18, .wo⟩, ⟨31, 1, .wo⟩]⟩ /- DBG_AUTH_CTL -/,
  ⟨0x2000400014, [], 0x0, [], [⟨0, 1, .ro⟩, ⟨1, 2, .w1c⟩, ⟨3, 1, .ro⟩]⟩ /- DBG_AUTH_STAT -/,
  ⟨0x2000400020, [], 0x0, [], [⟨0, 4, .rw⟩, ⟨16, 12, .rw⟩]⟩ /- DBG_WIN_SEL -/,
  ⟨0x2000400024, [], 0x0, [], [⟨0, 2, .ro⟩]⟩ /- DBG_WIN_STAT -/,
  ⟨0x2000400030, [], 0x0, [], [⟨0, 1, .rw⟩, ⟨1, 3, .wo⟩]⟩ /- DBG_CV_CTL -/,
  ⟨0x2000400034, [(3, 0x4)], 0x0, [], [⟨0, 32, .rw⟩]⟩ /- DBG_SU_HOLD_i -/,
  ⟨0x2000400040, [], 0x0, [], [⟨0, 7, .wo⟩, ⟨31, 1, .wo⟩]⟩ /- DBG_SU_STEP -/,
  ⟨0x2000400100, [(48, 0x40)], 0x0, [], [⟨0, 2, .wo⟩]⟩ /- DBG_SC_n_CTL -/,
  ⟨0x2000400104, [(48, 0x40)], 0x0, [], [⟨0, 4, .ro⟩, ⟨16, 12, .ro⟩, ⟨31, 1, .w1c⟩]⟩ /- DBG_SC_n_HIT -/,
  ⟨0x2000400108, [(48, 0x40)], 0x0, [], [⟨0, 24, .ro⟩]⟩ /- DBG_SC_n_HIT_ADDR -/,
  ⟨0x2000400110, [(48, 0x40), (4, 0x4)], 0x0, [], [⟨0, 12, .rw⟩, ⟨30, 2, .rw⟩]⟩ /- DBG_SC_n_BP_k -/,
  ⟨0x2000400120, [(48, 0x40), (2, 0x8)], 0x0, [], [⟨0, 24, .rw⟩]⟩ /- DBG_SC_n_WP_k_ADDR -/,
  ⟨0x2000400124, [(48, 0x40), (2, 0x8)], 0x0, [], [⟨0, 7, .rw⟩, ⟨30, 2, .rw⟩]⟩ /- DBG_SC_n_WP_k_CTL -/,
  ⟨0x2000400E00, [(49, 0x10)], 0x0, [], [⟨0, 32, .ro⟩]⟩ /- DBG_VT_t_OUT -/,
  ⟨0x2000400E04, [(49, 0x10)], 0x0, [], [⟨0, 32, .rw⟩]⟩ /- DBG_VT_t_IN -/,
  ⟨0x2000400E08, [(49, 0x10)], 0x0, [], [⟨0, 2, .ro⟩, ⟨2, 2, .w1c⟩]⟩ /- DBG_VT_t_STAT -/,
  ⟨0x2000401200, [], 0x0, [], [⟨0, 9, .ro⟩, ⟨31, 1, .w1c⟩]⟩ /- DBG_FERR -/,
  ⟨0x2000401204, [], 0x0, [], [⟨0, 32, .ro⟩]⟩ /- DBG_FERR_ADDR_LO -/,
  ⟨0x2000401208, [], 0x0, [], [⟨0, 8, .ro⟩]⟩ /- DBG_FERR_ADDR_HI -/,
  ⟨0x200040120C, [], 0x0, [], [⟨0, 16, .rc⟩]⟩ /- DBG_FERR_CNT -/]

/-- The rows that may hold address `a`: the block of R441 (or the tile-local blocks) it lies in. -/
def regRowsAt (a : Nat) : List RegRow :=
  if a < 0x2000000000 then regRowsSCT0 ++ regRowsSCT1 ++ regRowsSCT2
  else if a < 0x2000200000 then regRowsSU
  else if a < 0x2000280000 then regRowsSX
  else if a < 0x2000300000 then regRowsBB
  else if a < 0x2000380000 then regRowsMC
  else if a < 0x20003C0000 then regRowsFL
  else if a < 0x2000400000 then regRowsMB
  else if a < 0x2000440000 then regRowsDBG
  else if a < 0x2000448000 then regRowsIC
  else if a < 0x2000450000 then regRowsQM
  else if a < 0x2000458000 then regRowsMS
  else if a < 0x200045C000 then regRowsDRV
  else if a < 0x2000460000 then regRowsSF
  else if a < 0x2000462000 then regRowsTDMA
  else if a < 0x2000464000 then regRowsAN
  else if a < 0x2000465000 then regRowsNET0 ++ regRowsNET1
  else if a < 0x2000466000 then regRowsSNS
  else if a < 0x2000467000 then regRowsTDM
  else if a < 0x2000468000 then regRowsNV
  else if a < 0x2000469000 then regRowsCV
  else if a < 0x200046A000 then regRowsBT
  else if a < 0x200046B000 then regRowsSEC
  else if a < 0x200046C000 then regRowsCK
  else if a < 0x200046D000 then regRowsPM
  else if a < 0x200046E000 then regRowsWD
  else []

end Sys2Proof.Machine
end

