-- ==== Sys2Proof/Machine/Ops.lean ====
section
/-! DEFINITION. The named operations over registers, memory, sparse tables and free values.
Choices and readings: log entries 2 and 3. -/

namespace Sys2Proof.Machine

/-! ### Sparse tables: lists of (key, value) with rising keys; an unlisted key holds the default. -/

def tget {α : Type} (d : α) : List (Nat × α) → Nat → α
  | [], _ => d
  | (k, v) :: t, a => if a < k then d else if a = k then v else tget d t a

/-- The table with key `a` set to `v`; writing the default removes the entry. -/
def tput {α : Type} [DecidableEq α] (d : α) : List (Nat × α) → Nat → α → List (Nat × α)
  | [], a, v => if v = d then [] else [(a, v)]
  | (k, w) :: t, a, v =>
    if a < k then (if v = d then (k, w) :: t else (a, v) :: (k, w) :: t)
    else if a = k then (if v = d then t.dropWhile (fun e => e.1 ≤ a) else (a, v) :: t)
    else (k, w) :: tput d t a v

/-- Keys strictly rise and no entry holds its key's default. -/
def twf {α : Type} [DecidableEq α] (d : Nat → α) : List (Nat × α) → Bool
  | [] => true
  | [(k, v)] => decide (v ≠ d k)
  | (k, v) :: (k', v') :: t => decide (v ≠ d k) && decide (k < k') && twf d ((k', v') :: t)

/-- The table without the keys that `p` names. -/
def tdrop {α : Type} (p : Nat → Bool) (t : List (Nat × α)) : List (Nat × α) := t.filter (fun e => !p e.1)

/-! ### Registers -/

/-- The indices with which address `a` lies in a row: `rel` is the address from the row's base. -/
def matchDims : List (Nat × Nat) → Nat → Option (List Nat)
  | [], rel => if rel = 0 then some [] else none
  | (n, st) :: ds, rel =>
    if rel / st < n then (matchDims ds (rel % st)).map (rel / st :: ·) else none

/-- The row of the register table that holds `a`, with its indices (R443). -/
def findRow : List RegRow → Nat → Option (RegRow × List Nat)
  | [], _ => none
  | r :: rs, a =>
    if r.base ≤ a then
      match matchDims r.dims (a - r.base) with
      | some ix => some (r, ix)
      | none => findRow rs a
    else findRow rs a

/-- The row of register `a`, if a chapter assigns one (R444). -/
def regRow (a : Nat) : Option (RegRow × List Nat) := findRow (regRowsAt a) a

def dot : List Nat → List Nat → Nat
  | x :: xs, y :: ys => x * y + dot xs ys
  | _, _ => 0

/-- The value register `a` holds after reset. The four cases before the table are the resets that a
register's header gives for single indices (R286, IC_EN_SET_0, MB_i_PERM). -/
def resetValue (a : Nat) : Word :=
  if a = R.IC_SRC_s_CFG 1 then 0xF
  else if a = R.IC_SRC_s_MASK_HI 1 then 0x10000
  else if a = R.IC_EN_SET_i 0 then 2
  else if a = R.MB_i_PERM 0 || a = R.MB_i_PERM 16 then 0x83FF
  else match regRow a with
    | some (r, ix) => BitVec.ofNat 32 (r.reset + dot r.coef ix)
    | none => 0

/-- The stored value of register `a`. -/
def State.reg (s : State) (a : Nat) : Word := tget (resetValue a) s.regs a

def State.setReg (s : State) (a : Nat) (v : Word) : State := { s with regs := tput (resetValue a) s.regs a v }

/-- Field `f` of register `a`. -/
def State.fld (s : State) (a : Nat) (f : Fld) : Nat := bits (s.reg a).toNat f.lo f.w

def State.setFld (s : State) (a : Nat) (f : Fld) (x : Nat) : State :=
  s.setReg a (BitVec.ofNat 32 (setBits (s.reg a).toNat f.lo f.w x))

def State.flag (s : State) (a : Nat) (f : Fld) : Bool := decide (s.fld a f ≠ 0)

/-- Adds 1 to a counting field that saturates at its largest value. -/
def State.incSat (s : State) (a : Nat) (f : Fld) : State :=
  if s.fld a f + 1 < 2 ^ f.w then s.setFld a f (s.fld a f + 1) else s

/-- Sets the fields of a record that keeps its first entry: nothing while `held` is set. -/
def State.setFlds (s : State) (a : Nat) : List (Fld × Nat) → State
  | [] => s
  | (f, x) :: t => (s.setFld a f x).setFlds a t

/-- One run of bits after a write of `new` to a register that holds `old` (R11). A WO field keeps
the last value written. -/
def writeField (f : FieldRow) (old new : Nat) : Nat :=
  match f.acc with
  | .ro => old
  | .rc => old
  | .rw => setBits old f.lo f.w (bits new f.lo f.w)
  | .wo => setBits old f.lo f.w (bits new f.lo f.w)
  | .w1s => setBits old f.lo f.w (bits old f.lo f.w ||| bits new f.lo f.w)
  | .w1c => setBits old f.lo f.w (bits old f.lo f.w &&& (2 ^ f.w - 1 - bits new f.lo f.w))

def writeFields : List FieldRow → Nat → Nat → Nat
  | [], old, _ => old
  | f :: fs, old, new => writeFields fs (writeField f old new) new

/-- A write that acts on the fields by access type (R11); an unassigned offset ignores it (R444). -/
def State.writeByType (s : State) (a : Nat) (v : Word) : State :=
  match regRow a with
  | some (r, _) => s.setReg a (BitVec.ofNat 32 (writeFields r.fields (s.reg a).toNat v.toNat))
  | none => s

def clearRc : List FieldRow → Nat → Nat
  | [], v => v
  | f :: fs, v => clearRc fs (if f.acc = .rc then setBits v f.lo f.w 0 else v)

/-- A read with its effect: the RC fields clear (R11). -/
def State.readByType (s : State) (a : Nat) : Word × State :=
  match regRow a with
  | some (r, _) => (s.reg a, s.setReg a (BitVec.ofNat 32 (clearRc r.fields (s.reg a).toNat)))
  | none => (0, s)

/-! ### Memory -/

/-- What a byte that nothing has written reads as (DESIGN CHOICE, notes/assumptions/3.md). -/
def memDefault : Byte := 0

/-- The byte at `a`. -/
def State.byte (s : State) (a : Nat) : Byte := tget memDefault s.mem a

def State.setByte (s : State) (a : Nat) (b : Byte) : State := { s with mem := tput memDefault s.mem a b }

/-- The `n` bytes from `a`. -/
def State.bytes (s : State) (a : Nat) : Nat → List Byte
  | 0 => []
  | n + 1 => s.byte a :: s.bytes (a + 1) n

def State.setBytes (s : State) (a : Nat) : List Byte → State
  | [] => s
  | b :: t => (s.setByte a b).setBytes (a + 1) t

/-- The little-endian number of `n` bytes at `a` (R10). -/
def State.num (s : State) (a n : Nat) : Nat := leNat (s.bytes a n)

def State.setNum (s : State) (a n v : Nat) : State := s.setBytes a (leBytes n v)

/-- The memory keeps its canonical form. -/
abbrev memWf (m : List Host.Cell) : Prop := twf (fun _ => memDefault) m = true

/-! ### Free values -/

/-- The next free value of kind `k`. -/
def State.free (s : State) (k : Config.FreeKind) : Nat := (Config.freeValue k s.freeCtr).toNat

def State.freeNext (s : State) : State := { s with freeCtr := s.freeCtr + 1 }

/-! ### Signal cores -/

def State.core (s : State) (n : Nat) : Core := tget Core.reset s.cores n

def State.setCore (s : State) (n : Nat) (c : Core) : State := { s with cores := tput Core.reset s.cores n c }

/-! ### Running a list of updates -/

/-- Applies `f` for each element in turn. -/
def State.each {α : Type} (s : State) (l : List α) (f : State → α → State) : State := l.foldl f s

end Sys2Proof.Machine
end

