-- ==== Sys2Proof/Machine/ScDecode.lean ====
section
/-! DEFINITION. The syllables of a signal core bundle (R54, R55, R84 to R113): operations as data,
and their decoding. `none` is a syllable that encodes no operation of its slot (ILLEGAL). -/

namespace Sys2Proof.Machine

/-- A load, store or conditional store (R88). `cls` is 1, 2 or 3. -/
structure LsOp where
  cls : Nat
  size : Nat
  mode : Nat
  d : Nat
  p : Nat
  k : Nat
  cm : Nat
  imm : Int
  deriving DecidableEq, Repr

inductive MacKind where
  | mac4 | msu4 | mul4 | mac4v | mul4v | mac2 | mul2 | macw | msuw | mulw
  | cmac | cmul | cmacj | cmulj | clr | lda | ldax | ext | extc | exth
  deriving DecidableEq, Repr

/-- A MAC syllable (R97). `i` is the I or RND bit. -/
structure MacOp where
  kind : MacKind
  s : Bool
  i : Bool
  acc : Nat
  x : Nat
  y : Nat
  sh : Nat
  deriving DecidableEq, Repr

inductive AluKind where
  | add | sub | addu | subu | neg | abs | add2 | sub2 | and | or | xor | andn | not | shl | lsr | asr | ror
  | min | max | minu | maxu | minx | maxx | minxu | maxxu | cmpeq | cmpne | cmplt | cmple | cmpltu | cmpleu
  | mov | movi | movhi | movt | movf | sxb | sxh | zxb | zxh | clz | cls | popc | div | divu | rem | remu
  deriving DecidableEq, Repr

/-- An ALU syllable (R100). `b` is the register field, or with `i` the immediate as encoded. -/
structure AluOp where
  kind : AluKind
  s : Bool
  i : Bool
  dst : Nat
  a : Nat
  b : Nat
  imm16 : Nat
  deriving DecidableEq, Repr

inductive FpKind where
  | fadd | fsub | fmul | fma | fms | fnma | fnms | fmin | fmax | fabs | fneg | fmov
  | fcmpeq | fcmplt | fcmple | fcmpun | frecpe | frsqrte
  | cvtDS | cvtSD | cvtWS | cvtSW | cvtWD | cvtDW | cvtQS | cvtSQ
  deriving DecidableEq, Repr

/-- An FP syllable (R104). `fmt` is 0 `.S`, 1 `.P`, 2 `.D`. -/
structure FpOp where
  kind : FpKind
  fmt : Nat
  ovr : Bool
  rm : Nat
  d : Nat
  a : Nat
  b : Nat
  deriving DecidableEq, Repr

/-- A control syllable (R113). -/
inductive CtOp where
  | nop
  | brt (c t : Nat) | brf (c t : Nat) | jl (p t : Nat) | jr (p : Nat)
  | loop (k n e : Nat) | loopr (k x e : Nat) | lbrk (k : Nat)
  | repeatRpt | repeatN (n : Nat)
  | bwait | sleep | reti
  | mvc (cr src : Nat) | mvr (dst cr : Nat)
  | cand (d a b : Nat) | cor (d a b : Nat) | cxor (d a b : Nat) | candn (d a b : Nat)
  | lock | unlock
  deriving DecidableEq, Repr

/-- A bundle: one operation per slot, `none` for a NOP, and the window bit (R54). -/
structure Bundle where
  ls0 : Option LsOp
  ls1 : Option LsOp
  ma0 : Option MacOp
  ma1 : Option MacOp
  al0 : Option AluOp
  al1 : Option AluOp
  fp : Option FpOp
  ct : CtOp
  window : Bool
  deriving DecidableEq, Repr

/-- R85: whether an 8-bit register field names a register. -/
def regFieldOk (v : Nat) : Bool :=
  if v < 0x40 then true
  else if v < 0x80 then v < 0x50
  else if v < 0xC0 then v < 0x90
  else v < 0xC8

/-- R87: an operand pair or quad starts at a multiple of `n`. -/
def aligned (n v : Nat) : Bool := v % n == 0

/-- R88, R89: sizes that each class lists. -/
def lsListed (cls size mode : Nat) : Bool :=
  mode < 7 &&
  ((cls == 1 && size < 7) || (cls == 2 && (size == 0 || size == 2 || size == 4 || size == 5 || size == 6)) ||
   (cls == 3 && (size == 4 || size == 5) && mode < 2))

/-- Decodes an LS syllable (R84, R87 to R89). -/
def decodeLs (w : Nat) : Option (Option LsOp) :=
  if w = 0 then some none
  else
    let cls := bits w 28 4
    let size := bits w 25 3
    let mode := bits w 22 3
    let d := bits w 16 6
    let immMode := mode == 4 || mode == 5
    let usesK := mode == 1 || mode == 2 || mode == 3 || mode == 6
    let usesCm := mode == 2 || cls == 3
    if lsListed cls size mode && (size != 5 || aligned 2 d) && (size != 6 || aligned 4 d) &&
       (if immMode then bits w 0 4 == 0
        else bits w 0 5 == 0 && (usesK || bits w 8 4 == 0) && (usesCm || bits w 5 3 == 0))
    then some (some { cls := cls, size := size, mode := mode, d := d, p := bits w 12 4,
                      k := if immMode then 0 else bits w 8 4, cm := if immMode then 0 else bits w 5 3,
                      imm := if immMode then sext 8 (bits w 4 8) else 0 })
    else none

/-- One row of the MAC operation table (R98): kind, whether S and bit 24 are allowed, the alignments of
X and Y (0: the field must be 0), the alignment of the accumulator and the largest SH. -/
structure MacRow where
  kind : MacKind
  s : Bool
  i : Bool
  x : Nat
  y : Nat
  acc : Nat
  sh : Nat
  deriving DecidableEq, Repr

def macRow (op : Nat) : Option MacRow :=
  match op with
  | 0x01 => some ⟨.mac4, true, true, 2, 2, 1, 0⟩
  | 0x02 => some ⟨.msu4, true, true, 2, 2, 1, 0⟩
  | 0x03 => some ⟨.mul4, true, true, 2, 2, 1, 0⟩
  | 0x04 => some ⟨.mac4v, true, true, 2, 2, 4, 0⟩
  | 0x05 => some ⟨.mul4v, true, true, 2, 2, 4, 0⟩
  | 0x06 => some ⟨.mac2, true, true, 1, 1, 1, 0⟩
  | 0x07 => some ⟨.mul2, true, true, 1, 1, 1, 0⟩
  | 0x08 => some ⟨.macw, true, true, 2, 1, 1, 0⟩
  | 0x09 => some ⟨.msuw, true, true, 2, 1, 1, 0⟩
  | 0x0A => some ⟨.mulw, true, true, 2, 1, 1, 0⟩
  | 0x0B => some ⟨.cmac, true, true, 1, 1, 2, 0⟩
  | 0x0C => some ⟨.cmul, true, true, 1, 1, 2, 0⟩
  | 0x0D => some ⟨.cmacj, true, true, 1, 1, 2, 0⟩
  | 0x0E => some ⟨.cmulj, true, true, 1, 1, 2, 0⟩
  | 0x10 => some ⟨.clr, false, false, 0, 0, 1, 0⟩
  | 0x11 => some ⟨.lda, false, false, 1, 0, 1, 0⟩
  | 0x12 => some ⟨.ldax, false, false, 2, 0, 1, 0⟩
  | 0x18 => some ⟨.ext, true, true, 1, 0, 1, 31⟩
  | 0x19 => some ⟨.extc, true, false, 1, 0, 2, 15⟩
  | 0x1A => some ⟨.exth, false, false, 1, 0, 1, 0⟩
  | _ => none

/-- Decodes a MAC syllable of unit `unit` (R55, R84, R97, R98). -/
def decodeMac (unit w : Nat) : Option (Option MacOp) :=
  if w = 0 then some none
  else match macRow (bits w 26 6) with
    | none => none
    | some r =>
      let s := bits w 25 1
      let i := bits w 24 1
      let acc := bits w 20 4
      let x := bits w 14 6
      let y := bits w 8 6
      let sh := bits w 0 5
      if (r.s || s == 0) && (r.i || i == 0) && acc / 8 == unit && aligned r.acc acc &&
         (if r.x == 0 then x == 0 else aligned r.x x) && (if r.y == 0 then y == 0 else aligned r.y y) &&
         bits w 5 3 == 0 && decide (sh ≤ r.sh)
      then some (some { kind := r.kind, s := s == 1, i := i == 1, acc := acc, x := x, y := y, sh := sh })
      else none

/-- One row of the ALU operation table (R101): kind, whether S and I are allowed, whether B is unused,
whether the immediate has 16 bits. -/
structure AluRow where
  kind : AluKind
  s : Bool
  i : Bool
  one : Bool
  imm16 : Bool
  deriving DecidableEq, Repr

def aluRow (op : Nat) : Option AluRow :=
  match op with
  | 0x01 => some ⟨.add, true, true, false, false⟩
  | 0x02 => some ⟨.sub, true, true, false, false⟩
  | 0x03 => some ⟨.addu, true, true, false, false⟩
  | 0x04 => some ⟨.subu, true, true, false, false⟩
  | 0x05 => some ⟨.neg, true, false, true, false⟩
  | 0x06 => some ⟨.abs, true, false, true, false⟩
  | 0x07 => some ⟨.add2, true, false, false, false⟩
  | 0x08 => some ⟨.sub2, true, false, false, false⟩
  | 0x09 => some ⟨.and, false, true, false, false⟩
  | 0x0A => some ⟨.or, false, true, false, false⟩
  | 0x0B => some ⟨.xor, false, true, false, false⟩
  | 0x0C => some ⟨.andn, false, true, false, false⟩
  | 0x0D => some ⟨.not, false, false, true, false⟩
  | 0x0E => some ⟨.shl, true, true, false, false⟩
  | 0x0F => some ⟨.lsr, false, true, false, false⟩
  | 0x10 => some ⟨.asr, false, true, false, false⟩
  | 0x11 => some ⟨.ror, false, true, false, false⟩
  | 0x12 => some ⟨.min, false, true, false, false⟩
  | 0x13 => some ⟨.max, false, true, false, false⟩
  | 0x14 => some ⟨.minu, false, true, false, false⟩
  | 0x15 => some ⟨.maxu, false, true, false, false⟩
  | 0x16 => some ⟨.minx, false, false, false, false⟩
  | 0x17 => some ⟨.maxx, false, false, false, false⟩
  | 0x18 => some ⟨.minxu, false, false, false, false⟩
  | 0x19 => some ⟨.maxxu, false, false, false, false⟩
  | 0x1A => some ⟨.cmpeq, false, true, false, false⟩
  | 0x1B => some ⟨.cmpne, false, true, false, false⟩
  | 0x1C => some ⟨.cmplt, false, true, false, false⟩
  | 0x1D => some ⟨.cmple, false, true, false, false⟩
  | 0x1E => some ⟨.cmpltu, false, true, false, false⟩
  | 0x1F => some ⟨.cmpleu, false, true, false, false⟩
  | 0x20 => some ⟨.mov, false, false, true, false⟩
  | 0x21 => some ⟨.movi, false, true, false, true⟩
  | 0x22 => some ⟨.movhi, false, true, false, true⟩
  | 0x23 => some ⟨.movt, false, false, false, false⟩
  | 0x24 => some ⟨.movf, false, false, false, false⟩
  | 0x25 => some ⟨.sxb, false, false, true, false⟩
  | 0x26 => some ⟨.sxh, false, false, true, false⟩
  | 0x27 => some ⟨.zxb, false, false, true, false⟩
  | 0x28 => some ⟨.zxh, false, false, true, false⟩
  | 0x29 => some ⟨.clz, false, false, true, false⟩
  | 0x2A => some ⟨.cls, false, false, true, false⟩
  | 0x2B => some ⟨.popc, false, false, true, false⟩
  | 0x30 => some ⟨.div, true, true, false, false⟩
  | 0x31 => some ⟨.divu, false, true, false, false⟩
  | 0x32 => some ⟨.rem, false, true, false, false⟩
  | 0x33 => some ⟨.remu, false, true, false, false⟩
  | _ => none

def aluIsDiv (k : AluKind) : Bool := k == .div || k == .divu || k == .rem || k == .remu
def aluIsMinx (k : AluKind) : Bool := k == .minx || k == .maxx || k == .minxu || k == .maxxu

/-- R102: limits on the operands of single operations; `unit` is 0 for AL0 and 1 for AL1. -/
def aluLimits (unit : Nat) (k : AluKind) (dst b : Nat) : Bool :=
  if aluIsMinx k then decide (dst < 63)
  else if k == .movt || k == .movf then decide (0xC0 ≤ b)
  else if k == .movhi then decide (dst < 0x40) || (decide (0x80 ≤ dst) && decide (dst < 0xC0))
  else if aluIsDiv k then unit == 1 && decide (dst < 0x40)
  else true

/-- Decodes an ALU syllable of unit `unit` (R84, R85, R100 to R102). -/
def decodeAlu (unit w : Nat) : Option (Option AluOp) :=
  if w = 0 then some none
  else match aluRow (bits w 26 6) with
    | none => none
    | some r =>
      let s := bits w 25 1
      let i := bits w 24 1
      let dst := bits w 16 8
      let a := bits w 8 8
      let b := bits w 0 8
      if (r.s || s == 0) && (r.i || i == 0) && (!r.imm16 || i == 1) && (!r.one || b == 0) && regFieldOk dst &&
         (r.imm16 || regFieldOk a) && (r.imm16 || i == 1 || regFieldOk b) && aluLimits unit r.kind dst b
      then some (some { kind := r.kind, s := s == 1, i := i == 1, dst := dst, a := a, b := b, imm16 := bits w 0 16 })
      else none

/-- One row of the FP operation table (R105): kind, the formats S, P and D allowed, whether B is used,
whether it rounds (an override is allowed). -/
structure FpRow where
  kind : FpKind
  fs : Bool
  fp : Bool
  fd : Bool
  b : Bool
  rounds : Bool
  deriving DecidableEq, Repr

def fpRow (op : Nat) : Option FpRow :=
  match op with
  | 0x01 => some ⟨.fadd, true, true, true, true, true⟩
  | 0x02 => some ⟨.fsub, true, true, true, true, true⟩
  | 0x03 => some ⟨.fmul, true, true, true, true, true⟩
  | 0x04 => some ⟨.fma, true, true, true, true, true⟩
  | 0x05 => some ⟨.fms, true, true, true, true, true⟩
  | 0x06 => some ⟨.fnma, true, true, true, true, true⟩
  | 0x07 => some ⟨.fnms, true, true, true, true, true⟩
  | 0x08 => some ⟨.fmin, true, true, true, true, false⟩
  | 0x09 => some ⟨.fmax, true, true, true, true, false⟩
  | 0x0A => some ⟨.fabs, true, true, true, false, false⟩
  | 0x0B => some ⟨.fneg, true, true, true, false, false⟩
  | 0x0C => some ⟨.fmov, true, true, true, false, false⟩
  | 0x0D => some ⟨.fcmpeq, true, false, true, true, false⟩
  | 0x0E => some ⟨.fcmplt, true, false, true, true, false⟩
  | 0x0F => some ⟨.fcmple, true, false, true, true, false⟩
  | 0x10 => some ⟨.fcmpun, true, false, true, true, false⟩
  | 0x11 => some ⟨.frecpe, true, true, true, false, false⟩
  | 0x12 => some ⟨.frsqrte, true, true, true, false, false⟩
  | 0x18 => some ⟨.cvtDS, true, false, false, false, true⟩
  | 0x19 => some ⟨.cvtSD, true, false, false, false, true⟩
  | 0x1A => some ⟨.cvtWS, true, true, false, false, true⟩
  | 0x1B => some ⟨.cvtSW, true, true, false, false, true⟩
  | 0x1C => some ⟨.cvtWD, true, false, false, false, true⟩
  | 0x1D => some ⟨.cvtDW, true, false, false, false, true⟩
  | 0x1E => some ⟨.cvtQS, true, true, false, false, true⟩
  | 0x1F => some ⟨.cvtSQ, true, true, false, false, true⟩
  | _ => none

def fpIsCmp (k : FpKind) : Bool := k == .fcmpeq || k == .fcmplt || k == .fcmple || k == .fcmpun

/-- R104: the fields that name a pair of registers hold an even number. -/
def fpPairs (k : FpKind) (fmt d a b : Nat) : Bool :=
  let wide := fmt != 0
  match k with
  | .cvtDS => aligned 2 d
  | .cvtDW => aligned 2 d
  | .cvtSD => aligned 2 a
  | .cvtWD => aligned 2 a
  | _ => !wide || ((fpIsCmp k || aligned 2 d) && aligned 2 a && aligned 2 b)

/-- Decodes an FP syllable (R84, R104, R105). -/
def decodeFp (w : Nat) : Option (Option FpOp) :=
  if w = 0 then some none
  else match fpRow (bits w 26 6) with
    | none => none
    | some r =>
      let fmt := bits w 24 2
      let ovr := bits w 23 1
      let d := bits w 12 6
      let a := bits w 6 6
      let b := bits w 0 6
      if ((fmt == 0 && r.fs) || (fmt == 1 && r.fp) || (fmt == 2 && r.fd)) && (r.rounds || ovr == 0) &&
         bits w 18 3 == 0 && (r.b || b == 0) && (!fpIsCmp r.kind || decide (d < 8)) && fpPairs r.kind fmt d a b
      then some (some { kind := r.kind, fmt := fmt, ovr := ovr == 1, rm := bits w 21 2, d := d, a := a, b := b })
      else none

/-- The bits of `w` in `mask` are 0. -/
def zeroBits (w mask : Nat) : Bool := w &&& mask == 0

/-- Decodes the low 31 bits of a CT syllable (R84, R113). -/
def decodeCt (w : Nat) : Option CtOp :=
  match bits w 26 5 with
  | 0x00 => if w = 0 then some .nop else none
  | 0x01 => if zeroBits w 0x03FF8000 then some (.brt (bits w 12 3) (bits w 0 12)) else none
  | 0x02 => if zeroBits w 0x03FF8000 then some (.brf (bits w 12 3) (bits w 0 12)) else none
  | 0x03 => if zeroBits w 0x03FF0000 then some (.jl (bits w 12 4) (bits w 0 12)) else none
  | 0x04 => if zeroBits w 0x03FF0FFF then some (.jr (bits w 12 4)) else none
  | 0x05 => some (.loop (bits w 24 2) (bits w 12 12 + 1) (bits w 0 12))
  | 0x06 => if zeroBits w 0x00FC0000 then some (.loopr (bits w 24 2) (bits w 12 6) (bits w 0 12)) else none
  | 0x07 => if zeroBits w 0x00FFFFFF then some (.lbrk (bits w 24 2)) else none
  | 0x08 => if zeroBits w 0x03FFFFFF then some .repeatRpt else none
  | 0x09 => if zeroBits w 0x03FF0000 then some (.repeatN (bits w 0 16 + 1)) else none
  | 0x0A => if zeroBits w 0x03FFFFFF then some .bwait else none
  | 0x0B => if zeroBits w 0x03FFFFFF then some .sleep else none
  | 0x0C => if zeroBits w 0x03FFFFFF then some .reti else none
  | 0x0D => if zeroBits w 0x03FFE000 && regFieldOk (bits w 0 8) then some (.mvc (bits w 8 5) (bits w 0 8)) else none
  | 0x0E => if zeroBits w 0x03FFE000 && regFieldOk (bits w 0 8) then some (.mvr (bits w 0 8) (bits w 8 5)) else none
  | 0x10 => if zeroBits w 0x03FFFE00 then some (.cand (bits w 6 3) (bits w 3 3) (bits w 0 3)) else none
  | 0x11 => if zeroBits w 0x03FFFE00 then some (.cor (bits w 6 3) (bits w 3 3) (bits w 0 3)) else none
  | 0x12 => if zeroBits w 0x03FFFE00 then some (.cxor (bits w 6 3) (bits w 3 3) (bits w 0 3)) else none
  | 0x13 => if zeroBits w 0x03FFFE00 then some (.candn (bits w 6 3) (bits w 3 3) (bits w 0 3)) else none
  | 0x18 => if zeroBits w 0x03FFFFFF then some .lock else none
  | 0x19 => if zeroBits w 0x03FFFFFF then some .unlock else none
  | _ => none

/-- Decodes the eight syllables of a bundle; otherwise the slot of the first syllable that encodes no
operation (R55, R84). -/
def decodeBundle (w : List Nat) : Except Nat Bundle :=
  let g := fun i => w.getD i 0
  match decodeLs (g 0), decodeLs (g 1), decodeMac 0 (g 2), decodeMac 1 (g 3), decodeAlu 0 (g 4),
        decodeAlu 1 (g 5), decodeFp (g 6), decodeCt (bits (g 7) 0 31) with
  | none, _, _, _, _, _, _, _ => .error 0
  | _, none, _, _, _, _, _, _ => .error 1
  | _, _, none, _, _, _, _, _ => .error 2
  | _, _, _, none, _, _, _, _ => .error 3
  | _, _, _, _, none, _, _, _ => .error 4
  | _, _, _, _, _, none, _, _ => .error 5
  | _, _, _, _, _, _, none, _ => .error 6
  | _, _, _, _, _, _, _, none => .error 7
  | some a, some b, some c, some d, some e, some f, some h, some t =>
    .ok { ls0 := a, ls1 := b, ma0 := c, ma1 := d, al0 := e, al1 := f, fp := h, ct := t, window := bits (g 7) 31 1 == 1 }

end Sys2Proof.Machine
end

