-- ==== Sys2Proof/Machine/Operands.lean ====
section
/-! DEFINITION. Operands of a signal core: registers by register field (R56, R57, R85, R86),
accumulators as accumulating and as other readers see them (R60), and the addressing modes (R90 to R92). -/

namespace Sys2Proof.Machine

/-- Keys of an accumulator and of a control register in `Core.r` (R423). -/
def accKey (a : Nat) : Nat := 0x100 + a
def ctlKey (r : Nat) : Nat := 0x110 + r

/-- What the register of key `k` holds. C0 reads 1 (R57). -/
def Core.get (c : Core) (k : Nat) : Nat := if k = 0xC0 then 1 else tget 0 c.r k

/-- What a result `v` leaves in the register of key `k` (R57, R86). -/
def regValue (k v : Nat) : Nat :=
  if k < 0x40 then v % 2 ^ 32
  else if k < 0x80 then v % 2 ^ 24
  else if k < 0xC0 then v % 2 ^ 32
  else if k < 0x100 then (if v % 2 ^ 32 = 0 then 0 else 1)
  else if k < 0x110 then v % 2 ^ 40
  else v

/-- The register of key `k` takes a result; a write of C0 is discarded (R57). -/
def Core.put (c : Core) (k v : Nat) : Core :=
  if k = 0xC0 then c else { c with r := tput 0 c.r k (regValue k v) }

def Core.d (c : Core) (x : Nat) : Nat := c.get x
def Core.p (c : Core) (x : Nat) : Nat := c.get (0x40 + x)
def Core.k (c : Core) (x : Nat) : Nat := c.get (0x80 + x)
def Core.cond (c : Core) (x : Nat) : Bool := decide (c.get (0xC0 + x) ≠ 0)
def Core.ctl (c : Core) (r : Nat) : Nat := c.get (ctlKey r)
def Core.setCtl (c : Core) (r v : Nat) : Core := c.put (ctlKey r) v

/-- The 64-bit value of a pair, low word in Dx (R57). -/
def Core.pair (c : Core) (x : Nat) : Nat := c.d x + 2 ^ 32 * c.d (x + 1)

/-- The accumulator with every issued update, as an accumulating operation sees it (R60). -/
def Core.accChain (c : Core) (a : Nat) : Int :=
  match (c.flight.filter (fun f => f.dest = accKey a)).getLast? with
  | some f => sext 40 f.val
  | none => sext 40 (c.get (accKey a))

/-- The accumulator as an extract sees it (R60). -/
def Core.accRead (c : Core) (a : Nat) : Int := sext 40 (c.get (accKey a))

/-- A result of one operation: its latency, register key, value and flags. Key 0x3FF carries flags alone. -/
structure Res where
  lat : Nat
  dest : Nat
  val : Nat
  sflags : Nat
  fflags : Nat
  deriving DecidableEq, Repr

def res (lat dest val : Nat) : Res := { lat := lat, dest := dest, val := val, sflags := 0, fflags := 0 }

/-! ### Addressing (R90 to R92) -/

/-- Access size in bytes. -/
def lsBytes (o : LsOp) : Nat :=
  match o.size with
  | 0 => 1 | 1 => 1 | 2 => 2 | 3 => 2 | 4 => 4 | 5 => 8 | _ => 16

def wrap24 (i : Int) : Nat := (i % (2 ^ 24 : Nat)).toNat

/-- The access address (R90). -/
def lsAddr (c : Core) (o : LsOp) : Nat :=
  match o.mode with
  | 5 => wrap24 (c.p o.p + o.imm * lsBytes o)
  | 6 => (c.p o.p + c.k o.k) % 2 ^ 24
  | _ => c.p o.p

/-- The circular update of mode 2 (R91). -/
def circular (c : Core) (o : LsOp) : Nat :=
  let b : Nat := c.k (2 * o.cm) % 2 ^ 24
  let l : Nat := c.k (2 * o.cm + 1) % 2 ^ 24
  if l = 0 then (c.p o.p + c.k o.k) % 2 ^ 24
  else
    let q : Int := (c.p o.p : Int) - b + sext 32 (c.k o.k)
    wrap24 (b + q % l)

/-- Bits of `v` in reversed order over `w` bits. -/
def bitRev : Nat → Nat → Nat
  | 0, _ => 0
  | w + 1, v => v % 2 * 2 ^ w + bitRev w (v / 2)

/-- Base-2 logarithm of the access size. -/
def lsLog (o : LsOp) : Nat :=
  match o.size with
  | 0 => 0 | 1 => 0 | 2 => 1 | 3 => 1 | 4 => 2 | 5 => 3 | _ => 4

/-- The bit-reversed update of mode 3 (R92): an addition with the bits [23:s] in reversed order. -/
def reversed (c : Core) (o : LsOp) : Nat :=
  let s := lsLog o
  let w := 24 - s
  let sum := (bitRev w (bits (c.p o.p) s w) + bitRev w (bits (c.k o.k) s w)) % 2 ^ w
  bitRev w sum * 2 ^ s + c.p o.p % 2 ^ s

/-- The pointer after the access, if the mode updates it (R90). -/
def lsUpdate (c : Core) (o : LsOp) : Option Nat :=
  match o.mode with
  | 1 => some ((c.p o.p + c.k o.k) % 2 ^ 24)
  | 2 => some (circular c o)
  | 3 => some (reversed c o)
  | 4 => some (wrap24 (c.p o.p + o.imm * lsBytes o))
  | _ => none

/-- The data a store writes (R89): its registers' low bytes, lowest-addressed word first. -/
def lsData (c : Core) (o : LsOp) : List Byte :=
  match o.size with
  | 5 => leBytes 4 (c.d o.d) ++ leBytes 4 (c.d (o.d + 1))
  | 6 => leBytes 4 (c.d o.d) ++ leBytes 4 (c.d (o.d + 1)) ++ leBytes 4 (c.d (o.d + 2)) ++ leBytes 4 (c.d (o.d + 3))
  | _ => leBytes (lsBytes o) (c.d o.d)

/-- Whether a load sign-extends (R89). -/
def lsSigned (o : LsOp) : Bool := o.size = 0 || o.size = 2

/-- The register values a load of `data` gives, from Dd upwards (R89). -/
def loadWords (signed : Bool) (data : List Byte) : List Nat :=
  match data.length with
  | 1 => [if signed then unsext 32 (sext 8 (leNat data)) else leNat data]
  | 2 => [if signed then unsext 32 (sext 16 (leNat data)) else leNat data]
  | 4 => [leNat data]
  | 8 => [leNat (data.take 4), leNat (data.drop 4)]
  | _ => [leNat (data.take 4), leNat ((data.drop 4).take 4), leNat ((data.drop 8).take 4), leNat (data.drop 12)]

end Sys2Proof.Machine
end

