-- ==== Sys2Proof/Machine/Flags.lean ====
section
/-! DEFINITION. Flags of a signal core: the sticky bits of SC_STATUS and FPCTL, how they are raised at
a landing and when they trap (R74, R111, R115 to R117). -/

namespace Sys2Proof.Machine

/-- Bits of SC_STATUS (control register 1). -/
def fOV : Nat := 0x100
def fDZ : Nat := 0x200
def fWAW : Nat := 0x400
def fLockBroken : Nat := 0x800
def sIE : Fld := ⟨0, 1⟩
def sInHandler : Fld := ⟨1, 1⟩
def sWaiting : Fld := ⟨2, 1⟩
def sTrapPend : Fld := ⟨3, 1⟩
def sLoopact : Fld := ⟨4, 4⟩
def sDzTrap : Fld := ⟨12, 1⟩
def sTrapCause : Fld := ⟨16, 4⟩

/-- Flags of FPCTL, from bit 8: NV, DZ, OF, UF, NX. -/
def xNV : Nat := 1
def xDZ : Nat := 2
def xOF : Nat := 4
def xUF : Nat := 8
def xNX : Nat := 16

/-- Numbers of the control registers. -/
def crFPCTL : Nat := 0
def crSTATUS : Nat := 1
def crIPC : Nat := 2
def crISTAT : Nat := 3
def crRPT : Nat := 4
def crBLK : Nat := 5
def crCYCLO : Nat := 6
def crCYCHI : Nat := 7

def Core.status (c : Core) : Nat := c.ctl crSTATUS
def Core.sfld (c : Core) (f : Fld) : Nat := bits c.status f.lo f.w
def Core.setSfld (c : Core) (f : Fld) (x : Nat) : Core := c.setCtl crSTATUS (setBits c.status f.lo f.w x)
def Core.ie (c : Core) : Bool := c.sfld sIE = 1
def Core.inHandler (c : Core) : Bool := c.sfld sInHandler = 1

/-- Loop level `k` is active (LOOPACT). -/
def Core.loopActive (c : Core) (k : Nat) : Bool := bits c.status (4 + k) 1 = 1
def Core.setLoopActive (c : Core) (k : Nat) (b : Bool) : Core := c.setCtl crSTATUS (setBits c.status (4 + k) 1 (b2n b))

/-- TRAP_PEND and TRAPCAUSE (R74). -/
def Core.trap (c : Core) (cause : Nat) : Core := (c.setSfld sTrapPend 1).setSfld sTrapCause cause

/-- Raises sticky flags of SC_STATUS; an integer divide by zero with DZ_TRAP traps (R74, R103). -/
def Core.raise (c : Core) (f : Nat) : Core :=
  let c1 := c.setCtl crSTATUS (c.status ||| f)
  if bits f 9 1 = 1 ∧ c.sfld sDzTrap = 1 then c1.trap 1 else c1

/-- Raises sticky flags of FPCTL; an enabled one traps (R74, R111). -/
def Core.raiseFp (c : Core) (f : Nat) : Core :=
  let c1 := c.setCtl crFPCTL (c.ctl crFPCTL ||| f * 0x100)
  if f &&& bits (c.ctl crFPCTL) 16 5 = 0 then c1 else c1.trap 2

end Sys2Proof.Machine
end

