-- ==== Sys2Proof/Machine/ScFp.lean ====
section
/-! DEFINITION. The floating-point slot (R104 to R112): IEEE 754 arithmetic on exact integers. A finite
number is m · 2^e; every operation forms its exact result and rounds it once. -/

namespace Sys2Proof.Machine

/-- A binary format: significand bits, exponent bits. -/
structure FFmt where
  p : Nat
  ew : Nat
  deriving DecidableEq, Repr

def f32 : FFmt := ⟨24, 8⟩
def f64 : FFmt := ⟨53, 11⟩

def FFmt.width (f : FFmt) : Nat := f.p + f.ew
/-- Exponent of the least significant bit of a subnormal. -/
def FFmt.qmin (f : FFmt) : Int := 3 - (2 ^ (f.ew - 1) : Nat) - f.p
/-- The encoding of +∞ and of the largest finite number. -/
def FFmt.inf (f : FFmt) : Nat := (2 ^ f.ew - 1) * 2 ^ (f.p - 1)
def FFmt.maxFinite (f : FFmt) : Nat := f.inf - 1
def FFmt.signBit (f : FFmt) : Nat := 2 ^ (f.width - 1)
def FFmt.quietBit (f : FFmt) : Nat := 2 ^ (f.p - 2)
/-- The default NaN (R108). -/
def FFmt.nan (f : FFmt) : Nat := f.inf + f.quietBit

/-- A decoded operand. -/
inductive FVal where
  | nan (bits : Nat) (signalling : Bool)
  | inf (neg : Bool)
  | fin (neg : Bool) (m : Nat) (e : Int)
  deriving DecidableEq, Repr

/-- Decodes `v`; with `daz` a subnormal reads as zero of its sign (R107). -/
def fdecode (f : FFmt) (daz : Bool) (v : Nat) : FVal :=
  let neg := bits v (f.width - 1) 1 = 1
  let ex := bits v (f.p - 1) f.ew
  let fr := v % 2 ^ (f.p - 1)
  if ex = 2 ^ f.ew - 1 then
    if fr = 0 then .inf neg else .nan v (fr < f.quietBit)
  else if ex = 0 then .fin neg (if daz then 0 else fr) f.qmin
  else .fin neg (2 ^ (f.p - 1) + fr) (f.qmin + ((ex : Int) - 1))

def FVal.isSnan : FVal → Bool
  | .nan _ s => s
  | _ => false

def FVal.isNan : FVal → Bool
  | .nan _ _ => true
  | _ => false

def FVal.neg : FVal → FVal
  | .nan b s => .nan b s
  | .inf n => .inf (!n)
  | .fin n m e => .fin (!n) m e

def FVal.isNeg : FVal → Bool
  | .nan _ _ => false
  | .inf n => n
  | .fin n _ _ => n

def FVal.isZero : FVal → Bool
  | .fin _ m _ => m = 0
  | _ => false

def FVal.isInf : FVal → Bool
  | .inf _ => true
  | _ => false

/-- Length of `v` in bits, for values below 2^`fuel`. -/
def bitLen : Nat → Nat → Nat
  | 0, _ => 0
  | fuel + 1, v => if v = 0 then 0 else 1 + bitLen fuel (v / 2)

/-- Room for every exact intermediate of the formats. -/
def fpFuel : Nat := 6500

/-- Whether a magnitude with last kept bit `odd` and discarded part `rem` of `2^d` is rounded up. Modes
as FPCTL.RM. -/
def roundUp (rm : Nat) (neg odd : Bool) (rem half : Nat) : Bool :=
  match rm with
  | 0 => decide (half < rem) || (rem == half && odd)
  | 1 => false
  | 2 => !neg && decide (0 < rem)
  | _ => neg && decide (0 < rem)

/-- m · 2^e as a multiple of 2^q, rounded; the answer says whether it is inexact. -/
def roundAt (rm : Nat) (neg : Bool) (m : Nat) (e q : Int) : Nat × Bool :=
  if q ≤ e then (m * 2 ^ (e - q).toNat, false)
  else
    let d := (q - e).toNat
    let hi := m / 2 ^ d
    let rem := m % 2 ^ d
    ((if rem = 0 then hi else if roundUp rm neg (hi % 2 = 1) (2 * rem) (2 ^ d) then hi + 1 else hi), decide (rem ≠ 0))

def signed (f : FFmt) (neg : Bool) (v : Nat) : Nat := if neg then f.signBit + v else v

/-- The exact result m · 2^e (m ≠ 0) in format `f`: rounded, with overflow, underflow and flushing (R107). -/
def fround (f : FFmt) (rm : Nat) (ftz neg : Bool) (m : Nat) (e : Int) : Nat × Nat :=
  let len : Int := bitLen fpFuel m
  let q := e + len - f.p
  let (mt, _) := roundAt rm neg m e q
  let tiny := decide ((bitLen fpFuel mt : Int) + q ≤ f.qmin + (f.p : Int) - 1)
  if tiny && ftz then (signed f neg 0, xUF ||| xNX)
  else
    let qa := if q < f.qmin then f.qmin else q
    let (ma, inexact) := roundAt rm neg m e qa
    let enc := (qa - f.qmin).toNat * 2 ^ (f.p - 1) + ma
    if f.inf ≤ enc then
      let toInf := rm = 0 || (rm = 2 && !neg) || (rm = 3 && neg)
      (signed f neg (if toInf then f.inf else f.maxFinite), xOF ||| xNX)
    else (signed f neg enc, if inexact then (if tiny then xUF ||| xNX else xNX) else 0)

/-- The first NaN of the operands, quieted (R108). -/
def firstNan (f : FFmt) : List FVal → Option Nat
  | [] => none
  | .nan b _ :: _ => some (b ||| f.quietBit)
  | _ :: t => firstNan f t

def nvIf (b : Bool) : Nat := if b then xNV else 0

/-- The exact signed value of a finite operand over 2^q. -/
def finInt (neg : Bool) (m : Nat) (e q : Int) : Int :=
  let v : Int := (m * 2 ^ (e - q).toNat : Nat)
  if neg then -v else v

/-- A finite sum: the exact value, and the sign of an exact zero (both parts' sign, else by the mode). -/
def addFin (f : FFmt) (rm : Nat) (ftz : Bool) (n1 : Bool) (m1 : Nat) (e1 : Int) (n2 : Bool) (m2 : Nat) (e2 : Int) : Nat × Nat :=
  let q := if e1 < e2 then e1 else e2
  let t := finInt n1 m1 e1 q + finInt n2 m2 e2 q
  if t = 0 then (signed f (if n1 = n2 then n1 else rm = 3) 0, 0)
  else fround f rm ftz (decide (t < 0)) t.natAbs q

/-- a + b (R105, R108). -/
def fadd (f : FFmt) (rm : Nat) (ftz : Bool) (a b : FVal) : Nat × Nat :=
  match firstNan f [a, b] with
  | some v => (v, nvIf (a.isSnan || b.isSnan))
  | none =>
    match a, b with
    | .fin n1 m1 e1, .fin n2 m2 e2 => addFin f rm ftz n1 m1 e1 n2 m2 e2
    | .inf n1, .inf n2 => if n1 = n2 then (signed f n1 f.inf, 0) else (f.nan, xNV)
    | .inf n, _ => (signed f n f.inf, 0)
    | _, .inf n => (signed f n f.inf, 0)
    | _, _ => (f.nan, xNV)

/-- a × b. -/
def fmul (f : FFmt) (rm : Nat) (ftz : Bool) (a b : FVal) : Nat × Nat :=
  match firstNan f [a, b] with
  | some v => (v, nvIf (a.isSnan || b.isSnan))
  | none =>
    let neg := a.isNeg != b.isNeg
    if (a.isInf && b.isZero) || (a.isZero && b.isInf) then (f.nan, xNV)
    else if a.isInf || b.isInf then (signed f neg f.inf, 0)
    else match a, b with
      | .fin _ m1 e1, .fin _ m2 e2 =>
        if m1 * m2 = 0 then (signed f neg 0, 0) else fround f rm ftz neg (m1 * m2) (e1 + e2)
      | _, _ => (f.nan, xNV)

/-- ± a × b ± c with one rounding; `np` and `nc` negate the product and c, as numbers only (R105, R108). -/
def ffma (f : FFmt) (rm : Nat) (ftz np nc : Bool) (a b c : FVal) : Nat × Nat :=
  let bad := (a.isInf && b.isZero) || (a.isZero && b.isInf)
  match firstNan f [a, b, c] with
  | some v => (v, nvIf (a.isSnan || b.isSnan || c.isSnan || bad))
  | none =>
    let neg := (a.isNeg != b.isNeg) != np
    let c' := if nc then c.neg else c
    if bad then (f.nan, xNV)
    else if a.isInf || b.isInf then
      (if c'.isInf && c'.isNeg != neg then (f.nan, xNV) else (signed f neg f.inf, 0))
    else match a, b, c' with
      | .fin _ m1 e1, .fin _ m2 e2, .fin n3 m3 e3 => addFin f rm ftz neg (m1 * m2) (e1 + e2) n3 m3 e3
      | _, _, .inf n => (signed f n f.inf, 0)
      | _, _, _ => (f.nan, xNV)

/-- Order of two numbers that are no NaN: the sign of a − b, with −0 = +0. -/
def fcmp (a b : FVal) : Int :=
  match a, b with
  | .inf n1, .inf n2 => if n1 = n2 then 0 else if n1 then -1 else 1
  | .inf n, _ => if n then -1 else 1
  | _, .inf n => if n then 1 else -1
  | .fin n1 m1 e1, .fin n2 m2 e2 =>
    let q := if e1 < e2 then e1 else e2
    (finInt n1 m1 e1 q - finInt n2 m2 e2 q).sign
  | _, _ => 0

/-- The bits of a decoded operand. -/
def fencode (f : FFmt) : FVal → Nat
  | .nan b _ => b
  | .inf n => signed f n f.inf
  | .fin n m e => signed f n (if m = 0 then 0 else (e - f.qmin).toNat * 2 ^ (f.p - 1) + m)

/-- FMIN (`max` false) and FMAX (R105, R108): −0 is smaller than +0. -/
def fminmax (f : FFmt) (max : Bool) (a b : FVal) : Nat × Nat :=
  let nv := nvIf (a.isSnan || b.isSnan)
  match a.isNan, b.isNan with
  | true, true => ((firstNan f [a]).getD f.nan, nv)
  | true, false => (fencode f b, nv)
  | false, true => (fencode f a, nv)
  | false, false =>
    let o := fcmp a b
    let aLess := decide (o < 0) || (decide (o = 0) && a.isNeg && !b.isNeg)
    (fencode f (if aLess != max then a else b), nv)

/-- Integer square root by bits: the largest s below 2^n·(bits chosen so far) with s² ≤ v. -/
def isqrtBits : Nat → Nat → Nat → Nat
  | 0, _, s => s
  | n + 1, v, s => isqrtBits n v (if (s + 2 ^ n) * (s + 2 ^ n) ≤ v then s + 2 ^ n else s)

/-- An estimate from a value x · 2^e with a sticky bit below it: 12 significant bits, nearest even (R110). -/
def estimate12 (f : FFmt) (neg : Bool) (x : Nat) (e : Int) : Nat × Nat :=
  let q := e + (bitLen fpFuel x : Int) - 12
  let (m, _) := roundAt 0 neg x e q
  -- below the smallest normal number, judged on the exact value (x carries a sticky bit and rounds nothing)
  if (bitLen fpFuel x : Int) + e ≤ f.qmin + (f.p : Int) - 1 then (signed f neg 0, xUF ||| xNX)
  else
    let sh := q - ((bitLen fpFuel m : Int) + q - f.p)
    let enc := ((bitLen fpFuel m : Int) + q - f.p - f.qmin).toNat * 2 ^ (f.p - 1) + m * 2 ^ sh.toNat
    if f.inf ≤ enc then (signed f neg f.inf, xOF ||| xNX) else (signed f neg enc, 0)

/-- FRECPE (R110). -/
def frecpe (f : FFmt) (a : FVal) : Nat × Nat :=
  match a with
  | .nan b s => (b ||| f.quietBit, nvIf s)
  | .inf n => (signed f n 0, 0)
  | .fin n m e =>
    if m = 0 then (signed f n f.inf, xDZ)
    else
      let k := bitLen fpFuel m + 20
      estimate12 f n (2 * (2 ^ k / m) + (if 2 ^ k % m = 0 then 0 else 1)) (-(k : Int) - 1 - e)

/-- FRSQRTE (R110). -/
def frsqrte (f : FFmt) (a : FVal) : Nat × Nat :=
  match a with
  | .nan b s => (b ||| f.quietBit, nvIf s)
  | .inf n => if n then (f.nan, xNV) else (0, 0)
  | .fin n m e =>
    if m = 0 then (signed f n f.inf, xDZ)
    else if n then (f.nan, xNV)
    else
      let m' := if e % 2 = 0 then m else 2 * m
      let e' := if e % 2 = 0 then e else e - 1
      let k := bitLen fpFuel m' + 20
      let quo := 2 ^ (2 * k) / m'
      let r := isqrtBits (k + 1) quo 0
      let sticky := if 2 ^ (2 * k) % m' = 0 && r * r == quo then 0 else 1
      estimate12 f false (2 * r + sticky) (-(k : Int) - 1 - e' / 2)

/-- A conversion to a 32-bit integer of `a` × 2^`sh` (R108, R109). -/
def fToInt (rm : Nat) (sh : Nat) (a : FVal) : Nat × Nat :=
  match a with
  | .nan _ _ => (0, xNV)
  | .inf n => (if n then 0x80000000 else 0x7FFFFFFF, xNV)
  | .fin n m e =>
    let (v, inexact) := roundAt rm n m (e + sh) 0
    let i : Int := if n then -(v : Int) else v
    if fitsS 32 i then (unsext 32 i, if inexact then xNX else 0)
    else (if n then 0x80000000 else 0x7FFFFFFF, xNV)

/-- A conversion from a 32-bit integer × 2^e (R109). -/
def fFromInt (f : FFmt) (rm : Nat) (ftz : Bool) (v : Nat) (e : Int) : Nat × Nat :=
  let i := sext 32 v
  if i = 0 then (0, 0) else fround f rm ftz (decide (i < 0)) i.natAbs e

/-- A conversion between the formats (R108, R109). -/
def fConvert (src dst : FFmt) (rm : Nat) (ftz : Bool) (a : FVal) : Nat × Nat :=
  match a with
  | .nan b s =>
    let fr := b % 2 ^ (src.p - 1)
    let fr' := if src.p < dst.p then fr * 2 ^ (dst.p - src.p) else fr / 2 ^ (src.p - dst.p)
    (signed dst (bits b (src.width - 1) 1 = 1) (dst.inf + (fr' ||| dst.quietBit)), nvIf s)
  | .inf n => (signed dst n dst.inf, 0)
  | .fin n m e => if m = 0 then (signed dst n 0, 0) else fround dst rm ftz n m e

/-- A comparison (R105, R108): the answer and the flags. -/
def fcompare (k : FpKind) (a b : FVal) : Nat × Nat :=
  let nan := a.isNan || b.isNan
  let snan := nvIf (a.isSnan || b.isSnan)
  match k with
  | .fcmpun => (b2n nan, snan)
  | .fcmpeq => (b2n (!nan && fcmp a b = 0), snan)
  | .fcmplt => (b2n (!nan && decide (fcmp a b < 0)), nvIf nan)
  | _ => (b2n (!nan && decide (fcmp a b ≤ 0)), nvIf nan)

/-- One operation of one format on the encodings a, b and c; integers where the conversion has them. -/
def fpCompute (k : FpKind) (f : FFmt) (rm : Nat) (ftz daz : Bool) (a b c : Nat) : Nat × Nat :=
  let x := fdecode f daz a
  let y := fdecode f daz b
  let z := fdecode f daz c
  match k with
  | .fadd => fadd f rm ftz x y
  | .fsub => fadd f rm ftz x y.neg
  | .fmul => fmul f rm ftz x y
  | .fma => ffma f rm ftz false false x y z
  | .fms => ffma f rm ftz false true x y z
  | .fnma => ffma f rm ftz true false x y z
  | .fnms => ffma f rm ftz true true x y z
  | .fmin => fminmax f false x y
  | .fmax => fminmax f true x y
  | .fabs => (a % f.signBit, 0)
  | .fneg => (if bits a (f.width - 1) 1 = 1 then a - f.signBit else a + f.signBit, 0)
  | .fmov => (a, 0)
  | .frecpe => frecpe f x
  | .frsqrte => frsqrte f x
  | .cvtDS => fConvert f32 f64 rm ftz (fdecode f32 daz a)
  | .cvtSD => fConvert f64 f32 rm ftz (fdecode f64 daz a)
  | .cvtWS => fToInt rm 0 (fdecode f32 daz a)
  | .cvtWD => fToInt rm 0 (fdecode f64 daz a)
  | .cvtQS => fToInt rm 31 (fdecode f32 daz a)
  | .cvtSW => fFromInt f32 rm ftz a 0
  | .cvtSQ => fFromInt f32 rm ftz a (-31)
  | .cvtDW => fFromInt f64 rm ftz a 0
  | .fcmpeq | .fcmplt | .fcmple | .fcmpun => fcompare k x y

/-- Latency (R59, R105). -/
def fpLatency (o : FpOp) : Nat :=
  match o.kind with
  | .fmin | .fmax | .fabs | .fneg | .fmov | .fcmpeq | .fcmplt | .fcmple | .fcmpun => 2
  | .cvtDS | .cvtSD | .cvtWD | .cvtDW => 5
  | .cvtWS | .cvtSW | .cvtQS | .cvtSQ => 4
  | _ => if o.fmt = 2 then 5 else 4

def fpResult (o : FpOp) (dest : Nat) (v : Nat × Nat) : Res :=
  { lat := fpLatency o, dest := dest, val := v.1, sflags := 0, fflags := v.2 }

/-- A 64-bit result in Dd:Dd+1, its flags raised once. -/
def fpPair (o : FpOp) (v : Nat × Nat) : List Res :=
  [fpResult o o.d (v.1 % 2 ^ 32, v.2), fpResult o (o.d + 1) (v.1 / 2 ^ 32, 0)]

/-- The results of one FP operation (R104 to R111). -/
def fpResults (c : Core) (o : FpOp) : List Res :=
  let ctl := c.ctl crFPCTL
  let rm := if o.ovr then o.rm else ctl % 4
  let ftz := bits ctl 2 1 = 1
  let daz := bits ctl 3 1 = 1
  match o.kind with
  | .cvtDS | .cvtDW => fpPair o (fpCompute o.kind f32 rm ftz daz (c.d o.a) 0 0)
  | .cvtSD | .cvtWD => [fpResult o o.d (fpCompute o.kind f64 rm ftz daz (c.pair o.a) 0 0)]
  | .fcmpeq | .fcmplt | .fcmple | .fcmpun =>
    if o.fmt = 2 then [fpResult o (0xC0 + o.d) (fpCompute o.kind f64 rm ftz daz (c.pair o.a) (c.pair o.b) 0)]
    else [fpResult o (0xC0 + o.d) (fpCompute o.kind f32 rm ftz daz (c.d o.a) (c.d o.b) 0)]
  | k =>
    if o.fmt = 2 then fpPair o (fpCompute k f64 rm ftz daz (c.pair o.a) (c.pair o.b) (c.pair o.d))
    else
      let lane := fun i => fpResult o (o.d + i) (fpCompute k f32 rm ftz daz (c.d (o.a + i)) (c.d (o.b + i)) (c.d (o.d + i)))
      if o.fmt = 1 then [lane 0, lane 1] else [lane 0]

end Sys2Proof.Machine
end

