-- ==== Sys2Proof/Machine/Ic.lean ====
section
/-! DEFINITION. The interrupt exchange (chapter 12): pending, enable and service of the sources,
arbitration, claim and completion.
Choices and readings: log entries 19, 20 and 35. -/

namespace Sys2Proof.Machine
open R

/-! ### Level inputs (R284) -/

/-- Level inputs of sources 2 to 158: exchange, tiles and cores. -/
def levelTile (s : State) (n : Nat) : Bool :=
  if n < 3 then s.flag SX_PLANE_STAT SX_PLANE_STAT_SWITCHED || s.flag SX_PLANE_STAT SX_PLANE_STAT_MISMATCH
  else if n < 15 then s.flag (SX_TP_t_STAT (n - 3)) SX_TP_t_STAT_FAILED
  else if n < 27 then s.flag (SX_TP_t_STAT (n - 15)) SX_TP_t_STAT_TX_LATE
  else if n < 39 then s.flag (TL_t_VIOL (n - 27)) TL_t_VIOL_VALID
  else if n < 51 then
    s.flag (TL_t_CB_ECC (n - 39)) TL_t_CB_ECC_UNC ||
      (List.range 8).any (fun b => s.flag (TL_t_BK_b_ECC (n - 39) b) TL_t_BK_b_ECC_UNC)
  else if n < 63 then
    s.flag (TL_t_CB_TEST (n - 51)) TL_t_CB_TEST_FAIL ||
      (List.range 8).any (fun b => s.flag (TL_t_BK_b_TEST (n - 51) b) TL_t_BK_b_TEST_FAIL)
  else if n < 111 then s.flag (SC_n_OVERRUN (n - 63)) SC_n_OVERRUN_COUNT
  else (s.core (n - 111)).st = 5

/-- Level inputs of sources 159 to 258: drive, streams, store and queues. -/
def levelStream (s : State) (n : Nat) : Bool :=
  if n < 223 then
    let a := DRV_n_STAT (n - 159)
    s.flag a DRV_n_STAT_SHORT || s.flag a DRV_n_STAT_OPEN || s.flag a DRV_n_STAT_LOOP_FAULT
  else if n < 231 then s.flag (DRV_GRP_g_CTL (n - 223)) DRV_GRP_g_CTL_FLT_LATCHED
  else if n = 231 then s.flag AN_RUN_STAT AN_RUN_STAT_DONE
  else if n = 232 then s.flag AN_RUN_STAT AN_RUN_STAT_FAIL_SEEN || s.flag AN_RUN_STAT AN_RUN_STAT_DEGR_SEEN
  else if n = 233 then s.flag SF_STAT SF_STAT_UPD
  else if n = 234 then s.flag NET_PTP_STAT NET_PTP_STAT_STEP_REQ
  else if n = 235 then s.flag NET_RING_STAT NET_RING_STAT_ISO_EVT
  else if n = 236 then s.flag MS_STAT MS_STAT_SUBST_EVT
  else if n < 241 then decide (tget 0 s.nvPosted (n - 237) ≠ 0)
  else if n = 241 then s.flag (NV_p_STAT 0) NV_p_STAT_FAILED || s.flag (NV_p_STAT 1) NV_p_STAT_FAILED
  else if n = 242 then decide (s.reg QM_ERR ≠ 0)
  else (List.range 8).any (fun j => decide (s.reg (QM_W_PEND_i (8 * (n - 243) + j)) ≠ 0))

/-- Level inputs of sources 259 to 817: DMA, mailboxes, watchdogs, Sumac, debug, security and network. -/
def levelOther (s : State) (n : Nat) : Bool :=
  if n < 451 then
    let t := (n - 259) / 16
    let c := (n - 259) % 16
    s.flag (DMA_t_CH_c_STAT t c) DMA_t_CH_c_STAT_DONE ||
      (s.flag (DMA_t_CH_c_STAT t c) DMA_t_CH_c_STAT_ERR && s.flag (DMA_t_CH_c_CTL t c) DMA_t_CH_c_CTL_ERR_IE)
  else if n < 515 then
    let c := n - 451
    s.flag (TDMA_CH_c_STAT c) TDMA_CH_c_STAT_DONE ||
      (s.flag (TDMA_CH_c_STAT c) TDMA_CH_c_STAT_ERR && s.flag (TDMA_CH_c_CTL c) TDMA_CH_c_CTL_ERR_IE)
  else if n < 531 then s.flag (MB_i_STAT (n - 515)) MB_i_STAT_REQ_PEND
  else if n < 549 then s.flag (MB_i_STAT (n - 531)) MB_i_STAT_RPL_VALID
  else if n < 597 then false
  else if n < 645 then s.flag (WD_SC_n_STAT (n - 597)) WD_SC_n_STAT_EXPIRED
  else if n = 645 then s.flag WD_DEV_STAT WD_DEV_STAT_WARNED
  else if n = 646 then s.flag WD_CV_STAT WD_CV_STAT_WARNED
  else if n = 647 then s.flag CK_STAT CK_STAT_LOCK_LOST || s.flag CK_STAT CK_STAT_FREERUN
  else if n = 648 then s.flag CK_STAT CK_STAT_FALLBACK
  else if n = 649 then s.flag PM_DDR_STAT PM_DDR_STAT_CH0_LOST || s.flag PM_DDR_STAT PM_DDR_STAT_CH1_LOST
  else if n = 650 then s.flag PM_DDR_STAT PM_DDR_STAT_UNC_CNT
  else if n < 747 then
    let a := SU_c_p_STAT ((n - 651) / 8) ((n - 651) % 8)
    s.flag a SU_c_p_STAT_SIG || decide (s.fld a SU_c_p_STAT_STATE = 4)
  else if n < 759 then s.flag (SU_c_STAT (n - 747)) SU_c_STAT_MCHK
  else if n < 808 then s.flag (DBG_VT_t_STAT (n - 759)) DBG_VT_t_STAT_IN_FULL
  else if n = 808 then s.flag BB_STAT BB_STAT_FROZEN
  else if n = 809 then s.flag SEC_PKE_STAT SEC_PKE_STAT_DONE
  else if n = 810 then s.flag SEC_HASH_STAT SEC_HASH_STAT_DONE
  else if n = 811 then decide (s.reg SEC_ALARM ≠ 0)
  else if n < 816 then s.flag (NET_PORT_p_STAT (n - 812)) NET_PORT_p_STAT_LINK_LOST
  else if n = 816 then s.flag NET_RING_STAT NET_RING_STAT_A_OPEN
  else if n = 817 then s.flag NET_RING_STAT NET_RING_STAT_B_OPEN
  else false

/-- The input of source `n`: 0 for an event or edge source (R282, R284). -/
def levelInput (s : State) (n : Nat) : Bool :=
  if n = 0 then false
  else if n = 1 then s.flag IC_FAULT IC_FAULT_VALID
  else if n < 159 then levelTile s n
  else if n < 259 then levelStream s n
  else levelOther s n

/-! ### Pending, enable, service (R281 to R285) -/

def usable (n : Nat) : Bool := 1 ≤ n && n < 1023

def srcBit (s : State) (word : Nat → Nat) (n : Nat) : Bool := bits (s.reg (word (n / 32))).toNat (n % 32) 1 = 1

def setSrcBit (s : State) (word : Nat → Nat) (n : Nat) (b : Bool) : State :=
  s.setReg (word (n / 32)) (BitVec.ofNat 32 (setBits (s.reg (word (n / 32))).toNat (n % 32) 1 (b2n b)))

def inService (s : State) (n : Nat) : Bool := srcBit s IC_SERV_i n
def srcEnabled (s : State) (n : Nat) : Bool := srcBit s IC_EN_SET_i n

/-- A source is pending: its bit is set by an event or by software, or its level input is 1 and it is
not in service (R282). -/
def srcPending (s : State) (n : Nat) : Bool :=
  usable n && (srcBit s IC_PEND_SET_i n || (levelInput s n && !inService s n))

/-- An event of source `n` (R282). -/
def raiseEvent (s : State) (n : Nat) : State := if usable n then setSrcBit s IC_PEND_SET_i n true else s

/-- The 32 bits of word `i` that name usable sources (R281). -/
def usableMask (i : Nat) : Word := if i = 0 then 0xFFFFFFFE else if i = 31 then 0x7FFFFFFF else 0xFFFFFFFF

/-- What a read of either pending word gives (R285). -/
def pendWord (s : State) (i : Nat) : Word :=
  BitVec.ofNat 32 ((List.range 32).foldl (fun a j => a + b2n (srcPending s (32 * i + j)) * 2 ^ j) 0)

/-- Writes to the set and clear addresses (R281, R285). -/
def writePendSet (i : Nat) (v : Word) (s : State) : State :=
  s.setReg (IC_PEND_SET_i i) (s.reg (IC_PEND_SET_i i) ||| (v &&& usableMask i))

def writePendClr (i : Nat) (v : Word) (s : State) : State :=
  s.setReg (IC_PEND_SET_i i) (s.reg (IC_PEND_SET_i i) &&& ~~~v)

def writeEnSet (i : Nat) (v : Word) (s : State) : State :=
  s.setReg (IC_EN_SET_i i) (s.reg (IC_EN_SET_i i) ||| (v &&& usableMask i))

def writeEnClr (i : Nat) (v : Word) (s : State) : State :=
  s.setReg (IC_EN_SET_i i) (s.reg (IC_EN_SET_i i) &&& ~~~v)

/-! ### Priorities and arbitration (R286 to R290) -/

def srcPrio (s : State) (n : Nat) : Nat := s.fld (IC_SRC_s_CFG n) IC_SRC_s_CFG_PRIO
def srcWake (s : State) (n : Nat) : Bool := s.flag (IC_SRC_s_CFG n) IC_SRC_s_CFG_WAKE
def srcGroup (s : State) (n : Nat) : Nat := s.fld (IC_SRC_s_CFG n) IC_SRC_s_CFG_GROUP

/-- The mask of source `n` names target `k`. -/
def srcTargets (s : State) (n k : Nat) : Bool :=
  if k < 32 then bits (s.reg (IC_SRC_s_MASK_LO n)).toNat k 1 = 1
  else bits (s.reg (IC_SRC_s_MASK_HI n)).toNat (k - 32) 1 = 1

def icStackOf (s : State) (k : Nat) : List (Nat × Nat) := tget [] s.icStack k

/-- PRIO of the top entry; 0 for an empty stack. -/
def topPrio (s : State) (k : Nat) : Nat :=
  match icStackOf s k with
  | e :: _ => e.2
  | [] => 0

def topSource (s : State) (k : Nat) : Nat :=
  match icStackOf s k with
  | e :: _ => e.1
  | [] => 0

/-- The effective floor (R287). -/
def floorOf (s : State) (k : Nat) : Nat := max (s.fld (IC_T_k_THRESH k) IC_T_k_THRESH_THRESH) (topPrio s k)

/-- The target is asleep (R290). -/
def asleep (s : State) (k : Nat) : Bool :=
  if k < 48 then (s.core k).st = 4 || decide (bits (s.fld PM_STAT PM_STAT_TILE_ON) (k / 4) 1 = 0)
  else if k = 48 then s.fld CV_STAT CV_STAT_STATE = 2
  else s.hostD3 || s.hostL2

/-- Source `n` is a candidate for target `k` (R288). -/
def candidate (s : State) (k n : Nat) : Bool :=
  srcEnabled s n && srcTargets s n k && srcPending s n && decide (floorOf s k < srcPrio s n) && !inService s n &&
    !s.flag (IC_GRP_g_HOLD (srcGroup s n)) IC_GRP_g_HOLD_RUN && (!asleep s k || srcWake s n)

/-- The numbers of the enabled sources, rising. -/
def enabledSources (s : State) : List Nat :=
  (List.range 32).flatMap (fun i =>
    if s.reg (IC_EN_SET_i i) = 0 then []
    else ((List.range 32).map (32 * i + ·)).filter (srcEnabled s))

/-- Of two candidates the one of higher PRIO, the lower number between equals (R288). -/
def better (s : State) (a : Option Nat) (n : Nat) : Option Nat :=
  match a with
  | none => some n
  | some m => if srcPrio s m < srcPrio s n then some n else some m

/-- The winner for target `k`. -/
def winner (s : State) (k : Nat) : Option Nat :=
  ((enabledSources s).filter (candidate s k)).foldl (better s) none

def pres (s : State) (k : Nat) : Nat := tget 0 s.icPres k
def setPres (s : State) (k p : Nat) : State := { s with icPres := tput 0 s.icPres k p }

/-- A presented source that is no longer a candidate becomes 1,023 (R289). -/
def icSettle (s : State) : State :=
  { s with icPres := s.icPres.map (fun e => if e.2 = 1023 || candidate s e.1 e.2 then e else (e.1, 1023)) }

/-- The presentation of target `k` after an arbitration (R289). -/
def arbitrate (s : State) (k : Nat) : Nat :=
  if pres s k = 1023 then 1023
  else match winner s k with
    | none => pres s k
    | some n => if pres s k = 0 || srcPrio s (pres s k) < srcPrio s n then n else pres s k

/-! ### Claim and completion (R291 to R294) -/

/-- What a claim by target `k` returns. -/
def claimValue (s : State) (k : Nat) : Nat := pres s k

/-- A claim (R291, R292): other targets that hold the same source are left with 1,023. -/
def claim (k : Nat) (s : State) : State :=
  let p := pres s k
  if p = 0 then s
  else if p = 1023 then setPres s k 0
  else
    let s1 := setSrcBit (setSrcBit s IC_PEND_SET_i p false) IC_SERV_i p true
    let s2 := { s1 with icStack := tput [] s1.icStack k ((p, srcPrio s p) :: icStackOf s k) }
    let g := srcGroup s p
    let s3 := if s.fld (IC_GRP_g_HOLD g) IC_GRP_g_HOLD_US = 0 then s2
      else s2.setFld (IC_GRP_g_HOLD g) IC_GRP_g_HOLD_RUN 1
    setPres s3 k 0

/-- A completion by target `k` of source `n` (R293); a handled NVMe queue is empty (notes/assumptions/20.md). -/
def complete (k n : Nat) (s : State) : State :=
  match icStackOf s k with
  | e :: t =>
    if e.1 = n then
      let s1 := setSrcBit { s with icStack := tput [] s.icStack k t } IC_SERV_i n false
      if 237 ≤ n ∧ n < 241 then { s1 with nvPosted := tput 0 s1.nvPosted (n - 237) 0 } else s1
    else if s.flag IC_FAULT IC_FAULT_VALID then s
    else ((((s.setFld IC_FAULT IC_FAULT_TARGET k).setFld IC_FAULT IC_FAULT_VALID 1).setFld
      IC_FAULT_NUM IC_FAULT_NUM_WRITTEN n).setFld IC_FAULT_NUM IC_FAULT_NUM_TOP e.1)
  | [] =>
    if s.flag IC_FAULT IC_FAULT_VALID then s
    else ((((s.setFld IC_FAULT IC_FAULT_TARGET k).setFld IC_FAULT IC_FAULT_VALID 1).setFld
      IC_FAULT_NUM IC_FAULT_NUM_WRITTEN n).setFld IC_FAULT_NUM IC_FAULT_NUM_TOP 0)

/-- A write of IC_SRC_s_CFG (R281, R286). -/
def writeSrcCfg (n : Nat) (v : Word) (s : State) : State :=
  if !usable n then s
  else if n = 1 ∧ bits v.toNat 0 4 = 0 then
    (s.writeByType (IC_SRC_s_CFG n) v).setFld (IC_SRC_s_CFG n) IC_SRC_s_CFG_PRIO (srcPrio s n)
  else s.writeByType (IC_SRC_s_CFG n) v

/-- A write of a mask word (R286); `hi` chooses IC_SRC_s_MASK_HI. -/
def writeSrcMask (n : Nat) (hi : Bool) (v : Word) (s : State) : State :=
  if !usable n || n = 1 then s
  else s.writeByType (if hi then IC_SRC_s_MASK_HI n else IC_SRC_s_MASK_LO n) v

/-- A write of IC_SRC_s_CFG (`which` 0), IC_SRC_s_MASK_LO (1) or IC_SRC_s_MASK_HI (2). -/
def writeSrc (n which : Nat) (v : Word) (s : State) : State :=
  if which = 0 then writeSrcCfg n v s else writeSrcMask n (which = 2) v s

/-- The reading of IC_T_k_STAT. -/
def targetStat (s : State) (k : Nat) : Word :=
  BitVec.ofNat 32 (pres s k + topPrio s k * 2 ^ 12 + (icStackOf s k).length * 2 ^ 16 + b2n (asleep s k) * 2 ^ 21 +
    topSource s k * 2 ^ 22)

/-- The end of a hold-off (R297). -/
def doHoldOffExpiry (g : Nat) (s : State) : State := s.setFld (IC_GRP_g_HOLD g) IC_GRP_g_HOLD_RUN 0

/-- A change of US of a group: with 0 no timer runs. -/
def writeGroupHold (g : Nat) (v : Word) (s : State) : State := s.writeByType (IC_GRP_g_HOLD g) v

/-! ### Edge latches (R298) -/

/-- A request to leave Standby (R401); during the entry it is kept. -/
def wakeRequest (s : State) : State :=
  if s.dev.stby = 2 then { s with dev := { s.dev with stby := 3 } }
  else if s.dev.stby = 1 then { s with dev := { s.dev with wakeLater := true } }
  else s

/-- The edge selected by POL occurs: the latch sets; with the fabric clock running (outside reset) the source
becomes pending and the latch clears. With WAKE the device leaves Standby. Edge `e` is source 549 + e. -/
def latchEdge (e : Nat) (rising : Bool) (s : State) : State :=
  let pol := s.fld (IC_EDGE_e_CFG e) IC_EDGE_e_CFG_POL
  if (pol = 0 && rising) || (pol = 1 && !rising) || pol = 2 then
    let s1 := if srcWake s (549 + e) then wakeRequest s else s
    if s.phase = 0 then s1.setFld (IC_EDGE_e_CFG e) IC_EDGE_e_CFG_LATCH 1
    else raiseEvent s1 (549 + e)
  else s

/-- The fabric clock restarts: held edges become pending. -/
def releaseEdges (s : State) : State :=
  s.each (List.range 48) (fun s e =>
    if s.flag (IC_EDGE_e_CFG e) IC_EDGE_e_CFG_LATCH then
      raiseEvent (s.setFld (IC_EDGE_e_CFG e) IC_EDGE_e_CFG_LATCH 0) (549 + e)
    else s)

end Sys2Proof.Machine
end

