-- ==== Sys2Proof/Machine/Sx.lean ====
section
/-! DEFINITION. The Sample Exchange (chapter 01): the slot map and its swap, tile ports, planes and
the commands on its registers. The slot traffic of a frame is in Ticks.lean.
Choices and readings: log entries 11, 12, 13, 16 and 17. -/

namespace Sys2Proof.Machine
open R

/-! ### Rates and blocks (R4, R5, R6) -/

/-- Sample rate in Hz. -/
def fsHz (s : State) : Nat := if s.fld SX_CFG SX_CFG_FS = 0 then 48000 else 96000

/-- Frames in a block. -/
def blockN (s : State) : Nat := 8 * 2 ^ s.fld SX_CFG SX_CFG_N

/-- Slots in a frame (R4). -/
def slotCount (s : State) : Nat := if s.fld SX_CFG SX_CFG_FS = 0 then 8192 else 4096

/-- Block number B (R6). -/
def blockNo (s : State) : Nat := s.frame / blockN s

def sxRunning (s : State) : Bool := s.flag SX_STAT SX_STAT_RUNNING
def sxStarting (s : State) : Bool := s.flag SX_STAT SX_STAT_STARTING

/-- F at gPTP time `ns` and rate `fs` (R5). -/
def frameAt (fs ns : Nat) : Nat := ns * fs / 1000000000 % 2 ^ 64

/-- The first nanosecond at which F is `f` (R5). -/
def timeOfFrame (fs f : Nat) : Nat := (f * 1000000000 + fs - 1) / fs

/-- R47: only Clove and the authenticated debug access port write the exchange. -/
def sxWriter (ag : Agent) : Bool := ag = .clove || ag = .dap

/-- A write by another agent changes nothing but SX_ERR.WRITER (R47). -/
def sxGuard (ag : Agent) (s : State) (f : State → State) : State :=
  if sxWriter ag then f s else s.setFld SX_ERR SX_ERR_WRITER 1

/-! ### Map entries (R22 to R25) -/

def entryEn (e : Word) : Bool := decide (bits e.toNat 31 1 = 1)
def prodCh (e : Word) : Nat := bits e.toNat 0 13
def prodPort (e : Word) : Nat := bits e.toNat 16 5
def consSlot (e : Word) : Nat := bits e.toNat 0 13

/-- Reserved bits of an entry are not stored (R11, R23, R24). -/
def prodMask (v : Word) : Word := v &&& 0x801F1FFF
def consMask (v : Word) : Word := v &&& 0x80001FFF

/-- Where the consumer region of each port starts, in words, and how many entries it has (R25). -/
def consRegions : List (Nat × Nat × Nat) :=
  [(0, 0, 1024), (1, 0x400, 1024), (2, 0x800, 1024), (3, 0xC00, 1024), (4, 0x1000, 1024), (5, 0x1400, 1024),
   (6, 0x1800, 1024), (7, 0x1C00, 1024), (8, 0x2000, 1024), (9, 0x2400, 1024), (10, 0x2800, 1024),
   (11, 0x2C00, 1024), (12, 0x3000, 8192), (13, 0x5000, 64), (15, 0x5400, 128), (17, 0x5800, 256),
   (18, 0x5C00, 80), (19, 0x6000, 1280)]

/-- Port and channel of word `w` of a consumer region, if it holds an entry. -/
def consOf (w : Nat) : Option (Nat × Nat) :=
  (consRegions.find? (fun r => r.2.1 ≤ w && w < r.2.1 + r.2.2)).map (fun r => (r.1, w - r.2.1))

/-- Word of channel `c` of port `p` in a consumer region. -/
def consIndex (p c : Nat) : Nat :=
  match consRegions.find? (fun r => r.1 = p) with
  | some r => r.2.1 + c
  | none => 0

def activeTx (s : State) (t : Nat) : Nat := s.fld (SX_TP_t_ACFG t) SX_TP_t_ACFG_TXCH
def activeRx (s : State) (t : Nat) : Nat := s.fld (SX_TP_t_ACFG t) SX_TP_t_ACFG_RXCH

/-- Channels a producer port may name (R22). -/
def prodLimit (s : State) (p : Nat) : Nat :=
  if p < 12 then min (activeTx s p) 1024
  else if p = 12 then slotCount s
  else if p = 14 then 128
  else if p = 15 then 128
  else if p = 16 then 256
  else 0

/-- Channels a consumer port may enable (R22). -/
def consLimit (s : State) (p : Nat) : Nat :=
  if p < 12 then min (activeRx s p) 1024
  else if p = 12 then slotCount s
  else if p = 13 then 64
  else if p = 15 then 128
  else if p = 17 then 256
  else if p = 18 then 80
  else if p = 19 then 1280
  else 0

/-- Slot `slot`'s entry fails the check of R27 against the active channel counts. -/
def prodBad (s : State) (slot : Nat) (e : Word) : Bool :=
  entryEn e && (decide (slotCount s ≤ slot) || decide (prodLimit s (prodPort e) ≤ prodCh e))

/-- The entry at word `w` of a consumer region fails the check of R27. -/
def consBad (s : State) (w : Nat) (e : Word) : Bool :=
  entryEn e && match consOf w with
    | some (p, c) => decide (consLimit s p ≤ c) || decide (slotCount s ≤ consSlot e)
    | none => true

/-! ### Map swap (R26 to R28, R30) -/

/-- A channel count breaks a limit of R30. -/
def countBad (s : State) (n : Nat) : Bool := decide (16384 < n * blockN s) || decide (1024 < n)

/-- R30: port `t` takes its shadow counts, or keeps the previous ones when either breaks a limit. -/
def takeCounts (s : State) (t : Nat) : State :=
  if countBad s (s.fld (SX_TP_t_CFG t) SX_TP_t_CFG_RXCH) || countBad s (s.fld (SX_TP_t_CFG t) SX_TP_t_CFG_TXCH) then s
  else s.setReg (SX_TP_t_ACFG t) (s.reg (SX_TP_t_CFG t))

def countFails (s : State) : List Nat :=
  (List.range 12).filterMap (fun t =>
    if countBad s (s.fld (SX_TP_t_CFG t) SX_TP_t_CFG_RXCH) || countBad s (s.fld (SX_TP_t_CFG t) SX_TP_t_CFG_TXCH)
    then some (0x100 + 0x10 * t) else none)

/-- Byte offsets of the failures of a swap, lowest first (R27): refused counts lie below the map. -/
def mapFails (s : State) : List Nat :=
  (s.sx.prodShadow.filter (fun e => prodBad s e.1 e.2)).map (fun e => 0x10000 + 4 * e.1) ++
  (s.sx.consShadow.filter (fun e => consBad s e.1 e.2)).map (fun e => 0x20000 + 4 * e.1)

/-- R27: a failure sets MAP_RANGE, and the first one since it was clear is named in SX_ERR_SLOT. -/
def recordFails (s : State) : List Nat → State
  | [] => s
  | o :: _ =>
    let s1 := if s.flag SX_ERR SX_ERR_MAP_RANGE then s else s.setReg SX_ERR_SLOT (BitVec.ofNat 32 o)
    s1.setFld SX_ERR SX_ERR_MAP_RANGE 1

/-- The pending request is gone (R26, R28). -/
def withdrawSwap (s : State) : State :=
  (s.setFld SX_MAP_CTL SX_MAP_CTL_SWAP_REQ 0).setFld SX_MAP_STAT SX_MAP_STAT_SWAP_PEND 0

/-- MAP_SWAP (R26, R27, R28, R30): counts first, then the maps checked against them. -/
def mapSwap (s : State) : State :=
  let bad := countFails s
  let s1 := (List.range 12).foldl takeCounts s
  let s2 := recordFails s1 (bad ++ mapFails s1)
  let s3 := { s2 with sx := { s2.sx with prodActive := s2.sx.prodShadow, consActive := s2.sx.consShadow } }
  ((withdrawSwap s3).setFld SX_MAP_STAT SX_MAP_STAT_COPYING 1).setReg SX_MAP_SWAPBLK (BitVec.ofNat 32 (blockNo s3))

/-! ### Tile ports (R29 to R33, R41) -/

/-- Model address of half `h` of the receive buffer of logical port `p`. -/
def rxHalf (p h : Nat) : Nat := 0x10000000000 + p * 0x40000 + h * 0x10000

/-- Model address of half `h` of the transmit buffer of logical port `p`. -/
def txHalf (p h : Nat) : Nat := 0x10000020000 + p * 0x40000 + h * 0x10000

/-- Offset of channel `c` and frame `f` of the block in a half (R30). -/
def halfOffset (s : State) (c f : Nat) : Nat := 4 * (c * blockN s + f)

/-- The logical port that the tile-port halves of tile `t` belong to (R440): of two ports that name
the tile, the one other than the tile's own (notes/assumptions/12.md). -/
def portOfTile (s : State) (t : Nat) : Option Nat :=
  match (List.range 12).filter (fun p => s.fld (SX_TP_t_PHYS p) SX_TP_t_PHYS_CUR = t && p ≠ t) with
  | p :: _ => some p
  | [] => if s.fld (SX_TP_t_PHYS t) SX_TP_t_PHYS_CUR = t ∧ t < 12 then some t else none

/-- The check of R32 and R33 for port `t` at a block tick. -/
def checkPort (s : State) (t : Nat) : State :=
  if s.flag (SX_TP_t_STAT t) SX_TP_t_STAT_FAILED || decide (activeTx s t = 0) then s
  else if s.flag (SX_TP_t_STAT t) SX_TP_t_STAT_TXRDY then
    let s1 := s.setFld (SX_TP_t_STAT t) SX_TP_t_STAT_LATE_RUN 0
    { s1 with sx := { s1.sx with sending := s1.sx.sending ++ [t] } }
  else
    let s1 := (s.incSat (SX_TP_t_STAT t) SX_TP_t_STAT_LATE_RUN).setFld (SX_TP_t_STAT t) SX_TP_t_STAT_TX_LATE 1
    if s.fld SX_CTL SX_CTL_LATE_LIMIT ≠ 0 ∧ s.fld SX_CTL SX_CTL_LATE_LIMIT ≤ s1.fld (SX_TP_t_STAT t) SX_TP_t_STAT_LATE_RUN
    then s1.setFld (SX_TP_t_STAT t) SX_TP_t_STAT_FAILED 1 else s1

/-- TXRDY is cleared at every block tick (R32). -/
def clearTxrdy (s : State) (t : Nat) : State := s.setFld (SX_TP_t_STAT t) SX_TP_t_STAT_TXRDY 0

/-- TILE_PORT_HALF_SWAP (R32): the checks when `check` holds, then the halves swap and TXRDY clears. -/
def tilePorts (s : State) (check : Bool) : State :=
  let s0 := { s with sx := { s.sx with sending := [] } }
  let s1 := if check then (List.range 12).foldl checkPort s0 else s0
  (List.range 12).foldl clearTxrdy s1

/-- The tile held as spare (R40); 12 to 15 name none. -/
def spareTile (s : State) : Option Nat :=
  if s.fld SX_CTL SX_CTL_SPARE_TILE < 12 then some (s.fld SX_CTL SX_CTL_SPARE_TILE) else none

def tileOn (s : State) (t : Nat) : Bool := decide (bits (s.fld PM_STAT PM_STAT_TILE_ON) t 1 = 1)

/-- Clock domain `d` runs (R389). -/
def clockOn (s : State) (d : Nat) : Bool :=
  bits (s.reg (if d < 32 then CK_GATE_LO else CK_GATE_HI)).toNat (d % 32) 1 = 0

/-- The value in SX_TP_t_PHYS.PHYS is one that R41 refuses. -/
def remapBad (s : State) (t : Nat) : Bool :=
  let v := s.fld (SX_TP_t_PHYS t) SX_TP_t_PHYS_PHYS
  decide (12 ≤ v) ||
  (decide (spareTile s ≠ some v) &&
    (List.range 12).any (fun u => u ≠ t && s.fld (SX_TP_t_PHYS u) SX_TP_t_PHYS_CUR = v)) ||
  (!s.flag SX_CTL SX_CTL_SPARE_EN && decide (v ≠ t)) || !tileOn s v

/-- TILE_REMAP (R41) of logical port `t`, if its PHYS was written since the last block tick. -/
def tileRemap (s : State) (t : Nat) : State :=
  if !s.sx.remapReq.contains t then s
  else if remapBad s t then
    (s.setFld SX_ERR SX_ERR_REMAP_INVALID 1).setFld (SX_TP_t_PHYS t) SX_TP_t_PHYS_PHYS
      (s.fld (SX_TP_t_PHYS t) SX_TP_t_PHYS_CUR)
  else
    (((s.setFld (SX_TP_t_PHYS t) SX_TP_t_PHYS_CUR (s.fld (SX_TP_t_PHYS t) SX_TP_t_PHYS_PHYS)).setFld
      (SX_TP_t_STAT t) SX_TP_t_STAT_FAILED 0).setFld (SX_TP_t_STAT t) SX_TP_t_STAT_TXRDY 0).setFld
      (SX_TP_t_STAT t) SX_TP_t_STAT_LATE_RUN 0

/-- All requested remaps, which are then no longer pending. -/
def tileRemaps (s : State) : State :=
  let s1 := (List.range 12).foldl tileRemap s
  { s1 with sx := { s1.sx with remapReq := [] } }

/-! ### Block tick of the exchange (R20, R45, R46, R466) -/

/-- The exchange's own actions at a block tick. The checks are made with the counts and tiles as they
stood before the tick (R32, R41). -/
def sxBlockTick (s : State) : State :=
  let run := s.flag SX_CTL SX_CTL_RUN
  if sxRunning s && run then
    let s1 := tileRemaps (tilePorts s true)
    let s2 := if s1.flag SX_MAP_STAT SX_MAP_STAT_SWAP_PEND then mapSwap s1 else s1
    { s2 with sx := { s2.sx with half := 1 - s2.sx.half } }
  else if sxRunning s then
    let s1 := tileRemaps (tilePorts s false)
    let s2 := (s1.setFld SX_STAT SX_STAT_RUNNING 0).setFld SX_STAT SX_STAT_STARTING 0
    { s2 with sx := { s2.sx with history := [] } }
  else if run then
    let s1 := tileRemaps (tilePorts s false)
    let s2 := mapSwap ((s1.setFld SX_STAT SX_STAT_STARTING 0).setFld SX_STAT SX_STAT_RUNNING 1)
    { s2 with sx := { s2.sx with half := 1 - s2.sx.half, history := [] } }
  else
    tileRemaps (tilePorts s false)

/-! ### Planes (R36 to R39, R467) -/

/-- Bits by which plane `p` (0 A, 1 B, 2 the latch) carries slot `slot` wrongly in this frame. -/
def planeXor (s : State) (fs : List PlaneFault) (p slot : Nat) : Word :=
  let m := (fs.filter (fun f => f.plane = p && f.slot = slot)).foldl (fun a f => a ^^^ f.mask) 0
  if s.sx.injNow = some (p, slot) then m ^^^ 1 else m

def planeParBad (fs : List PlaneFault) (p slot : Nat) : Bool :=
  fs.any (fun f => f.plane = p && f.slot = slot && f.parBad)

/-- What one slot transfer shows: the words of both planes and the latch, and the parities. -/
structure Transfer where
  a : Word
  b : Word
  latch : Word
  parA : Bool
  parB : Bool
  deriving DecidableEq, Repr

def transferOf (s : State) (fs : List PlaneFault) (slot : Nat) (w : Word) : Transfer :=
  { a := w ^^^ planeXor s fs 0 slot, b := w ^^^ planeXor s fs 1 slot, latch := w ^^^ planeXor s fs 2 slot,
    parA := planeParBad fs 0 slot, parB := planeParBad fs 1 slot }

def activePlane (s : State) : Nat := s.fld SX_PLANE_STAT SX_PLANE_STAT_ACTIVE

def compareOn (s : State) : Bool := s.flag SX_PLANE_CTL SX_PLANE_CTL_COMPARE_EN

/-- The word delivered to the consumers (R36). -/
def delivered (s : State) (x : Transfer) : Word :=
  let act := if activePlane s = 0 then x.a else x.b
  if !compareOn s then act
  else if x.parA && x.parB then 0
  else if activePlane s = 0 then (if x.parA then x.b else x.a)
  else (if x.parB then x.a else x.b)

/-- The transfer is a disagreement (R36). -/
def mismatch (x : Transfer) : Bool := x.parA || x.parB || decide (x.a ≠ x.b)

/-- Both parities are good and the planes differ: a case for the referee (R39). -/
def refereeCase (x : Transfer) : Bool := !x.parA && !x.parB && decide (x.a ≠ x.b)

/-- The active plane's parity is bad and the other's good (R36): a cause to switch. -/
def parityCause (s : State) (x : Transfer) : Bool :=
  if activePlane s = 0 then x.parA && !x.parB else x.parB && !x.parA

/-- R467 and R39: the records of a frame, from its transfers in slot order; the answer says whether a
cause to switch occurred. -/
def planeRecords (s : State) (xs : List (Nat × Transfer)) : State × Bool :=
  if !compareOn s then (s, false)
  else
    let bad := xs.filter (fun e => mismatch e.2)
    match bad with
    | [] => (s, false)
    | (slot, _) :: _ =>
      let s1 := if s.flag SX_PLANE_STAT SX_PLANE_STAT_MISMATCH then s
        else s.setReg SX_PLANE_MISSLOT (BitVec.ofNat 32 (slot + s.frame % 65536 * 65536))
      let s2 := (s1.setFld SX_PLANE_STAT SX_PLANE_STAT_MISMATCH 1).incSat SX_PLANE_STAT SX_PLANE_STAT_MISCNT
      let s3 := if bad.any (fun e => e.2.parA) then s2.setFld SX_PLANE_STAT SX_PLANE_STAT_PAR_A 1 else s2
      let s4 := if bad.any (fun e => e.2.parB) then s3.setFld SX_PLANE_STAT SX_PLANE_STAT_PAR_B 1 else s3
      let par := bad.any (fun e => parityCause s e.2)
      match bad.filter (fun e => refereeCase e.2) with
      | [] => (s4, par)
      | (_, x) :: _ =>
        let act := if activePlane s = 0 then x.a else x.b
        let oth := if activePlane s = 0 then x.b else x.a
        if act = x.latch then (s4, par)
        else if oth = x.latch then (s4, true)
        else (s4.setFld SX_PLANE_STAT SX_PLANE_STAT_REF_FAIL 1, par)

/-- PLANE_SWITCH at the tick that begins frame `s.frame` (R37, R38): Clove's write goes before any
automatic decision of the ended frame. -/
def planeTick (s : State) (cause : Bool) : State :=
  let s0 := if s.sx.holdEnd ≤ s.frame then s.setFld SX_PLANE_STAT SX_PLANE_STAT_HELD_OFF 0 else s
  if s0.sx.selWritten then
    let s1 := s0.setFld SX_PLANE_STAT SX_PLANE_STAT_ACTIVE (s0.fld SX_PLANE_CTL SX_PLANE_CTL_SEL)
    { s1 with sx := { s1.sx with selWritten := false } }
  else if cause && s0.flag SX_PLANE_CTL SX_PLANE_CTL_AUTO_EN && decide (s0.sx.holdEnd ≤ s0.frame) then
    let p := 1 - activePlane s0
    let s1 := ((s0.setFld SX_PLANE_STAT SX_PLANE_STAT_ACTIVE p).setFld SX_PLANE_CTL SX_PLANE_CTL_SEL p).setFld
      SX_PLANE_STAT SX_PLANE_STAT_SWITCHED 1
    let h := s1.fld SX_PLANE_HOLDOFF SX_PLANE_HOLDOFF_FRAMES
    let s2 := s1.setFld SX_PLANE_STAT SX_PLANE_STAT_HELD_OFF (if h = 0 then 0 else 1)
    { s2 with sx := { s2.sx with holdEnd := s2.frame + h } }
  else s0

/-! ### Commands on the exchange -/

/-- HOLD_OFF_END (R37): from the tick of frame S + H, HELD_OFF reads 0. -/
def doHoldOffEnd (s : State) : State :=
  if s.sx.holdEnd ≤ s.frame + 1 then
    let s1 := s.setFld SX_PLANE_STAT SX_PLANE_STAT_HELD_OFF 0
    { s1 with sx := { s1.sx with holdEnd := 0 } }
  else s

/-- SHADOW_COPY_DONE (R28). -/
def doShadowCopyDone (s : State) : State :=
  if s.flag SX_MAP_STAT SX_MAP_STAT_COPYING then
    let s1 := s.setFld SX_MAP_STAT SX_MAP_STAT_COPYING 0
    { s1 with sx := { s1.sx with prodShadow := s1.sx.prodActive, consShadow := s1.sx.consActive } }
  else s

/-- PORT_FAILED (R33): the port's run of late block ticks has reached LATE_LIMIT. -/
def doPortFailed (t : Nat) (s : State) : State :=
  if s.fld SX_CTL SX_CTL_LATE_LIMIT ≠ 0 ∧
     s.fld SX_CTL SX_CTL_LATE_LIMIT ≤ s.fld (SX_TP_t_STAT t) SX_TP_t_STAT_LATE_RUN then
    s.setFld (SX_TP_t_STAT t) SX_TP_t_STAT_FAILED 1
  else s

/-- A write of SX_MAP_CTL (R26, R28): a cancel goes before a request of the same write. -/
def writeMapCtl (v : Word) (s : State) : State :=
  let c := bits v.toNat 1 1
  let s1 := s.setFld SX_MAP_CTL SX_MAP_CTL_SWAP_CANCEL c
  if c = 1 then withdrawSwap s1
  else if bits v.toNat 0 1 = 1 then
    (s1.setFld SX_MAP_CTL SX_MAP_CTL_SWAP_REQ 1).setFld SX_MAP_STAT SX_MAP_STAT_SWAP_PEND 1
  else s1

/-- SWAP_REQ (R26): a write of SX_MAP_CTL with SWAP_REQ = 1 and SWAP_CANCEL = 0. -/
def doSwapReq (ag : Agent) (s : State) : State := sxGuard ag s (writeMapCtl 1)

/-- SWAP_CANCEL (R28): a write of SX_MAP_CTL with SWAP_CANCEL = 1, with or without SWAP_REQ. -/
def doSwapCancel (ag : Agent) (withReq : Bool) (s : State) : State :=
  sxGuard ag s (writeMapCtl (if withReq then 3 else 2))

/-- A write of the shadow map at byte offset `off` from the SX base (R25, R28). -/
def writeShadow (off : Nat) (v : Word) (s : State) : State :=
  if s.flag SX_MAP_STAT SX_MAP_STAT_COPYING then s.setFld SX_ERR SX_ERR_SHADOW_BUSY 1
  else if off < 0x18000 then
    { s with sx := { s.sx with prodShadow := tput 0 s.sx.prodShadow ((off - 0x10000) / 4) (prodMask v) } }
  else
    match consOf ((off - 0x20000) / 4) with
    | some _ => { s with sx := { s.sx with consShadow := tput 0 s.sx.consShadow ((off - 0x20000) / 4) (consMask v) } }
    | none => s

/-- Offsets of the shadow and of the active map (the map memory table of chapter 01). -/
def inShadow (off : Nat) : Bool := (0x10000 ≤ off && off < 0x18000) || (0x20000 ≤ off && off < 0x3A000)
def inActive (off : Nat) : Bool := (0x18000 ≤ off && off < 0x20000) || (0x40000 ≤ off && off < 0x5A000)

/-- A read of the map memory (R25). -/
def readMap (off : Nat) (s : State) : Word :=
  if off < 0x18000 then tget 0 s.sx.prodShadow ((off - 0x10000) / 4)
  else if off < 0x20000 then tget 0 s.sx.prodActive ((off - 0x18000) / 4)
  else if off < 0x3A000 then tget 0 s.sx.consShadow ((off - 0x20000) / 4)
  else if off < 0x40000 then 0
  else if off < 0x5A000 then tget 0 s.sx.consActive ((off - 0x40000) / 4)
  else 0

/-- SHADOW_MAP_WRITE (R28). An offset outside the shadow map is no shadow write and changes nothing. -/
def doShadowMapWrite (ag : Agent) (off : Nat) (v : Word) (s : State) : State :=
  sxGuard ag s (fun s => if inShadow off && off % 4 = 0 then writeShadow off v s else s)

/-- ACTIVE_MAP_WRITE (R28): discarded, and recorded. -/
def doActiveMapWrite (ag : Agent) (s : State) : State :=
  sxGuard ag s (fun s => s.setFld SX_ERR SX_ERR_ACTIVE_WRITE 1)

/-- TP_CFG_WRITE (R28, R30). -/
def doTpCfgWrite (ag : Agent) (t : Nat) (v : Word) (s : State) : State :=
  sxGuard ag s (fun s =>
    if s.flag SX_MAP_STAT SX_MAP_STAT_COPYING then s.setFld SX_ERR SX_ERR_SHADOW_BUSY 1
    else s.writeByType (SX_TP_t_CFG t) v)

/-- SX_CFG_WRITE (R44). With a new rate, F is the frame of R5 at the device's time and that rate. -/
def doSxCfgWrite (ag : Agent) (v : Word) (s : State) : State :=
  sxGuard ag s (fun s =>
    if sxRunning s || sxStarting s then s.setFld SX_ERR SX_ERR_CFG_WHILE_RUN 1
    else
      let s1 := s.writeByType SX_CFG v
      if s1.fld SX_CFG SX_CFG_FS = s.fld SX_CFG SX_CFG_FS then s1
      else { s1 with frame := frameAt (fsHz s1) s1.timeNs, sx := { s1.sx with blockDue := false } })

/-- RUN rises (R45): STARTING until the first block tick; F follows R5 from the device's time. -/
def startRun (s : State) : State :=
  if s.flag SX_CTL SX_CTL_RUN then s
  else
    let s1 := s.setFld SX_CTL SX_CTL_RUN 1
    if sxRunning s1 then s1
    else { s1.setFld SX_STAT SX_STAT_STARTING 1 with frame := frameAt (fsHz s1) s1.timeNs }

/-- RUN falls (R28, R46): the pending swap is withdrawn; the exchange stops at the next block tick. -/
def stopRun (s : State) : State := (withdrawSwap (s.setFld SX_CTL SX_CTL_RUN 0)).setFld SX_STAT SX_STAT_STARTING 0

/-- A write of SX_CTL (R33, R40, R45, R46). -/
def writeSxCtl (v : Word) (s : State) : State :=
  let run := s.fld SX_CTL SX_CTL_RUN
  let s1 := (s.writeByType SX_CTL v).setFld SX_CTL SX_CTL_RUN run
  if bits v.toNat 0 1 = 1 then startRun s1 else if run = 1 then stopRun s1 else s1

def doRunStart (ag : Agent) (s : State) : State := sxGuard ag s startRun
def doRunStop (ag : Agent) (s : State) : State := sxGuard ag s stopRun

/-- PLANE_SELECT_WRITE (R38): SEL with the rest of SX_PLANE_CTL; the plane follows at the next tick. -/
def doPlaneSelectWrite (ag : Agent) (v : Word) (s : State) : State :=
  sxGuard ag s (fun s =>
    let s1 := s.writeByType SX_PLANE_CTL v
    { s1 with sx := { s1.sx with selWritten := true } })

/-- A write of SX_PLANE_INJ (R39): with GO it corrupts the slot in the next frame. -/
def writePlaneInj (v : Word) (s : State) : State :=
  let s1 := s.writeByType SX_PLANE_INJ v
  if bits v.toNat 31 1 = 1 then
    { s1 with sx := { s1.sx with injNext := some (bits v.toNat 16 1, bits v.toNat 0 13) } }
  else s1

def doPlaneInject (ag : Agent) (plane slot : Nat) (s : State) : State :=
  sxGuard ag s (writePlaneInj (BitVec.ofNat 32 (2 ^ 31 + plane % 2 * 65536 + slot % 8192)))

/-- A write of SX_TP_t_STAT (R32, R33). -/
def writeTpStat (t : Nat) (v : Word) (s : State) : State :=
  let s1 := s.writeByType (SX_TP_t_STAT t) v
  if bits v.toNat 3 1 = 1 then s1.setFld (SX_TP_t_STAT t) SX_TP_t_STAT_FAILED 1 else s1

/-- TXRDY_WRITE (R32) and FAIL_SET (R33): the two bits of SX_TP_t_STAT that software sets. -/
def doTxrdyWrite (ag : Agent) (t : Nat) (s : State) : State := sxGuard ag s (writeTpStat t 1)
def doFailSet (ag : Agent) (t : Nat) (s : State) : State := sxGuard ag s (writeTpStat t 8)

/-- PHYS_WRITE (R41): judged at the next block tick. -/
def doPhysWrite (ag : Agent) (t phys : Nat) (s : State) : State :=
  sxGuard ag s (fun s =>
    let s1 := s.setFld (SX_TP_t_PHYS t) SX_TP_t_PHYS_PHYS phys
    { s1 with sx := { s1.sx with remapReq := s1.sx.remapReq ++ [t] } })

/-- SX_FRAME_LO and SX_BLOCK_LO follow F (R466). -/
def sxFrameLo (s : State) : Word := BitVec.ofNat 32 s.frame
def sxFrameHi (s : State) : Word := BitVec.ofNat 32 (s.frame / 2 ^ 32)
def sxBlockLo (s : State) : Word := BitVec.ofNat 32 (blockNo s)

end Sys2Proof.Machine
end

