-- ==== Sys2Proof/Machine/Tile.lean ====
section
/-! DEFINITION. Tile memories (chapter 04): banks, owners and handover, ECC, spare rows, the background
test, receive capture and the common-bank lock. Bank 8 stands for the common bank.
Choices and readings: log entries 15, 18, 21 and 58. -/

namespace Sys2Proof.Machine
open R

/-! ### Addresses -/

/-- Fabric address of the window of tile `t` (R440). -/
def tileBase (t : Nat) : Nat := 0x1000000000 + t * 0x1000000

/-- Fabric address of bank `b` of tile `t`. -/
def bankBase (t b : Nat) : Nat := tileBase t + (if b < 8 then b * 0x80000 else 0x400000)

def bankSize (b : Nat) : Nat := if b < 8 then 0x80000 else 0x10000

/-- Model address of spare row `k` of a bank. -/
def spareBase (t b k : Nat) : Nat := 0x10010000000 + t * 0x100000 + b * 0x10000 + k * 0x400

/-- Model address of the save buffer of a bank. -/
def saveBase (t b : Nat) : Nat := 0x10020000000 + t * 0x10000 + b * 0x1000

/-- Key of spare `k` of bank `b` of tile `t`. -/
def spareKey (t b k : Nat) : Nat := 36 * t + 4 * b + k

/-! ### The registers of a bank, by number -/

def bkEcc (t b : Nat) : Nat := if b < 8 then TL_t_BK_b_ECC t b else TL_t_CB_ECC t
def bkEccAddr (t b : Nat) : Nat := if b < 8 then TL_t_BK_b_ECCADDR t b else TL_t_CB_ECCADDR t
def bkTest (t b : Nat) : Nat := if b < 8 then TL_t_BK_b_TEST t b else TL_t_CB_TEST t
def bkTaddr (t b : Nat) : Nat := if b < 8 then TL_t_BK_b_TADDR t b else TL_t_CB_TADDR t
def bkRemap (t b k : Nat) : Nat := if b < 8 then TL_t_BK_b_REMAP_k t b k else TL_t_CB_REMAP_k t k

def windowOpen (s : State) (t b : Nat) : Bool := s.flag (bkTest t b) TL_t_BK_b_TEST_ACTIVE
def windowNo (s : State) (t b : Nat) : Nat := s.fld (bkTest t b) TL_t_BK_b_TEST_WIN

/-! ### Where a word lies (R130, R132) -/

/-- The spare that holds row `row`, if any. -/
def spareOf (s : State) (t b row : Nat) : Option Nat :=
  (List.range 4).find? (fun k => tget 0 s.spareRow (spareKey t b k) = row + 1)

/-- Address of bank offset `off` in the array: in a spare if its row is remapped. -/
def arrayAddr (s : State) (t b off : Nat) : Nat :=
  match spareOf s t b (off / 1024) with
  | some k => spareBase t b k + off % 1024
  | none => bankBase t b + off

/-- Bank offset `off` lies in the open test window. -/
def inWindow (s : State) (t b off : Nat) : Bool := windowOpen s t b && off / 512 = windowNo s t b

/-- Address that a read of `off` is served from (R132). -/
def readAddr (s : State) (t b off : Nat) : Nat :=
  if inWindow s t b off then saveBase t b + off % 512 else arrayAddr s t b off

/-! ### ECC (R129) -/

def eccMark (s : State) (a : Nat) : Nat := tget 0 s.ecc (a / 8)
def setMark (s : State) (a m : Nat) : State := { s with ecc := tput 0 s.ecc (a / 8) m }

def countCorr (s : State) (t b : Nat) : State := s.incSat (bkEcc t b) TL_t_BK_b_ECC_CORR

/-- An uncorrectable word at offset `off`: counted and its offset kept. -/
def countUnc (s : State) (t b off : Nat) : State :=
  (s.incSat (bkEcc t b) TL_t_BK_b_ECC_UNC).setFld (bkEccAddr t b) TL_t_BK_b_ECCADDR_OFFSET (off / 8)

/-- Offsets of the 64-bit words that `n` bytes from `off` touch. -/
def wordsOf (off n : Nat) : List Nat := (List.range ((off + n + 7) / 8 - off / 8)).map (fun i => 8 * (off / 8 + i))

/-- The ECC effect of a read of the word at `w`. -/
def eccRead (t b : Nat) (s : State) (w : Nat) : State :=
  match eccMark s (readAddr s t b w) with
  | 0 => s
  | 1 => countCorr s t b
  | _ => countUnc s t b w

/-- The ECC effect of a write to the word at `w`, of which `whole` says whether all of it is written. -/
def eccWrite (t b : Nat) (whole : Bool) (s : State) (w : Nat) : State :=
  let a := readAddr s t b w
  if whole then setMark s a 0
  else match eccMark s a with
    | 0 => s
    | 1 => setMark (countCorr s t b) a 0
    | _ => countUnc s t b w

/-- A read through the first port by an agent the bank serves. -/
def bankRead (s : State) (t b off n : Nat) : List Byte × State :=
  ((List.range n).map (fun i => s.byte (readAddr s t b (off + i))), s.each (wordsOf off n) (eccRead t b))

/-- One byte into the array, and into the save buffer while its window is open. -/
def bankPutByte (s : State) (t b off : Nat) (v : Byte) : State :=
  let s1 := s.setByte (arrayAddr s t b off) v
  if inWindow s t b off then s1.setByte (saveBase t b + off % 512) v else s1

/-- The bytes `l` from offset `off` on. -/
def bankPut (t b : Nat) : State → Nat → List Byte → State
  | s, _, [] => s
  | s, off, v :: l => bankPut t b (bankPutByte s t b off v) (off + 1) l

/-- A write through the first port by an agent the bank serves. -/
def bankWrite (s : State) (t b off : Nat) (l : List Byte) : State :=
  let s1 := s.each (wordsOf off l.length) (fun s w => eccWrite t b (off ≤ w && w + 8 ≤ off + l.length) s w)
  bankPut t b s1 off l

/-! ### Owners (R118 to R123) -/

def ownerReq (s : State) (t b : Nat) : Nat := s.fld (TL_t_BK_b_OWNER t b) TL_t_BK_b_OWNER_OWNER
def ownerCur (s : State) (t b : Nat) : Nat := s.fld (TL_t_BK_b_OWNER t b) TL_t_BK_b_OWNER_CUR
def ownerBusy (s : State) (t b : Nat) : Bool := s.flag (TL_t_BK_b_OWNER t b) TL_t_BK_b_OWNER_BUSY

/-- The bank serves an agent of owner code `code` (R119, R121). -/
def ownerServes (s : State) (t b code : Nat) : Bool := ownerCur s t b = code && !ownerBusy s t b

/-- A refused access (R119): counted, and recorded if no record is held. -/
def violation (s : State) (t b code off : Nat) (write : Bool) : State :=
  let s1 := s.incSat (TL_t_VIOL_CNT t) TL_t_VIOL_CNT_COUNT
  if s.flag (TL_t_VIOL t) TL_t_VIOL_VALID then s1
  else
    let drain := ownerBusy s t b && (ownerCur s t b = code || ownerReq s t b = code)
    (s1.setFlds (TL_t_VIOL t) [(TL_t_VIOL_AGENT, code), (TL_t_VIOL_BANK, b), (TL_t_VIOL_WRITE, b2n write),
      (TL_t_VIOL_HANDOVER, b2n drain), (TL_t_VIOL_VALID, 1)]).setFld (TL_t_VIOL_ADDR t) TL_t_VIOL_ADDR_OFFSET off

def zeros (n : Nat) : List Byte := List.replicate n 0

/-- A read of a shared bank by an agent of code `code`. -/
def ownedRead (s : State) (t b code off n : Nat) : List Byte × State :=
  if ownerServes s t b code then bankRead s t b off n else (zeros n, violation s t b code off false)

/-- A write of a shared bank by an agent of code `code`. -/
def ownedWrite (s : State) (t b code off : Nat) (l : List Byte) : State :=
  if ownerServes s t b code then bankWrite s t b off l else violation s t b code off true

/-- A debug access port read (R135): no owner check, no count, no record. -/
def debugRead (s : State) (t b off n : Nat) : List Byte :=
  (List.range n).map (fun i => s.byte (readAddr s t b (off + i)))

/-- A debug access port write (R135). -/
def debugWrite (s : State) (t b off : Nat) (l : List Byte) : State :=
  if b = 8 then bankWrite s t b off l
  else if (ownerCur s t b = 6 || ownerCur s t b = 7) && !ownerBusy s t b then bankWrite s t b off l
  else violation s t b 8 off true

/-! ### Receive capture (R124) -/

/-- The lowest bank whose CUR is 0x5. -/
def captureBank (s : State) (t : Nat) : Option Nat := (List.range 8).find? (fun b => ownerCur s t b = 5)

/-- TL_t_CAP follows a completed handover. -/
def updateCapture (s : State) (t : Nat) : State :=
  let old := if s.flag (TL_t_CAP t) TL_t_CAP_ACTIVE then some (s.fld (TL_t_CAP t) TL_t_CAP_BANK) else none
  if captureBank s t = old then s
  else match captureBank s t with
    | some b => s.setFlds (TL_t_CAP t) [(TL_t_CAP_BANK, b), (TL_t_CAP_ACTIVE, 1), (TL_t_CAP_PTR, 0)]
    | none => s.setFlds (TL_t_CAP t) [(TL_t_CAP_ACTIVE, 0), (TL_t_CAP_PTR, 0)]

/-- A received word of channel `c` is captured (R124). -/
def captureWord (s : State) (t c : Nat) (w : Word) : State :=
  if s.flag (TL_t_CAP t) TL_t_CAP_ACTIVE then
    bankWrite s t (s.fld (TL_t_CAP t) TL_t_CAP_BANK) ((s.fld (TL_t_CAP t) TL_t_CAP_PTR + 4 * c) % 0x80000)
      (leBytes 4 w.toNat)
  else s

/-- PTR advances at a frame tick (R124). -/
def captureAdvance (s : State) (t rxch : Nat) : State :=
  if s.flag (TL_t_CAP t) TL_t_CAP_ACTIVE then
    let p := s.fld (TL_t_CAP t) TL_t_CAP_PTR + 4 * rxch
    s.setFld (TL_t_CAP t) TL_t_CAP_PTR (if 0x80000 < p + 4 * rxch then 0 else p)
  else s

/-! ### Owner writes and handover -/

/-- OWNER_WRITE (R120, R121): a write of `v` to TL_t_BK_b_OWNER. -/
def doOwnerWrite (ag : Agent) (t b : Nat) (v : Word) (s : State) : State :=
  let code := bits v.toNat 0 4
  if !(ag = .clove || ag = .dap) then s.setFld (TL_t_ERR t) TL_t_ERR_OWNER_WRITER 1
  else
    let s1 := if 8 ≤ code then s.setFld (TL_t_ERR t) TL_t_ERR_OWNER_CODE 1 else s
    let s2 := if ownerBusy s t b then s1.setFld (TL_t_ERR t) TL_t_ERR_OWNER_BUSY 1 else s1
    if 8 ≤ code || ownerBusy s t b then s2
    else if code = ownerCur s t b then s2
    else (s2.setFld (TL_t_BK_b_OWNER t b) TL_t_BK_b_OWNER_OWNER code).setFld (TL_t_BK_b_OWNER t b) TL_t_BK_b_OWNER_BUSY 1

/-- HANDOVER_COMPLETE (R121 step 4, R124). -/
def doHandoverComplete (t b : Nat) (s : State) : State :=
  if ownerBusy s t b then
    updateCapture ((s.setFld (TL_t_BK_b_OWNER t b) TL_t_BK_b_OWNER_CUR (ownerReq s t b)).setFld
      (TL_t_BK_b_OWNER t b) TL_t_BK_b_OWNER_BUSY 0) t
  else s

/-- A local address in bank `b`. -/
def inBank (b a : Nat) : Bool := a / 0x80000 = b

/-- The accesses of a core in flight to bank `b` are aborted (R121 step 5). -/
def abortAccesses (b : Nat) (c : Core) : Core :=
  { c with
    stores := c.stores.filter (fun x => !inBank b x.addr)
    flight := c.flight.map (fun f => match f.addr with
      | some a => if inBank b a then { f with val := 0 } else f
      | none => f) }

/-- DRAIN_ABORT (R121 step 5): then the handover completes. -/
def doDrainAbort (t b : Nat) (s : State) : State :=
  if ownerBusy s t b then
    let s1 := s.each (List.range 4) (fun s j => s.setCore (4 * t + j) (abortAccesses b (s.core (4 * t + j))))
    doHandoverComplete t b (s1.setFld (TL_t_ERR t) TL_t_ERR_DRAIN_ABORT 1)
  else s

/-! ### Spare rows (R130) -/

def remapRow (s : State) (t b k : Nat) : Nat := s.fld (bkRemap t b k) TL_t_BK_b_REMAP_k_ROW
def remapEn (s : State) (t b k : Nat) : Bool := s.flag (bkRemap t b k) TL_t_BK_b_REMAP_k_EN
def remapBusy (s : State) (t b k : Nat) : Bool := s.flag (bkRemap t b k) TL_t_BK_b_REMAP_k_BUSY
def mappedRow (s : State) (t b k : Nat) : Nat := tget 0 s.spareRow (spareKey t b k)

/-- REMAP_WRITE (R130). -/
def doRemapWrite (t b k : Nat) (v : Word) (s : State) : State :=
  let row := bits v.toNat 0 9
  let en := bits v.toNat 12 1
  let dup := (List.range 4).any (fun j => j ≠ k && remapEn s t b j && remapRow s t b j = row) || (b = 8 && 64 ≤ row)
  let s1 := if remapBusy s t b k then s.setFld (TL_t_ERR t) TL_t_ERR_REMAP_BUSY 1 else s
  let s2 := if dup then s1.setFld (TL_t_ERR t) TL_t_ERR_REMAP_DUP 1 else s1
  if remapBusy s t b k || dup then s2
  else
    let s3 := s2.setFlds (bkRemap t b k) [(TL_t_BK_b_REMAP_k_ROW, row), (TL_t_BK_b_REMAP_k_EN, en)]
    if en = 0 && mappedRow s t b k = 0 then s3
    else
      let s4 := s3.setFld (bkRemap t b k) TL_t_BK_b_REMAP_k_BUSY 1
      { s4 with spareCopy := tput 0 s4.spareCopy (spareKey t b k) (if windowOpen s t b then 1 else 2) }

/-- REMAP_COPY_START (R133): the copy that waited for the test window starts. -/
def doRemapCopyStart (t b k : Nat) (s : State) : State :=
  if tget 0 s.spareCopy (spareKey t b k) = 1 ∧ ¬ windowOpen s t b then
    { s with spareCopy := tput 0 s.spareCopy (spareKey t b k) 2 }
  else s

/-- Copies the 64-bit word at `a` to `d`: a single-bit error is corrected, an uncorrectable mark kept. -/
def copyWord (a d : Nat) (s : State) (i : Nat) : State :=
  setMark (s.setBytes (d + 8 * i) (s.bytes (a + 8 * i) 8)) (d + 8 * i) (if eccMark s (a + 8 * i) = 2 then 2 else 0)

/-- Copies the 128 words of a row. -/
def copyRow (a d : Nat) (s : State) : State := s.each (List.range 128) (copyWord a d)

/-- The spare's row goes back to its place in the bank. -/
def unmapSpare (t b k : Nat) (s : State) : State :=
  match mappedRow s t b k with
  | 0 => s
  | r + 1 =>
    let s1 := copyRow (spareBase t b k) (bankBase t b + 1024 * r) s
    { s1 with spareRow := tput 0 s1.spareRow (spareKey t b k) 0 }

/-- REMAP_COPY_DONE (R130). A spare that held another row gives it back first (notes/assumptions/21.md). -/
def doRemapCopyDone (t b k : Nat) (s : State) : State :=
  if tget 0 s.spareCopy (spareKey t b k) = 2 then
    let s1 := (unmapSpare t b k s).setFld (bkRemap t b k) TL_t_BK_b_REMAP_k_BUSY 0
    let s2 := { s1 with spareCopy := tput 0 s1.spareCopy (spareKey t b k) 0 }
    if remapEn s t b k then
      let s3 := copyRow (bankBase t b + 1024 * remapRow s t b k) (spareBase t b k) s2
      { s3 with spareRow := tput 0 s3.spareRow (spareKey t b k) (remapRow s t b k + 1) }
    else s2
  else s

/-! ### The background test (R131 to R134) -/

def windowsOf (b : Nat) : Nat := if b < 8 then 1024 else 128

/-- A spare-row copy of the bank waits or runs. -/
def copyPending (s : State) (t b : Nat) : Bool :=
  (List.range 4).any (fun k => tget 0 s.spareCopy (spareKey t b k) ≠ 0)

/-- Saves word `i` of the window at offset `w` (R131 step 1): the buffer holds corrected data. -/
def saveWord (t b w : Nat) (s : State) (i : Nat) : State :=
  copyWord (arrayAddr s t b w) (saveBase t b) (eccRead t b s (w + 8 * i)) i

/-- Bank `b` opens its next window. -/
def openWindow (t b : Nat) (s : State) : State :=
  if bits (s.fld (TL_t_BKT_CTL t) TL_t_BKT_CTL_EN) b 1 = 1 ∧ ¬ windowOpen s t b ∧ ¬ copyPending s t b then
    let w := tget 0 s.nextWin (9 * t + b)
    let s1 := s.each (List.range 64) (saveWord t b (512 * w))
    s1.setFlds (bkTest t b) [(TL_t_BK_b_TEST_ACTIVE, 1), (TL_t_BK_b_TEST_WIN, w)]
  else s

/-- TEST_WINDOW_START (R133). -/
def doTestWindowStart (t : Nat) (s : State) : State := s.each (List.range 9) (fun s b => openWindow t b s)

/-- The first failing word and bit of a March test, while FAIL is clear (R134). -/
def marchFail (t b : Nat) (f : Option (Nat × Nat)) (s : State) : State :=
  match f with
  | none => s
  | some (i, bit) =>
    if s.flag (bkTest t b) TL_t_BK_b_TEST_FAIL then s
    else (s.setFld (bkTest t b) TL_t_BK_b_TEST_FAIL 1).setFlds (bkTaddr t b)
      [(TL_t_BK_b_TADDR_OFFSET, 64 * windowNo s t b + i), (TL_t_BK_b_TADDR_BIT, bit)]

/-- TEST_WINDOW_END (R131, R134): the buffer goes back to the array, the window closes and the next one
follows; `f` names the word of the window and the bit of a March mismatch. -/
def doTestWindowEnd (t b : Nat) (f : Option (Nat × Nat)) (s : State) : State :=
  if windowOpen s t b then
    let w := windowNo s t b
    let s1 := (marchFail t b f s).each (List.range 64) (copyWord (saveBase t b) (arrayAddr s t b (512 * w)))
    let s2 := s1.setFld (bkTest t b) TL_t_BK_b_TEST_ACTIVE 0
    let n := if w + 1 < windowsOf b then w + 1 else 0
    let s3 := { s2 with nextWin := tput 0 s2.nextWin (9 * t + b) n }
    if n = 0 then s3.setFld (bkTest t b) TL_t_BK_b_TEST_PASSES (s3.fld (bkTest t b) TL_t_BK_b_TEST_PASSES + 1) else s3
  else s

/-- BKT_INTERVAL_WRITE (R133). -/
def doBktIntervalWrite (t : Nat) (v : Word) (s : State) : State :=
  if bits v.toNat 0 16 < 2 then s.setFld (TL_t_ERR t) TL_t_ERR_INTERVAL_RANGE 1
  else s.setFld (TL_t_BKT_INTERVAL t) TL_t_BKT_INTERVAL_US (bits v.toNat 0 16)

/-! ### The common-bank lock (R127, R128) -/

def lockHeld (s : State) (t : Nat) : Bool := s.flag (TL_t_LOCK t) TL_t_LOCK_HELD

/-- Core `n` holds the lock of its tile. -/
def holdsLock (s : State) (n : Nat) : Bool :=
  lockHeld s (n / 4) && s.fld (TL_t_LOCK (n / 4)) TL_t_LOCK_HOLDER = n % 4

def takeLock (n : Nat) (s : State) : State :=
  s.setFlds (TL_t_LOCK (n / 4)) [(TL_t_LOCK_HOLDER, n % 4), (TL_t_LOCK_HELD, 1)]

def releaseLock (n : Nat) (s : State) : State := s.setFld (TL_t_LOCK (n / 4)) TL_t_LOCK_HELD 0

/-- A broken lock is released and counted. -/
def breakLock (n : Nat) (s : State) : State :=
  (releaseLock n s).incSat (TL_t_LOCK (n / 4)) TL_t_LOCK_BROKEN_CNT

/-! ### Tile reset, the part of the tile block (R393) -/

/-- Owners to 0x7, the lock released without a count, capture stopped, TL_t_ERR and TL_t_VIOL cleared. -/
def tileBlockReset (t : Nat) (s : State) : State :=
  let s1 := s.each (List.range 8) (fun s b => s.setReg (TL_t_BK_b_OWNER t b) 0x707)
  let s2 := s1.setFlds (TL_t_LOCK t) [(TL_t_LOCK_HELD, 0), (TL_t_LOCK_HOLDER, 0)]
  ((s2.setReg (TL_t_CAP t) 0).setReg (TL_t_ERR t) 0).setReg (TL_t_VIOL t) 0

end Sys2Proof.Machine
end

