-- ==== Sys2Proof/Machine/Drive.lean ====
section
/-! DEFINITION. Drive channels, sense inputs and TDM ports (chapter 05). Samples are signed 32-bit
numbers in units of FS/2^31.
Choices and readings: log entry 61. -/

namespace Sys2Proof.Machine
open R

def State.drive (s : State) (n : Nat) : Drv := tget Drv.reset s.drv n
def State.setDrive (s : State) (n : Nat) (d : Drv) : State := { s with drv := tput Drv.reset s.drv n d }
def State.mapDrive (s : State) (n : Nat) (f : Drv → Drv) : State := s.setDrive n (f (s.drive n))

def drvState (s : State) (n : Nat) : Nat := s.fld (DRV_n_STAT n) DRV_n_STAT_STATE
def setDrvState (s : State) (n x : Nat) : State := s.setFld (DRV_n_STAT n) DRV_n_STAT_STATE x

/-- Channel `n` clips (R187, R137, R152). -/
def setClip (n : Nat) (s : State) : State :=
  let s1 := s.setFld (DRV_n_STAT n) DRV_n_STAT_CLIP 1
  { s1 with an := { s1.an with clips := if s1.an.clips.contains n then s1.an.clips else n :: s1.an.clips } }

/-- The channel is in STARTING or RUN. -/
def drvLive (s : State) (n : Nat) : Bool := drvState s n = 1 || drvState s n = 2

/-- An exact quotient, or one of its two neighbours: the spec states no rounding. -/
def roundFree (s : State) (a : Int) (b : Nat) : Int × State :=
  if a % b = 0 then (a.fdiv b, s)
  else (a.fdiv b + ((s.free .unstated % 2 : Nat) : Int), s.freeNext)

/-- The floor of a square root, or the number above it where the root is not exact. -/
def rootFree (s : State) (a : Nat) : Nat × State :=
  let r := isqrtBits 64 a 0
  if r * r = a then (r, s) else (r + s.free .estimate % 2, s.freeNext)

/-! ### Sense paths (R140 to R142) -/

/-- Input `n` is enabled and its group's clock runs. -/
def senseOn (s : State) (n : Nat) : Bool :=
  s.flag (SNS_n_CFG n) SNS_n_CFG_EN && s.flag (SNS_CLK_g_CFG (n / 16)) SNS_CLK_g_CFG_EN

/-- y = GAIN × (x + OFFSET) on an output x of a path (R142). -/
def senseCal (s : State) (n : Nat) (x : Int) : Int × State :=
  if senseOn s n then
    let off := sext 16 (s.fld (SNS_n_CAL n) SNS_n_CAL_OFFSET)
    let g := s.fld (SNS_n_CAL n) SNS_n_CAL_GAIN
    let r := roundFree s ((x + off * 65536) * g) 32768
    (satS 32 r.1, r.2)
  else (0, s)

/-- The main-chain sample of input `n` from the chain's output before OFFSET and GAIN. The high-pass of
DCBLK is given by its class only (R142): its output is a free value. -/
def senseSample (s : State) (n : Nat) (x : Word) : Word × State :=
  if !senseOn s n then (0, s)
  else if s.flag (SNS_n_CFG n) SNS_n_CFG_DCBLK then (BitVec.ofNat 32 (s.free .dcBlock), s.freeNext)
  else
    let r := senseCal s n (sext 32 x.toNat)
    (BitVec.ofInt 32 r.1, r.2)

/-- SENSE_STUCK (R142): the 64th equal sampled bit of a sampled input. -/
def doSenseStuck (n : Nat) (s : State) : State :=
  if senseOn s n then s.setFld (SNS_n_STAT n) SNS_n_STAT_STUCK 1 else s

/-- SENSE_OVERLOAD (R142). -/
def doSenseOverload (n : Nat) (s : State) : State :=
  if senseOn s n then
    let s1 := s.setFld (SNS_n_STAT n) SNS_n_STAT_OVL 1
    { s1 with an := { s1.an with ovls := if s1.an.ovls.contains n then s1.an.ovls else n :: s1.an.ovls } }
  else s

/-- The main-chain output of input `n` in a frame, before OFFSET and GAIN; 0 where the frame names none. -/
def rawSense (xs : List (Nat × Word)) (n : Nat) : Word := ((xs.find? (fun e => e.1 = n)).map (·.2)).getD 0

/-- The samples completed in the frame that ends, of every input that is on. -/
def senseFrame (xs : List (Nat × Word)) (s : State) : State :=
  let r := ((List.range 128).filter (senseOn s)).foldl (fun (a : List (Nat × Word) × State) n =>
    let y := senseSample a.2 n (rawSense xs n)
    (tput 0 a.1 n y.1, y.2)) ([], s)
  { r.2 with senseNow := r.1 }

/-- Calibrating channels average the main-chain outputs before OFFSET, GAIN and DC blocking (R153). -/
def calFrame (xs : List (Nat × Word)) (s : State) (n : Nat) : State :=
  if drvState s n = 3 ∧ (s.drive n).calFrames < 4096 then
    s.mapDrive n (fun d => { d with
      calFrames := d.calFrames + 1
      sumV := d.sumV + sext 32 (rawSense xs (2 * n)).toNat
      sumI := d.sumI + sext 32 (rawSense xs (2 * n + 1)).toNat })
  else s

/-! ### Groups (R149, R150) -/

/-- The device is in run (R377). -/
def inRun (s : State) : Bool := s.flag BT_STAT BT_STAT_RUN

/-- The conditions of R150 for DRV_EN_g. -/
def groupWanted (s : State) (g : Nat) : Bool :=
  s.flag (DRV_GRP_g_CTL g) DRV_GRP_g_CTL_EN && !s.flag (DRV_GRP_g_CTL g) DRV_GRP_g_CTL_FLT_LATCHED && inRun s

/-- A channel in STARTING or RUN enters OFF (R150). -/
def dropChannel (s : State) (n : Nat) : State := if drvLive s n then setDrvState s n 0 else s

def groupChannels (g : Nat) : List Nat := (List.range 8).map (8 * g + ·)

/-- DRIVE_ENABLE_LOSS (R150): DRV_EN_g falls once a condition of R150 fails. -/
def doDriveEnableLoss (g : Nat) (s : State) : State :=
  if s.flag (DRV_GRP_g_CTL g) DRV_GRP_g_CTL_EN_OUT && !groupWanted s g then
    (s.setFld (DRV_GRP_g_CTL g) DRV_GRP_g_CTL_EN_OUT 0).each (groupChannels g) dropChannel
  else s

/-- DRV_EN_g follows the conditions of R150. -/
def settleGroup (g : Nat) (s : State) : State :=
  if groupWanted s g && !s.flag (DRV_GRP_g_CTL g) DRV_GRP_g_CTL_EN_OUT then
    let s1 := s.setFld (DRV_GRP_g_CTL g) DRV_GRP_g_CTL_EN_OUT 1
    { s1 with grpRise := tput 0 s1.grpRise g (s.frame + 1) }
  else doDriveEnableLoss g s

def settleGroups (s : State) : State := s.each (List.range 8) (fun s g => settleGroup g s)

/-- A write of DRV_GRP_g_CTL (R149, R150). -/
def writeGroup (g : Nat) (v : Word) (s : State) : State :=
  let low := s.flag (DRV_GRP_g_CTL g) DRV_GRP_g_CTL_FLT_IN
  let s1 := s.setFld (DRV_GRP_g_CTL g) DRV_GRP_g_CTL_EN (bits v.toNat 0 1)
  let s2 := if bits v.toNat 1 1 = 1 ∧ ¬ low then s1.setFld (DRV_GRP_g_CTL g) DRV_GRP_g_CTL_FLT_LATCHED 0 else s1
  settleGroup g s2

/-- FLT_LATCHED_CLEAR (R149): a write of 1 to FLT_LATCHED that keeps EN. -/
def doFltLatchedClear (g : Nat) (s : State) : State :=
  writeGroup g (BitVec.ofNat 32 (2 + s.fld (DRV_GRP_g_CTL g) DRV_GRP_g_CTL_EN)) s

/-- One channel of a group fault (R149). -/
def faultChannel (s : State) (n : Nat) : State := (setDrvState s n 5).setFld (DRV_n_STAT n) DRV_n_STAT_GRP 1

/-- GROUP_FAULT (R149). -/
def doGroupFault (g : Nat) (s : State) : State :=
  let s1 := s.setFlds (DRV_GRP_g_CTL g)
    [(DRV_GRP_g_CTL_FLT_IN, 1), (DRV_GRP_g_CTL_FLT_LATCHED, 1), (DRV_GRP_g_CTL_EN_OUT, 0)]
  s1.each (groupChannels g) faultChannel

/-- FLT_INPUT_HIGH (R149): the input returns high; the latch stays. -/
def doFltInputHigh (g : Nat) (s : State) : State := s.setFld (DRV_GRP_g_CTL g) DRV_GRP_g_CTL_FLT_IN 0

/-! ### Channel commands (R147, R148, R151, R153, R469) -/

/-- SHORT_DETECT (R147): only while the outputs switch. -/
def doShortDetect (n : Nat) (s : State) : State :=
  if drvLive s n then (setDrvState s n 4).setFld (DRV_n_STAT n) DRV_n_STAT_SHORT 1 else s

/-- OPEN_DETECT (R148): OPEN_CNT has reached 4. -/
def doOpenDetect (n : Nat) (s : State) : State :=
  if s.fld (DRV_n_STAT n) DRV_n_STAT_OPEN_CNT = 4 then
    let s1 := (s.setFld (DRV_n_STAT n) DRV_n_STAT_OPEN 1).mapDrive n (fun d => { d with openCond := true })
    if s.flag (DRV_n_CTL n) DRV_n_CTL_OPEN_OFF then (dropChannel s1 n).setFld (DRV_n_CTL n) DRV_n_CTL_ENABLE 0 else s1
  else s

/-- ENABLE_WRITE (R469): the bit changes now, the channel at the next block tick. -/
def doEnableWrite (n : Nat) (b : Bool) (s : State) : State := s.setFld (DRV_n_CTL n) DRV_n_CTL_ENABLE (b2n b)

/-- CLR_FAULT (R151). -/
def doClrFault (n : Nat) (s : State) : State :=
  let s1 := s.setFld (DRV_n_CTL n) DRV_n_CTL_CLR_FAULT 1
  if drvState s n = 4 ∨ drvState s n = 5 then setDrvState s1 n 0 else s1

/-- CAL_START (R153): ignored outside OFF. -/
def doCalStart (n : Nat) (s : State) : State :=
  let s1 := s.setFld (DRV_n_CTL n) DRV_n_CTL_CAL_START 1
  if drvState s n = 0 then
    (setDrvState s1 n 3).mapDrive n (fun d => { d with calFrames := 0, sumV := 0, sumI := 0 })
  else s1

/-- Writes the negated mean of 4,096 samples into OFFSET of input `m` (R153). -/
def writeOffset (m : Nat) (sum : Int) (s : State) : State :=
  let r := roundFree s (-sum) (4096 * 65536)
  r.2.setFld (SNS_n_CAL m) SNS_n_CAL_OFFSET (unsext 16 (satS 16 r.1))

/-- CAL_DONE (R153): 4,096 frames have passed. -/
def doCalDone (n : Nat) (s : State) : State :=
  if drvState s n = 3 ∧ (s.drive n).calFrames = 4096 then
    let d := s.drive n
    setDrvState (writeOffset (2 * n + 1) d.sumI (writeOffset (2 * n) d.sumV s)) n 0
  else s

/-- A write of DRV_n_CTL: its stored fields, then the two command bits. -/
def writeDrvCtl (n : Nat) (v : Word) (s : State) : State :=
  let s1 := s.writeByType (DRV_n_CTL n) v
  let s2 := if bits v.toNat 5 1 = 1 then doClrFault n s1 else s1
  if bits v.toNat 4 1 = 1 then doCalStart n s2 else s2

/-! ### The correction loop (R144, R145) -/

/-- A binary32 register value as sign, significand and exponent, if it is finite. -/
def finite32 (v : Nat) : Option (Bool × Nat × Int) :=
  match fdecode f32 false v with
  | .fin n m e => some (n, m, e)
  | _ => none

/-- LOOPG × v, to an integer below or above it; a LOOPG that is no finite number gives a free value. -/
def loopTimes (s : State) (n : Nat) (v : Int) : Int × State :=
  match finite32 (s.reg (DRV_n_LOOPG n)).toNat with
  | some (neg, m, e) =>
    let p : Int := (if neg then -(m : Int) else m) * v
    if 0 ≤ e then (p * (2 ^ e.toNat : Nat), s) else roundFree s p (2 ^ (-e).toNat)
  | none => (sext 64 (s.free .loopError), s.freeNext)

/-- The interpolated signal (R137 step 3): a free value, and 0 where all its input is 0. -/
def interpolated (s : State) (n : Nat) : Int × State :=
  if (s.drive n).out.all (· = 0) && (s.drive n).lat.all (· = 0) then (0, s)
  else (sext 32 (s.free .modulator), s.freeNext)

/-- All coefficients of the loop are 0. -/
def coefsZero (s : State) (n : Nat) : Bool := (List.range 10).all (fun k => s.reg (DRV_n_COEF_k n k) = 0)

/-- CORRECTION_UPDATE (R144, R137 steps 4 to 6): `v` is the loop-path output of SNS2n before GAIN and
OFFSET. The biquads' arithmetic is not stated, so their output is a free value within ±CLAMP. -/
def doCorrectionUpdate (n : Nat) (v : Word) (s : State) : State :=
  if !drvLive s n then s.mapDrive n (fun d => { d with corr := 0, errs := [], ys := [], errCnt := 0, edge := 8000 })
  else
    let r := interpolated s n
    let x := senseCal r.2 (2 * n) (sext 32 v.toNat)
    let g := loopTimes x.2 n x.1
    let e := r.1 - g.1
    let on := s.flag (DRV_n_CTL n) DRV_n_CTL_LOOP_EN
    let clamp : Int := (s.fld (DRV_n_LOOP n) DRV_n_LOOP_CLAMP * 65536 : Nat)
    let beyond := decide (((s.fld (DRV_n_LOOP n) DRV_n_LOOP_ERR_LIM * 65536 : Nat) : Int) < e.natAbs)
    let open' := !on || coefsZero s n
    let y := sext 40 (g.2.free .loopError)
    let y' := if y < -clamp then -clamp else if clamp < y then clamp else y
    let corr := if open' then 0 else y'
    let s1 := if open' then g.2 else g.2.freeNext
    let out := r.1 + corr
    let d := s.drive n
    let quiet := decide (out = 0)
    let s2 := (if quiet then s1 else s1.freeNext).setDrive n { d with
      corr := corr
      errs := if on then (e :: d.errs).take 2 else []
      ys := if on then (y' :: d.ys).take 2 else []
      errCnt := if on && beyond then d.errCnt + 1 else 0
      edge := if quiet then 8000 else s1.free .modulator % 16001 }
    if fitsS 32 out then s2 else setClip n s2

/-- LOOP_FAULT (R145): 64 consecutive errors beyond ERR_LIM open the loop. -/
def doLoopFault (n : Nat) (s : State) : State :=
  if 64 ≤ (s.drive n).errCnt then
    ((s.setFld (DRV_n_CTL n) DRV_n_CTL_LOOP_EN 0).setFld (DRV_n_STAT n) DRV_n_STAT_LOOP_FAULT 1).mapDrive n
      (fun d => { d with corr := 0, errs := [], ys := [], errCnt := 0 })
  else s

/-! ### Estimates (R146, R148) -/

/-- Samples at the 192 kHz tap in a block. -/
def tapCount (s : State) : Nat := blockN s * 192000 / fsHz s

/-- A level in units of FS/32,768 from a sum of squares in units of (FS/2^31)². -/
def rmsLevel (s : State) (sum : Nat) : Nat × State :=
  let r := isqrtBits 34 (sum / tapCount s) 0
  if r * r * tapCount s = sum ∧ r % 65536 = 0 then (min (r / 65536) 65535, s)
  else (min (r / 65536 + s.free .estimate % 2) 65535, s.freeNext)

/-- A scale register that is neither zero nor infinite nor NaN. -/
def scaleOk (v : Nat) : Option (Nat × Int) :=
  match finite32 v with
  | some (_, m, e) => if m = 0 then none else some (m, e)
  | none => none

/-- |VSCALE / ISCALE| × √(Σv² / Σi²) in unsigned 20.12, or the top value (R146). -/
def impedance (s : State) (n sv si : Nat) : Nat × State :=
  match scaleOk (s.reg (DRV_n_VSCALE n)).toNat, scaleOk (s.reg (DRV_n_ISCALE n)).toNat with
  | some (mv, ev), some (mi, ei) =>
    if si = 0 then (0xFFFFFFFF, s)
    else
      let sh := 2 * (ev - ei) + 24
      let num := mv * mv * sv * 2 ^ sh.toNat
      let den := mi * mi * si * 2 ^ (-sh).toNat
      if 2 ^ 64 * den ≤ num then (0xFFFFFFFF, s)
      else
        let z := rootFree s (num / den)
        (min z.1 0xFFFFFFFF, z.2)
  | _, _ => (0xFFFFFFFF, s)

/-- OPEN_CNT after a valid estimate (R148). -/
def openCount (n : Nat) (s : State) : State :=
  let a := DRV_n_STAT n
  if s.fld (DRV_n_LIM n) DRV_n_LIM_OPEN_TH < (s.reg (DRV_n_ZEST n)).toNat / 4096 then
    s.setFld a DRV_n_STAT_OPEN_CNT (min (s.fld a DRV_n_STAT_OPEN_CNT + 1) 4)
  else (s.setFld a DRV_n_STAT_OPEN_CNT 0).mapDrive n (fun d => { d with openCond := false })

/-- IMPEDANCE_ESTIMATE (R146, R148): `sv` and `si` are Σv² and Σi² of the block at the 192 kHz taps of
SNS2n and SNS2n+1, after R142, in units of (FS/2^31)². -/
def doImpedanceEstimate (n sv si : Nat) (s : State) : State :=
  let v := rmsLevel s sv
  let i := rmsLevel v.2 si
  let z := impedance i.2 n sv si
  let s1 := (z.2.setReg (DRV_n_LEVEL n) (BitVec.ofNat 32 (v.1 + 65536 * i.1))).setReg (DRV_n_ZEST n) (BitVec.ofNat 32 z.1)
  let ok := (scaleOk (s.reg (DRV_n_VSCALE n)).toNat).isSome && (scaleOk (s.reg (DRV_n_ISCALE n)).toNat).isSome
  if ok && decide (s.fld (DRV_n_VMIN n) DRV_n_VMIN_VMIN ≤ v.1) then openCount n s1 else s1

/-! ### Block tick (R137, R150, R152, R469) -/

/-- The drive port collects a sample. -/
def driveCollect (n : Nat) (w : Word) (s : State) : State := s.mapDrive n (fun d => { d with coll := d.coll ++ [w] })

/-- A trigger of R152 is active. -/
def triggered (s : State) (n : Nat) : Bool :=
  let t := s.fld (DRV_n_PAIR n) DRV_n_PAIR_TRIG
  (bits t 0 1 = 1 && drvState s n = 4) || (bits t 1 1 = 1 && (s.drive n).openCond) || (bits t 2 1 = 1 && drvState s n = 5)

/-- Whether the channel's partner is wanted from this tick on. -/
def markWanted (s : State) (n : Nat) : State :=
  s.mapDrive n (fun d => { d with wanted := triggered s n || (d.wanted && drvState s n ≠ 2) })

/-- State entries of a block tick (R150, R469). -/
def drvEnter (s : State) (n : Nat) : State :=
  let en := s.flag (DRV_n_CTL n) DRV_n_CTL_ENABLE
  if drvLive s n && !en then setDrvState s n 0
  else if drvState s n = 1 then setDrvState s n 2
  else if drvState s n = 0 && en && s.flag (DRV_GRP_g_CTL (n / 8)) DRV_GRP_g_CTL_EN_OUT &&
      decide (tget 0 s.grpRise (n / 8) + blockN s ≤ s.frame) then setDrvState s n 1
  else s

/-- The channel latches the collected block (R137). -/
def drvLatch (s : State) (n : Nat) : State := s.mapDrive n (fun d => { d with lat := d.coll, coll := [] })

def partnerOf (s : State) (n : Nat) : Nat := s.fld (DRV_n_PAIR n) DRV_n_PAIR_PARTNER
def autoOn (s : State) (n : Nat) : Bool := s.flag (DRV_n_PAIR n) DRV_n_PAIR_AUTO && partnerOf s n ≠ n

/-- The channel whose samples `p` outputs, if any (R152). -/
def mirrorOf (s : State) (p : Nat) : Option Nat :=
  if drvLive s p then
    (List.range 64).find? (fun n => autoOn s n && partnerOf s n = p && (s.drive n).wanted &&
      !((s.drive p).wanted && autoOn s p && partnerOf s p = n))
  else none

/-- A sample times 10^(gs/40), saturated at ±FS: the answer says whether it is beyond. A product that is
not exact is a free value between 0 and the limit of its sign (R152 states no rounding). -/
def gainStep (gs : Nat) (w : Word) (s : State) : Word × Bool × State :=
  let x := sext 32 w.toNat
  let beyond := decide ((2 ^ 31) ^ 40 < x.natAbs ^ 40 * 10 ^ gs) || decide (2 ^ 31 - 1 < x ∧ gs = 0)
  if gs = 0 ∨ x = 0 then (w, false, s)
  else if beyond then (if x < 0 then 0x80000000 else 0x7FFFFFFF, true, s)
  else
    let m : Nat := s.free .modulator % 2 ^ 31
    (BitVec.ofInt 32 (if x < 0 then -(m : Int) else m), false, s.freeNext)

/-- The block that channel `p` outputs: its own or a failed partner's samples (R137 step 1), then the start
ramp (step 2), whose gain at each sample is not stated beyond its ends. -/
def drvSource (s : State) (p : Nat) : State :=
  let src := mirrorOf s p
  let s0 := s.setFld (DRV_n_STAT p) DRV_n_STAT_MIRRORING (b2n src.isSome)
  let r := match src with
    | none => ((s0.drive p).lat, s0)
    | some n =>
      let gs := min (s0.fld (DRV_n_PAIR n) DRV_n_PAIR_GAIN_STEP) 12
      (s0.drive n).lat.foldl (fun (a : List Word × State) w =>
        let y := gainStep gs w a.2
        (a.1 ++ [y.1], if y.2.1 then setClip p y.2.2 else y.2.2)) ([], s0)
  let q := if drvState s p = 1 then r.1.foldl (fun (a : List Word × State) w =>
      if w = 0 then (a.1 ++ [0], a.2) else (a.1 ++ [BitVec.ofNat 32 (a.2.free .modulator)], a.2.freeNext)) ([], r.2)
    else r
  q.2.mapDrive p (fun d => { d with out := if drvLive s p then q.1 else [] })

/-! ### TDM (R143) -/

def tdmOn (s : State) (p : Nat) : Bool := s.flag (TDM_p_CTL p) TDM_p_CTL_EN

/-- TDM_SLIP: only a target-mode port slips. -/
def doTdmSlip (p : Nat) (s : State) : State :=
  if tdmOn s p && !s.flag (TDM_p_CTL p) TDM_p_CTL_MASTER then
    let s1 := (s.setFld (TDM_p_STAT p) TDM_p_STAT_SLIP 1).setFld (TDM_p_STAT p) TDM_p_STAT_LOCKED 0
    { s1 with tdmSlip := p :: s1.tdmSlip, tdmClean := tput 0 s1.tdmClean p 0 }
  else s

/-- TDM_LOCK: 16 frames without a slip. -/
def doTdmLock (p : Nat) (s : State) : State :=
  if tdmOn s p && decide (16 ≤ tget 0 s.tdmClean p) then s.setFld (TDM_p_STAT p) TDM_p_STAT_LOCKED 1 else s

/-- A word of port `p` as its width carries it. -/
def tdmWord (s : State) (p : Nat) (w : Word) : Word :=
  if s.flag (TDM_p_CTL p) TDM_p_CTL_WIDTH then w else w &&& 0xFFFFFF00

/-- The words received in the frame that ends, and the slip counts. -/
def tdmFrame (xs : List (Nat × Word)) (s : State) : State :=
  let rx := (xs.filter (fun e => e.1 < 128)).foldl (fun (a : List (Nat × Word)) e =>
    let p := e.1 / 16
    tput 0 a e.1 (if tdmOn s p && !s.tdmSlip.contains p then tdmWord s p e.2 else 0)) []
  let clean := (List.range 8).foldl (fun (a : List (Nat × Nat)) p =>
    if tdmOn s p && !s.tdmSlip.contains p then tput 0 a p (min (tget 0 a p + 1) 16) else tput 0 a p 0) s.tdmClean
  { s with tdmIn := rx, tdmClean := clean, tdmSlip := [] }

/-- A word that the exchange gives TDM channel `c` in this frame: sent in the next. -/
def tdmSend (c : Nat) (w : Word) (s : State) : State :=
  { s with tdmOut := tput 0 s.tdmOut c (if tdmOn s (c / 16) then tdmWord s (c / 16) w else 0) }

end Sys2Proof.Machine
end

