-- ==== Sys2Proof/Machine/MemBus.lean ====
section
/-! DEFINITION. Memory on the fabric as the engines reach it: DDR5 (R408, R431 to R433), shared banks of
owner code 0x6 and common banks (R440), and the fabric error log (R445, R446).
Choices and readings: log entries 17, 28 and 36. -/

namespace Sys2Proof.Machine
open R

/-! ### The fabric error log -/

/-- Fabric port number of a requester (R446). A signal core has none; 63 stands for it. -/
def portNo (ag : Agent) : Nat :=
  match ag with
  | .dap => 0
  | .clove => 1
  | .sumac c _ => 2 + c
  | .tileDma t => 14 + t
  | .trunk => 26
  | .host => 27
  | .stream => 28
  | .store => 29
  | .anise => 30
  | .saffron => 31
  | .qm => 32
  | .security => 33
  | .core _ => 63

/-- A logged access by the requester at fabric port `port` (R446). -/
def logFabric (port kind : Nat) (write : Bool) (a : Nat) (s : State) : State :=
  let s1 := s.incSat DBG_FERR_CNT DBG_FERR_CNT_COUNT
  if s.flag DBG_FERR DBG_FERR_VALID then s1
  else (((s1.setFlds DBG_FERR [(DBG_FERR_PORT, port), (DBG_FERR_KIND, kind), (DBG_FERR_WRITE, b2n write),
    (DBG_FERR_VALID, 1)]).setReg DBG_FERR_ADDR_LO (BitVec.ofNat 32 a)).setReg DBG_FERR_ADDR_HI
      (BitVec.ofNat 32 (a / 2 ^ 32 % 256)))

/-! ### DDR5 -/

def ddrMirror (s : State) : Bool := s.flag PM_DDR_CFG PM_DDR_CFG_MIRROR

/-- First DDR5 address that does not exist (R431). -/
def ddrLimit (s : State) : Nat := if ddrMirror s then s.ddrCap / 2 else s.ddrCap

def chLost (s : State) (c : Nat) : Bool :=
  if c = 0 then s.flag PM_DDR_STAT PM_DDR_STAT_CH0_LOST else s.flag PM_DDR_STAT PM_DDR_STAT_CH1_LOST

/-- Home channel of an address (R431). -/
def ddrHome (s : State) (a : Nat) : Nat :=
  if ddrMirror s then (if a < s.ddrCap / 4 then 0 else 1) else a / 256 % 2

/-- Neither the home nor a copy of the address is left (R432, R433). -/
def ddrGone (s : State) (a : Nat) : Bool :=
  chLost s (ddrHome s a) && (!ddrMirror s || chLost s (1 - ddrHome s a))

/-- The home of the 64-bit word at `w` fails: it is marked uncorrectable or its channel is lost and not redirected. -/
def ddrFails (s : State) (w : Nat) : Bool :=
  eccMark s w = 2 ||
    (chLost s (ddrHome s w) && bits (s.fld PM_DDR_CFG PM_DDR_CFG_REDIR) (ddrHome s w) 1 = 0)

/-- What a read delivers: the bytes, whether it received an error response, whether its data are
uncorrectable, and the state after it. -/
structure Fetched where
  data : List Byte
  err : Bool
  ecc : Bool
  s : State

/-- Every uncorrectable error counts (R408). -/
def ddrCount (s : State) (w : Nat) : State :=
  if ddrFails s w then s.incSat PM_DDR_STAT PM_DDR_STAT_UNC_CNT else s

/-- The byte at a DDR5 address; a byte whose channel is gone is a free value (R433). -/
def ddrByte (r : List Byte × State) (a : Nat) : List Byte × State :=
  if ddrGone r.2 a then (r.1 ++ [BitVec.ofNat 8 (r.2.free .unstated)], r.2.freeNext) else (r.1 ++ [r.2.byte a], r.2)

/-- A DDR5 read (R431, R432): with the mirror a failing home is served from the copy. -/
def ddrRead (s : State) (a n : Nat) : Fetched :=
  let r := ((List.range n).map (a + ·)).foldl ddrByte ([], s.each (wordsOf a n) ddrCount)
  let bad := (wordsOf a n).any (fun w => ddrGone s w || (ddrFails s w && !ddrMirror s))
  { data := r.1, err := false, ecc := bad, s := r.2 }

/-- A DDR5 write. A word written whole is good again. -/
def ddrWrite (s : State) (a : Nat) (l : List Byte) : State :=
  (s.each (wordsOf a l.length) (fun s w => if a ≤ w && w + 8 ≤ a + l.length then setMark s w 0 else s)).setBytes a l

/-! ### Places -/

/-- Where an engine's access goes. -/
inductive Place where
  | ddr
  | bank (t b off : Nat)
  | none
  deriving DecidableEq, Repr

/-- The PHY and the controller of the home channel of `a` run (R389). -/
def ddrClock (s : State) (a : Nat) : Bool := clockOn s (28 + ddrHome s a) && clockOn s (30 + ddrHome s a)

/-- Tile `t` answers: its power is on and its clock runs (R389, R440). -/
def tileAnswers (s : State) (t : Nat) : Bool := tileOn s t && clockOn s t

/-- The memory that holds the `n` bytes from `a`: DDR5, one shared bank or the common bank (8) of a tile
whose power is on. -/
def placeOf (s : State) (a n : Nat) : Place :=
  if a + n ≤ ddrLimit s ∧ ddrClock s a then .ddr
  else if 0x1000000000 ≤ a ∧ a + n ≤ 0x100C000000 then
    let t := (a - 0x1000000000) / 0x1000000
    let l := (a - 0x1000000000) % 0x1000000
    if !tileAnswers s t then .none
    else if l + n ≤ 0x400000 ∧ l / 0x80000 = (l + n - 1) / 0x80000 then .bank t (l / 0x80000) (l % 0x80000)
    else if 0x400000 ≤ l ∧ l + n ≤ 0x410000 then .bank t 8 (l - 0x400000)
    else .none
  else .none

/-- A memory read by a fabric requester other than the tile's own DMA. -/
def memRead (s : State) (a n : Nat) : Fetched :=
  match placeOf s a n with
  | .ddr => ddrRead s a n
  | .bank t b off =>
    let r := if b = 8 then bankRead s t b off n else ownedRead s t b 6 off n
    { data := r.1, err := false, ecc := false, s := r.2 }
  | .none => { data := zeros n, err := true, ecc := false, s := s }

/-- A memory write by such a requester: the answer says whether it received an error response. -/
def memWrite (s : State) (a : Nat) (l : List Byte) : Bool × State :=
  match placeOf s a l.length with
  | .ddr => (false, ddrWrite s a l)
  | .bank t b off => (false, if b = 8 then bankWrite s t b off l else ownedWrite s t b 6 off l)
  | .none => (true, s)

/-- KIND of an access to a place that is none: 2 for a gated tile or a stopped domain, 0 for no target (R446). -/
def errKind (s : State) (a : Nat) : Nat :=
  if 0x1000000000 ≤ a ∧ a < 0x100C000000 ∧ ¬ tileAnswers s ((a - 0x1000000000) / 0x1000000) then 2
  else if a < ddrLimit s ∧ ¬ ddrClock s a then 2 else 0

/-- A read by the engine at fabric port `port`, logged when it fails. -/
def engRead (port : Nat) (s : State) (a n : Nat) : Fetched :=
  let r := memRead s a n
  if r.err then { r with s := logFabric port (errKind s a) false a r.s } else r

def engWrite (port : Nat) (s : State) (a : Nat) (l : List Byte) : Bool × State :=
  let r := memWrite s a l
  if r.1 then (true, logFabric port (errKind s a) true a r.2) else r

/-- The little-endian number of `n` bytes at `a`, read by an engine. -/
def memNum (port : Nat) (s : State) (a n : Nat) : Nat × State :=
  (leNat (engRead port s a n).data, (engRead port s a n).s)

/-- `n` little-endian bytes of `v` written at `a` by an engine. -/
def memPut (port : Nat) (s : State) (a n v : Nat) : State := (engWrite port s a (leBytes n v)).2

/-- Indices below `n` whose register at `base + stride * i` has been written to a value other than its reset. -/
def State.listed (s : State) (base stride n : Nat) : List Nat :=
  s.regs.filterMap (fun e =>
    if base ≤ e.1 ∧ (e.1 - base) % stride = 0 ∧ (e.1 - base) / stride < n then some ((e.1 - base) / stride) else none)

end Sys2Proof.Machine
end

