-- ==== Sys2Proof/Machine/Net.lean ====
section
/-! DEFINITION. Ethernet ports, rings, duplicate discard, time, shaping, hub election and isolation
(chapter 06). Ports 0 and 1 are the sides of ring A (0), ports 2 and 3 those of ring B (1).
Choices and readings: log entries 24 and 26. -/

namespace Sys2Proof.Machine
open R

def State.mapNet (s : State) (f : Net → Net) : State := { s with net := f s.net }

/-- The device's MAC address. -/
def ownMac (s : State) : Nat := (s.reg NET_MAC_LO).toNat + 2 ^ 32 * s.fld NET_MAC_HI NET_MAC_HI_MAC

def ringOf (p : Nat) : Nat := p / 2
def otherPort (p : Nat) : Nat := if p % 2 = 0 then p + 1 else p - 1

/-- Ring `r` is enabled in NET_CTL. -/
def ringEn (s : State) (r : Nat) : Bool :=
  if r = 0 then s.flag NET_CTL NET_CTL_RING_A_EN else s.flag NET_CTL NET_CTL_RING_B_EN

def prpEn (s : State) : Bool := s.flag NET_CTL NET_CTL_PRP_EN

def portRate (s : State) (p : Nat) : Nat := s.fld (NET_PORT_p_CFG p) NET_PORT_p_CFG_RATE

/-- The port's link is up; a port with RATE 3 is off (R154). -/
def linkUp (s : State) (p : Nat) : Bool := s.flag (NET_PORT_p_STAT p) NET_PORT_p_STAT_LINK && decide (portRate s p ≠ 3)

def ringOpenFld (r : Nat) : Fld := if r = 0 then NET_RING_STAT_A_OPEN else NET_RING_STAT_B_OPEN

/-- Rate in Mb/s. -/
def rateMbps (s : State) (p : Nat) : Nat :=
  match portRate s p with
  | 0 => 25000
  | 1 => 10000
  | 2 => 1000
  | _ => 0

/-! ### Gates (R165) -/

/-- Class `c` is open in gate entry `k` of the active list. -/
def gateBit (s : State) (p k c : Nat) : Bool := bits (s.fld (NET_GCLA_p_k p k) NET_GCLA_p_k_GATES) c 1 = 1

/-- Length of entry `k` that begins at position `pos` of a cycle: the last entry lasts to its end (R165). -/
def gateLen (s : State) (p : Nat) (g : Gcl) (k pos : Nat) : Nat :=
  if g.len ≤ k + 1 then g.cyc - pos else min (s.fld (NET_GCLA_p_k p k) NET_GCLA_p_k_INTERVAL) (g.cyc - pos)

/-- How long class `c` stays open from the start of entry `k` at position `pos` to the first closed entry,
over at most `n` entries and no further than the next cycle's start. -/
def gateRun (s : State) (p c : Nat) (g : Gcl) : Nat → Nat → Nat → Nat
  | 0, _, _ => 0
  | n + 1, k, pos =>
    if gateBit s p k c && decide (k < g.len) && decide (pos < g.cyc) then
      gateLen s p g k pos + gateRun s p c g n (k + 1) (pos + gateLen s p g k pos)
    else 0

/-- A frame of `len` bytes of class `c` may start on port `p` in the gate entry now in effect: it ends
before its gate closes, counted from the entry's start (notes/assumptions/24.md). -/
def gateOpen (s : State) (p c len : Nat) : Bool :=
  let g := tget Gcl.reset s.net.gcl p
  if !s.flag (NET_PORT_p_GCL_CTL p) NET_PORT_p_GCL_CTL_EN || g.len = 0 then true
  else decide ((len + 20) * 8000 ≤ gateRun s p c g (g.len - g.idx) g.idx g.pos * rateMbps s p)

/-! ### Sending -/

/-- Ports and path identifiers of a frame that the device originates (R157). -/
def sendPaths (s : State) : List (Nat × Nat) :=
  (if ringEn s 0 then (if prpEn s then [(0, 2), (1, 2)] else [(0, 0), (1, 0)]) else []) ++
  (if prpEn s && ringEn s 1 then [(2, 3), (3, 3)] else [])

/-- Puts copies on their ports; a port without a link sends nothing and a closed gate holds the copy. -/
def putOut (l : List OutFrame) (s : State) : State :=
  let up := l.filter (fun o => linkUp s o.port)
  s.mapNet (fun n => { n with
    sent := up.filter (fun o => gateOpen s o.port o.frame.cls o.frame.len)
    held := n.held ++ up.filter (fun o => !gateOpen s o.port o.frame.cls o.frame.len) })

/-- Frames that waited for a gate and may start now. -/
def releaseHeld (s : State) : State :=
  if s.net.held = [] then s
  else putOut s.net.held (s.mapNet (fun n => { n with held := [] }))

/-- The device originates a frame: its copies carry one sequence number (R157). -/
def originate (len dst cls : Nat) (body : FrameBody) (s : State) : State :=
  let f : EthFrame := { len := len, fcsOk := true, dst := dst, src := ownMac s, seq := some s.net.hsrSeq, cls := cls, body := body }
  let l := (sendPaths s).map (fun e => { port := e.1, path := e.2, frame := f : OutFrame })
  if l = [] then s.mapNet (fun n => { n with sent := [] })
  else putOut l (s.mapNet (fun n => { n with hsrSeq := (n.hsrSeq + 1) % 65536 }))

/-! ### Isolation (R183) -/

/-- Enters time holdover (R163): the DCO keeps a frequency within its limits that the spec does not give. -/
def enterHoldover (s : State) : State :=
  if s.flag NET_PTP_STAT NET_PTP_STAT_HOLDOVER then s
  else
    let f := (s.free .unstated % 200000001 : Nat)
    let s1 := (s.setFld NET_PTP_STAT NET_PTP_STAT_HOLDOVER 1).setFld NET_PTP_STAT NET_PTP_STAT_LOCKED 0
    ((s1.setReg NET_DCO_FREQ (BitVec.ofInt 32 ((f : Int) - 100000000))).freeNext).mapNet (fun n => { n with syncGood := 0 })

/-- ISOLATED sets; the source follows ISO_EVT. -/
def isolate (s : State) : State :=
  if s.flag NET_RING_STAT NET_RING_STAT_ISOLATED then s
  else enterHoldover ((s.setFld NET_RING_STAT NET_RING_STAT_ISOLATED 1).setFld NET_RING_STAT NET_RING_STAT_ISO_EVT 1)

def anyRing (s : State) : Bool := ringEn s 0 || ringEn s 1

/-- Every port of the enabled rings has its link down. -/
def allDown (s : State) : Bool := (List.range 4).all (fun p => !ringEn s (ringOf p) || !linkUp s p)

/-- The first case of R183, and ISOLATED while no ring is enabled. -/
def checkIsolation (s : State) : State :=
  if !anyRing s then s.setFld NET_RING_STAT NET_RING_STAT_ISOLATED 0
  else if allDown s then isolate s else s

/-- ISOLATION (R183): ISO_TIME has passed without a frame from another device. -/
def doIsolation (s : State) : State := if anyRing s then isolate s else s

/-- RING_ENABLE_WRITE: a write of NET_CTL (R157, R183). -/
def doRingEnableWrite (v : Word) (s : State) : State := checkIsolation (s.writeByType NET_CTL v)

/-- A write of NET_ISO_TIME: values outside 100 to 20,000 are refused. -/
def writeIsoTime (v : Word) (s : State) : State :=
  if bits v.toNat 0 16 < 100 ∨ 20000 < bits v.toNat 0 16 then s else s.writeByType NET_ISO_TIME v

/-! ### Links (R154, R155, R160) -/

/-- RATE_MISMATCH of both ports of ring `r` (R155). -/
def setMismatch (r : Nat) (s : State) : State :=
  let m := linkUp s (2 * r) && linkUp s (2 * r + 1) && decide (portRate s (2 * r) ≠ portRate s (2 * r + 1))
  (s.setFld (NET_PORT_p_STAT (2 * r)) NET_PORT_p_STAT_RATE_MISMATCH (b2n m)).setFld
    (NET_PORT_p_STAT (2 * r + 1)) NET_PORT_p_STAT_RATE_MISMATCH (b2n m)

/-- LINK_UP. A port that is off has no link. -/
def doLinkUp (p : Nat) (s : State) : State :=
  if portRate s p = 3 then s
  else setMismatch (ringOf p) (s.setFld (NET_PORT_p_STAT p) NET_PORT_p_STAT_LINK 1)

/-- LINK_DOWN (R160, R183). Frames that wait for the port are lost. -/
def doLinkDown (p : Nat) (s : State) : State :=
  if !s.flag (NET_PORT_p_STAT p) NET_PORT_p_STAT_LINK then s
  else
    let s1 := (s.setFld (NET_PORT_p_STAT p) NET_PORT_p_STAT_LINK 0).setFld (NET_PORT_p_STAT p) NET_PORT_p_STAT_LINK_LOST 1
    let s2 := setMismatch (ringOf p) (s1.setFld NET_RING_STAT (ringOpenFld (ringOf p)) 1)
    checkIsolation (s2.mapNet (fun n => { n with
      fwd := n.fwd.filter (fun o => o.port ≠ p), held := n.held.filter (fun o => o.port ≠ p) }))

/-- A write of NET_PORT_p_CFG (R154): RATE 3 takes the link down. -/
def writePortCfg (p : Nat) (v : Word) (s : State) : State :=
  let s1 := s.writeByType (NET_PORT_p_CFG p) v
  if portRate s1 p = 3 then doLinkDown p s1 else setMismatch (ringOf p) s1

/-! ### Duplicate discard (R159) -/

/-- Number `q` lies in the window that ends at `top`. -/
def inDdWindow (top q : Nat) : Bool := decide ((top + 65536 - q) % 65536 < 1024)

/-- Bit 2^r of the value is set for a number seen on ring r. -/
def seenOn (e : DdEntry) (q : Nat) : Nat := if inDdWindow e.top q then tget 0 e.seen q else 0

/-- The entry after number `q` on ring `r`: a number ahead moves the window, an older one leaves it. -/
def ddNote (e : DdEntry) (q r : Nat) : DdEntry :=
  if inDdWindow e.top q then { e with seen := tput 0 e.seen q (tget 0 e.seen q ||| 2 ^ r) }
  else if (q + 65536 - e.top) % 65536 < 32768 then
    { top := q, seen := tput 0 (tdrop (fun k => !inDdWindow q k) e.seen) q (2 ^ r) }
  else e

/-- Rings on which the frame's number has been seen, and the table with it noted. -/
def ddLookup (f : EthFrame) (r : Nat) (s : State) : Nat × State :=
  match f.seq with
  | none => (0, s)
  | some q =>
    match s.net.dd.find? (fun e => e.1 = f.src) with
    | some e => (seenOn e.2 q, s.mapNet (fun n => { n with dd := tput ⟨0, []⟩ n.dd f.src (ddNote e.2 q r) }))
    | none =>
      if s.net.dd.length < 1024 then
        (0, s.mapNet (fun n => { n with dd := tput ⟨0, []⟩ n.dd f.src { top := q, seen := [(q, 2 ^ r)] } }))
      else (0, s.setFld NET_RING_STAT NET_RING_STAT_DD_OVF 1)

/-- DD_SOURCE_FORGET: a source silent for 400 ms. -/
def doDdSourceForget (src : Nat) (s : State) : State := s.mapNet (fun n => { n with dd := tdrop (· = src) n.dd })

/-! ### Supervision (R160) -/

/-- Multicast address of HSR supervision frames: IEC 62439-3 gives it, the spec does not. -/
def supervisionMac : Nat := 0x01154E000100

/-- SUPERVISION_SEND: into each ring that R157 uses. -/
def doSupervisionSend (s : State) : State := originate 64 supervisionMac 7 .supervision s

/-- RING_OPEN_TIMEOUT of ring `r`: three supervision intervals without its return. -/
def doRingOpenTimeout (r : Nat) (s : State) : State :=
  if ringEn s r then s.setFld NET_RING_STAT (ringOpenFld r) 1 else s

/-- The device's own frame returns on ring `r`. -/
def ownReturn (f : EthFrame) (r : Nat) (s : State) : State :=
  if f.body = .supervision && linkUp s (2 * r) && linkUp s (2 * r + 1) then s.setFld NET_RING_STAT (ringOpenFld r) 0 else s

/-! ### Time (R161 to R163) -/

/-- A signed value held to ±100 ppm (R162). -/
def clampPpt (v : Word) : Word :=
  let i := sext 32 v.toNat
  if 100000000 < i then 100000000 else if i < -100000000 then BitVec.ofInt 32 (-100000000) else v

/-- DCO_FREQ_WRITE (R162). -/
def doDcoFreqWrite (v : Word) (s : State) : State := s.setReg NET_DCO_FREQ (clampPpt v)

/-- HOLDOVER_ENTRY (R163): three sync intervals without a sync message. -/
def doHoldoverEntry (s : State) : State := enterHoldover s

def mediaLocked (s : State) : Bool := bits (s.fld CK_STAT CK_STAT_LOCKED) 3 1 = 1

/-- A sync message with its measured offset: only on the slave port of a profile that is on. -/
def syncReceive (p : Nat) (offset : Int) (s : State) : State :=
  if s.fld NET_PTP_CTL NET_PTP_CTL_PROFILE = 0 ∨ s.fld NET_PTP_STAT NET_PTP_STAT_SLAVE_PORT ≠ p then s
  else
    let g := if offset.natAbs ≤ 100 then min (s.net.syncGood + 1) 8 else 0
    let s1 := (s.setFld NET_PTP_STAT NET_PTP_STAT_HOLDOVER 0).setReg NET_OFFSET (BitVec.ofInt 32 (satS 32 offset))
    let s2 := s1.setFld NET_PTP_STAT NET_PTP_STAT_LOCKED (b2n (g = 8 && mediaLocked s))
    let s3 := if 50000000 < offset.natAbs then s2.setFld NET_PTP_STAT NET_PTP_STAT_STEP_REQ 1 else s2
    ({ s3 with bb := { s3.bb with locked := s3.bb.locked || (g = 8 && mediaLocked s) } }).mapNet (fun n => { n with syncGood := g })

/-- A write of NET_PTP_CTL: PROFILE 3 is refused. -/
def writePtpCtl (v : Word) (s : State) : State := if bits v.toNat 0 2 = 3 then s else s.writeByType NET_PTP_CTL v

/-- Nanoseconds and seconds of the device's time. -/
def timeNsWord (s : State) : Word := BitVec.ofNat 32 (s.timeNs % 1000000000)
def timeSec (s : State) : Nat := s.timeNs / 1000000000

/-! ### Shaping (R164, R165) -/

/-- CBS_WRITE: a slope of class 6 (`hi`) or 5. -/
def doCbsWrite (p : Nat) (hi : Bool) (v : Word) (s : State) : State :=
  let other := if hi then s.fld (NET_PORT_p_CBS_B p) NET_PORT_p_CBS_B_SLOPE else s.fld (NET_PORT_p_CBS_A p) NET_PORT_p_CBS_A_SLOPE
  if 3 * rateMbps s p < 4 * (bits v.toNat 0 16 + other) then s.setFld (NET_PORT_p_STAT p) NET_PORT_p_STAT_CBS_RANGE 1
  else s.writeByType (if hi then NET_PORT_p_CBS_A p else NET_PORT_p_CBS_B p) v

/-- GCL_SWAP_REQ: with the rest of the register as it stands. -/
def doGclSwapReq (p : Nat) (s : State) : State := s.setFld (NET_PORT_p_GCL_CTL p) NET_PORT_p_GCL_CTL_SWAP_REQ 1

/-- The first entry of the active list takes effect. -/
def firstGate (p : Nat) (s : State) : State :=
  s.mapNet (fun x => { x with gcl := tput Gcl.reset x.gcl p { tget Gcl.reset x.gcl p with idx := 0, pos := 0 } })

/-- GCL_CYCLE_START: a requested list becomes active, or is refused. A list longer than the shadow's 64
entries is refused as one without entries is (notes/assumptions/24.md). -/
def doGclCycleStart (p : Nat) (s : State) : State :=
  let a := NET_PORT_p_GCL_CTL p
  if !s.flag a NET_PORT_p_GCL_CTL_SWAP_REQ then releaseHeld (firstGate p s)
  else
    let s1 := s.setFld a NET_PORT_p_GCL_CTL_SWAP_REQ 0
    let n := s.fld a NET_PORT_p_GCL_CTL_LEN
    let cyc := (s.reg (NET_PORT_p_GCL_CYC p)).toNat
    if n = 0 ∨ 64 < n ∨ cyc < 1000 then
      releaseHeld (firstGate p (s1.setFld (NET_PORT_p_STAT p) NET_PORT_p_STAT_GCL_RANGE 1))
    else
      let s2 := s1.each (List.range 64) (fun s k => s.setReg (NET_GCLA_p_k p k) (s.reg (NET_GCL_p_k p k)))
      releaseHeld (s2.mapNet (fun x => { x with gcl := tput Gcl.reset x.gcl p { len := n, cyc := cyc, idx := 0, pos := 0 } }))

/-- GATE_INTERVAL_END: the next entry's gate states take effect. -/
def doGateIntervalEnd (p : Nat) (s : State) : State :=
  let g := tget Gcl.reset s.net.gcl p
  let e := g.pos + gateLen s p g g.idx g.pos
  if g.idx + 1 < g.len ∧ e < g.cyc then
    releaseHeld (s.mapNet (fun x => { x with gcl := tput Gcl.reset x.gcl p { g with idx := g.idx + 1, pos := e } }))
  else s

/-! ### Hub election (R181, R182) -/

/-- (prio, mac) of the first argument goes before that of the second. -/
def outranks (p1 m1 p2 m2 : Nat) : Bool := decide (p2 < p1) || (decide (p1 = p2) && decide (m1 < m2))

/-- Multicast address of hub announces: the spec gives none; it only has to differ from a device's own. -/
def announceMac : Nat := 0x0180C2000010

/-- The device's hub announce (R181). -/
def sendAnnounce (s : State) : State :=
  originate 64 announceMac 7 (.announce s.net.hubPrio s.net.hubRole s.net.hubEpoch) s

/-- HUB_ANNOUNCE_SEND. -/
def doHubAnnounceSend (s : State) : State := if s.net.hubEligible then sendAnnounce s else s

/-- The device becomes hub with an epoch beyond every epoch it has heard, and announces it. -/
def becomeHub (s : State) : State :=
  sendAnnounce (s.mapNet (fun n => { n with hubRole := 2, hubEpoch := (n.maxEpoch + 1) % 2 ^ 32, maxEpoch := (n.maxEpoch + 1) % 2 ^ 32 }))

/-- HUB_TAKEOVER (R182): the hub has been silent for 30 ms. -/
def doHubTakeover (s : State) : State :=
  if s.net.hubRole = 1 then becomeHub (s.mapNet (fun n => { n with peers := n.peers.filter (fun e => e.2.role ≠ 2) })) else s

/-- HUB_ELECTION_TIMEOUT (R181): no hub or standby has been heard for 200 ms. -/
def doHubElectionTimeout (s : State) : State :=
  if s.net.hubEligible ∧ s.net.hubRole ≠ 2 then
    becomeHub (s.mapNet (fun n => { n with peers := n.peers.filter (fun e => e.2.role = 0) }))
  else s

/-- The role of a device that is not hub: standby when no other device that is not hub goes before it and
a hub is known (R181). -/
def idleRole (s : State) : Nat :=
  let n := s.net
  if n.hubEligible && n.peers.any (fun e => e.2.role = 2) &&
      !n.peers.any (fun e => e.2.role ≠ 2 && outranks e.2.prio e.1 n.hubPrio (ownMac s))
  then 1 else 0

/-- HUB_ANNOUNCE_RECEIVE (R182): of two hubs one stays; otherwise the order of R181 gives the role. -/
def announceReceive (src prio role epoch : Nat) (s : State) : State :=
  let s1 := s.mapNet (fun n => { n with
    peers := tput ⟨0, 3, 0⟩ n.peers src { prio := prio, role := role, epoch := epoch }, maxEpoch := max n.maxEpoch epoch })
  if s1.net.hubRole = 2 then
    let n := s1.net
    let stays := decide (epoch < n.hubEpoch) || (decide (epoch = n.hubEpoch) && outranks n.hubPrio (ownMac s) prio src)
    if role = 2 && !stays then s1.mapNet (fun n => { n with hubRole := 1 }) else s1
  else s1.mapNet (fun n => { n with hubRole := idleRole s1 })

/-! ### Forwarding (R158) -/

def isLinkLocal (m : Nat) : Bool := decide (m / 16 = 0x0180C200000)
def isMulticast (m : Nat) : Bool := bits m 40 1 = 1

/-- Bodies of the time protocol: never forwarded (R158). -/
def isTime (b : FrameBody) : Bool :=
  match b with
  | .sync _ => true
  | .master _ _ => true
  | .linkDelay _ _ => true
  | _ => false

/-- The frame may be forwarded from port `p`: `seen` holds the rings on which its number was seen. -/
def forwards (f : EthFrame) (p seen : Nat) (s : State) : Bool :=
  !isLinkLocal f.dst && !isTime f.body && decide (f.dst ≠ ownMac s) && decide (bits seen (ringOf p) 1 = 0) &&
    linkUp s (otherPort p) && !s.flag (NET_PORT_p_STAT p) NET_PORT_p_STAT_RATE_MISMATCH

/-- FRAME_FORWARD: the outgoing port `p` is free and its oldest waiting frame of the highest class starts. -/
def doFrameForward (p : Nat) (s : State) : State :=
  let cls := (s.net.fwd.filter (fun o => o.port = p)).foldl (fun m o => max m o.frame.cls) 0
  match s.net.fwd.find? (fun o => o.port = p && o.frame.cls = cls) with
  | some o =>
    if linkUp s p && gateOpen s p o.frame.cls o.frame.len then
      s.mapNet (fun n => { n with sent := [o], fwd := n.fwd.erase o })
    else s
  | none => s

end Sys2Proof.Machine
end

