-- ==== Sys2Proof/Machine/Streams.lean ====
section
/-! DEFINITION. Flow contexts, stream packets and jitter buffers (chapter 06), and the receive side of
the ports that delivers to them.
Choices and readings: log entry 27. -/

namespace Sys2Proof.Machine
open R

def State.flow (s : State) (f : Nat) : Flow := tget Flow.reset s.flows f
def State.mapFlow (s : State) (f : Nat) (g : Flow → Flow) : State :=
  { s with flows := tput Flow.reset s.flows f (g (s.flow f)) }

/-! ### Fields of a context -/

def flEn (s : State) (f : Nat) : Bool := s.flag (FL_f_CTL f) FL_f_CTL_EN
def flTx (s : State) (f : Nat) : Bool := s.flag (FL_f_CTL f) FL_f_CTL_DIR
def flAes (s : State) (f : Nat) : Bool := s.flag (FL_f_CTL f) FL_f_CTL_FMT
def flWidth (s : State) (f : Nat) : Nat := s.fld (FL_f_CTL f) FL_f_CTL_WIDTH
def flP (s : State) (f : Nat) : Nat := s.fld (FL_f_CTL f) FL_f_CTL_P
def flBase (s : State) (f : Nat) : Nat := s.fld (FL_f_CH f) FL_f_CH_BASE
def flChn (s : State) (f : Nat) : Nat := s.fld (FL_f_CH f) FL_f_CH_CHN
def flOfs (s : State) (f : Nat) : Nat := s.fld (FL_f_OFS f) FL_f_OFS_OFS
def flMco (s : State) (f : Nat) : Nat := (s.reg (FL_f_MCO f)).toNat
def flId (s : State) (f : Nat) : Nat := (s.reg (FL_f_ID_LO f)).toNat + 2 ^ 32 * (s.reg (FL_f_ID_HI f)).toNat
def flDepth (s : State) (f : Nat) : Nat := 2 ^ s.fld (FL_f_JB_HI f) FL_f_JB_HI_DLOG
def flJb (s : State) (f : Nat) : Nat := (s.reg (FL_f_JB_LO f)).toNat + 2 ^ 32 * s.fld (FL_f_JB_HI f) FL_f_JB_HI_ADDR
def flActive (s : State) (f : Nat) : Bool := s.flag (FL_f_STAT f) FL_f_STAT_ACTIVE

/-- Bytes of a sample of width code `w`. -/
def widthBytes (w : Nat) : Nat := if w = 0 then 4 else if w = 1 then 3 else 2

/-- Contexts whose EN reads 1. -/
def enabledFlows (s : State) : List Nat := (s.listed (FL_f_CTL 0) 0x40 3072).filter (flEn s)

/-! ### The check of an enable (R170) -/

/-- Channels of a direction (R169). -/
def streamChannels (s : State) : Nat := slotCount s

def overlapBad (s : State) (f : Nat) : Bool :=
  decide (streamChannels s < flBase s f + flChn s f) ||
  (enabledFlows s).any (fun g => g ≠ f && flTx s g = flTx s f &&
    decide (flBase s f < flBase s g + flChn s g) && decide (flBase s g < flBase s f + flChn s f))

/-- Stream ID of an AVTP context; destination address and port of an AES67 context. -/
def flIdentity (s : State) (f : Nat) : Bool × Nat := (flAes s f, if flAes s f then flId s f % 2 ^ 48 else flId s f)

def idDupBad (s : State) (f : Nat) : Bool :=
  !flTx s f && (enabledFlows s).any (fun g => g ≠ f && !flTx s g && flIdentity s g = flIdentity s f)

def rangeBad (s : State) (f : Nat) : Bool :=
  let p := flP s f
  let n := blockN s
  flChn s f = 0 || decide (64 < flChn s f) || flWidth s f = 3 ||
  (flTx s f && (p = 0 || decide (96 < p) || (n % p ≠ 0 && p % n ≠ 0) ||
    decide (1440 < flChn s f * p * widthBytes (flWidth s f)))) ||
  ((flTx s f || flAes s f) && (decide (flOfs s f < fsHz s / 4000) || decide (fsHz s / 50 < flOfs s f)))

/-- The jitter buffer of R174: 16-byte aligned, in DDR5 or in one shared bank. -/
def jbBad (s : State) (f : Nat) : Bool :=
  let d := s.fld (FL_f_JB_HI f) FL_f_JB_HI_DLOG
  let n := 4 * flChn s f * flDepth s f
  let a := flJb s f
  let inBankWindow := 0x1000000000 ≤ a && a + n ≤ 0x100C000000 && (a % 0x1000000 + n ≤ 0x400000) &&
    a % 0x1000000 / 0x80000 = (a % 0x1000000 + n - 1) / 0x80000
  !flTx s f && (d < 6 || 12 < d || a % 16 ≠ 0 || !(a + n ≤ ddrLimit s || inBankWindow))

/-- Sets an FL_ERR bit; the first one names its context. -/
def flError (f : Nat) (b : Fld) (s : State) : State :=
  let s1 := if s.reg FL_ERR = 0 then s.setReg FL_ERR_FLOW (BitVec.ofNat 32 f) else s
  s1.setFld FL_ERR b 1

def flErrorIf (c : Bool) (f : Nat) (b : Fld) (s : State) : State := if c then flError f b s else s

/-- A write of FL_f_CTL (R170): the other fields follow the rule of FL_f fields. -/
def writeFlowCtl (f : Nat) (v : Word) (s : State) : State :=
  let en := flEn s f
  let fields := (s.reg (FL_f_CTL f)).toNat / 2
  let new := (v &&& 0x007F071F).toNat
  let held := (en || flActive s f) && fields ≠ new / 2
  let s1 := if held then flError f FL_ERR_BUSY s
    else s.setReg (FL_f_CTL f) (BitVec.ofNat 32 (new / 2 * 2 + b2n en))
  if new % 2 = 0 then
    (s1.setFld (FL_f_CTL f) FL_f_CTL_EN 0).mapFlow f (fun x => { x with stop := x.stop || x.on })
  else if en then s1
  else
    let o := overlapBad s1 f
    let i := idDupBad s1 f
    let r := rangeBad s1 f
    let j := jbBad s1 f
    let s2 := flErrorIf j f FL_ERR_JB_ALIGN (flErrorIf r f FL_ERR_RANGE (flErrorIf i f FL_ERR_ID_DUP
      (flErrorIf o f FL_ERR_OVERLAP s1)))
    if o || i || r || j then s2 else s2.setFld (FL_f_CTL f) FL_f_CTL_EN 1

/-- FLOW_ENABLE and FLOW_DISABLE: FL_f_CTL with EN alone changed. -/
def doFlowEnable (f : Nat) (s : State) : State := writeFlowCtl f (s.reg (FL_f_CTL f) ||| 1) s
def doFlowDisable (f : Nat) (s : State) : State := writeFlowCtl f (s.reg (FL_f_CTL f) &&& 0xFFFFFFFE) s

/-- FLOW_FIELD_WRITE: a write of the register at offset 4 × `r` of context `f`; `r` 0 is FL_f_CTL, 1 to 10
the other fields, and 11 to 13 the status registers. -/
def doFlowFieldWrite (f r : Nat) (v : Word) (s : State) : State :=
  if r = 0 then writeFlowCtl f v s
  else if r < 11 then
    if flEn s f || flActive s f then flError f FL_ERR_BUSY s else s.writeByType (FL_f_CTL f + 4 * r) v
  else s.writeByType (FL_f_CTL f + 4 * r) v

/-! ### Block tick (R170, R178) -/

/-- A context stops or takes effect. -/
def flowTick (s : State) (f : Nat) : State :=
  let x := s.flow f
  let s1 := if x.stop then
      (s.setFld (FL_f_STAT f) FL_f_STAT_ACTIVE 0).mapFlow f (fun x => { Flow.reset with present := x.present })
    else s
  s1.mapFlow f (fun x => { x with on := flEn s f })

def flowsTick (s : State) : State :=
  s.each ((s.flows.map (·.1) ++ enabledFlows s).eraseDups) flowTick

/-! ### Receive timing (R173, R176) -/

/-- The time nearest the device's own whose low 32 bits are `ts`. -/
def nearest32 (now ts : Nat) : Nat :=
  let c := now / 2 ^ 32 * 2 ^ 32 + ts % 2 ^ 32
  if now + 2 ^ 31 < c ∧ 2 ^ 32 ≤ c then c - 2 ^ 32
  else if c + 2 ^ 31 < now then c + 2 ^ 32 else c

/-- Presentation frame of an AVTP packet (R173). -/
def avtpFrame (s : State) (f ts : Nat) : Int :=
  let t := nearest32 s.timeNs ts
  (((t * fsHz s + 999999999) / 1000000000 : Nat) : Int) + sext 32 (flMco s f)

/-- Presentation frame of an RTP packet: the frame nearest the current one whose low bits the timestamp
gives, less MCO, plus OFS (R173). -/
def rtpFrame (s : State) (f ts : Nat) : Int :=
  let c := (ts + 2 ^ 32 - flMco s f % 2 ^ 32) % 2 ^ 32
  ((nearest32 s.frame c + flOfs s f : Nat) : Int)

/-- A received payload word of width code `w` as Q1.31 (R168). -/
def rxSample (w x : Nat) : Word :=
  BitVec.ofNat 32 (if w = 0 then x else if w = 1 then x * 256 else x * 65536)

/-- Address of channel `k` of frame `F` (R174). -/
def jbAddr (s : State) (f k F : Nat) : Nat := flJb s f + 4 * (flChn s f * (F % flDepth s f) + k)

/-- What R176 says of a sample for frame `F`: 0 stored, 1 late, 2 early. Every fetch of the current
frame's tick has been made, so F = Fc + 2 is late. -/
def arrival (s : State) (f : Nat) (F : Int) : Nat :=
  if F < (s.frame : Int) + 3 then 1
  else if (s.frame : Int) + 2 + flDepth s f < F then 2 else 0

/-- Stores one frame of a packet (R176, R178, R239). -/
def storeFrame (f : Nat) (F : Nat) (ws : List Word) (s : State) : State :=
  let s1 := (ws.zipIdx).foldl (fun (s : State) e => memPut 28 s (jbAddr s f e.2 F) 4 e.1.toNat) s
  (s1.setFld (FL_f_STAT f) FL_f_STAT_ACTIVE 1).mapFlow f (fun x => { x with
    hi := max x.hi (F + 1)
    present := if x.present.contains (F % flDepth s f) then x.present else (F % flDepth s f) :: x.present })

/-- One frame of a packet: stored, late or early. -/
def takeFrame (f : Nat) (s : State) (e : Int × List Word) : State :=
  match arrival s f e.1 with
  | 0 => storeFrame f e.1.toNat e.2 s
  | 1 => s.setFld (FL_f_STAT f) FL_f_STAT_LATE 1
  | _ => s.setFld (FL_f_STAT f) FL_f_STAT_EARLY 1

/-- The words of a packet cut into frames of `n` channels. -/
def cutFrames (n : Nat) : Nat → List Word → List (List Word)
  | 0, _ => []
  | k + 1, ws => if ws.length < n then [] else ws.take n :: cutFrames n k (ws.drop n)

/-- The frames of a packet from presentation frame `fp` on. A late packet is counted once. -/
def takeFrames (f : Nat) (fp : Int) (ws : List Word) (s : State) : State :=
  let fr := (cutFrames (flChn s f) ws.length ws).zipIdx.map (fun e => (fp + (e.2 : Int), e.1))
  let s1 := fr.foldl (takeFrame f) s
  if fr.any (fun e => arrival s f e.1 = 1) then s1.incSat (FL_f_CNT f) FL_f_CNT_LATE_CNT else s1

/-- The sequence number of a packet, in a field of 2^`w` (R179). -/
def noteSeq (f q w : Nat) (s : State) : State :=
  let old := s.fld (FL_f_SEQ f) FL_f_SEQ_SEQ
  let d := (q + 2 ^ w - old % 2 ^ w) % 2 ^ w
  let s1 := if (s.flow f).seqSeen ∧ d ≠ 1 then
      let missing := (d + 2 ^ w - 1) % 2 ^ w
      let g := s.setFld (FL_f_STAT f) FL_f_STAT_SEQ_GAP 1
      if d = 0 then g
      else g.setFld (FL_f_CNT f) FL_f_CNT_GAP_CNT (min 65535 (s.fld (FL_f_CNT f) FL_f_CNT_GAP_CNT + missing))
    else s
  (s1.setFld (FL_f_SEQ f) FL_f_SEQ_SEQ q).mapFlow f (fun x => { x with seqSeen := true })

def fmtError (f : Nat) (s : State) : State := s.setFld (FL_f_STAT f) FL_f_STAT_FMT_ERR 1

/-- Receive contexts in effect. -/
def rxFlows (s : State) : List Nat := (s.flows.filter (fun e => e.2.on && !flTx s e.1)).map (·.1)

def widthBits (w : Nat) : Nat := if w = 0 then 32 else if w = 1 then 24 else 16

/-- An AVTP packet (R166): taken by the receive context of its stream ID. -/
def avtpReceive (p : AvtpPkt) (s : State) : State :=
  match (rxFlows s).find? (fun f => !flAes s f && flId s f = p.streamId) with
  | none => s
  | some f =>
    if !p.tv || p.sp || 2 < p.fmt || p.nsr ≠ fsHz s || p.chans ≠ flChn s f || p.bitDepth ≠ widthBits (flWidth s f) then
      fmtError f s
    else
      takeFrames f (avtpFrame s f p.ts) (p.samples.map (rxSample p.fmt)) (noteSeq f (p.seq % 256) 8 s)

/-- An RTP packet (R167). Fragments and packets with options are not the stream engine's. -/
def rtpReceive (p : RtpPkt) (s : State) : State :=
  if !p.whole then s
  else match (rxFlows s).find? (fun f => flAes s f && flId s f % 2 ^ 48 = p.ip % 2 ^ 32 + 2 ^ 32 * (p.port % 65536) &&
      ((s.reg (FL_f_AUX f)).toNat = 0 || (s.reg (FL_f_AUX f)).toNat = p.ssrc)) with
  | none => s
  | some f =>
    if !p.sumOk then fmtError f s
    else takeFrames f (rtpFrame s f p.ts) (p.samples.map (rxSample (flWidth s f))) (noteSeq f (p.seq % 65536) 16 s)

/-! ### A received frame (R156 to R160) -/

/-- What the device does with a frame it takes in. -/
def deliver (p : Nat) (f : EthFrame) (s : State) : State :=
  match f.body with
  | .supervision => s.mapNet (fun n => { n with nodes := if n.nodes.contains f.src then n.nodes else f.src :: n.nodes })
  | .sync o => syncReceive p o s
  | .master gm slave =>
    if s.fld NET_PTP_CTL NET_PTP_CTL_PROFILE = 0 then s
    else s.setFlds NET_PTP_STAT [(NET_PTP_STAT_GM, b2n gm), (NET_PTP_STAT_SLAVE_PORT, slave % 4)]
  | .linkDelay ns c =>
    if s.fld NET_PTP_CTL NET_PTP_CTL_PROFILE ≠ 1 then s
    else (s.setReg (NET_PORT_p_PDELAY p) (BitVec.ofNat 32 ns)).setFld (NET_PORT_p_STAT p) NET_PORT_p_STAT_AS_CAPABLE (b2n c)
  | .avtp k => avtpReceive k s
  | .rtp k => rtpReceive k s
  | .announce a b c => announceReceive f.src a b c s
  | .other _ => s

/-- A good frame from another device on a port of an enabled ring (R158, R159). -/
def takeIn (p : Nat) (f : EthFrame) (s : State) : State :=
  let r := ddLookup f (ringOf p) s
  let s1 := if forwards f p r.1 s then
      r.2.mapNet (fun n => { n with fwd := n.fwd ++ [{ port := otherPort p, path := 0, frame := f }] })
    else r.2
  if !(isMulticast f.dst || f.dst = ownMac s) then s1
  else if r.1 ≠ 0 then s1.incSat NET_DD_CNT NET_DD_CNT_DISCARDED
  else deliver p f s1

/-- FRAME_RECEIVE. -/
def doFrameReceive (p : Nat) (f : EthFrame) (s : State) : State :=
  if !linkUp s p then s
  else if 1528 < f.len ∨ ¬ f.fcsOk then s.incSat (NET_PORT_p_RXERR p) NET_PORT_p_RXERR_COUNT
  else if !ringEn s (ringOf p) then s
  else if f.src = ownMac s then ownReturn f (ringOf p) s
  else takeIn p f (s.setFld NET_RING_STAT NET_RING_STAT_ISOLATED 0)

/-! ### Transmit (R167, R168, R171 to R173) -/

/-- A transmitted sample of width code `w` (R168). -/
def txSample (w : Nat) (x : Word) : Nat :=
  if w = 0 then x.toNat
  else
    let h := if w = 1 then 8 else 16
    unsext (32 - h) (satS 32 (sext 32 x.toNat + 2 ^ (h - 1)) / (2 ^ h : Nat))

/-- The stream port gives transmit context `f` its samples of frame `F`. -/
def txCapture (F : Nat) (word : Nat → Word) (s : State) (f : Nat) : State :=
  if (s.flow f).on && flTx s f then
    let ws := (List.range (flChn s f)).map (fun k => word (flBase s f + k))
    s.mapFlow f (fun x => { x with tx := ((F, ws) :: x.tx).take (flP s f + 2 * max (blockN s) (flP s f)) })
  else s

/-- Frame of the packet whose launch is due in the current frame (R171). -/
def launchFrame (s : State) (f : Nat) : Option Nat :=
  let p := flP s f
  let m := max (blockN s) p
  if m ≤ s.frame then some ((s.frame - m) / p * p) else none

/-- Samples of frames F0 to F0 + P − 1, if the context has them all. -/
def txSamples (s : State) (f f0 : Nat) : Option (List Nat) :=
  ((List.range (flP s f)).mapM (fun i => ((s.flow f).tx.find? (fun e => e.1 = f0 + i)).map (·.2))).map
    (fun l => l.flatten.map (txSample (flWidth s f)))

/-- Header bytes of a packet beside its payload: addresses, VLAN and HSR tags, headers and FCS. -/
def headerBytes (aes : Bool) : Nat := if aes then 14 + 4 + 6 + 40 + 4 else 14 + 4 + 6 + 24 + 4

/-- The packet of context `f` whose first frame is `f0` (R166, R167, R172, R173). -/
def txBody (s : State) (f f0 q : Nat) (l : List Nat) : FrameBody :=
  if flAes s f then
    .rtp { ip := flId s f % 2 ^ 32, port := flId s f / 2 ^ 32 % 65536, ssrc := (s.reg (FL_f_AUX f)).toNat, seq := q,
           ts := (f0 + flMco s f) % 2 ^ 32, sumOk := true, whole := true, samples := l }
  else
    .avtp { streamId := flId s f, tv := true, sp := false, fmt := flWidth s f, nsr := fsHz s, chans := flChn s f,
            bitDepth := widthBits (flWidth s f), seq := q, ts := (f0 + flOfs s f) * 1000000000 / fsHz s % 2 ^ 32, samples := l }

def flDst (s : State) (f : Nat) : Nat := (s.reg (FL_f_DST_LO f)).toNat + 2 ^ 32 * s.fld (FL_f_DST_HI f) FL_f_DST_HI_MAC

/-- PACKET_LAUNCH (R171): the packet due, once. -/
def doPacketLaunch (f : Nat) (s : State) : State :=
  let x := s.flow f
  if !(x.on && flTx s f) then s
  else match launchFrame s f with
    | none => s
    | some f0 =>
      match txSamples s f f0 with
      | none => s
      | some l =>
        if x.launched = some f0 then s
        else
          let aes := flAes s f
          let q := if x.seqSeen then (s.fld (FL_f_SEQ f) FL_f_SEQ_SEQ + 1) % (if aes then 65536 else 256) else s.fld (FL_f_SEQ f) FL_f_SEQ_SEQ
          let s1 := originate (headerBytes aes + l.length * widthBytes (flWidth s f)) (flDst s f)
            (s.fld (FL_f_CTL f) FL_f_CTL_TC) (txBody s f f0 q l) s
          ((s1.setFld (FL_f_SEQ f) FL_f_SEQ_SEQ q).setFld (FL_f_STAT f) FL_f_STAT_ACTIVE 1).mapFlow f
            (fun x => { x with launched := some f0, seqSeen := true })

end Sys2Proof.Machine
end

