-- ==== Sys2Proof/Machine/Store.lean ====
section
/-! DEFINITION. The message store (chapter 09): player, holdover substitution, recorder and drives.
Choices and readings: log entries 20 and 29. -/

namespace Sys2Proof.Machine
open R

def State.mapStore (s : State) (f : Store → Store) : State := { s with store := f s.store }

/-! ### Player (R232 to R234) -/

def plDefault : PlCfg := { start := 0, period := 0, repeats := 0, buf := 0 }

/-- START, PERIOD, REPEATS and BUF as the registers hold them. -/
def plRegs (s : State) (c : Nat) : PlCfg :=
  { start := (s.reg (MS_PL_c_START_LO c)).toNat + 2 ^ 32 * (s.reg (MS_PL_c_START_HI c)).toNat,
    period := (s.reg (MS_PL_c_PERIOD c)).toNat,
    repeats := (s.reg (MS_PL_c_REPEATS c)).toNat,
    buf := (s.reg (MS_PL_c_BUF_LO c)).toNat + 2 ^ 32 * s.fld (MS_PL_c_BUF_HI c) MS_PL_c_BUF_HI_BUF }

def plCfg (s : State) (c : Nat) : PlCfg := tget plDefault s.store.plCfg c

/-- The block tick takes the written configuration of every channel (R234). -/
def playerTick (s : State) : State :=
  let chans := (s.listed (MS_PL_c_CTL 0) 4 2048 ++ (s.listed (MS_PL_c_REPEATS 0) 4 256).map (8 * ·)).map (· / 8)
  s.each (chans.eraseDups) (fun s c => s.mapStore (fun x => { x with plCfg := tput plDefault x.plCfg c (plRegs s c) }))

def plArmed (s : State) (c : Nat) : Bool := s.flag MS_CTL MS_CTL_PLAY_EN && s.flag (MS_PL_c_CTL c) MS_PL_c_CTL_EN
def plFmt (s : State) (c : Nat) : Nat := s.fld (MS_PL_c_CTL c) MS_PL_c_CTL_FMT
def plSamples (s : State) (c : Nat) : Nat := s.fld (MS_PL_c_SAMPLES c) MS_PL_c_SAMPLES_SAMPLES

/-- Frames from one sample of an image to the next (R232). -/
def plStep (s : State) (c : Nat) : Nat :=
  (if plFmt s c = 0 then 1 else 3) * (if fsHz s = 48000 then 1 else 2)

/-- The latest play r with Sr ≤ F, and how many frames after Sr frame F lies (R232, R233). -/
def playAt (k : PlCfg) (F : Nat) : Option (Nat × Nat) :=
  if F < k.start then none
  else
    let d := F - k.start
    if k.period = 0 then some (0, d)
    else
      let r := if k.repeats = 0 then d / k.period else min (d / k.period) (k.repeats - 1)
      some (r, d - r * k.period)

/-- Offset `off` lies in a play: no later than its last sample. -/
def inPlay (s : State) (c off : Nat) : Bool := decide (0 < plSamples s c) && decide (off ≤ (plSamples s c - 1) * plStep s c)

/-- Bytes of a stored sample. -/
def plBytes (s : State) (c : Nat) : Nat := if plFmt s c = 0 then 3 else 2

/-- The buffer lies outside fitted DDR5 (R234). -/
def imageBad (s : State) (c : Nat) : Bool := decide (ddrLimit s < (plCfg s c).buf + plSamples s c * plBytes s c)

/-- Play `r` of channel `c` ends with an image error. -/
def imageError (c r : Nat) (s : State) : State :=
  (s.setFld (MS_PL_c_STAT c) MS_PL_c_STAT_IMG_ERR 1).mapStore (fun x => { x with plDead := tput 0 x.plDead c (r + 1) })

/-- What player channel `c` carries in frame `F`. -/
def playSample (s : State) (c F : Nat) : Word × State :=
  if !plArmed s c then (0, s)
  else match playAt (plCfg s c) F with
    | none => (0, s)
    | some (r, off) =>
      if !inPlay s c off || tget 0 s.store.plDead c = r + 1 then (0, s)
      else if imageBad s c then (0, imageError c r s)
      else if off % plStep s c = 0 then
        let n := plBytes s c
        let x := ddrRead s ((plCfg s c).buf + off / plStep s c * n) n
        if x.ecc then (0, imageError c r x.s)
        else (BitVec.ofNat 32 (leNat x.data * 2 ^ (32 - 8 * n)), x.s)
      else (BitVec.ofNat 32 (s.free .player), s.freeNext)

/-- PLAYING and PLAY of channel `c` in the current frame. -/
def playStatus (c : Nat) (s : State) : State :=
  if !plArmed s c then s.setFld (MS_PL_c_STAT c) MS_PL_c_STAT_PLAYING 0
  else match playAt (plCfg s c) s.frame with
    | none => s.setFld (MS_PL_c_STAT c) MS_PL_c_STAT_PLAYING 0
    | some (r, off) =>
      s.setFlds (MS_PL_c_STAT c) [(MS_PL_c_STAT_PLAYING, b2n (inPlay s c off)), (MS_PL_c_STAT_PLAY, r % 65536)]

/-- PLAY_START (R233) and PLAY_END (R232): the status follows the frame. -/
def doPlayStart (c : Nat) (s : State) : State := playStatus c s
def doPlayEnd (c : Nat) (s : State) : State := playStatus c s

/-- Channels with a written control register. -/
def plChannels (s : State) : List Nat := s.listed (MS_PL_c_CTL 0) 0x20 256

/-- The player's samples of frame F + 2, ready by the tick of frame F (R232). -/
def playerFrame (s : State) : State :=
  let F := s.frame + 2
  let r := (plChannels s).foldl (fun (a : List (Nat × Word) × State) c =>
    let x := playSample a.2 c F
    (tput 0 a.1 c x.1, x.2)) ([], s)
  (r.2.each (plChannels s) (fun s c => playStatus c s)).mapStore (fun x => { x with
    playOut := tput [] (tdrop (fun k => k < s.frame) x.playOut) F r.1 })

/-! ### Fetch and holdover substitution (R175, R239) -/

def hsOn (s : State) (k : Nat) : Bool := s.flag MS_CTL MS_CTL_HS_EN && s.flag (MS_HS_k_CFG k) MS_HS_k_CFG_EN
def hsEntries (s : State) : List Nat := (s.listed (MS_HS_k_CFG 0) 8 256).filter (hsOn s)

/-- The entry that names engine channel `e`, the lowest of several. -/
def hsOf (s : State) (e : Nat) : Option Nat := ((hsEntries s).filter (fun k => s.fld (MS_HS_k_CFG k) MS_HS_k_CFG_ECH = e)).head?

/-- One channel of the fetch of frame `F` of context `f`: the entry is read and cleared; without the
presence bit a substitution entry gives the player's sample. -/
def fetchChannel (f F : Nat) (present : Bool) (a : List (Nat × Word) × List Nat × State) (k : Nat) :
    List (Nat × Word) × List Nat × State :=
  let e := flBase a.2.2 f + k
  let x := memNum 28 a.2.2 (jbAddr a.2.2 f k F) 4
  let s1 := memPut 28 x.2 (jbAddr a.2.2 f k F) 4 0
  match (if present then none else hsOf s1 e) with
  | some h =>
    let w := tget 0 (tget [] s1.store.playOut F) (s1.fld (MS_HS_k_CFG h) MS_HS_k_CFG_PCH)
    (tput 0 a.1 e w, a.2.1 ++ [h], s1)
  | none => (tput 0 a.1 e (BitVec.ofNat 32 x.1), a.2.1, s1)

/-- The fetch of frame `F` of context `f` (R175). -/
def fetchFlow (F : Nat) (a : List (Nat × Word) × List Nat × State) (f : Nat) : List (Nat × Word) × List Nat × State :=
  let s := a.2.2
  let present := (s.flow f).present.contains (F % flDepth s f)
  let r := (List.range (flChn s f)).foldl (fetchChannel f F present) a
  let s1 := r.2.2.mapFlow f (fun x => { x with present := x.present.erase (F % flDepth s f) })
  (r.1, r.2.1, if (s.flow f).hi ≤ F then s1.setFld (FL_f_STAT f) FL_f_STAT_UNDERRUN 1 else s1)

/-- ACTIVE and FRAMES of the entries; a change of source sets SUBST_EVT. -/
def hsReport (used : List Nat) (s : State) (k : Nat) : State :=
  let a := MS_HS_k_STAT k
  let now := used.contains k
  let s1 := if s.flag a MS_HS_k_STAT_ACTIVE ≠ now then
      (s.setFld a MS_HS_k_STAT_ACTIVE (b2n now)).setFld MS_STAT MS_STAT_SUBST_EVT 1
    else s
  if now then s1.incSat a MS_HS_k_STAT_FRAMES else s1

/-- The stream engine's fetch at the tick that begins frame `s.frame`. -/
def streamFetch (s : State) : State :=
  let F := s.frame + 2
  let r := ((rxFlows s).filter (flActive s)).foldl (fetchFlow F) ([], [], s)
  let s1 := r.2.2.each (s.listed (MS_HS_k_CFG 0) 8 256) (hsReport r.2.1)
  { s1.setFld MS_STAT MS_STAT_SUBST (b2n (r.2.1 ≠ [])) with
    streamOut := tput [] (tdrop (fun k => k < s.frame) s1.streamOut) F r.1 }

/-! ### The store (R224 to R229) -/

/-- Model address of the 1 MiB of segment `g`. -/
def segBase (g : Nat) : Nat := 2 ^ 42 + g * 0x100000

def dataBytes : Nat := 1044480

/-- Drive `p` (0 NVA, 1 NVB) is in the mirror. -/
def inMirror (s : State) (p : Nat) : Bool :=
  let m := s.fld MS_STAT MS_STAT_MIRROR
  m = 0 || (m = 1 && p = 0) || (m = 2 && p = 1)

def setMirror (s : State) (a b : Bool) : State :=
  s.setFld MS_STAT MS_STAT_MIRROR (if a && b then 0 else if a then 1 else if b then 2 else 3)

/-- Segments that a new write may take: 132 and up, marked free (R227). -/
def freeSegs (s : State) : List Nat :=
  ((List.range (s.store.total - 132)).map (132 + ·)).filter (fun g => (tget Seg.free s.store.segs g).area = 0)

/-- The lowest free segment. -/
def freeSeg (s : State) : Option Nat :=
  (List.range (s.store.total - 132)).findSome? (fun i =>
    if (tget Seg.free s.store.segs (132 + i)).area = 0 && !s.store.ops.any (fun o => o.seg = 132 + i) then some (132 + i) else none)

def setSeg (g : Nat) (h : Seg) (s : State) : State := s.mapStore (fun x => { x with segs := tput Seg.free x.segs g h })

/-- A segment is written and SEALED; while the store is degraded it is dirty for each drive out of the
mirror (R226, R229). -/
def sealSeg (g : Nat) (h : Seg) (s : State) : State :=
  let n := s.store.seq + 1
  let fl := 2 ||| (if inMirror s 0 then 0 else 4) ||| (if inMirror s 1 then 0 else 8)
  setSeg g { h with flags := h.flags ||| fl, seq := n } (s.mapStore (fun x => { x with seq := n }))

/-- Segments of stream `r`, oldest first. -/
def ringSegs (s : State) (r : Nat) : List Nat :=
  (((s.store.segs.filter (fun e => e.2.area = 4 && e.2.owner = r)).map (fun e => (e.2.seq, e.1))).mergeSort
    (fun a b => a.1 ≤ b.1)).map (·.2)

/-- The segment that stream `r` writes next (R244). -/
def recSegment (s : State) (r : Nat) : Option Nat :=
  let ring := ringSegs s r
  if ring.length < s.fld (MS_REC_s_CFG r) MS_REC_s_CFG_RING then freeSeg s
  else match ring.find? (fun g => bits (tget Seg.free s.store.segs g).flags 0 1 = 0 && !s.store.ops.any (fun o => o.seg = g)) with
    | some g => some g
    | none => freeSeg s

/-! ### Recorder (R243, R244) -/

def recDefault : Recorder := { pos := 0, first := 0, other := none, lost := 0 }
def State.recOf (s : State) (r : Nat) : Recorder := tget recDefault s.store.recs r
def State.setRec (s : State) (r : Nat) (x : Recorder) : State := s.mapStore (fun y => { y with recs := tput recDefault y.recs r x })

/-- Samples in half of a staging buffer. -/
def halfSamples : Nat := 348160

def recBuf (s : State) (r half : Nat) : Nat :=
  s.fld (MS_REC_s_BUF_LO r) MS_REC_s_BUF_LO_BUF * 0x100000 + 2 ^ 32 * s.fld (MS_REC_s_BUF_HI r) MS_REC_s_BUF_HI_BUF + half * 0x100000

/-- A half of stream `r` goes to firmware, which writes it to a segment; without a segment, or without a
drive, its data are dropped (R226, R244). -/
def writeHalf (r half first : Nat) (s : State) : State :=
  let x := s.recOf r
  if !inMirror s 0 && !inMirror s 1 then (s.setFld (MS_REC_s_STAT r) MS_REC_s_STAT_DROP 1).setRec r { x with other := none }
  else match recSegment s r with
    | none => ((s.setFld (MS_REC_s_STAT r) MS_REC_s_STAT_FULL 1).setFld (MS_REC_s_STAT r) MS_REC_s_STAT_DROP 1).setRec r
        { x with other := none }
    | some g =>
      let prev := match (ringSegs s r).getLast? with
        | some p => p
        | none => 0xFFFFFFFF
      let h : Seg := { area := 4, flags := 0, owner := r, object := 0, seq := 0, first := first, count := dataBytes, prev := prev }
      let o : StoreOp :=
        { seg := g, hdr := h, src := recBuf s r half, stream := some r,
          leftA := (if inMirror s 0 then 2 else 0), leftB := (if inMirror s 1 then 2 else 0) }
      s.mapStore (fun y => { y with ops := y.ops ++ [o] })

/-- RECORD_HALF_FULL: the recorder switches halves, or discards until the other half has been written. -/
def doRecordHalfFull (r : Nat) (s : State) : State :=
  let x := s.recOf r
  if x.pos < halfSamples then s
  else match x.other with
    | some _ => s.setFld (MS_REC_s_STAT r) MS_REC_s_STAT_DROP 1
    | none =>
      let half := s.fld (MS_REC_s_STAT r) MS_REC_s_STAT_HALF
      writeHalf r half x.first ((s.setFld (MS_REC_s_STAT r) MS_REC_s_STAT_HALF (1 - half)).setRec r
        { x with pos := 0, other := some x.first })

/-- A recorded sample rounded to 24 bits (R243). -/
def recRound (w : Word) : Nat := unsext 24 (satS 32 (sext 32 w.toNat + 128) / 256)

def recOn (s : State) (r : Nat) : Bool := s.flag MS_CTL MS_CTL_REC_EN && s.flag (MS_REC_s_CFG r) MS_REC_s_CFG_EN

/-- Stream `r` takes the sample of frame `F`. At 96 kHz the decimator's output is a free value. -/
def recSample (F : Nat) (w : Word) (s : State) (r : Nat) : State :=
  if !recOn s r || (fsHz s = 96000 && F % 2 = 1) then s
  else
    let v := if fsHz s = 96000 then s.free .recorder % 2 ^ 24 else recRound w
    let s0 := if fsHz s = 96000 then s.freeNext else s
    let x := s0.recOf r
    if halfSamples ≤ x.pos then (s0.setFld (MS_REC_s_STAT r) MS_REC_s_STAT_DROP 1).setRec r { x with lost := x.lost + 1 }
    else
      let s1 := memPut 29 s0 (recBuf s0 r (s0.fld (MS_REC_s_STAT r) MS_REC_s_STAT_HALF) + 3 * x.pos) 3 v
      doRecordHalfFull r (s1.setRec r { x with pos := x.pos + 1, first := if x.pos = 0 then F else x.first })

/-- A write of MS_REC_s_CFG: a RING of 0 or 1 refuses EN. -/
def writeRecCfg (r : Nat) (v : Word) (s : State) : State :=
  let s1 := s.writeByType (MS_REC_s_CFG r) v
  if s1.fld (MS_REC_s_CFG r) MS_REC_s_CFG_RING < 2 then s1.setFld (MS_REC_s_CFG r) MS_REC_s_CFG_EN 0
  else if s1.flag (MS_REC_s_CFG r) MS_REC_s_CFG_EN && !s.flag (MS_REC_s_CFG r) MS_REC_s_CFG_EN then s1.setRec r recDefault
  else s1

/-! ### Drives (R225, R226) -/

/-- Frames from one recorded sample to the next (R243), at the present rate. -/
def recStep (s : State) : Nat := if fsHz s = 96000 then 2 else 1

/-- Frame of the last sample of a segment. -/
def segLast (s : State) (h : Seg) : Nat := h.first + (h.count / 3 - 1) * recStep s

def rangeMeets (a b first last : Nat) : Bool := decide (a ≤ last) && decide (first ≤ b)

/-- A pin request names the stream of a segment and meets its samples (R244). -/
def pinnedBy (s : State) (h : Seg) : Bool :=
  h.area = 4 && s.fw.pins.any (fun p => p.1 = h.owner && rangeMeets h.first (segLast s h) p.2.1 p.2.2)

/-- Completed writes leave the queue: the data are in the segment, and the recorder's half is free. -/
def finishOp (o : StoreOp) (s : State) : State :=
  let s1 := sealSeg o.seg { o.hdr with flags := b2n (pinnedBy s o.hdr) } ((s.mapStore (fun x => { x with ops := x.ops.erase o })).setBytes (segBase o.seg + 4096)
    (s.bytes o.src o.hdr.count))
  match o.stream with
  | none => s1
  | some r => doRecordHalfFull r (s1.setRec r { s1.recOf r with other := none })

def finishOps (s : State) : State := (s.store.ops.filter (fun o => o.leftA = 0 && o.leftB = 0)).foldl (fun s o => finishOp o s) s

/-- Drive `p` completes one of the commands of the oldest write that awaits it. -/
def opStep (p : Nat) : List StoreOp → List StoreOp
  | [] => []
  | o :: t =>
    if p = 0 ∧ 0 < o.leftA then { o with leftA := o.leftA - 1 } :: t
    else if p = 1 ∧ 0 < o.leftB then { o with leftB := o.leftB - 1 } :: t
    else o :: opStep p t

/-- A failed read of drive `p` is retried on the other drive; a good retry repairs it (R225). -/
def readDone (p : Nat) (ok : Bool) (s : State) : State :=
  match s.store.retry with
  | some q =>
    if q = p then s
    else
      let s1 := s.mapStore (fun x => { x with retry := none })
      if ok then s1.incSat (NV_p_ERRCNT q) NV_p_ERRCNT_REPAIRED else s1.incSat (NV_p_ERRCNT p) NV_p_ERRCNT_READ_ERR
  | none =>
    if ok then s
    else
      let s1 := s.incSat (NV_p_ERRCNT p) NV_p_ERRCNT_READ_ERR
      if inMirror s (1 - p) then s1.mapStore (fun x => { x with retry := some p }) else s1

/-- NVME_COMPLETION of drive `p`, on its admin or its I/O queue; `what` 0 is a write or flush, 1 a good
read, 2 a failed read. -/
def doNvmeCompletion (p : Nat) (admin : Bool) (what : Nat) (s : State) : State :=
  let s1 := { s with nvPosted := tput 0 s.nvPosted (2 * p + b2n !admin) 1 }
  if admin then s1
  else if what = 0 then finishOps (s1.mapStore (fun x => { x with ops := opStep p x.ops }))
  else readDone p (what = 1) s1

/-- NVME_TIMEOUT: drive `p` is failed and leaves the mirror; no write awaits it any more. -/
def doNvmeTimeout (p : Nat) (s : State) : State :=
  let s1 := s.setFld (NV_p_STAT p) NV_p_STAT_FAILED 1
  let s2 := setMirror s1 (inMirror s 0 && p ≠ 0) (inMirror s 1 && p ≠ 1)
  let s3 := s2.mapStore (fun x => { x with
    ops := x.ops.map (fun o => if p = 0 then { o with leftA := 0 } else { o with leftB := 0 })
    retry := none })
  if inMirror s2 0 || inMirror s2 1 then finishOps s3
  else s3.store.ops.foldl (fun s o =>
    match o.stream with
    | some r => (s.setFld (MS_REC_s_STAT r) MS_REC_s_STAT_DROP 1).setRec r { s.recOf r with other := none }
    | none => s) (s3.mapStore (fun x => { x with ops := [] }))

/-- DRIVE_RETURN: resynchronisation of drive `p` starts. Without an intact superblock every segment in use
is copied; otherwise the dirty ones. -/
def doDriveReturn (p : Nat) (intact : Bool) (s : State) : State :=
  if inMirror s p then s
  else
    let bit := if p = 0 then 4 else 8
    let s1 := s.setFld MS_STAT MS_STAT_RESYNC 1
    if intact then s1
    else s1.mapStore (fun x => { x with segs := x.segs.map (fun e => (e.1, { e.2 with flags := e.2.flags ||| bit })) })

/-- RESYNC_DONE of drive `p`: no segment is dirty for it and it is in the mirror again. -/
def doResyncDone (p : Nat) (s : State) : State :=
  if !s.flag MS_STAT MS_STAT_RESYNC || inMirror s p then s
  else
    let keep := if p = 0 then 11 else 7
    let s1 := setMirror (s.setFld MS_STAT MS_STAT_RESYNC 0) (inMirror s 0 || p = 0) (inMirror s 1 || p = 1)
    s1.mapStore (fun x => { x with segs := x.segs.map (fun e => (e.1, { e.2 with flags := e.2.flags &&& keep })) })

end Sys2Proof.Machine
end

