-- ==== Sys2Proof/Machine/Anise.lean ====
section
/-! DEFINITION. Anise (chapter 07): probe codes, injection and level law, runs, results and verdicts.
Choices and readings: log entry 31. -/

namespace Sys2Proof.Machine
open R

def State.mapAn (s : State) (f : Anise → Anise) : State := { s with an := f s.an }

/-! ### Codes (R184) -/

def codeLen : Nat := 131071

/-- One step of the recurrence on the 17 bits u(i) to u(i + 16), u(i) lowest. -/
def lfsr (r : Nat) : Nat := r / 2 + (r / 8 % 2 + r % 2) % 2 * 65536

/-- The 17 bits after `i` steps. -/
def lfsrAt : Nat → Nat → Nat
  | 0, r => r
  | i + 1, r => lfsrAt i (lfsr r)

def chipU (i : Nat) : Nat := lfsrAt (i % codeLen) 65536 % 2
def chipV (i : Nat) : Nat := chipU (3 * i)

/-- Chip value g_k(i). -/
def goldChip (k i : Nat) : Nat := (chipU i + chipV ((i + k) % codeLen)) % 2

/-- c_n(F) for a channel with code `k`: +1 or −1. -/
def chipSign (k : Nat) (F : Int) : Int := if goldChip k (F % codeLen).toNat = 0 then 1 else -1

/-! ### Registers -/

def anMode (s : State) : Nat := s.fld AN_CTL AN_CTL_MODE
def anEn (s : State) (n : Nat) : Bool := s.flag (AN_DRV_n_CFG n) AN_DRV_n_CFG_EN
def anCode (s : State) (n : Nat) : Nat := s.fld (AN_DRV_n_CFG n) AN_DRV_n_CFG_CODE
def anLmic (s : State) (n : Nat) : Nat := s.fld (AN_DRV_n_CFG n) AN_DRV_n_CFG_LMIC
def anEnabled (s : State) : List Nat := (List.range 64).filter (anEn s)
def codeInUse (s : State) (n : Nat) : Nat := tget n s.an.codes n
def anMemReg (s : State) : Nat := s.fld AN_MEM_LO AN_MEM_LO_ADDR * 2 ^ 21 + s.fld AN_MEM_HI AN_MEM_HI_ADDR * 2 ^ 32

/-- AN_MODE_WRITE (R194). -/
def doAnModeWrite (m : Nat) (s : State) : State :=
  if m = 3 then s.setFld AN_ERR AN_ERR_MODE_RANGE 1 else s.setFld AN_CTL AN_CTL_MODE m

/-! ### Levels in units of 1/19,200 dB (R190 to R193) -/

def dbUnit : Int := 19200
/-- No level: what is below every level that can arise. -/
def noLevel : Int := -(2 : Int) ^ 60

def maskOf (s : State) (k : Nat) : Int := tget noLevel s.an.mask k

/-- A signed byte of AN_LAW or AN_LAW2, in dB. -/
def lawDb (w : Word) (f : Fld) : Int := sext 8 (bits w.toNat f.lo f.w)
/-- An unsigned byte of them. -/
def lawNum (w : Word) (f : Fld) : Nat := bits w.toNat f.lo f.w

/-- The fall of M_b in one block. -/
def releaseStep (s : State) : Int := (lawNum s.an.law2 AN_LAW2_RELEASE * blockN s * 192000 / fsHz s : Nat)

/-- A binary32 level in dB in these units, rounded down; none for a NaN or an infinity. -/
def levelOf32 (v : Nat) : Option Int :=
  match finite32 v with
  | some (neg, m, e) =>
    let i : Int := (if neg then -(m : Int) else m) * dbUnit
    some (if 0 ≤ e then i * (2 ^ e.toNat : Nat) else i / (2 ^ (-e).toNat : Nat))
  | none => none

/-- The ambient level A_b of microphone `m`, if there is one. -/
def ambient (s : State) (m b : Nat) : Option Int :=
  let v := s.fld (AN_AMB_m_b m b) AN_AMB_m_b_LEVEL
  if v = 0x8000 then none else some (sext 16 v * 75)

/-- H_n,b from the path-gain table (R200). -/
def pathGain (s : State) (n b : Nat) : Option Int × State :=
  let x := memNum 30 s (s.an.mem + 0x2424000 + 0x80 * n + 4 * b) 4
  (levelOf32 x.1, x.2)

/-- Q_b of R193: none without an ambient level or with a NaN gain. -/
def quietLevel (s : State) (n b : Nat) : Option Int × State :=
  let h := pathGain s n b
  match ambient s (anLmic s n) b, h.1 with
  | some a, some g => (some (a - lawNum s.an.law AN_LAW_QMARGIN * 9600 - g), h.2)
  | _, _ => (none, h.2)

/-- P_b, if the band carries a probe (R191, R193). -/
def targetLevel (s : State) (n b : Nat) (m : Int) : Option Int × State :=
  let t := m - 6 * dbUnit - lawNum s.an.law AN_LAW_MARGIN * 9600
  let q := if s.an.mode = 2 then quietLevel s n b else (none, s)
  let x := match q.1 with
    | some v => max t v
    | none => t
  let p := min x (lawDb s.an.law AN_LAW_PMAX * dbUnit)
  (if p < lawDb s.an.law AN_LAW_PMIN * dbUnit || decide (bits s.an.bands.toNat b 1 = 0) then none else some p, q.2)

/-- The spread level S_b of a block: none where the programme is 0 throughout, else a free value (the
band filters of R190 are not given). -/
def spreadLevel (s : State) (n : Nat) : Option Int × State :=
  if tget 0 s.an.tapSq n = 0 then (none, s) else (some (sext 32 (s.free .anLevel)), s.freeNext)

/-- M_b and P_b of band `b` of channel `n` from the block that has just been completed (R190, R194). -/
def lawBand (n : Nat) (s : State) (b : Nat) : State :=
  let k := 31 * n + b
  let sp := spreadLevel s n
  let fall := maskOf s k - releaseStep s
  let m := match sp.1 with
    | some v => max v fall
    | none => if maskOf s k = noLevel then noLevel else fall
  let p := targetLevel sp.2 n b m
  p.2.mapAn (fun a => { a with
    mask := tput noLevel a.mask k m
    gain := match p.1 with
      | some v => tput noLevel a.gain k v
      | none => tput noLevel a.gain k noLevel })

/-- The level of tap channel `c` in the block is below `db` dB FS (R190, R192), exactly. -/
def tapBelow (s : State) (c : Nat) (db : Int) : Bool :=
  let sq := 2 * tget 0 s.an.tapSq c
  let full := blockN s * 2 ^ 62
  if 0 ≤ db then decide (sq ^ 10 < full ^ 10 * 10 ^ db.toNat) else decide (sq ^ 10 * 10 ^ (-db).toNat < full ^ 10)

/-- A_b of microphone `m` after the block (R192): smoothed to a free value, or held. -/
def ambientBand (m : Nat) (hold : Bool) (s : State) (b : Nat) : State :=
  let a := AN_AMB_m_b m b
  if hold then s.setFld a AN_AMB_m_b_HELD 1
  else ((s.setFld a AN_AMB_m_b_HELD 0).setFld a AN_AMB_m_b_LEVEL (s.free .anLevel % 65536)).freeNext

def ambientMic (s : State) (m : Nat) : State :=
  let loud := (anEnabled s).any (fun n => anLmic s n = m && !tapBelow s n (lawDb s.an.law2 AN_LAW2_AMB_GATE))
  (List.range 31).foldl (ambientBand m loud) s

/-- The gains for the next block, from the tap data of the block that has ended. -/
def levelLaw (s : State) : State :=
  let s0 := if s.an.mode = 0 then s
    else (List.range 16).foldl ambientMic ((anEnabled s).foldl (fun s n => (List.range 31).foldl (lawBand n) s) s)
  s0.mapAn (fun a => { a with tapSq := [], gain := if a.mode = 0 then [] else a.gain })

/-- The tap port takes a word of channel `c` (R186). -/
def tapWord (c : Nat) (w : Word) (s : State) : State :=
  if s.an.mode = 0 && anMode s = 0 then s
  else s.mapAn (fun a => { a with tapSq := tput 0 a.tapSq c (tget 0 a.tapSq c + (sext 32 w.toNat).natAbs ^ 2) })

/-! ### Injection (R187) -/

/-- The block that begins carries channel `n`'s probe. -/
def injects (s : State) (n : Nat) : Bool := decide (s.an.mode ≠ 0) && anEn s n && decide (drvState s n = 2)

/-- Some band of channel `n` has a gain. -/
def hasGain (g : List (Nat × Int)) (n : Nat) : Bool := g.any (fun e => e.1 / 31 = n)

/-- Adds the probe to one latched sample; without any gain the probe is 0. -/
def addProbe (n : Nat) (on : Bool) (a : List Word × State) (w : Word) : List Word × State :=
  if !on then (a.1 ++ [w], a.2)
  else
    let x := sext 32 w.toNat + sext 32 (a.2.free .probe)
    let s1 := a.2.freeNext
    (a.1 ++ [BitVec.ofInt 32 (satS 32 x)], if fitsS 32 x then s1 else setClip n s1)

/-- INJ, LEVEL and BANDS of channel `n`. -/
def injStatus (n : Nat) (inj : Bool) (s : State) : State :=
  let k := if inj then (s.an.gainNow.filter (fun e => e.1 / 31 = n)).length else 0
  let s1 := s.setFlds (AN_DRV_n_STAT n) [(AN_DRV_n_STAT_INJ, b2n inj), (AN_DRV_n_STAT_BANDS, k)]
  if k = 0 then s1.setFld (AN_DRV_n_STAT n) AN_DRV_n_STAT_LEVEL 0x80
  else (s1.setFld (AN_DRV_n_STAT n) AN_DRV_n_STAT_LEVEL (s.free .anLevel % 256)).freeNext

/-- Injection into the latched block of channel `n`. -/
def injectProbe (before : List (Nat × Int)) (s : State) (n : Nat) : State :=
  let inj := injects s n
  let on := inj && (hasGain s.an.gainNow n || hasGain before n)
  let r := (s.drive n).lat.foldl (addProbe n on) ([], s)
  injStatus n inj (if inj then r.2.mapDrive n (fun d => { d with lat := r.1 }) else s)

/-- Channels that Anise has to look at in a block tick. -/
def anChannels (s : State) : List Nat :=
  (List.range 64).filter (fun n => anEn s n || s.flag (AN_DRV_n_STAT n) AN_DRV_n_STAT_INJ)

/-! ### Runs (R195, R197, R198) -/

def regionBytes : Nat := 37904384

def codeDup (s : State) : Bool := decide ((anEnabled s).map (anCode s) ≠ ((anEnabled s).map (anCode s)).eraseDups)
def anMemBad (s : State) : Bool := decide (ddrLimit s < anMemReg s + regionBytes)

def winBad (s : State) : Bool :=
  let t := s.fld AN_TAIL AN_TAIL_TAIL_START
  let one := fun (a : Nat) => decide (t ≤ s.fld a AN_WIN_S_LAG_END) || decide (s.fld a AN_WIN_S_LAG_END < s.fld a AN_WIN_S_LAG_START)
  one AN_WIN_S || one AN_WIN_M ||
    (List.range 16).any (fun m => s.flag (AN_MIC_m_CFG m) AN_MIC_m_CFG_EN && decide (126975 < s.fld (AN_MIC_m_CFG m) AN_MIC_m_CFG_LAG0))

def anErrIf (c : Bool) (f : Fld) (s : State) : State := if c then s.setFld AN_ERR f 1 else s

def anBusy (s : State) : Bool := s.flag AN_RUN_STAT AN_RUN_STAT_RUNNING || s.flag AN_RUN_STAT AN_RUN_STAT_WAITING

/-- AN_START (R195). -/
def doAnStart (s : State) : State :=
  if anBusy s then s
  else
    let off := decide (anMode s = 0)
    let s1 := anErrIf (winBad s) AN_ERR_WIN_RANGE (anErrIf (anMemBad s) AN_ERR_MEM_RANGE (anErrIf (codeDup s) AN_ERR_CODE_DUP
      (anErrIf off AN_ERR_MODE_OFF s)))
    if off || codeDup s || anMemBad s || winBad s then s1
    else (s1.setFld AN_RUN_STAT AN_RUN_STAT_WAITING 1).mapAn (fun a => { a with startAt := s.frame, stopReq := false })

/-- AN_STOP (R198). -/
def doAnStop (s : State) : State :=
  (s.setFld AN_RUN_STAT AN_RUN_STAT_WAITING 0).mapAn (fun a => { a with stopReq := a.run.isSome })

/-- A write of AN_RUN_CTL: START and STOP together act as STOP. -/
def writeRunCtl (v : Word) (s : State) : State :=
  let s1 := s.writeByType AN_RUN_CTL v
  if bits v.toNat 1 1 = 1 then doAnStop s1 else if bits v.toNat 0 1 = 1 then doAnStart s1 else s1

/-- What a run takes at its start. -/
def takeRun (s : State) : AnRun :=
  let en := anEnabled s
  { num := s.an.runNum + 1, first := s.frame, periods := s.fld AN_RUN_CTL AN_RUN_CTL_PERIODS + 1, drvs := en,
    sns := (List.range 128).filter (fun p => s.flag (SNS_n_CFG p) SNS_n_CFG_EN),
    mics := ((List.range 16).filter (fun m => s.flag (AN_MIC_m_CFG m) AN_MIC_m_CFG_EN)).map
      (fun m => (m, s.fld (AN_MIC_m_CFG m) AN_MIC_m_CFG_LAG0)),
    lmic := en.map (fun n => (n, anLmic s n)), codes := en.map (fun n => (n, anCode s n)), mem := anMemReg s,
    notDriven := en.filter (fun n => tget 0 s.an.good n = 0 || decide (s.frame < tget 0 s.an.good n - 1 + 4096) ||
      decide (codeInUse s n ≠ anCode s n)),
    ovl := [], clip := [], quiet := s.an.mode = 2, modeChg := false, truncated := false, refcap := false, acc := [] }

/-- A run begins in the current frame. -/
def beginRun (s : State) : State :=
  let r := takeRun s
  let s1 := (s.setFlds AN_RUN_STAT [(AN_RUN_STAT_WAITING, 0), (AN_RUN_STAT_RUNNING, 1), (AN_RUN_STAT_RUN, r.num % 65536)])
  let s2 := (s1.setReg AN_START_LO (BitVec.ofNat 32 s.frame)).setReg AN_START_HI (BitVec.ofNat 32 (s.frame / 2 ^ 32))
  s2.mapAn (fun a => { a with
    run := some r, runNum := r.num % 2 ^ 32, stopReq := false, mem := r.mem,
    codes := (List.range 64).foldl (fun c n => tput n c n (anCode s n)) a.codes, clips := [], ovls := [] })

/-- AN_RUN_BEGIN: at a code boundary at least 4,096 frames after START. -/
def doAnRunBegin (s : State) : State :=
  if s.flag AN_RUN_STAT AN_RUN_STAT_WAITING && decide (s.frame % codeLen = 0) && decide (s.an.startAt + 4096 ≤ s.frame)
  then beginRun s else s

/-- AN_RUN_END: at the last boundary, or at one after STOP. -/
def doAnRunEnd (s : State) : State :=
  match s.an.run with
  | none => s
  | some r =>
    let k := (s.frame - r.first) / codeLen
    let whole := decide (k = r.periods)
    if s.frame % codeLen ≠ 0 || s.frame ≤ r.first || !(whole || s.an.stopReq) then s
    else
      let done : AnRun := { r with
        periods := k, truncated := !whole, clip := s.an.clips, ovl := s.an.ovls,
        refcap := s.flag AN_RUN_CTL AN_RUN_CTL_REFCAP }
      let s1 := (s.setFlds AN_RUN_STAT [(AN_RUN_STAT_RUNNING, 0), (AN_RUN_STAT_PROCESSING, 1)]).mapAn
        (fun a => { a with run := none, proc := some done })
      if whole && s.flag AN_RUN_CTL AN_RUN_CTL_CONT && !s.an.stopReq then beginRun s1
      else s1.mapAn (fun a => { a with stopReq := false })

/-- AN_RUN_ABORT (R198): MODE has become 0 or the exchange stops. -/
def abortRun (s : State) : State :=
  if s.an.run.isSome then
    (s.setFlds AN_RUN_STAT [(AN_RUN_STAT_RUNNING, 0), (AN_RUN_STAT_ABORTED, 1)]).mapAn (fun a => { a with run := none, stopReq := false })
  else s

/-- Channel `n`'s block carries its probe and no other's (R197). -/
def blockGood (s : State) (n : Nat) : Bool :=
  s.flag (AN_DRV_n_STAT n) AN_DRV_n_STAT_INJ && !s.flag (DRV_n_STAT n) DRV_n_STAT_MIRRORING

/-- The block that begins at the current frame is noted for R197. -/
def noteBlock (s : State) (n : Nat) : State :=
  if blockGood s n then
    s.mapAn (fun a => { a with good := if tget 0 a.good n = 0 then tput 0 a.good n (s.frame + 1) else a.good })
  else s.mapAn (fun a => { a with
    good := tput 0 a.good n 0
    run := a.run.map (fun r => { r with notDriven := if r.notDriven.contains n then r.notDriven else n :: r.notDriven }) })

/-- The configuration of R194 takes effect. -/
def takeLaw (s : State) : State :=
  let m := anMode s
  s.mapAn (fun a => { a with
    mode := m, law := s.reg AN_LAW, law2 := s.reg AN_LAW2, bands := s.reg AN_BANDS,
    run := a.run.map (fun r => { r with quiet := r.quiet || m = 2, modeChg := r.modeChg || m ≠ a.mode }) })

/-- Anise at a block tick before the drive channels take their blocks: abort, configuration and injection.
`stops` says that the exchange stops at this tick. -/
def aniseTick (stops : Bool) (s : State) : State :=
  let s1 := takeLaw (if anMode s = 0 || stops then abortRun s else s)
  let before := s1.an.gainNow
  let s2 := s1.mapAn (fun a => { a with gainNow := a.gain })
  (anChannels s2).foldl (injectProbe before) s2

/-- Anise at a block tick after them. -/
def aniseBlock (s : State) : State :=
  levelLaw ((List.range 64).foldl (fun s n => if anEn s n || decide (tget 0 s.an.good n ≠ 0) then noteBlock s n else s) s)

/-! ### Accumulation (R188, R189, R196) -/

/-- Enabled pairs with their drive channel and first lag. -/
def pairsOf (r : AnRun) : List (Nat × Nat × Nat) :=
  ((r.sns.filter (fun p => r.drvs.contains (p / 2))).map (fun p => (p, p / 2, 0))) ++
  r.mics.flatMap (fun m => r.drvs.map (fun n => (128 + 64 * m.1 + n, n, m.2)))

/-- Adds the input `x` of frame `F` to the sums of one pair. -/
def accPair (r : AnRun) (F : Nat) (x : Int) (e : Nat × Nat × Nat) (acc : List (Nat × Int)) : List (Nat × Int) :=
  if x = 0 then acc
  else
    (List.range 4096).foldl (fun a j =>
      let k := 4096 * e.1 + j
      tput 0 a k (tget 0 a k + x * chipSign (tget e.2.1 r.codes e.2.1) ((F : Int) - (e.2.2 + j : Nat)))) acc

/-- The inputs of frame `F` go into the run. -/
def anFrame (F : Nat) (tap : Nat → Word) (s : State) : State :=
  match s.an.run with
  | none => s
  | some r =>
    if F < r.first ∨ r.first + r.periods * codeLen ≤ F then s
    else
      let acc := (pairsOf r).foldl (fun a e =>
        let x := if e.1 < 128 then tget 0 s.senseNow e.1 else tap (64 + (e.1 - 128) / 64)
        accPair r F (sext 32 x.toNat) e a) r.acc
      s.mapAn (fun a => { a with run := some { r with acc := acc } })

/-! ### Results (R199 to R206) -/

def respAddr (mem p : Nat) : Nat := mem + 0x4000 * p
def refRespAddr (mem p : Nat) : Nat := mem + 0x1200000 + 0x4000 * p
def sumAddr (mem p : Nat) : Nat := mem + 0x2400000 + 0x40 * p
def refSumAddr (mem p : Nat) : Nat := mem + 0x2412000 + 0x40 * p

/-- x < a / b for a binary32 value; false for a NaN. -/
def f32lt (x : Nat) (a : Int) (b : Nat) : Bool :=
  match fdecode f32 false x with
  | .nan _ _ => false
  | .inf neg => neg
  | .fin neg m e =>
    let i : Int := (if neg then -(m : Int) else m) * b
    if 0 ≤ e then decide (i * (2 ^ e.toNat : Nat) < a) else decide (i < a * (2 ^ (-e).toNat : Nat))

/-- a / b < |x|. -/
def f32absGt (x : Nat) (a b : Nat) : Bool :=
  match fdecode f32 false x with
  | .nan _ _ => false
  | .inf _ => true
  | .fin _ m e => if 0 ≤ e then decide (a < m * b * 2 ^ e.toNat) else decide (a * 2 ^ (-e).toNat < m * b)

/-- The computed part of a summary: free values where the spec's arithmetic is not given. -/
structure Measured where
  rho : Nat
  dlev : Nat
  bands : Nat
  snr : Nat
  plev : Nat
  winE : Nat
  tailE : Nat

/-- The verdict of a pair (R204). -/
def verdictOf (s : State) (r : AnRun) (p n : Nat) (m : Measured) (refFlags refBands : Nat) : Nat :=
  if r.notDriven.contains n then 1
  else if p < 128 && r.ovl.contains p then 2
  else if refFlags % 2 = 0 then 3
  else if popcount 31 (m.bands &&& refBands) < s.fld AN_VERD2 AN_VERD2_BAND_MIN then 4
  else if f32lt m.snr (s.fld AN_VERD2 AN_VERD2_SNR_MIN) 1 then 5
  else if f32lt m.rho (s.fld AN_VERD AN_VERD_RHO_FAIL) 1000 || f32absGt m.dlev (s.fld AN_VERD2 AN_VERD2_LEV_FAIL) 10 then 6
  else if !f32lt m.rho (s.fld AN_VERD AN_VERD_RHO_PASS) 1000 && !f32absGt m.dlev (s.fld AN_VERD2 AN_VERD2_LEV_TOL) 10 then 7
  else 8

/-- Writes little-endian fields: offset, size, value. -/
def putFields (port base : Nat) (s : State) (l : List (Nat × Nat × Nat)) : State :=
  l.foldl (fun s e => memPut port s (base + e.1) e.2.1 e.2.2) s

/-- The largest magnitude of a response and the first lag that has it. -/
def peakOf (l : List Nat) : Nat × Nat :=
  (l.zipIdx).foldl (fun (b : Nat × Nat) e => if b.1 < e.1 % 2 ^ 31 then (e.1 % 2 ^ 31, e.2) else b) (0, 0)

/-- FLAGS of a result (R201). -/
def runFlags (r : AnRun) (p n : Nat) : Nat :=
  1 + 2 * b2n (r.clip.contains n) + 4 * b2n (p < 128 && r.ovl.contains p) + 8 * b2n r.quiet + 16 * b2n r.modeChg +
    32 * b2n r.truncated

/-- Copies response and summary of a pair to the reference area (R205). -/
def captureRef (r : AnRun) (p n : Nat) (m : Measured) (s : State) : State :=
  let s1 := (engWrite 30 s (refRespAddr r.mem p) (s.bytes (respAddr r.mem p) 16384)).2
  let s2 := (engWrite 30 s1 (refSumAddr r.mem p) (s1.bytes (sumAddr r.mem p) 64)).2
  let s3 := putFields 30 (refSumAddr r.mem p) s2 [(2, 1, 0)]
  if 128 ≤ p ∧ (p - 128) / 64 = tget 0 r.lmic n then
    (List.range 31).foldl (fun s b =>
      let a := r.mem + 0x2424000 + 0x80 * n + 4 * b
      if bits m.bands b 1 = 1 then (memPut 30 s a 4 (s.free .anResult % 2 ^ 32)).freeNext else memPut 30 s a 4 0x7FC00000) s3
  else s3

/-- Verdicts that REFCAP captures. -/
def captures (v : Nat) : Bool := v = 3 || (5 ≤ v && v ≤ 8)

def setVerdict (p v : Nat) (s : State) : State :=
  if p < 128 then s.setFld (AN_DRV_n_VERD (p / 2)) (if p % 2 = 0 then AN_DRV_n_VERD_VS else AN_DRV_n_VERD_IS) v else s

/-- The summary of a pair, its RUN field last. -/
def writeSummary (r : AnRun) (p : Nat) (l : List (Nat × Nat × Nat)) (s : State) : State :=
  putFields 30 (sumAddr r.mem p) s ([(0, 2, p), (8, 8, r.first), (0x10, 4, r.periods), (0x38, 8, 0)] ++ l ++ [(4, 4, r.num)])

/-- The result of an enabled pair. -/
def pairResult (r : AnRun) (s : State) (e : Nat × Nat × Nat) : State :=
  let p := e.1
  let n := e.2.1
  let f := fun (i : Nat) => (Config.freeValue .anResult (s.freeCtr + i)).toNat
  let corr := (List.range 4096).map (fun j => tget 0 r.acc (4096 * p + j))
  let resp := (List.range 4096).map (fun j => (Config.response corr s.freeCtr j).toNat)
  let m : Measured := ⟨f 0 % 2 ^ 32, f 1 % 2 ^ 32, f 2 % 2 ^ 31, f 3 % 2 ^ 32, f 4 % 2 ^ 32, f 5 % 2 ^ 32, f 6 % 2 ^ 32⟩
  let s0 := { s with freeCtr := s.freeCtr + 7 }
  let refF := memNum 30 s0 (refSumAddr r.mem p + 3) 1
  let refB := memNum 30 refF.2 (refSumAddr r.mem p + 0x24) 4
  let v := verdictOf s r p n m refF.1 refB.1
  let s1 := (engWrite 30 refB.2 (respAddr r.mem p) (resp.flatMap (leBytes 4))).2
  let pk := peakOf resp
  let s2 := writeSummary r p [(2, 1, v), (3, 1, runFlags r p n), (0x14, 4, m.rho), (0x18, 4, pk.1), (0x1C, 2, pk.2),
    (0x1E, 2, tget n r.codes n), (0x20, 4, m.dlev), (0x24, 4, m.bands), (0x28, 4, m.snr), (0x2C, 4, m.plev),
    (0x30, 4, m.winE), (0x34, 4, m.tailE)] s1
  let s3 := if r.refcap && captures v then captureRef r p n m s2 else s2
  let s4 := setVerdict p v s3
  if v = 6 then (s4.setFld AN_FAIL_CNT AN_FAIL_CNT_FAIL (s4.fld AN_FAIL_CNT AN_FAIL_CNT_FAIL + 1)).setFld AN_RUN_STAT AN_RUN_STAT_FAIL_SEEN 1
  else if v = 8 then (s4.setFld AN_FAIL_CNT AN_FAIL_CNT_DEGRADED (s4.fld AN_FAIL_CNT AN_FAIL_CNT_DEGRADED + 1)).setFld AN_RUN_STAT AN_RUN_STAT_DEGR_SEEN 1
  else s4

/-- The summary of a pair that is not enabled: VERDICT NONE. -/
def emptyResult (r : AnRun) (s : State) (p : Nat) : State :=
  setVerdict p 0 (writeSummary r p [(2, 2, 0), (0x14, 36, 0)] s)

/-- AN_PROCESSING_DONE. -/
def doAnProcessingDone (s : State) : State :=
  match s.an.proc with
  | none => s
  | some r =>
    let en := pairsOf r
    let off := (List.range 1152).filter (fun p => !en.any (fun e => e.1 = p))
    let s1 := off.foldl (emptyResult r) (en.foldl (pairResult r) (s.setReg AN_FAIL_CNT 0))
    let s2 := if r.refcap then s1.setFld AN_RUN_CTL AN_RUN_CTL_REFCAP 0 else s1
    (s2.setFlds AN_RUN_STAT [(AN_RUN_STAT_PROCESSING, 0), (AN_RUN_STAT_DONE, 1)]).mapAn (fun a => { a with proc := none })

end Sys2Proof.Machine
end

