-- ==== Sys2Proof/Machine/CpuAlu.lean ====
section
/-! DEFINITION. Arithmetic of Clove and Sumac at their cell width (R308, R310).
Choices and readings: log entry 30. -/

namespace Sys2Proof.Machine

/-- A result with its effects on STATUS: the new C where the operation sets it, and what it raises. -/
structure AluOut where
  r : Nat
  c : Option Nat
  ov : Bool
  dz : Bool
  deriving DecidableEq, Repr

def aluPlain (r : Nat) : AluOut := { r := r, c := none, ov := false, dz := false }

/-- Saturation to the unsigned range. -/
def satU (w : Nat) (i : Int) : Int := if i < 0 then 0 else if (2 ^ w : Nat) ≤ i then (2 ^ w : Nat) - 1 else i

/-- A signed exact result, wrapped or saturated, with OV when it does not fit. -/
def aluFit (w : Nat) (sat : Bool) (i : Int) : AluOut :=
  { r := unsext w (if sat then satS w i else i), c := none, ov := !fitsS w i, dz := false }

def aluFitU (w : Nat) (i : Int) : AluOut :=
  { r := unsext w (satU w i), c := none, ov := decide (satU w i ≠ i), dz := false }

/-- ADD, SUB, ADDC and SUBB: the sum or difference with `cin`, setting C; `v` when overflow sets OV. -/
def aluAdd (w : Nat) (sub : Bool) (cin : Nat) (v : Bool) (x y : Nat) : AluOut :=
  let u : Int := if sub then (x : Int) - y - cin else (x : Int) + y + cin
  let sg : Int := if sub then sext w x - sext w y - cin else sext w x + sext w y + cin
  { r := unsext w u, c := some (b2n (decide (u < 0 ∨ (2 ^ w : Nat) ≤ u))), ov := v && !fitsS w sg, dz := false }

/-- MUL, MULH, MULHU. -/
def aluMul (w : Nat) (x y : Nat) : AluOut :=
  { r := unsext w (sext w x * sext w y), c := none, ov := !fitsS w (sext w x * sext w y), dz := false }

def aluMulH (w : Nat) (x y : Nat) : AluOut := aluPlain (unsext w ((sext w x * sext w y).fdiv (2 ^ w : Nat)))
def aluMulHU (w : Nat) (x y : Nat) : AluOut := aluPlain (x * y / 2 ^ w % 2 ^ w)

/-- DIV and DIVS. -/
def aluDiv (w : Nat) (sat : Bool) (x y : Nat) : AluOut :=
  if y = 0 then { r := if sext w x < 0 then 2 ^ (w - 1) else 2 ^ (w - 1) - 1, c := none, ov := false, dz := true }
  else aluFit w sat ((sext w x).tdiv (sext w y))

def aluDivU (w : Nat) (x y : Nat) : AluOut :=
  if y = 0 then { r := 2 ^ w - 1, c := none, ov := false, dz := true } else aluPlain (x / y)

def aluMod (w : Nat) (x y : Nat) : AluOut :=
  if y = 0 then { r := x, c := none, ov := false, dz := true } else aluPlain (unsext w ((sext w x).tmod (sext w y)))

def aluModU (_w : Nat) (x y : Nat) : AluOut :=
  if y = 0 then { r := x, c := none, ov := false, dz := true } else aluPlain (x % y)

/-- The shift amount: bits [7:0] of the cell. -/
def shAmt (n : Nat) : Nat := n % 256

/-- SHL; a lost bit sets OV as in R103 (notes/assumptions/30.md). -/
def aluShl (w : Nat) (x n : Nat) : AluOut :=
  if w ≤ shAmt n then { r := 0, c := none, ov := decide (x ≠ 0), dz := false }
  else aluFit w false (sext w x * (2 ^ shAmt n : Nat))

def aluShls (w : Nat) (x n : Nat) : AluOut :=
  if w ≤ shAmt n then
    (if x = 0 then aluPlain 0
     else { r := if sext w x < 0 then 2 ^ (w - 1) else 2 ^ (w - 1) - 1, c := none, ov := true, dz := false })
  else aluFit w true (sext w x * (2 ^ shAmt n : Nat))

def aluLsr (w : Nat) (x n : Nat) : AluOut := aluPlain (if w ≤ shAmt n then 0 else x / 2 ^ shAmt n)

def aluAsr (w : Nat) (x n : Nat) : AluOut := aluPlain (unsext w ((sext w x).fdiv (2 ^ min (shAmt n) w : Nat)))

/-- The two-operand and one-operand arithmetic opcodes of R308 on `x y` (a one-operand opcode takes `y`). -/
def aluOp (w op x y c : Nat) : AluOut :=
  match op with
  | 0x10 => aluAdd w false 0 true x y
  | 0x11 => aluFit w true (sext w x + sext w y)
  | 0x12 => aluFitU w ((x : Int) + y)
  | 0x13 => aluAdd w false c false x y
  | 0x14 => aluAdd w true 0 true x y
  | 0x15 => aluFit w true (sext w x - sext w y)
  | 0x16 => aluFitU w ((x : Int) - y)
  | 0x17 => aluAdd w true c false x y
  | 0x18 => aluFit w false (-(sext w y))
  | 0x19 => aluFit w true (-(sext w y))
  | 0x1A => aluFit w false (if sext w y < 0 then -(sext w y) else sext w y)
  | 0x1B => aluFit w true (if sext w y < 0 then -(sext w y) else sext w y)
  | 0x1C => aluMul w x y
  | 0x1D => aluMulH w x y
  | 0x1E => aluMulHU w x y
  | 0x20 => aluDiv w false x y
  | 0x21 => aluDiv w true x y
  | 0x22 => aluDivU w x y
  | 0x23 => aluMod w x y
  | 0x24 => aluModU w x y
  | 0x28 => aluPlain (x &&& y)
  | 0x29 => aluPlain (x ||| y)
  | 0x2A => aluPlain (x ^^^ y)
  | 0x2B => aluPlain (2 ^ w - 1 - y)
  | 0x2C => aluShl w x y
  | 0x2D => aluShls w x y
  | 0x2E => aluLsr w x y
  | 0x2F => aluAsr w x y
  | 0x30 => aluPlain (b2n (x = y))
  | 0x31 => aluPlain (b2n (decide (sext w x < sext w y)))
  | 0x32 => aluPlain (b2n (decide (x < y)))
  | _ => aluPlain (b2n (y = 0))

/-- Opcodes of `aluOp` that take one operand: NEG, NEGS, ABS, ABSS, NOT, ZEQ. -/
def aluUnary (op : Nat) : Bool := (0x18 ≤ op && op ≤ 0x1B) || op = 0x2B || op = 0x33

/-- Opcodes that are arithmetic of two or one cells. -/
def aluIs (op : Nat) : Bool :=
  (0x10 ≤ op && op ≤ 0x1E) || (0x20 ≤ op && op ≤ 0x24) || (0x28 ≤ op && op ≤ 0x33)

end Sys2Proof.Machine
end

