-- ==== Sys2Proof/Machine/Nutmeg.lean ====
section
/-! DEFINITION. Nutmeg, the black box: writing a record (R425 to R427).
Choices and readings: log entry 59. -/

namespace Sys2Proof.Machine
open R

/-- Address of slot `n` of the ring. -/
def bbSlot (n : Nat) : Nat := 0x20002C0000 + 32 * (n % 8192)

/-- The timestamp unit is stopped, or has not been locked since always-on power-up (R425). -/
def bbUnsync (s : State) : Bool := !s.bb.locked || decide (s.phase = 0) || s.flag PM_STAT PM_STAT_STANDBY

/-- A record counts as lost (R426, R427). -/
def bbLose (s : State) : State :=
  if (s.reg BB_LOST).toNat + 1 < 2 ^ 32 then s.setReg BB_LOST (s.reg BB_LOST + 1) else s

/-- The 32 bytes of a record (R425). -/
def bbRecord (s : State) (source code : Nat) (args : List Nat) : List Byte :=
  leBytes 8 (s.timeNs % 2 ^ 63 + b2n (bbUnsync s) * 2 ^ 63) ++ leBytes 2 source ++ leBytes 2 code ++
    leBytes 4 (s.reg BB_SEQ).toNat ++
    leBytes 4 (args.getD 0 0) ++ leBytes 4 (args.getD 1 0) ++ leBytes 4 (args.getD 2 0) ++ leBytes 4 (args.getD 3 0)

/-- After a record is written: a fatal one triggers while armed; the last of the POST records freezes (R427). -/
def bbAfter (code : Nat) (seq : Word) (s : State) : State :=
  match s.bb.post with
  | some (n + 1) =>
    if n = 0 then ({ s with bb := { s.bb with post := none } }).setFld BB_STAT BB_STAT_FROZEN 1
    else { s with bb := { s.bb with post := some n } }
  | _ =>
    if 32768 ≤ code ∧ s.flag BB_STAT BB_STAT_ARMED then
      let s1 := (s.setReg BB_TRIG_SEQ seq).setFld BB_STAT BB_STAT_ARMED 0
      let p := s.fld BB_CTL BB_CTL_POST
      if p = 0 then s1.setFld BB_STAT BB_STAT_FROZEN 1 else { s1 with bb := { s1.bb with post := some p } }
    else s

/-- A record is offered (R426, R427): its SOURCE, its CODE with FATAL in bit 15, and its ARGS. -/
def nutmeg (source code : Nat) (args : List Nat) (s : State) : State :=
  let seq := s.reg BB_SEQ
  if s.flag BB_STAT BB_STAT_FROZEN then (bbLose s).setReg BB_SEQ (seq + 1)
  else bbAfter code seq ((s.setBytes (bbSlot seq.toNat) (bbRecord s source code args)).setReg BB_SEQ (seq + 1))

end Sys2Proof.Machine
end

