-- ==== Sys2Proof/Machine/CpuBase.lean ====
section
/-! DEFINITION. Clove and the Sumac processors (chapter 13): stacks, traps, interrupt entry, events and
machine checks. Processor 8c + p is Sumac processor p of cluster c; processor 96 is Clove.
Choices and readings: log entries 17, 38 and 39. -/

namespace Sys2Proof.Machine
open R

/-! ### Access -/

def clove : Nat := 96

def State.proc (s : State) (p : Nat) : Cpu := tget Cpu.reset s.cpu p
def State.setProc (s : State) (p : Nat) (c : Cpu) : State := { s with cpu := tput Cpu.reset s.cpu p c }
def State.mapProc (s : State) (p : Nat) (f : Cpu → Cpu) : State := s.setProc p (f (s.proc p))

def State.mapCtl (s : State) (f : Ctl → Ctl) : State := { s with ctl := f s.ctl }

/-- Cell width, operand stack and return stack capacity. -/
def cellW (p : Nat) : Nat := if p = clove then 16 else 8
def osCap (p : Nat) : Nat := if p = clove then 32 else 16
def rsCap (p : Nat) : Nat := if p = clove then 32 else 8

/-- Width of a program address (the modulus of R309 on Sumac). -/
def pcW (p : Nat) : Nat := if p = clove then 24 else 12

/-- The register whose field [2:0] is STATE. -/
def procStat (p : Nat) : Nat := if p = clove then CV_STAT else SU_c_p_STAT (p / 8) (p % 8)
def procSt (s : State) (p : Nat) : Nat := s.fld (procStat p) ⟨0, 3⟩
def setProcSt (s : State) (p st : Nat) : State := s.setFld (procStat p) ⟨0, 3⟩ st

/-- RSWRAP of the processor. -/
def rsWrap (s : State) (p : Nat) : Bool :=
  if p = clove then s.flag CV_CTL CV_CTL_RSWRAP else s.flag (SU_c_p_CTL (p / 8) (p % 8)) SU_c_p_CTL_RSWRAP

/-- A special register that holds a value. -/
def Cpu.sp (c : Cpu) (n : Nat) : Nat := tget 0 c.spr n
def Cpu.setSp (c : Cpu) (n v : Nat) : Cpu := { c with spr := tput 0 c.spr n v }

/-- Bits of STATUS: 0 C, 1 OV, 2 DZ, 3 DZ_TRAP, 4 RS_WRAPPED, 5 IE, 6 IN_TRAP. -/
def Cpu.stBit (c : Cpu) (i : Nat) : Nat := bits c.status i 1
def Cpu.setSt (c : Cpu) (i v : Nat) : Cpu := { c with status := setBits c.status i 1 v }

/-- A debugger holds the processor: the condition DBG of R333 (R420). -/
def dbgHeld (s : State) (p : Nat) : Bool :=
  if p = clove then s.flag DBG_CV_CTL DBG_CV_CTL_HOLD
  else bits (s.reg (DBG_SU_HOLD_i (p / 32))).toNat (p % 32) 1 = 1

/-- The clock of processor `p` runs: Clove's cannot be stopped. -/
def procClock (s : State) (p : Nat) : Bool := p = clove || clockOn s (14 + p / 8)

/-! ### Stacks (R306, R331) -/

/-- Top cells of the operand stack; an absent cell reads 0. -/
def Cpu.cell (c : Cpu) (i : Nat) : Nat := c.os.getD i 0

/-- A push beyond the capacity overwrites the top cell (R331). -/
def osPush (cap : Nat) (os : List Nat) (v : Nat) : List Nat :=
  if os.length < cap then v :: os else v :: os.drop 1

/-- Replaces the `n` top cells by `vs`, the new top first. -/
def Cpu.replace (c : Cpu) (cap n : Nat) (vs : List Nat) : Cpu :=
  { c with os := vs.reverse.foldl (osPush cap) (c.os.drop n) }

/-- A return stack push fails: the stack is full and RSWRAP is 0. -/
def rsFull (s : State) (p : Nat) : Bool := decide (rsCap p ≤ (s.proc p).rs.length) && !rsWrap s p

/-- A return stack push (R306): at full depth it overwrites the oldest entry. -/
def Cpu.rsPush (c : Cpu) (cap : Nat) (e : Nat × Nat) : Cpu :=
  if c.rs.length < cap then { c with rs := e :: c.rs }
  else { (c.setSt 4 1) with rs := e :: c.rs.take (cap - 1) }

/-! ### Machine check (R322) -/

/-- A machine check of Clove: both cores stop, Nutmeg records it, a warm reset is due. -/
def machineCheck (cause pc : Nat) (s : State) : State :=
  if s.ctl.mchk ≠ 0 then s
  else nutmeg 0x100 0x8002 [cause, pc]
    { (s.mapCtl (fun c => { c with mchk := cause })) with rstReq := s.rstReq ++ [6] }

/-! ### Traps (R311, R312, R314) -/

/-- Clove takes a trap of the instruction at `pc`. -/
def cloveTrap (code arg pc : Nat) (s : State) : State :=
  let c := s.proc clove
  if c.stBit 6 = 1 then machineCheck 3 pc s
  else
    let c1 := ((c.setSp 11 (pc % 65536)).setSp 12 (pc / 65536)).setSp 13 (Config.trapCause code (c.stBit 5) arg).toNat
    let c2 := { ((c1.setSt 5 0).setSt 6 1) with pc := c.sp 9 + 65536 * c.sp 10, win := none, u := none }
    setProcSt ((s.setProc clove c2).setReg CV_TRAP (BitVec.ofNat 32 (pc + code * 2 ^ 24))) clove 1

/-- A Sumac processor enters TRAPPED. -/
def sumacTrap (p code arg pc : Nat) (s : State) : State :=
  let s1 := s.mapProc p (fun c => { c with pc := pc, win := none, u := none, waitEv := none, stepping := false })
  setProcSt (s1.setReg (SU_c_p_TRAP (p / 8) (p % 8)) (BitVec.ofNat 32 (pc % 4096 + code * 4096 + arg % 256 * 65536))) p 4

/-- The trap `code` of the instruction at `pc`, with the immediate of TRAP. -/
def procTrap (p code arg pc : Nat) (s : State) : State :=
  if p = clove then cloveTrap code arg pc s else sumacTrap p code arg pc s

/-! ### Instruction boundaries (R313, R334, R420) -/

/-- Nothing of an instruction is under way. -/
def atBoundary (s : State) (p : Nat) : Bool :=
  (s.proc p).win.isNone && (s.proc p).u.isNone && (s.proc p).waitEv.isNone &&
    (p ≠ clove || s.ctl.xipWait.isNone)

/-- Clove accepts the presentation held for target 48. -/
def cloveAccepts (s : State) : Bool :=
  procSt s clove = 1 && s.ctl.mchk = 0 && atBoundary s clove && pres s 48 ≠ 0 && (s.proc clove).stBit 5 = 1 &&
    (s.proc clove).stBit 6 = 0

/-- The entry of R313. -/
def cloveEntry (s : State) : State :=
  let c := s.proc clove
  if rsFull s clove then cloveTrap 3 0 c.pc s
  else s.setProc clove { ((c.rsPush 32 (c.pc, c.stBit 5)).setSt 5 0) with pc := c.sp 7 + 65536 * c.sp 8 }

/-- Number of the bank that is active, and of the load bank (R338). -/
def activeBank (s : State) : Nat := s.fld MC_CV_STAT MC_CV_STAT_BANK
def loadBank (s : State) : Nat := 1 - activeBank s

/-- A dispatch of Clove makes the load bank and its table active when a swap is pending (R338). -/
def dispatchSwap (p : Nat) (s : State) : State :=
  if p = clove ∧ s.flag MC_CV_STAT MC_CV_STAT_SWAP_PEND then
    (s.setFld MC_CV_STAT MC_CV_STAT_BANK (loadBank s)).setFld MC_CV_STAT MC_CV_STAT_SWAP_PEND 0
  else s

/-- What follows an instruction: a requested halt, a pending swap, an accepted presentation. -/
def boundary (p : Nat) (s : State) : State :=
  if procSt s p ≠ 1 ∨ ¬ atBoundary s p then s
  else if (s.proc p).haltReq || (s.proc p).stepping then
    setProcSt (s.mapProc p (fun c => { c with haltReq := false, stepping := false })) p 3
  else
    let s1 := dispatchSwap p s
    if p = clove ∧ cloveAccepts s1 then cloveEntry s1 else s1

/-- Clove asleep in WAIT goes on when a presentation is held (R313). -/
def cloveWake (s : State) : State :=
  if procSt s clove = 2 ∧ pres s 48 ≠ 0 ∧ s.ctl.mchk = 0 then boundary clove (setProcSt s clove 1) else s

/-! ### Events of the Sumac processors (R315) -/

/-- The event bits that end a WAITEV, or that EVT of R333 tests. -/
def evMatch (c : Cpu) (imm : Nat) : Nat := c.sp 12 &&& c.sp 11 &&& imm

/-- A WAITEV in progress ends once its value is not 0. -/
def evWake (p : Nat) (s : State) : State :=
  match (s.proc p).waitEv with
  | some i =>
    let c := s.proc p
    let v := evMatch c i
    if v = 0 then s
    else boundary p (setProcSt (s.setProc p { ((c.replace 16 0 [v]).setSp 12 (c.sp 12 - v)) with waitEv := none }) p 1)
  | none => s

/-- Event bit `b` of processor `p` is set. -/
def evSet (p b : Nat) (s : State) : State :=
  evWake p (s.mapProc p (fun c => c.setSp 12 (setBits (c.sp 12) b 1 1)))

/-- The table of processors with event bit `b` set in each Sumac processor from `k` on, in one pass. -/
def evFill (b : Nat) : Nat → Nat → List (Nat × Cpu) → List (Nat × Cpu)
  | 0, _, t => t
  | n + 1, k, t =>
    let set := fun c : Cpu => c.setSp 12 (setBits (c.sp 12) b 1 1)
    match t with
    | [] => (k, set Cpu.reset) :: evFill b n (k + 1) []
    | (j, c) :: r => if j = k then (k, set c) :: evFill b n (k + 1) r else (k, set Cpu.reset) :: evFill b n (k + 1) t

/-- Sumac processors that wait in WAITEV. -/
def evWaiting (s : State) : List Nat :=
  s.cpu.filterMap (fun e => if e.1 < 96 ∧ e.2.waitEv.isSome then some e.1 else none)

/-- An event of every Sumac processor. -/
def evAll (b : Nat) (s : State) : State :=
  let s1 := { s with cpu := evFill b 96 0 s.cpu }
  s1.each (evWaiting s1) (fun s p => evWake p s)

/-- Watch entry `w` of the queue manager becomes pending: event bit 5 of the processors whose EVQ names it. -/
def evWatch (w : Nat) (s : State) : State :=
  s.each (List.range 96) (fun s p =>
    let a := SU_c_p_EVQ (p / 8) (p % 8)
    if s.flag a SU_c_p_EVQ_EN ∧ s.fld a SU_c_p_EVQ_W = w then evSet p 5 s else s)

/-- Only Clove and the debug access port write these registers. -/
def cloveOrDap (ag : Agent) : Bool := ag = .clove || ag = .dap

/-- A write of SU_c_p_DOORBELL, and SUMAC_DOORBELL. -/
def writeSuDoorbell (ag : Agent) (p : Nat) (v : Word) (s : State) : State :=
  if !cloveOrDap ag then s
  else
    let s1 := s.writeByType (SU_c_p_DOORBELL (p / 8) (p % 8)) v
    if bits v.toNat 0 1 = 1 then evSet p 3 s1 else s1

def doSumacDoorbell (ag : Agent) (p : Nat) (s : State) : State := writeSuDoorbell ag p 1 s

/-- SUMAC_TIMER_EXPIRY and IO_UNIT_READY. -/
def doSumacTimerExpiry (p : Nat) (s : State) : State :=
  if (s.proc p).sp 13 + 256 * (s.proc p).sp 14 = 0 then s else evSet p 2 s

def doIoUnitReady (p : Nat) (s : State) : State := evSet p 4 s

/-! ### Processor control (R325) -/

/-- Memories of Sumac processor `p`. -/
def suProg (p : Nat) : Nat := 0x2000100000 + 0x2000 * p
def suData (p : Nat) : Nat := 0x2000101000 + 0x2000 * p

def sumacStart (p : Nat) (s : State) : State :=
  if procSt s p = 0 then setProcSt (s.mapProc p (fun c => { c with pc := 0 })) p 1
  else if procSt s p = 3 then setProcSt s p 1
  else s

/-- HALT: at once at a boundary, else remembered. -/
def sumacHalt (p : Nat) (s : State) : State :=
  if procSt s p = 1 ∨ procSt s p = 2 then boundary p (s.mapProc p (fun c => { c with haltReq := true })) else s

def sumacReset (p : Nat) (s : State) : State := setProcSt (s.setProc p Cpu.reset) p 0

/-- A write of SU_c_p_CTL. -/
def writeSuCtl (ag : Agent) (p : Nat) (v : Word) (s : State) : State :=
  if !cloveOrDap ag then s
  else
    let s1 := s.writeByType (SU_c_p_CTL (p / 8) (p % 8)) v
    let s2 := if bits v.toNat 0 1 = 1 then sumacStart p s1 else s1
    let s3 := if bits v.toNat 1 1 = 1 then sumacHalt p s2 else s2
    if bits v.toNat 2 1 = 1 then sumacReset p s3 else s3

/-- SUMAC_START, SUMAC_HALT and SUMAC_RESET: a write of the one bit, with RSWRAP as it is. -/
def suCtlBit (s : State) (p b : Nat) : Word := BitVec.ofNat 32 (2 ^ b + 8 * b2n (rsWrap s p))

def doSumacStart (ag : Agent) (p : Nat) (s : State) : State := writeSuCtl ag p (suCtlBit s p 0) s
def doSumacHalt (ag : Agent) (p : Nat) (s : State) : State := writeSuCtl ag p (suCtlBit s p 1) s
def doSumacReset (ag : Agent) (p : Nat) (s : State) : State := writeSuCtl ag p (suCtlBit s p 2) s

/-- SUMAC_MEMORY_WRITE: a 32-bit fabric write at byte `off` of the 8 KiB of processor `p`. -/
def doSumacMemoryWrite (p off : Nat) (v : Word) (s : State) : State :=
  let st := procSt s p
  if st = 0 ∨ st = 3 ∨ st = 4 then s.setNum (suProg p + off / 4 * 4) 4 v.toNat
  else s.setFld (SU_c_p_STAT (p / 8) (p % 8)) SU_c_p_STAT_LOAD_DISCARD 1

end Sys2Proof.Machine
end

