-- ==== Sys2Proof/Machine/Ucode.lean ====
section
/-! DEFINITION. Control stores, decode tables and ROM patches as memories (R299, R316 to R319, R327 to R329,
R337 to R339).
Choices and readings: log entries 39 and 41. -/

namespace Sys2Proof.Machine
open R

/-! ### Numbers of the groups and entries -/

/-- Group `g` of word `w` of Clove bank `b`, and of the store of Sumac cluster `c`. -/
def csClove (b w g : Nat) : Nat := (b * 2048 + w) * 4 + g
def csSumac (c w g : Nat) : Nat := 16384 + (c * 1024 + w) * 4 + g

/-- Decode table entry `e` of Clove bank `b`, and of Sumac cluster `c`. -/
def dtClove (b e : Nat) : Nat := 65536 + 256 * b + e
def dtSumac (c e : Nat) : Nat := 66048 + 256 * c + e

/-- The value with its parity bit: the number of 1 bits becomes odd (R328). -/
def withParity (v : Nat) : Nat := v % 2 ^ 32 + (1 - parity 32 v) * 2 ^ 32

def parityOk (v : Nat) : Bool := parity 33 v = 1

/-- Width of a group: 16 bits for Clove's group 3; a Sumac word has none there. -/
def groupW (key : Nat) : Nat := if key % 4 ≠ 3 then 32 else if key < 16384 then 16 else 0

/-- A word of the microcode ROM, whose images the spec does not list. -/
def romImage (key w : Nat) : Nat := withParity ((Config.freeValue .rom (2 ^ 20 + key)).toNat % 2 ^ w)

/-- What an unlisted group or entry holds: the ROM image in a bank that was copied, undefined contents in a store
(R327), and 0 in a table. -/
def ucodeDefault (rom : List Nat) (key : Nat) : Nat :=
  if key < 65536 then
    if key < 16384 ∧ rom.contains (key / 8192) then romImage (key % 8192) (groupW key)
    else if groupW key = 0 then 0
    else
      let v := (Config.freeValue .powerUp (2 ^ 40 + key)).toNat
      v % 2 ^ groupW key + bits v 40 1 * 2 ^ 32
  else if key < 66048 ∧ rom.contains ((key - 65536) / 256) then romImage (65536 + key % 256) 32
  else withParity 0

def ucodeGet (s : State) (key : Nat) : Nat := tget (ucodeDefault s.ctl.romBanks key) s.ctl.ucode key

/-- A write stores the value with its parity bit. -/
def ucodePut (s : State) (key v : Nat) : State :=
  s.mapCtl (fun c => { c with ucode := tput (ucodeDefault c.romBanks key) c.ucode key (withParity v) })

/-! ### Decode tables (R316 to R319) -/

/-- The key of entry `e` that unit `u` reads at a dispatch: clusters 0 to 11, Clove 12. -/
def dtActive (s : State) (u e : Nat) : Nat := if u = 12 then dtClove (activeBank s) e else dtSumac u e

def dtErrReg (u : Nat) : Nat := if u = 12 then CV_DT_ERR else SU_c_DT_ERR u
def dtLocked (s : State) (u : Nat) : Bool :=
  if u = 12 then s.flag CV_CTL CV_CTL_DT_LOCK else s.flag (SU_c_CTL u) SU_c_CTL_DT_LOCK
def custOpen (s : State) (u : Nat) : Bool :=
  if u = 12 then s.flag CV_CTL CV_CTL_CUST_OPEN else s.flag (SU_c_CTL u) SU_c_CTL_CUST_OPEN

/-- A processor of cluster `c` is in a state other than RESET or HALTED. -/
def clusterBusy (s : State) (c : Nat) : Bool :=
  (List.range 8).any (fun p => procSt s (8 * c + p) ≠ 0 && procSt s (8 * c + p) ≠ 3)

/-- Words of unit `u`'s store, and the first word of its customer region (R318). -/
def storeWords (u : Nat) : Nat := if u = 12 then 2048 else 1024
def custFirst (u : Nat) : Nat := if u = 12 then 0x700 else 0x380

/-- Bits of DT_ERR that a write of entry `e` sets: LOCKED, RANGE, CUST_RANGE, BUSY. -/
def dtRefused (s : State) (u e v : Nat) : Nat :=
  let entry := bits v 0 11
  let cust := decide (custFirst u ≤ entry ∧ entry < storeWords u)
  b2n (dtLocked s u) + b2n (decide (bits v 11 2 = 3 ∨ storeWords u ≤ entry)) * 2 +
    b2n (if 0xF0 ≤ e then !custOpen s u || !cust else cust) * 4 + b2n (decide (u < 12) && clusterBusy s u) * 8

/-- Bits of an entry that are kept: all but RSV. -/
def dtKeep (v : Nat) : Nat := bits v 0 19 + bits v 31 1 * 2 ^ 31

/-- DECODE_TABLE_WRITE. Clove's load table is written while MC_CV_CTL.LOCK is 0, as its store (R329, R338). -/
def doDecodeTableWrite (ag : Agent) (u e : Nat) (v : Word) (s : State) : State :=
  if !cloveOrDap ag then s
  else
    let r := dtRefused s u e v.toNat
    if r ≠ 0 then s.setReg (dtErrReg u) (s.reg (dtErrReg u) ||| BitVec.ofNat 32 r)
    else if u = 12 ∧ s.flag MC_CV_CTL MC_CV_CTL_LOCK then s.setFld MC_ERR MC_ERR_WR_LOCKED 1
    else ucodePut s (if u = 12 then dtClove (loadBank s) e else dtSumac u e) (dtKeep v.toNat)

/-- DT_LOCK and CUST_OPEN. -/
def doDtLock (ag : Agent) (u : Nat) (s : State) : State :=
  if !cloveOrDap ag then s
  else if u = 12 then (s.setFld CV_CTL CV_CTL_DT_LOCK 1).setFld CV_CTL CV_CTL_CUST_OPEN 0
  else (s.setFld (SU_c_CTL u) SU_c_CTL_DT_LOCK 1).setFld (SU_c_CTL u) SU_c_CTL_CUST_OPEN 0

def doCustOpen (ag : Agent) (u : Nat) (s : State) : State :=
  if !cloveOrDap ag || dtLocked s u then s
  else if u = 12 then s.setFld CV_CTL CV_CTL_CUST_OPEN 1
  else s.setFld (SU_c_CTL u) SU_c_CTL_CUST_OPEN 1

/-- A write of DT_VER. -/
def writeDtVer (u : Nat) (v : Word) (s : State) : State :=
  if dtLocked s u then s else s.writeByType (if u = 12 then CV_DT_VER else SU_c_DT_VER u) v

/-! ### Control stores (R328, R329, R338) -/

/-- Bits of MC_ERR that a write of word `w` of unit `u`'s store sets: WR_LOCKED, WR_BUSY, WR_CUST. -/
def csRefused (s : State) (u w : Nat) : Nat :=
  b2n (if u = 12 then s.flag MC_CV_CTL MC_CV_CTL_LOCK else s.flag (MC_SU_c_CTL u) MC_SU_c_CTL_LOCK) +
    b2n (decide (u < 12) && clusterBusy s u) * 2 + b2n (decide (custFirst u ≤ w) && !custOpen s u) * 4

def mcErr (b : Nat) (s : State) : State := s.setReg MC_ERR (s.reg MC_ERR ||| BitVec.ofNat 32 b)

/-- CONTROL_STORE_WRITE: word `g` of slot `w` of unit `u`'s store, Clove's in the load bank. -/
def doControlStoreWrite (ag : Agent) (u w g : Nat) (v : Word) (s : State) : State :=
  if !cloveOrDap ag || decide (storeWords u ≤ w) then s
  else
    let r := csRefused s u w
    if r ≠ 0 then mcErr r s
    else
      let key := if u = 12 then csClove (loadBank s) w g else csSumac u w g
      if groupW key = 0 then s else ucodePut s key (v.toNat % 2 ^ groupW key)

/-- BANK_SWAP_REQUEST; a swap is made by the next dispatch. -/
def doBankSwapRequest (ag : Agent) (s : State) : State :=
  if !cloveOrDap ag then s
  else if s.flag MC_CV_CTL MC_CV_CTL_LOCK then mcErr 1 s
  else (s.setFld MC_CV_CTL MC_CV_CTL_SWAP 1).setFld MC_CV_STAT MC_CV_STAT_SWAP_PEND 1

/-- CONTROL_STORE_LOCK. -/
def doControlStoreLock (ag : Agent) (u : Nat) (s : State) : State :=
  if !cloveOrDap ag then s
  else if u = 12 then s.setFld MC_CV_CTL MC_CV_CTL_LOCK 1
  else s.setFld (MC_SU_c_CTL u) MC_SU_c_CTL_LOCK 1

/-- What a fabric read of a slot's word gives: the group, or in word 3 the parity bits with bits [111:96] (R328). A word
with bad parity sets MC_ERR.PERR_READ (R337). -/
def slotWord (get : Nat → Nat) (g : Nat) : Word :=
  if g < 3 then BitVec.ofNat 32 (get g)
  else BitVec.ofNat 32 (get 3 % 65536 + bits (get 0) 32 1 * 2 ^ 28 + bits (get 1) 32 1 * 2 ^ 29 +
    bits (get 2) 32 1 * 2 ^ 30 + bits (get 3) 32 1 * 2 ^ 31)

def slotBad (get : Nat → Nat) (groups : Nat) : Bool := (List.range groups).any (fun g => !parityOk (get g))

def readSlot (get : Nat → Nat) (groups g : Nat) (s : State) : Word × State :=
  (slotWord get g, if slotBad get groups then s.setFld MC_ERR MC_ERR_PERR_READ 1 else s)

/-- A read in the store areas of the MC block at offset `o` (word aligned). -/
def readStore (o : Nat) (s : State) : Word × State :=
  let w := o / 16 % 2048
  let g := o / 4 % 4
  if o < 0x18000 then readSlot (fun g => ucodeGet s (csClove (loadBank s) w g)) 4 g s
  else if o < 0x20000 then readSlot (fun g => ucodeGet s (csClove (activeBank s) w g)) 4 g s
  else if o < 0x50000 then
    readSlot (fun g => ucodeGet s (csSumac ((o - 0x20000) / 0x4000) (o / 16 % 1024) g)) 3 g s
  else if o < 0x58000 then (slotWord (fun g => romImage (csClove 0 w g) (groupW (csClove 0 w g))) g, s)
  else if o < 0x5C000 then
    (slotWord (fun g => if g = 3 then 0 else romImage (csSumac 0 (o / 16 % 1024) g) 32) g, s)
  else (0, s)

/-- A read of CV_DT_e: the load bank's table while MC_CV_CTL.LOCK is 0 (R338); which one after that is left open. -/
def readCvDt (e : Nat) (s : State) : Word × State :=
  let bank := fun b => BitVec.ofNat 32 (ucodeGet s (dtClove b e))
  if s.flag MC_CV_CTL MC_CV_CTL_LOCK then (bank (s.free .unstated % 2), s.freeNext) else (bank (loadBank s), s)

/-! ### Parity errors (R337) -/

/-- A parity error of unit `u` (12 Clove) found at its fetch. -/
def parityFail (u : Nat) (table : Bool) (addr group pc : Nat) (s : State) : State :=
  let s1 := if s.flag MC_PERR MC_PERR_VALID then s
    else
      let s0 := s.setReg MC_PERR (BitVec.ofNat 32
        (addr % 2048 + u * 2 ^ 12 + b2n table * 2 ^ 16 + group % 4 * 2 ^ 17 + 2 ^ 31))
      nutmeg (0x400 + u) 1 [(s0.reg MC_PERR).toNat] s0
  if u = 12 then machineCheck 4 pc s1
  else (s1.each (List.range 8) (fun s p =>
    if procSt s (8 * u + p) = 1 ∨ procSt s (8 * u + p) = 2 then setProcSt s (8 * u + p) 3 else s)).setFld
      (SU_c_STAT u) SU_c_STAT_MCHK 1

/-! ### ROM and patch RAM (R299, R339) -/

/-- Model address of a word of Clove's RAMs (patch, data and program RAM), by extended word address. -/
def cvMem (w : Nat) : Nat := 2 ^ 44 + 2 * w

/-- Model address of a byte of the boot flash. -/
def flashAddr (b : Nat) : Nat := 2 ^ 43 + b

/-- The patch RAM word that replaces ROM word `a`: the lowest-numbered match that covers it. -/
def romMatch (s : State) (a : Nat) : Option Nat :=
  ((List.range 32).filterMap (fun m =>
    let r := MC_ROMP_m_MATCH m
    let first := s.fld r MC_ROMP_m_MATCH_ADDR
    if s.flag r MC_ROMP_m_MATCH_EN ∧ first ≤ a ∧ a ≤ first + s.fld r MC_ROMP_m_MATCH_LEN then
      some (s.fld r MC_ROMP_m_MATCH_PADDR + (a - first))
    else none)).head?

/-- A word of the mask ROM as fetches and reads see it. -/
def romWord (s : State) (a : Nat) : Nat :=
  match romMatch s a with
  | some k => s.num (cvMem (0xC000 + k)) 2
  | none => (Config.freeValue .rom a).toNat % 65536

/-- The instruction that writes was fetched from the mask ROM or the patch RAM. -/
def fromRom (s : State) (ag : Agent) : Bool := ag = .clove && decide ((s.proc clove).pc < 0xC400)

/-- ROM_PATCH_MATCH_WRITE. -/
def doRomPatchMatchWrite (ag : Agent) (m : Nat) (v : Word) (s : State) : State :=
  if !cloveOrDap ag then s
  else
    let len := bits v.toNat 16 4
    let locked := s.flag MC_ROMP_CTL MC_ROMP_CTL_LOCK || !fromRom s ag
    let range := decide (0xBFFF < bits v.toNat 0 16 + len ∨ 1023 < bits v.toNat 20 10 + len)
    if locked || range then mcErr (b2n locked * 8 + b2n range * 16) s else s.writeByType (MC_ROMP_m_MATCH m) v

/-- PATCH_RAM_WRITE, by Clove. -/
def doPatchRamWrite (w v : Nat) (s : State) : State :=
  if s.flag MC_ROMP_CTL MC_ROMP_CTL_LOCK || !fromRom s .clove then mcErr 8 s else s.setNum (cvMem (0xC000 + w)) 2 v

/-- ROMP_LOCK. -/
def doRompLock (ag : Agent) (s : State) : State :=
  if cloveOrDap ag then s.setFld MC_ROMP_CTL MC_ROMP_CTL_LOCK 1 else s

/-! ### Execute in place (R323, R324) -/

/-- The way of a line's set that holds it. -/
def xipWay (s : State) (line : Nat) : Option Nat :=
  (List.range 4).find? (fun w => (tget (0, []) s.ctl.xip (4 * (line % 256) + w)).1 = line + 1)

/-- The cached word of extended address `a`. -/
def xipWord (s : State) (a : Nat) : Option Nat :=
  match xipWay s ((a - 0x800000) / 16) with
  | some w => some ((tget (0, []) s.ctl.xip (4 * ((a - 0x800000) / 16 % 256) + w)).2.getD (a % 16) 0)
  | none => none

/-- A line as the boot flash holds it. -/
def flashLine (s : State) (line : Nat) : List Nat := (List.range 16).map (fun i => s.num (flashAddr (32 * line + 2 * i)) 2)

/-- The line enters an empty way of its set, else one that the spec leaves open. -/
def xipFill (line : Nat) (s : State) : State :=
  let base := 4 * (line % 256)
  let way := match (List.range 4).find? (fun w => (tget (0, []) s.ctl.xip (base + w)).1 = 0) with
    | some w => w
    | none => s.free .unstated % 4
  s.freeNext.mapCtl (fun c => { c with xip := tput (0, []) c.xip (base + way) (line + 1, flashLine s line) })

/-- XIP_INV. -/
def doXipInv (ag : Agent) (s : State) : State :=
  if cloveOrDap ag then (s.setFld CV_CTL CV_CTL_XIP_INV 1).mapCtl (fun c => { c with xip := [] }) else s

/-- PATCH_UNIT_WRITE: ADDR, or DATA (`data`), of unit `u`. -/
def doPatchUnitWrite (ag : Agent) (u : Nat) (data : Bool) (v : Word) (s : State) : State :=
  if cloveOrDap ag then s.writeByType (if data then CV_FPU_u_DATA u else CV_FPU_u_ADDR u) v else s

/-- DATA of the lowest-numbered patch unit that holds `a`. -/
def patchUnit (s : State) (a : Nat) : Option Nat :=
  ((List.range 16).filterMap (fun u =>
    if s.flag (CV_FPU_u_ADDR u) CV_FPU_u_ADDR_EN ∧ s.fld (CV_FPU_u_ADDR u) CV_FPU_u_ADDR_ADDR = a then
      some (s.fld (CV_FPU_u_DATA u) CV_FPU_u_DATA_DATA)
    else none)).head?

/-- What an extended read finds: a word, a miss of a flash line, or no such address. -/
inductive ExtRead where
  | word (v : Nat)
  | miss (line : Nat)
  | bad
  deriving DecidableEq, Repr

/-- A data read of extended word `a` (R299, R323). -/
def extRead (s : State) (a : Nat) : ExtRead :=
  if a < 0xC000 then .word (romWord s a)
  else if a < 0xC400 ∨ (0x10000 ≤ a ∧ a < 0x18000) ∨ (0x20000 ≤ a ∧ a < 0x60000) then .word (s.num (cvMem a) 2)
  else if 0x800000 ≤ a ∧ a < 0x1000000 ∧ s.flag CV_CTL CV_CTL_XIP_EN then
    match xipWord s a with
    | some v => .word v
    | none => .miss ((a - 0x800000) / 16)
  else .bad

/-- A fetch of extended word `a`: a patch unit replaces it (R324). -/
def extFetch (s : State) (a : Nat) : ExtRead :=
  match patchUnit s a, extRead s a with
  | some v, .word _ => .word v
  | _, r => r

end Sys2Proof.Machine
end

