-- ==== Sys2Proof/Machine/CpuMem.lean ====
section
/-! DEFINITION. The data spaces of Clove and Sumac and the bridge to the fabric (R299 to R304). -/

namespace Sys2Proof.Machine
open R

/-- Where a data address leads: a memory cell (its model address), a word that only reads give, a miss, a fabric byte
address, a patch RAM word, or nothing. -/
inductive DataRef where
  | ram (a : Nat)
  | word (v : Nat)
  | miss (line : Nat)
  | fabric (a : Nat)
  | patch (w : Nat)
  | bad
  deriving DecidableEq, Repr

/-- A data access of Clove to extended word `w` through a window. -/
def extRef (s : State) (w : Nat) (write : Bool) : DataRef :=
  if (0x10000 ≤ w ∧ w < 0x18000) ∨ (0x20000 ≤ w ∧ w < 0x60000) then .ram (cvMem w)
  else if write then (if 0xC000 ≤ w ∧ w < 0xC400 then .patch (w - 0xC000) else .bad)
  else match extRead s w with
    | .word v => .word v
    | .miss l => .miss l
    | .bad => .bad

/-- Clove's direct space (R300). -/
def cvRef (s : State) (a : Nat) (write : Bool) : DataRef :=
  let c := s.proc clove
  if a < 0x8000 then .ram (cvMem (0x10000 + a))
  else if a < 0xC000 then extRef s (c.sp 3 * 0x4000 + (a - 0x8000)) write
  else if a < 0xE000 then extRef s (c.sp 4 * 0x2000 + (a - 0xC000)) write
  else if a < 0xE800 then .fabric ((c.sp 5 + 65536 * c.sp 6) * 0x1000 + 2 * (a - 0xE000))
  else .bad

/-- A page register of a Sumac processor: PG0 from special register 3, PG1 from 7. -/
def pgReg (c : Cpu) (n : Nat) : Nat := c.sp n + 256 * c.sp (n + 1) + 65536 * c.sp (n + 2) + 16777216 * c.sp (n + 3)

/-- The data space of a Sumac processor (R301). -/
def suRef (s : State) (p a : Nat) : DataRef :=
  if a < 0x1000 then .ram (suData p + a)
  else if 0x4000 ≤ a ∧ a < 0x8000 then .fabric (pgReg (s.proc p) 3 * 0x4000 + (a - 0x4000))
  else if 0x8000 ≤ a ∧ a < 0xC000 then .fabric (pgReg (s.proc p) 7 * 0x4000 + (a - 0x8000))
  else .bad

def dataRef (s : State) (p a : Nat) (write : Bool) : DataRef :=
  if p = clove then cvRef s a write else suRef s p a

/-! ### The bridge (R303) -/

/-- Bytes of a part, the part that a byte address names, and its word. -/
def partBytes (p : Nat) : Nat := if p = clove then 2 else 1
def partOf (p a : Nat) : Nat := a % 4 / partBytes p
def partTop (p : Nat) : Nat := 4 / partBytes p - 1
def partVal (p part word : Nat) : Nat := bits word (8 * partBytes p * part) (8 * partBytes p)

/-- The value that the latch gives without an access: a part other than the lowest of the latched word. -/
def latched (p : Nat) (c : Cpu) (a : Nat) : Option Nat :=
  match c.latch with
  | some (w, v) => if w = a / 4 * 4 ∧ partOf p a ≠ 0 then some (partVal p (partOf p a) v) else none
  | none => none

/-- A write of a part below the highest is held; one to another word discards the parts held before. -/
def holdPart (p : Nat) (c : Cpu) (a v : Nat) : Cpu :=
  let w := a / 4 * 4
  { c with held := w, parts := (partOf p a, v) :: (if c.held = w then c.parts.filter (fun e => e.1 ≠ partOf p a) else []),
           latch := none }

/-- The word that a write of the highest part sends. -/
def sendWord (p : Nat) (c : Cpu) (a v : Nat) : Nat :=
  (if c.held = a / 4 * 4 then c.parts else []).foldl
    (fun x e => x + e.2 * 2 ^ (8 * partBytes p * e.1)) (v * 2 ^ (8 * partBytes p * partOf p a))

/-- The bridge after a write of the highest part: nothing is held, the latch is clear. -/
def sentPart (c : Cpu) : Cpu := { c with held := 0, parts := [], latch := none }

/-- What a data read gives at once, or the access it starts. -/
inductive ReadStart where
  | val (v : Nat)
  | miss (line : Nat)
  | issue (word part : Nat)
  | bad
  deriving DecidableEq, Repr

def readStart (s : State) (p a : Nat) : ReadStart :=
  match dataRef s p a false with
  | .ram m => .val (s.num m (partBytes p))
  | .word v => .val v
  | .miss l => .miss l
  | .fabric fa =>
    match latched p (s.proc p) fa with
    | some v => .val v
    | none => .issue (fa / 4 * 4) (partOf p fa)
  | .patch _ => .bad
  | .bad => .bad

/-- What a data write does at once (the state after it), or the access it starts. -/
inductive WriteStart where
  | done (s : State)
  | issue (word data : Nat) (s : State)
  | bad
  deriving DecidableEq, Repr

def writeStart (s : State) (p a v : Nat) : WriteStart :=
  match dataRef s p a true with
  | .ram m => .done (s.setNum m (partBytes p) v)
  | .patch w => .done (doPatchRamWrite w v s)
  | .fabric fa =>
    if partOf p fa = partTop p then
      .issue (fa / 4 * 4) (sendWord p (s.proc p) fa v) (s.mapProc p sentPart)
    else .done (s.mapProc p (fun c => holdPart p c fa v))
  | _ => .bad

/-- Where a read with the no-side-effect attribute would go is not asked here: a processor's reads have their effects. -/
def winIssue (p : Nat) (w : WinAcc) (s : State) : State := s.mapProc p (fun c => { c with win := some w })

end Sys2Proof.Machine
end

