-- ==== Sys2Proof/Machine/Micro.lean ====
section
/-! DEFINITION. Microcode: the fields of a microword, its conditions, its actions and its next address
(R330 to R336).
Choices and readings: log entry 40. -/

namespace Sys2Proof.Machine
open R

/-! ### Microwords (R330) -/

structure MicroWord where
  na : Nat
  ns : Nat
  cond : Nat
  bop : Nat
  wait : Nat
  wlim : Nat
  alu : Nat
  asel : Nat
  bsel : Nat
  dst : Nat
  ostk : Nat
  rstk : Nat
  mem : Nat
  spr : Nat
  sprw : Nat
  flg : Nat
  cnt : Nat
  cntop : Nat
  lit : Nat
  misc : Nat
  deriving DecidableEq, Repr

def mwClove (w : Nat) : MicroWord :=
  { na := bits w 0 11, ns := bits w 11 2, cond := bits w 13 6, bop := bits w 19 2, wait := bits w 21 1, wlim := bits w 22 8,
    alu := bits w 30 5, asel := bits w 35 4, bsel := bits w 39 4, dst := bits w 43 4, ostk := bits w 47 3,
    rstk := bits w 50 3, mem := bits w 53 3, spr := bits w 56 4, sprw := bits w 60 2, flg := bits w 62 3,
    cnt := bits w 65 8, cntop := bits w 73 2, lit := bits w 75 16, misc := bits w 91 5 }

def mwSumac (w : Nat) : MicroWord :=
  { na := bits w 0 10, ns := bits w 10 2, cond := bits w 12 6, bop := bits w 18 2, wait := bits w 20 1, wlim := bits w 21 8,
    alu := bits w 29 5, asel := bits w 34 4, bsel := bits w 38 4, dst := bits w 42 4, ostk := bits w 46 3,
    rstk := bits w 49 3, mem := bits w 52 3, spr := bits w 55 4, sprw := bits w 59 2, flg := bits w 61 3,
    cnt := bits w 64 8, cntop := bits w 72 2, lit := bits w 74 8, misc := bits w 82 5 }

/-- Key of a group of the microword at `upc` of processor `p`. -/
def mwKey (s : State) (p upc g : Nat) : Nat := if p = clove then csClove (activeBank s) upc g else csSumac (p / 8) upc g

def mwGroups (p : Nat) : Nat := if p = clove then 4 else 3

/-- The number of the first group with bad parity. -/
def mwBad (s : State) (p upc : Nat) : Option Nat :=
  (List.range (mwGroups p)).find? (fun g => !parityOk (ucodeGet s (mwKey s p upc g)))

def microWord (s : State) (p upc : Nat) : MicroWord :=
  let v := (List.range (mwGroups p)).foldl (fun x g => x + ucodeGet s (mwKey s p upc g) % 2 ^ 32 * 2 ^ (32 * g)) 0
  if p = clove then mwClove v else mwSumac v

/-- The unit whose store a processor runs from: a cluster, or 12. -/
def unitOf (p : Nat) : Nat := if p = clove then 12 else p / 8

/-! ### Special registers (chapter 13, Special registers) -/

/-- The value that RDS, or a microword, reads. -/
def readSpr (p : Nat) (c : Cpu) (n : Nat) : Nat :=
  if n = 0 then c.status
  else if n = 1 then c.os.length
  else if n = 2 then c.rs.length
  else if p = clove ∧ n = 14 then c.cyc % 65536
  else if p = clove ∧ n = 15 then c.cycHi
  else if n ≤ 14 then c.sp n
  else 0

/-- A read of CYC_LO captures CYC_HI. -/
def noteSprRead (p : Nat) (c : Cpu) (n : Nat) : Cpu :=
  if p = clove ∧ n = 14 then { c with cycHi := c.cyc / 65536 % 65536 } else c

/-- Width of a special register that a write changes; 0 for a read-only or unlisted one. -/
def sprW (p n : Nat) : Nat :=
  if p = clove then
    match n with
    | 0 => 7
    | 3 => 10
    | 4 => 11
    | 5 => 16
    | 6 => 12
    | 7 => 16
    | 8 => 8
    | 9 => 16
    | 10 => 8
    | _ => 0
  else
    match n with
    | 0 => 5
    | 3 => 8
    | 4 => 8
    | 5 => 8
    | 6 => 2
    | 7 => 8
    | 8 => 8
    | 9 => 8
    | 10 => 2
    | 11 => 6
    | 13 => 8
    | 14 => 8
    | _ => 0

def writeSpr (p : Nat) (c : Cpu) (n v : Nat) : Cpu :=
  if sprW p n = 0 then c
  else if n = 0 then { c with status := v % 2 ^ sprW p n }
  else c.setSp n (v % 2 ^ sprW p n)

/-! ### Conditions (R333) -/

def uCondBase (s : State) (p : Nat) (u : Micro) (code : Nat) : Bool :=
  let c := s.proc p
  let w := cellW p
  match code with
  | 1 => c.cell 0 = 0
  | 2 => bits (c.cell 0) (w - 1) 1 = 1
  | 3 => c.stBit 0 = 1
  | 4 => u.zero
  | 5 => u.cnt = 0
  | 6 => u.rdy
  | 7 => u.ferr
  | 8 => if p = clove then pres s 48 ≠ 0 else evMatch c u.imm ≠ 0
  | 9 => decide (p = clove) && decide (c.stBit 5 = 1)
  | 10 => c.stBit 3 = 1
  | 11 => bits u.imm (w - 1) 1 = 1
  | 12 => dbgHeld s p
  | _ => false

/-- The value of COND: bits [4:0] choose, bit 5 inverts. -/
def uCond (s : State) (p : Nat) (u : Micro) (m : MicroWord) : Bool := xor (uCondBase s p u (m.cond % 32)) (m.cond / 32 = 1)

/-- The wait limit in processor cycles (R336). -/
def waitLimit (m : MicroWord) : Nat := (m.wlim % 16 + 1) * 2 ^ (m.wlim / 16)

/-! ### Operands and the ALU -/

/-- An operand of ASEL or BSEL. -/
def uSel (p : Nat) (c : Cpu) (u : Micro) (m : MicroWord) (sel : Nat) : Nat :=
  let w := cellW p
  match sel with
  | 0 => c.cell 0
  | 1 => c.cell 1
  | 2 => c.cell 2
  | 3 => (c.rs.map Prod.fst).getD 0 0 % 2 ^ w
  | 4 => u.mdr
  | 5 => u.imm % 2 ^ w
  | 6 => readSpr p c m.spr % 2 ^ w
  | 7 => u.cnt
  | 8 => m.lit
  | 9 => c.pc % 2 ^ w
  | 10 => c.pc / 2 ^ w % 2 ^ (pcW p - w)
  | _ => 0

/-- The opcode of `aluOp` for an ALU code, where there is one. -/
def uAluOp (alu : Nat) : Nat :=
  match alu with
  | 2 => 0x10
  | 3 => 0x13
  | 4 => 0x14
  | 5 => 0x17
  | 6 => 0x11
  | 7 => 0x12
  | 8 => 0x15
  | 9 => 0x16
  | 10 => 0x28
  | 11 => 0x29
  | 12 => 0x2A
  | 14 => 0x2C
  | 15 => 0x2D
  | 16 => 0x2E
  | 17 => 0x2F
  | 18 => 0x1C
  | 19 => 0x1D
  | 20 => 0x1E
  | 22 => 0x30
  | 23 => 0x31
  | _ => 0x32

/-- The ALU on A and B; a one-operand code takes A. A restoring divide step is not described: `any` is its result. -/
def uAlu (w alu a b c any : Nat) : AluOut :=
  match alu with
  | 0 => aluPlain a
  | 1 => aluPlain b
  | 13 => aluOp w 0x2B 0 a 0
  | 21 => { r := any % 2 ^ w, c := none, ov := false, dz := decide (b = 0) }
  | 25 => aluOp w 0x18 0 a 0
  | 26 => aluOp w 0x19 0 a 0
  | 27 => aluOp w 0x1A 0 a 0
  | 28 => aluOp w 0x1B 0 a 0
  | 29 => aluPlain a
  | 30 => aluPlain a
  | 31 => aluPlain a
  | _ => aluOp w (uAluOp alu) a b c

/-! ### Actions (R331) -/

/-- OSTK: cells popped, and whether the result is pushed. -/
def ostkPops (o : Nat) : Nat := match o with
  | 2 => 1
  | 3 => 2
  | 4 => 1
  | 5 => 2
  | 6 => 3
  | _ => 0

def ostkPush (o : Nat) : Bool := o = 1 || o = 4 || o = 5

def uOstk (p : Nat) (c : Cpu) (o r : Nat) : Cpu := c.replace (osCap p) (ostkPops o) (if ostkPush o then [r] else [])

/-- RSTK other than the value it gives to the result. -/
def uRstk (p : Nat) (c : Cpu) (o r : Nat) : Cpu :=
  match o with
  | 1 => c.rsPush (rsCap p) (c.pc % 2 ^ pcW p, 0)
  | 2 => { c with pc := (c.rs.map Prod.fst).getD 0 0, rs := c.rs.drop 1 }
  | 3 => c.rsPush (rsCap p) (r, 0)
  | 4 => { c with rs := c.rs.drop 1 }
  | _ => c

/-- DST. -/
def uDst (p : Nat) (c : Cpu) (d r : Nat) : Cpu :=
  let w := cellW p
  match d with
  | 1 => { c with os := c.os.set 0 r }
  | 2 => { c with os := c.os.set 1 r }
  | 4 => { c with pc := setBits c.pc 0 w r }
  | 5 => { c with pc := setBits c.pc w (pcW p - w) r }
  | _ => c

/-- FLG: C, OV and DZ by the rules of R310. -/
def uFlags (c : Cpu) (flg : Nat) (o : AluOut) : Cpu :=
  let c1 := match o.c with
    | some v => if bits flg 0 1 = 1 then c.setSt 0 v else c
    | none => c
  let c2 := if bits flg 1 1 = 1 ∧ o.ov then c1.setSt 1 1 else c1
  if bits flg 2 1 = 1 ∧ o.dz then c2.setSt 2 1 else c2

/-- CNTOP. -/
def uCnt (u : Micro) (m : MicroWord) (r : Nat) : Nat :=
  match m.cntop with
  | 1 => m.cnt
  | 2 => r % 256
  | 3 => (u.cnt + 255) % 256
  | _ => u.cnt

/-- MISC codes that change STATUS, EVFLAG or the halt request. -/
def uMisc (p : Nat) (c : Cpu) (u : Micro) (misc r : Nat) : Cpu :=
  if p = clove then
    match misc with
    | 16 => c.setSt 5 1
    | 17 => c.setSt 5 0
    | 18 => c.setSt 5 u.popIe
    | 21 => { c with haltReq := true }
    | _ => c
  else
    match misc with
    | 19 => c.setSp 12 (c.sp 12 - (c.sp 12 &&& r))
    | 21 => { c with haltReq := true }
    | _ => c

/-- The address of a MEM access: the ALU result, whose upper byte on Sumac the spec does not give (`any`). -/
def uAddr (p r any : Nat) : Nat := if p = clove then r else r + any % 256 * 256

/-- MEM: the state after the access has begun, with MDR, RDY and FERR. -/
def uMem (p : Nat) (m : MicroWord) (a : Nat) (u : Micro) (s : State) : Micro × State :=
  if m.mem = 1 then
    match readStart s p a with
    | .val v => ({ u with mdr := v, rdy := true, ferr := false }, s)
    | .miss l => ({ u with rdy := false, ferr := false },
        s.mapCtl (fun c => { c with xipWait := some { line := l, op := u.op, imm := a, micro := true } }))
    | .issue w part => ({ u with rdy := false, ferr := false },
        winIssue p { write := false, addr := w, data := 0, part := part, use := .micro, next := 0 } s)
    | .bad => ({ u with rdy := true, ferr := true }, s)
  else if m.mem = 2 then
    match writeStart s p a u.mdr with
    | .done s1 => ({ u with rdy := true, ferr := false }, s1)
    | .issue w d s1 => ({ u with rdy := false, ferr := false },
        winIssue p { write := true, addr := w, data := d, part := 0, use := .micro, next := 0 } s1)
    | .bad => ({ u with rdy := true, ferr := true }, s)
  else (u, s)

/-! ### Next address (R332) -/

/-- The next micro-address with the micro-return stack and CNT, or none for a dispatch; the last part says that the
micro-return stack overflowed. -/
def uNext (p : Nat) (m : MicroWord) (u : Micro) (c : Bool) : Option (Nat × List Nat × Nat) × Bool :=
  let n := storeWords (unitOf p)
  let cap := if p = clove then 8 else 4
  let inc := (u.upc + 1) % n
  match m.ns with
  | 0 => (some (m.na / 2 * 2 + b2n (m.na % 2 = 1 || c), u.urs, u.cnt), false)
  | 1 =>
    match m.bop with
    | 1 => (some (if c then m.na else inc, u.urs, u.cnt), false)
    | 2 => if c then (some (m.na, (inc :: u.urs).take cap, u.cnt), decide (cap ≤ u.urs.length)) else (some (inc, u.urs, u.cnt), false)
    | 3 => (some (if (u.cnt + 255) % 256 ≠ 0 then m.na else inc, u.urs, (u.cnt + 255) % 256), false)
    | _ => (some (inc, u.urs, u.cnt), false)
  | 2 => (none, false)
  | _ =>
    match u.urs with
    | r :: t => (some (r, t, u.cnt), false)
    | [] => (none, false)

/-! ### One microword -/

/-- The micro-PC of processor `p`, and whether its microword waits. Between runs it is where the microcode of
firmware 1.4 left it, which the spec does not give. -/
def microPc (s : State) (p : Nat) : Nat × Bool :=
  match (s.proc p).u with
  | some u => (u.upc, u.waiting)
  | none => (s.free .unstated % storeWords (unitOf p), false)

/-- MC_CV_STAT follows Clove's micro-PC and waits. -/
def noteUpc (p : Nat) (u : Micro) (s : State) : State :=
  if p = clove then (s.setFld MC_CV_STAT MC_CV_STAT_UPC u.upc).setFld MC_CV_STAT MC_CV_STAT_WAITING (b2n u.waiting) else s

/-- The microcode run is over; CNT and MDR keep their values for the next one (special register numbers 32 and 33
stand for them between runs). -/
def Cpu.endRun (c : Cpu) (u : Micro) : Cpu := { (c.setSp 32 u.cnt).setSp 33 u.mdr with u := none }

/-- The instruction ends. -/
def uEnd (p : Nat) (u : Micro) (s : State) : State := s.mapProc p (fun c => c.endRun u)

/-- The actions of a microword with condition value `c`, and its next address. -/
def uAct (p : Nat) (m : MicroWord) (u : Micro) (c : Bool) (s : State) : State :=
  let any := s.free .unstated
  let s0 := s.freeNext
  let cp := s0.proc p
  let w := cellW p
  let o := uAlu w m.alu (uSel p cp u m m.asel) (uSel p cp u m m.bsel) (cp.stBit 0) any
  let top := cp.rs.getD 0 (0, 0)
  let r := if m.rstk = 4 ∨ m.rstk = 5 then top.1 % 2 ^ w else o.r
  let u0 := if m.rstk = 2 ∨ m.rstk = 4 then { u with popIe := top.2 } else u
  let um := uMem p m (uAddr p r any) { u0 with waiting := false, zero := o.r = 0 } s0
  let u1 := if m.dst = 3 then { um.1 with mdr := r } else um.1
  let c1 := um.2.proc p
  let c2 := uDst p (uRstk p (uOstk p c1 m.ostk r) m.rstk r) m.dst r
  let c3 := if m.sprw = 2 then writeSpr p c2 m.spr r else if m.sprw = 1 then noteSprRead p c2 m.spr else c2
  let u2 := { u1 with cnt := uCnt u1 m r,
                      wrote := u1.wrote || ostkPush m.ostk || m.rstk = 1 || m.rstk = 3 || m.dst = 1 || m.dst = 2 }
  let c4 := uMisc p (uFlags c3 m.flg o) u2 m.misc r
  let s1 := um.2.setProc p { c4 with cyc := c4.cyc + 1 }
  let s2 := if p ≠ clove ∧ m.misc = 20 then s1.setFld (SU_c_p_STAT (p / 8) (p % 8)) SU_c_p_STAT_SIG 1 else s1
  if 1 ≤ m.misc ∧ m.misc ≤ 10 then
    let keep := m.misc = 6 ∨ m.misc = 7
    let s3 := s2.mapProc p (fun c =>
      { c.endRun u2 with os := if keep then c.os else u.os0, rs := if keep then c.rs else u.rs0 })
    procTrap p m.misc (u.imm % 256) u.pc0 s3
  else
    let nx := uNext p m u2 c
    let s3 := if nx.2 ∧ p = clove then s2.setFld MC_CV_STAT MC_CV_STAT_URS_OVF 1 else s2
    match nx.1 with
    | some (a, urs, cnt) =>
      let u3 := { u2 with upc := a, urs := urs, cnt := cnt }
      noteUpc p u3 (s3.mapProc p (fun c => { c with u := some u3 }))
    | none => uEnd p u2 s3

/-- The microword at the micro-PC runs, or waits for its condition (R336); the flag says that it waits. -/
def uStep (p : Nat) (u : Micro) (s : State) : Bool × State :=
  match mwBad s p u.upc with
  | some g => (true, parityFail (unitOf p) false u.upc g u.pc0 s)
  | none =>
    let m := microWord s p u.upc
    let c := uCond s p u m
    if m.wait = 1 ∧ ¬ c ∧ 1 < waitLimit m then
      (true, noteUpc p { u with waiting := true } (s.mapProc p (fun cp => { cp with u := some { u with waiting := true } })))
    else (false, uAct p m u c s)

/-- Microwords run until the instruction ends, a wait begins or `fuel` is used up. -/
def uRun (p : Nat) : Nat → State → State
  | 0, s => s
  | n + 1, s =>
    match (s.proc p).u with
    | none => s
    | some u =>
      if procSt s p ≠ 1 ∨ (p = clove ∧ s.ctl.mchk ≠ 0) then s
      else
        let r := uStep p u s
        if r.1 then r.2 else uRun p n r.2

/-- Microwords that one command runs at most. -/
def uFuel : Nat := 4096

/-- A wait ends at its limit: the condition value is 0 (R336). -/
def uLimit (p : Nat) (s : State) : State :=
  match (s.proc p).u with
  | some u => if u.waiting then uAct p (microWord s p u.upc) u (uCond s p u (microWord s p u.upc)) s else s
  | none => s

end Sys2Proof.Machine
end

