-- ==== Sys2Proof/Machine/CpuIsa.lean ====
section
/-! DEFINITION. The instructions of Clove and Sumac (R305 to R315, R320 to R324). A command names the processor,
and the opcode and immediate that its fetch delivered.
Choices and readings: log entries 8, 37, 38 and 39. -/

namespace Sys2Proof.Machine
open R

/-! ### Lockstep (R320 to R322) -/

/-- A mismatch of kind `kind` in the instruction at `pc`: its retry agrees, unless 16 retries lie within the
preceding second. -/
def lsMismatch (kind pc : Nat) (s : State) : State :=
  let recent := s.ctl.retries.filter (fun t => s.timeNs < t + 1000000000)
  let s1 := s.mapCtl (fun c => { c with inject := false, retries := s.timeNs :: recent })
  if 16 ≤ recent.length then machineCheck 2 pc s1
  else nutmeg 0x100 1 [pc, kind]
    ((((s1.incSat CV_LS_STAT CV_LS_STAT_RETRY_CNT).setFld CV_LS_STAT CV_LS_STAT_KIND kind)).setReg CV_LS_PC
      (BitVec.ofNat 32 pc))

/-- LOCKSTEP_INJECT, by the debug access port. -/
def doLockstepInject (ag : Agent) (s : State) : State :=
  if ag = .dap then (s.setFld CV_LS_INJ CV_LS_INJ_GO 1).mapCtl (fun c => { c with inject := true }) else s

/-- Opcodes of R308 that write an operand or return stack cell. -/
def writesStack (op : Nat) : Bool :=
  [0x01, 0x02, 0x03, 0x05, 0x06, 0x07, 0x08, 0x09, 0x0A, 0x0B, 0x38, 0x3A, 0x3B, 0x44, 0x46, 0x50].contains op || aluIs op

/-! ### The effects of R308 on stacks, STATUS and PC -/

/-- The address operand of LD and ST, its cells, and their number. -/
def addrOf (p : Nat) (c : Cpu) : Nat := if p = clove then c.cell 0 else c.cell 1 + 256 * c.cell 0
def addrLen (p : Nat) : Nat := if p = clove then 1 else 2
def addrCells (p a : Nat) : List Nat := if p = clove then [a % 65536] else [a / 256 % 256, a % 256]

/-- LIT8 and LIT. -/
def insLit8 (p imm : Nat) (c : Cpu) : Cpu :=
  c.replace (osCap p) 0 [if p = clove then unsext 16 (sext 8 imm) else imm % 256]

def insLit (p imm : Nat) (c : Cpu) : Cpu := c.replace (osCap p) 0 (addrCells p imm)

/-- Stack moves 0x03 to 0x08. -/
def insMove (p op imm : Nat) (c : Cpu) : Cpu :=
  let x := c.cell
  match op with
  | 0x03 => c.replace (osCap p) 1 [x 0, x 0]
  | 0x04 => c.replace (osCap p) 1 []
  | 0x05 => c.replace (osCap p) 2 [x 1, x 0]
  | 0x06 => c.replace (osCap p) 2 [x 1, x 0, x 1]
  | 0x07 => c.replace (osCap p) 3 [x 2, x 0, x 1]
  | _ => c.replace (osCap p) 0 [x imm]

/-- Arithmetic: result and flags. -/
def insAlu (p op : Nat) (c : Cpu) : Cpu :=
  let o := aluOp (cellW p) op (c.cell 1) (c.cell 0) (c.stBit 0)
  let c1 := c.replace (osCap p) (if aluUnary op then 1 else 2) [o.r]
  uFlags c1 7 o

/-- Whether the operation divides by zero with DZ_TRAP set. -/
def dzTraps (p op : Nat) (c : Cpu) : Bool :=
  aluIs op && (aluOp (cellW p) op (c.cell 1) (c.cell 0) 0).dz && decide (c.stBit 3 = 1)

/-- A branch target (R309); `c.pc` is the address of the next instruction. -/
def relTarget (p imm : Nat) (c : Cpu) : Nat := unsext (pcW p) ((c.pc : Int) + sext 8 imm)
def absTarget (p imm : Nat) (c : Cpu) : Nat := if p = clove then c.pc / 65536 * 65536 + imm % 65536 else imm % 4096
def pairTarget (p : Nat) (c : Cpu) : Nat :=
  if p = clove then c.cell 0 % 256 * 65536 + c.cell 1 else (c.cell 1 + 256 * c.cell 0) % 4096

/-- The return entry that a call pushes. -/
def callEntry (p : Nat) (c : Cpu) : Nat × Nat := (c.pc % 2 ^ pcW p, 0)

def topEntry (c : Cpu) : Nat × Nat := c.rs.getD 0 (0, 0)

/-- Branches, jumps, calls and returns 0x40 to 0x48 but VJMP. -/
def insFlow (p op imm : Nat) (c : Cpu) : Cpu :=
  match op with
  | 0x40 => { c with pc := relTarget p imm c }
  | 0x41 => { c.replace (osCap p) 1 [] with pc := if c.cell 0 = 0 then relTarget p imm c else c.pc }
  | 0x42 => { c.replace (osCap p) 1 [] with pc := if c.cell 0 ≠ 0 then relTarget p imm c else c.pc }
  | 0x43 => { c with pc := absTarget p imm c }
  | 0x44 => { c.rsPush (rsCap p) (callEntry p c) with pc := absTarget p imm c }
  | 0x45 => { c with pc := (topEntry c).1, rs := c.rs.drop 1 }
  | 0x46 => { (c.replace (osCap p) 2 []).rsPush (rsCap p) (callEntry p c) with pc := pairTarget p c }
  | _ => { c.replace (osCap p) 2 [] with pc := pairTarget p c }

/-- TOR, FROMR and RFETCH; `any` is what a copy of an empty return stack gives. -/
def insRet (p op any : Nat) (c : Cpu) : Cpu :=
  let w := cellW p
  match op with
  | 0x09 => (c.replace (osCap p) 1 []).rsPush (rsCap p) (c.cell 0, 0)
  | 0x0A => { c.replace (osCap p) 0 [(topEntry c).1 % 2 ^ w] with rs := c.rs.drop 1 }
  | _ => c.replace (osCap p) 0 [if c.rs.isEmpty then any % 2 ^ w else (topEntry c).1 % 2 ^ w]

/-- RDS and WRS. -/
def insRds (p imm : Nat) (c : Cpu) : Cpu :=
  (noteSprRead p c imm).replace (osCap p) 0 [readSpr p c imm % 2 ^ cellW p]

def insWrs (p imm : Nat) (c : Cpu) : Cpu := writeSpr p (c.replace (osCap p) 1 []) imm (c.cell 0)

/-! ### LD and ST -/

/-- LD or LDINC of a value `v`. -/
def ldCells (p : Nat) (inc : Bool) (v : Nat) (c : Cpu) : Cpu :=
  c.replace (osCap p) (addrLen p) ((if inc then addrCells p (addrOf p c + 1) else []) ++ [v])

/-- ST or STINC after the store. -/
def stCells (p : Nat) (inc : Bool) (c : Cpu) : Cpu :=
  c.replace (osCap p) (addrLen p + 1) (if inc then addrCells p (addrOf p c + 1) else [])

/-- A load: at once, after a line fill, or after a window access. -/
def insLoad (p op : Nat) (inc : Bool) (pc next : Nat) (s : State) : State :=
  let c := s.proc p
  match readStart s p (addrOf p c) with
  | .val v => s.setProc p { ldCells p inc v c with pc := next }
  | .miss l => s.mapCtl (fun k => { k with xipWait := some { line := l, op := op, imm := 0, micro := false } })
  | .issue w part => winIssue p { write := false, addr := w, data := 0, part := part, use := if inc then .ldInc else .ld, next := next } s
  | .bad => procTrap p 8 0 pc s

/-- A store: its value is the cell below the address. -/
def insStore (p : Nat) (inc : Bool) (pc next : Nat) (s : State) : State :=
  let c := s.proc p
  match writeStart s p (addrOf p c) (c.cell (addrLen p)) with
  | .done s1 => s1.mapProc p (fun c => { stCells p inc c with pc := next })
  | .issue w d s1 => winIssue p { write := true, addr := w, data := d, part := 0, use := if inc then .stInc else .st, next := next } s1
  | .bad => procTrap p 8 0 pc s

/-- The fabric answered the window access of processor `p`: data `v`, or an error (R304). -/
def winDone (p v : Nat) (err : Bool) (s : State) : State :=
  let c := s.proc p
  match c.win with
  | none => s
  | some w =>
    let c1 := { c with win := none, latch := if w.write || err then c.latch else some (w.addr, v) }
    let x := partVal p w.part v
    match w.use with
    | .micro =>
      s.setProc p { c1 with u := c1.u.map (fun u => { u with mdr := if w.write || err then u.mdr else x, rdy := true, ferr := err }) }
    | use =>
      if err then procTrap p 8 0 c.pc (s.setProc p c1)
      else
        let c2 := match use with
          | .ld => ldCells p false x c1
          | .ldInc => ldCells p true x c1
          | .st => stCells p false c1
          | _ => stCells p true c1
        boundary p (s.setProc p { c2 with pc := w.next })

/-! ### The effect of an instruction -/

/-- Opcodes of R308 that each machine's table holds. -/
def isaHas (p op : Nat) : Bool :=
  op ≤ 0x0B || aluIs op || (0x38 ≤ op && op ≤ 0x3B) || (0x40 ≤ op && op ≤ 0x46) || op = 0x48 || op = 0x50 || op = 0x51 ||
    op = 0x5A || op = 0x5D || op = 0x5E ||
    (if p = clove then op = 0x47 || op = 0x58 || op = 0x59 || op = 0x5B else op = 0x5C)

/-- Cycles of an instruction that is not held (R308). -/
def insCost (p op : Nat) (taken : Bool) : Nat :=
  if 0x1C ≤ op ∧ op ≤ 0x1E then 2
  else if 0x20 ≤ op ∧ op ≤ 0x24 then (if p = clove then 17 else 9)
  else if op = 0x38 ∨ op = 0x3A then 2
  else if (0x40 ≤ op ∧ op ≤ 0x48) ∨ op = 0x5B then (if taken then 2 else 1)
  else 1

/-- The trap that an instruction raises before it has any effect: PICK beyond the depth, and R306. -/
def preTrap (s : State) (p op imm : Nat) : Option Nat :=
  let c := s.proc p
  if op = 0x08 ∧ c.os.length ≤ imm then some 2
  else if (op = 0x09 ∨ op = 0x44 ∨ op = 0x46) ∧ rsFull s p then some 3
  else if (op = 0x0A ∨ op = 0x45 ∨ op = 0x5B) ∧ c.rs.isEmpty then some 4
  else none

/-- WAIT of Clove, and WAITEV of Sumac. -/
def insWait (p imm : Nat) (s : State) : State :=
  if p = clove then (if pres s 48 ≠ 0 then s else setProcSt s clove 2)
  else evWake p (setProcSt (s.mapProc p (fun c => { c with waitEv := some imm })) p 2)

/-- VJMP: the vector lies in program RAM. -/
def vectorOf (s : State) (i : Nat) : Nat :=
  s.num (cvMem (0x20000 + 2 * i)) 2 + 65536 * (s.num (cvMem (0x20001 + 2 * i)) 2 % 256)

/-- BRK: a halt under a debugger, else a trap (R420). -/
def insBrk (p pc : Nat) (s : State) : State :=
  if dbgHeld s p then setProcSt (s.mapProc p (fun c => { c with haltReq := false, stepping := false })) p 3
  else procTrap p 10 0 pc (s.mapProc p (fun c => { c with pc := pc }))

/-- The instruction acts; PC already holds the address of the next one, and `pc` its own. -/
def insAct (p op imm pc : Nat) (s : State) : State :=
  let c := s.proc p
  let put := fun c1 => s.setProc p c1
  if op = 0x00 then s
  else if op = 0x01 then put (insLit8 p imm c)
  else if op = 0x02 then put (insLit p imm c)
  else if op ≤ 0x08 then put (insMove p op imm c)
  else if op ≤ 0x0B then (put (insRet p op (s.free .unstated) c)).freeNext
  else if aluIs op then
    (if dzTraps p op c then procTrap p 6 0 pc (put (insAlu p op c)) else put (insAlu p op c))
  else if op = 0x38 ∨ op = 0x3A then insLoad p op (op = 0x3A) pc c.pc (s.mapProc p (fun c => { c with pc := pc }))
  else if op = 0x39 ∨ op = 0x3B then insStore p (op = 0x3B) pc c.pc (s.mapProc p (fun c => { c with pc := pc }))
  else if op = 0x47 then put { c with pc := vectorOf s imm }
  else if op ≤ 0x48 then put (insFlow p op imm c)
  else if op = 0x50 then put (insRds p imm c)
  else if op = 0x51 then put (insWrs p imm c)
  else if op = 0x58 then put (c.setSt 5 1)
  else if op = 0x59 then put (c.setSt 5 0)
  else if op = 0x5A then insWait p imm s
  else if op = 0x5B then put { (c.setSt 5 (topEntry c).2) with pc := (topEntry c).1, rs := c.rs.drop 1 }
  else if op = 0x5C then s.setFld (SU_c_p_STAT (p / 8) (p % 8)) SU_c_p_STAT_SIG 1
  else if op = 0x5D then insBrk p pc s
  else procTrap p 7 (imm % 256) pc s

/-- Microcode from `entry` for an opcode whose effect R308 does not give. -/
def uStart (p entry op imm pc : Nat) (s : State) : State :=
  let c := s.proc p
  let u : Micro := { upc := entry, cnt := c.sp 32, mdr := c.sp 33, urs := [], waiting := false, zero := false, rdy := true, ferr := false,
                     op := op, imm := imm, os0 := c.os, rs0 := c.rs, pc0 := pc, popIe := 0, wrote := false }
  boundary p (uRun p uFuel (s.setProc p { c with u := some u }))

/-! ### Dispatch (R334) -/

/-- Addresses that an instruction of form `form` occupies. -/
def insLen (p form : Nat) : Nat :=
  if p = clove then (if form = 2 then 2 else 1) else form + 1

/-- What the fetch of `n` units from `a` finds: 0 all there, 1 no such address, 2 a miss (with its line). -/
def fetchAt (s : State) (p a : Nat) : Nat → Nat × Nat
  | 0 => (0, 0)
  | n + 1 =>
    if p = clove then
      match extFetch s (a % 2 ^ 24) with
      | .word _ => fetchAt s p (a + 1) n
      | .miss l => (2, l)
      | .bad => (1, 0)
    else if a < 4096 then fetchAt s p (a + 1) n
    else (1, 0)

/-- The parts of a decode table entry (R316). -/
def dtForm (e : Nat) : Nat := bits e 11 2
def dtIn (e : Nat) : Nat := bits e 13 3
def dtOut (e : Nat) : Nat := bits e 16 3
def dtValid (e : Nat) : Bool := bits e 31 1 = 1

def dtEntry (s : State) (p op : Nat) : Nat := ucodeGet s (dtActive s (unitOf p) op)

/-- The instruction has passed its checks: a mismatch injected before is retried, and it acts. -/
def insGo (p op imm pc entry : Nat) (s : State) : State :=
  let next := (pc + insLen p (dtForm entry)) % (if p = clove then 2 ^ 24 else 8192)
  let known := isaHas p op && decide (op < 0xF0)
  let s1 := if p = clove ∧ s.ctl.inject ∧ (known && writesStack op) then lsMismatch 2 pc s else s
  if p = clove ∧ s1.ctl.mchk ≠ 0 then s1
  else
    let s2 := s1.mapProc p (fun c => { c with pc := next })
    if known then
      let s3 := insAct p op imm pc s2
      boundary p (s3.mapProc p (fun c => { c with cyc := c.cyc + insCost p op (decide (c.pc ≠ next)) }))
    else uStart p (bits entry 0 11) op imm pc s2

/-- Dispatch of the instruction that the fetch delivered: fetch, table entry, stack check, effect (R305, R334). -/
def insDispatch (p op imm : Nat) (s : State) : State :=
  let c := s.proc p
  let e := dtEntry s p op
  let f := fetchAt s p c.pc (insLen p (dtForm e))
  if f.1 = 2 then s.mapCtl (fun k => { k with xipWait := some { line := f.2, op := op, imm := imm, micro := false } })
  else if f.1 = 1 then procTrap p 9 0 c.pc s
  else if !parityOk e then parityFail (unitOf p) true op 0 c.pc s
  else if !dtValid e then procTrap p 5 0 c.pc s
  else if c.os.length < dtIn e then procTrap p 2 0 c.pc s
  else if osCap p < c.os.length - dtIn e + dtOut e then procTrap p 1 0 c.pc s
  else match preTrap s p op imm with
    | some t => procTrap p t 0 c.pc s
    | none => insGo p op imm c.pc e s

/-- The processor can dispatch: it runs and no instruction is under way. -/
def canDispatch (s : State) (p : Nat) : Bool :=
  procSt s p = 1 && atBoundary s p && (p ≠ clove || s.ctl.mchk = 0) && procClock s p

/-- The instruction with opcode `op` and immediate `imm` on processor `p`. -/
def cpuIns (p op imm : Nat) (s : State) : State :=
  if canDispatch s p then insDispatch p op imm (dispatchSwap p s) else s

/-! ### The instructions -/

def doNop (p : Nat) (s : State) : State := cpuIns p 0x00 0 s
def doLit8 (p imm : Nat) (s : State) : State := cpuIns p 0x01 imm s
def doLit (p imm : Nat) (s : State) : State := cpuIns p 0x02 imm s
def doDup (p : Nat) (s : State) : State := cpuIns p 0x03 0 s
def doDrop (p : Nat) (s : State) : State := cpuIns p 0x04 0 s
def doSwap (p : Nat) (s : State) : State := cpuIns p 0x05 0 s
def doOver (p : Nat) (s : State) : State := cpuIns p 0x06 0 s
def doRot (p : Nat) (s : State) : State := cpuIns p 0x07 0 s
def doPick (p imm : Nat) (s : State) : State := cpuIns p 0x08 imm s
def doTor (p : Nat) (s : State) : State := cpuIns p 0x09 0 s
def doFromr (p : Nat) (s : State) : State := cpuIns p 0x0A 0 s
def doRfetch (p : Nat) (s : State) : State := cpuIns p 0x0B 0 s
def doAdd (p : Nat) (s : State) : State := cpuIns p 0x10 0 s
def doAdds (p : Nat) (s : State) : State := cpuIns p 0x11 0 s
def doAddus (p : Nat) (s : State) : State := cpuIns p 0x12 0 s
def doAddc (p : Nat) (s : State) : State := cpuIns p 0x13 0 s
def doSub (p : Nat) (s : State) : State := cpuIns p 0x14 0 s
def doSubs (p : Nat) (s : State) : State := cpuIns p 0x15 0 s
def doSubus (p : Nat) (s : State) : State := cpuIns p 0x16 0 s
def doSubb (p : Nat) (s : State) : State := cpuIns p 0x17 0 s
def doNeg (p : Nat) (s : State) : State := cpuIns p 0x18 0 s
def doNegs (p : Nat) (s : State) : State := cpuIns p 0x19 0 s
def doAbs (p : Nat) (s : State) : State := cpuIns p 0x1A 0 s
def doAbss (p : Nat) (s : State) : State := cpuIns p 0x1B 0 s
def doMul (p : Nat) (s : State) : State := cpuIns p 0x1C 0 s
def doMulh (p : Nat) (s : State) : State := cpuIns p 0x1D 0 s
def doMulhu (p : Nat) (s : State) : State := cpuIns p 0x1E 0 s
def doDiv (p : Nat) (s : State) : State := cpuIns p 0x20 0 s
def doDivs (p : Nat) (s : State) : State := cpuIns p 0x21 0 s
def doDivu (p : Nat) (s : State) : State := cpuIns p 0x22 0 s
def doMod (p : Nat) (s : State) : State := cpuIns p 0x23 0 s
def doModu (p : Nat) (s : State) : State := cpuIns p 0x24 0 s
def doAnd (p : Nat) (s : State) : State := cpuIns p 0x28 0 s
def doOr (p : Nat) (s : State) : State := cpuIns p 0x29 0 s
def doXor (p : Nat) (s : State) : State := cpuIns p 0x2A 0 s
def doNot (p : Nat) (s : State) : State := cpuIns p 0x2B 0 s
def doShl (p : Nat) (s : State) : State := cpuIns p 0x2C 0 s
def doShls (p : Nat) (s : State) : State := cpuIns p 0x2D 0 s
def doLsr (p : Nat) (s : State) : State := cpuIns p 0x2E 0 s
def doAsr (p : Nat) (s : State) : State := cpuIns p 0x2F 0 s
def doEq (p : Nat) (s : State) : State := cpuIns p 0x30 0 s
def doLt (p : Nat) (s : State) : State := cpuIns p 0x31 0 s
def doLtu (p : Nat) (s : State) : State := cpuIns p 0x32 0 s
def doZeq (p : Nat) (s : State) : State := cpuIns p 0x33 0 s
def doLd (p : Nat) (s : State) : State := cpuIns p 0x38 0 s
def doSt (p : Nat) (s : State) : State := cpuIns p 0x39 0 s
def doLdinc (p : Nat) (s : State) : State := cpuIns p 0x3A 0 s
def doStinc (p : Nat) (s : State) : State := cpuIns p 0x3B 0 s
def doBr (p imm : Nat) (s : State) : State := cpuIns p 0x40 imm s
def doBz (p imm : Nat) (s : State) : State := cpuIns p 0x41 imm s
def doBnz (p imm : Nat) (s : State) : State := cpuIns p 0x42 imm s
def doJmp (p imm : Nat) (s : State) : State := cpuIns p 0x43 imm s
def doCall (p imm : Nat) (s : State) : State := cpuIns p 0x44 imm s
def doRet (p : Nat) (s : State) : State := cpuIns p 0x45 0 s
def doCalls (p : Nat) (s : State) : State := cpuIns p 0x46 0 s
def doJmps (p : Nat) (s : State) : State := cpuIns p 0x48 0 s
def doRds (p imm : Nat) (s : State) : State := cpuIns p 0x50 imm s
def doWrs (p imm : Nat) (s : State) : State := cpuIns p 0x51 imm s
def doBrk (p : Nat) (s : State) : State := cpuIns p 0x5D 0 s
def doTrap (p imm : Nat) (s : State) : State := cpuIns p 0x5E imm s

/-- Clove only. -/
def doVjmp (imm : Nat) (s : State) : State := cpuIns clove 0x47 imm s
def doEi (s : State) : State := cpuIns clove 0x58 0 s
def doDi (s : State) : State := cpuIns clove 0x59 0 s
def doWait (s : State) : State := cpuIns clove 0x5A 0 s
def doCloveReti (s : State) : State := cpuIns clove 0x5B 0 s

/-- Sumac only. -/
def doWaitev (p imm : Nat) (s : State) : State := cpuIns p 0x5A imm s
def doSig (p : Nat) (s : State) : State := cpuIns p 0x5C 0 s

/-- CUSTOMER_OPCODE: opcode 0xF0 + k. -/
def doCustomerOpcode (p k imm : Nat) (s : State) : State := cpuIns p (0xF0 + k) imm s

/-- ILLEGAL_OPCODE: an opcode whose entry is invalid. -/
def doIllegalOpcode (p op : Nat) (s : State) : State :=
  if canDispatch s p && dtValid (dtEntry (dispatchSwap p s) p op) then s else cpuIns p op 0 s

/-- CLOVE_INTERRUPT_ENTRY. -/
def doCloveInterruptEntry (s : State) : State := if cloveAccepts s then cloveEntry s else s

/-- What a fetch at the PC of processor `p` finds: opcode and immediate, a line to fill, or no such address. -/
inductive Fetch where
  | got (op imm : Nat)
  | miss (line : Nat)
  | bad
  deriving DecidableEq, Repr

/-- The instruction at Clove's PC (R307). -/
def cloveFetch (s : State) : Fetch :=
  let pc := (s.proc clove).pc
  match extFetch s pc with
  | .bad => .bad
  | .miss l => .miss l
  | .word w =>
    if dtForm (dtEntry s clove (w / 256)) = 2 then
      match extFetch s ((pc + 1) % 2 ^ 24) with
      | .bad => .bad
      | .miss l => .miss l
      | .word i => .got (w / 256) i
    else .got (w / 256) (w % 256)

/-- The instruction at a Sumac processor's PC. -/
def sumacFetch (s : State) (p : Nat) : Fetch :=
  let pc := (s.proc p).pc
  let b := fun i => (s.byte (suProg p + (pc + i))).toNat
  let n := dtForm (dtEntry s p (b 0))
  if 4096 ≤ pc then .bad
  else .got (b 0) (if n = 0 then 0 else if n = 1 then b 1 else b 1 + 256 * b 2)

/-- Processor `p` fetches and dispatches one instruction. -/
def stepFetch (p : Nat) (s0 : State) : State :=
  let s := dispatchSwap p s0
  match (if p = clove then cloveFetch s else sumacFetch s p) with
  | .got op imm => insDispatch p op imm s
  | .miss l => s.mapCtl (fun c => { c with xipWait := some { line := l, op := 256, imm := 0, micro := false } })
  | .bad => procTrap p 9 0 (s.proc p).pc s

/-- XIP_LINE_FILL: the line that Clove waits for arrives, or the flash could not be read (`err`). -/
def doXipLineFill (err : Bool) (s : State) : State :=
  match s.ctl.xipWait with
  | none => s
  | some x =>
    let s1 := s.mapCtl (fun c => { c with xipWait := none })
    if s1.ctl.mchk ≠ 0 then s1
    else if x.micro then
      let s2 := if err then s1 else xipFill x.line s1
      let v := match readStart s2 clove x.imm with
        | .val v => v
        | _ => 0
      s2.mapProc clove (fun c => { c with u := c.u.map (fun u =>
        { u with mdr := if err then u.mdr else v, rdy := true, ferr := err }) })
    else if err then procTrap clove 9 0 (s1.proc clove).pc s1
    else if x.op = 256 then boundary clove (stepFetch clove (xipFill x.line s1))
    else insDispatch clove x.op x.imm (xipFill x.line s1)

/-- MICROCODE_COPY_DONE (R327): bank 0 and its table hold the boot image, and Clove starts in the mask ROM. -/
def doMicrocodeCopyDone (s : State) : State :=
  if s.phase ≠ 1 then s
  else
    let s1 := s.mapCtl (fun c => { c with
      ucode := tdrop (fun k => decide (k < 8192 ∨ (65536 ≤ k ∧ k < 65792))) c.ucode
      romBanks := 0 :: c.romBanks.filter (fun b => b ≠ 0) })
    let s2 := (s1.setFld MC_CV_STAT MC_CV_STAT_BANK 0).setFld MC_CV_STAT MC_CV_STAT_UPC 0
    setProcSt ({ s2.setProc clove Cpu.reset with phase := 2 }) clove 1

end Sys2Proof.Machine
end

