-- ==== Sys2Proof/Machine/Qm.lean ====
section
/-! DEFINITION. The queue manager (chapter 10): descriptors, head cache, doorbell operations, watched
queues and initialisation.
Choices and readings: log entries 25 and 33. -/

namespace Sys2Proof.Machine
open R

def State.mapQm (s : State) (f : Qm → Qm) : State := { s with qm := f s.qm }

def qmDesc (s : State) : Nat := s.fld QM_DESC_LO QM_DESC_LO_DESC * 2 ^ 24 + s.fld QM_DESC_HI QM_DESC_HI_DESC * 2 ^ 32
def qmPool (s : State) : Nat := s.fld QM_POOL_LO QM_POOL_LO_POOL * 2 ^ 20 + s.fld QM_POOL_HI QM_POOL_HI_POOL * 2 ^ 32
def poolSize (s : State) : Nat := s.fld QM_POOL_SIZE QM_POOL_SIZE_ELEMS
def freeCount (s : State) : Nat := s.fld QM_FREE_CNT QM_FREE_CNT_COUNT
def setFreeCount (s : State) (n : Nat) : State := s.setFld QM_FREE_CNT QM_FREE_CNT_COUNT n
def descAddr (s : State) (q : Nat) : Nat := qmDesc s + 16 * q
def linkAddr (s : State) (i : Nat) : Nat := qmPool s + 64 * i

def emptyDesc : Desc := { head := 0, tail := 0, count := 0, owner := 0xFF, pin := false, limit := 0, dirty := false, age := 0 }

/-! ### Descriptors in memory and in the cache (R246, R248) -/

/-- A descriptor from its four words. -/
def decodeDesc (w0 w1 w2 w3 : Nat) : Desc :=
  { emptyDesc with
    head := bits w0 0 24, owner := bits w0 24 8, tail := bits w1 0 24, pin := bits w1 24 1 = 1, count := bits w2 0 25,
    limit := bits w3 0 25 }

/-- The bytes of a descriptor; HEAD and TAIL of an empty queue are free values (R246). -/
def descBytes (s : State) (d : Desc) : List Byte :=
  let f := s.free .queueEnds
  let h := if d.count = 0 then f % 2 ^ 24 else d.head
  let t := if d.count = 0 then f / 2 ^ 24 % 2 ^ 24 else d.tail
  leBytes 4 (h + d.owner * 2 ^ 24) ++ leBytes 4 (t + b2n d.pin * 2 ^ 24) ++ leBytes 4 d.count ++ leBytes 4 d.limit

/-- Writes a descriptor to the table. -/
def writeDesc (q : Nat) (d : Desc) (s : State) : State := ((engWrite 32 s (descAddr s q) (descBytes s d)).2).freeNext

/-- The descriptor of queue `q`, with whether its read was uncorrectable. -/
def readDesc (s : State) (q : Nat) : Desc × Bool × State :=
  let r := engRead 32 s (descAddr s q) 16
  let w := fun (i : Nat) => leNat ((r.data.drop (4 * i)).take 4)
  (decodeDesc (w 0) (w 1) (w 2) (w 3), r.ecc, r.s)

def cachedDesc (s : State) (q : Nat) : Option Desc := (s.qm.cache.find? (fun e => e.1 = q)).map (·.2)

def putCache (q : Nat) (d : Desc) (s : State) : State := s.mapQm (fun m => { m with cache := tput { emptyDesc with age := 0, owner := 0x100 } m.cache q d })

/-- The members of the set of queue `q`. -/
def cacheSet (s : State) (q : Nat) : List (Nat × Desc) := s.qm.cache.filter (fun e => e.1 % 2048 = q % 2048)

/-- The least recently used queue of a set that is not pinned. -/
def cacheVictim (l : List (Nat × Desc)) : Option (Nat × Desc) :=
  (l.filter (fun e => !e.2.pin)).foldl (fun b e =>
    match b with
    | none => some e
    | some x => if e.2.age < x.2.age then some e else some x) none

/-- Makes room in the set of `q`: a dirty victim is written back. -/
def makeRoom (q : Nat) (s : State) : State :=
  if (cacheSet s q).length < 4 then s
  else match cacheVictim (cacheSet s q) with
    | none => s
    | some e =>
      let s1 := if e.2.dirty then writeDesc e.1 e.2 s else s
      s1.mapQm (fun m => { m with cache := tdrop (· = e.1) m.cache })

/-- Descriptor `q` changes in the cache. -/
def updateDesc (q : Nat) (f : Desc → Desc) (s : State) : State :=
  match cachedDesc s q with
  | some d =>
    let n := { f d with dirty := true }
    (putCache q n s).mapQm (fun m => { m with nonEmpty := tput false m.nonEmpty q (decide (n.count ≠ 0)) })
  | none => s

/-- An uncorrectable read for queue `q` closes it (R256). -/
def closeQueue (q : Nat) (s : State) : State :=
  updateDesc q (fun d => { d with owner := 0xFF }) (s.setFld QM_ERR QM_ERR_ECC 1)

/-- Brings descriptor `q` into the cache and marks its use; the answer says that the fetch was uncorrectable. -/
def touchDesc (q : Nat) (s : State) : Bool × State :=
  let stamp := fun (s : State) => s.mapQm (fun m => { m with uses := m.uses + 1 })
  match cachedDesc s q with
  | some d => (false, stamp (putCache q { d with age := s.qm.uses + 1 } s))
  | none =>
    let s1 := makeRoom q s
    let r := readDesc s1 q
    let s2 := stamp (putCache q { r.1 with dirty := false, age := s.qm.uses + 1 } r.2.2)
    if r.2.1 then (true, closeQueue q s2) else (false, s2)

/-! ### Elements (R247) -/

/-- The next element of element `i`, with whether the read was uncorrectable. -/
def readLink (s : State) (i : Nat) : Nat × Bool × State :=
  let r := engRead 32 s (linkAddr s i) 4
  (leNat r.data % 2 ^ 24, r.ecc, r.s)

def writeLink (i n : Nat) (s : State) : State := memPut 32 s (linkAddr s i) 4 (n % 2 ^ 24)

/-! ### Operations (R250 to R253) -/

/-- Status codes of R252. -/
def qmOk : Nat := 0
def qmEmpty : Nat := 1
def qmDenied : Nat := 2
def qmClosed : Nat := 3
def qmBadIndex : Nat := 4
def qmFull : Nat := 5
def qmBusy : Nat := 6
def qmIllegal : Nat := 7

/-- Status, value and state after an operation. -/
structure QmOut where
  status : Nat
  value : Nat
  s : State

def qmFail (st : Nat) (s : State) : QmOut := { status := st, value := 0, s := s }
def qmDone (v : Nat) (s : State) : QmOut := { status := 0, value := v, s := s }

/-- Owner code of a requester; none for one that can own no queue. -/
def ownerCode (ag : Agent) : Option Nat :=
  match ag with
  | .clove => some 0x01
  | .sumac c _ => some (0x10 + c)
  | .tileDma t => some (0x20 + t)
  | .trunk => some 0x30
  | _ => none

/-- The requester counts as owner of a queue of owner code `o` (R251). -/
def qmOwns (ag : Agent) (o : Nat) : Bool := ag = .clove || o = 0 || ownerCode ag = some o

def descOf (s : State) (q : Nat) : Desc := (cachedDesc s q).getD emptyDesc

/-- Operations that need the owner of q. -/
def needsOwner (op : Nat) : Bool := op = 2 || op = 3 || op = 4 || op = 5 || op = 6

/-- Operations that write. -/
def qmWrites (op : Nat) : Bool := op = 0 || op = 1 || op = 4 || op = 5 || op = 6 || op = 9 || decide (10 ≤ op)

/-- `n` more elements would exceed the limit of `d`. -/
def overLimit (d : Desc) (n : Nat) : Bool := decide (d.limit ≠ 0) && decide (d.limit < d.count + n)

/-- An uncorrectable link of queue `q` (R256). -/
def qmEcc (q : Nat) (s : State) : QmOut := qmFail qmBadIndex (closeQueue q s)

def qmEnqTail (q e : Nat) (s : State) : QmOut :=
  let d := descOf s q
  if overLimit d 1 then qmFail qmFull s
  else if d.count = 0 then qmDone 0 (updateDesc q (fun d => { d with head := e, tail := e, count := 1 }) s)
  else qmDone 0 (updateDesc q (fun d => { d with tail := e, count := d.count + 1 }) (writeLink d.tail e s))

def qmEnqHead (q e : Nat) (s : State) : QmOut :=
  let d := descOf s q
  if overLimit d 1 then qmFail qmFull s
  else if d.count = 0 then qmDone 0 (updateDesc q (fun d => { d with head := e, tail := e, count := 1 }) s)
  else qmDone 0 (updateDesc q (fun d => { d with head := e, count := d.count + 1 }) (writeLink e d.head s))

/-- Takes the head off queue `q`: the element, or an uncorrectable link. -/
def takeHead (q : Nat) (s : State) : Option Nat × State :=
  let d := descOf s q
  if d.count ≤ 1 then (some d.head, updateDesc q (fun d => { d with count := 0 }) s)
  else
    let l := readLink s d.head
    if l.2.1 then (none, l.2.2)
    else (some d.head, updateDesc q (fun d => { d with head := l.1, count := d.count - 1 }) l.2.2)

def qmDeq (q : Nat) (s : State) : QmOut :=
  if (descOf s q).count = 0 then qmFail qmEmpty s
  else match takeHead q s with
    | (some e, s1) => qmDone e s1
    | (none, s1) => qmEcc q s1

def qmPeek (q : Nat) (s : State) : QmOut :=
  if (descOf s q).count = 0 then qmFail qmEmpty s else qmDone (descOf s q).head s

/-- MOVE: the head of q to the tail of d, or with `front` to its head. -/
def qmMove (q d : Nat) (front : Bool) (s : State) : QmOut :=
  if (descOf s q).count = 0 then qmFail qmEmpty s
  else if overLimit (descOf s d) (if d = q then 0 else 1) then qmFail qmFull s
  else if d = q ∧ front then qmDone 0 s
  else match takeHead q s with
    | (none, s1) => qmEcc q s1
    | (some e, s1) => { (if front then qmEnqHead d e s1 else qmEnqTail d e s1) with status := 0, value := 0 }

/-- SPLICE. A splice of a queue to itself leaves it as it is (notes/assumptions/25.md). -/
def qmSplice (q d : Nat) (s : State) : QmOut :=
  let a := descOf s q
  let b := descOf s d
  if a.count = 0 ∨ q = d then qmDone 0 s
  else if overLimit b a.count then qmFail qmFull s
  else
    let s1 := if b.count = 0 then s else writeLink b.tail a.head s
    let s2 := updateDesc d (fun d => { d with head := if d.count = 0 then a.head else d.head, tail := a.tail, count := d.count + a.count }) s1
    qmDone 0 (updateDesc q (fun d => { d with count := 0 }) s2)

/-- FLUSH: the queue's list goes to the head of the free pool (notes/assumptions/25.md). -/
def qmFlush (q : Nat) (s : State) : QmOut :=
  let d := descOf s q
  if d.count = 0 then qmDone 0 s
  else
    let s1 := if freeCount s = 0 then s else writeLink d.tail s.qm.freeHead s
    let s2 := (setFreeCount s1 (freeCount s + d.count)).mapQm (fun m => { m with freeHead := d.head })
    qmDone 0 (updateDesc q (fun d => { d with count := 0 }) s2)

def qmAlloc (s : State) : QmOut :=
  if freeCount s = 0 then qmFail qmEmpty s
  else
    let e := s.qm.freeHead
    if freeCount s = 1 then qmDone e (setFreeCount s 0)
    else
      let l := readLink s e
      if l.2.1 then qmFail qmBadIndex (l.2.2.setFld QM_ERR QM_ERR_ECC 1)
      else qmDone e ((setFreeCount l.2.2 (freeCount s - 1)).mapQm (fun m => { m with freeHead := l.1 }))

def qmFree (e : Nat) (s : State) : QmOut :=
  let s1 := if freeCount s = 0 then s else writeLink e s.qm.freeHead s
  qmDone 0 ((setFreeCount s1 (freeCount s + 1)).mapQm (fun m => { m with freeHead := e }))

/-- The operation itself, its checks 1 to 5 passed. -/
def qmAct (op q data : Nat) (s : State) : QmOut :=
  let e := bits data 0 24
  let d := bits data 0 20
  match op with
  | 0 => qmEnqTail q e s
  | 1 => qmEnqHead q e s
  | 2 => qmDeq q s
  | 3 => qmPeek q s
  | 4 => qmMove q d (bits data 31 1 = 1) s
  | 5 => qmSplice q d s
  | 6 => qmFlush q s
  | 7 => qmDone (min (descOf s q).count 0xFFFFFF) s
  | 8 => qmAlloc s
  | _ => qmFree e s

/-- The queues whose descriptors an operation needs. -/
def qmQueues (op q data : Nat) : List Nat :=
  if op = 8 ∨ op = 9 then [] else if op = 4 ∨ op = 5 then [q, bits data 0 20] else [q]

/-- Checks 3 to 5 of R253 on cached descriptors. -/
def qmCheck (ag : Agent) (op q data : Nat) (s : State) : Nat :=
  if (qmQueues op q data).any (fun x => (descOf s x).owner = 0xFF) then qmClosed
  else if (ag = .dap && qmWrites op) || (needsOwner op && !qmOwns ag (descOf s q).owner) then qmDenied
  else if (op = 0 || op = 1 || op = 9) && decide (poolSize s ≤ bits data 0 24) then qmBadIndex
  else 0

/-- Checks 1 and 2: the queue manager is off or initialising; a malformed access. -/
def qmEarly (op q : Nat) (form : Bool) (s : State) : Nat :=
  if !s.flag QM_CTL QM_CTL_EN || s.flag QM_STAT QM_STAT_DESC_BUSY || s.flag QM_STAT QM_STAT_POOL_BUSY then qmBusy
  else if !form || 10 ≤ op || ((op = 8 || op = 9) && q ≠ 0) then qmIllegal
  else 0

/-- Brings the descriptors of an operation into the cache. -/
def touchAll (l : List Nat) (s : State) : Bool × State :=
  l.foldl (fun a q => let r := touchDesc q a.2; (a.1 || r.1, r.2)) (false, s)

/-- One operation from check 3 on. -/
def qmRun (ag : Agent) (op q data : Nat) (s : State) : QmOut :=
  let r := touchAll (qmQueues op q data) s
  if r.1 then qmFail qmBadIndex r.2
  else
    let c := qmCheck ag op q data r.2
    if c ≠ 0 then qmFail c r.2 else qmAct op q data r.2

/-- The QM_ERR bit of a status. -/
def qmErrFld (st : Nat) : Option Fld :=
  match st with
  | 2 => some QM_ERR_DENIED
  | 3 => some QM_ERR_CLOSED
  | 4 => some QM_ERR_BADINDEX
  | 5 => some QM_ERR_FULL
  | 6 => some QM_ERR_BUSY
  | 7 => some QM_ERR_ILLEGAL
  | _ => none

/-- A failed write is recorded (R253). -/
def qmRecord (op q st : Nat) (s : State) : State :=
  match (if qmWrites op then qmErrFld st else none) with
  | none => s
  | some f =>
    let s1 := if s.reg QM_ERR = 0 then s.setFlds QM_ERR_Q [(QM_ERR_Q_Q, q), (QM_ERR_Q_OP, op), (QM_ERR_Q_STATUS, st)] else s
    s1.setFld QM_ERR f 1

/-- The result word (R252). -/
def qmWord (st v : Nat) : Nat := (if st = 0 then v else 0) + st * 2 ^ 24 + (if st = 0 then 2 ^ 31 else 0)

/-! ### Watched queues (R257, R258) -/

def queueHas (s : State) (q : Nat) : Bool := tget false s.qm.nonEmpty q

/-- The level that watch entry `w` sees. -/
def watchLevel (s : State) (w : Nat) : Bool :=
  let a := QM_W_w_CFG w
  let q := s.fld a QM_W_w_CFG_QUEUE
  s.flag a QM_W_w_CFG_EN &&
    (if s.flag a QM_W_w_CFG_GROUP then s.qm.nonEmpty.any (fun e => e.1 / 64 = q / 64 && e.2) else queueHas s q)

/-- Pending bits follow the levels; a bit that becomes set is an event of R315. -/
def watchSettle (s : State) : State :=
  (s.listed (QM_W_w_CFG 0) 4 4096).foldl (fun s w =>
    if watchLevel s w && !s.flag (QM_W_PEND_i (w / 32)) ⟨w % 32, 1⟩ then
      evWatch w (s.setFld (QM_W_PEND_i (w / 32)) ⟨w % 32, 1⟩ 1)
    else s) s

/-! ### Doorbells -/

/-- A finished operation: its error record, the watch bits and the requester's result. -/
def qmFinish (ag : Agent) (op q : Nat) (r : QmOut) : State :=
  (watchSettle (qmRecord op q r.status r.s)).mapQm (fun m => { m with
    results := tput 0 m.results (portNo ag) (qmWord r.status r.value) })

/-- Waiting operations whose descriptors are cached, in order; one on a queue of an earlier waiting
operation stays behind it (R254). -/
def runWaiting (blocked : List Nat) : List QmWait → State → State
  | [], s => s
  | w :: t, s =>
    let qs := qmQueues w.op w.q w.data
    if qs.all (fun q => (cachedDesc s q).isSome && !blocked.contains q) then
      runWaiting blocked t (qmFinish w.ag w.op w.q (qmRun w.ag w.op w.q w.data s))
    else runWaiting (qs ++ blocked) t (s.mapQm (fun m => { m with waiting := m.waiting ++ [w] }))

def runAllWaiting (s : State) : State := runWaiting [] s.qm.waiting (s.mapQm (fun m => { m with waiting := [] }))

/-- QM_DESCRIPTOR_FETCH_DONE of queue `q`: it comes into the cache, or an uncorrectable read refuses the
first operation that waits for it and closes it (R255, R256). -/
def doQmDescriptorFetchDone (q : Nat) (s : State) : State :=
  match s.qm.waiting.find? (fun w => (qmQueues w.op w.q w.data).contains q) with
  | none => s
  | some w =>
    let r := touchDesc q s
    if r.1 then
      runAllWaiting (qmFinish w.ag w.op w.q (qmFail qmBadIndex (r.2.mapQm (fun m => { m with waiting := m.waiting.erase w }))))
    else runAllWaiting r.2

/-- Every fetch completes, and with it every waiting operation. -/
def drainWaiting (s : State) : State :=
  (s.qm.waiting.flatMap (fun w => qmQueues w.op w.q w.data)).foldl (fun s q => doQmDescriptorFetchDone q s) s

/-- Counts hits and misses (R248). -/
def countCache (l : List Nat) (s : State) : State :=
  l.foldl (fun s q => if (cachedDesc s q).isSome then s.incSat QM_CACHE_HIT QM_CACHE_HIT_COUNT
    else s.incSat QM_CACHE_MISS QM_CACHE_MISS_COUNT) s

/-- A doorbell operation: on a cache miss, or behind another that waits for the same queue, it waits. -/
def doDoorbell (ag : Agent) (op q data : Nat) (s : State) : State :=
  let e := qmEarly op q true s
  if e ≠ 0 then qmFinish ag op q (qmFail e s)
  else
    let qs := qmQueues op q data
    let s1 := countCache qs s
    let busy := s.qm.waiting.any (fun w => (qmQueues w.op w.q w.data).any qs.contains)
    if qs.all (fun q => (cachedDesc s q).isSome) && !busy then qmFinish ag op q (qmRun ag op q data s1)
    else s1.mapQm (fun m => { m with waiting := m.waiting ++ [{ ag := ag, op := op, q := q, data := data }] })

/-- A doorbell access of another unit, which holds the unit until its result returns. -/
def doorbellNow (ag : Agent) (op q data : Nat) (form : Bool) (s : State) : Nat × State :=
  let s0 := drainWaiting s
  let e := qmEarly op q form s0
  let r := if e ≠ 0 then qmFail e s0 else qmRun ag op q data (countCache (qmQueues op q data) s0)
  (qmWord r.status r.value, qmFinish ag op q r)

/-- QM_ILLEGAL_OPERATION: an operation code from 10 on, a queue with ALLOC or FREE, or a malformed access. -/
def doQmIllegalOperation (ag : Agent) (op q : Nat) (s : State) : State :=
  let e := qmEarly op q false s
  qmFinish ag op q (qmFail e s)

/-! ### Configuration (R248, R259, R260) -/

/-- Writes back every dirty descriptor. -/
def writeBackAll (s : State) : State :=
  (s.qm.cache.filter (fun e => e.2.dirty)).foldl (fun s e =>
    (writeDesc e.1 e.2 s).mapQm (fun m => { m with
      cache := m.cache.map (fun x => if x.1 = e.1 then (x.1, { x.2 with dirty := false }) else x) })) s

def doInitDesc (s : State) : State := if s.flag QM_CTL QM_CTL_EN then s else s.setFld QM_STAT QM_STAT_DESC_BUSY 1
def doInitPool (s : State) : State := if s.flag QM_CTL QM_CTL_EN then s else s.setFld QM_STAT QM_STAT_POOL_BUSY 1

/-- INIT_DESC_DONE: every descriptor is set, the cache is empty and so is every queue. -/
def doInitDescDone (s : State) : State :=
  if !s.flag QM_STAT QM_STAT_DESC_BUSY then s
  else
    let s1 := (List.range 0x100000).foldl (fun s q => writeDesc q emptyDesc s) s
    (s1.setFld QM_STAT QM_STAT_DESC_BUSY 0).mapQm (fun m => { m with cache := [], nonEmpty := [] })

/-- INIT_POOL_DONE: elements 0 to the last in ascending order. -/
def doInitPoolDone (s : State) : State :=
  if !s.flag QM_STAT QM_STAT_POOL_BUSY then s
  else
    let s1 := (List.range (poolSize s - 1)).foldl (fun s i => writeLink i (i + 1) s) s
    ((setFreeCount s1 (poolSize s)).setFld QM_STAT QM_STAT_POOL_BUSY 0).mapQm (fun m => { m with freeHead := 0 })

def doQmWriteBack (s : State) : State := s.setFld QM_STAT QM_STAT_WB_BUSY 1

/-- QM_WRITE_BACK_DONE; after EN was cleared EN_OUT reads 0. -/
def doQmWriteBackDone (s : State) : State :=
  if !s.flag QM_STAT QM_STAT_WB_BUSY then s
  else
    let s1 := (writeBackAll s).setFld QM_STAT QM_STAT_WB_BUSY 0
    if s.flag QM_CTL QM_CTL_EN then s1 else s1.setFld QM_STAT QM_STAT_EN_OUT 0

/-- QM_ENABLE_WRITE. -/
def doQmEnableWrite (en : Bool) (s : State) : State :=
  if en then (s.setFld QM_CTL QM_CTL_EN 1).setFld QM_STAT QM_STAT_EN_OUT 1
  else if s.flag QM_CTL QM_CTL_EN then (s.setFld QM_CTL QM_CTL_EN 0).setFld QM_STAT QM_STAT_WB_BUSY 1
  else s

/-- A write of QM_CTL. The initialisations look at EN as it was before the write. -/
def writeQmCtl (v : Word) (s : State) : State :=
  let en := s.fld QM_CTL QM_CTL_EN
  let s1 := (s.writeByType QM_CTL v).setFld QM_CTL QM_CTL_EN en
  let s2 := if bits v.toNat 1 1 = 1 then doInitDesc s1 else s1
  let s3 := if bits v.toNat 2 1 = 1 then doInitPool s2 else s2
  let s4 := if bits v.toNat 3 1 = 1 then doQmWriteBack s3 else s3
  doQmEnableWrite (bits v.toNat 0 1 = 1) s4

def qmWriter (ag : Agent) : Bool := ag = .clove || ag = .dap

def qmGuard (ag : Agent) (s : State) (f : State → State) : State :=
  if qmWriter ag then f s else s.setFld QM_ERR QM_ERR_CFG_WRITER 1

/-- Owner codes of R251. -/
def validOwner (o : Nat) : Bool :=
  o = 0 || o = 1 || (0x10 ≤ o && o ≤ 0x1B) || (0x20 ≤ o && o ≤ 0x2B) || o = 0x30 || o = 0xFF

def qmSel (s : State) : Nat := s.fld QM_QSEL QM_QSEL_Q

/-- Pinned queues of the set of `q` other than `q`. -/
def pinnedOthers (s : State) (q : Nat) : Nat := ((cacheSet s q).filter (fun e => e.2.pin && e.1 ≠ q)).length

/-- QM_QCFG_WRITE. -/
def doQmQcfgWrite (ag : Agent) (v : Word) (s : State) : State :=
  qmGuard ag s (fun s =>
    let o := bits v.toNat 0 8
    let pin := decide (bits v.toNat 8 1 = 1)
    if !validOwner o then s.setFld QM_ERR QM_ERR_CFG_CODE 1
    else
      let r := touchDesc (qmSel s) s
      if pin && decide (2 ≤ pinnedOthers r.2 (qmSel s)) then r.2.setFld QM_ERR QM_ERR_PIN_FULL 1
      else updateDesc (qmSel s) (fun d => { d with owner := o, pin := pin }) r.2)

/-- QM_QLIM_WRITE. -/
def doQmQlimWrite (ag : Agent) (v : Word) (s : State) : State :=
  qmGuard ag s (fun s =>
    updateDesc (qmSel s) (fun d => { d with limit := bits v.toNat 0 25 }) (touchDesc (qmSel s) s).2)

def writeQsel (ag : Agent) (v : Word) (s : State) : State := qmGuard ag s (fun s => s.writeByType QM_QSEL v)

/-- A write of QM_POOL_SIZE: ignored while EN is 1. -/
def writePoolSize (v : Word) (s : State) : State :=
  if s.flag QM_CTL QM_CTL_EN then s else s.writeByType QM_POOL_SIZE v

/-- The selected queue's descriptor without any effect on the cache. -/
def selDesc (s : State) : Desc := (cachedDesc s (qmSel s)).getD (readDesc s (qmSel s)).1

def readQcfg (s : State) : Word := BitVec.ofNat 32 ((selDesc s).owner + b2n (selDesc s).pin * 256)
def readQlim (s : State) : Word := BitVec.ofNat 32 (selDesc s).limit
def readQstat (s : State) : Word :=
  BitVec.ofNat 32 ((selDesc s).count + b2n (cachedDesc s (qmSel s)).isSome * 2 ^ 25 + b2n (queueHas s (qmSel s)) * 2 ^ 26)

/-- WATCH_CFG_WRITE. -/
def doWatchCfgWrite (w : Nat) (v : Word) (s : State) : State := watchSettle (s.writeByType (QM_W_w_CFG w) v)

/-- WATCH_PEND_CLEAR. -/
def doWatchPendClear (i : Nat) (v : Word) (s : State) : State := watchSettle (s.writeByType (QM_W_PEND_i i) v)

end Sys2Proof.Machine
end

