-- ==== Sys2Proof/Machine/DmaCtl.lean ====
section
/-! DEFINITION. DMA channels (chapter 11): descriptors, active and shadow set, control bits and states.
Engine 12 is the trunk. Bursts and fetches are in DmaRun.lean.
Choices and readings: log entry 34. -/

namespace Sys2Proof.Machine
open R

/-- Channels of an engine. -/
def dmaChannels (e : Nat) : Nat := if e < 12 then 16 else 64

/-- Address of the group of channel `c`. -/
def dmaBase (e c : Nat) : Nat := if e < 12 then DMA_t_CH_c_W0 e c else TDMA_CH_c_W0 c
def dmaCtl (e c : Nat) : Nat := dmaBase e c + 0x20
def dmaStat (e c : Nat) : Nat := dmaBase e c + 0x24
def dmaRemain (e c : Nat) : Nat := dmaBase e c + 0x28
def dmaCurLo (e c : Nat) : Nat := dmaBase e c + 0x2C
def dmaCurHi (e c : Nat) : Nat := dmaBase e c + 0x30
def dmaNextLo (e c : Nat) : Nat := dmaBase e c + 0x34
def dmaNextHi (e c : Nat) : Nat := dmaBase e c + 0x38

def dmaAgent (e : Nat) : Agent := if e < 12 then .tileDma e else .trunk

def State.dmaOf (s : State) (e c : Nat) : DmaCh := tget DmaCh.reset s.dma (64 * e + c)
def State.mapDma (s : State) (e c : Nat) (f : DmaCh → DmaCh) : State :=
  { s with dma := tput DmaCh.reset s.dma (64 * e + c) (f (s.dmaOf e c)) }

def dmaState (s : State) (e c : Nat) : Nat := s.fld (dmaStat e c) DMA_t_CH_c_STAT_STATE

/-- STATE and the engine's busy bit. -/
def setDmaState (e c st : Nat) (s : State) : State :=
  let b := b2n (st ≠ 0)
  let s1 := s.setFld (dmaStat e c) DMA_t_CH_c_STAT_STATE st
  if e < 12 then s1.setFld (DMA_t_BUSY e) ⟨c, 1⟩ b
  else if c < 32 then s1.setFld TDMA_BUSY_LO ⟨c, 1⟩ b
  else s1.setFld TDMA_BUSY_HI ⟨c - 32, 1⟩ b

/-! ### The active descriptor (R263) -/

def dWord (d : DmaCh) (i : Nat) : Nat := d.w.getD i 0 % 2 ^ 32
def dSrc (d : DmaCh) : Nat := dWord d 0 + bits (dWord d 1) 0 8 * 2 ^ 32
def dDst (d : DmaCh) : Nat := dWord d 2 + bits (dWord d 3) 0 8 * 2 ^ 32
def dSw (d : DmaCh) : Nat := bits (dWord d 1) 8 3
def dDw (d : DmaCh) : Nat := bits (dWord d 3) 8 3
def dSmode (d : DmaCh) : Nat := bits (dWord d 1) 12 2
def dDmode (d : DmaCh) : Nat := bits (dWord d 3) 12 2
def dCount (d : DmaCh) : Nat := bits (dWord d 4) 0 24
def dIdx (d : DmaCh) : Nat := bits (dWord d 5) 0 24
def dEoc (d : DmaCh) : Bool := bits (dWord d 5) 24 1 = 1
def dInt (d : DmaCh) : Bool := bits (dWord d 5) 25 1 = 1
def dJust (d : DmaCh) : Nat := bits (dWord d 5) 26 2
def dWb (d : DmaCh) : Bool := bits (dWord d 5) 28 1 = 1
def dLink (d : DmaCh) : Nat := dWord d 6 + bits (dWord d 7) 0 8 * 2 ^ 32

/-- Bytes and bits of a width code. -/
def dmaBytes (w : Nat) : Nat := if w = 0 then 1 else if w = 1 then 2 else if w = 2 then 3 else if w = 3 then 4 else 8
def dmaBits (w : Nat) : Nat := 8 * dmaBytes w

/-- An element of width code `w` must be naturally aligned (R267). -/
def misaligned (w a : Nat) : Bool := (w = 1 || w = 3 || w = 4) && a % dmaBytes w ≠ 0

/-- The checks of R267 that are made when a descriptor enters the active set. -/
def descBad (e : Nat) (d : DmaCh) : Bool :=
  4 < dSw d || 4 < dDw d || dSmode d = 3 || dDmode d = 3 || dJust d = 3 || dCount d = 0 ||
  (e = 12 && (dSmode d = 2 || dDmode d = 2)) ||
  (e < 12 && (dSmode d = 2 || dDmode d = 2) && dIdx d % 4 ≠ 0) ||
  (dSmode d = 1 && dSw d = 2) || (dDmode d = 1 && dDw d = 2) ||
  (!dEoc d && dLink d % 32 ≠ 0) ||
  (dSmode d ≠ 2 && misaligned (dSw d) (dSrc d)) || (dDmode d ≠ 2 && misaligned (dDw d) (dDst d))

def curMem (s : State) (e c : Nat) : Bool := s.flag (dmaCurHi e c) DMA_t_CH_c_CUR_HI_MEM
def curAddr (s : State) (e c : Nat) : Nat := (s.reg (dmaCurLo e c)).toNat + 2 ^ 32 * s.fld (dmaCurHi e c) DMA_t_CH_c_CUR_HI_CUR

/-- A memory write by an engine: in its own tile's window by the local path of R261. -/
def dmaMemWrite (e : Nat) (a : Nat) (l : List Byte) (s : State) : State :=
  let t := (a - 0x1000000000) / 0x1000000
  if e < 12 ∧ 0x1000000000 ≤ a ∧ t = e then
    let o := a % 0x1000000
    if o + l.length ≤ 0x400000 then ownedWrite s e (o / 0x80000) 4 (o % 0x80000) l
    else if 0x400000 ≤ o ∧ o + l.length ≤ 0x410000 then bankWrite s e 8 (o - 0x400000) l
    else s
  else (memWrite s a l).2

/-- STATUS goes back to a descriptor that came from memory, if it asks for it (R271, R276). -/
def dmaWriteBack (e c st : Nat) (s : State) : State :=
  if curMem s e c && dWb (s.dmaOf e c) then dmaMemWrite e (curAddr s e c + 0x13) [BitVec.ofNat 8 st] s else s

/-- The active descriptor ends incomplete: INCOMPLETE, REMAIN and STATUS with `extra` (R276). -/
def dmaIncomplete (e c extra : Nat) (s : State) : State :=
  let d := s.dmaOf e c
  let s1 := s.setFld (dmaStat e c) DMA_t_CH_c_STAT_INCOMPLETE 1
  let s2 := s1.setReg (dmaRemain e c) (BitVec.ofNat 32 (dCount d - d.moved))
  dmaWriteBack e c (2 + 4 * b2n d.refused + extra) s2

/-- An error of R277 with a descriptor in the active set. -/
def dmaError (e c code : Nat) (s : State) : State :=
  setDmaState e c 6 ((dmaIncomplete e c 8 s).setFld (dmaStat e c) DMA_t_CH_c_STAT_ERR code)

/-- An error of a fetch: no descriptor is in the active set. -/
def dmaFetchError (e c code : Nat) (s : State) : State :=
  setDmaState e c 6 ((s.setFld (dmaStat e c) DMA_t_CH_c_STAT_ERR code).setFld (dmaStat e c) DMA_t_CH_c_STAT_INCOMPLETE 1)

/-- A descriptor enters the active set (R267, R270). `mem` is its address if it came from memory. -/
def enterActive (e c : Nat) (w : List Nat) (mem : Option Nat) (s : State) : State :=
  let d : DmaCh := { s.dmaOf e c with w := w, moved := 0, refused := false }
  let s1 := s.mapDma e c (fun _ => d)
  let a := mem.getD 0
  let s2 := ((s1.setReg (dmaRemain e c) (BitVec.ofNat 32 (dCount d))).setReg (dmaCurLo e c) (BitVec.ofNat 32 a)).setReg
    (dmaCurHi e c) (BitVec.ofNat 32 (a / 2 ^ 32 + b2n mem.isSome * 2 ^ 31))
  if descBad e d then dmaError e c 1 s2
  else setDmaState e c (if e < 12 && s.flag (dmaCtl e c) DMA_t_CH_c_CTL_TICK then 3 else 2) s2

/-- The eight words of the shadow set. -/
def shadowWords (s : State) (e c : Nat) : List Nat := (List.range 8).map (fun i => (s.reg (dmaBase e c + 4 * i)).toNat)

def setArm (e c b : Nat) (s : State) : State :=
  (s.setFld (dmaCtl e c) DMA_t_CH_c_CTL_ARM b).setFld (dmaStat e c) DMA_t_CH_c_STAT_ARMED b

/-- Copies the shadow set; ARM clears (R272). -/
def copyShadow (e c : Nat) (s : State) : State := enterActive e c (shadowWords s e c) none (setArm e c 0 s)

/-- Starts a fetch. -/
def startFetch (e c a : Nat) (reread : Bool) (s : State) : State :=
  setDmaState e c 1 (s.mapDma e c (fun d => { d with fetch := a, reread := reread }))

/-! ### Control bits (R272 to R276) -/

/-- ARM. -/
def doArm (e c : Nat) (s : State) : State :=
  let s1 := setArm e c 1 s
  if dmaState s e c = 0 ∨ dmaState s e c = 4 then copyShadow e c s1 else s1

def nextAddr (s : State) (e c : Nat) : Nat := (s.reg (dmaNextLo e c)).toNat + 2 ^ 32 * s.fld (dmaNextHi e c) DMA_t_CH_c_NEXT_HI_NEXT

/-- GO. -/
def doGo (e c : Nat) (s : State) : State :=
  if (dmaState s e c = 0 || dmaState s e c = 4) && s.flag (dmaNextHi e c) DMA_t_CH_c_NEXT_HI_VALID then
    startFetch e c (nextAddr s e c) false s
  else s

/-- The channel stops at a descriptor boundary; `next` is the link it would have fetched (R275). -/
def dmaStopNow (e c : Nat) (next : Option Nat) (s : State) : State :=
  let a := next.getD 0
  let s1 := (s.setReg (dmaNextLo e c) (BitVec.ofNat 32 a)).setReg (dmaNextHi e c) (BitVec.ofNat 32 (a / 2 ^ 32 + b2n next.isSome * 2 ^ 31))
  setDmaState e c 0 ((s1.setFld (dmaStat e c) DMA_t_CH_c_STAT_STOPPED 1).mapDma e c (fun d => { d with stop := false }))

/-- DMA_STOP: at once where the channel is at a descriptor boundary, else when its descriptor completes. -/
def doDmaStop (e c : Nat) (s : State) : State :=
  match dmaState s e c with
  | 0 => s
  | 1 => dmaStopNow e c (if (s.dmaOf e c).reread then none else some (s.dmaOf e c).fetch) s
  | 4 => dmaStopNow e c none s
  | 6 => s
  | _ => s.mapDma e c (fun d => { d with stop := true })

/-- DMA_RESET: every burst of the model is complete between commands, so a burst boundary is now. -/
def doDmaReset (e c : Nat) (s : State) : State :=
  let st := dmaState s e c
  let s1 := if st = 2 ∨ st = 3 ∨ st = 5 then dmaIncomplete e c 0 s else s
  let s2 := (setArm e c 0 s1).setFlds (dmaStat e c) [(DMA_t_CH_c_STAT_APP_PEND, 0), (DMA_t_CH_c_STAT_ERR, 0)]
  setDmaState e c 0 (s2.mapDma e c (fun d => { d with stop := false, loss := 0 }))

/-- APPEND (R274). -/
def doAppend (e c : Nat) (s : State) : State :=
  if dmaState s e c = 4 ∧ curMem s e c then startFetch e c (curAddr s e c) true s
  else s.setFld (dmaStat e c) DMA_t_CH_c_STAT_APP_PEND 1

/-- Bits of the control register that a write stores: PRIO, RBURST, ERR_IE, with TICK or REQ. -/
def dmaCtlStored (e : Nat) (old v : Nat) : Nat :=
  let a := setBits (setBits (setBits old 8 3 (bits v 8 3)) 20 4 (bits v 20 4)) 24 1 (bits v 24 1)
  let b := if e < 12 then setBits a 11 1 (bits v 11 1)
    else if bits v 12 6 < 8 then setBits a 12 6 (bits v 12 6) else a
  setBits b 1 4 (bits v 1 4)

/-- A write of a channel's control register. RESET goes before every other bit, and ARM before GO. -/
def writeDmaCtl (e c : Nat) (v : Word) (s : State) : State :=
  let s1 := s.setReg (dmaCtl e c) (BitVec.ofNat 32 (dmaCtlStored e (s.reg (dmaCtl e c)).toNat v.toNat))
  let bit := fun (i : Nat) => decide (bits v.toNat i 1 = 1)
  if bit 3 then doDmaReset e c s1
  else
    let s2 := if bit 2 then doDmaStop e c s1 else s1
    let s3 := if bit 0 then doArm e c s2 else if bit 1 then doGo e c s2 else s2
    if bit 4 then doAppend e c s3 else s3

/-- A shadow word; STATUS is not stored. -/
def writeShadowWord (e c i : Nat) (v : Word) (s : State) : State :=
  s.setReg (dmaBase e c + 4 * i) (if i = 4 then v &&& 0x00FFFFFF else v)

/-- A write of NEXT: bits [4:0] are written as 0. -/
def writeDmaNext (e c : Nat) (hi : Bool) (v : Word) (s : State) : State :=
  if hi then s.setReg (dmaNextHi e c) (v &&& 0x800000FF) else s.setReg (dmaNextLo e c) (v &&& 0xFFFFFFE0)

/-- DMA_TICK_RELEASE: the descriptors held before a block tick may burst (R270). -/
def dmaTick (s : State) : State :=
  (s.dma.filter (fun x => x.1 < 768)).foldl (fun s x =>
    let e := x.1 / 64
    let c := x.1 % 64
    if dmaState s e c = 3 then setDmaState e c 2 s else s) s

/-- DMA_TIMEOUT (R277): a channel that waits for a response. -/
def doDmaTimeout (e c : Nat) (s : State) : State :=
  match dmaState s e c with
  | 1 => dmaFetchError e c 4 s
  | 2 => dmaError e c 4 s
  | 5 => dmaError e c 4 s
  | _ => s

end Sys2Proof.Machine
end

