-- ==== Sys2Proof/Machine/ScAlu.lean ====
section
/-! DEFINITION. The integer ALU slots AL0 and AL1 (R100 to R103). -/

namespace Sys2Proof.Machine

/-- Second operand: a register, a signed immediate, or an unsigned one for shifts (R100). -/
def aluB (c : Core) (o : AluOp) : Nat :=
  if o.i then
    match o.kind with
    | .shl | .lsr | .asr | .ror => o.b
    | _ => unsext 32 (sext 8 o.b)
  else c.get o.b

/-- A value with the OV flag of its computation. -/
def ovIf (b : Bool) : Nat := if b then fOV else 0

/-- A signed 32-bit result from its exact value (R103). -/
def signed32 (s : Bool) (x : Int) : Nat × Nat :=
  (unsext 32 (if s then satS 32 x else x), ovIf (!fitsS 32 x))

/-- An unsigned 32-bit result from its exact value (R103). -/
def unsigned32 (s : Bool) (x : Int) : Nat × Nat :=
  if x < 0 then (if s then 0 else unsext 32 x, fOV)
  else if (2 ^ 32 : Nat) ≤ x then (if s then 0xFFFFFFFF else unsext 32 x, fOV)
  else (x.toNat, 0)

/-- Both 16-bit halves from their exact values (R103). -/
def halves (s : Bool) (lo hi : Int) : Nat × Nat :=
  (unsext 16 (if s then satS 16 lo else lo) + 65536 * unsext 16 (if s then satS 16 hi else hi),
   ovIf (!fitsS 16 lo || !fitsS 16 hi))

/-- Leading bits of the `n`-bit `v` equal to `b`. -/
def leading (b : Nat) : Nat → Nat → Nat
  | 0, _ => 0
  | n + 1, v => if bits v n 1 = b then 1 + leading b n v else 0

def condN (p : Prop) [Decidable p] : Nat × Nat := (if p then 1 else 0, 0)

/-- Quotients and remainders (R101, R103). -/
def divResult (k : AluKind) (s : Bool) (a b : Nat) : Nat × Nat :=
  let x := sext 32 a
  let y := sext 32 b
  match k with
  | .div => if b = 0 then (if x < 0 then 0x80000000 else 0x7FFFFFFF, fDZ) else signed32 s (x.tdiv y)
  | .divu => if b = 0 then (0xFFFFFFFF, fDZ) else (a / b, 0)
  | .rem => if b = 0 then (a, fDZ) else (unsext 32 (x.tmod y), 0)
  | _ => if b = 0 then (a, fDZ) else (a % b, 0)

/-- The 32-bit value and the flags of the one-result operations (R101, R103). -/
def aluValue (k : AluKind) (s : Bool) (a b imm16 old : Nat) : Nat × Nat :=
  let x := sext 32 a
  let y := sext 32 b
  let n := b % 256
  match k with
  | .add => signed32 s (x + y)
  | .sub => signed32 s (x - y)
  | .addu => unsigned32 s ((a : Int) + b)
  | .subu => unsigned32 s ((a : Int) - b)
  | .neg => signed32 s (-x)
  | .abs => signed32 s x.natAbs
  | .add2 => halves s (sext 16 a + sext 16 b) (sext 16 (a / 65536) + sext 16 (b / 65536))
  | .sub2 => halves s (sext 16 a - sext 16 b) (sext 16 (a / 65536) - sext 16 (b / 65536))
  | .and => (a &&& b, 0)
  | .or => (a ||| b, 0)
  | .xor => (a ^^^ b, 0)
  | .andn => (a &&& (0xFFFFFFFF - b), 0)
  | .not => (0xFFFFFFFF - a, 0)
  | .shl => signed32 s (x * (2 ^ n : Nat))
  | .lsr => (a / 2 ^ n, 0)
  | .asr => (unsext 32 (x.fdiv (2 ^ n : Nat)), 0)
  | .ror => (a / 2 ^ (b % 32) + a * 2 ^ (32 - b % 32) % 2 ^ 32, 0)
  | .min => (if y < x then b else a, 0)
  | .max => (if x < y then b else a, 0)
  | .minu => (if b < a then b else a, 0)
  | .maxu => (if a < b then b else a, 0)
  | .cmpeq => condN (a = b)
  | .cmpne => condN (a ≠ b)
  | .cmplt => condN (x < y)
  | .cmple => condN (x ≤ y)
  | .cmpltu => condN (a < b)
  | .cmpleu => condN (a ≤ b)
  | .movi => (unsext 32 (sext 16 imm16), 0)
  | .movhi => (imm16 * 65536 + old % 65536, 0)
  | .sxb => (unsext 32 (sext 8 a), 0)
  | .sxh => (unsext 32 (sext 16 a), 0)
  | .zxb => (a % 256, 0)
  | .zxh => (a % 65536, 0)
  | .clz => (leading 0 32 a, 0)
  | .cls => (leading (bits a 31 1) 31 a, 0)
  | .popc => (popcount 32 a, 0)
  | .div | .divu | .rem | .remu => divResult k s a b
  | .mov | .movt | .movf | .minx | .maxx | .minxu | .maxxu => (a, 0)

/-- Whether a MINX-family operation writes: `a` against the old extreme (R101). -/
def extremeHit (k : AluKind) (a old : Nat) : Bool :=
  match k with
  | .minx => decide (sext 32 a < sext 32 old)
  | .maxx => decide (sext 32 old < sext 32 a)
  | .minxu => decide (a < old)
  | _ => decide (old < a)

/-- OV is not raised with a P destination (R103). -/
def aluFlags (dst f : Nat) : Nat := if 0x40 ≤ dst ∧ dst < 0x80 then f - (f &&& fOV) else f

/-- The results of one ALU operation (R101, R102). -/
def aluResults (c : Core) (o : AluOp) : List Res :=
  let a := c.get o.a
  let b := aluB c o
  if aluIsMinx o.kind then
    if extremeHit o.kind a (c.get o.dst) then [res 1 o.dst a, res 2 (o.dst + 1) b] else []
  else if o.kind = .movt then (if c.get o.b = 1 then [res 1 o.dst a] else [])
  else if o.kind = .movf then (if c.get o.b = 0 then [res 1 o.dst a] else [])
  else
    let (v, f) := aluValue o.kind o.s a b o.imm16 (c.get o.dst)
    [{ lat := if aluIsDiv o.kind then 18 else 1, dest := o.dst, val := v, sflags := aluFlags o.dst f, fflags := 0 }]

end Sys2Proof.Machine
end

