-- ==== Sys2Proof/Machine/ScLsu.lean ====
section
/-! DEFINITION. Loads and stores of a signal core: the local view (R49), access faults (R50, R128),
accesses to banks and private memory, and accesses that are held (R51).
Choices and readings: log entry 22. -/

namespace Sys2Proof.Machine
open R

/-- The regions of the local view that a core can reach (R49). -/
inductive Region where
  | bank (b : Nat) | common | priv | own | tileRegs | rx | tx | none
  deriving DecidableEq, Repr

/-- The region of local address `a` for core `c` of a tile. -/
def regionOf (c a : Nat) : Region :=
  if a < 0x400000 then .bank (a / 0x80000)
  else if a < 0x410000 then .common
  else if 0x800000 + c * 0x20000 ≤ a && a < 0x820000 + c * 0x20000 then .priv
  else if 0xC00000 + c * 0x1000 ≤ a && a < 0xC01000 + c * 0x1000 then .own
  else if 0xC10000 ≤ a && a < 0xC11000 then .tileRegs
  else if 0xF00000 ≤ a && a < 0xF10000 then .rx
  else if 0xF10000 ≤ a && a < 0xF20000 then .tx
  else .none

/-- Regions in which an access holds the core (R49). -/
def Region.interlocked : Region → Bool
  | .common | .own | .tileRegs | .rx | .tx => true
  | _ => false

/-- Fault codes of R80. -/
def fcIllegal : Nat := 1
def fcRepeat : Nat := 2
def fcDelay : Nat := 3
def fcLoopBranch : Nat := 4
def fcLoopSetup : Nat := 5
def fcDivBusy : Nat := 6
def fcSeqEnd : Nat := 7
def fcFetchEcc : Nat := 8
def fcDataEcc : Nat := 9
def fcUnmapped : Nat := 0xA
def fcMisaligned : Nat := 0xB
def fcLock : Nat := 0xC

/-- The fault of an access, if any, in the order of R50; `locked` says that the core holds the lock. -/
def lsFault (c : Nat) (locked : Bool) (o : LsOp) (a : Nat) : Option Nat :=
  let n := lsBytes o
  let r := regionOf c a
  if r = .none || (o.cls ≠ 1 && r = .rx) then some fcUnmapped
  else if a % (if n ≤ 4 then n else 4) ≠ 0 || regionOf c (a + n - 1) ≠ r then some fcMisaligned
  else if (o.cls = 3 && r ≠ .common) || (locked && r.interlocked && r ≠ .common) then some fcLock
  else none

/-- Fabric address of a local address of core `n`. -/
def localBase (n : Nat) : Nat := tileBase (n / 4)

/-! ### Private memory (R53) -/

/-- Reads private data: single-bit errors are counted; the answer says whether a word is uncorrectable. -/
def privRead (s : State) (n a len : Nat) : List Byte × Bool × State :=
  let ws := (wordsOf a len).map (fun w => eccMark s (localBase n + w))
  let corr := (ws.filter (· = 1)).length
  let s1 := (List.range corr).foldl (fun s _ => s.incSat (SC_n_ECC n) SC_n_ECC_DM_CORR) s
  (s.bytes (localBase n + a) len, ws.contains 2, s1)

/-- A store to private data writes fresh check bits, but keeps the mark of an uncorrectable word it does
not fill. -/
def privWrite (s : State) (n a : Nat) (l : List Byte) : State :=
  let s1 := s.each (wordsOf a l.length) (fun s w =>
    if (a ≤ w && w + 8 ≤ a + l.length) || eccMark s (localBase n + w) ≠ 2 then setMark s (localBase n + w) 0 else s)
  s1.setBytes (localBase n + a) l

/-- A store of a core lands in its memory. -/
def landStore (n : Nat) (s : State) (x : StoreFlight) : State :=
  match regionOf (n % 4) x.addr with
  | .bank b => bankWrite s (n / 4) b (x.addr % 0x80000) x.data
  | .common => bankWrite s (n / 4) 8 (x.addr % 0x10000) x.data
  | .priv => privWrite s n x.addr x.data
  | _ => s

/-! ### Issue of one operation -/

/-- What the load/store slots of a bundle leave: the state, results, stores in flight and held accesses. -/
structure LsOut where
  s : State
  fl : List Flight
  st : List StoreFlight
  hd : List HeldAccess

/-- The flights of a load's words, 4 cycles after issue (R59). -/
def loadFlights (cyc slot pc dest addr : Nat) (bad : Bool) : List Nat → Nat → List Flight
  | [], _ => []
  | v :: t, k =>
    { due := cyc + 4, iss := cyc, slot := slot, dest := dest + k, val := v, sflags := 0, fflags := 0,
      addr := some addr, bad := bad && k = 0, pc := pc } :: loadFlights cyc slot pc dest addr bad t (k + 1)

def mkFlight (cyc slot pc : Nat) (r : Res) : Flight :=
  { due := cyc + r.lat, iss := cyc, slot := slot, dest := r.dest, val := r.val, sflags := r.sflags,
    fflags := r.fflags, addr := none, bad := false, pc := pc }

def heldOf (o : LsOp) (cyc slot pc a : Nat) (data : List Byte) : HeldAccess :=
  { slot := slot, write := o.cls ≠ 1, addr := a, size := lsBytes o, data := data, dest := o.d, signed := lsSigned o,
    iss := cyc, pc := pc }

/-- A load of core `n` (R58, R61, R119, R126). -/
def loadIssue (n slot : Nat) (locked : Bool) (c : Core) (o : LsOp) (x : LsOut) : LsOut :=
  let a := lsAddr c o
  let sz := lsBytes o
  let give := fun (data : List Byte) (bad : Bool) (s : State) =>
    { x with s := s, fl := x.fl ++ loadFlights c.cyc slot c.pc o.d a bad (loadWords (lsSigned o) data) 0 }
  match regionOf (n % 4) a with
  | .bank b => let r := ownedRead x.s (n / 4) b (n % 4) (a % 0x80000) sz; give r.1 false r.2
  | .priv => let r := privRead x.s n a sz; give r.1 r.2.1 r.2.2
  | .common =>
    if locked then let r := bankRead x.s (n / 4) 8 (a % 0x10000) sz; give r.1 false r.2
    else { x with hd := x.hd ++ [heldOf o c.cyc slot c.pc a []] }
  | _ => { x with hd := x.hd ++ [heldOf o c.cyc slot c.pc a []] }

/-- A plain store of core `n` (R59, R119). -/
def storeIssue (n slot : Nat) (locked : Bool) (c : Core) (o : LsOp) (x : LsOut) : LsOut :=
  let a := lsAddr c o
  let fly := { x with st := x.st ++ [{ due := c.cyc + 2, slot := slot, addr := a, data := lsData c o }] }
  match regionOf (n % 4) a with
  | .bank b =>
    if ownerServes x.s (n / 4) b (n % 4) then fly
    else { x with s := violation x.s (n / 4) b (n % 4) (a % 0x80000) true }
  | .priv => fly
  | .common => if locked then fly else { x with hd := x.hd ++ [heldOf o c.cyc slot c.pc a (lsData c o)] }
  | _ => { x with hd := x.hd ++ [heldOf o c.cyc slot c.pc a (lsData c o)] }

/-- A conditional store (R93): it writes only under an unbroken lock. -/
def condIssue (slot : Nat) (locked : Bool) (c : Core) (o : LsOp) (x : LsOut) : LsOut :=
  let y := { x with fl := x.fl ++ [mkFlight c.cyc slot c.pc (res 1 (0xC0 + o.cm) (b2n locked))] }
  if locked then
    { y with st := y.st ++ [{ due := c.cyc + 2, slot := slot, addr := lsAddr c o, data := lsData c o }] }
  else y

/-- One load/store slot: the access, then the pointer update (R90). -/
def lsIssue (n slot : Nat) (locked : Bool) (c : Core) (o : Option LsOp) (x : LsOut) : LsOut :=
  match o with
  | none => x
  | some o =>
    let y := match o.cls with
      | 1 => loadIssue n slot locked c o x
      | 2 => storeIssue n slot locked c o x
      | _ => condIssue slot locked c o x
    match lsUpdate c o with
    | some p => { y with fl := y.fl ++ [mkFlight c.cyc slot c.pc (res 1 (0x40 + o.p) p)] }
    | none => y

end Sys2Proof.Machine
end

