-- ==== Sys2Proof/Machine/ScMac.lean ====
section
/-! DEFINITION. The MAC slots MA0 and MA1 (R94 to R99). -/

namespace Sys2Proof.Machine

/-- Lanes of a register (R94). -/
def laneLo (v : Nat) : Int := sext 16 v
def laneHi (v : Nat) : Int := sext 16 (v / 65536)

/-- A 16 × 16 product, scaled (R95). -/
def prod16 (i : Bool) (x y : Int) : Int := if i then x * y else x * y * 2

/-- A 32 × 16 product, scaled (R95). -/
def prod32 (i : Bool) (x y : Int) : Int := if i then (x * y).fdiv 65536 else (x * y).fdiv 32768

/-- An accumulator from its exact value (R96). -/
def accFit (s : Bool) (x : Int) : Nat × Nat :=
  (unsext 40 (if s then satS 40 x else x), if fitsS 40 x then 0 else fOV)

/-- The four scaled products of MAC4 and MAC4V, lanes 0 to 3 (R98). -/
def prods4 (c : Core) (o : MacOp) : List Int :=
  [prod16 o.i (laneLo (c.d o.x)) (laneLo (c.d o.y)), prod16 o.i (laneHi (c.d o.x)) (laneHi (c.d o.y)),
   prod16 o.i (laneLo (c.d (o.x + 1))) (laneLo (c.d (o.y + 1))),
   prod16 o.i (laneHi (c.d (o.x + 1))) (laneHi (c.d (o.y + 1)))]

def sumInt (l : List Int) : Int := l.foldl (· + ·) 0

/-- The exact new value of each accumulator that the operation updates, from ACCa on; `none` for an
extract (R98). -/
def macExact (c : Core) (o : MacOp) : Option (List Int) :=
  let x := c.d o.x
  let y := c.d o.y
  let old := fun k => c.accChain (o.acc + k)
  let two := prod16 o.i (laneLo x) (laneLo y) + prod16 o.i (laneHi x) (laneHi y)
  let wide := prod32 o.i (sext 32 x) (laneLo y) + prod32 o.i (sext 32 (c.d (o.x + 1))) (laneHi y)
  let re := prod16 o.i (laneLo x) (laneLo y) - prod16 o.i (laneHi x) (laneHi y)
  let im := prod16 o.i (laneLo x) (laneHi y) + prod16 o.i (laneHi x) (laneLo y)
  let imj := prod16 o.i (laneHi x) (laneLo y) - prod16 o.i (laneLo x) (laneHi y)
  match o.kind with
  | .mac4 => some [old 0 + sumInt (prods4 c o)]
  | .msu4 => some [old 0 - sumInt (prods4 c o)]
  | .mul4 => some [sumInt (prods4 c o)]
  | .mac4v => some (((prods4 c o).zip [0, 1, 2, 3]).map (fun e => old e.2 + e.1))
  | .mul4v => some (prods4 c o)
  | .mac2 => some [old 0 + two]
  | .mul2 => some [two]
  | .macw => some [old 0 + wide]
  | .msuw => some [old 0 - wide]
  | .mulw => some [wide]
  | .cmac => some [old 0 + re, old 1 + im]
  | .cmul => some [re, im]
  | .cmacj => some [old 0 + two, old 1 + imj]
  | .cmulj => some [two, imj]
  | .clr => some [0]
  | .lda => some [sext 32 x]
  | .ldax => some [sext 40 (x + 2 ^ 32 * (c.d (o.x + 1) % 256))]
  | .ext | .extc | .exth => none

/-- A value fitted to `w` signed bits (R99). -/
def extFit (w : Nat) (s : Bool) (v : Int) : Nat × Nat :=
  (unsext w (if s then satS w v else v), if fitsS w v then 0 else fOV)

/-- One part of EXTC (R99): rounded, shifted by 16 + sh and fitted to 16 bits. -/
def extcPart (s : Bool) (sh : Nat) (v : Int) : Nat × Nat :=
  extFit 16 s ((v + (2 ^ (15 + sh) : Nat)).fdiv (2 ^ (16 + sh) : Nat))

/-- The results of the extracts (R99). -/
def extResult (c : Core) (o : MacOp) : Nat × Nat :=
  let v := c.accRead o.acc
  match o.kind with
  | .ext => extFit 32 o.s ((if o.i && decide (0 < o.sh) then v + (2 ^ (o.sh - 1) : Nat) else v).fdiv (2 ^ o.sh : Nat))
  | .extc =>
    let re := extcPart o.s o.sh v
    let im := extcPart o.s o.sh (c.accRead (o.acc + 1))
    (re.1 + 65536 * im.1, re.2 ||| im.2)
  | _ => (unsext 32 (v.fdiv (2 ^ 32 : Nat)), 0)

/-- Numbers a list from `k`. -/
def numbered {α : Type} : Nat → List α → List (Nat × α)
  | _, [] => []
  | k, x :: t => (k, x) :: numbered (k + 1) t

/-- The results of one MAC operation. -/
def macResults (c : Core) (o : MacOp) : List Res :=
  match macExact c o with
  | some vs => (numbered 0 vs).map (fun e =>
      let f := accFit o.s e.2
      { lat := 3, dest := accKey (o.acc + e.1), val := f.1, sflags := f.2, fflags := 0 })
  | none =>
    let f := extResult c o
    [{ lat := 2, dest := o.x, val := f.1, sflags := f.2, fflags := 0 }]

end Sys2Proof.Machine
end

