-- ==== Sys2Proof/Machine/ScCore.lean ====
section
/-! DEFINITION. A signal core (chapter 02 and R415 to R421): landing of results, issue of a bundle,
loops and repeats, acceptance of events, waits, halts, faults, freezing and reset.
Choices and readings: log entries 22, 23 and 63. -/

namespace Sys2Proof.Machine
open R

/-! ### Small updates -/

def State.mapCore (s : State) (n : Nat) (f : Core → Core) : State := s.setCore n (f (s.core n))

/-- The tile of core `n` has power and its clock (R396). -/
def coreOn (s : State) (n : Nat) : Bool := tileOn s (n / 4) && clockOn s (n / 4)

/-- Cycle count since core reset (control registers 6 and 7). -/
def Core.cycles (c : Core) : Nat := c.cyc + c.idle

/-- R403: a release kicks the watchdog. -/
def kickCore (n : Nat) (s : State) : State := s.setFld (WD_SC_n_STAT n) WD_SC_n_STAT_TICKS 0

/-- R403: the watchdog reloads when the core leaves HALTED or FROZEN. -/
def reloadCoreDog (n : Nat) (s : State) : State := (kickCore n s).setFld (WD_SC_n_STAT n) WD_SC_n_STAT_DBG_RESUMED 1

/-! ### The virtual terminal (R421) -/

/-- A program write of the output. -/
def vtProgramOut (t v : Nat) (s : State) : State :=
  if s.flag (DBG_VT_t_STAT t) DBG_VT_t_STAT_OUT_FULL then s.setFld (DBG_VT_t_STAT t) DBG_VT_t_STAT_OUT_OVF 1
  else (s.setReg (DBG_VT_t_OUT t) (BitVec.ofNat 32 v)).setFld (DBG_VT_t_STAT t) DBG_VT_t_STAT_OUT_FULL 1

/-- A program read of the input. -/
def vtProgramIn (t : Nat) (s : State) : Nat × State :=
  ((s.reg (DBG_VT_t_IN t)).toNat, s.setFld (DBG_VT_t_STAT t) DBG_VT_t_STAT_IN_FULL 0)

/-! ### Landing (R58, R63, R115, R116) -/

/-- Writable bits of a control register (R114 and the control register table). -/
def ctlMask (r : Nat) : Nat :=
  match r with
  | 0 => 0x1F1F0F
  | 1 => 0x1F01
  | 2 => 0xFFF
  | 3 => 0xF1FFF
  | 4 => 0x1FFFF
  | 8 | 9 | 10 | 11 | 12 | 13 | 14 | 15 => 0xFFF
  | 16 | 17 | 18 | 19 => 0x1FFFF
  | _ => 0

/-- The value of register `k` after a result `v`: a control register keeps its read-only bits. -/
def landValue (c : Core) (k v : Nat) : Nat :=
  if 0x110 ≤ k then
    let m := ctlMask (k - 0x110)
    (c.get k &&& (0xFFFFFFFF ^^^ m)) ||| (v &&& m)
  else v

/-- Whether a flight names a register: flags alone (0x3FF) and C0 do not (R57, R63). -/
def writesReg (f : Flight) : Bool := f.dest ≠ 0x3FF && f.dest ≠ 0xC0

/-- Of two results due together, the one that is written (R63): the higher slot, then the later issue. -/
def laterOf (a b : Flight) : Flight :=
  if a.slot < b.slot || (a.slot = b.slot && a.iss ≤ b.iss) then b else a

/-- Another result of the group names the same register (R63). -/
def hasRival (g : List Flight) (f : Flight) : Bool := 1 < (g.filter (fun x => x.dest = f.dest)).length

/-- The flight that wins register `d` among `g`. -/
def winnerOf (g : List Flight) (d : Nat) : Option Flight :=
  (g.filter (fun x => x.dest = d)).foldl (fun a f => match a with
    | none => some f
    | some x => some (laterOf x f)) none

/-- The results due in one cycle land together, then their flags are raised. -/
def landGroup (c : Core) (g : List Flight) : Core :=
  let ws := g.filter writesReg
  let c1 := ws.foldl (fun c f => match winnerOf ws f.dest with
    | some w => if w = f then c.put f.dest (landValue c f.dest f.val) else c
    | none => c) c
  let sf := g.foldl (fun a f => a ||| f.sflags) (if ws.any (hasRival ws) then fWAW else 0)
  let ff := g.foldl (fun a f => a ||| f.fflags) 0
  (c1.raise sf).raiseFp ff

/-- The earliest due cycle of the flights. -/
def nextDue (l : List Flight) : Option Nat :=
  l.foldl (fun a f => match a with
    | none => some f.due
    | some d => some (min d f.due)) none

/-- Lands every group due by cycle `upto`, in order of time; the answer holds the first uncorrectable
load that landed. -/
def landFlights : Nat → Nat → Core → Option Flight → Core × Option Flight
  | 0, _, c, b => (c, b)
  | fuel + 1, upto, c, b =>
    match nextDue c.flight with
    | none => (c, b)
    | some d =>
      if d ≤ upto then
        let g := c.flight.filter (fun f => f.due = d)
        let c1 := landGroup { c with flight := c.flight.filter (fun f => f.due ≠ d) } g
        landFlights fuel upto c1 (match b with
          | some x => some x
          | none => g.find? (·.bad))
      else (c, b)

/-- Words written to the virtual terminal by results due by `upto` (control register 20). -/
def vtWords (c : Core) (upto : Nat) : List Nat :=
  (c.flight.filter (fun f => f.dest = ctlKey 20 && f.due ≤ upto)).map (·.val)

/-- Lands the stores due by `upto`, oldest first, LS0 before LS1 (R61). -/
def landStores (n upto : Nat) (s : State) : State :=
  let c := s.core n
  let s1 := (c.stores.filter (fun x => x.due ≤ upto)).foldl (landStore n) s
  s1.setCore n { c with stores := c.stores.filter (fun x => upto < x.due) }

/-- Everything of core `n` due by cycle `upto` lands. -/
def land (n upto : Nat) (s : State) : State × Option Flight :=
  let s1 := landStores n upto s
  let c := s1.core n
  let s2 := (vtWords c upto).foldl (fun s v => vtProgramOut n v s) s1
  let r := landFlights (c.flight.length + 1) upto c none
  (s2.setCore n r.1, r.2)

/-! ### Faults (R79) -/

/-- A lock the core holds is broken. -/
def dropLock (n : Nat) (s : State) : State :=
  if holdsLock s n then (breakLock n s).mapCore n (fun c => { c.raise fLockBroken with breakDue := false, lockCnt := 0 })
  else s

/-- Detection of a fault: the lock breaks at once; FAULT follows 20 cycles later. -/
def startFault (n cause slot pc addr : Nat) (s : State) : State :=
  (dropLock n s).mapCore n (fun c =>
    { c with st := 7, gap := .fault cause slot pc addr, gapEnd := c.cyc + 20, waitLock := false, br := none,
             repLeft := 0, repRun := false })

/-! ### Acceptance (R69, R70, R71) -/

/-- SC_n_WINGAP and the count of bundles since the last opportunity. -/
def noteOpportunity (n : Nat) (s : State) : State :=
  let g := min ((s.core n).oppGap + 1) 0xFFFFFF
  let s1 := if s.fld (SC_n_WINGAP n) SC_n_WINGAP_MAXGAP < g then s.setFld (SC_n_WINGAP n) SC_n_WINGAP_MAXGAP g else s
  s1.mapCore n (fun c => { c with oppGap := 0 })

/-- The event taken at an opportunity in cycle `w`; `wait` is the wait state, or 0 (R70). -/
def acceptGap (s : State) (n wait : Nat) : Gap :=
  let c := s.core n
  if c.haltReq then .halt wait
  else if c.sfld sTrapPend = 1 ∧ ¬ c.inHandler then .entry (s.fld (SC_n_VEC n) SC_n_VEC_TVEC) wait
  else if pres s n ≠ 0 ∧ c.ie then .entry (s.fld (SC_n_VEC n) SC_n_VEC_IVEC) wait
  else .none

/-- At an opportunity in cycle `w` the core takes at most one event. -/
def accept (n w wait : Nat) (s : State) : State :=
  match acceptGap s n wait with
  | .none => s
  | g => s.mapCore n (fun c => { c with st := 7, gap := g, gapEnd := w + 20 })

/-- Issue goes on after a BWAIT (R75, R76): BLK, the watchdog and the block count. -/
def goOn (n blk : Nat) (s : State) : State :=
  kickCore n (s.mapCore n (fun c => { c with st := 2, relCyc := c.cycles, relPend := false }.setCtl crBLK (blk % 2 ^ 32)))

/-- The release of a waiting core (R75). Time spent waiting is not counted by the model, so the cycle
count moves on by a free value (notes/assumptions/23.md). -/
def release (n blk : Nat) (s : State) : State :=
  goOn n blk (s.freeNext.mapCore n (fun c => { c with idle := c.idle + s.free .unstated % 2 ^ 32 }))

/-- The core is in a wait state: a remembered release ends a block wait at once (R76), every cycle of the
wait is an opportunity (R69), and a presentation ends a sleep (R77). -/
def inWait (n : Nat) (s : State) : State :=
  let c := s.core n
  if c.st = 3 ∧ c.relPend then goOn n c.relBlk s else
  let s1 := noteOpportunity n s
  let s2 := if c.freezeReq then s1 else accept n c.cyc c.st s1
  if (s2.core n).st ≠ c.st then s2
  else if c.st = 4 ∧ pres s n ≠ 0 ∧ ¬ c.ie then s2.mapCore n (fun c => { c with st := 2 })
  else s2

/-- The core enters wait state `w` (3 or 4) with `pc` the bundle after it. -/
def enterWait (n w : Nat) (s : State) : State :=
  inWait n (s.mapCore n (fun c => { c with st := w, wstate := w }))

/-! ### Checks of a bundle at issue (R64 to R68, R79, R128) -/

def CtOp.isBranch : CtOp → Bool
  | .brt _ _ | .brf _ _ | .jl _ _ | .jr _ => true
  | _ => false

def CtOp.isReti : CtOp → Bool
  | .reti => true
  | _ => false

def CtOp.isRepeat : CtOp → Bool
  | .repeatRpt | .repeatN _ => true
  | _ => false

def CtOp.isLoop : CtOp → Bool
  | .loop _ _ _ | .loopr _ _ _ => true
  | _ => false

def CtOp.isWait : CtOp → Bool
  | .bwait | .sleep => true
  | _ => false

def CtOp.isLock : CtOp → Bool
  | .lock => true
  | _ => false

/-- Level, count and end address of a loop setup. -/
def loopSetup (c : Core) : CtOp → Option (Nat × Nat × Nat)
  | .loop k n e => some (k, n, e)
  | .loopr k x e => some (k, c.d x, e)
  | _ => none

/-- The count of a REPEAT. -/
def repeatCount (c : Core) : CtOp → Option Nat
  | .repeatRpt => some (c.ctl crRPT)
  | .repeatN n => some n
  | _ => none

/-- The next bundle may not be repeated (R68); only its control syllable decides. -/
def badRepeated (w : Nat) : Bool :=
  match decodeCt (bits w 0 31) with
  | some t => t.isBranch || t.isReti || t.isRepeat || t.isLoop || t.isWait
  | none => false

def lsReg (k : Nat) : Nat := 8 + k
def leReg (k : Nat) : Nat := 12 + k
def lcReg (k : Nat) : Nat := 16 + k

/-- `pc` lies in the last four bundles of the body of an active loop (R65). -/
def inLoopTail (c : Core) (pc : Nat) : Bool :=
  (List.range 4).any (fun k => c.loopActive k && c.ctl (leReg k) ≤ pc + 3 && pc ≤ c.ctl (leReg k))

/-- A loop setup breaks R66 (R113 for the count). -/
def badLoop (c : Core) (pc k n e : Nat) : Bool :=
  n = 0 || 65536 < n || e < pc + 1 || (List.range 4).any (fun j => k < j && c.loopActive j) ||
    (List.range k).any (fun j => c.loopActive j && c.ctl (leReg j) < e)

/-- The fault of a control syllable at bundle `pc`, if any; `nxt` is the control syllable after it. -/
def ctFault (c : Core) (locked : Bool) (nxt : Nat) (t : CtOp) : Option Nat :=
  if c.br.isSome && (t.isBranch || t.isReti || t.isWait) then some fcDelay
  else if t.isReti && !c.inHandler then some fcIllegal
  else if locked && (t.isLock || t.isBranch || t.isReti || t.isRepeat || t.isLoop || t.isWait) then some fcLock
  else if (t.isBranch || t.isReti) && inLoopTail c c.pc then some fcLoopBranch
  else if t.isRepeat && (c.br.isSome || badRepeated nxt || repeatCount c t = some 0 ||
      (List.range 4).any (fun k => c.loopActive k && c.ctl (leReg k) = c.pc)) then some fcRepeat
  else match t with
    | .jr p => if 4095 < c.p p then some fcSeqEnd else none
    | _ => match loopSetup c t with
      | some (k, n, e) => if badLoop c c.pc k n e then some fcLoopSetup else none
      | none => none

/-- The first fault of a bundle as cause, slot and address; lower slots go first (notes/assumptions/22.md). -/
def bundleFault (n : Nat) (c : Core) (locked : Bool) (nxt : Nat) (b : Bundle) : Option (Nat × Nat × Nat) :=
  let ls := fun slot (o : Option LsOp) => match o with
    | some o => (lsFault (n % 4) locked o (lsAddr c o)).map (fun f => (f, slot, lsAddr c o))
    | none => none
  match ls 0 b.ls0 with
  | some f => some f
  | none => match ls 1 b.ls1 with
    | some f => some f
    | none =>
      if b.al1.isSome && c.cyc < c.divFree then some (fcDivBusy, 5, 0)
      else (ctFault c locked nxt b.ct).map (fun f => (f, 7, 0))

/-! ### Debug matches (R415) -/

/-- Local byte ranges of the loads and stores of a bundle: address, size, whether a store. -/
def bundleAccesses (c : Core) (b : Bundle) : List (Nat × Nat × Bool) :=
  [b.ls0, b.ls1].filterMap (fun o => o.map (fun o => (lsAddr c o, lsBytes o, decide (o.cls ≠ 1))))

/-- Watchpoint `k` of core `n` matches an access. -/
def watchHit (s : State) (n k : Nat) (x : Nat × Nat × Bool) : Bool :=
  let ctl := DBG_SC_n_WP_k_CTL n k
  let sz := 2 ^ min (s.fld ctl DBG_SC_n_WP_k_CTL_SIZE) 16
  let lo := s.fld (DBG_SC_n_WP_k_ADDR n k) DBG_SC_n_WP_k_ADDR_ADDR / sz * sz
  s.flag ctl DBG_SC_n_WP_k_CTL_EN && (if x.2.2 then s.flag ctl DBG_SC_n_WP_k_CTL_WR else s.flag ctl DBG_SC_n_WP_k_CTL_RD) &&
    decide (x.1 < lo + sz) && decide (lo < x.1 + x.2.1)

/-- The matches of a bundle: cause, action and access address, lowest cause first. -/
def matches' (s : State) (n : Nat) (c : Core) (b : Bundle) : List (Nat × Nat × Nat) :=
  let bps := (List.range 4).filterMap (fun k =>
    if s.flag (DBG_SC_n_BP_k n k) DBG_SC_n_BP_k_EN && s.fld (DBG_SC_n_BP_k n k) DBG_SC_n_BP_k_ADDR = c.pc && !c.repRun
    then some (k + 1, s.fld (DBG_SC_n_BP_k n k) DBG_SC_n_BP_k_ACTION, 0) else none)
  let wps := (List.range 2).filterMap (fun k =>
    ((bundleAccesses c b).find? (watchHit s n k)).map (fun x =>
      (k + 5, s.fld (DBG_SC_n_WP_k_CTL n k) DBG_SC_n_WP_k_CTL_ACTION, x.1)))
  bps ++ wps

/-- DBG_SC_n_HIT keeps its first record (R415). -/
def recordHit (n cause action pc addr : Nat) (s : State) : State :=
  if s.flag (DBG_SC_n_HIT n) DBG_SC_n_HIT_VALID then s
  else (s.setFlds (DBG_SC_n_HIT n) [(DBG_SC_n_HIT_CAUSE, cause), (DBG_SC_n_HIT_ACTION, action), (DBG_SC_n_HIT_PC, pc),
    (DBG_SC_n_HIT_VALID, 1)]).setFld (DBG_SC_n_HIT_ADDR n) DBG_SC_n_HIT_ADDR_ADDR addr

/-- Records the matches and requests the halt or the freeze; a freeze goes before a halt (R415). -/
def actMatches (n pc : Nat) (ms : List (Nat × Nat × Nat)) (s : State) : State :=
  match ms with
  | [] => s
  | (cause, action, addr) :: _ =>
    (recordHit n cause action pc addr s).mapCore n (fun c =>
      if ms.any (fun m => m.2.1 = 1) then { c with freezeReq := true } else { c with haltReq := true })

/-! ### Issue -/

/-- The control register that MVR reads, with the effect of the read (R421, control registers 6, 7, 20, 21). -/
def readCtl (n r : Nat) (s : State) : Nat × State :=
  let c := s.core n
  if r = crCYCLO then (c.cycles % 2 ^ 32, s.setCore n (c.setCtl crCYCHI (c.cycles / 2 ^ 32 % 2 ^ 32)))
  else if r = 20 then ((s.reg (DBG_VT_t_OUT n)).toNat, s)
  else if r = 21 then vtProgramIn n s
  else if r ≤ 19 then (c.ctl r, s)
  else (0, s)

/-- Results of the control syllable (R113): its moves, conditions and link, with the effect of a read. -/
def ctResults (n : Nat) (c : Core) (t : CtOp) (s : State) : List Res × State :=
  let cc := fun d (v : Bool) => ([res 1 (0xC0 + d) (b2n v)], s)
  match t with
  | .jl p _ => ([res 1 (0x40 + p) (c.pc + 4)], s)
  | .mvc cr src => if ctlMask cr = 0 ∧ cr ≠ 20 then ([], s) else ([res 1 (ctlKey cr) (c.get src)], s)
  | .mvr dst cr => let r := readCtl n cr s; ([res 1 dst r.1], r.2)
  | .cand d a b => cc d (c.cond a && c.cond b)
  | .cor d a b => cc d (c.cond a || c.cond b)
  | .cxor d a b => cc d (c.cond a != c.cond b)
  | .candn d a b => cc d (c.cond a && !c.cond b)
  | _ => ([], s)

/-- The target of a branch that is taken. -/
def branchTarget (c : Core) : CtOp → Option Nat
  | .brt k t => if c.cond k then some t else none
  | .brf k t => if c.cond k then none else some t
  | .jl _ t => some t
  | .jr p => some (c.p p)
  | _ => none

/-- The end check at bundle `pc`, highest level first (R65, R66): the core and the next bundle. -/
def endCheck (pc : Nat) : Nat → Core → Core × Option Nat
  | 0, c => (c, none)
  | k + 1, c =>
    if c.loopActive k ∧ c.ctl (leReg k) = pc then
      if 1 < c.ctl (lcReg k) then (c.setCtl (lcReg k) (c.ctl (lcReg k) - 1), some (c.ctl (lsReg k)))
      else endCheck pc k ((c.setCtl (lcReg k) 0).setLoopActive k false)
    else endCheck pc k c

/-- The pc after the bundle that just issued, with repeat, end check and delay bundles (R64 to R67). -/
def advance (c : Core) (t : CtOp) : Core :=
  let pc := c.pc
  if 1 < c.repLeft then { c with repLeft := c.repLeft - 1, repRun := true }
  else
    let e := endCheck pc 4 { c with repLeft := 0, repRun := false }
    let seq := match e.2 with
      | some a => a
      | none => pc + 1
    let c1 := e.1
    let c2 := match c1.br with
      | some b =>
        if 1 < b.left then { c1 with br := some { b with left := b.left - 1 }, pc := seq }
        else { c1 with br := none, pc := b.target.getD seq,
                       gap := if b.reti then .reti else c1.gap, st := if b.reti then 7 else c1.st,
                       gapEnd := if b.reti then c1.cyc + 18 else c1.gapEnd }
      | none => { c1 with pc := seq }
    if t.isBranch || t.isReti then { c2 with br := some { left := 3, target := branchTarget c t, reti := t.isReti } }
    else match repeatCount c t with
      | some n => { c2 with repLeft := n }
      | none => c2

/-- Loop setup and LBRK take effect after the bundle (R65, R113). -/
def ctLoops (pc : Nat) (t : CtOp) (c0 c : Core) : Core :=
  match t with
  | .lbrk k => c.setLoopActive k false
  | _ => match loopSetup c0 t with
    | some (k, n, e) => (((c.setCtl (lsReg k) (pc + 1)).setCtl (leReg k) e).setCtl (lcReg k) n).setLoopActive k true
    | none => c

/-- The bundle is an acceptance opportunity (R69). -/
def isOpportunity (c : Core) (locked step : Bool) (b : Bundle) : Bool :=
  b.window && !(b.ct.isBranch || b.ct.isReti || b.ct.isRepeat || b.ct.isWait) && c.br.isNone && c.repLeft ≤ 1 &&
    !locked && !step

def closes (b : Bundle) : Bool :=
  (match b.ct with | .unlock => true | _ => false) ||
  [b.ls0, b.ls1].any (fun o => match o with | some o => o.cls = 3 | none => false)

/-- The lock after a bundle: closed by a conditional store or UNLOCK; the eighth bundle without either
leaves the break due (R127). The stores of the sequence are in the bank before another agent reads it. -/
def lockAfter (n : Nat) (b : Bundle) (s : State) : State :=
  if !holdsLock s n then s
  else if closes b then
    let c := s.core n
    let com := c.stores.filter (fun x => regionOf (n % 4) x.addr = .common)
    let s1 := com.foldl (landStore n) s
    (releaseLock n s1).setCore n { c with stores := c.stores.filter (fun x => regionOf (n % 4) x.addr ≠ .common), lockCnt := 0 }
  else s.mapCore n (fun c => { c with lockCnt := c.lockCnt + 1, breakDue := 8 ≤ c.lockCnt })

/-- SC_n_BLKCYC and SC_n_BLKMAX at a BWAIT (R83). -/
def blockCount (n : Nat) (s : State) : State :=
  let v := min ((s.core n).cycles - (s.core n).relCyc) 0x1FFFFF
  let s1 := s.setFld (SC_n_BLKCYC n) SC_n_BLKCYC_LAST v
  if s.fld (SC_n_BLKMAX n) SC_n_BLKMAX_MAX < v then s1.setFld (SC_n_BLKMAX n) SC_n_BLKMAX_MAX v else s1

/-- All operations of bundle `b` take effect; `step` for a bundle step, which is no opportunity. -/
def runBundle (n : Nat) (step : Bool) (b : Bundle) (s : State) : State :=
  let s0 := if b.ct.isLock then (takeLock n s).mapCore n (fun c => { c with waitLock := false, lockCnt := 0 }) else s
  let c := s0.core n
  let locked := holdsLock s0 n
  let hits := matches' s0 n c b
  let x := lsIssue n 1 locked c b.ls1 (lsIssue n 0 locked c b.ls0 { s := s0, fl := [], st := [], hd := [] })
  let ct := ctResults n c b.ct x.s
  let slot := fun k (rs : List Res) => rs.map (mkFlight c.cyc k c.pc)
  let opt := fun {α : Type} (o : Option α) (f : α → List Res) => match o with
    | some v => f v
    | none => []
  let fl := x.fl ++ slot 2 (opt b.ma0 (macResults c)) ++ slot 3 (opt b.ma1 (macResults c)) ++
    slot 4 (opt b.al0 (aluResults c)) ++ slot 5 (opt b.al1 (aluResults c)) ++ slot 6 (opt b.fp (fpResults c)) ++ slot 7 ct.1
  let div := match b.al1 with
    | some o => aluIsDiv o.kind
    | none => false
  let c1 := ct.2.core n
  let c2 := { c1 with flight := c1.flight ++ fl, stores := c1.stores ++ x.st, hold := x.hd,
                      cyc := c.cyc + 1, divFree := if div then c.cyc + 18 else c.divFree, oppGap := c.oppGap + 1 }
  let c3 := ctLoops c.pc b.ct c (advance c2 b.ct)
  let s1 := actMatches n c.pc hits (lockAfter n b (ct.2.setCore n c3))
  match b.ct with
  | .bwait => enterWait n 3 (blockCount n s1)
  | .sleep => enterWait n 4 s1
  | _ =>
    if isOpportunity c locked step b then
      let s2 := noteOpportunity n (s1.mapCore n (fun c => { c with oppGap := c.oppGap - 1 }))
      if (s2.core n).freezeReq then s2 else accept n c.cyc 0 s2
    else s1

/-- The syllables of bundle `pc` of core `n`. -/
def fetchBundle (s : State) (n pc : Nat) : List Nat :=
  (List.range 8).map (fun i => s.num (localBase n + 0x900000 + (n % 4) * 0x20000 + 32 * pc + 4 * i) 4)

/-- The ECC marks of the four words of a bundle (R53). -/
def fetchMarks (s : State) (n pc : Nat) : List Nat :=
  (List.range 4).map (fun i => eccMark s (localBase n + 0x900000 + (n % 4) * 0x20000 + 32 * pc + 8 * i))

/-- Issue of the bundle at pc (R54 to R68): fetch, decode, checks, effects. A LOCK bundle waits for its
turn unless `granted` (R127). -/
def issueBundle (n : Nat) (granted step : Bool) (s : State) : State :=
  let c := s.core n
  if 4096 ≤ c.pc then startFault n fcSeqEnd 7 4095 0 s
  else if (fetchMarks s n c.pc).contains 2 then startFault n fcFetchEcc 7 c.pc 0 s
  else
    let corr := ((fetchMarks s n c.pc).filter (· = 1)).length
    let s1 := (List.range corr).foldl (fun s _ => s.incSat (SC_n_ECC n) SC_n_ECC_PM_CORR) s
    match decodeBundle (fetchBundle s n c.pc) with
    | .error slot =>
      -- an operation that R68 lists under REPEAT has been refused with the REPEAT itself
      startFault n fcIllegal slot c.pc 0 s1
    | .ok b =>
      let locked := holdsLock s1 n || b.ct.isLock
      let nxt := if c.pc < 4095 then (fetchBundle s n (c.pc + 1)).getD 7 0 else 0
      let f := bundleFault n c (if b.ct.isLock then holdsLock s1 n else locked) nxt b
      match f with
      | some (cause, slot, addr) => startFault n cause slot c.pc addr s1
      | none =>
        if b.ct.isLock && !granted then s1.mapCore n (fun c => { c with waitLock := true })
        else runBundle n step b s1

/-- Nothing keeps core `n` from issuing. -/
def mayIssue (s : State) (n : Nat) : Bool :=
  let c := s.core n
  c.st = 2 && c.gap = .none && c.hold.isEmpty && !c.waitLock && coreOn s n

/-- The lock breaks at the eighth bundle (R127). -/
def lockBreak (n : Nat) (s : State) : State :=
  if (s.core n).breakDue && holdsLock s n then dropLock n s else s

/-- BUNDLE_ISSUE (R58): what is due lands, then the bundle at pc issues. -/
def doBundleIssue (n : Nat) (s : State) : State :=
  if !mayIssue s n || (s.core n).freezeReq then s
  else
    let r := land n (s.core n).cyc (lockBreak n s)
    match r.2 with
    | some f => startFault n fcDataEcc f.slot f.pc (f.addr.getD 0) r.1
    | none => issueBundle n false false r.1

/-- RESULT_LANDING (R58): a running core lands what is due; a core that issues nothing moves on to its
next due result. A frozen core lands nothing (R416). -/
def doResultLanding (n : Nat) (s : State) : State :=
  let c := s.core n
  if c.st = 6 || !coreOn s n then s
  else if c.st = 2 then
    let r := land n c.cyc s
    match r.2 with
    | some f => if c.hold.isEmpty then startFault n fcDataEcc f.slot f.pc (f.addr.getD 0) r.1 else s
    | none => r.1
  else match nextDue c.flight with
    | none => landStores n (c.cyc + 2) s
    | some d =>
      let r := land n d (s.mapCore n (fun c => { c with cyc := max c.cyc d }))
      let s1 := match r.2 with
        | some f => if c.st = 7 then r.1 else startFault n fcDataEcc f.slot f.pc (f.addr.getD 0) r.1
        | none => r.1
      if (s1.core n).st = 3 ∨ (s1.core n).st = 4 then inWait n s1 else s1

/-! ### The ends of the 20-cycle gaps -/

/-- Everything in flight has landed at the end of a gap. -/
def landAll (n : Nat) (s : State) : State :=
  let e := (s.core n).gapEnd
  ((land n e s).1).mapCore n (fun c => { c with cyc := max c.cyc e, gap := .none })

/-- HANDLER_ENTRY (R71). -/
def doHandlerEntry (n : Nat) (s : State) : State :=
  match (s.core n).gap with
  | .entry vec wait =>
    (landAll n s).mapCore n (fun c =>
      let st := c.status
      let c1 := (c.setCtl crIPC (c.pc % 4096)).setCtl crISTAT (setBits st 2 1 (if wait = 0 then 0 else 1))
      let c2 := (((c1.setSfld sIE 0).setSfld sInHandler 1).setSfld sLoopact 0).setSfld sTrapPend 0
      { c2 with st := 2, pc := vec, br := none, wstate := if wait = 0 then c.wstate else wait,
                fromWait := c.fromWait || wait = 3 })
  | _ => s

/-- HALT_ENTRY (R78). -/
def doHaltEntry (n : Nat) (s : State) : State :=
  match (s.core n).gap with
  | .halt wait => (landAll n s).mapCore n (fun c => { c with st := 1, haltReq := false, haltWait := wait })
  | _ => s

/-- FAULT_STATE_ENTRY (R79), with its record in Nutmeg (R426). -/
def doFaultStateEntry (n : Nat) (s : State) : State :=
  match (s.core n).gap with
  | .fault cause slot pc addr =>
    let s1 := (landAll n s).mapCore n (fun c => { c with st := 5, haltReq := false, freezeReq := false })
    let s2 := s1.setReg (SC_n_FAULT n) (BitVec.ofNat 32 (cause + slot * 256 + pc * 4096))
    let s3 := if cause = fcUnmapped ∨ cause = fcMisaligned ∨ cause = fcDataEcc then
      s2.setReg (SC_n_FAULT_ADDR n) (BitVec.ofNat 32 addr)
    else s2
    nutmeg (0x300 + n) 1 [(s3.reg (SC_n_FAULT n)).toNat, (s3.reg (SC_n_FAULT_ADDR n)).toNat] s3
  | _ => s

/-- RETI_RESUME (R72, R76). -/
def doRetiResume (n : Nat) (s : State) : State :=
  match (s.core n).gap with
  | .reti =>
    let s1 := landAll n s
    let c := s1.core n
    let ist := c.ctl crISTAT
    let wait := bits ist 2 1
    let st := setBits (ist ||| (c.status &&& 0xF00)) 2 1 0
    let c1 := { (c.setCtl crSTATUS st) with pc := c.ctl crIPC, st := 2, fromWait := if wait = 1 || bits ist 1 1 = 0 then false else c.fromWait }
    let s2 := s1.setCore n c1
    if wait = 1 then enterWait n (if c.wstate = 4 then 4 else 3) s2 else s2
  | _ => s

/-! ### Locks (R127) -/

/-- LOCK_GRANT: the LOCK bundle issues at the core's turn. -/
def doLockGrant (n : Nat) (s : State) : State :=
  let c := s.core n
  if c.waitLock && c.st = 2 && !lockHeld s (n / 4) && coreOn s n then
    issueBundle n true c.stepping (s.setCore n { c with waitLock := false })
  else s

/-- LOCK_BREAK: the eighth bundle after LOCK left the sequence open. -/
def doLockBreak (n : Nat) (s : State) : State := lockBreak n s

/-! ### Start, halt, reset (R78, R81, R82, R468) -/

/-- A core reset (R81). The fault record clears; a lock the core held is released. -/
def coreReset (n : Nat) (s : State) : State :=
  let s1 := if holdsLock s n then releaseLock n s else s
  (s1.setCore n Core.reset).setReg (SC_n_FAULT n) 0

/-- The core goes on from HALTED or FROZEN in state `st`, 0 for RUNNING. -/
def resumeCore (n st : Nat) (s : State) : State :=
  let s1 := reloadCoreDog n (s.mapCore n (fun c => { c with st := if st = 0 then 2 else st, haltWait := 0, frozenFrom := 0 }))
  if st = 3 ∨ st = 4 then inWait n s1 else s1

/-- START (R78, R82, R416). -/
def doCoreStart (n : Nat) (s : State) : State :=
  let c := s.core n
  if !coreOn s n then s
  else if c.st = 0 then
    s.setCore n { c with st := 2, pc := s.fld (SC_n_ENTRY n) SC_n_ENTRY_ENTRY, relCyc := c.cycles }
  else if c.st = 1 then resumeCore n c.haltWait s
  else if c.st = 6 then resumeCore n c.frozenFrom s
  else s

/-- HALT (R78, R419): a request, taken at once in a wait state. -/
def doCoreHalt (n : Nat) (s : State) : State :=
  let c := s.core n
  if c.st = 0 || c.st = 1 || c.st = 5 then s
  else
    let s1 := s.setCore n { c with haltReq := true }
    if (c.st = 3 || c.st = 4) && c.gap = .none then inWait n s1 else s1

/-- WIN_STEP (R78): from HALTED to the next opportunity. -/
def doWinStep (n : Nat) (s : State) : State :=
  let c := s.core n
  if c.st = 1 && coreOn s n then resumeCore n c.haltWait (s.setCore n { c with haltReq := true }) else s

/-- CORE_RESET (R81); while the tile is gated it is ignored and recorded (R395). -/
def doCoreReset (n : Nat) (s : State) : State :=
  if coreOn s n then coreReset n s else if tileOn s (n / 4) then s else s.setFld PM_ERR PM_ERR_GATED 1

/-- A write of SC_n_CTL (R468). -/
def writeScCtl (n : Nat) (v : Word) (s : State) : State :=
  let s1 := s.writeByType (SC_n_CTL n) v
  let b := fun i => bits v.toNat i 1 = 1
  if b 2 then (if b 0 then doCoreStart n (doCoreReset n s1) else doCoreReset n s1)
  else if b 1 then doCoreHalt n s1
  else if b 0 && b 4 then doCoreHalt n s1
  else if b 0 then doCoreStart n s1
  else if b 4 then doWinStep n s1
  else s1

/-! ### Block ticks (R75, R76, R403, R419) -/

/-- The watchdog counts a tick without a release. -/
def coreDogTick (n : Nat) (s : State) : State :=
  let c := s.core n
  let a := WD_SC_n_STAT n
  let lim := max (s.fld (WD_SC_n_CFG n) WD_SC_n_CFG_LIMIT) 1
  if s.flag (WD_SC_n_CFG n) WD_SC_n_CFG_EN && (c.st = 2 || c.st = 3 || c.st = 4 || c.st = 7) &&
      s.fld a WD_SC_n_STAT_TICKS < lim then
    let s1 := s.setFld a WD_SC_n_STAT_TICKS (s.fld a WD_SC_n_STAT_TICKS + 1)
    if s1.fld a WD_SC_n_STAT_TICKS = lim then s1.setFld a WD_SC_n_STAT_EXPIRED 1 else s1
  else s

/-- A remembered release (R76): the first block tick is kept. -/
def rememberRelease (n blk : Nat) (s : State) : State :=
  s.mapCore n (fun c => if c.relPend then c else { c with relPend := true, relBlk := blk })

/-- The core runs a handler, or an entry or return, that began in BLOCK_WAIT. -/
def fromBlockWait (c : Core) : Bool :=
  c.fromWait || match c.gap with
    | .entry _ w => w = 3
    | .halt w => w = 3
    | _ => false

/-- A block tick of the running exchange at core `n`; `blk` is B. -/
def coreBlockTick (n blk : Nat) (s : State) : State :=
  let c := s.core n
  if !coreOn s n then s
  else if c.st = 3 then release n blk s
  else
    let s1 := coreDogTick n s
    if c.st = 0 || c.st = 1 || c.st = 5 || c.st = 4 then s1
    else if (c.st = 6 && c.frozenFrom = 3) || fromBlockWait c then rememberRelease n blk s1
    else rememberRelease n blk (s1.incSat (SC_n_OVERRUN n) SC_n_OVERRUN_COUNT)

/-- CORE_WATCHDOG_EXPIRY (R403): LIMIT ticks have passed. -/
def doCoreWatchdogExpiry (n : Nat) (s : State) : State :=
  if s.flag (WD_SC_n_CFG n) WD_SC_n_CFG_EN &&
      decide (max (s.fld (WD_SC_n_CFG n) WD_SC_n_CFG_LIMIT) 1 ≤ s.fld (WD_SC_n_STAT n) WD_SC_n_STAT_TICKS)
  then s.setFld (WD_SC_n_STAT n) WD_SC_n_STAT_EXPIRED 1 else s

/-! ### Presentations -/

/-- A presentation reaches core `n`: a wait state takes it at once (R69, R77). -/
def corePresented (n : Nat) (s : State) : State :=
  let c := s.core n
  if (c.st = 3 || c.st = 4) && c.gap = .none && coreOn s n then inWait n s else s

/-! ### Freezing (R416 to R418) -/

/-- The core freezes: its stores complete, its results wait; a step's lock breaks. -/
def freezeNow (n : Nat) (step : Bool) (s : State) : State :=
  let s0 := if step then dropLock n s else s
  let s1 := (s0.core n).stores.foldl (landStore n) s0
  let c := s1.core n
  let s2 := s1.setCore n { c with stores := [], frozenFrom := c.st, st := 6, freezeReq := false, stepping := false }
  if step then recordHit n 7 0 c.pc 0 s2 else s2

/-- FREEZE (R416): ignored in HALTED, RESET and FAULT. -/
def doFreeze (n : Nat) (s : State) : State :=
  let c := s.core n
  if c.st = 0 || c.st = 1 || c.st = 5 || c.st = 6 then s else s.setCore n { c with freezeReq := true }

/-- FREEZE_TAKEN (R416, R418): at an issue boundary, once no lock is held. -/
def doFreezeTaken (n : Nat) (s : State) : State :=
  let c := s.core n
  if c.freezeReq && c.hold.isEmpty && !c.waitLock && (!holdsLock s n || c.stepping) && c.st ≠ 6 then freezeNow n c.stepping s
  else s

/-- FREEZE_LOCK_BREAK (R418): the deferred freeze breaks the lock. -/
def doFreezeLockBreak (n : Nat) (s : State) : State :=
  let c := s.core n
  if c.freezeReq && holdsLock s n && c.hold.isEmpty then freezeNow n c.stepping (dropLock n s) else s

/-- BSTEP (R417): one bundle from FROZEN, then frozen again; a held access ends first. -/
def doBstep (n : Nat) (s : State) : State :=
  let c := s.core n
  if c.st = 6 && c.frozenFrom = 2 && coreOn s n then
    let r := land n c.cyc (s.setCore n { c with st := 2, frozenFrom := 0, freezeReq := true })
    match r.2 with
    | some f => startFault n fcDataEcc f.slot f.pc (f.addr.getD 0) r.1
    | none =>
      let s1 := issueBundle n (!lockHeld s (n / 4)) true r.1
      let c1 := s1.core n
      if c1.waitLock then s1.setCore n { c1 with waitLock := false, st := 6, frozenFrom := 2, freezeReq := false }
      else if c1.hold.isEmpty then
        (match c1.gap with
        | .fault _ _ _ _ => s1
        | _ => freezeNow n true s1)
      else s1.setCore n { c1 with freezeReq := true, stepping := true }
  else s

/-! ### Readings -/

/-- The reading of SC_n_STATE. -/
def scState (s : State) (n : Nat) : Word :=
  let c := s.core n
  BitVec.ofNat 32 (c.st + c.sfld sIE * 8 + c.sfld sInHandler * 16 + c.sfld sLoopact * 256 +
    b2n (0 < c.repLeft) * 4096 + b2n (holdsLock s n) * 8192 + b2n c.relPend * 16384)

/-- The reading of SC_n_PC. -/
def scPc (s : State) (n : Nat) : Word := BitVec.ofNat 32 ((s.core n).pc % 4096)

end Sys2Proof.Machine
end

