-- ==== Sys2Proof/Machine/Sec.lean ====
section
/-! DEFINITION. Signatures, certificates, security engines and debug authentication (R365 to R369, R383 to R387,
R411, R412). Digests, ciphers and signatures are free functions of Config.
Choices and readings: log entries 49 and 53. -/

namespace Sys2Proof.Machine
open R

def State.mapSec (s : State) (f : Sec → Sec) : State := { s with sec := f s.sec }

/-! ### Bytes -/

/-- `n` bytes of `l` from `o`; bytes beyond the end are 0. -/
def slice (l : List Byte) (o n : Nat) : List Byte :=
  let x := (l.drop o).take n
  x ++ zeros (n - x.length)

/-- The little-endian number of `n` bytes of `l` at `o`. -/
def le (l : List Byte) (o n : Nat) : Nat := leNat (slice l o n)

def sha384 (l : List Byte) : List Byte := slice (Config.digest 384 l) 0 48

/-- AES-256-GCM: the data combined with the key stream, and the tag over associated data and ciphertext (R369). -/
def gcmCrypt (key iv data : List Byte) : List Byte :=
  data.zipWith (fun a b => a ^^^ b) (slice (Config.cipher 0 key iv (leBytes 8 data.length)) 0 data.length)

def gcmTag (key iv aad ct : List Byte) : List Byte :=
  slice (Config.cipher 1 key iv (leBytes 8 aad.length ++ aad ++ ct)) 0 16

/-! ### Certificates and chains (R365, R366) -/

def certLen : Nat := 30688

/-- The two public keys of a certificate, as RSA_N then SLH_PK. -/
def certKeys (c : List Byte) : List Byte := slice c 0x30 448

/-- Both signatures over `body` verify under the keys `k` (R367). -/
def bothVerify (k body rsa slh : List Byte) : Bool :=
  Config.verifies (k.take 384) body rsa && Config.verifies (k.drop 384) body slh

/-- Checks every certificate of a chain has by itself: MAGIC and SCOPE. -/
def certOk (s : State) (c : List Byte) : Bool :=
  le c 0 4 = 0x42544346 && (le c 0x28 8 = 0 || le c 0x28 8 = s.otp.serial)

/-- The certificate `c` verifies under the keys of its issuer. -/
def certSigned (k c : List Byte) : Bool := bothVerify k (slice c 0 0x200) (slice c 0x200 384) (slice c 0x380 29792)

/-- Each later certificate verifies under the one before it; the answer is the last one. -/
def chainRest (s : State) : List Byte → List (List Byte) → Option (List Byte)
  | c, [] => some c
  | c, d :: t => if certOk s d && certSigned (certKeys c) d then chainRest s d t else none

/-- The `n` certificates laid one after another in `l`. -/
def certsOf (l : List Byte) (n : Nat) : List (List Byte) := (List.range n).map (fun i => slice l (i * certLen) certLen)

/-- The signer of a chain of 1 to 3 certificates: its first has ROLE 1 and matches an unrevoked root; `which` limits the
roots to ROOT0 (0) or ROOT1 (1), or to either (2). -/
def chainSigner (s : State) (l : List Byte) (n which role : Nat) : Option (List Byte) :=
  match certsOf l n with
  | [] => none
  | c :: t =>
    let h := sha384 (certKeys c)
    let r0 := which ≠ 1 && !s.otp.root0Revoked && decide (h = s.otp.root0)
    let r1 := which ≠ 0 && s.otp.root1Set && !s.otp.root1Revoked && decide (h = s.otp.root1)
    if n ≤ 3 && certOk s c && le c 4 1 = 1 && (r0 || r1) then
      match chainRest s c t with
      | some d => if le d 4 1 = role then some d else none
      | none => none
    else none

/-! ### Key ladder (R368, R385) -/

/-- A key that the ladder derives: zeros once the device is decommissioned. -/
def ladderKey (s : State) (label : Nat) : List Byte :=
  if s.otp.lcs = 2 then zeros 32
  else slice (Config.cipher 2 s.otp.secret (leBytes 8 label) (leBytes 8 s.otp.serial)) 0 32

/-- The key in a slot: 0 and 1 come from the ladder. -/
def slotKey (s : State) (k : Nat) : List Byte :=
  if k = 0 then ladderKey s 0 else if k = 1 then ladderKey s 1 else tget [] s.sec.keys k

/-! ### Engines (R386) -/

def jobCtl (hash : Bool) : Nat := if hash then SEC_HASH_JOB_LO else SEC_PKE_JOB_LO
def jobHi (hash : Bool) : Nat := if hash then SEC_HASH_JOB_HI else SEC_PKE_JOB_HI
def jobStat (hash : Bool) : Nat := if hash then SEC_HASH_STAT else SEC_PKE_STAT

/-- Address of the job block. -/
def jobAddr (s : State) (hash : Bool) : Nat := s.fld (jobCtl hash) ⟨6, 26⟩ * 64 + s.fld (jobHi hash) ⟨0, 8⟩ * 2 ^ 32

def secErr (hash : Bool) (e : Nat) (s : State) : State := s.setFld (jobStat hash) ⟨4, 4⟩ e

/-- Operations of each engine. -/
def opOk (hash : Bool) (op : Nat) : Bool := if hash then 1 ≤ op && op ≤ 6 else op = 16 || op = 17

/-- The job names a key slot that its starter may not use. -/
def keyMisuse (op k : Nat) (rom : Bool) : Bool := decide (k < 4) && (!rom || op = 6)

/-- A write of SEC_x_JOB_HI starts a job; a job that misuses a key slot is refused. -/
def startJob (ag : Agent) (hash : Bool) (v : Word) (s : State) : State :=
  if !cloveOrDap ag || s.flag (jobStat hash) ⟨0, 1⟩ then s
  else
    let s1 := s.writeByType (jobHi hash) v
    let f := engRead 33 s1 (jobAddr s1 hash) 2
    let s2 := f.s
    let op := le f.data 0 1
    let k := le f.data 1 1
    if !f.err && keyMisuse op k (fromRom s ag) then (secErr hash 2 s2).setFld SEC_ALARM SEC_ALARM_KEY_MISUSE 1
    else (secErr hash 0 s2).setFld (jobStat hash) ⟨0, 1⟩ 1

def doSecurityJobStart (ag : Agent) (hash : Bool) (v : Word) (s : State) : State := startJob ag hash v s

/-- A job ends with error `e`. -/
def endJob (hash : Bool) (e : Nat) (s : State) : State :=
  ((secErr hash e s).setFld (jobStat hash) ⟨0, 1⟩ 0).setFld (jobStat hash) ⟨1, 1⟩ 1

/-- A job writes its result, which ends it. -/
def jobWrite (hash : Bool) (e dst : Nat) (l : List Byte) (s : State) : State :=
  let r := engWrite 33 s dst l
  endJob hash (if r.1 then 4 else e) r.2

/-- The job at work: `j` is its block. -/
def runJob (hash : Bool) (j : List Byte) (s : State) : State :=
  let op := le j 0 1
  let k := le j 1 1
  let len := le j 4 4
  let dst := le j 0x10 8
  let src := engRead 33 s (le j 8 8) len
  let keyIn := engRead 33 src.s (le j 0x18 8) (if hash then 32 else len)
  let key := if k = 0xFF then keyIn.data else slotKey s k
  let aad := engRead 33 keyIn.s (le j 0x20 8) (le j 0x28 4)
  let iv := slice j 0x2C 12
  let s1 := if 4 ≤ op ∧ op ≤ 5 then aad.s else if k = 0xFF ∧ op ≠ 1 ∧ op ≠ 2 ∧ op ≠ 3 then keyIn.s else src.s
  if !opOk hash op then endJob hash 1 s
  else if op ≠ 1 && op ≠ 2 && op ≠ 3 && k ≠ 0xFF && decide (16 ≤ k) then endJob hash 2 s
  else if op = 6 then
    if 4 ≤ k ∧ k < 16 then endJob hash 0 (keyIn.s.mapSec (fun x => { x with keys := tput [] x.keys k keyIn.data }))
    else endJob hash 2 s
  else if src.err || (k = 0xFF && decide (op > 3) && keyIn.err) || ((op = 4 || op = 5) && aad.err) then endJob hash 4 s1
  else if op ≤ 3 then
    let n := if op = 1 then 32 else if op = 2 then 48 else 64
    jobWrite hash 0 dst (slice (Config.digest (if op = 1 then 256 else if op = 2 then 384 else 512) src.data) 0 n) s1
  else if op = 4 then
    let ct := gcmCrypt key iv src.data
    let t := engWrite 33 s1 (le j 0x38 8) (gcmTag key iv aad.data ct)
    if t.1 then endJob hash 4 t.2 else jobWrite hash 0 dst ct t.2
  else if op = 5 then
    let t := engRead 33 s1 (le j 0x38 8) 16
    if t.err then endJob hash 4 t.s
    else if gcmTag key iv aad.data src.data = t.data then jobWrite hash 0 dst (gcmCrypt key iv src.data) t.s
    else jobWrite hash 3 dst (zeros len) t.s
  else jobWrite hash 0 dst (slice (Config.cipher op key [] src.data) 0 len) s1

/-- SECURITY_JOB_DONE. -/
def doSecurityJobDone (hash : Bool) (s : State) : State :=
  if !s.flag (jobStat hash) ⟨0, 1⟩ then s
  else
    let f := engRead 33 s (jobAddr s hash) 64
    if f.err then endJob hash 4 f.s else runJob hash f.data f.s

/-- GLITCH_DETECT: a supply glitch, or a clock glitch (R387). -/
def doGlitchDetect (clock : Bool) (s : State) : State :=
  let s1 := s.setFld SEC_ALARM (if clock then SEC_ALARM_CGLITCH else SEC_ALARM_VGLITCH) 1
  let s2 := s1.mapSec (fun x => { x with keys := tdrop (fun k => 2 ≤ k) x.keys })
  nutmeg 0x500 (if clock then 0x8002 else 0x8001) [(s2.reg SEC_ALARM).toNat] s2

/-! ### Debug authentication (R383, R384, R411, R412) -/

/-- A fresh challenge; none while challenges are refused. -/
def drawChallenge (s : State) : State :=
  if s.sec.lockout then s
  else (s.each (List.range 8) (fun s k =>
    (s.setReg (SEC_DBG_CHAL_k k) (BitVec.ofNat 32 (s.free .challenge))).freeNext)).mapSec (fun x => { x with chalTime := some s.timeNs })

def challenge (s : State) : List Byte := (List.range 8).flatMap (fun k => leBytes 4 (s.reg (SEC_DBG_CHAL_k k)).toNat)

/-- The permissions that a response gives, if it is accepted: NCERT, chain, body, SIG_RSA, SIG_SLH (R412). -/
def responsePerms (s : State) (l : List Byte) : Option Nat :=
  let n := le l 0 4
  let o := 4 + n * certLen
  let body := slice l o 48
  let fresh := match s.sec.chalTime with
    | some t => decide (s.timeNs ≤ t + 60000000000)
    | none => false
  if n = 0 ∨ 3 < n then none
  else match chainSigner s (slice l 4 (n * certLen)) n 2 5 with
    | some c =>
      if fresh && decide (body.take 32 = challenge s) && le body 32 8 = s.otp.serial &&
          bothVerify (certKeys c) body (slice l (o + 48) 384) (slice l (o + 432) 29792) then
        some (bits (le body 40 2 &&& le c 6 2) 0 5)
      else none
    | none => none

/-- A response is checked: the challenge is used up; three refusals in a row lock out for 60 s. -/
def checkResponse (l : List Byte) (s : State) : Bool × State :=
  match responsePerms s l with
  | some p =>
    (true, ((s.mapSec (fun x => { x with chalTime := none, refused := 0, granted := x.granted ||| p })).setFlds SEC_DBG
      [(SEC_DBG_PERMS, p), (SEC_DBG_UNLOCKED, 1)]))
  | none =>
    let s1 := s.mapSec (fun x => { x with chalTime := none, refused := x.refused + 1 })
    if 3 ≤ s1.sec.refused then
      (false, (((s1.setFld SEC_ALARM SEC_ALARM_DBG_FAIL 1).setFld DBG_AUTH_STAT DBG_AUTH_STAT_LOCKOUT 1).mapSec
        (fun x => { x with refused := 0, lockout := true })))
    else (false, s1)

/-- DEBUG_LOCKOUT_END. -/
def doDebugLockoutEnd (s : State) : State :=
  (s.setFld DBG_AUTH_STAT DBG_AUTH_STAT_LOCKOUT 0).mapSec (fun x => { x with lockout := false })

/-- The response window of the debug port. -/
def dbgResponse : Nat := 0x2000420000

/-- A write of DBG_AUTH_CTL: a GO while a check or the lockout runs is ignored. -/
def writeAuthCtl (v : Word) (s : State) : State :=
  let s1 := s.writeByType DBG_AUTH_CTL v
  if bits v.toNat 31 1 = 0 then s1
  else if s.sec.checking.isSome || s.sec.lockout then s1.setFld DBG_AUTH_STAT DBG_AUTH_STAT_LOCKOUT 1
  else (s1.setFld DBG_AUTH_STAT DBG_AUTH_STAT_BUSY 1).mapSec (fun x => { x with checking := some (bits v.toNat 0 18) })

/-- DEBUG_AUTH_GO: a write with GO by Clove or the port. -/
def doDebugAuthGo (ag : Agent) (len : Nat) (s : State) : State :=
  if cloveOrDap ag then writeAuthCtl (BitVec.ofNat 32 (len + 2 ^ 31)) s else s

/-- DEBUG_AUTH_DONE. -/
def doDebugAuthDone (s : State) : State :=
  match s.sec.checking with
  | none => s
  | some n =>
    let r := checkResponse (s.bytes dbgResponse (min n 131072)) (s.mapSec (fun x => { x with checking := none }))
    (r.2.setFld DBG_AUTH_STAT DBG_AUTH_STAT_BUSY 0).setFld DBG_AUTH_STAT
      (if r.1 then DBG_AUTH_STAT_OK else DBG_AUTH_STAT_FAIL) 1

/-- SESSION_LOCK: SEC_DBG.LOCK. -/
def doSessionLock (ag : Agent) (s : State) : State :=
  if cloveOrDap ag then s.setFlds SEC_DBG [(SEC_DBG_PERMS, 0), (SEC_DBG_UNLOCKED, 0), (SEC_DBG_LOCK, 1)] else s

/-- A session is open, and holds permission `b`. -/
def session (s : State) : Bool := s.flag SEC_DBG SEC_DBG_UNLOCKED
def sessionHas (s : State) (b : Nat) : Bool := session s && bits (s.fld SEC_DBG SEC_DBG_PERMS) b 1 = 1

/-- SYSHALT is held and Clove is halted: the device watchdog and the start window stand (R376, R406). -/
def sysHalt (s : State) : Bool := sessionHas s 2 && procSt s clove = 3

end Sys2Proof.Machine
end

