-- ==== Sys2Proof/Machine/Power.lean ====
section
/-! DEFINITION. Clocks, resets, power and watchdogs (R376, R377, R388 to R408, R431 to R433, R453, R454).
Choices and readings: log entries 3, 8, 17, 19, 28, 52, 54, 55 and 56. -/

namespace Sys2Proof.Machine
open R

def State.mapDev (s : State) (f : Dev → Dev) : State := { s with dev := f s.dev }

/-! ### Resets (R393 to R395) -/

/-- The device keeps what the always-on domain holds: the ring and its state, the causes, ATTEMPT, LAST_SLOT, LAST and
the edge latches. -/
def aonRegs (s : State) (nw : State) : State :=
  let s1 := nw.each [BB_STAT, BB_SEQ, BB_TRIG_SEQ, BB_LOST, WD_RST_CAUSE] (fun x a => x.setReg a (s.reg a))
  let s2 := s1.setFlds BT_STAT [(BT_STAT_LAST_SLOT, s.fld BT_STAT BT_STAT_LAST_SLOT), (BT_STAT_ATTEMPT, s.fld BT_STAT BT_STAT_ATTEMPT)]
  let s3 := s2.setFld BT_CAUSE BT_CAUSE_LAST (s.fld BT_CAUSE BT_CAUSE_LAST)
  s3.each (List.range 48) (fun x e => x.setFld (IC_EDGE_e_CFG e) IC_EDGE_e_CFG_LATCH (s.fld (IC_EDGE_e_CFG e) IC_EDGE_e_CFG_LATCH))

/-- What no reset of the device reaches: the waiting commands, the model's counter, one-time bits, the board, device time and with
it F (R466), the drives, the boot flash, and what firmware keeps in the store. -/
def lasting (s : State) (mem : List Host.Cell) : State :=
  { State.reset with
    pending := s.pending, freeCtr := s.freeCtr, mem := mem, otp := s.otp, timeNs := s.timeNs, ddrCap := s.ddrCap,
    frame := frameAt (fsHz State.reset) s.timeNs
    hostD3 := s.hostD3, hostL2 := s.hostL2,
    store := { Store.reset with total := s.store.total, segs := s.store.segs, seq := s.store.seq }
    fw := { Fw.reset with msgs := s.fw.msgs, sched := s.fw.sched, pins := s.fw.pins,
                           archNext := s.fw.archNext }
    dev := { Dev.reset with low := s.dev.low, xtal := s.dev.xtal, refPresent := s.dev.refPresent, wdo := s.dev.wdo,
                            cvKick := s.timeNs, tapIr := s.dev.tapIr, spiOut := s.dev.spiOut, lastRead := s.dev.lastRead,
                            dapStatus := s.dev.dapStatus, dapData := s.dev.dapData } }

/-- A reset before BOOT_DONE leaves its record (R376). -/
def noteStart (s : State) (window : Bool) (nw : State) : State :=
  if s.dev.winRun then
    (nw.setFld BT_CAUSE BT_CAUSE_LAST (if window then 1 else 2)).setFld BT_STAT BT_STAT_LAST_SLOT (s.fld BT_STAT BT_STAT_SLOT)
  else nw

/-- Memories outside the device's own arrays: the drives' segments and the boot flash. -/
def isStore (a : Nat) : Bool := 2 ^ 42 ≤ a && a < 2 ^ 44

/-- The ring of Nutmeg. -/
def isRing (a : Nat) : Bool := 0x20002C0000 ≤ a && a < 0x2000300000

/-- The patch RAM, which a warm or wider reset clears (R339). -/
def isPatchRam (a : Nat) : Bool := cvMem 0xC000 ≤ a && a < cvMem 0xC400

/-- WARM_RESET's work, with its causes as bits of WD_RST_CAUSE: registers outside the always-on domain reset, but for
MC_PERR, CK_CTL and the PLL and reference state; memories and control stores stay. -/
def warmReset (causes : List Nat) (s : State) : State :=
  let nw := lasting s (tdrop isPatchRam s.mem)
  let s1 := aonRegs s { nw with
    ecc := s.ecc, bb := s.bb, phase := 1
    ctl := { Ctl.reset with ucode := tdrop (fun k => 65536 ≤ k) s.ctl.ucode, romBanks := s.ctl.romBanks }
    dev := { nw.dev with switching := s.dev.switching } }
  let s2 := s1.each [MC_PERR, CK_CTL, CK_STAT] (fun x a => x.setReg a (s.reg a))
  (noteStart s (causes.contains 7) s2).setReg WD_RST_CAUSE
    (BitVec.ofNat 32 (causes.eraseDups.foldl (fun x b => x + 2 ^ b) 0))

/-- A warm reset whose cause has come (R393); `soft` is a write of PM_RST_CTL.WARM with this command. -/
def doWarmReset (soft : Bool) (s : State) : State :=
  let c := s.rstReq ++ (if soft then [5] else [])
  if c = [] then s else warmReset c s

/-- A pin or power-on reset: the device is held until RESET_RELEASE. Its memories stay only through a pin reset. -/
def wideReset (pin : Bool) (s : State) : State :=
  let m := tdrop isPatchRam s.mem
  let nw := lasting s (if pin then m else tdrop (fun a => !isStore a && !isRing a) m)
  let s1 := noteStart s false (aonRegs s { nw with bb := s.bb, ecc := if pin then s.ecc else [] })
  s1.setReg WD_RST_CAUSE (if pin then 4 else 2)

/-- PIN_RESET and POWER_ON_RESET. -/
def doPinReset (s : State) : State := wideReset true s
def doPowerOnReset (s : State) : State := wideReset false s

/-- ALWAYS_ON_POWER_UP: nothing of the device is kept. -/
def doAlwaysOnPowerUp (s : State) : State :=
  let nw := lasting s (tdrop (fun a => !isStore a) s.mem)
  { nw with timeNs := 0, frame := 0, dev := { Dev.reset with low := s.dev.low, xtal := s.dev.xtal, refPresent := s.dev.refPresent } }

/-- RESET_RELEASE: RESET_N is high and every supply is good; the PLLs have locked on the reference in effect. -/
def doResetRelease (s : State) : State :=
  if s.phase ≠ 0 ∨ s.dev.low ≠ [] ∨ ¬ (s.dev.refPresent || s.dev.xtal) then s
  else
    let s1 := s.setFlds CK_STAT [(CK_STAT_LOCKED, 15), (CK_STAT_REF_SEL, b2n !s.dev.refPresent), (CK_STAT_REF_OK, b2n s.dev.refPresent)]
    releaseEdges { s1 with phase := 1 }

/-- The DMA channels of tile `t` go to IDLE; their shadow sets stay. -/
def tileDmaReset (t : Nat) (s : State) : State :=
  s.each (List.range 16) (fun s c => setDmaState t c 0 (s.mapDma t c (fun _ => DmaCh.reset)))

/-- What a tile reset clears; an open test window is restored first. -/
def tileReset (t : Nat) (s : State) : State :=
  let s1 := s.each (List.range 9) (fun s b => doTestWindowEnd t b none s)
  tileBlockReset t (tileDmaReset t (s1.each (List.range 4) (fun s c => coreReset (4 * t + c) s)))

/-- TILE_RESET: ignored while the tile is gated (R395). -/
def doTileReset (ag : Agent) (t : Nat) (s : State) : State :=
  if !cloveOrDap ag then s
  else if tileOn s t then tileReset t s
  else s.setFld PM_ERR PM_ERR_GATED 1

/-- A write of PM_RST_CTL: TILE acts at once, WARM is carried out by the next WARM_RESET. -/
def writeRstCtl (ag : Agent) (v : Word) (s : State) : State :=
  let s1 := s.writeByType PM_RST_CTL v
  let t := bits v.toNat 4 4
  let s2 := if bits v.toNat 1 1 = 1 ∧ t < 12 then doTileReset ag t s1 else s1
  if bits v.toNat 0 1 = 1 then { s2 with rstReq := s2.rstReq ++ [5] } else s2

/-! ### Tile power (R398, R399, R438) -/

def tileGate (s : State) (t : Nat) : Bool := bits (s.fld PM_TILE_CTL PM_TILE_CTL_GATE) t 1 = 1
def tileRet (s : State) (t : Nat) : Bool := bits (s.fld PM_TILE_CTL PM_TILE_CTL_RET) t 1 = 1

/-- The conditions of R398 for gating tile `t`. -/
def mayGate (s : State) (t : Nat) : Bool :=
  (List.range 4).all (fun c => let x := (s.core (4 * t + c)).st; x = 0 || x = 1 || x = 4) &&
    (List.range 16).all (fun c => dmaState s t c = 0) && ((portOfTile s t).isNone || !sxRunning s)

def setBit (s : State) (a : Nat) (f : Fld) (t : Nat) (b : Bool) : State :=
  s.setFld a f (setBits (s.fld a f) t 1 (b2n b))

def tilePend (s : State) (t : Nat) : Nat := tget 0 s.dev.tilePend t
def setTilePend (t x : Nat) (s : State) : State := s.mapDev (fun d => { d with tilePend := tput 0 d.tilePend t x })

/-- The GATE bit of one tile is written. -/
def gateTile (v : Word) (s : State) (t : Nat) : State :=
  let want := bits v.toNat t 1 = 1
  if want ∧ ¬ tileGate s t then
    if mayGate s t then setTilePend t 1 (setBit s PM_TILE_CTL PM_TILE_CTL_GATE t true)
    else s.setFld PM_ERR PM_ERR_GATE_BUSY 1
  else if ¬ want ∧ tileGate s t then setTilePend t 2 (setBit s PM_TILE_CTL PM_TILE_CTL_GATE t false)
  else s

/-- TILE_GATE_WRITE: a write of PM_TILE_CTL. A tile whose GATE is 0 and whose power is off comes on. -/
def writeTileCtl (ag : Agent) (v : Word) (s : State) : State :=
  if !cloveOrDap ag then s
  else
    let s1 := (s.setFld PM_TILE_CTL PM_TILE_CTL_RET (bits v.toNat 16 12)).each (List.range 12) (gateTile v)
    s1.each (List.range 12) (fun s t =>
      if !tileGate s t && !tileOn s t && tilePend s t = 0 then setTilePend t 2 s else s)

def doTileGateWrite (ag : Agent) (v : Word) (s : State) : State := writeTileCtl ag v s

/-- Addresses of tile `t`'s own memories: its window, its spare rows and save buffers. -/
def inTile (t a : Nat) : Bool :=
  (tileBase t ≤ a && a < tileBase t + 0xF00000) || (spareBase t 0 0 ≤ a && a < spareBase (t + 1) 0 0) ||
    (saveBase t 0 ≤ a && a < saveBase (t + 1) 0)

/-- TILE_POWER_OFF: without retention its state and contents are lost. -/
def doTilePowerOff (t : Nat) (s : State) : State :=
  if tilePend s t ≠ 1 then s
  else
    let s1 := setBit (setTilePend t 0 s) PM_STAT PM_STAT_TILE_ON t false
    if tileRet s t then s1
    else
      let s2 := tileReset t s1
      { s2 with mem := tdrop (inTile t) s2.mem, ecc := tdrop (fun w => inTile t (8 * w)) s2.ecc }

/-- TILE_POWER_ON: the core watchdogs reload, and sleeping cores see what is presented to them. -/
def doTilePowerOn (t : Nat) (s : State) : State :=
  if tilePend s t ≠ 2 then s
  else
    let s1 := setBit (setTilePend t 0 s) PM_STAT PM_STAT_TILE_ON t true
    s1.each (List.range 4) (fun s c =>
      let n := 4 * t + c
      let s2 := s.setFld (WD_SC_n_STAT n) WD_SC_n_STAT_TICKS 0
      if pres s2 n ≠ 0 then corePresented n s2 else s2)

/-- A presentation with WAKE to a core of a gated tile (R399). -/
def tileWake (n : Nat) (s : State) : State :=
  let t := n / 4
  if tileOn s t || !tileGate s t then s
  else if bits (s.fld PM_TILE_WAKE PM_TILE_WAKE_AUTOWAKE) t 1 = 1 then
    setTilePend t 2 (setBit s PM_TILE_CTL PM_TILE_CTL_GATE t false)
  else setBit s PM_STAT PM_STAT_WAKE_REQ t true

/-! ### Standby (R400, R401) -/

/-- A write of PM_CTL.STBY. -/
def enterStandby (s : State) : State :=
  if inRun s && !sxRunning s && (List.range 8).all (fun g => !s.flag (DRV_GRP_g_CTL g) DRV_GRP_g_CTL_EN_OUT) &&
      (List.range 12).all (fun t => tileGate s t || !tileOn s t) && decide (s.dev.stby = 0) then
    s.mapDev (fun d => { d with stby := 1, wakeLater := false })
  else s.setFld PM_ERR PM_ERR_STBY_BUSY 1

/-- A write of PM_CTL. -/
def writePmCtl (ag : Agent) (v : Word) (s : State) : State :=
  if !cloveOrDap ag then s
  else
    let s1 := s.writeByType PM_CTL v
    let s2 := if bits v.toNat 0 1 = 1 then enterStandby s1 else s1
    if bits v.toNat 1 1 = 1 then wakeRequest s2 else s2

def doStby (ag : Agent) (s : State) : State := writePmCtl ag 1 s
def doWake (ag : Agent) (s : State) : State := writePmCtl ag 2 s

/-- Elapsed time of the device watchdog in ms, and of Clove's. -/
def devElapsed (s : State) : Nat :=
  if !s.flag WD_DEV_CTL WD_DEV_CTL_EN then 0
  else match s.dev.devFrozen with
    | some e => e.2
    | none => (s.timeNs - s.dev.devKick) / 1000000

def cvElapsed (s : State) : Nat :=
  match s.dev.cvFrozen with
  | some e => e
  | none => (s.timeNs - s.dev.cvKick) / 1000000

/-- What freezes the device watchdog now: a halt under SYSHALT, or Standby with STBY_PAUSE (R406, R407). -/
def devHeld (s : State) : Bool :=
  sysHalt s || (s.flag PM_STAT PM_STAT_STANDBY && s.flag WD_DEV_CTL WD_DEV_CTL_STBY_PAUSE)

/-- The device watchdog freezes, or goes on with a full period. -/
def devDogSettle (s : State) : State :=
  match s.dev.devFrozen with
  | none =>
    if devHeld s && s.flag WD_DEV_CTL WD_DEV_CTL_EN then
      s.mapDev (fun d => { d with devFrozen := some (sysHalt s, devElapsed s) })
    else s
  | some e =>
    if devHeld s then s
    else
      let s1 := s.mapDev (fun d => { d with devFrozen := none, devKick := s.timeNs })
      if e.1 then s1.setFld WD_DEV_STAT WD_DEV_STAT_DBG_RESUMED 1 else s1

/-- The same of Clove's watchdog, which a halt of Clove freezes (R405). -/
def cvDogSettle (s : State) : State :=
  if s.dev.cvFrozen.isNone then
    (if procSt s clove = 3 then s.mapDev (fun d => { d with cvFrozen := some (cvElapsed s) }) else s)
  else if procSt s clove = 3 then s
  else (s.mapDev (fun d => { d with cvFrozen := none, cvKick := s.timeNs })).setFld WD_CV_STAT WD_CV_STAT_DBG_RESUMED 1

/-- The watchdogs follow every command. -/
def dogSettle (s : State) : State := cvDogSettle (devDogSettle s)

/-- STANDBY_ENTERED: ETH1 to ETH3 and the PCIe links have stopped, and a wake request of the entry follows at once. -/
def doStandbyEntered (s : State) : State :=
  if s.dev.stby ≠ 1 then s
  else
    let s1 := (s.setFld PM_STAT PM_STAT_STANDBY 1).each [1, 2, 3] (fun s p => doLinkDown p s)
    let s2 := s1.each [0, 1] (fun s p => s.setFld (NV_p_STAT p) NV_p_STAT_LINK 0)
    let s4 := s2.mapDev (fun d => { d with stby := 2, hpe := false })
    if s4.dev.wakeLater then wakeRequest (s4.mapDev (fun d => { d with wakeLater := false })) else s4

/-- STANDBY_EXITED. -/
def doStandbyExited (s : State) : State :=
  if s.dev.stby ≠ 3 then s
  else (s.setFld PM_STAT PM_STAT_STANDBY 0).mapDev (fun d => { d with stby := 0 })

/-! ### Clock domains (R389) -/

/-- CLOCK_GATE_WRITE: CK_GATE_LO, or CK_GATE_HI; domains 12, 13, 44, 62 and 63 cannot be stopped. -/
def doClockGateWrite (ag : Agent) (hi : Bool) (v : Word) (s : State) : State :=
  if !cloveOrDap ag then s
  else if hi then s.setReg CK_GATE_HI (v &&& 0x3FFFEFFF)
  else s.setReg CK_GATE_LO (v &&& 0xFFFFCFFF)

/-- The domain is stopped: by its gate bit, or in Standby for the links that stop there. -/
def domainOff (s : State) (d : Nat) : Bool :=
  !clockOn s d || (s.flag PM_STAT PM_STAT_STANDBY && [33, 34, 35, 37, 38, 39, 40, 41, 42].contains d)

/-! ### The reference and the PLLs (R390 to R392) -/

/-- REFCLK_LOSS. -/
def doRefclkLoss (s : State) : State :=
  if !s.dev.refPresent then s
  else
    let s1 := (s.mapDev (fun d => { d with refPresent := false })).setFlds CK_STAT
      [(CK_STAT_REF_LOST, 1), (CK_STAT_REF_OK, 0), (CK_STAT_HOLD, if s.flag CK_STAT CK_STAT_REF_SEL then s.fld CK_STAT CK_STAT_HOLD else 1)]
    nutmeg 0x700 1 [(s1.reg CK_STAT).toNat] (latchEdge 46 true s1)

/-- The reference input switches; the PLLs slew to lock. -/
def switchRef (sel : Nat) (s : State) : State :=
  (s.setFlds CK_STAT [(CK_STAT_REF_SEL, sel), (CK_STAT_HOLD, 0)]).mapDev (fun d => { d with switching := true })

/-- HOLD_EXPIRY: 200 µs of hold. -/
def doHoldExpiry (s : State) : State :=
  if !s.flag CK_STAT CK_STAT_HOLD || s.flag CK_STAT CK_STAT_FREERUN then s
  else if s.flag CK_CTL CK_CTL_XTAL_EN && s.flag CK_STAT CK_STAT_XTAL_OK then switchRef 1 s
  else s.setFld CK_STAT CK_STAT_FREERUN 1

/-- FALLBACK_LOCK: every PLL has locked after a switch. -/
def doFallbackLock (s : State) : State :=
  if !s.dev.switching then s
  else (s.setFlds CK_STAT [(CK_STAT_FALLBACK, 1), (CK_STAT_LOCKED, 15)]).mapDev (fun d => { d with switching := false })

/-- XTAL_READY. -/
def doXtalReady (s : State) : State :=
  if s.flag CK_CTL CK_CTL_XTAL_EN && s.dev.xtal then s.setFld CK_STAT CK_STAT_XTAL_OK 1 else s

/-- A switch back to REFCLK. -/
def ckReturn (s : State) : State :=
  if s.flag CK_STAT CK_STAT_REF_OK && s.flag CK_STAT CK_STAT_REF_SEL then switchRef 0 s else s

/-- REF_OK: the returned REFCLK has been stable for 10 ms. -/
def doRefOk (s : State) : State :=
  if s.dev.refPresent && s.flag CK_STAT CK_STAT_REF_SEL then
    let s1 := s.setFld CK_STAT CK_STAT_REF_OK 1
    if s.flag CK_CTL CK_CTL_AUTO_RETURN then ckReturn s1 else s1
  else s

/-- A write of CK_CTL, and RETURN. Without XTAL_EN the crystal is not ready. -/
def writeCkCtl (ag : Agent) (v : Word) (s : State) : State :=
  if !cloveOrDap ag then s
  else
    let s1 := s.writeByType CK_CTL v
    let s2 := if bits v.toNat 0 1 = 1 then s1 else s1.setFld CK_STAT CK_STAT_XTAL_OK 0
    if bits v.toNat 2 1 = 1 then ckReturn s2 else s2

def doReturn (ag : Agent) (s : State) : State :=
  writeCkCtl ag (BitVec.ofNat 32 (bits (s.reg CK_CTL).toNat 0 2 + 4)) s

/-- REFCLK_RETURN: the PLLs leave hold on the reference. -/
def doRefclkReturn (s : State) : State :=
  let s1 := s.mapDev (fun d => { d with refPresent := true })
  if s.flag CK_STAT CK_STAT_REF_SEL then s1 else s1.setFlds CK_STAT [(CK_STAT_HOLD, 0), (CK_STAT_FREERUN, 0)]

def warmRequest (cause : Nat) (s : State) : State := { s with rstReq := s.rstReq ++ [cause] }

/-- Every Ethernet port goes down (R392, R454). -/
def portsDown (s : State) : State := s.each (List.range 4) (fun s p => doLinkDown p s)

/-- PLL_LOCK_LOSS of the core (0), memory (1), link (2) or media PLL (3). -/
def doPllLockLoss (p : Nat) (s : State) : State :=
  let s1 := setBit (setBit s CK_STAT CK_STAT_LOCK_LOST p true) CK_STAT CK_STAT_LOCKED p false
  if p < 2 then warmRequest 8 s1
  else if p = 2 then portsDown s1
  else s1.setFld NET_PTP_STAT NET_PTP_STAT_LOCKED 0

/-- PLL_LOCK_RETURN. -/
def doPllLockReturn (p : Nat) (s : State) : State := setBit s CK_STAT CK_STAT_LOCKED p true

/-! ### Watchdogs (R402 to R407) -/

def devArmed (s : State) : Bool := s.flag WD_DEV_CTL WD_DEV_CTL_EN && s.dev.devFrozen.isNone

/-- The device watchdog expires. -/
def devExpire (s : State) : State :=
  nutmeg 0x600 0x8001 [devElapsed s] ((warmRequest 3 s).mapDev (fun d => { d with wdo := true }))

/-- Clove's watchdog expires. -/
def cvExpire (s : State) : State := nutmeg 0x600 0x8002 [cvElapsed s] (warmRequest 4 s)

/-- WD_DEV_KICK. -/
def doWdDevKick (ag : Agent) (v : Word) (s : State) : State :=
  if !cloveOrDap ag then s
  else
    let s1 := s.writeByType WD_DEV_KICK v
    if !devArmed s then s1
    else if bits v.toNat 0 16 ≠ 0x5744 ∨ devElapsed s < s.fld WD_DEV_CFG WD_DEV_CFG_OPEN then devExpire s1
    else s1.mapDev (fun d => { d with devKick := s.timeNs })

/-- WD_CV_KICK. -/
def doWdCvKick (ag : Agent) (v : Word) (s : State) : State :=
  if !cloveOrDap ag then s
  else
    let s1 := s.writeByType WD_CV_KICK v
    if bits v.toNat 0 16 ≠ 0x5744 then cvExpire s1
    else s1.mapDev (fun d => { d with cvKick := s.timeNs })

/-- A write of WD_DEV_CTL, and WD_DEV_ARM. -/
def writeDevCtl (ag : Agent) (v : Word) (s : State) : State :=
  if !cloveOrDap ag then s
  else
    let s1 := s.writeByType WD_DEV_CTL v
    if bits v.toNat 0 1 = 1 ∧ ¬ s.flag WD_DEV_CTL WD_DEV_CTL_EN then s1.mapDev (fun d => { d with devKick := s.timeNs, devFrozen := none })
    else s1

def doWdDevArm (ag : Agent) (s : State) : State :=
  writeDevCtl ag (BitVec.ofNat 32 (1 + 2 * s.fld WD_DEV_CTL WD_DEV_CTL_STBY_PAUSE)) s

/-- A write of WD_DEV_CFG is ignored while EN is 1. -/
def writeDevCfg (ag : Agent) (v : Word) (s : State) : State :=
  if !cloveOrDap ag || s.flag WD_DEV_CTL WD_DEV_CTL_EN then s else s.writeByType WD_DEV_CFG v

/-- DEVICE_WATCHDOG_WARNING and DEVICE_WATCHDOG_EXPIRY. -/
def doDeviceWatchdogWarning (s : State) : State :=
  if devArmed s && decide (s.fld WD_DEV_CFG WD_DEV_CFG_WARN ≠ 0) then s.setFld WD_DEV_STAT WD_DEV_STAT_WARNED 1 else s

def doDeviceWatchdogExpiry (s : State) : State := if devArmed s then devExpire s else s

/-- CLOVE_WATCHDOG_WARNING and CLOVE_WATCHDOG_EXPIRY: frozen while the port holds Clove halted. -/
def doCloveWatchdogWarning (s : State) : State :=
  if s.dev.cvFrozen.isSome then s else s.setFld WD_CV_STAT WD_CV_STAT_WARNED 1

def doCloveWatchdogExpiry (s : State) : State := if s.dev.cvFrozen.isSome then s else cvExpire s

/-- WDO_PULSE_END. -/
def doWdoPulseEnd (s : State) : State := s.mapDev (fun d => { d with wdo := false })

/-- Readings of WD_DEV_STAT and WD_CV_STAT. -/
def devStat (s : State) : Word :=
  BitVec.ofNat 32 (setBits (setBits (s.reg WD_DEV_STAT).toNat 0 16 (min (devElapsed s) 65535)) 18 1 (b2n s.dev.devFrozen.isSome))

def cvStat (s : State) : Word :=
  BitVec.ofNat 32 (setBits (setBits (s.reg WD_CV_STAT).toNat 0 16 (min (cvElapsed s) 65535)) 18 1 (b2n s.dev.cvFrozen.isSome))

/-! ### Starts (R376, R377) -/

/-- A write of BT_CTL: BOOT_DONE, COMMIT_RB, XIP_WP. -/
def bootDone (s : State) : State :=
  if inRun s || s.flag BT_STAT BT_STAT_MINIMAL || decide (s.phase ≠ 2) then s
  else settleGroups ((s.setFlds BT_STAT [(BT_STAT_ATTEMPT, 0), (BT_STAT_RUN, 1)]).mapDev (fun d => { d with winRun := false }))

/-- OTP bits are blown until RB_CTR equals ROLLBACK; a recovery container's write is ignored (R372). -/
def commitRb (s : State) : State :=
  if inRun s && !s.flag BT_STAT BT_STAT_KIND then { s with otp := { s.otp with rollback := max s.otp.rollback s.fw.rollback } } else s

def writeBtCtl (ag : Agent) (v : Word) (s : State) : State :=
  if !cloveOrDap ag then s
  else
    let s1 := s.writeByType BT_CTL v
    let s2 := if bits v.toNat 0 1 = 1 then bootDone s1 else s1
    if bits v.toNat 1 1 = 1 then commitRb s2 else s2

def doBootDone (ag : Agent) (s : State) : State := writeBtCtl ag 1 s
def doCommitRb (ag : Agent) (s : State) : State := writeBtCtl ag 2 s
def doXipWp (ag : Agent) (s : State) : State := writeBtCtl ag 4 s

/-- START_WINDOW_EXPIRY: not while SYSHALT holds Clove. -/
def doStartWindowExpiry (s : State) : State := if s.dev.winRun && !sysHalt s then warmRequest 7 s else s

/-! ### DDR5 and supplies (R408, R432, R433, R454) -/

def setLost (c : Nat) (b : Bool) (s : State) : State :=
  s.setFld PM_DDR_STAT (if c = 0 then PM_DDR_STAT_CH0_LOST else PM_DDR_STAT_CH1_LOST) (b2n b)

/-- DDR_CHANNEL_LOST: firmware records the failover; without the mirror it requests a warm reset. -/
def doDdrChannelLost (c : Nat) (s : State) : State :=
  let s1 := setLost c true s
  if !inRun s then s1
  else
    let s2 := nutmeg 0x1000 8 [c] s1
    if ddrMirror s then s2 else warmRequest 5 s2

/-- DDR_REDIRECT_DONE. -/
def doDdrRedirectDone (c : Nat) (s : State) : State :=
  if ddrMirror s && chLost s c then setBit s PM_DDR_CFG PM_DDR_CFG_REDIR c true else s

/-- A write of PM_DDR_CFG: MIRROR is taken once after a reset, at DDR5 initialisation. -/
def writeDdrCfg (ag : Agent) (v : Word) (s : State) : State :=
  if !cloveOrDap ag || inRun s || s.flag PM_DDR_CFG PM_DDR_CFG_MIRROR then s else s.writeByType PM_DDR_CFG v

/-- The PCIe links and the Ethernet ports lose their supply. -/
def linksDown (s : State) : State :=
  ((portsDown s).each [0, 1] (fun s p => s.setFld (NV_p_STAT p) NV_p_STAT_LINK 0)).mapDev (fun d => { d with hpe := false })

/-- SUPPLY_MONITOR_FALL of supply 0 VDD_CORE, 1 VDD_SRAM, 2 VDDA_PLL, 3 VDD_AON, 4 VDD_IO, 5 VDD_LINK, 6 VDDA_LINK,
7 VDDQ_DDR (R454). -/
def doSupplyMonitorFall (k : Nat) (s : State) : State :=
  let s1 := s.mapDev (fun d => { d with low := if d.low.contains k then d.low else k :: d.low })
  if k < 5 then wideReset false s1
  else if k < 7 then linksDown s1
  else setLost 1 true (setLost 0 true s1)

/-- SUPPLY_MONITOR_RISE: VDD_AON's is followed by an always-on power-up, VDD_CORE's and VDD_IO's by a power-on reset; the
DDR5 channels are no longer lost unless redirected. -/
def doSupplyMonitorRise (k : Nat) (s : State) : State :=
  let s1 := s.mapDev (fun d => { d with low := d.low.filter (fun x => x ≠ k) })
  if k = 3 then doAlwaysOnPowerUp s1
  else if k = 0 ∨ k = 4 then wideReset false s1
  else if k = 7 ∧ s.dev.low.contains 7 then
    s1.each [0, 1] (fun s c => if bits (s.fld PM_DDR_CFG PM_DDR_CFG_REDIR) c 1 = 1 then s else setLost c false s)
  else s1

/-! ### PCIe and the test access port (R290, R409, R447) -/

/-- PCIE_LINK_UP and PCIE_LINK_DOWN of HPE (0), NVA (1), NVB (2). -/
def doPcieLinkUp (l : Nat) (s : State) : State :=
  if l = 0 then s.mapDev (fun d => { d with hpe := true }) else s.setFld (NV_p_STAT (l - 1)) NV_p_STAT_LINK 1

def doPcieLinkDown (l : Nat) (s : State) : State :=
  if l = 0 then s.mapDev (fun d => { d with hpe := false }) else s.setFld (NV_p_STAT (l - 1)) NV_p_STAT_LINK 0

/-- HOST_POWER_STATE_CHANGE. -/
def doHostPowerStateChange (d3 l2 : Bool) (s : State) : State := { s with hostD3 := d3, hostL2 := l2 }

/-- TAP_INSTRUCTION_UPDATE: an instruction without its permission, or an unlisted code, acts as BYPASS. -/
def doTapInstructionUpdate (ir : Nat) (s : State) : State :=
  let need := [0x00, 0x03, 0x04, 0x05, 0x06].contains ir
  let ok := if need then s.otp.lcs = 0 || sessionHas s 3 else ir = 0x01 || ir = 0x02 || ir = 0x20
  s.mapDev (fun d => { d with tapIr := if ok then ir else 0xFF })

end Sys2Proof.Machine
end

