-- ==== Sys2Proof/Machine/Debug.lean ====
section
/-! DEFINITION. Debugging (chapter 18): stepping of Clove and Sumac, the virtual terminal, the readback windows,
and Nutmeg's commands. A command that names the debug access port stands for an access that R411 and R413 let
through; DAP_ACCESS makes those checks.
Choices and readings: log entries 58 and 59. -/

namespace Sys2Proof.Machine
open R

/-! ### Clove and Sumac (R420) -/

/-- One instruction from HALTED. -/
def stepProc (p : Nat) (s : State) : State :=
  if procSt s p ≠ 3 ∨ (p = clove ∧ s.ctl.mchk ≠ 0) ∨ ¬ atBoundary s p then s
  else boundary p (stepFetch p (setProcSt (s.mapProc p (fun c => { c with stepping := true, haltReq := false })) p 1))

/-- HALT: at the next instruction boundary. -/
def cloveHalt (s : State) : State :=
  if procSt s clove = 1 ∨ procSt s clove = 2 then boundary clove (s.mapProc clove (fun c => { c with haltReq := true })) else s

/-- RESUME: Clove goes on; a held presentation is taken. -/
def cloveResume (s : State) : State :=
  if procSt s clove ≠ 3 ∨ s.ctl.mchk ≠ 0 then s else boundary clove (setProcSt s clove 1)

/-- A write of DBG_CV_CTL. -/
def writeCvDbg (ag : Agent) (v : Word) (s : State) : State :=
  if !cloveOrDap ag then s
  else
    let s1 := s.writeByType DBG_CV_CTL v
    let s2 := if bits v.toNat 1 1 = 1 then cloveHalt s1 else s1
    let s3 := if bits v.toNat 2 1 = 1 then stepProc clove s2 else s2
    if bits v.toNat 3 1 = 1 then cloveResume s3 else s3

/-- DBG_CV_CTL with one more bit, and HOLD as it is. -/
def cvDbgBit (s : State) (b : Nat) : Word := BitVec.ofNat 32 (s.fld DBG_CV_CTL DBG_CV_CTL_HOLD + 2 ^ b)

def doCloveDebugHalt (ag : Agent) (s : State) : State := writeCvDbg ag (cvDbgBit s 1) s
def doCloveDebugStep (ag : Agent) (s : State) : State := writeCvDbg ag (cvDbgBit s 2) s
def doResume (ag : Agent) (s : State) : State := writeCvDbg ag (cvDbgBit s 3) s

/-- A write of DBG_SU_STEP. -/
def writeSuStep (ag : Agent) (v : Word) (s : State) : State :=
  if !cloveOrDap ag then s
  else
    let s1 := s.writeByType DBG_SU_STEP v
    let p := bits v.toNat 0 7
    if bits v.toNat 31 1 = 1 ∧ p < 96 ∧ procClock s p then stepProc p s1 else s1

def doSumacDebugStep (ag : Agent) (p : Nat) (s : State) : State := writeSuStep ag (BitVec.ofNat 32 (2 ^ 31 + p)) s

/-- A write of DBG_SC_n_CTL. -/
def writeScDbg (ag : Agent) (n : Nat) (v : Word) (s : State) : State :=
  if !cloveOrDap ag then s
  else
    let s1 := s.writeByType (DBG_SC_n_CTL n) v
    let s2 := if bits v.toNat 0 1 = 1 then doFreeze n s1 else s1
    if bits v.toNat 1 1 = 1 then doBstep n s2 else s2

/-! ### The virtual terminal (R421) -/

/-- A read of DBG_VT_t_OUT. -/
def vtReadOut (t : Nat) (s : State) : Word × State :=
  (s.reg (DBG_VT_t_OUT t), s.setFld (DBG_VT_t_STAT t) DBG_VT_t_STAT_OUT_FULL 0)

/-- The word that a command read. -/
def noteRead (r : Word × State) : State := r.2.mapDev (fun d => { d with lastRead := r.1 })

def doVtOutRead (t : Nat) (s : State) : State := noteRead (vtReadOut t s)

/-- VT_IN_WRITE, by Clove or the port. -/
def doVtInWrite (ag : Agent) (t : Nat) (v : Word) (s : State) : State :=
  if !cloveOrDap ag then s
  else if s.flag (DBG_VT_t_STAT t) DBG_VT_t_STAT_IN_FULL then s.setFld (DBG_VT_t_STAT t) DBG_VT_t_STAT_IN_OVF 1
  else (s.setReg (DBG_VT_t_IN t) v).setFld (DBG_VT_t_STAT t) DBG_VT_t_STAT_IN_FULL 1

/-! ### Readback windows (R422, R423) -/

/-- Words from word `b` on. -/
def wordsFrom (b : Nat) (l : List Nat) : List (Nat × Nat) := (List.range l.length).zipWith (fun i v => (b + i, v)) l

/-- Control register `r` as a window shows it: a read has no effect. -/
def ctlShow (s : State) (n r : Nat) : Nat :=
  if r = crCYCLO then (s.core n).cycles % 2 ^ 32
  else if r = 20 then (s.reg (DBG_VT_t_OUT n)).toNat
  else if r = 21 then (s.reg (DBG_VT_t_IN n)).toNat
  else if r ≤ 19 then (s.core n).ctl r
  else 0

/-- In-flight results in order of landing, lower slots first. -/
def insFlight (f : Flight) : List Flight → List Flight
  | [] => [f]
  | g :: t => if f.due < g.due ∨ (f.due = g.due ∧ f.slot < g.slot) then f :: g :: t else g :: insFlight f t

def flightOrder (l : List Flight) : List Flight := (l.filter writesReg).foldl (fun a f => insFlight f a) []

/-- The four words of an in-flight entry. -/
def flightWords (c : Core) (f : Flight) : List Nat :=
  [f.dest % 1024 + (f.due - c.cyc) % 32 * 2 ^ 10 + f.slot % 8 * 2 ^ 15 + 2 ^ 31, f.val % 2 ^ 32, f.val / 2 ^ 32 % 256, f.pc % 4096]

/-- Kind 0. -/
def winCore (s : State) (n : Nat) : List (Nat × Nat) :=
  let c := s.core n
  wordsFrom 0 ((List.range 64).map c.d) ++ wordsFrom 64 ((List.range 16).map c.p) ++ wordsFrom 80 ((List.range 16).map c.k) ++
    wordsFrom 96 ((List.range 16).flatMap (fun a =>
      [c.get (accKey a) % 2 ^ 32, unsext 32 (sext 8 (c.get (accKey a) / 2 ^ 32))])) ++
    [(128, (List.range 8).foldl (fun x i => x + b2n (c.cond i) * 2 ^ i) 0)] ++
    wordsFrom 160 ((List.range 32).map (ctlShow s n)) ++ [(192, c.divFree - c.cyc), (193, c.repLeft)] ++
    wordsFrom 256 ((flightOrder c.flight).flatMap (flightWords c))

/-- Kinds 1 and 2: the words available at any time. The cycles waited are not counted by the model. -/
def winProcAny (s : State) (p : Nat) : List (Nat × Nat) :=
  let m := microPc s p
  [(0, (s.proc p).pc), (1, m.1 + b2n m.2 * 2048), (2, if m.2 then s.free .unstated % 2 ^ 32 else 0)]

/-- The words available while halted. -/
def winProcHalted (s : State) (p : Nat) : List (Nat × Nat) :=
  let c := s.proc p
  let urs := match c.u with
    | some u => u.urs
    | none => []
  let cnt := match c.u with
    | some u => (u.cnt, u.mdr)
    | none => (c.sp 32, c.sp 33)
  [(3, c.status), (4, c.os.length), (5, c.rs.length)] ++ wordsFrom 16 c.os.reverse ++
    wordsFrom 48 (c.rs.reverse.map (fun e => e.1 + e.2 * 2 ^ 24)) ++ wordsFrom 80 urs.reverse ++
    [(88, cnt.1), (89, cnt.2)] ++ wordsFrom 96 ((List.range 16).map (readSpr p c))

def winProc (s : State) (p : Nat) (halted : Bool) : List (Nat × Nat) :=
  winProcAny s p ++ (if halted then winProcHalted s p else [])

/-- The address of element `i` on a side of an active set (R264): an indexed side takes its offset from the table. -/
def elemAddr (s : State) (e : Nat) (d : DmaCh) (dst : Bool) (i : Nat) : Nat :=
  let a := if dst then dDst d else dSrc d
  let m := if dst then dDmode d else dSmode d
  let w := if dst then dDw d else dSw d
  if m = 0 then a + i * dmaBytes w
  else if m = 1 then a
  else
    let x := dIdx d + 4 * i
    a + leNat (if x < 0x400000 then debugRead s e (x / 0x80000) (x % 0x80000) 4 else debugRead s e 8 (x - 0x400000) 4)

/-- Kind 3: channel `c` of engine `e`. No part of an element stays in the holding register between commands. -/
def winDma (s : State) (e c : Nat) : List (Nat × Nat) :=
  let d := s.dmaOf e c
  let src := elemAddr s e d false d.moved
  let dst := elemAddr s e d true d.moved
  wordsFrom 0 ((List.range 8).map (dWord d)) ++
    wordsFrom 8 [dCount d - d.moved, src % 2 ^ 32, src / 2 ^ 32 % 256, dst % 2 ^ 32, dst / 2 ^ 32 % 256, 0, 0, 0, d.loss, d.moved]

/-- Kind 4. -/
def winTarget (s : State) (k : Nat) : List (Nat × Nat) :=
  let l := (icStackOf s k).reverse
  wordsFrom 0 (l.map (fun e => e.1 + e.2 * 2 ^ 16 + 2 ^ 31)) ++ [(16, l.length)]

/-- Kind 5: a set of the head cache, its members as ways from 0. -/
def winCache (s : State) (k : Nat) : List (Nat × Nat) :=
  let l := cacheSet s k
  let newest := l.foldl (fun m e => max m e.2.age) 0
  (List.range l.length).zipWith (fun w e => (w, e)) l |>.flatMap (fun x =>
    let d := x.2.2
    let bs := descBytes s d
    wordsFrom (8 * x.1) ((x.2.1 + b2n d.pin * 2 ^ 28 + b2n d.dirty * 2 ^ 29 + b2n (d.age = newest) * 2 ^ 30 + 2 ^ 31) ::
      (List.range 4).map (fun i => le bs (4 * i) 4)))

/-- The window of a selection; none where it is unavailable. -/
def winSelect (s : State) (kind inst : Nat) : Option (List (Nat × Nat)) :=
  match kind with
  | 0 => if inst < 48 ∧ ((s.core inst).st = 1 ∨ (s.core inst).st = 6) then some (winCore s inst) else none
  | 1 => if inst = 0 then some (winProc s clove (decide (procSt s clove = 3))) else none
  | 2 => if inst < 96 then some (winProc s inst (decide (procSt s inst = 3 ∨ procSt s inst = 4))) else none
  | 3 => if inst < 192 then some (winDma s (inst / 16) (inst % 16))
         else if inst < 256 then some (winDma s 12 (inst - 192)) else none
  | 4 => if inst < 50 then some (winTarget s inst) else none
  | 5 => if inst < 2048 then some (winCache s inst) else none
  | _ => none

/-- WIN_SEL_WRITE: the capture is taken at the write. -/
def doWinSelWrite (ag : Agent) (v : Word) (s : State) : State :=
  if !cloveOrDap ag then s
  else
    let s1 := (s.writeByType DBG_WIN_SEL v).setFld DBG_WIN_STAT DBG_WIN_STAT_READY 0
    let r := winSelect s (s1.fld DBG_WIN_SEL DBG_WIN_SEL_KIND) (s1.fld DBG_WIN_SEL DBG_WIN_SEL_INST)
    ((s1.setFld DBG_WIN_STAT DBG_WIN_STAT_UNAVAIL (b2n r.isNone)).freeNext).mapDev (fun d =>
      { d with winDue := true, window := (r.getD []).filter (fun e => e.2 ≠ 0) })

/-- WINDOW_CAPTURE_DONE. -/
def doWindowCaptureDone (s : State) : State :=
  if s.dev.winDue then (s.setFld DBG_WIN_STAT DBG_WIN_STAT_READY 1).mapDev (fun d => { d with winDue := false }) else s

/-! ### Window writes (R424) -/

/-- A signal core's state changes. -/
def winWriteCore (n w v : Nat) (s : State) : State :=
  s.mapCore n (fun c =>
    if w < 64 then c.put w v
    else if w < 80 then c.put (0x40 + (w - 64)) v
    else if w < 96 then c.put (0x80 + (w - 80)) v
    else if w < 128 then
      let k := accKey ((w - 96) / 2)
      c.put k (if w % 2 = 0 then setBits (c.get k) 0 32 v else setBits (c.get k) 32 8 v)
    else if w = 128 then (List.range 8).foldl (fun c i => if i = 0 then c else c.put (0xC0 + i) (bits v i 1)) c
    else if 160 ≤ w ∧ w < 192 then
      (if ctlMask (w - 160) = 0 ∨ w - 160 = 20 then c else c.setCtl (w - 160) (v &&& ctlMask (w - 160)))
    else if w = 192 then { c with divFree := c.cyc + v }
    else if w = 193 then { c with repLeft := v }
    else c)

/-- A stack of `d` entries: cells beyond the old depth are what the stack's memory holds, which is left open. -/
def setDepth {α : Type} (d : Nat) (any : α) (l : List α) : List α :=
  List.replicate (d - l.length) any ++ l.drop (l.length - d)

/-- Entry `j` from the bottom of a stack changes, if it exists. -/
def setBottom {α : Type} (j : Nat) (x : α) (l : List α) : List α := if j < l.length then l.set (l.length - 1 - j) x else l

/-- A halted processor's state changes. -/
def winWriteProc (p w v : Nat) (s : State) : State :=
  let any := s.free .unstated
  (s.mapProc p (fun c =>
    let inRunU := fun (f : Micro → Micro) (k : Nat) (x : Nat) => match c.u with
      | some u => { c with u := some (f u) }
      | none => if k = 0 then c else c.setSp k x
    let cell := v % 2 ^ cellW p
    if w = 3 ∨ w = 96 then { c with status := v % 2 ^ sprW p 0 }
    else if w = 4 then { c with os := setDepth (min v (osCap p)) (any % 2 ^ cellW p) c.os }
    else if w = 5 then { c with rs := setDepth (min v (rsCap p)) (any % 2 ^ pcW p, 0) c.rs }
    else if 16 ≤ w ∧ w < 48 then { c with os := setBottom (w - 16) cell c.os }
    else if 48 ≤ w ∧ w < 80 then
      { c with rs := setBottom (w - 48) (v % 2 ^ pcW p, if p = clove then bits v 24 1 else 0) c.rs }
    else if 80 ≤ w ∧ w < 88 then inRunU (fun u => { u with urs := setBottom (w - 80) (v % storeWords (unitOf p)) u.urs }) 0 0
    else if w = 88 then inRunU (fun u => { u with cnt := v % 256 }) 32 (v % 256)
    else if w = 89 then inRunU (fun u => { u with mdr := cell }) 33 cell
    else if 99 ≤ w ∧ w < 110 then c.setSp (w - 96) cell
    else if w = 110 ∧ p ≠ clove then c.setSp 14 cell
    else c)).freeNext

/-- A session holds REGWRITE and the permission of kind `kind`, or the part is BLANK (R411). -/
def winMay (s : State) (kind : Nat) : Bool :=
  s.otp.lcs = 0 || (sessionHas s 3 && sessionHas s (if kind = 0 then 0 else 1))

/-- A halted unit's words of a kind that a write may change. -/
def winWritable (s : State) (kind inst w : Nat) : Bool :=
  match kind with
  | 0 => decide (inst < 48) && decide ((s.core inst).st = 1) && decide (w ≤ 193)
  | 1 => decide (inst = 0) && decide (procSt s clove = 3) && decide (3 ≤ w)
  | 2 => decide (inst < 96) && decide (procSt s inst = 3) && decide (3 ≤ w)
  | _ => false

/-- WINDOW_WRITE of word `w` of the selected unit. -/
def doWindowWrite (ag : Agent) (w : Nat) (v : Word) (s : State) : State :=
  let kind := s.fld DBG_WIN_SEL DBG_WIN_SEL_KIND
  let inst := s.fld DBG_WIN_SEL DBG_WIN_SEL_INST
  if !cloveOrDap ag then s
  else if winMay s kind && winWritable s kind inst w then
    (if kind = 0 then winWriteCore inst w v.toNat s
     else winWriteProc (if kind = 1 then clove else inst) w v.toNat s)
  else s.setFld DBG_ERR DBG_ERR_WIN_RO 1

/-! ### Nutmeg (R426, R427) -/

/-- NUTMEG_RECORD: Clove writes BB_WR_HDR. -/
def doNutmegRecord (ag : Agent) (v : Word) (s : State) : State :=
  if ag ≠ .clove then s
  else nutmeg (bits v.toNat 16 16) (bits v.toNat 0 16) ((List.range 4).map (fun k => (s.reg (BB_WR_ARG_k k)).toNat))
    (s.writeByType BB_WR_HDR v)

/-- NUTMEG_FREEZE: the POST records have been written. -/
def doNutmegFreeze (s : State) : State :=
  if s.bb.post = some 0 then ({ s with bb := { s.bb with post := none } }).setFld BB_STAT BB_STAT_FROZEN 1 else s

/-- A write of BB_CTL, and REARM. -/
def writeBbCtl (ag : Agent) (v : Word) (s : State) : State :=
  if !cloveOrDap ag then s
  else
    let s1 := s.writeByType BB_CTL v
    if bits v.toNat 16 1 = 1 then s1.setFlds BB_STAT [(BB_STAT_FROZEN, 0), (BB_STAT_ARMED, 1)] else s1

def doRearm (ag : Agent) (s : State) : State := writeBbCtl ag (BitVec.ofNat 32 (s.fld BB_CTL BB_CTL_POST + 2 ^ 16)) s

end Sys2Proof.Machine
end

