-- ==== Sys2Proof/Machine/Mailbox.lean ====
section
/-! DEFINITION. The mailbox pairs (R341 to R346): mailboxes, doorbells and handshake.
Choices and readings: log entries 42 and 43. -/

namespace Sys2Proof.Machine
open R

/-- Fabric addresses of the request and reply mailboxes of pair `i`. -/
def mbRequest (i : Nat) : Nat := 0x20003C0000 + 0x2000 * i
def mbReply (i : Nat) : Nat := 0x20003C1000 + 0x2000 * i

/-- In minimal mode the host reaches only pairs 0 and 16 (R357, R379). -/
def mbOff (s : State) (i : Nat) : Bool := s.flag BT_STAT BT_STAT_MINIMAL && i ≠ 0 && i < 16

def mbFlag (s : State) (i : Nat) (f : Fld) : Bool := s.flag (MB_i_STAT i) f
def mbSet (i : Nat) (f : Fld) (b : Bool) (s : State) : State := s.setFld (MB_i_STAT i) f (b2n b)

/-- A host write of bytes to a request mailbox (R346). -/
def hostRequest (i off : Nat) (l : List Byte) (s : State) : State :=
  if mbOff s i then s
  else if mbFlag s i MB_i_STAT_REQ_BUSY then mbSet i MB_i_STAT_WR_BUSY true s
  else s.setBytes (mbRequest i + off) l

/-- REQUEST_WRITE: word `w` of the request mailbox. -/
def doRequestWrite (i w : Nat) (v : Word) (s : State) : State := hostRequest i (4 * w) (leBytes 4 v.toNat) s

/-- Clove's write to a reply mailbox: only while RPL_VALID is 0. -/
def cloveReply (i off : Nat) (l : List Byte) (s : State) : State :=
  if mbFlag s i MB_i_STAT_RPL_VALID then s else s.setBytes (mbReply i + off) l

/-- The doorbell source of an SPI pair is an edge: both edges of its pulse reach the latch. -/
def raiseDoorbell (i : Nat) (s : State) : State :=
  if i < 16 then s else latchEdge (40 + (i - 16)) false (latchEdge (40 + (i - 16)) true s)

/-- RING (R345, R346). -/
def mbRing (i : Nat) (s : State) : State :=
  if mbFlag s i MB_i_STAT_REQ_BUSY then mbSet i MB_i_STAT_RING_IGN true s
  else raiseDoorbell i ((mbSet i MB_i_STAT_REQ_BUSY true (mbSet i MB_i_STAT_REQ_PEND true s)).incSat (MB_i_CNT i) MB_i_CNT_RINGS)

/-- Clove's POST. -/
def mbPost (i : Nat) (s : State) : State :=
  if mbFlag s i MB_i_STAT_RPL_VALID then mbSet i MB_i_STAT_POST_IGN true s
  else mbSet i MB_i_STAT_RPL_VALID true (mbSet i MB_i_STAT_REQ_BUSY false s)

/-- The reply that firmware holds back is written and posted once RPL_VALID is 0 (R345). -/
def postWaiting (i : Nat) (s : State) : State :=
  match tget [] s.fw.waitPost i with
  | [] => s
  | b => mbPost i ((({ s with fw := { s.fw with waitPost := tput [] s.fw.waitPost i [] } })).setBytes (mbReply i) b)

/-- ACK. -/
def mbAck (i : Nat) (s : State) : State := postWaiting i (mbSet i MB_i_STAT_RPL_VALID false s)

/-- ABORT (R346). -/
def mbAbort (i : Nat) (s : State) : State :=
  if mbFlag s i MB_i_STAT_REQ_PEND then
    (mbSet i MB_i_STAT_REQ_BUSY false (mbSet i MB_i_STAT_REQ_PEND false s)).incSat (MB_i_CNT i) MB_i_CNT_ABORT_CNT
  else s

/-- A write of MB_i_DOORBELL. -/
def writeDoorbell (i : Nat) (v : Word) (s : State) : State :=
  if mbOff s i then s
  else
    let s1 := s.writeByType (MB_i_DOORBELL i) v
    let s2 := if bits v.toNat 1 1 = 1 then mbAck i s1 else s1
    let s3 := if bits v.toNat 2 1 = 1 then mbAbort i s2 else s2
    if bits v.toNat 0 1 = 1 then mbRing i s3 else s3

/-- A write of MB_i_POST, by Clove only. -/
def writePost (ag : Agent) (i : Nat) (v : Word) (s : State) : State :=
  if ag ≠ .clove then s
  else
    let s1 := s.writeByType (MB_i_POST i) v
    let s2 := if bits v.toNat 0 1 = 1 then mbSet i MB_i_STAT_REQ_PEND false s1 else s1
    if bits v.toNat 1 1 = 1 then mbPost i s2 else s2

/-- A write of MB_i_PERM, by Clove only. -/
def writePerm (ag : Agent) (i : Nat) (v : Word) (s : State) : State :=
  if ag ≠ .clove then s else s.writeByType (MB_i_PERM i) v

/-- RING, TAKE, POST, ACK and ABORT: a write of the one bit. -/
def doRing (i : Nat) (s : State) : State := writeDoorbell i 1 s
def doAck (i : Nat) (s : State) : State := writeDoorbell i 2 s
def doAbort (i : Nat) (s : State) : State := writeDoorbell i 4 s
def doTake (ag : Agent) (i : Nat) (s : State) : State := writePost ag i 1 s
def doPost (ag : Agent) (i : Nat) (s : State) : State := writePost ag i 2 s

/-- The MSI-X message of BAR0 (R344), when PRES of target 49 takes a new value other than 0: sent if MSI-X is enabled and
the entry's mask bit is 0, else its pending bit is set. -/
def msixSend (s : State) : State :=
  if !s.dev.msix then s
  else if bits (s.num 0x20003F200C 4) 0 1 = 0 then { s with dev := { s.dev with msiSent := s.dev.msiSent + 1 } }
  else s.setNum 0x20003F2800 4 1

/-- HOST_IRQ_N is low (R344). -/
def hostIrqLow (s : State) : Bool := decide (pres s 49 ≠ 0)

end Sys2Proof.Machine
end

