-- ==== Sys2Proof/Machine/Saffron.lean ====
section
/-! DEFINITION. Saffron (chapter 08): windows, averages, estimates, records, trims and their limits.
Choices and readings: log entry 32. -/

namespace Sys2Proof.Machine
open R

def State.mapSf (s : State) (f : Saffron → Saffron) : State := { s with sf := f s.sf }

/-! ### Configuration -/

def sfMem (s : State) : Nat := s.fld SF_MEM_LO SF_MEM_LO_ADDR * 2 ^ 20 + s.fld SF_MEM_HI SF_MEM_HI_ADDR * 2 ^ 32

/-- EN as a write leaves it (R218). -/
def setSfEn (en : Nat) (s : State) : State :=
  if en = 1 ∧ ¬ s.flag SF_CTL SF_CTL_EN ∧ ddrLimit s < sfMem s + 0x100000 then s.setFld SF_ERR SF_ERR_MEM_RANGE 1
  else
    let s1 := s.setFld SF_CTL SF_CTL_EN en
    if en = 0 then (s1.setFld SF_STAT SF_STAT_ACTIVE 0).mapSf (fun x => { x with pend := none }) else s1

/-- SF_ENABLE. -/
def doSfEnable (s : State) : State := setSfEn 1 s

/-- LIM_LOCK (R222). -/
def doLimLock (s : State) : State := s.setFld SF_CTL SF_CTL_LIM_LOCK 1

/-- A write of SF_CTL. -/
def writeSfCtl (v : Word) (s : State) : State :=
  let en := s.fld SF_CTL SF_CTL_EN
  setSfEn (bits v.toNat 0 1) ((s.writeByType SF_CTL v).setFld SF_CTL SF_CTL_EN en)

/-- SF_LIMIT_WRITE (R222). -/
def doSfLimitWrite (z : Nat) (v : Word) (s : State) : State :=
  if s.flag SF_CTL SF_CTL_LIM_LOCK then s.setFld SF_ERR SF_ERR_LIM_LOCKED 1 else s.writeByType (SF_Z_z_LIM z) v

/-- Zone configuration in effect. -/
def zoneCfg (s : State) (z : Nat) : Word × Word := tget (0, 0) s.sf.cfg z
def micOn (s : State) (z m : Nat) : Bool := bits (zoneCfg s z).1.toNat (1 + m) 1 = 1

/-- The zone is analysed (R208). -/
def analysed (s : State) (z : Nat) : Bool :=
  decide (bits (zoneCfg s z).1.toNat 0 1 = 1) && decide (bits (zoneCfg s z).1.toNat 1 4 ≠ 0)

/-- Zones whose registers have been written. -/
def sfZones (s : State) : List Nat := ((s.listed (SF_Z_z_CFG 0) 4 2048).map (· / 8)).eraseDups

/-! ### Taps (R207, R212) -/

/-- The Saffron tap port takes a word of channel `c`. -/
def sfTap (c : Nat) (w : Word) (s : State) : State :=
  let x := sext 32 w.toNat
  let f := (if x = 0 then 0 else 1) ||| (if x = 2 ^ 31 - 1 ∨ x = -(2 ^ 31) then 2 else 0)
  if f = 0 then s else s.mapSf (fun y => { y with tap := tput 0 y.tap c (tget 0 y.tap c ||| f) })

/-- What a tap channel did in the window of the last second: the flags of its four quarters. -/
def tapFlags (s : State) (c : Nat) : Nat := (s.sf.past.take 4).foldl (fun a t => a ||| tget 0 t c) 0

/-! ### An update (R208, R211, R212) -/

/-- Takes a zone's configuration; a change clears its averages and its window count. -/
def takeZone (s : State) (z : Nat) : State :=
  let new := (s.reg (SF_Z_z_CFG z), s.reg (SF_Z_z_DLY z))
  if zoneCfg s z = new then s
  else s.mapSf (fun x => { x with
    cfg := tput (0, 0) x.cfg z new
    win := tput 0 x.win z 0
    avg := tdrop (fun k => k / 32 = z) x.avg })

/-- The averages of a band after a window is taken: free values (R209 and R211 give no arithmetic). -/
def freeBand (s : State) : SfBand :=
  let f := fun (i : Nat) => (Config.freeValue .sfResult (s.freeCtr + i)).toNat % 2 ^ 32
  { vals := (List.range 14).map (fun j => (f (3 * j), f (3 * j + 1), f (3 * j + 2))) }

/-- The reference level of band `k` reaches LEV_MIN: not when the reference was 0 throughout; otherwise free. -/
def levelReached (s : State) (z : Nat) : Bool × State :=
  if tapFlags s (5 * z) % 2 = 0 then (false, s) else (decide (s.free .sfResult % 2 = 1), s.freeNext)

/-- Band `k` of zone `z`: its window goes into the averages of each enabled microphone without OVL. -/
def takeBand (z : Nat) (a : Bool × State) (k : Nat) : Bool × State :=
  let l := levelReached a.2 z
  let mics := (List.range 4).filter (fun m => micOn l.2 z m && decide (tapFlags l.2 (5 * z + 1 + m) / 2 = 0))
  if l.1 && mics ≠ [] then
    (true, mics.foldl (fun s m =>
      let s1 := s.mapSf (fun x => { x with avg := tput ⟨[]⟩ x.avg (32 * z + 8 * m + k) (freeBand s) })
      { s1 with freeCtr := s1.freeCtr + 42 }) l.2)
  else (a.1, l.2)

/-- The window of a zone whose configuration did not change at this update. -/
def takeWindow (s : State) (z : Nat) : State :=
  let r := (List.range 7).foldl (takeBand z) (false, s)
  let ov := ((List.range 4).filter (fun m => micOn s z m && decide (tapFlags s (5 * z + 1 + m) / 2 = 1))).map (4 * z + ·)
  r.2.mapSf (fun x => { x with
    win := if r.1 then tput 0 x.win z (min (tget 0 x.win z + 1) 65535) else x.win
    held := if r.1 then x.held else z :: x.held
    ovl := ov ++ x.ovl })

/-- SF_UPDATE: at a frame U with U mod (fs / 4) = 0 the window of each analysed zone closes. -/
def doSfUpdate (s : State) : State :=
  if s.frame % (fsHz s / 4) ≠ 0 then s
  else
    let s1 := s.mapSf (fun x => { x with past := (x.tap :: x.past).take 4, tap := [], held := [], ovl := [] })
    if !s.flag SF_CTL SF_CTL_EN then s1
    else
      let zs := (sfZones s1 ++ s1.sf.cfg.map (·.1)).eraseDups
      let fresh := zs.filter (fun z => zoneCfg s1 z ≠ (s1.reg (SF_Z_z_CFG z), s1.reg (SF_Z_z_DLY z)))
      let s2 := zs.foldl takeZone s1
      let s3 := (zs.filter (fun z => analysed s2 z && !fresh.contains z)).foldl takeWindow s2
      let s4 := s3.mapSf (fun x => { x with
        pend := some s.frame
        seq := (x.seq + 1) % 2 ^ 32
        held := x.held ++ fresh })
      s4.setFld SF_STAT SF_STAT_ACTIVE 1

/-! ### Estimates (R213 to R217) -/

def fmMin (s : State) : Nat :=
  let v := s.fld SF_VAL SF_VAL_FM_MIN
  if v = 0 ∨ 14 < v then 14 else v

def bandMin (s : State) : Nat :=
  let v := s.fld SF_VAL SF_VAL_BAND_MIN
  if v = 0 ∨ 7 < v then 7 else v

/-- The pair is usable (R214). -/
def usablePair (s : State) (v : Nat × Nat × Nat) : Bool := !f32lt v.2.1 (s.fld SF_VAL SF_VAL_MREF_MIN) 100

def sfBand (s : State) (z m k : Nat) : List (Nat × Nat × Nat) := (tget ⟨[]⟩ s.sf.avg (32 * z + 8 * m + k)).vals

def bandValid (s : State) (z m k : Nat) : Bool :=
  decide (sfBand s z m k ≠ []) && decide (fmMin s ≤ ((sfBand s z m k).filter (usablePair s)).length)

def validBands (s : State) (z m : Nat) : List Nat := (List.range 7).filter (bandValid s z m)

/-- The valid band nearest to `k`, the lower of two (R215). -/
def nearestBand (l : List Nat) (k : Nat) : Nat :=
  let d := fun (x : Nat) => max (x - k) (k - x)
  l.foldl (fun b x => if d x < d b then x else b) (l.headD 0)

/-- MTI of a valid band, as binary32. -/
def bandMti (s : State) (z m k : Nat) : Nat :=
  (Config.intelligibility 0 (((sfBand s z m k).filter (usablePair s)).map (·.1))).toNat % 2 ^ 32

/-- The microphone has an estimate. -/
def hasEstimate (s : State) (z m : Nat) : Bool := micOn s z m && decide (bandMin s ≤ (validBands s z m).length)

def micMtis (s : State) (z m : Nat) : List Nat :=
  (List.range 7).map (fun k => bandMti s z m (nearestBand (validBands s z m) k))

def avgLog (s : State) : Nat := min (s.fld SF_CTL SF_CTL_AVG) 6

/-- STI (0 to 256) and CONF of a microphone; none without an estimate. -/
def micSti (s : State) (z m : Nat) : Option Nat :=
  if hasEstimate s z m then some ((Config.intelligibility 1 (micMtis s z m)).toNat % 257) else none

/-- Γ as binary32. -/
def micGamma (s : State) (z m : Nat) : Nat :=
  (Config.intelligibility 2 ((validBands s z m).flatMap (fun k => ((sfBand s z m k).filter (usablePair s)).map (·.2.2)))).toNat % 2 ^ 32

/-- CONF: no more than floor(255 × (V / 7) × W), for Γ is no more than 1 (R216). -/
def micConf (s : State) (z m : Nat) : Nat :=
  if hasEstimate s z m then
    let v := (validBands s z m).length
    let w := min (tget 0 s.sf.win z) (2 ^ avgLog s)
    (Config.intelligibility 3 [v, micGamma s z m, w, avgLog s]).toNat % (255 * v * w / (7 * 2 ^ avgLog s) + 1)
  else 0

def bandMask (l : List Nat) : Nat := l.foldl (fun a k => a ||| 2 ^ k) 0

/-- STI, CONF and VALID of a zone (R217). -/
def zoneValue (s : State) (z : Nat) : Option (Nat × Nat × Nat) :=
  let l := (List.range 4).filterMap (fun m => (micSti s z m).map (fun x => (m, x)))
  match l with
  | [] => none
  | e :: t =>
    if bits (zoneCfg s z).1.toNat 5 1 = 0 then
      let b := t.foldl (fun (b : Nat × Nat) x => if x.2 < b.2 then x else b) e
      some (b.2, micConf s z b.1, bandMask (validBands s z b.1))
    else
      some ((l.map (·.2)).sum / l.length, (l.map (fun x => micConf s z x.1)).sum / l.length,
        l.foldl (fun a x => a ||| bandMask (validBands s z x.1)) 0)

/-! ### Trims (R221) -/

/-- Moves `x` toward `t` by no more than `d`. -/
def moveToward (x t : Int) (d : Nat) : Int := if x < t then min t (x + d) else max t (x - d)

def clampInt (lo hi x : Int) : Int := if x < lo then lo else if hi < x then hi else x

/-- The effective trims of zone `z` after an update. -/
def trimZone (s : State) (z : Nat) : State :=
  let lim := SF_Z_z_LIM z
  let slew := s.fld lim SF_Z_z_LIM_SLEW
  if slew = 0 then s
  else
    let gt := clampInt (-(s.fld lim SF_Z_z_LIM_GDN : Int)) (s.fld lim SF_Z_z_LIM_GUP) (sext 8 (s.fld (SF_Z_z_TRIM z) SF_Z_z_TRIM_GAIN))
    let g := satS 8 (moveToward (sext 8 (s.fld (SF_Z_z_TEFF z) SF_Z_z_TEFF_GAIN)) gt slew)
    let s1 := s.setFld (SF_Z_z_TEFF z) SF_Z_z_TEFF_GAIN (unsext 8 g)
    (List.range 7).foldl (fun s k =>
      let f : Fld := ⟨4 * k, 4⟩
      let et := clampInt (-(min (s.fld lim SF_Z_z_LIM_EQDN) 8 : Nat)) (min (s.fld lim SF_Z_z_LIM_EQUP) 7 : Nat)
        (sext 4 (s.fld (SF_Z_z_TRIM_EQ z) f))
      s.setFld (SF_Z_z_TEFF_EQ z) f (unsext 4 (moveToward (sext 4 (s.fld (SF_Z_z_TEFF_EQ z) f)) et 1))) s1

/-! ### Records (R219, R220) -/

def recordAddr (s : State) (z : Nat) : Nat := sfMem s + 0x1000 * z

/-- One pair of the MTF table. -/
def mtfWord (s : State) (v : Nat × Nat × Nat) : Nat := if usablePair s v then v.1 else 0x7FC00000

/-- The MTF table of a microphone: 98 words; a band without averages has no usable pair. -/
def mtfBytes (s : State) (z m : Nat) : List Byte :=
  (List.range 7).flatMap (fun k =>
    let b := sfBand s z m k
    (List.range 14).flatMap (fun j => leBytes 4 (match b[j]? with
      | some v => mtfWord s v
      | none => 0x7FC00000)))

/-- A microphone's block of a zone record. -/
def micBytes (s : State) (z m : Nat) : List Byte :=
  let est := hasEstimate s z m
  mtfBytes s z m ++
  (if est then micMtis s z m else List.replicate 7 0x7FC00000).flatMap (leBytes 4) ++
  leBytes 2 ((micSti s z m).getD 0xFFFF) ++ leBytes 1 (micConf s z m) ++
  leBytes 1 (bandMask (validBands s z m) + 128 * b2n (s.sf.ovl.contains (4 * z + m))) ++
  leBytes 4 (micGamma s z m) ++
  (List.range 7).flatMap (fun k => leBytes 4 ((Config.freeValue .sfResult (s.freeCtr + k)).toNat % 2 ^ 32)) ++
  zeros (512 - 0x1C8)

def writeMic (z : Nat) (s : State) (m : Nat) : State :=
  if micOn s z m then
    let s1 := (engWrite 31 s (recordAddr s z + 0x40 + 0x200 * m) (micBytes s z m)).2
    { s1 with freeCtr := s1.freeCtr + 7 }
  else s

/-- FLAGS of a zone record. -/
def zoneFlags (s : State) (z : Nat) : Nat :=
  b2n (s.sf.held.contains z) + 2 * bits (zoneCfg s z).1.toNat 5 1 +
    ((List.range 4).map (fun m => b2n (hasEstimate s z m) * 2 ^ (2 + m))).sum +
    64 * b2n ((List.range 4).any (fun m => s.sf.ovl.contains (4 * z + m)))

/-- The record of an analysed zone, SEQ last, and SF_Z_z_STAT. -/
def writeZone (u : Nat) (s : State) (z : Nat) : State :=
  let v := zoneValue s z
  let sti := v.map (·.1)
  let conf := (v.map (·.2.1)).getD 0
  let head := leBytes 2 z ++ leBytes 2 (sti.getD 0xFFFF) ++ leBytes 1 conf ++ leBytes 1 (zoneFlags s z) ++ zeros 2 ++
    leBytes 8 u ++ leBytes 1 (s.fld (SF_Z_z_TEFF z) SF_Z_z_TEFF_GAIN) ++
    (List.range 7).flatMap (fun k => leBytes 1 (unsext 8 (sext 4 (s.fld (SF_Z_z_TEFF_EQ z) ⟨4 * k, 4⟩)))) ++
    leBytes 2 (tget 0 s.sf.win z) ++ zeros (0x3C - 0x1A)
  let s1 := (engWrite 31 s (recordAddr s z) head).2
  let s2 := (List.range 4).foldl (writeMic z) s1
  let s3 := memPut 31 (engWrite 31 s2 (recordAddr s z + 0x840) (zeros 0x7C0)).2 (recordAddr s z + 0x3C) 4 s.sf.seq
  s3.setFlds (SF_Z_z_STAT z) [(SF_Z_z_STAT_STI, sti.getD 0x1FF), (SF_Z_z_STAT_VALID, (v.map (·.2.2)).getD 0),
    (SF_Z_z_STAT_CONF, conf), (SF_Z_z_STAT_HELD, b2n (s.sf.held.contains z))]

/-- SF_RESULTS_WRITTEN. -/
def doSfResultsWritten (s : State) : State :=
  match s.sf.pend with
  | none => s
  | some u =>
    let s1 := (sfZones s).foldl trimZone s
    let s2 := ((s1.sf.cfg.map (·.1)).filter (analysed s1)).foldl (writeZone u) s1
    let s3 := (s2.setReg SF_UPD_LO (BitVec.ofNat 32 u)).setReg SF_UPD_HI (BitVec.ofNat 32 (u / 2 ^ 32))
    (s3.setFlds SF_STAT [(SF_STAT_UPD, 1), (SF_STAT_SEQ, s.sf.seq % 65536)]).mapSf (fun x => { x with pend := none })

end Sys2Proof.Machine
end

