-- ==== Sys2Proof/Machine/Fabric.lean ====
section
/-! DEFINITION. The fabric (chapter 20): control registers as every agent reads and writes them, and accesses to
any fabric address.
Choices and readings: log entries 10, 33 and 36. -/

namespace Sys2Proof.Machine
open R

/-- A field of a written value. -/
def wf (v : Word) (f : Fld) : Nat := bits v.toNat f.lo f.w

/-! ### Writes to the tile-local blocks -/

/-- Register `r` of the group of DMA channel `c` of engine `e`. -/
def writeDmaReg (e c r : Nat) (v : Word) (s : State) : State :=
  if r < 0x20 then writeShadowWord e c (r / 4) v s
  else if r = 0x20 then writeDmaCtl e c v s
  else if r = 0x34 then writeDmaNext e c false v s
  else if r = 0x38 then writeDmaNext e c true v s
  else s.writeByType (dmaBase e c + r) v

/-- A write of IC_T_k_COMPLETE (R293). -/
def writeComplete (k : Nat) (v : Word) (s : State) : State :=
  complete k (wf v IC_T_k_COMPLETE_SRC) (s.writeByType (IC_T_k_COMPLETE k) v)

/-- The tile block at offset `o` from 0xC1_0000. -/
def writeTl (ag : Agent) (t o : Nat) (v : Word) (s : State) : State :=
  if o = 0x34 then doBktIntervalWrite t v s
  else if 0x100 ≤ o ∧ o < 0x300 then
    let b := (o - 0x100) / 0x40
    let r := o % 0x40
    if r = 0 then doOwnerWrite ag t b v s
    else if 0x14 ≤ r ∧ r < 0x24 then doRemapWrite t b ((r - 0x14) / 4) v s
    else s.writeByType (tileBase t + 0xC10000 + o) v
  else if 0x314 ≤ o ∧ o < 0x324 then doRemapWrite t 8 ((o - 0x314) / 4) v s
  else if 0x800 ≤ o ∧ o < 0xC00 then writeDmaReg t ((o - 0x800) / 0x40) (o % 0x40) v s
  else s.writeByType (tileBase t + 0xC10000 + o) v

/-- The block of core `n` at offset `o` (R296 for the aliases). -/
def writeSc (n o : Nat) (v : Word) (s : State) : State :=
  if o = 0 then writeScCtl n v s
  else if o = 0x100 then s.writeByType (IC_T_k_THRESH n) v
  else if o = 0x108 then writeComplete n v s
  else s.writeByType (SC_n_CTL n + o) v

/-! ### Writes to the device control blocks -/

def writeSx (ag : Agent) (o : Nat) (v : Word) (s : State) : State :=
  let a := SX_ID + o
  let t := (o - 0x100) / 0x10
  if o = 0x04 then sxGuard ag s (writeSxCtl v)
  else if o = 0x08 then doSxCfgWrite ag v s
  else if o = 0x20 then sxGuard ag s (writeMapCtl v)
  else if o = 0x30 then doPlaneSelectWrite ag v s
  else if o = 0x40 then sxGuard ag s (writePlaneInj v)
  else if 0x100 ≤ o ∧ o < 0x1C0 then
    (if o % 0x10 = 0 then doTpCfgWrite ag t v s
     else if o % 0x10 = 8 then sxGuard ag s (writeTpStat t v)
     else if o % 0x10 = 0xC then doPhysWrite ag t (wf v SX_TP_t_PHYS_PHYS) s
     else sxGuard ag s (fun s => s.writeByType a v))
  else if inShadow o then doShadowMapWrite ag o v s
  else if inActive o then doActiveMapWrite ag s
  else sxGuard ag s (fun s => s.writeByType a v)

/-- SU_c_CTL, and MC_SU_c_CTL and MC_ROMP_CTL, hold locks that a 1 sets. -/
def writeSuCluster (ag : Agent) (c : Nat) (v : Word) (s : State) : State :=
  let s1 := if wf v SU_c_CTL_CUST_OPEN = 1 then doCustOpen ag c s else s
  if wf v SU_c_CTL_DT_LOCK = 1 then doDtLock ag c s1 else s1

def writeSu (ag : Agent) (o : Nat) (v : Word) (s : State) : State :=
  if 0x100000 ≤ o then
    (if o < 0x1C0000 then doSumacMemoryWrite ((o - 0x100000) / 0x2000) (o % 0x2000) v s else s)
  else if !cloveOrDap ag || o < 0x1000 || 0xD000 ≤ o then s
  else
    let c := o / 0x1000 - 1
    let r := o % 0x1000
    let p := 8 * c + (r - 0x100) / 0x20
    if r = 0 then writeSuCluster ag c v s
    else if r = 8 then writeDtVer c v s
    else if 0x100 ≤ r ∧ r < 0x200 ∧ r % 0x20 = 0 then writeSuCtl ag p v s
    else if 0x100 ≤ r ∧ r < 0x200 ∧ r % 0x20 = 0x14 then writeSuDoorbell ag p v s
    else if 0x400 ≤ r ∧ r < 0x800 then doDecodeTableWrite ag c ((r - 0x400) / 4) v s
    else s.writeByType (SU_ID + o) v

def writeCvCtl (ag : Agent) (v : Word) (s : State) : State :=
  let s1 := s.setFlds CV_CTL [(CV_CTL_RSWRAP, wf v CV_CTL_RSWRAP), (CV_CTL_XIP_EN, wf v CV_CTL_XIP_EN),
    (CV_CTL_XIP_INV, wf v CV_CTL_XIP_INV)]
  let s2 := if wf v CV_CTL_XIP_INV = 1 then doXipInv ag s1 else s1
  let s3 := if wf v CV_CTL_CUST_OPEN = 1 then doCustOpen ag 12 s2 else s2
  if wf v CV_CTL_DT_LOCK = 1 then doDtLock ag 12 s3 else s3

def writeCv (ag : Agent) (o : Nat) (v : Word) (s : State) : State :=
  if !cloveOrDap ag then s
  else if o = 0x04 then writeCvCtl ag v s
  else if o = 0x28 then (if wf v CV_LS_INJ_GO = 1 then doLockstepInject ag s else s)
  else if o = 0x30 then writeDtVer 12 v s
  else if 0x100 ≤ o ∧ o < 0x180 then doPatchUnitWrite ag ((o - 0x100) / 8) (decide (o % 8 = 4)) v s
  else if 0x400 ≤ o ∧ o < 0x800 then doDecodeTableWrite ag 12 ((o - 0x400) / 4) v s
  else s.writeByType (CV_ID + o) v

def writeMcCvCtl (ag : Agent) (v : Word) (s : State) : State :=
  let s1 := if wf v MC_CV_CTL_SWAP = 1 then doBankSwapRequest ag s else s
  if wf v MC_CV_CTL_LOCK = 1 then doControlStoreLock ag 12 s1 else s1

def writeMc (ag : Agent) (o : Nat) (v : Word) (s : State) : State :=
  if !cloveOrDap ag then s
  else if o = 0x04 then writeMcCvCtl ag v s
  else if o = 0x20 then (if wf v MC_ROMP_CTL_LOCK = 1 then doRompLock ag s else s)
  else if 0x100 ≤ o ∧ o < 0x130 then (if wf v MC_SU_c_CTL_LOCK = 1 then doControlStoreLock ag ((o - 0x100) / 4) s else s)
  else if 0x200 ≤ o ∧ o < 0x280 then doRomPatchMatchWrite ag ((o - 0x200) / 4) v s
  else if 0x10000 ≤ o ∧ o < 0x18000 then doControlStoreWrite ag 12 ((o - 0x10000) / 16) (o / 4 % 4) v s
  else if 0x20000 ≤ o ∧ o < 0x50000 then
    doControlStoreWrite ag ((o - 0x20000) / 0x4000) (o / 16 % 1024) (o / 4 % 4) v s
  else s.writeByType (MC_ID + o) v

/-- The host reaches the offsets of R342 in BAR0, without pairs 16 and 17 and the outbound windows (R447). -/
def hostHides (ag : Agent) (o : Nat) : Bool :=
  ag = .host && ((0x20000 ≤ o && o < 0x24000) || (0x30200 ≤ o && o < 0x30240) || (0x33000 ≤ o && o < 0x33080))

def writeMb (ag : Agent) (o : Nat) (v : Word) (s : State) : State :=
  let i := o / 0x2000
  if hostHides ag o then s
  else if o < 0x24000 then
    (if o % 0x2000 < 0x1000 then hostRequest i (o % 0x1000) (leBytes 4 v.toNat) s
     else if cloveOrDap ag then cloveReply i (o % 0x1000) (leBytes 4 v.toNat) s else s)
  else if 0x30000 ≤ o ∧ o < 0x30240 then
    let j := (o - 0x30000) / 0x20
    let r := o % 0x20
    if r = 4 then writeDoorbell j v s
    else if r = 8 then writePost ag j v s
    else if r = 0xC then writePerm ag j v s
    else s.writeByType (MB_i_STAT 0 + (o - 0x30000)) v
  else if o = 0x31000 then s.writeByType (IC_T_k_THRESH 49) v
  else if o = 0x31008 then writeComplete 49 v s
  else if 0x32000 ≤ o ∧ o < 0x32010 then s.setNum (mbRequest 0 + o) 4 v.toNat
  else if 0x33000 ≤ o ∧ o < 0x33080 ∧ ¬ cloveOrDap ag then s
  else s.writeByType (mbRequest 0 + o) v

def writeDbg (ag : Agent) (o : Nat) (v : Word) (s : State) : State :=
  if !cloveOrDap ag then s
  else if o = 0x10 then writeAuthCtl v s
  else if o = 0x20 then doWinSelWrite ag v s
  else if o = 0x30 then writeCvDbg ag v s
  else if o = 0x40 then writeSuStep ag v s
  else if 0x100 ≤ o ∧ o < 0xD00 ∧ o % 0x40 = 0 then writeScDbg ag ((o - 0x100) / 0x40) v s
  else if 0xE00 ≤ o ∧ o < 0x1110 ∧ o % 0x10 = 4 then doVtInWrite ag ((o - 0xE00) / 0x10) v s
  else if o = 0x1100 ∧ ag = .clove then vtProgramOut 48 v.toNat s
  else if 0x2000 ≤ o ∧ o < 0x3000 then doWindowWrite ag ((o - 0x2000) / 4) v s
  else if 0x20000 ≤ o ∧ o < 0x40000 then s.setNum (DBG_ID + o) 4 v.toNat
  else s.writeByType (DBG_ID + o) v

def writeBb (ag : Agent) (o : Nat) (v : Word) (s : State) : State :=
  if o = 0x50 then doNutmegRecord ag v s
  else if !cloveOrDap ag || (0x40 ≤ o && o < 0x50 && ag ≠ .clove) || 0x40000 ≤ o then s
  else if o = 0x04 then writeBbCtl ag v s
  else s.writeByType (BB_ID + o) v

def writeIc (o : Nat) (v : Word) (s : State) : State :=
  if 0x100 ≤ o ∧ o < 0x180 then writePendSet ((o - 0x100) / 4) v s
  else if 0x180 ≤ o ∧ o < 0x200 then writePendClr ((o - 0x180) / 4) v s
  else if 0x200 ≤ o ∧ o < 0x280 then writeEnSet ((o - 0x200) / 4) v s
  else if 0x280 ≤ o ∧ o < 0x300 then writeEnClr ((o - 0x280) / 4) v s
  else if 0x400 ≤ o ∧ o < 0x500 then writeGroupHold ((o - 0x400) / 4) v s
  else if 0x1000 ≤ o ∧ o < 0x1320 ∧ o % 0x10 = 8 then writeComplete ((o - 0x1000) / 0x10) v s
  else if 0x2000 ≤ o ∧ o < 0x3000 then writeSrcCfg ((o - 0x2000) / 4) v s
  else if 0x4000 ≤ o ∧ o < 0x6000 then writeSrcMask ((o - 0x4000) / 8) (decide (o % 8 = 4)) v s
  else s.writeByType (IC_ID + o) v

def writeQm (ag : Agent) (o : Nat) (v : Word) (s : State) : State :=
  if o = 0x04 then writeQmCtl v s
  else if o = 0x20 then writePoolSize v s
  else if o = 0x40 then writeQsel ag v s
  else if o = 0x44 then doQmQcfgWrite ag v s
  else if o = 0x48 then doQmQlimWrite ag v s
  else if 0x1000 ≤ o ∧ o < 0x5000 then doWatchCfgWrite ((o - 0x1000) / 4) v s
  else if 0x5000 ≤ o ∧ o < 0x5200 then doWatchPendClear ((o - 0x5000) / 4) v s
  else s.writeByType (QM_ID + o) v

def writeDrv (o : Nat) (v : Word) (s : State) : State :=
  if 0x20 ≤ o ∧ o < 0x40 then writeGroup ((o - 0x20) / 4) v s
  else if 0x1000 ≤ o ∧ o < 0x3000 ∧ o % 0x80 = 0 then writeDrvCtl ((o - 0x1000) / 0x80) v s
  else s.writeByType (DRV_ID + o) v

def writeNet (o : Nat) (v : Word) (s : State) : State :=
  let p := (o - 0x100) / 0x40
  if o = 0x04 then doRingEnableWrite v s
  else if o = 0x14 then writeIsoTime v s
  else if o = 0x20 then writePtpCtl v s
  else if o = 0x34 then doDcoFreqWrite v s
  else if 0x100 ≤ o ∧ o < 0x200 ∧ o % 0x40 = 0 then writePortCfg p v s
  else if 0x100 ≤ o ∧ o < 0x200 ∧ o % 0x40 = 0x14 then doCbsWrite p true v s
  else if 0x100 ≤ o ∧ o < 0x200 ∧ o % 0x40 = 0x18 then doCbsWrite p false v s
  else s.writeByType (NET_ID + o) v

def writeAnSf (an : Bool) (o : Nat) (v : Word) (s : State) : State :=
  if an then
    (if o = 0x04 then doAnModeWrite (wf v AN_CTL_MODE) s
     else if o = 0x08 then writeRunCtl v s
     else s.writeByType (AN_ID + o) v)
  else if o = 0x04 then writeSfCtl v s
  else if 0x1000 ≤ o ∧ o < 0x3000 ∧ o % 0x20 = 0x14 then doSfLimitWrite ((o - 0x1000) / 0x20) v s
  else s.writeByType (SF_ID + o) v

/-- The BT, SEC, CK, PM and WD blocks, which only Clove and the port write. -/
def writeSystem (ag : Agent) (a : Nat) (v : Word) (s : State) : State :=
  if !cloveOrDap ag then s
  else if a = BT_CTL then writeBtCtl ag v s
  else if a = SEC_DBG then (if wf v SEC_DBG_LOCK = 1 then doSessionLock ag s else s)
  else if a = SEC_PKE_JOB_HI then startJob ag false v s
  else if a = SEC_HASH_JOB_HI then startJob ag true v s
  else if a = CK_CTL then writeCkCtl ag v s
  else if a = CK_GATE_LO then doClockGateWrite ag false v s
  else if a = CK_GATE_HI then doClockGateWrite ag true v s
  else if a = PM_CTL then writePmCtl ag v s
  else if a = PM_TILE_CTL then writeTileCtl ag v s
  else if a = PM_RST_CTL then writeRstCtl ag v s
  else if a = PM_DDR_CFG then writeDdrCfg ag v s
  else if a = WD_DEV_CTL then writeDevCtl ag v s
  else if a = WD_DEV_CFG then writeDevCfg ag v s
  else if a = WD_DEV_KICK then doWdDevKick ag v s
  else if a = WD_CV_KICK then doWdCvKick ag v s
  else s.writeByType a v

/-- A write of the aligned word at `a` of the device control blocks (R441). -/
def writeBlock (ag : Agent) (a : Nat) (v : Word) (s : State) : State :=
  if a < SX_ID then writeSu ag (a - SU_ID) v s
  else if a < BB_ID then writeSx ag (a - SX_ID) v s
  else if a < MC_ID then writeBb ag (a - BB_ID) v s
  else if a < FL_ID then writeMc ag (a - MC_ID) v s
  else if a < mbRequest 0 then
    (if FL_f_CTL 0 ≤ a ∧ a % 0x40 < 0x38 ∧ (a - FL_f_CTL 0) / 0x40 < 3072 then
      doFlowFieldWrite ((a - FL_f_CTL 0) / 0x40) (a % 0x40 / 4) v s else s.writeByType a v)
  else if a < DBG_ID then writeMb ag (a - mbRequest 0) v s
  else if a < IC_ID then writeDbg ag (a - DBG_ID) v s
  else if a < QM_ID then writeIc (a - IC_ID) v s
  else if a < MS_ID then writeQm ag (a - QM_ID) v s
  else if a < DRV_ID then
    (if MS_REC_s_CFG 0 ≤ a ∧ a < MS_PL_c_REPEATS 0 ∧ a % 0x10 = 0 then writeRecCfg ((a - MS_REC_s_CFG 0) / 0x10) v s
     else s.writeByType a v)
  else if a < SF_ID then writeDrv (a - DRV_ID) v s
  else if a < TDMA_ID then writeAnSf false (a - SF_ID) v s
  else if a < AN_ID then
    (if TDMA_CH_c_W0 0 ≤ a ∧ a < TDMA_CH_c_W0 64 then
      writeDmaReg 12 ((a - TDMA_CH_c_W0 0) / 0x40) ((a - TDMA_CH_c_W0 0) % 0x40) v s else s.writeByType a v)
  else if a < NET_ID then writeAnSf true (a - AN_ID) v s
  else if a < SNS_ID then writeNet (a - NET_ID) v s
  else if a < CV_ID then s.writeByType a v
  else if a < BT_ID then writeCv ag (a - CV_ID) v s
  else writeSystem ag a v s

/-! ### Reads -/

/-- The value read, with the state after it. -/
abbrev RegRead := Word × State

/-- A LO register of a 64-bit pair: its upper half is held for the HI register (R11). -/
def readLo (lo : Word) (his : List (Nat × Word)) (s : State) : RegRead :=
  (lo, { s with captured := his.foldl (fun t e => tput 0 t e.1 e.2) s.captured })

def readHi (a : Nat) (s : State) : RegRead := (tget 0 s.captured a, s)

/-- SU_c_p_STAT and CV_STAT with their live fields. -/
def readSuStat (p : Nat) (s : State) : Word :=
  let c := s.proc p
  BitVec.ofNat 32 (setBits (setBits (s.reg (procStat p)).toNat 4 5 c.os.length) 9 4 c.rs.length)

def readCvStat (s : State) : Word :=
  let c := s.proc clove
  BitVec.ofNat 32 (bits (s.reg CV_STAT).toNat 0 3 + c.stBit 6 * 8 + c.stBit 5 * 16 + c.os.length * 32 + c.rs.length * 2048)

def readMcCvStat (s : State) : RegRead :=
  let m := microPc s clove
  (BitVec.ofNat 32 (setBits (setBits (s.reg MC_CV_STAT).toNat 0 11 m.1) 11 1 (b2n m.2)), s.freeNext)

/-- BT_STAT: LIMIT and WIN come from one-time bits (R376). -/
def readBtStat (s : State) : Word :=
  BitVec.ofNat 32 (setBits (setBits (s.reg BT_STAT).toNat 7 3 (if s.otp.bootLimit = 0 then 3 else s.otp.bootLimit)) 16 8
    (if s.otp.startWin = 0 then 10 else s.otp.startWin))

def readLcs (s : State) : Word :=
  BitVec.ofNat 32 (s.otp.lcs % 4 + b2n s.otp.root0Revoked * 4 + b2n s.otp.root1Revoked * 8 + b2n s.otp.root1Set * 16 +
    s.otp.rollback % 128 * 256)

/-- A claim by a read of IC_T_k_CLAIM (R291). -/
def readClaim (k : Nat) (s : State) : RegRead := (BitVec.ofNat 32 (claimValue s k), claim k s)

def readIc (o : Nat) (s : State) : RegRead :=
  if 0x100 ≤ o ∧ o < 0x180 then (pendWord s ((o - 0x100) / 4), s)
  else if 0x180 ≤ o ∧ o < 0x200 then (pendWord s ((o - 0x180) / 4), s)
  else if 0x280 ≤ o ∧ o < 0x300 then (s.reg (IC_EN_SET_i ((o - 0x280) / 4)), s)
  else if 0x1000 ≤ o ∧ o < 0x1320 ∧ o % 0x10 = 4 then readClaim ((o - 0x1000) / 0x10) s
  else if 0x1000 ≤ o ∧ o < 0x1320 ∧ o % 0x10 = 0xC then (targetStat s ((o - 0x1000) / 0x10), s)
  else s.readByType (IC_ID + o)

def readMb (ag : Agent) (o : Nat) (s : State) : RegRead :=
  if hostHides ag o || (ag = .host && o < 0x20000 && mbOff s (o / 0x2000)) then (0, s)
  else if o < 0x24000 ∨ (0x32000 ≤ o ∧ o < 0x32010) ∨ (0x32800 ≤ o ∧ o < 0x32808) then
    (BitVec.ofNat 32 (s.num (mbRequest 0 + o) 4), s)
  else if o = 0x31000 then (s.reg (IC_T_k_THRESH 49), s)
  else if o = 0x31004 then readClaim 49 s
  else if o = 0x31008 then (s.reg (IC_T_k_COMPLETE 49), s)
  else if o = 0x3100C then (targetStat s 49, s)
  else s.readByType (mbRequest 0 + o)

def readDbg (ag : Agent) (o : Nat) (s : State) : RegRead :=
  if 0xE00 ≤ o ∧ o < 0x1110 ∧ o % 0x10 = 0 then vtReadOut ((o - 0xE00) / 0x10) s
  else if o = 0x1104 ∧ ag = .clove then let r := vtProgramIn 48 s; (BitVec.ofNat 32 r.1, r.2)
  else if 0x2000 ≤ o ∧ o < 0x3000 then (BitVec.ofNat 32 (tget 0 s.dev.window ((o - 0x2000) / 4)), s)
  else if 0x20000 ≤ o ∧ o < 0x40000 then (BitVec.ofNat 32 (s.num (DBG_ID + o) 4), s)
  else s.readByType (DBG_ID + o)

def readSu (o : Nat) (s : State) : RegRead :=
  let c := o / 0x1000 - 1
  let r := o % 0x1000
  let p := 8 * c + (r - 0x100) / 0x20
  if 0x100000 ≤ o then ((if o < 0x1C0000 then BitVec.ofNat 32 (s.num (SU_ID + o) 4) else 0), s)
  else if 0x1000 ≤ o ∧ o < 0xD000 ∧ 0x100 ≤ r ∧ r < 0x200 ∧ r % 0x20 = 4 then (readSuStat p s, s)
  else if 0x1000 ≤ o ∧ o < 0xD000 ∧ 0x100 ≤ r ∧ r < 0x200 ∧ r % 0x20 = 8 then (BitVec.ofNat 32 ((s.proc p).pc % 4096), s)
  else if 0x1000 ≤ o ∧ o < 0xD000 ∧ 0x400 ≤ r ∧ r < 0x800 then
    (BitVec.ofNat 32 (ucodeGet s (dtSumac c ((r - 0x400) / 4))), s)
  else s.readByType (SU_ID + o)

def readCv (o : Nat) (s : State) : RegRead :=
  if o = 0x08 then (readCvStat s, s)
  else if o = 0x0C then (BitVec.ofNat 32 ((s.proc clove).pc % 2 ^ 24), s)
  else if 0x400 ≤ o ∧ o < 0x800 then readCvDt ((o - 0x400) / 4) s
  else s.readByType (CV_ID + o)

def readMc (o : Nat) (s : State) : RegRead :=
  if o = 0x08 then readMcCvStat s
  else if 0x800 ≤ o ∧ o < 0xC00 then (BitVec.ofNat 32 (ucodeGet s (dtClove (activeBank s) ((o - 0x800) / 4))), s)
  else if 0x10000 ≤ o ∧ o < 0x5C000 then readStore o s
  else s.readByType (MC_ID + o)

/-- A read of the aligned word at `a` of the device control blocks, with its effects (R11). -/
def readBlock (ag : Agent) (a : Nat) (s : State) : RegRead :=
  if a = SX_FRAME_LO then readLo (sxFrameLo s) [(SX_FRAME_HI, sxFrameHi s)] s
  else if a = AN_START_LO then readLo (s.reg a) [(AN_START_HI, s.reg AN_START_HI)] s
  else if a = SF_UPD_LO then readLo (s.reg a) [(SF_UPD_HI, s.reg SF_UPD_HI)] s
  else if a = NET_TIME_NS then
    readLo (timeNsWord s) [(NET_TIME_S_LO, BitVec.ofNat 32 (timeSec s)),
      (NET_TIME_S_HI, BitVec.ofNat 32 (timeSec s / 2 ^ 32 % 65536))] s
  else if a = SX_FRAME_HI ∨ a = AN_START_HI ∨ a = SF_UPD_HI ∨ a = NET_TIME_S_LO ∨ a = NET_TIME_S_HI then readHi a s
  else if a = SX_BLOCK_LO then (sxBlockLo s, s)
  else if a < SX_ID then readSu (a - SU_ID) s
  else if SX_ID + 0x10000 ≤ a ∧ a < SX_ID + 0x5A000 then (readMap (a - SX_ID) s, s)
  else if BB_ID + 0x40000 ≤ a ∧ a < MC_ID then (BitVec.ofNat 32 (s.num a 4), s)
  else if a < MC_ID then s.readByType a
  else if a < FL_ID then readMc (a - MC_ID) s
  else if a < mbRequest 0 then s.readByType a
  else if a < DBG_ID then readMb ag (a - mbRequest 0) s
  else if a < IC_ID then readDbg ag (a - DBG_ID) s
  else if a < QM_ID then readIc (a - IC_ID) s
  else if a = QM_QCFG then (readQcfg s, s)
  else if a = QM_QLIM then (readQlim s, s)
  else if a = QM_QSTAT then (readQstat s, s)
  else if CV_ID ≤ a ∧ a < BT_ID then readCv (a - CV_ID) s
  else if a = BT_STAT then (readBtStat s, s)
  else if a = SEC_LCS then (readLcs s, s)
  else if a = SEC_SERIAL_LO then (BitVec.ofNat 32 s.otp.serial, s)
  else if a = SEC_SERIAL_HI then (BitVec.ofNat 32 (s.otp.serial / 2 ^ 32), s)
  else if a = SEC_DBG_CHAL_k 0 then let s1 := drawChallenge s; (s1.reg a, s1)
  else if a = WD_DEV_STAT then (devStat s, s)
  else if a = WD_CV_STAT then (cvStat s, s)
  else s.readByType a

/-- A tile-local register of tile `t` at local address `l`. -/
def readLocal (t l : Nat) (s : State) : RegRead :=
  let n := 4 * t + (l - 0xC00000) / 0x1000
  let o := l % 0x1000
  if l < 0xC04000 then
    (if o = 0x04 then (scState s n, s)
     else if o = 0x10 then (scPc s n, s)
     else if o = 0x100 then (s.reg (IC_T_k_THRESH n), s)
     else if o = 0x104 then readClaim n s
     else if o = 0x108 then (s.reg (IC_T_k_COMPLETE n), s)
     else s.readByType (tileBase t + l))
  else s.readByType (tileBase t + l)

def writeLocal (ag : Agent) (t l : Nat) (v : Word) (s : State) : State :=
  if l < 0xC04000 then writeSc (4 * t + (l - 0xC00000) / 0x1000) (l % 0x1000) v s else writeTl ag t (l - 0xC10000) v s

/-- Whether a fabric address belongs to control registers: the device blocks, and a tile's register blocks. -/
def isControl (a : Nat) : Bool :=
  (0x2000000000 ≤ a && a < 0x200046E000) ||
    (0x1000000000 ≤ a && a < 0x100C000000 &&
      ((0xC00000 ≤ a % 0x1000000 && a % 0x1000000 < 0xC04000) || (0xC10000 ≤ a % 0x1000000 && a % 0x1000000 < 0xC11000)))

def tileOf (a : Nat) : Nat := (a - 0x1000000000) / 0x1000000

/-- A read and a write of one aligned control word. -/
def regRead (ag : Agent) (a : Nat) (s : State) : RegRead :=
  if a < 0x2000000000 then readLocal (tileOf a) (a % 0x1000000) s else readBlock ag a s

def regWrite (ag : Agent) (a : Nat) (v : Word) (s : State) : State :=
  if a < 0x2000000000 then writeLocal ag (tileOf a) (a % 0x1000000) v s else writeBlock ag a v s

/-! ### Stopped domains (R389) -/

/-- The control block at `a` lies in a stopped clock domain, or in a tile that does not answer. -/
def blockOff (s : State) (a : Nat) : Bool :=
  let o := a - 0x2000000000
  if a < 0x2000000000 then !tileAnswers s (tileOf a)
  else if 0x1000 ≤ o ∧ o < 0xD000 then domainOff s (14 + (o / 0x1000 - 1))
  else if 0x100000 ≤ o ∧ o < 0x1C0000 then domainOff s (14 + (o - 0x100000) / 0x10000)
  else if DRV_ID ≤ a ∧ a < SF_ID then domainOff s 45
  else if SEC_ID ≤ a ∧ a < CK_ID then domainOff s 27
  else false

/-! ### Accesses of any kind (R439, R440, R445) -/

def badFetch (n : Nat) (s : State) : Fetched := { data := zeros n, err := true, ecc := false, s := s }
def okFetch (l : List Byte) (s : State) : Fetched := { data := l, err := false, ecc := false, s := s }

/-- The aligned words that the `n` bytes from `a` touch, each with whether it is covered in full (R10). -/
def touched (a n : Nat) : List (Nat × Bool) :=
  (List.range ((a + n + 3) / 4 - a / 4)).map (fun i =>
    let w := 4 * (a / 4 + i)
    (w, decide (a ≤ w ∧ w + 4 ≤ a + n)))

/-- A read of control registers, word by word in rising order. -/
def ctlRead (ag : Agent) (s : State) (a n : Nat) : Fetched :=
  if blockOff s a then badFetch n s
  else
    let r := (touched a n).foldl (fun (x : List Byte × State) w =>
      if w.2 then let y := regRead ag w.1 x.2; (x.1 ++ leBytes 4 y.1.toNat, y.2)
      else (x.1 ++ zeros (min (w.1 + 4) (a + n) - max w.1 a), logFabric (portNo ag) 1 false w.1 x.2)) ([], s)
    okFetch r.1 r.2

/-- A write of control registers: the bytes `l` from `a`. -/
def ctlWrite (ag : Agent) (s : State) (a : Nat) (l : List Byte) : Bool × State :=
  if blockOff s a then (true, s)
  else (false, (touched a l.length).foldl (fun s w =>
    if w.2 then regWrite ag w.1 (BitVec.ofNat 32 (leNat ((l.drop (w.1 - a)).take 4))) s
    else logFabric (portNo ag) 1 true w.1 s) s)

/-- Local addresses of a tile's private and program memories: the core they belong to. -/
def coreMem (l : Nat) : Option Nat :=
  if 0x800000 ≤ l ∧ l < 0x880000 then some ((l - 0x800000) / 0x20000)
  else if 0x900000 ≤ l ∧ l < 0x980000 then some ((l - 0x900000) / 0x20000)
  else none

/-- PROGRAM_MEMORY_LOAD (R52): a fabric write to core `n`'s memory at local address `l`. -/
def loadCoreMem (n l : Nat) (d : List Byte) (s : State) : State :=
  let st := (s.core n).st
  if st = 0 ∨ st = 1 ∨ st = 5 then
    (s.each (wordsOf l d.length) (fun s w =>
      if (l ≤ w ∧ w + 8 ≤ l + d.length) ∨ eccMark s (localBase n + w) ≠ 2 then setMark s (localBase n + w) 0 else s)).setBytes
        (localBase n + l) d
  else s.setFld (SC_n_ERR n) SC_n_ERR_LOAD_DISCARD 1

/-- Model address of a byte of the tile-port halves of tile `t`, if a logical port names the tile (R440). -/
def halfAddr (s : State) (t l : Nat) : Option Nat :=
  match portOfTile s t with
  | some p => some (if l < 0xF10000 then rxHalf p s.sx.half + (l - 0xF00000) else txHalf p s.sx.half + (l - 0xF10000))
  | none => none

/-- The owner code under which an agent reaches the banks of tile `t` (R118, R261, R440). -/
def bankCode (ag : Agent) (t : Nat) : Nat :=
  match ag with
  | .tileDma u => if u = t then 4 else 6
  | .core n => n % 4
  | _ => 6

/-- A read of a tile's window at local address `l`. -/
def tileRead (ag : Agent) (s : State) (t l n : Nat) : Fetched :=
  let b := l / 0x80000
  if l + n ≤ 0x400000 ∧ (l + n - 1) / 0x80000 = b then
    (if ag = .dap then okFetch (debugRead s t b (l % 0x80000) n) s
     else let r := ownedRead s t b (bankCode ag t) (l % 0x80000) n; okFetch r.1 r.2)
  else if 0x400000 ≤ l ∧ l + n ≤ 0x410000 then
    (if ag = .dap then okFetch (debugRead s t 8 (l - 0x400000) n) s
     else let r := bankRead s t 8 (l - 0x400000) n; okFetch r.1 r.2)
  else if (coreMem l).isSome ∧ coreMem (l + n - 1) = coreMem l then okFetch (s.bytes (tileBase t + l) n) s
  else if 0xF00000 ≤ l ∧ l + n ≤ 0xF20000 then
    (match halfAddr s t l with
     | some m => okFetch (s.bytes m n) s
     | none => okFetch (zeros n) s)
  else badFetch n s

/-- A write of a tile's window. -/
def tileWrite (ag : Agent) (s : State) (t l : Nat) (d : List Byte) : Bool × State :=
  let n := d.length
  let b := l / 0x80000
  if l + n ≤ 0x400000 ∧ (l + n - 1) / 0x80000 = b then
    (false, if ag = .dap then debugWrite s t b (l % 0x80000) d else ownedWrite s t b (bankCode ag t) (l % 0x80000) d)
  else if 0x400000 ≤ l ∧ l + n ≤ 0x410000 then
    (false, if ag = .dap then debugWrite s t 8 (l - 0x400000) d else bankWrite s t 8 (l - 0x400000) d)
  else match coreMem l with
    | some c => if coreMem (l + n - 1) = some c then (false, loadCoreMem (4 * t + c) l d s) else (true, s)
    | none =>
      if 0xF10000 ≤ l ∧ l + n ≤ 0xF20000 then
        (match halfAddr s t l with
         | some m => (false, s.setBytes m d)
         | none => (false, s))
      else if 0xF00000 ≤ l ∧ l + n ≤ 0xF10000 ∧ (halfAddr s t l).isNone then (false, s)
      else (true, s)

/-- The PCIe outbound window of an address answers (R447). -/
def outboundOk (s : State) (a : Nat) : Bool :=
  s.flag (MB_OB_w_CTL (a / 2 ^ 32 % 16)) MB_OB_w_CTL_EN && s.dev.hpe && !domainOff s 40

/-- The queue manager doorbell at an address: operation and queue. -/
def doorbellOp (a : Nat) : Nat := (a - 0x3000000000) / 0x1000000
def doorbellQ (a : Nat) : Nat := a % 0x1000000 / 0x10

/-- The access form of an operation (R250): DEQ, PEEK, COUNT and ALLOC are reads. -/
def doorbellReads (op : Nat) : Bool := op = 2 || op = 3 || op = 7 || op = 8

/-- KIND of a failed access (R446). -/
def busKind (s : State) (a : Nat) : Nat :=
  if 0x4000000000 ≤ a ∧ a < 0x5000000000 then 3
  else if isControl a ∧ blockOff s a then 2
  else errKind s a

/-- What a read finds, before an error is logged. -/
def busReadRaw (ag : Agent) (s : State) (a n : Nat) : Fetched :=
  if a + n ≤ 0x1000000000 then (if a + n ≤ ddrLimit s ∧ ddrClock s a then ddrRead s a n else badFetch n s)
  else if isControl a then ctlRead ag s a n
  else if 0x1000000000 ≤ a ∧ a + n ≤ 0x100C000000 then
    (if tileAnswers s (tileOf a) then tileRead ag s (tileOf a) (a % 0x1000000) n else badFetch n s)
  else if 0x3000000000 ≤ a ∧ a + n ≤ 0x3010000000 then
    let op := doorbellOp a
    let r := doorbellNow ag op (doorbellQ a) 0 (decide (n = 4) && decide (a % 16 = 0) && doorbellReads op) s
    okFetch ((leBytes 4 r.1).take n ++ zeros (n - 4)) r.2
  else if 0x4000000000 ≤ a ∧ a + n ≤ 0x5000000000 ∧ outboundOk s a then
    okFetch (leBytes n (s.free .unstated)) s.freeNext
  else badFetch n s

/-- What a write does. -/
def busWriteRaw (ag : Agent) (s : State) (a : Nat) (l : List Byte) : Bool × State :=
  let n := l.length
  if a + n ≤ 0x1000000000 then (if a + n ≤ ddrLimit s ∧ ddrClock s a then (false, ddrWrite s a l) else (true, s))
  else if isControl a then ctlWrite ag s a l
  else if 0x1000000000 ≤ a ∧ a + n ≤ 0x100C000000 then
    (if tileAnswers s (tileOf a) then tileWrite ag s (tileOf a) (a % 0x1000000) l else (true, s))
  else if 0x3000000000 ≤ a ∧ a + n ≤ 0x3010000000 then
    let op := doorbellOp a
    (false, (doorbellNow ag op (doorbellQ a) (leNat (l.take 4)) (decide (n = 4) && decide (a % 16 = 0) && !doorbellReads op) s).2)
  else if 0x4000000000 ≤ a ∧ a + n ≤ 0x5000000000 ∧ outboundOk s a then (false, s)
  else (true, s)

/-- A read of `n` bytes by an agent; with the no-side-effect attribute nothing changes but the model's own counter (R414). -/
def busRead (ag : Agent) (nse : Bool) (s : State) (a n : Nat) : Fetched :=
  let r := busReadRaw ag s a n
  if nse then { r with s := { s with freeCtr := r.s.freeCtr } }
  else if r.err then { r with s := logFabric (portNo ag) (busKind s a) false a r.s }
  else r

/-- A write by an agent; an error response is logged. -/
def busWrite (ag : Agent) (s : State) (a : Nat) (l : List Byte) : Bool × State :=
  let r := busWriteRaw ag s a l
  if r.1 then (true, logFabric (portNo ag) (busKind s a) true a r.2) else r

/-- The common bank at `a` is held by a core's lock, so the access waits (R127). -/
def busHeld (s : State) (a : Nat) : Bool :=
  0x1000000000 ≤ a && a < 0x100C000000 && 0x400000 ≤ a % 0x1000000 && a % 0x1000000 < 0x410000 && lockHeld s (tileOf a)

/-! ### Commands -/

/-- The host reaches BAR0 alone (R342). -/
def hostReach (ag : Agent) (a : Nat) : Bool := ag ≠ .host || (mbRequest 0 ≤ a && a < DBG_ID)

/-- REGISTER_WRITE: a 32-bit write of the aligned word that holds `a`. -/
def doRegisterWrite (ag : Agent) (a : Nat) (v : Word) (s : State) : State :=
  if hostReach ag a then (busWrite ag s (a / 4 * 4) (leBytes 4 v.toNat)).2 else s

/-- RC_READ: a 32-bit read of the aligned word that holds `a`, with its effect. -/
def doRcRead (ag : Agent) (a : Nat) (s : State) : State :=
  if hostReach ag a then
    let r := busRead ag false s (a / 4 * 4) 4
    r.s.mapDev (fun d => { d with lastRead := BitVec.ofNat 32 (leNat r.data) })
  else s

/-- The LO registers of the 64-bit pairs whose read captures. -/
def loReg (k : Nat) : Nat :=
  match k with
  | 0 => SX_FRAME_LO
  | 1 => NET_TIME_NS
  | 2 => AN_START_LO
  | _ => SF_UPD_LO

def doLoHalfRead (ag : Agent) (k : Nat) (s : State) : State := doRcRead ag (loReg k) s

/-- CLAIM: a read of IC_T_k_CLAIM (R291). -/
def doClaim (k : Nat) (s : State) : State := noteRead (readClaim k s)

/-- COMPLETE: a write of IC_T_k_COMPLETE. -/
def doComplete (k n : Nat) (s : State) : State := writeComplete k (BitVec.ofNat 32 n) s

/-- PROGRAM_MEMORY_LOAD: a fabric write of a 32-bit word at offset `off` of core `n`'s program memory, or its private
data memory (`priv`). -/
def doProgramMemoryLoad (ag : Agent) (n : Nat) (priv : Bool) (off : Nat) (v : Word) (s : State) : State :=
  (busWrite ag s (tileBase (n / 4) + (if priv then 0x800000 else 0x900000) + n % 4 * 0x20000 + off / 4 * 4)
    (leBytes 4 v.toNat)).2

end Sys2Proof.Machine
end

