-- ==== Sys2Proof/Machine/Boot.lean ====
section
/-! DEFINITION. The start (R362 to R381): containers, their verification and loading, the boot ROM's choice of a slot,
and minimal mode.
Choices and readings: log entries 5, 51 and 52. -/

namespace Sys2Proof.Machine
open R

def State.mapFw (s : State) (f : Fw → Fw) : State := { s with fw := f s.fw }

/-! ### Containers (R362 to R364)

A container is read at a model address: a slot of the boot flash, or its copy in DDR5. -/

/-- Model address of slot `k` of the boot flash, and the bytes of a slot. -/
def slotBase (k : Nat) : Nat := flashAddr (0x1000000 * (k + 1))
def slotSize : Nat := 0x1000000

def cMagic (s : State) (b : Nat) : Nat := s.num b 4
def cFormat (s : State) (b : Nat) : Nat := s.num (b + 4) 2
def cNent (s : State) (b : Nat) : Nat := s.num (b + 6) 2
def cSeq (s : State) (b : Nat) : Nat := s.num (b + 8) 4
def cRollback (s : State) (b : Nat) : Nat := s.num (b + 0xC) 1
def cKind (s : State) (b : Nat) : Nat := s.num (b + 0xD) 1
def cKeyId (s : State) (b : Nat) : Nat := s.num (b + 0xE) 2
def cFwVer (s : State) (b : Nat) : Nat := s.num (b + 0x10) 4
def cFwBuild (s : State) (b : Nat) : Nat := s.num (b + 0x14) 4
def cCertOff (s : State) (b : Nat) : Nat := s.num (b + 0x18) 4
def cCertLen (s : State) (b : Nat) : Nat := s.num (b + 0x1C) 4

/-- A valid header (R371): MAGIC, FORMAT, NENT and the range of CERT_OFF. -/
def headerOk (s : State) (b : Nat) : Bool :=
  cMagic s b = 0x4254494D && cFormat s b = 1 && 1 ≤ cNent s b && cNent s b ≤ 64 && cCertOff s b + cCertLen s b ≤ slotSize

/-- The manifest's length, and the places of the two signatures. -/
def manifestLen (s : State) (b : Nat) : Nat := 64 + 96 * cNent s b
def sigAt (s : State) (b : Nat) : Nat := b + (manifestLen s b + 63) / 64 * 64

/-- An entry of the manifest. -/
structure Entry where
  typ : Nat
  enc : Bool
  start : Bool
  unit : Nat
  load : Nat
  off : Nat
  len : Nat
  iv : List Byte
  tag : List Byte
  hash : List Byte
  aad : List Byte

def entryAt (s : State) (b i : Nat) : Entry :=
  let a := b + 64 + 96 * i
  { typ := s.num a 1, enc := bits (s.num (a + 1) 1) 0 1 = 1, start := bits (s.num (a + 1) 1) 1 1 = 1, unit := s.num (a + 2) 2,
    load := s.num (a + 4) 4, off := s.num (a + 8) 4, len := s.num (a + 0xC) 4, iv := s.bytes (a + 0x10) 12,
    tag := s.bytes (a + 0x20) 16, hash := s.bytes (a + 0x30) 48, aad := s.bytes a 16 }

def entries (s : State) (b : Nat) : List Entry := (List.range (cNent s b)).map (entryAt s b)

/-- The phase of a type, or 9 for a type that R364 does not list. -/
def phaseOf (t : Nat) : Nat :=
  if t = 0 then 0
  else if t ≤ 4 ∨ t = 11 then 1
  else if t = 5 ∨ t = 10 then 2
  else if t = 6 then 3
  else if t ≤ 9 then 4
  else 9

/-! ### Reasons of a failure (R378) -/

def rHeader : Nat := 1
def rCert : Nat := 2
def rSig : Nat := 3
def rRollback : Nat := 4
def rKeyBlob : Nat := 5
def rRead : Nat := 6
def rTag : Nat := 7
def rHash : Nat := 8
def rOrder : Nat := 9
def rPatch : Nat := 10
def rCustomer : Nat := 11

/-- The first reason other than 0. -/
def firstOf (l : List Nat) : Nat := (l.find? (· ≠ 0)).getD 0

/-! ### Steps 5 and 6 (R366 to R368, R373) -/

/-- Step 5: the chain and the manifest of the container at `b`. -/
def manifestReason (s : State) (b : Nat) : Nat :=
  let n := cCertLen s b / certLen
  if !headerOk s b then rHeader
  else if cCertLen s b % certLen ≠ 0 ∨ n = 0 ∨ 3 < n then rCert
  else match chainSigner s (s.bytes (b + cCertOff s b) (n * certLen)) n 0 2 with
    | none => rCert
    | some c =>
      if bothVerify (certKeys c) (s.bytes b (manifestLen s b)) (s.bytes (sigAt s b) 384) (s.bytes (sigAt s b + 384) 29792) then 0
      else rSig

def rollbackReason (s : State) (b : Nat) : Nat := if cRollback s b < s.otp.rollback ∨ 64 < cRollback s b then rRollback else 0

/-- The key blob, and the record that names a KEYID. -/
def keyBlob : Nat := flashAddr 0x3000000

def keyRecord (s : State) (id : Nat) : Option (List Byte) :=
  if s.num keyBlob 4 ≠ 0x42544B42 then none
  else (((List.range (min (s.num (keyBlob + 4) 2) 2)).map (fun i => s.bytes (keyBlob + 8 + 64 * i) 64)).find? (fun r => le r 12 2 = id))

/-- The image key, unwrapped; none of a BLANK part, which holds no secret yet (R385). -/
def imageKey (s : State) (id : Nat) : Option (List Byte) :=
  match keyRecord s id with
  | none => none
  | some r =>
    let k := ladderKey s 0
    let aad := leBytes 2 id ++ leBytes 8 s.otp.serial
    if s.otp.lcs ≠ 0 ∧ gcmTag k (slice r 0 12) aad (slice r 16 32) = slice r 48 16 then
      some (gcmCrypt k (slice r 0 12) (slice r 16 32))
    else none

/-! ### Step 8: entries (R364, R369, R374, R375) -/

/-- The target of an entry exists and holds its payload. -/
def targetOk (e : Entry) : Bool :=
  let w := e.len / 16
  match e.typ with
  | 0 => e.unit = 0 && e.load = 0
  | 1 => e.unit = 0 && e.len % 16 = 0 && e.load + w ≤ 2048
  | 2 => e.unit = 0 && e.load = 0 && e.len = 1024
  | 3 => decide (e.unit < 12) && e.len % 16 = 0 && e.load + w ≤ 1024
  | 4 => decide (e.unit < 12) && e.load = 0 && e.len = 1024
  | 5 => e.unit = 0 && e.len % 2 = 0 &&
      ((0x10000 ≤ e.load && e.load + e.len / 2 ≤ 0x18000) || (0x20000 ≤ e.load && e.load + e.len / 2 ≤ 0x60000))
  | 6 => decide (e.unit < 96) && e.load + e.len ≤ 4096
  | 7 => decide (e.unit < 48) && e.load + e.len ≤ 131072
  | 8 => decide (e.unit < 48) && e.load + e.len ≤ 131072
  | 9 => decide (e.unit < 96) && e.load + e.len ≤ 0x80000
  | 10 => e.unit = 0 && !e.enc && e.load + e.len ≤ 0x1000000
  | 11 => e.unit = 0 && e.load = 0
  | _ => false

/-- Order, range and target of entry `i` of the list `l`. -/
def placeOk (l : List Entry) (i : Nat) (e : Entry) : Bool :=
  targetOk e && (e.typ = 10 || (e.off % 4096 = 0 && e.off + e.len ≤ slotSize)) &&
    (l.take i).all (fun p => phaseOf p.typ ≤ phaseOf e.typ && (p.typ ≠ 0 || e.typ ≠ 0))

/-- The plaintext of an entry of the container at `b`, and whether its tag is right. -/
def payload (s : State) (b : Nat) (key : List Byte) (e : Entry) : Bool × List Byte :=
  if e.typ = 10 then (true, s.bytes (flashAddr e.load) e.len)
  else
    let ct := s.bytes (b + e.off) e.len
    if e.enc then (decide (gcmTag key e.iv e.aad ct = e.tag), gcmCrypt key e.iv ct) else (true, ct)

/-- The patch payload is one that R340 applies. -/
def patchOk (s : State) (p : List Byte) : Bool :=
  le p 0 4 = 0x4D435054 && le p 4 4 = (s.reg MC_ROM_VER).toNat && le p 0xC 2 ≤ 32 && le p 0xE 2 ≤ 1024 &&
    0x10 + 4 * le p 0xC 2 + 2 * le p 0xE 2 ≤ p.length

/-- Parts of a customer image (R375). -/
def cuTarget (p : List Byte) : Nat := le p 4 1
def cuNops (p : List Byte) : Nat := le p 5 1
def cuNwords (p : List Byte) : Nat := le p 6 2
def cuEntry (p : List Byte) (i : Nat) : Nat := le p (0x10 + 4 * i) 4
def cuWords (p : List Byte) : Nat := 0x10 + 4 * cuNops p
def cuChain (p : List Byte) : Nat := cuWords p + 16 * cuNwords p

/-- The customer image is one that the boot ROM loads: its form, its own signatures, and entries in the customer region. -/
def customerOk (s : State) (p : List Byte) : Bool :=
  let u := cuTarget p
  le p 0 4 = 0x42544355 && u ≤ 12 && 1 ≤ cuNops p && cuNops p ≤ 16 && cuNwords p ≤ (if u = 12 then 256 else 128) &&
    le p 8 2 ≠ 0 &&
    (List.range (cuNops p)).all (fun i =>
      let v := cuEntry p i
      bits v 11 2 ≠ 3 && custFirst u ≤ bits v 0 11 && bits v 0 11 < storeWords u) &&
    (match chainSigner s (slice p (cuChain p) 61376) 2 1 6 with
     | some c =>
       let n := cuChain p + 61376
       bothVerify (certKeys c) (p.take n) (slice p n 384) (slice p (n + 384) 29792)
     | none => false)

/-- The reason for which entry `i` fails. -/
def entryReason (s : State) (b : Nat) (key : List Byte) (l : List Entry) (i : Nat) (e : Entry) : Nat :=
  let p := payload s b key e
  if !placeOk l i e then rOrder
  else if !p.1 then rTag
  else if sha384 p.2 ≠ e.hash then rHash
  else if e.typ = 0 ∧ ¬ patchOk s p.2 then rPatch
  else if e.typ = 11 ∧ ¬ customerOk s p.2 then rCustomer
  else 0

/-- The first entry that fails, with its reason; a container whose firmware has no entry point fails as ORDER. -/
def entriesReason (s : State) (b : Nat) (key : List Byte) : Nat × Nat :=
  let l := entries s b
  match (l.zipIdx.map (fun x => (entryReason s b key l x.2 x.1, x.2))).find? (fun r => r.1 ≠ 0) with
  | some r => r
  | none => if l.any (fun e => e.start && e.typ = 5) then (0, 0) else (rOrder, 0)

/-- Steps 5, 6 and 8 without loading (R380): the reason of the failure, 0 for none. -/
def verifyReason (s : State) (b : Nat) : Nat :=
  firstOf [manifestReason s b, rollbackReason s b,
    match imageKey s (cKeyId s b) with
    | none => rKeyBlob
    | some k => (entriesReason s b k).1]

/-! ### Loading -/

/-- The slots of microwords from word `w` on. -/
def loadWordsAt (u w : Nat) (p : List Byte) (s : State) : State :=
  s.each (List.range (p.length / 16)) (fun s i =>
    s.each (List.range 4) (fun s g => doControlStoreWrite .clove u (w + i) g (BitVec.ofNat 32 (le p (16 * i + 4 * g) 4)) s))

/-- A decode table; entries from 0xF0 on are a customer image's. -/
def loadTable (u : Nat) (p : List Byte) (s : State) : State :=
  s.each (List.range 0xF0) (fun s e => doDecodeTableWrite .clove u e (BitVec.ofNat 32 (le p (4 * e) 4)) s)

def dtVerReg (u : Nat) : Nat := if u = 12 then CV_DT_VER else SU_c_DT_VER u

/-- A customer image opens its table, and enters its version (R318, R375). -/
def loadCustomer (p : List Byte) (s : State) : State :=
  let u := cuTarget p
  let s1 := doCustOpen .clove u s
  let s2 := s1.each (List.range (cuNops p)) (fun s i => doDecodeTableWrite .clove u (0xF0 + i) (BitVec.ofNat 32 (cuEntry p i)) s)
  (loadWordsAt u (custFirst u) (slice p (cuWords p) (16 * cuNwords p)) s2).setFld (dtVerReg u) CV_DT_VER_CUST (le p 8 2)

/-- A ROM patch (R340). -/
def loadPatch (p : List Byte) (s : State) : State :=
  let n := le p 0xC 2
  let s1 := s.setBytes (cvMem 0xC000) (slice p (0x10 + 4 * n) (2 * le p 0xE 2))
  let s2 := s1.each (List.range n) (fun s m => doRomPatchMatchWrite .clove m (BitVec.ofNat 32 (le p (0x10 + 4 * m) 4)) s)
  (doRompLock .clove s2).mapFw (fun f => { f with patchVer := le p 8 4 })

/-- A shared bank image: the bank goes to owner code 0x6. -/
def loadBankImage (e : Entry) (p : List Byte) (s : State) : State :=
  let t := e.unit / 8
  let b := e.unit % 8
  bankWrite (s.setFlds (TL_t_BK_b_OWNER t b) [(TL_t_BK_b_OWNER_OWNER, 6), (TL_t_BK_b_OWNER_CUR, 6)]) t b e.load p

def loadEntry (e : Entry) (p : List Byte) (s : State) : State :=
  match e.typ with
  | 0 => loadPatch p s
  | 1 => loadWordsAt 12 e.load p s
  | 2 => loadTable 12 p s
  | 3 => loadWordsAt e.unit e.load p s
  | 4 => loadTable e.unit p s
  | 5 => s.setBytes (cvMem e.load) p
  | 6 => s.setBytes (suProg e.unit + e.load) p
  | 7 => loadCoreMem e.unit (0x900000 + e.unit % 4 * 0x20000 + e.load) p s
  | 8 => loadCoreMem e.unit (0x800000 + e.unit % 4 * 0x20000 + e.load) p s
  | 9 => loadBankImage e p s
  | 10 => (s.setFld BT_CTL BT_CTL_XIP_WP 1).mapFw (fun f => { f with xipHash := e.hash })
  | 11 => loadCustomer p s
  | _ => s

/-- An entry of a failed slot: what it had loaded becomes 0. The patch and the locks of a failed slot do not stay. -/
def zeroEntry (e : Entry) (s : State) : State := if e.typ = 0 ∨ 10 ≤ e.typ then s else loadEntry e (zeros e.len) s

/-- After phase 1: the loaded bank becomes active, the table versions are entered, and every table and store is locked
(R319, R338). The version of a table image is not in the container as the spec gives it. -/
def lockStores (s : State) : State :=
  let s1 := if s.flag MC_CV_CTL MC_CV_CTL_LOCK then s
    else (s.setFld MC_CV_STAT MC_CV_STAT_BANK (loadBank s)).setFld MC_CV_STAT MC_CV_STAT_SWAP_PEND 0
  s1.each (List.range 13) (fun s u =>
    doControlStoreLock .clove u (doDtLock .clove u
      (s.setFld (dtVerReg u) CV_DT_VER_BASE (s.free .unstated)).freeNext))

/-- The entries of a slot that has passed, in order, with the locks after phase 1. -/
def loadSlot (b : Nat) (key : List Byte) (s : State) : State :=
  let l := entries s b
  let go := fun (s : State) (e : Entry) => loadEntry e (payload s b key e).2 s
  let s1 := (l.filter (fun e => phaseOf e.typ ≤ 1)).foldl go s
  (l.filter (fun e => 1 < phaseOf e.typ)).foldl go (lockStores s1)

/-! ### The start (R370 to R376) -/

/-- Step 7: DDR5 mirrored, every tile powered. -/
def powerTiles (s : State) : State :=
  let s1 := (s.setFld PM_DDR_CFG PM_DDR_CFG_MIRROR 1).setReg PM_TILE_CTL 0
  (s1.setFld PM_STAT PM_STAT_TILE_ON 0xFFF).mapDev (fun d => { d with tilePend := [] })

/-- A slot tried by the boot ROM: a reason and entry with the state to go on from, or the running state. -/
inductive SlotTry where
  | failed (reason entry : Nat) (s : State)
  | started (s : State)

/-- Step 9: the measurement, the slot, and the jump. -/
def enterSlot (k b : Nat) (s : State) : State :=
  let h := sha384 (s.bytes b (manifestLen s b))
  let s1 := s.each (List.range 12) (fun s i => s.setReg (SEC_MEAS_k i) (BitVec.ofNat 32 (le h (4 * i) 4)))
  let s2 := s1.setFlds BT_STAT [(BT_STAT_SLOT, k), (BT_STAT_KIND, cKind s b)]
  let pc := match (entries s b).find? (fun e => e.start && e.typ = 5) with
    | some e => e.load
    | none => 0
  (s2.mapFw (fun f => { f with fwVer := cFwVer s b, fwBuild := cFwBuild s b, rollback := cRollback s b })).mapProc clove
    (fun c => { c with pc := pc })

/-- Steps 5 to 9 for slot `k`; `bad` lists the slots that the flash fails to read. -/
def trySlot (bad : List Nat) (k : Nat) (s : State) : SlotTry :=
  let b := slotBase k
  let r := firstOf [if bad.contains k then rRead else 0, manifestReason s b, rollbackReason s b]
  if r ≠ 0 then .failed r 0 s
  else match imageKey s (cKeyId s b) with
    | none => .failed rKeyBlob 0 s
    | some key =>
      let s1 := powerTiles (s.mapSec (fun x => { x with keys := tput [] x.keys 2 key }))
      let q := entriesReason s1 b key
      if q.1 ≠ 0 then
        .failed q.1 q.2 (((entries s1 b).take q.2).foldl (fun s e => zeroEntry e s) s1)
      else .started (enterSlot k b (loadSlot b key s1))

/-- The order in which the candidates are tried (R371, R372). -/
def slotOrder (s : State) : List Nat :=
  let c := (List.range 2).filter (fun k => headerOk s (slotBase k))
  let k0 := cKind s (slotBase 0)
  let k1 := cKind s (slotBase 1)
  let first :=
    if s.fld BT_STAT BT_STAT_ATTEMPT = 0 then
      (if c.length = 2 ∧ k0 ≠ k1 then (if k0 = 0 then 0 else 1)
       else if cSeq s (slotBase 0) < cSeq s (slotBase 1) then 1 else 0)
    else 1 - s.fld BT_STAT BT_STAT_LAST_SLOT
  if c.length = 2 then [first, 1 - first] else c

/-- The first slot of the list that starts; the reason of the last one tried. -/
def trySlots (bad : List Nat) : List Nat → Nat × Nat → State → SlotTry
  | [], r, s => .failed r.1 r.2 s
  | k :: t, _, s =>
    match trySlot bad k s with
    | .failed r e s1 => trySlots bad t (r, e) s1
    | .started s1 => .started s1

/-- MINIMAL_MODE_ENTRY (R379). -/
def enterMinimal (code detail entry : Nat) (s : State) : State :=
  let s1 := (s.setFlds BT_CAUSE [(BT_CAUSE_CODE, code), (BT_CAUSE_DETAIL, detail), (BT_CAUSE_ENTRY, entry)]).setFld
    BT_STAT BT_STAT_MINIMAL 1
  let s2 := (s1.setFld PM_TILE_CTL PM_TILE_CTL_GATE 0xFFF).setFld PM_DDR_CFG PM_DDR_CFG_MIRROR 0
  let s3 := s2.each ((List.range 12).filter (tileOn s2)) (fun s t => doTilePowerOff t (setTilePend t 1 s))
  ((s3.setFld NET_PTP_STAT NET_PTP_STAT_HOLDOVER 1).mapDev (fun d => { d with winRun := false }))

/-- At each start firmware 1.4 routes the doorbells to Clove and the replies to the host (R344). -/
def routeMailboxes (s : State) : State :=
  let route := fun (hi : Nat) (s : State) (n : Nat) =>
    (s.setReg (IC_SRC_s_MASK_LO n) 0).setReg (IC_SRC_s_MASK_HI n) (BitVec.ofNat 32 hi)
  ((List.range 18).map (531 + ·)).foldl (route 0x20000)
    ((((List.range 16).map (515 + ·)) ++ [589, 590]).foldl (route 0x10000) s)

/-- Clove runs the mask ROM and the start has not been decided. -/
def bootPending (s : State) : Bool :=
  s.phase = 2 && procSt s clove = 1 && s.ctl.mchk = 0 && decide ((s.proc clove).pc < 0xC400) && !s.dev.winRun &&
    !s.flag BT_STAT BT_STAT_RUN && !s.flag BT_STAT BT_STAT_MINIMAL

def bootLimit (s : State) : Nat := if s.otp.bootLimit = 0 then 3 else s.otp.bootLimit

/-- BOOT_START (R370): `sfdp` says whether SFDP can be read. -/
def doBootStart (sfdp : Bool) (bad : List Nat) (s : State) : State :=
  if !bootPending s then s
  else
    let s0 := s.setFlds BT_CAUSE [(BT_CAUSE_CODE, 0), (BT_CAUSE_DETAIL, 0), (BT_CAUSE_ENTRY, 0)]
    let att := s.fld BT_STAT BT_STAT_ATTEMPT
    if s.otp.lcs = 2 then enterMinimal 4 0 0 s0
    else if s.flag WD_RST_CAUSE WD_RST_CAUSE_MCHK then enterMinimal 3 0 0 s0
    else if bootLimit s ≤ att then enterMinimal 1 0 0 s0
    else
      let s1 := (s0.setFld BT_STAT BT_STAT_ATTEMPT (att + 1)).mapDev (fun d => { d with winRun := true })
      if !sfdp then enterMinimal 5 0 0 s1
      else match trySlots bad (slotOrder s) (rHeader, 0) s1 with
        | .failed r e s2 => enterMinimal 2 r e s2
        | .started s2 => routeMailboxes s2

/-! ### The notice (R381) -/

def noticePayload (s : State) : List Byte :=
  [1, 2, 0, 0] ++ leBytes 8 s.otp.serial ++ leBytes 4 (s.reg BT_CAUSE).toNat ++ leBytes 4 (s.reg MC_ROM_VER).toNat

/-- MINIMAL_NOTICE: a broadcast frame of ETH0. -/
def doMinimalNotice (s : State) : State :=
  if s.flag BT_STAT BT_STAT_MINIMAL then
    s.mapFw (fun f => { f with minimalNotices := f.minimalNotices + 1, sentRemote := [(0xFFFFFFFFFFFF, noticePayload s)] })
  else s

/-- Firmware serves commands: it runs, or the boot ROM is in minimal mode. -/
def fwUp (s : State) : Bool :=
  s.phase = 2 && s.ctl.mchk = 0 && (procSt s clove = 1 || procSt s clove = 2) &&
    (s.dev.winRun || s.flag BT_STAT BT_STAT_RUN || s.flag BT_STAT BT_STAT_MINIMAL)

end Sys2Proof.Machine
end

