-- ==== Sys2Proof/Machine/CoreBus.lean ====
section
/-! DEFINITION. Accesses of a signal core to the interlocked regions (R49, R51), and presentations of the
interrupt exchange to its targets (R289, R290).
Choices and readings: log entries 23 and 35. -/

namespace Sys2Proof.Machine
open R

/-! ### Interlocked accesses -/

/-- The least number of cycles an access to region `r` holds a core: its lower latency of R49 less the 4 of a load. -/
def heldLow : Region → Nat
  | .own | .tileRegs => 8
  | .rx | .tx => 2
  | _ => 0

/-- A held access has to wait while another core holds the common bank's lock (R127). -/
def heldWaits (s : State) (n : Nat) (h : HeldAccess) : Bool :=
  regionOf (n % 4) h.addr = .common && lockHeld s (n / 4)

/-- A held load: its bytes. -/
def heldLoad (n : Nat) (h : HeldAccess) (s : State) : List Byte × State :=
  let t := n / 4
  match regionOf (n % 4) h.addr with
  | .common => bankRead s t 8 (h.addr % 0x10000) h.size
  | .own | .tileRegs => let r := ctlRead (.core n) s (tileBase t + h.addr) h.size; (r.data, r.s)
  | _ => match halfAddr s t h.addr with
    | some m => (s.bytes m h.size, s)
    | none => (zeros h.size, s)

/-- A held store. -/
def heldStore (n : Nat) (h : HeldAccess) (s : State) : State :=
  let t := n / 4
  match regionOf (n % 4) h.addr with
  | .common => bankWrite s t 8 (h.addr % 0x10000) h.data
  | .own | .tileRegs => (ctlWrite (.core n) s (tileBase t + h.addr) h.data).2
  | _ => match halfAddr s t h.addr with
    | some m => s.setBytes m h.data
    | none => s

/-- INTERLOCKED_ACCESS_DONE (R51): the first held access of core `n` completes. The cycles it was held are a free number
from the region's least. -/
def doInterlockedAccessDone (n : Nat) (s : State) : State :=
  match (s.core n).hold with
  | [] => s
  | h :: t =>
    if heldWaits s n h || !coreOn s n then s
    else
      let cy := heldLow (regionOf (n % 4) h.addr) + s.free .unstated % 65536
      let s1 := (s.mapCore n (fun c => { c with hold := t, idle := c.idle + cy })).freeNext
      if h.write then heldStore n h s1
      else
        let r := heldLoad n h s1
        r.2.mapCore n (fun c => { c with
          flight := c.flight ++ loadFlights h.iss h.slot h.pc h.dest h.addr false (loadWords h.signed r.1) 0 })

/-! ### Presentations -/

/-- What a target does when a source is newly presented to it (R69, R70, R77, R290, R313, R344, R399). -/
def presented (k : Nat) (s : State) : State :=
  if k < 48 then corePresented k (if srcWake s (pres s k) then tileWake k s else s)
  else if k = 48 then cloveWake s
  else msixSend s

/-- INTERRUPT_PRESENT (R289): the winner for target `k` is presented. -/
def doInterruptPresent (k : Nat) (s : State) : State :=
  let p := arbitrate s k
  if p = pres s k then s else presented k (setPres s k p)

/-- EDGE_LATCH (R298, R401). -/
def doEdgeLatch (e : Nat) (rising : Bool) (s : State) : State := latchEdge e rising s

end Sys2Proof.Machine
end

