-- ==== Sys2Proof/Machine/CpuBus.lean ====
section
/-! DEFINITION. Window accesses of Clove and Sumac (R304, R336), the debug access port (R410 to R414), the SPI
target (R343), and the PCIe outbound windows' time limit (R447).
Choices and readings: log entries 42, 57 and 64. -/

namespace Sys2Proof.Machine
open R

/-! ### Window accesses -/

def procAgent (p : Nat) : Agent := if p = clove then .clove else .sumac (p / 8) (p % 8)

/-- The fabric does the access of processor `p`: the data, whether it received an error response, and the state. -/
def winAccess (p : Nat) (w : WinAcc) (s : State) : Nat × Bool × State :=
  if w.write then
    let r := busWrite (procAgent p) s w.addr (leBytes 4 w.data)
    (0, r.1, r.2)
  else
    let r := busRead (procAgent p) false s w.addr 4
    (leNat r.data, r.err || r.ecc, r.s)

/-- Clove's cycle count runs on while an access holds it; how long is not stated. -/
def heldCycles (p : Nat) (s : State) : State :=
  if p = clove then (s.mapProc p (fun c => { c with cyc := c.cyc + s.free .unstated % 32768 })).freeNext else s

/-- WINDOW_ACCESS_COMPLETE (R304). The processor may have been reset by its own write: `winDone` then finds no access. -/
def doWindowAccessComplete (p : Nat) (s : State) : State :=
  match (s.proc p).win with
  | none => s
  | some w =>
    if busHeld s w.addr then s
    else
      let r := winAccess p w (heldCycles p s)
      winDone p r.1 r.2.1 r.2.2

/-- An access given up at the limit: whether it still took effect is left open. -/
def winAbandoned (p : Nat) (w : WinAcc) (s : State) : State :=
  if s.free .unstated % 2 = 1 then (winAccess p w s.freeNext).2.2 else s.freeNext

/-- MICROWORD_WAIT_LIMIT (R336). An instruction of R308 waits in the microcode of firmware 1.4, whose limit leads to a
BUS trap. -/
def doMicrowordWaitLimit (p : Nat) (s : State) : State :=
  match (s.proc p).u with
  | some u =>
    if u.waiting then
      match (s.proc p).win with
      | some w =>
        let s1 := uLimit p s
        if (s1.proc p).win.isNone then winAbandoned p w s1 else s1
      | none => uLimit p s
    else s
  | none =>
    match (s.proc p).win with
    | some w => procTrap p 8 0 (s.proc p).pc (winAbandoned p w (s.mapProc p (fun c => { c with win := none })))
    | none => s

/-! ### The debug access port -/

/-- What the port may read and write without a session (R411). -/
def dapFreeRead (a : Nat) : Bool :=
  a = DBG_ID || a = DBG_AUTH_STAT || a = SEC_LCS || a = SEC_SERIAL_LO || a = SEC_SERIAL_HI || a = SEC_DBG ||
    (SEC_DBG_CHAL_k 0 ≤ a && a ≤ SEC_DBG_CHAL_k 7)

def dapFreeWrite (a : Nat) : Bool := (DBG_ID + 0x20000 ≤ a && a < IC_ID) || a = DBG_AUTH_CTL

/-- The permission that a write to the DBG block needs (R413): a bit of R383, or none for any session. -/
def dbgNeeds (o : Nat) (v : Word) : Option Nat :=
  if 0x100 ≤ o ∧ o < 0xD00 then some 0
  else if o = 0x20 then
    (let k := bits v.toNat 0 4
     if k = 0 then some 0 else if k < 3 then some 1 else none)
  else if 0x30 ≤ o ∧ o < 0x50 then some 1
  else if 0xE00 ≤ o ∧ o < 0x1100 then some 0
  else if 0x1100 ≤ o ∧ o < 0x1110 then some 1
  else if 0x2000 ≤ o ∧ o < 0x3000 then none
  else some 3

/-- R411 and R413 let the access through. -/
def dapMay (s : State) (a : Nat) (v : Word) (write nse : Bool) : Bool :=
  if s.otp.lcs = 0 then true
  else if write then
    dapFreeWrite a || (session s &&
      (if DBG_ID ≤ a ∧ a < IC_ID then
        (match dbgNeeds (a - DBG_ID) v with
         | some b => sessionHas s b
         | none => true)
       else sessionHas s 3))
  else dapFreeRead a || (session s && (nse || sessionHas s 3))

def dapEnd (st : Nat) (v : Nat) (s : State) : State := s.mapDev (fun d => { d with dapStatus := st, dapData := v })

/-- DAP_ACCESS (R410): the aligned word at `addr`; status 0 OK, 2 DENIED, 3 ERROR. -/
def doDapAccess (addr : Nat) (v : Word) (write nse : Bool) (s : State) : State :=
  let a := addr / 4 * 4
  if !dapMay s a v write nse then dapEnd 2 0 (s.setFld DBG_ERR DBG_ERR_DENIED 1)
  else if write then
    let r := busWrite .dap s a (leBytes 4 v.toNat)
    if 0x3000000000 ≤ a ∧ a < 0x3010000000 then dapEnd 2 0 (r.2.setFld DBG_ERR DBG_ERR_DENIED 1)
    else dapEnd (if r.1 then 3 else 0) 0 r.2
  else
    let r := busRead .dap nse s a 4
    dapEnd (if r.err then 3 else 0) (leNat r.data) r.s

/-! ### The SPI target -/

/-- A register word of the SPI space: its read. -/
def spiRegRead (a : Nat) (s : State) : Word × State :=
  if 0x4000 ≤ a ∧ a < 0x4040 then s.readByType (MB_i_STAT 16 + (a - 0x4000))
  else if a = 0x5000 then (s.reg (IC_T_k_THRESH 49), s)
  else if a = 0x5004 then readClaim 49 s
  else if a = 0x5008 then (s.reg (IC_T_k_COMPLETE 49), s)
  else if a = 0x500C then (targetStat s 49, s)
  else (0, s)

/-- A register word of the SPI space: its write. -/
def spiRegWrite (a : Nat) (v : Word) (s : State) : State :=
  if 0x4000 ≤ a ∧ a < 0x4040 then
    let i := 16 + (a - 0x4000) / 0x20
    let r := a % 0x20
    if r = 4 then writeDoorbell i v s
    else if r = 0 then s.writeByType (MB_i_STAT i) v
    else s
  else if a = 0x5000 then s.writeByType (IC_T_k_THRESH 49) v
  else if a = 0x5008 then writeComplete 49 v s
  else s

/-- The bytes of a write, from address `a`: a register takes a whole aligned word. -/
def spiWrite : Nat → Nat → List Byte → State → State
  | 0, _, _, s => s
  | _ + 1, _, [], s => s
  | f + 1, a, b :: t, s =>
    if a < 0x4000 then
      spiWrite f (a + 1) t (if a % 0x2000 < 0x1000 then hostRequest (16 + a / 0x2000) (a % 0x1000) [b] s else s)
    else if a % 4 = 0 ∧ 3 ≤ t.length then
      spiWrite f (a + 4) (t.drop 3) (spiRegWrite a (BitVec.ofNat 32 (leNat (b :: t.take 3))) s)
    else spiWrite f (a + 1) t s

/-- `n` bytes of a read from address `a`; `word` is the register word read at its first byte. -/
def spiRead : Nat → Nat → Option Word → State → List Byte × State
  | 0, _, _, s => ([], s)
  | n + 1, a, word, s =>
    if a < 0x4000 then
      let m := if a % 0x2000 < 0x1000 then mbRequest (16 + a / 0x2000) + a % 0x1000 else mbReply (16 + a / 0x2000) + a % 0x1000
      let r := spiRead n (a + 1) none s
      (s.byte m :: r.1, r.2)
    else
      let x := match word with
        | some w => (w, s)
        | none => spiRegRead (a / 4 * 4) s
      let r := spiRead n (a + 1) (if a % 4 = 3 then none else some x.1) x.2
      (BitVec.ofNat 8 (x.1.toNat / 2 ^ (8 * (a % 4))) :: r.1, r.2)

/-- SPI_TRANSACTION (R343): the bytes the host shifts in between the chip-select edges. -/
def doSpiTransaction (l : List Byte) (s : State) : State :=
  let out := fun (bs : List Byte) (s : State) => s.mapDev (fun d => { d with spiOut := bs })
  if domainOff s 26 then out [] s
  else
    match l with
    | op :: a2 :: a1 :: a0 :: t =>
      let a := leNat [a0, a1, a2]
      if op = 0x02 then out [] (spiWrite t.length a t s)
      else if op = 0x03 then let r := spiRead (t.length - 1) a none s; out r.1 r.2
      else out [] s
    | _ => out [] s

/-! ### PCIe outbound -/

/-- OUTBOUND_TIMEOUT (R447): the access of agent `ag` at window address `a` ends with an error response. A processor's
window access ends so; for the engines, whose accesses complete within a command, the error is logged and a DMA channel
that is at work there stops. -/
def doOutboundTimeout (ag : Agent) (a : Nat) (write : Bool) (s : State) : State :=
  if a < 0x4000000000 ∨ 0x5000000000 ≤ a then s
  else
    let s1 := logFabric (portNo ag) 3 write a s
    let p := match ag with
      | .clove => some clove
      | .sumac c p => some (8 * c + p)
      | _ => none
    match p with
    | some p =>
      (match (s.proc p).win with
       | some w => if w.addr / 2 ^ 32 = a / 2 ^ 32 then winDone p 0 true s1 else s
       | none => s)
    | none =>
      let e := match ag with
        | .tileDma t => some t
        | .trunk => some 12
        | _ => none
      match e with
      | some e =>
        (match (List.range (dmaChannels e)).find? (fun c =>
            (dmaState s e c = 2 || dmaState s e c = 5) &&
              (dSrc (s.dmaOf e c) / 2 ^ 32 = a / 2 ^ 32 || dDst (s.dmaOf e c) / 2 ^ 32 = a / 2 ^ 32)) with
         | some c => dmaError e c 2 s1
         | none => s)
      | none => if ag = .dap then dapEnd 3 0 s1 else s1

end Sys2Proof.Machine
end

