-- ==== Sys2Proof/Machine/DmaRun.lean ====
section
/-! DEFINITION. DMA engines at work (chapter 11): reach, bursts, descriptor fetches and completions.
Choices and readings: log entry 34. -/

namespace Sys2Proof.Machine
open R

/-! ### Reach (R261, R262) -/

/-- What an access of an engine finds: its bytes, an error code of R277 (0 for none), and whether a bank refused it. -/
structure DmaGot where
  data : List Byte
  code : Nat
  refused : Bool
  s : State

/-- The address lies in engine `e`'s own tile window. -/
def ownWindow (e a : Nat) : Bool := e < 12 && tileBase e ≤ a && a < tileBase (e + 1)

/-- The address is a queue manager doorbell's. -/
def isDoorbell (a : Nat) : Bool := 0x3000000000 ≤ a && a < 0x3010000000

/-- A shared bank of a tile window at the address, and the code under which engine `e` asks for it. -/
def dmaBank (e a : Nat) : Option (Nat × Nat × Nat) :=
  if 0x1000000000 ≤ a ∧ a < 0x100C000000 ∧ a % 0x1000000 < 0x400000 then
    some (tileOf a, a % 0x1000000 / 0x80000, bankCode (dmaAgent e) (tileOf a))
  else none

/-- A bank refuses the access (R119, R278). -/
def bankRefuses (s : State) (e a : Nat) : Bool :=
  match dmaBank e a with
  | some (t, b, c) => tileAnswers s t && !ownerServes s t b c
  | none => false

/-- The engine may make the access at all: not to the device control range, nor to other places of its own tile. -/
def dmaReach (e a n : Nat) (write : Bool) : Bool :=
  if 0x2000000000 ≤ a && a < 0x3000000000 then false
  else if ownWindow e a then
    let l := a % 0x1000000
    l + n ≤ 0x410000 || (0xF10000 ≤ l && l + n ≤ 0xF20000) || (!write && 0xF00000 ≤ l && l + n ≤ 0xF10000)
  else true

/-- One access of a read; `word` says that it is a 32-bit access of a fixed side. -/
def dmaRead1 (e : Nat) (word : Bool) (s : State) (a n : Nat) : DmaGot :=
  if !dmaReach e a n false then { data := zeros n, code := 2, refused := false, s := s }
  else if isDoorbell a && !word then
    { data := zeros n, code := 0, refused := false,
      s := (doorbellNow (dmaAgent e) (doorbellOp a) (doorbellQ a) 0 false s).2 }
  else
    let r := busRead (dmaAgent e) false s a n
    { data := r.data, code := if r.err then 2 else if r.ecc then 3 else 0, refused := bankRefuses s e a, s := r.s }

def dmaWrite1 (e : Nat) (word : Bool) (s : State) (a : Nat) (l : List Byte) : DmaGot :=
  if !dmaReach e a l.length true then { data := [], code := 2, refused := false, s := s }
  else if isDoorbell a && !word then
    { data := [], code := 0, refused := false,
      s := (doorbellNow (dmaAgent e) (doorbellOp a) (doorbellQ a) 0 false s).2 }
  else
    let r := busWrite (dmaAgent e) s a l
    { data := [], code := if r.1 then 2 else 0, refused := bankRefuses s e a, s := r.2 }

/-- The bytes from `a` before the next 4 KiB boundary (R268). -/
def toPage (a n : Nat) : Nat := min n (4096 - a % 4096)

/-- A run of `n` bytes: at most one 4 KiB boundary is crossed, by an element that lies across it. -/
def dmaReadRun (e : Nat) (word : Bool) (s : State) (a n : Nat) : DmaGot :=
  let k := toPage a n
  let r := dmaRead1 e word s a k
  if k = n ∨ r.code ≠ 0 then r
  else
    let q := dmaRead1 e word r.s (a + k) (n - k)
    { data := r.data ++ q.data, code := q.code, refused := r.refused || q.refused, s := q.s }

def dmaWriteRun (e : Nat) (word : Bool) (s : State) (a : Nat) (l : List Byte) : DmaGot :=
  let k := toPage a l.length
  let r := dmaWrite1 e word s a (l.take k)
  if k = l.length ∨ r.code ≠ 0 then r
  else
    let q := dmaWrite1 e word r.s (a + k) (l.drop k)
    { q with refused := r.refused || q.refused }

/-! ### Elements (R264 to R266) -/

/-- R265. -/
def dmaConvert (just sw dw v : Nat) : Nat :=
  if dw = sw then v
  else if just = 0 then (if sw < dw then v * 2 ^ (dw - sw) else v / 2 ^ (sw - dw))
  else if dw < sw then v % 2 ^ dw
  else if just = 1 then unsext dw (sext sw v)
  else v

/-- `l` cut into numbers of `k` bytes. -/
def chunks (k : Nat) : Nat → List Byte → List Nat
  | 0, _ => []
  | n + 1, l => leNat (l.take k) :: chunks k n (l.drop k)

/-- Entry `i` of the index table: an offset, or none where the table lies in no bank of the tile. -/
def dmaIndex (e : Nat) (d : DmaCh) (i : Nat) (s : State) : Option Nat × State :=
  let l := dIdx d + 4 * i
  if l + 4 ≤ 0x400000 then
    let r := ownedRead s e (l / 0x80000) 4 (l % 0x80000) 4
    (some (leNat r.1), r.2)
  else if 0x400000 ≤ l ∧ l + 4 ≤ 0x410000 then
    let r := bankRead s e 8 (l - 0x400000) 4
    (some (leNat r.1), r.2)
  else (none, s)

/-- Address of element `i` on a side, given its index offset. -/
def sideAddr (base mode w i off : Nat) : Nat :=
  if mode = 0 then base + dmaBytes w * i else if mode = 1 then base else base + off

/-- Elements of a side that one run takes from address `a` (R268). -/
def sideRun (e mode w a : Nat) : Nat :=
  let b := dmaBytes w
  if mode = 2 then 1
  else if mode = 1 then (if e < 12 then 128 else 256) / b
  else max 1 (min (if e < 12 then 128 else 256) (4096 - a % 4096) / b)

/-- Reads `k` elements of a side as their bytes. -/
def readSide (e mode w a : Nat) : Nat → State → DmaGot
  | 0, s => { data := [], code := 0, refused := false, s := s }
  | k + 1, s =>
    if mode = 1 then
      let r := dmaReadRun e (w = 3) s a (dmaBytes w)
      if r.code ≠ 0 then r
      else let q := readSide e mode w a k r.s
           { q with data := r.data ++ q.data, refused := r.refused || q.refused }
    else dmaReadRun e false s a ((k + 1) * dmaBytes w)

/-- Writes the elements `vs` of a side. -/
def writeSide (e mode w a : Nat) : List Nat → State → DmaGot
  | [], s => { data := [], code := 0, refused := false, s := s }
  | v :: vs, s =>
    if mode = 1 then
      let r := dmaWriteRun e (w = 3) s a (leBytes (dmaBytes w) v)
      if r.code ≠ 0 then r
      else let q := writeSide e mode w a vs r.s
           { q with refused := r.refused || q.refused }
    else dmaWriteRun e false s a ((v :: vs).flatMap (leBytes (dmaBytes w)))

/-! ### Bursts (R268, R269, R278, R279) -/

/-- The next elements of the active descriptor: source and destination address and how many one run takes. -/
structure DmaNext where
  src : Nat
  dst : Nat
  k : Nat
  /-- The index table cannot be read; an indexed element is not aligned. -/
  noTable : Bool
  bad : Bool
  s : State

def dmaNext (e c : Nat) (s : State) : DmaNext :=
  let d := s.dmaOf e c
  let i := d.moved
  let ix := if dSmode d = 2 ∨ dDmode d = 2 then dmaIndex e d i s else (some 0, s)
  let off := ix.1.getD 0
  let a := sideAddr (dSrc d) (dSmode d) (dSw d) i off
  let b := sideAddr (dDst d) (dDmode d) (dDw d) i off
  { src := a, dst := b,
    k := min (dCount d - i) (if dSmode d = 2 ∨ dDmode d = 2 then 1
      else min (sideRun e (dSmode d) (dSw d) a) (sideRun e (dDmode d) (dDw d) b)),
    noTable := ix.1.isNone, bad := misaligned (dSw d) a || misaligned (dDw d) b, s := ix.2 }

/-- Records a refusal, then counts the elements moved; the last one leads to DRAIN. -/
def dmaMoved (e c k : Nat) (refused : Bool) (s : State) : State :=
  let s1 := s.mapDma e c (fun d => { d with moved := d.moved + k, refused := d.refused || refused })
  let s2 := if refused then s1.setFld (dmaStat e c) DMA_t_CH_c_STAT_REFUSED 1 else s1
  let d := s2.dmaOf e c
  let s3 := s2.setReg (dmaRemain e c) (BitVec.ofNat 32 (dCount d - d.moved))
  if dCount d ≤ d.moved then setDmaState e c 5 s3 else s3

/-- Moves one run of at most `m` elements of channel `c`; the answer is how many were moved, 0 at an error. -/
def dmaRun (e c m : Nat) (s : State) : Nat × State :=
  let d := s.dmaOf e c
  let x := dmaNext e c s
  let k := min x.k m
  if x.noTable then (0, dmaError e c 2 x.s)
  else if x.bad then (0, dmaError e c 1 x.s)
  else
    let r := readSide e (dSmode d) (dSw d) x.src k x.s
    if r.code ≠ 0 then (0, dmaError e c r.code r.s)
    else
      let vs := (chunks (dmaBytes (dSw d)) k r.data).map (dmaConvert (dJust d) (dmaBits (dSw d)) (dmaBits (dDw d)))
      let w := writeSide e (dDmode d) (dDw d) x.dst vs r.s
      if w.code ≠ 0 then (0, dmaError e c w.code w.s)
      else (k, dmaMoved e c k (r.refused || w.refused) w.s)

/-- A paced burst of `m` elements, run by run; each run takes at least one. -/
def dmaPaced (e c : Nat) : Nat → Nat → State → State
  | 0, _, s => s
  | f + 1, m, s =>
    if m = 0 then s
    else let r := dmaRun e c m s
         if r.1 = 0 then r.2 else dmaPaced e c f (m - r.1) r.2

def dmaReq (s : State) (e c : Nat) : Nat := if e = 12 then s.fld (dmaCtl e c) TDMA_CH_c_CTL_REQ else 0
def dmaRburst (s : State) (e c : Nat) : Nat :=
  let b := s.fld (dmaCtl e c) DMA_t_CH_c_CTL_RBURST
  if b = 0 then 16 else b

/-- A locked common bank holds up the next access of the channel (R127). -/
def dmaHeld (s : State) (e c : Nat) : Bool :=
  let x := dmaNext e c s
  busHeld s x.src || busHeld s x.dst

/-- The channel is ready to burst; `lines` are the request lines asserted. -/
def dmaReady (s : State) (e : Nat) (lines : List Nat) (c : Nat) : Bool :=
  let d := s.dmaOf e c
  dmaState s e c = 2 && d.moved < dCount d && (e = 12 || tileAnswers s e) &&
    (dmaReq s e c = 0 || lines.contains (dmaReq s e c)) && !dmaHeld s e c

/-- Effective priority: PRIO, or 8 for a boosted channel. -/
def dmaRank (s : State) (e c : Nat) : Nat :=
  if 64 ≤ (s.dmaOf e c).loss then 8 else s.fld (dmaCtl e c) DMA_t_CH_c_CTL_PRIO

/-- Of the channels at a rank, the first after the last winner there, in turn. -/
def dmaPick (last : Nat) (l : List Nat) : Option Nat :=
  match l.find? (fun c => last ≤ c) with
  | some c => some c
  | none => l.head?

/-- The winner of an arbitration among `l`. -/
def dmaWinner (s : State) (e : Nat) (l : List Nat) : Option Nat :=
  let top := (l.map (dmaRank s e)).foldl max 0
  dmaPick (tget 0 s.dmaLast (16 * e + top)) (l.filter (fun c => dmaRank s e c = top))

/-- DMA_BURST (R279): engine `e` grants one burst slot. -/
def doDmaBurst (e : Nat) (lines : List Nat) (s : State) : State :=
  let l := (List.range (dmaChannels e)).filter (dmaReady s e lines)
  match dmaWinner s e l with
  | none => s
  | some c =>
    let s1 := { s with dmaLast := tput 0 s.dmaLast (16 * e + dmaRank s e c) (c + 1) }
    let s2 := s1.each l (fun s j => s.mapDma e j (fun d => { d with loss := if j = c then 0 else d.loss + 1 }))
    if dmaReq s e c = 0 then (dmaRun e c (dCount (s.dmaOf e c)) s2).2
    else
      let m := min (dCount (s.dmaOf e c) - (s.dmaOf e c).moved) (dmaRburst s e c)
      dmaPaced e c m m s2

/-! ### Completion (R271, R273, R275) -/

/-- Step 4 and 5 of R273. -/
def dmaNoLink (e c : Nat) (s : State) : State :=
  if s.flag (dmaCtl e c) DMA_t_CH_c_CTL_ARM then copyShadow e c s else setDmaState e c 4 s

/-- Steps 3 to 5 for a descriptor with EOC = 1. -/
def dmaAtEoc (e c : Nat) (s : State) : State :=
  if curMem s e c && s.flag (dmaStat e c) DMA_t_CH_c_STAT_APP_PEND then
    startFetch e c (curAddr s e c) true (s.setFld (dmaStat e c) DMA_t_CH_c_STAT_APP_PEND 0)
  else dmaNoLink e c s

/-- DESCRIPTOR_COMPLETE: every write of channel `c` has returned. -/
def doDescriptorComplete (e c : Nat) (s : State) : State :=
  if dmaState s e c ≠ 5 then s
  else
    let d := s.dmaOf e c
    let s1 := s.setFld (dmaStat e c) DMA_t_CH_c_STAT_DONE_CNT (s.fld (dmaStat e c) DMA_t_CH_c_STAT_DONE_CNT + 1)
    let s2 := if dInt d then s1.setFld (dmaStat e c) DMA_t_CH_c_STAT_DONE 1 else s1
    let s3 := dmaWriteBack e c (1 + 4 * b2n d.refused) s2
    if d.stop then dmaStopNow e c (if dEoc d then none else some (dLink d)) s3
    else if !dEoc d then startFetch e c (dLink d) false s3
    else dmaAtEoc e c s3

/-! ### Fetches (R267, R273) -/

/-- The words re-read of a completed descriptor, from offset 0x14: an appended descriptor runs. -/
def dmaReread (e c : Nat) (l : List Byte) (s : State) : State :=
  let w5 := leNat (l.take 4)
  let link := leNat ((l.drop 4).take 4) + bits (leNat ((l.drop 8).take 4)) 0 8 * 2 ^ 32
  if bits w5 24 1 = 1 then dmaAtEoc e c s
  else if link % 32 ≠ 0 then dmaFetchError e c 1 s
  else startFetch e c link false s

/-- DMA_DESCRIPTOR_FETCH_DONE. -/
def doDmaDescriptorFetchDone (e c : Nat) (s : State) : State :=
  let d := s.dmaOf e c
  if dmaState s e c ≠ 1 ∨ busHeld s d.fetch then s
  else
    let r := if d.reread then dmaReadRun e false s (d.fetch + 0x14) 12 else dmaReadRun e false s d.fetch 32
    let s1 := if r.refused then r.s.setFld (dmaStat e c) DMA_t_CH_c_STAT_REFUSED 1 else r.s
    if r.code ≠ 0 then dmaFetchError e c r.code s1
    else if d.reread then dmaReread e c r.data s1
    else enterActive e c (chunks 4 8 r.data) (some d.fetch) s1

/-! ### Commands of the control register -/

/-- A write of one bit of a channel's control register, with its stored fields as they are. -/
def ctlBit (e c i : Nat) (s : State) : State :=
  writeDmaCtl e c (BitVec.ofNat 32 ((s.reg (dmaCtl e c)).toNat / 32 * 32 + 2 ^ i)) s

/-- A command on channel `c` of engine `e`, if the engine has that channel. -/
def onChannel (e c : Nat) (f : Nat → Nat → State → State) (s : State) : State :=
  if c < dmaChannels e then f e c s else s

def doArmRow (e c : Nat) (s : State) : State := ctlBit e c 0 s
def doGoRow (e c : Nat) (s : State) : State := ctlBit e c 1 s
def doStopRow (e c : Nat) (s : State) : State := ctlBit e c 2 s
def doResetRow (e c : Nat) (s : State) : State := ctlBit e c 3 s
def doAppendRow (e c : Nat) (s : State) : State := ctlBit e c 4 s

end Sys2Proof.Machine
end

