-- ==== Sys2Proof/Machine/Molalrik.lean ====
section
/-! DEFINITION. Molalrik messages (R347 to R361): requests, the checks of R350, bulk and chunked data, replies to mailboxes
and remote devices. The commands themselves are in MolControl.lean and MolStore.lean.
Choices and readings: log entries 44 and 45. -/

namespace Sys2Proof.Machine
open R

/-! ### Requests and results -/

/-- A request: its sender (a pair, or 256 + a MAC address), the key it came under if it is remote, its header fields and the
payload that is there. -/
structure Req where
  who : Nat
  key : Nat
  code : Nat
  seq : Nat
  len : Nat
  flags : Nat
  payload : List Byte
  deriving DecidableEq, Repr

def Req.remote (r : Req) : Bool := decide (256 ≤ r.who)

/-- Payload bytes of a message from this sender (R347). -/
def Req.room (r : Req) : Nat := if r.remote then 1452 else 4080

/-- A payload field of `n` bytes at offset `o`. -/
def Req.f (r : Req) (o n : Nat) : Nat := le r.payload o n

/-- What a command comes to: its reply, or a job that gives the reply later. -/
structure CmdRes where
  status : Nat
  detail : Nat
  data : List Byte
  job : Option JobKind
  s : State

def okRes (data : List Byte) (s : State) : CmdRes := { status := 0, detail := 0, data := data, job := none, s := s }
def refuse (status detail : Nat) (s : State) : CmdRes := { status := status, detail := detail, data := [], job := none, s := s }
def badParam (o : Nat) (s : State) : CmdRes := refuse 3 o s
def waitRes (j : JobKind) (s : State) : CmdRes := { status := 0, detail := 0, data := [], job := some j, s := s }

/-- Status codes of R349. -/
def stBadCode : Nat := 1
def stBadLength : Nat := 2
def stBadParam : Nat := 3
def stBusy : Nat := 4
def stDenied : Nat := 5
def stNotFound : Nat := 6
def stSignature : Nat := 7
def stRollback : Nat := 8
def stStore : Nat := 9
def stNoSpace : Nat := 10
def stMode : Nat := 11
def stHw : Nat := 12
def stAuth : Nat := 13

/-- The first field out of range, given as offset and whether it is wrong; else the command goes on. -/
def checked (l : List (Nat × Bool)) (s : State) (r : CmdRes) : CmdRes :=
  match l.find? (·.2) with
  | some e => badParam e.1 s
  | none => r

/-- How a command's payload is laid out (R359): fields only, data in, or fields and data out. -/
inductive CmdKind where
  | plain
  | dataIn
  | dataOut
  deriving DecidableEq, Repr

/-- A command of R359: the length of its fields is right; it is refused with DENIED beyond the rule of groups; and what it
does. `run` finds the fields at offset 0 of the payload; data in follows as the payload of a dataIn command. -/
structure Cmd where
  code : Nat
  isLocal : Bool
  inMinimal : Bool
  kind : CmdKind
  lenOk : Req → Bool
  denied : Req → State → Bool
  run : Req → State → CmdRes

def fieldLen (n : Nat) (r : Req) : Bool := decide (r.len = n)
def never (_ : Req) (_ : State) : Bool := false

/-- A command with `n` bytes of fields and no rule of its own beside its checks. -/
def plainCmd (code n : Nat) (run : Req → State → CmdRes) : Cmd :=
  { code := code, isLocal := false, inMinimal := false, kind := .plain, lenOk := fieldLen n, denied := never, run := run }

def minimal (s : State) : Bool := s.flag BT_STAT BT_STAT_MINIMAL

/-! ### Bulk and chunked data (R354, R355) -/

def flagBulk (r : Req) : Bool := decide (bits r.flags 1 1 = 1) && decide (r.who < 16)
def flagChunk (r : Req) : Bool := decide (bits r.flags 2 1 = 1)

/-- Bytes that only the host knows. -/
def hostBytes (n : Nat) (s : State) : List Byte := (List.range n).map (fun i => (Config.freeValue .unstated (s.freeCtr + i)).setWidth 8)

/-- The fault of a bulk descriptor: misaligned, across a 4 GiB boundary, or a last word other than 0. -/
def bulkBad (r : Req) : Option Nat :=
  if r.f 0 8 % 64 ≠ 0 then some 0
  else if r.f 0 8 % 2 ^ 32 + r.f 8 4 > 2 ^ 32 then some 8
  else if r.f 12 4 ≠ 0 then some 12
  else none

/-- Firmware opens outbound window 0 on the buffer. -/
def openOutbound (addr : Nat) (s : State) : State :=
  (s.setReg (MB_OB_w_BASE 0) (BitVec.ofNat 32 (addr / 2 ^ 32))).setFld (MB_OB_w_CTL 0) MB_OB_w_CTL_EN 1

def partialOf (s : State) (who : Nat) : Partial := tget Partial.none s.fw.partials who
def setPartial (who : Nat) (p : Partial) (s : State) : State :=
  s.mapFw (fun f => { f with partials := tput Partial.none f.partials who p })

/-- A chunk of data to the device: the last one executes the command. -/
def chunkIn (c : Cmd) (r : Req) (s : State) : CmdRes :=
  let off := r.f 0 4
  let total := r.f 4 4
  let d := r.payload.drop 8
  let p := if off = 0 then { code := r.code, total := total, data := [] } else partialOf s r.who
  let clean := setPartial r.who Partial.none s
  let all := p.data ++ d
  if r.len < 8 then refuse stBadLength 0 s
  else if 0x4000000 < total then badParam 4 clean
  else if p.code ≠ r.code ∨ p.data.length ≠ off then badParam 0 clean
  else if p.total ≠ total ∨ total < all.length then badParam 4 clean
  else if all.length = total then c.run { r with payload := all, len := all.length } clean
  else okRes [] (setPartial r.who { p with data := all } s)

/-- Data in as one buffer of the host. -/
def bulkIn (c : Cmd) (r : Req) (s : State) : CmdRes :=
  let n := r.f 8 4
  if r.len ≠ 16 then refuse stBadLength 0 s
  else match bulkBad r with
    | some o => badParam o s
    | none =>
      let s1 := openOutbound (r.f 0 8) s
      c.run { r with payload := hostBytes n s1, len := n } { s1 with freeCtr := s1.freeCtr + n }

/-- Data out to a buffer of the host: the reply gives the bytes written. -/
def bulkOut (c : Cmd) (r : Req) (s : State) : CmdRes :=
  let q := { r with payload := r.payload.drop 16, len := r.len - 16 }
  if r.len < 16 ∨ ¬ c.lenOk q then refuse stBadLength 0 s
  else match bulkBad r with
    | some o => badParam o s
    | none =>
      let x := c.run q s
      if x.status ≠ 0 then x
      else if r.f 8 4 < x.data.length then badParam 8 s
      else okRes (leBytes 4 x.data.length) (openOutbound (r.f 0 8) x.s)

/-- A piece of data out. -/
def chunkOut (c : Cmd) (r : Req) (s : State) : CmdRes :=
  let q := { r with payload := r.payload.drop 8, len := r.len - 8 }
  let off := r.f 0 4
  if r.len < 8 ∨ ¬ c.lenOk q then refuse stBadLength 0 s
  else
    let x := c.run q s
    if x.status ≠ 0 then x
    else if x.data.length < off then badParam 0 s
    else okRes (leBytes 4 off ++ leBytes 4 x.data.length ++
      (x.data.drop off).take (min (r.f 4 4) (if r.remote then 1444 else 4072))) x.s

/-- The command with its payload brought into place. A data command without a flag has a payload of no form it takes. -/
def runCmd (c : Cmd) (r : Req) (s : State) : CmdRes :=
  match c.kind with
  | .plain => if r.len ≤ r.room ∧ c.lenOk r then c.run r s else refuse stBadLength 0 s
  | .dataIn => if flagBulk r then bulkIn c r s else if flagChunk r then chunkIn c r s else refuse stBadLength 0 s
  | .dataOut => if flagBulk r then bulkOut c r s else if flagChunk r then chunkOut c r s else refuse stBadLength 0 s

/-! ### Permissions (R356, R357) -/

/-- Group `g` is enabled for the sender. -/
def groupOn (r : Req) (s : State) : Bool :=
  r.remote || r.code = 1 || r.code = 2 || decide (bits (s.fld (MB_i_PERM r.who) MB_i_PERM_GROUPS) (r.code / 4096) 1 = 1)

/-- The checks of R350 in order, then the command. -/
def execute (c : Cmd) (r : Req) (s : State) : CmdRes :=
  if !groupOn r s || (r.remote && c.isLocal) || c.denied r s then refuse stDenied 0 s
  else if minimal s && !c.inMinimal then refuse stMode 0 s
  else
    let x := runCmd c r s
    if r.room < x.data.length then badParam 0 s else x

/-! ### Replies -/

/-- The message of a reply (R347). -/
def message (code seq : Nat) (replay : Bool) (status detail : Nat) (data : List Byte) : List Byte :=
  leBytes 2 code ++ leBytes 2 seq ++ leBytes 2 data.length ++ leBytes 2 (1 + 8 * b2n replay) ++ leBytes 2 status ++
    leBytes 2 detail ++ leBytes 4 0 ++ data

/-- A reply to a pair: written and posted, or held until the host has acknowledged the last one (R345). -/
def mailReply (i : Nat) (m : List Byte) (s : State) : State :=
  if mbFlag s i MB_i_STAT_RPL_VALID then s.mapFw (fun f => { f with waitPost := tput [] f.waitPost i m })
  else mbPost i (cloveReply i 0 m s)

/-- A reply to a remote device under key `key` (R360): its own counter, encrypted, class 7. -/
def remoteReply (key mac : Nat) (m : List Byte) (s : State) : State :=
  let ctr := (s.fw.ownCtr + 1) % 2 ^ 64
  let nonce := leBytes 4 (ownMac s) ++ leBytes 8 ctr
  let head := [1, 1] ++ leBytes 2 key ++ nonce
  let k := tget [] s.fw.keys key
  let ct := gcmCrypt k nonce m
  let p := head ++ ct ++ gcmTag k nonce head ct
  originate (28 + p.length) mac 7 (.other 0x88B5) (s.mapFw (fun f => { f with ownCtr := ctr, sentRemote := [(mac, p)] }))

def sendReply (who key : Nat) (m : List Byte) (s : State) : State :=
  if who < 256 then mailReply who m s else remoteReply key (who - 256) m s

/-- A command's reply. One that was executed is kept (R351). -/
def answer (who key code seq : Nat) (x : CmdRes) : State :=
  let s1 := if x.status = 0 then
      x.s.mapFw (fun f => { f with last := tput (0, 0, []) f.last who (code, seq, message code seq true 0 x.detail x.data) })
    else x.s
  sendReply who key (message code seq false x.status x.detail x.data) s1

/-- Firmware has the request: a repeated one is answered again, any other one is checked and executed. -/
def serve (c : Cmd) (r : Req) (s : State) : State :=
  let old := tget (0, 0, []) s.fw.last r.who
  if old.2.2 ≠ [] ∧ old.1 = r.code ∧ old.2.1 = r.seq then sendReply r.who r.key old.2.2 s
  else
    let x := execute c r s
    match x.job with
    | none => answer r.who r.key r.code r.seq x
    | some .reset =>
      let s1 := answer r.who r.key r.code r.seq x
      if r.who < 256 ∧ tget [] s1.fw.waitPost r.who ≠ [] then
        s1.mapFw (fun f => { f with jobs := f.jobs ++ [⟨r.who, r.key, r.code, r.seq, .reset⟩] })
      else (busWrite .clove s1 PM_RST_CTL [1, 0, 0, 0]).2
    | some j => x.s.mapFw (fun f => { f with jobs := f.jobs ++ [⟨r.who, r.key, r.code, r.seq, j⟩] })

/-! ### Mailbox requests -/

/-- The request in the mailbox of pair `i`. -/
def mailRequest (s : State) (i : Nat) : Req :=
  let a := mbRequest i
  let n := s.num (a + 4) 2
  { who := i, key := 0, code := s.num a 2, seq := s.num (a + 2) 2, len := n, flags := s.num (a + 6) 2,
    payload := s.bytes (a + 16) (min n 4080) }

/-- Pair `i` holds a request that firmware serves: rung, taken or not, and not yet executed. -/
def mailReady (s : State) (i : Nat) : Bool :=
  fwUp s && mbFlag s i MB_i_STAT_REQ_BUSY && !s.fw.jobs.any (fun j => j.who = i) && decide (tget [] s.fw.waitPost i = []) &&
    (!minimal s || i = 0 || i = 16)

/-- TAKE (R345), by firmware. -/
def take (i : Nat) (s : State) : State := mbSet i MB_i_STAT_REQ_PEND false s

end Sys2Proof.Machine
end

