-- ==== Sys2Proof/Machine/MolControl.lean ====
section
/-! DEFINITION. Molalrik commands (R358, R359) of the groups System, Routing, Zones, Streams, Verification, Intelligibility
and Diagnostics.
Choices and readings: log entries 46 and 50. -/

namespace Sys2Proof.Machine
open R

/-! ### Firmware's own accesses -/

def fwWrite (a : Nat) (v : Word) (s : State) : State := (busWrite .clove s a (leBytes 4 v.toNat)).2

def fwRead (a : Nat) (s : State) : Word × State :=
  let r := busRead .clove false s a 4
  (BitVec.ofNat 32 (leNat r.data), r.s)

/-- Words written at rising addresses. -/
def fwWriteWords (a : Nat) : List Word → State → State
  | [], s => s
  | w :: t, s => fwWriteWords (a + 4) t (fwWrite a w s)

/-- Words `o`, `o + 4` and on of a payload. -/
def Req.words (r : Req) (o n : Nat) : List Word := (List.range n).map (fun i => BitVec.ofNat 32 (r.f (o + 4 * i) 4))

def regBytes (s : State) (a : Nat) : List Byte := leBytes 4 (s.reg a).toNat

/-! ### System -/

/-- The 28 bytes of R358. The boot ROM's answer in minimal mode has no stated version. -/
def versionBytes (s : State) : List Byte :=
  (if minimal s then leBytes 8 (s.free .unstated) else [1, 0, 4, 0] ++ leBytes 4 s.fw.fwBuild) ++ regBytes s MC_ROM_VER ++
    leBytes 4 s.fw.patchVer ++ regBytes s CV_DT_VER ++ regBytes s (SU_c_DT_VER 0) ++ [BitVec.ofNat 8 (b2n (minimal s)), 1, 0, 0]

def cmdGetVersion : Cmd :=
  { plainCmd 0x0001 0 (fun _ s => okRes (versionBytes s) (if minimal s then s.freeNext else s)) with inMinimal := true }

/-- ROLE as GET_STATUS and HUB_CFG give it, and the hub epoch. -/
def roleCode (s : State) : Nat := if s.net.hubRole = 2 then 1 else if s.net.hubRole = 1 then 2 else 0
def epochNow (s : State) : Nat := if s.net.hubRole = 2 then s.net.hubEpoch else s.net.maxEpoch

def statusBytes (s : State) : List Byte :=
  leBytes 1 (b2n (minimal s)) ++ leBytes 1 (roleCode s) ++ [0, 0] ++ regBytes s BT_CAUSE ++ leBytes 8 s.frame ++
    leBytes 4 (epochNow s)

def cmdGetStatus : Cmd := { plainCmd 0x0002 0 (fun _ s => okRes (statusBytes s) s) with inMinimal := true }

def runSetMbPerm (r : Req) (s : State) : CmdRes :=
  if r.f 0 1 = 0 ∨ r.f 0 1 = 16 then refuse stDenied 0 s
  else checked [(0, decide (17 < r.f 0 1)), (2, decide (1024 ≤ r.f 2 2))] s
    (okRes [] (fwWrite (MB_i_PERM (r.f 0 1)) (BitVec.ofNat 32 (r.f 2 2)) s))

def cmdSetMbPerm : Cmd :=
  { plainCmd 0x0003 4 runSetMbPerm with isLocal := true, denied := fun r _ => r.who ≠ 0 && r.who ≠ 16 }

/-- COMMIT_RB, which firmware writes after a start that the site has confirmed (R377): how is not stated. -/
def commitConfirmed (s : State) : State :=
  let s1 := s.freeNext
  if s.free .unstated % 2 = 1 then fwWrite BT_CTL 2 s1 else s1

/-- The job of the post: the reset follows it. -/
def runReset (r : Req) (s : State) : CmdRes :=
  checked [(0, decide (r.f 0 1 ≠ 0))] s { okRes [] (commitConfirmed s) with job := some .reset }

def cmdReset : Cmd := { plainCmd 0x0004 1 runReset with inMinimal := true }

/-- A holdover channel is in a play: one armed by firmware, or one that a substitution entry names. -/
def holdoverPlaying (s : State) : Bool :=
  (s.fw.armed.filter (fun e => e.1 % 2 = 0)).any (fun e => s.flag (MS_PL_c_STAT e.2) MS_PL_c_STAT_PLAYING) ||
    (s.listed (MS_HS_k_CFG 0) 8 256).any (fun k =>
      s.flag (MS_HS_k_CFG k) MS_HS_k_CFG_EN && s.flag (MS_PL_c_STAT (s.fld (MS_HS_k_CFG k) MS_HS_k_CFG_PCH)) MS_PL_c_STAT_PLAYING)

/-- SX_CTL with RUN as `run`. -/
def sxCtlWord (s : State) (run : Nat) : Word := BitVec.ofNat 32 (setBits (s.reg SX_CTL).toNat 0 1 run)

/-- SX_RESTART: the stop of R46; the rest follows at the block ticks. -/
def runSxRestart (r : Req) (s : State) : CmdRes :=
  checked [(0, decide (1 < r.f 0 1)), (1, decide (3 < r.f 1 1)), (2, decide (1 < r.f 2 1))] s
    (if r.f 2 1 = 0 ∧ holdoverPlaying s then refuse stBusy 0 s
     else waitRes (.sxStop (r.f 0 1 + 2 * r.f 1 1)) (fwWrite SX_CTL (sxCtlWord s 0) s))

def cmdSxRestart : Cmd := plainCmd 0x0005 3 runSxRestart

/-- A device that is no longer eligible gives up its role. -/
def runHubCfg (r : Req) (s : State) : CmdRes :=
  checked [(0, decide (1 < r.f 0 1))] s
    (let s1 := s.mapNet (fun n => { n with
        hubEligible := r.f 0 1 = 1, hubPrio := r.f 1 1, hubRole := if r.f 0 1 = 1 then n.hubRole else 0 })
     okRes (leBytes 1 (roleCode s1) ++ leBytes 4 (epochNow s1)) s1)

def cmdHubCfg : Cmd := plainCmd 0x0006 2 runHubCfg

/-! ### Routing -/

/-- `n` words at byte offset `o` lie in a shadow region; the answer is the distance to the active copy (R25). -/
def shadowRegion (o n : Nat) : Option Nat :=
  if o % 4 ≠ 0 then none
  else if 0x10000 ≤ o ∧ o + 4 * n ≤ 0x18000 then some 0x8000
  else if 0x20000 ≤ o ∧ o + 4 * n ≤ 0x3A000 then some 0x20000
  else none

def copying (s : State) : Bool := s.flag SX_MAP_STAT SX_MAP_STAT_COPYING

def runMapWrite (r : Req) (s : State) : CmdRes :=
  let n := r.f 4 2
  checked [(4, decide (n = 0 ∨ 1018 < n)), (0, (shadowRegion (r.f 0 4) n).isNone)] s
    (if copying s then refuse stBusy 0 s else okRes [] (fwWriteWords (SX_ID + r.f 0 4) (r.words 8 n) s))

def cmdMapWrite : Cmd := { plainCmd 0x1001 8 runMapWrite with lenOk := fun r => 8 ≤ r.len && r.len = 8 + 4 * r.f 4 2 }

/-- MAP_SWAP clears MAP_RANGE, so that its reply speaks of this swap. -/
def runMapSwap (_ : Req) (s : State) : CmdRes := waitRes .mapSwap (fwWrite SX_MAP_CTL 1 (fwWrite SX_ERR 1 s))

def cmdMapSwap : Cmd := plainCmd 0x1002 0 runMapSwap

def runMapRead (r : Req) (s : State) : CmdRes :=
  let n := r.f 4 2
  checked [(4, decide (n = 0 ∨ 1018 < n)), (0, (shadowRegion (r.f 0 4) n).isNone), (6, decide (1 < r.f 6 1))] s
    (let o := r.f 0 4 + (if r.f 6 1 = 1 then (shadowRegion (r.f 0 4) n).getD 0 else 0)
     okRes ((List.range n).flatMap (fun i => leBytes 4 (readMap (o + 4 * i) s).toNat)) s)

def cmdMapRead : Cmd := plainCmd 0x1003 8 runMapRead

def runTpCfg (r : Req) (s : State) : CmdRes :=
  checked [(0, decide (11 < r.f 0 1)), (2, countBad s (r.f 2 2)), (4, countBad s (r.f 4 2))] s
    (if copying s then refuse stBusy 0 s
     else okRes [] (fwWrite (SX_TP_t_CFG (r.f 0 1)) (BitVec.ofNat 32 (r.f 2 2 + 65536 * r.f 4 2)) s))

def cmdTpCfg : Cmd := plainCmd 0x1004 6 runTpCfg

def runPlaneSel (r : Req) (s : State) : CmdRes :=
  checked [(0, decide (1 < r.f 0 1)), (1, decide (1 < r.f 1 1)), (2, decide (1 < r.f 2 1))] s
    (let s1 := fwWrite SX_PLANE_CTL (BitVec.ofNat 32 (r.f 0 1 + 2 * r.f 1 1 + 4 * r.f 2 1)) s
     okRes (regBytes s1 SX_PLANE_STAT) s1)

def cmdPlaneSel : Cmd := plainCmd 0x1005 3 runPlaneSel

def runSpareCfg (r : Req) (s : State) : CmdRes :=
  checked [(0, decide (11 < r.f 0 1)), (1, decide (1 < r.f 1 1))] s
    (okRes [] (fwWrite SX_CTL (BitVec.ofNat 32 (setBits (s.reg SX_CTL).toNat 4 5 (r.f 0 1 + 16 * r.f 1 1))) s))

def cmdSpareCfg : Cmd := plainCmd 0x1006 2 runSpareCfg

/-! ### Zones -/

def Zone.none : Zone := { drvs := [], gain := 0, ramp := 0, mute := false }

def zoneOf (s : State) (z : Nat) : Option Zone := (s.fw.zones.find? (fun e => e.1 = z)).map (·.2)

/-- The table with zone `z` set; a zone without drive channels stays known. -/
def setZone (z : Nat) (x : Zone) (s : State) : State :=
  s.mapFw (fun f => { f with zones := (f.zones.filter (fun e => e.1 < z)) ++ (z, x) :: f.zones.filter (fun e => z < e.1) })

def zoneDrvs (r : Req) : List Nat := (List.range (r.f 2 1)).map (fun i => r.f (3 + i) 1)

def runZoneSet (r : Req) (s : State) : CmdRes :=
  checked ([(0, decide (16383 < r.f 0 2)), (2, decide (64 < r.f 2 1))] ++
      (List.range (r.f 2 1)).map (fun i => (3 + i, decide (63 < r.f (3 + i) 1)))) s
    (okRes [] (setZone (r.f 0 2) { (zoneOf s (r.f 0 2)).getD Zone.none with drvs := zoneDrvs r } s))

def cmdZoneSet : Cmd := { plainCmd 0x2001 3 runZoneSet with lenOk := fun r => 3 ≤ r.len && r.len = 3 + r.f 2 1 }

def withZone (r : Req) (s : State) (f : Zone → CmdRes) : CmdRes :=
  match zoneOf s (r.f 0 2) with
  | some z => f z
  | none => refuse stNotFound 0 s

def runZoneGet (r : Req) (s : State) : CmdRes :=
  withZone r s (fun z => okRes (leBytes 2 (r.f 0 2) ++ leBytes 1 z.drvs.length ++ z.drvs.flatMap (leBytes 1)) s)

def cmdZoneGet : Cmd := plainCmd 0x2002 2 runZoneGet

def runZoneGain (r : Req) (s : State) : CmdRes :=
  withZone r s (fun z => okRes [] (setZone (r.f 0 2) { z with gain := sext 16 (r.f 2 2), ramp := r.f 4 2 } s))

def cmdZoneGain : Cmd := plainCmd 0x2003 6 runZoneGain

def runZoneMute (r : Req) (s : State) : CmdRes :=
  withZone r s (fun z => checked [(2, decide (1 < r.f 2 1))] s (okRes [] (setZone (r.f 0 2) { z with mute := r.f 2 1 = 1 } s)))

def cmdZoneMute : Cmd := plainCmd 0x2004 3 runZoneMute

/-- PAIR_SET; R152 asks for a partner other than the channel itself. -/
def runPairSet (r : Req) (s : State) : CmdRes :=
  checked [(0, decide (63 < r.f 0 1)), (1, decide (63 < r.f 1 1)), (2, decide (1 < r.f 2 1)), (3, decide (7 < r.f 3 1)),
      (4, decide (15 < r.f 4 1)), (1, decide (r.f 2 1 = 1 ∧ r.f 1 1 = r.f 0 1))] s
    (okRes [] (fwWrite (DRV_n_PAIR (r.f 0 1))
      (BitVec.ofNat 32 (r.f 1 1 + 256 * r.f 2 1 + 512 * r.f 3 1 + 4096 * r.f 4 1)) s))

def cmdPairSet : Cmd := plainCmd 0x2005 5 runPairSet

/-! ### Streams -/

def badFlow (r : Req) : Nat × Bool := (0, decide (3072 ≤ r.f 0 2))

/-- FLOW_SET: the eleven words, EN as 0. -/
def runFlowSet (r : Req) (s : State) : CmdRes :=
  let f := r.f 0 2
  checked [badFlow r] s
    (if flEn s f || flActive s f then refuse stBusy 0 s
     else match r.words 4 11 with
       | w :: t => okRes [] (fwWriteWords (FL_f_CTL f) ((w &&& 0xFFFFFFFE) :: t) s)
       | [] => okRes [] s)

def cmdFlowSet : Cmd := plainCmd 0x4001 48 runFlowSet

def runFlowEn (r : Req) (s : State) : CmdRes :=
  let f := r.f 0 2
  checked [badFlow r, (2, decide (1 < r.f 2 1))] s
    (let s1 := fwWrite FL_ERR 0x1F s
     let s2 := fwWrite (FL_f_CTL f) (BitVec.ofNat 32 (setBits (s1.reg (FL_f_CTL f)).toNat 0 1 (r.f 2 1))) s1
     let e := (s2.reg FL_ERR).toNat % 32
     if e ≠ 0 then refuse stHw e s2 else waitRes .flowEn s2)

def cmdFlowEn : Cmd := plainCmd 0x4002 3 runFlowEn

def runFlowStat (r : Req) (s : State) : CmdRes :=
  let f := r.f 0 2
  checked [badFlow r] s
    (let a := fwRead (FL_f_STAT f) s
     let b := fwRead (FL_f_CNT f) a.2
     let c := fwRead (FL_f_SEQ f) b.2
     okRes (leBytes 4 a.1.toNat ++ leBytes 4 b.1.toNat ++ leBytes 4 c.1.toNat) c.2)

def cmdFlowStat : Cmd := plainCmd 0x4003 2 runFlowStat

def runPortCfg (r : Req) (s : State) : CmdRes :=
  let p := r.f 0 1
  checked [(0, decide (3 < p)), (1, decide (3 < r.f 1 1)), (2, decide (3 < r.f 2 1)), (3, decide (1 < r.f 3 1))] s
    (okRes [] (fwWrite (NET_PORT_p_DLY p) (BitVec.ofNat 32 (r.f 4 2 + 65536 * r.f 6 2))
      (fwWrite (NET_PORT_p_CFG p) (BitVec.ofNat 32 (r.f 1 1 + 4 * r.f 2 1 + 16 * r.f 3 1)) s)))

def cmdPortCfg : Cmd := plainCmd 0x4004 8 runPortCfg

def runRingCfg (r : Req) (s : State) : CmdRes :=
  checked [(0, decide (1 < r.f 0 1)), (1, decide (1 < r.f 1 1)), (2, decide (1 < r.f 2 1)),
      (4, decide (r.f 4 2 < 100 ∨ 20000 < r.f 4 2))] s
    (okRes [] (fwWrite NET_ISO_TIME (BitVec.ofNat 32 (r.f 4 2))
      (fwWrite NET_CTL (BitVec.ofNat 32 (r.f 0 1 + 2 * r.f 1 1 + 4 * r.f 2 1)) s)))

def cmdRingCfg : Cmd := plainCmd 0x4005 6 runRingCfg

def runPtpCfg (r : Req) (s : State) : CmdRes :=
  checked [(0, decide (2 < r.f 0 1))] s (okRes [] (fwWrite NET_PTP_CTL (BitVec.ofNat 32 (r.f 0 1 + 256 * r.f 1 1)) s))

def cmdPtpCfg : Cmd := plainCmd 0x4006 2 runPtpCfg

/-- GCL_SET: the shadow list, the cycle, and a request that the next cycle start judges (R165). -/
def runGclSet (r : Req) (s : State) : CmdRes :=
  let p := r.f 0 1
  let n := r.f 1 1
  checked [(0, decide (3 < p)), (1, decide (64 < n))] s
    (let s1 := fwWriteWords (NET_GCL_p_k p 0) (r.words 12 n) (fwWrite (NET_PORT_p_STAT p) 0x20 s)
     let s2 := fwWrite (NET_PORT_p_GCL_BASE p) (BitVec.ofNat 32 (r.f 8 4)) (fwWrite (NET_PORT_p_GCL_CYC p) (BitVec.ofNat 32 (r.f 4 4)) s1)
     waitRes (.gcl p) (fwWrite (NET_PORT_p_GCL_CTL p) (BitVec.ofNat 32 (3 + 256 * n)) s2))

def cmdGclSet : Cmd := { plainCmd 0x4007 12 runGclSet with lenOk := fun r => 12 ≤ r.len && r.len = 12 + 4 * r.f 1 1 }

/-! ### Verification -/

def runAnLaw (r : Req) (s : State) : CmdRes :=
  okRes [] (([AN_LAW, AN_LAW2, AN_BANDS, AN_VERD, AN_VERD2].zip (r.words 0 5)).foldl (fun s e => fwWrite e.1 e.2 s) s)

def cmdAnLaw : Cmd := plainCmd 0x5001 20 runAnLaw

def runAnChan (r : Req) (s : State) : CmdRes :=
  checked [(0, decide (63 < r.f 0 1)), (1, decide (1 < r.f 1 1)), (2, decide (15 < r.f 2 1)), (4, decide (2048 ≤ r.f 4 2))] s
    (okRes [] (fwWrite (AN_DRV_n_CFG (r.f 0 1)) (BitVec.ofNat 32 (r.f 1 1 + 16 * r.f 2 1 + 65536 * r.f 4 2)) s))

def cmdAnChan : Cmd := plainCmd 0x5002 6 runAnChan

/-- The number that the run of a start has or will have, or of the last run. -/
def anRunNo (s : State) : Nat := if s.flag AN_RUN_STAT AN_RUN_STAT_WAITING then (s.an.runNum + 1) % 2 ^ 32 else s.an.runNum

def runAnRun (r : Req) (s : State) : CmdRes :=
  checked [(0, decide (1 < r.f 0 1)), (1, decide (1 < r.f 1 1)), (2, decide (1 < r.f 2 1)), (3, decide (3 < r.f 3 1)),
      (4, decide (r.f 0 1 = 0 ∧ (r.f 4 2 = 0 ∨ 4096 < r.f 4 2)))] s
    (if r.f 0 1 = 1 then
       let s1 := fwWrite AN_RUN_CTL (BitVec.ofNat 32 (setBits (s.reg AN_RUN_CTL).toNat 0 2 2)) s
       okRes (leBytes 4 (anRunNo s1)) s1
     else
       let s1 := fwWrite AN_CTL (BitVec.ofNat 32 (r.f 3 1)) (fwWrite AN_ERR 0x1F s)
       let s2 := if s1.reg AN_ERR = 0 then
           fwWrite AN_RUN_CTL (BitVec.ofNat 32 (1 + 4 * r.f 1 1 + 8 * r.f 2 1 + 65536 * (r.f 4 2 - 1))) s1
         else s1
       if s2.reg AN_ERR ≠ 0 then refuse stHw (s2.reg AN_ERR).toNat s2 else okRes (leBytes 4 (anRunNo s2)) s2)

def cmdAnRun : Cmd := plainCmd 0x5003 6 runAnRun

def runAnResult (r : Req) (s : State) : CmdRes :=
  let n := r.f 2 2
  checked [(2, decide (n = 0 ∨ 63 < n)), (0, decide (1152 < r.f 0 2 + n))] s
    (if s.flag AN_RUN_STAT AN_RUN_STAT_PROCESSING then refuse stBusy 0 s
     else
       let x := busRead .clove false s (sumAddr s.an.mem (r.f 0 2)) (64 * n)
       okRes x.data x.s)

def cmdAnResult : Cmd := plainCmd 0x5004 4 runAnResult

/-- AN_REF: 1,152 reference responses and then 1,152 summaries, into the region of R200. -/
def refBytes : Nat := 0x1200000
def runAnRef (r : Req) (s : State) : CmdRes :=
  if r.len ≠ refBytes + 0x12000 then refuse stBadLength 0 s
  else if s.flag AN_RUN_STAT AN_RUN_STAT_RUNNING then refuse stBusy 0 s
  else
    let s1 := (busWrite .clove s (anMemReg s + 0x1200000) (r.payload.take refBytes)).2
    okRes [] (busWrite .clove s1 (anMemReg s + 0x2412000) ((r.payload.drop refBytes).take 0x12000)).2

def cmdAnRef : Cmd := { plainCmd 0x5005 0 runAnRef with kind := .dataIn }

/-! ### Intelligibility -/

def runSfZone (r : Req) (s : State) : CmdRes :=
  let z := r.f 0 1
  checked [(1, decide (1 < r.f 1 1)), (2, decide (15 < r.f 2 1)), (3, decide (1 < r.f 3 1))] s
    (okRes [] (fwWrite (SF_Z_z_DLY z) (BitVec.ofNat 32 (r.f 4 4))
      (fwWrite (SF_Z_z_CFG z) (BitVec.ofNat 32 (r.f 1 1 + 2 * r.f 2 1 + 32 * r.f 3 1)) s)))

def cmdSfZone : Cmd := plainCmd 0x6001 8 runSfZone

def committed (s : State) : Bool := s.fw.sfDone || s.flag SF_CTL SF_CTL_LIM_LOCK

def runSfLimits (r : Req) (s : State) : CmdRes :=
  let l := [1, 2, 3, 4, 5, 6].map (fun o => r.f o 1) ++ [r.f 8 2, r.f 10 2]
  okRes [] (s.mapFw (fun f => { f with sfLim := tput [] f.sfLim (r.f 0 1) l }))

def cmdSfLimits : Cmd := { plainCmd 0x6002 12 runSfLimits with denied := fun _ s => committed s }

/-- SF_Z_z_LIM of the limits given for a zone. -/
def limWord (l : List Nat) : Word :=
  BitVec.ofNat 32 (l.getD 0 0 + 256 * l.getD 1 0 + 65536 * (l.getD 2 0 % 16) + 1048576 * (l.getD 3 0 % 16) + 16777216 * l.getD 4 0)

def runSfCommit (_ : Req) (s : State) : CmdRes :=
  let s1 := s.fw.sfLim.foldl (fun s e => fwWrite (SF_Z_z_LIM e.1) (limWord e.2) s) s
  okRes [] ((fwWrite SF_CTL (BitVec.ofNat 32 (setBits (s1.reg SF_CTL).toNat 4 1 1)) s1).mapFw (fun f => { f with sfDone := true }))

def cmdSfCommit : Cmd := { plainCmd 0x6003 0 runSfCommit with denied := fun _ s => committed s }

def runSfResult (r : Req) (s : State) : CmdRes :=
  if analysed s (r.f 0 1) then
    let x := busRead .clove false s (recordAddr s (r.f 0 1)) 64
    okRes x.data x.s
  else refuse stNotFound 0 s

def cmdSfResult : Cmd := plainCmd 0x6004 1 runSfResult

def runSfLoop (r : Req) (s : State) : CmdRes :=
  checked [(0, decide (1 < r.f 0 1))] s (okRes [] (s.mapFw (fun f => { f with sfLoop := r.f 0 1 = 1 })))

def cmdSfLoop : Cmd := { plainCmd 0x6005 1 runSfLoop with denied := fun _ s => !committed s }

/-- Adds `d` steps to a signed target of `w` bits, held to its limits. -/
def stepTarget (w : Nat) (v : Nat) (d : Int) (lo hi : Int) : Nat := unsext w (satS w (clampInt lo hi (sext w v + d)))

/-- Toward 0 by one. -/
def toZero (w v : Nat) : Nat := unsext w (moveToward (sext w v) 0 1)

/-- The zone's microphone with the lowest STI, and its band with the lowest MTI. -/
def worstBand (s : State) (z : Nat) : Nat :=
  let l := (List.range 4).filterMap (fun m => (micSti s z m).map (fun x => (x, m)))
  let m := (l.foldl (fun b x => if x.1 < b.1 then x else b) (l.headD (0, 0))).2
  let mt := micMtis s z m
  (List.range 7).foldl (fun b k => if f32lt (mt.getD k 0) (mt.getD b 0) 1 then k else b) 0

/-- The loop of R222 on zone `z`, one step: below the target less the hysteresis the EQ target of the worst band and, once
that is at its limit, the gain target go up; above the target plus the hysteresis they go back toward 0. -/
def loopZone (s : State) (e : Nat × List Nat) : State :=
  let z := e.1
  let target := e.2.getD 6 0
  let hyst := e.2.getD 7 0
  match zoneValue s z with
  | none => s
  | some v =>
    if v.2.1 < e.2.getD 5 0 then s
    else if v.1 + hyst < target then
      let k := worstBand s z
      let eq := s.fld (SF_Z_z_TRIM_EQ z) ⟨4 * k, 4⟩
      if sext 4 eq < (min (e.2.getD 2 0) 7 : Nat) then s.setFld (SF_Z_z_TRIM_EQ z) ⟨4 * k, 4⟩ (stepTarget 4 eq 1 (-8) 7)
      else s.setFld (SF_Z_z_TRIM z) SF_Z_z_TRIM_GAIN
        (stepTarget 8 (s.fld (SF_Z_z_TRIM z) SF_Z_z_TRIM_GAIN) 1 (-128) (min (e.2.getD 0 0) 127 : Nat))
    else if target + hyst < v.1 then
      let s1 := s.setFld (SF_Z_z_TRIM z) SF_Z_z_TRIM_GAIN (toZero 8 (s.fld (SF_Z_z_TRIM z) SF_Z_z_TRIM_GAIN))
      (List.range 7).foldl (fun s k =>
        s.setFld (SF_Z_z_TRIM_EQ z) ⟨4 * k, 4⟩ (toZero 4 (s.fld (SF_Z_z_TRIM_EQ z) ⟨4 * k, 4⟩))) s1
    else s

/-- SF_RESULTS_WRITTEN, with firmware's loop after it. -/
def doSfResults (s : State) : State :=
  let s1 := doSfResultsWritten s
  if s.sf.pend.isSome && s.fw.sfLoop && fwUp s then s.fw.sfLim.foldl loopZone s1 else s1

/-! ### Diagnostics -/

def runRegRead (r : Req) (s : State) : CmdRes :=
  let a := r.f 0 8
  let n := r.f 8 2
  checked [(8, decide (n = 0 ∨ 1018 < n)), (0, decide (a % 4 ≠ 0 ∨ a < SU_ID ∨ 0x200046E000 < a + 4 * n))] s
    (okRes ((List.range n).flatMap (fun i => (busRead .clove true s (a + 4 * i) 4).data)) s)

def cmdRegRead : Cmd := { plainCmd 0x8001 10 runRegRead with inMinimal := true }

def runVtXfer (r : Req) (s : State) : CmdRes :=
  let t := r.f 0 1
  let a := DBG_VT_t_STAT t
  checked [(0, decide (48 < t)), (1, decide (1 < r.f 1 1))] s
    (if r.f 1 1 = 1 ∧ s.flag a DBG_VT_t_STAT_IN_FULL then refuse stBusy 0 s
     else
       let full := s.fld a DBG_VT_t_STAT_OUT_FULL
       let s1 := if r.f 1 1 = 1 then fwWrite (DBG_VT_t_IN t) (BitVec.ofNat 32 (r.f 4 4)) s else s
       let o := fwRead (DBG_VT_t_OUT t) s1
       okRes (leBytes 4 o.1.toNat ++ leBytes 1 full) o.2)

def cmdVtXfer : Cmd := plainCmd 0x8002 8 runVtXfer

def runNutmegRead (r : Req) (s : State) : CmdRes :=
  checked [(0, decide (8191 < r.f 0 2)), (2, decide (r.f 2 2 = 0 ∨ 127 < r.f 2 2))] s
    (okRes ((List.range (r.f 2 2)).flatMap (fun i => s.bytes (bbSlot (r.f 0 2 + i)) 32)) s)

def cmdNutmegRead : Cmd := { plainCmd 0x8003 4 runNutmegRead with inMinimal := true }

/-- Cores in FAULT, drive channels in a fault state, Sumac processors that have trapped. -/
def faultedCores (s : State) : Nat := ((List.range 48).filter (fun n => (s.core n).st = 5)).length
def faultedDrives (s : State) : Nat := ((List.range 64).filter (fun n => drvState s n = 4 || drvState s n = 5)).length
def faultedSumac (s : State) : Nat := ((List.range 96).filter (fun p => procSt s p = 4)).length

def healthBytes (s : State) : List Byte :=
  regBytes s SX_PLANE_STAT ++ regBytes s MS_STAT ++ regBytes s NET_RING_STAT ++ regBytes s CV_LS_STAT ++
    leBytes 1 (faultedCores s) ++ leBytes 1 (faultedDrives s) ++ leBytes 1 (faultedSumac s) ++ [0]

def cmdHealth : Cmd := plainCmd 0x8004 0 (fun _ s => okRes (healthBytes s) s)

end Sys2Proof.Machine
end

