-- ==== Sys2Proof/Machine/MolStore.lean ====
section
/-! DEFINITION. Messages, schedules, the store and security as firmware serves them: R225 to R244, R377, R380 to R383, and
the commands of those groups of R359.
Choices and readings: log entries 9, 44, 47, 48, 49 and 50. -/

namespace Sys2Proof.Machine
open R

/-! ### CRC-32C -/

def crcBits : Nat → Nat → Nat
  | 0, c => c
  | n + 1, c => crcBits n (if c % 2 = 1 then (c / 2) ^^^ 0x82F63B78 else c / 2)

def crc32c (l : List Byte) : Nat := (l.foldl (fun c b => crcBits 8 (c ^^^ b.toNat)) 0xFFFFFFFF) ^^^ 0xFFFFFFFF

/-! ### Message objects (R230, R231) -/

def objMeta (l : List Byte) : Nat := le l 0x10 4
def objSamples (l : List Byte) : Nat := le l 0xC 4
def objFmt (l : List Byte) : Nat := le l 6 1
def up64 (n : Nat) : Nat := (n + 63) / 64 * 64
/-- Offsets of AUDIO and of SIG_RSA, and the bytes of the whole object. -/
def objAudio (l : List Byte) : Nat := up64 (0x40 + objMeta l)
def objAudioLen (l : List Byte) : Nat := objSamples l * (if objFmt l = 0 then 3 else 2)
def objSig (l : List Byte) : Nat := up64 (objAudio l + objAudioLen l)
def objLen (l : List Byte) : Nat := objSig l + 384 + 29792

/-- Header fields out of range, by offset. -/
def objChecks (l : List Byte) : List (Nat × Bool) :=
  [(0, decide (le l 0 4 ≠ 0x4D53474F)), (4, decide (le l 4 2 ≠ 1)), (6, decide (1 < objFmt l)), (7, decide (1 < le l 7 1)),
   (8, decide (le l 8 4 = 0 ∨ le l 8 4 = 0xFFFFFFFF)), (0xC, decide (objSamples l = 0 ∨ 86400000 < objSamples l)),
   (0x10, decide (65536 < objMeta l)), (0x28, decide (le l 0x28 24 ≠ 0))]

/-- The keys of the site authority certificate with this serial number, if it chains to ROOT1 and, while the time is locked,
is valid now. Where the device holds these certificates is not given: a free function of the serial number. -/
def siteKeys (s : State) (serial : List Byte) : Option (List Byte) :=
  let now := if s.flag NET_PTP_STAT NET_PTP_STAT_LOCKED then leBytes 8 (timeSec s) else []
  if s.otp.root1Set && !s.otp.root1Revoked && Config.verifies s.otp.root1 serial now then some (slice (Config.digest 1 serial) 0 448)
  else none

/-- Both signatures verify (R231). -/
def objOk (s : State) (l : List Byte) : Bool :=
  match siteKeys s (slice l 0x18 8) with
  | some k => bothVerify k (l.take (objSig l)) (slice l (objSig l) 384) (slice l (objSig l + 384) 29792)
  | none => false

def MsgObj.none : MsgObj := { rev := 0, segs := [], len := 0 }

def msgOf (s : State) (id : Nat) : Option MsgObj := (s.fw.msgs.find? (fun e => e.1 = id)).map (·.2)

/-- Bytes of a stored object. -/
def segData (s : State) (g : Nat) : List Byte := s.bytes (segBase g + 4096) dataBytes
def storedBytes (s : State) (m : MsgObj) : List Byte := (m.segs.flatMap (segData s)).take m.len

/-- The first `n` bytes of a stored object, no more than a segment holds. -/
def storedHead (s : State) (m : MsgObj) (n : Nat) : List Byte :=
  match m.segs with
  | g :: _ => s.bytes (segBase g + 4096) n
  | [] => []

/-! ### Writing to the store (R225 to R229) -/

def takenSegs (s : State) : List Nat := (freeSegs s).filter (fun g => !s.store.ops.any (fun o => o.seg = g))

/-- One segment of an object, sealed. -/
def writeSeg (area object : Nat) (x : State × Nat × List Byte) (g : Nat) : State × Nat × List Byte :=
  let d := x.2.2.take dataBytes
  let h : Seg := { area := area, flags := 0, owner := 0, object := object, seq := 0, first := 0, count := d.length, prev := x.2.1 }
  (sealSeg g h (x.1.setBytes (segBase g + 4096) d), g, x.2.2.drop dataBytes)

def freeSegments (l : List Nat) (s : State) : State := l.foldl (fun s g => setSeg g Seg.free s) s

/-- Writes bytes into free segments; none without enough of them. -/
def storeWrite (area object : Nat) (d : List Byte) (s : State) : Option (List Nat × State) :=
  let n := (d.length + dataBytes - 1) / dataBytes
  let gs := (takenSegs s).take n
  if gs.length < n then none
  else some (gs, (gs.foldl (writeSeg area object) (s, 0xFFFFFFFF, d)).1)

def storeUp (s : State) : Bool := inMirror s 0 || inMirror s 1

/-! ### The emergency set (R235): the schedule copy at its start, then the images -/

def emerBase (s : State) : Nat := s.fld MS_EMER_LO MS_EMER_LO_EMER * 2 ^ 21 + s.fld MS_EMER_HI MS_EMER_HI_EMER * 2 ^ 32
def emerSize (s : State) : Nat := min (s.fld MS_EMER_SIZE MS_EMER_SIZE_MIB) 512 * 0x100000
/-- Where images begin: beyond the largest schedule copy. -/
def emerImages : Nat := 0x200040

/-- The image of message `id` in DDR5: loaded already, or loaded now from a stored object that verifies. -/
def loadImage (id : Nat) (s : State) : Option Nat × State :=
  match s.fw.emAt.find? (fun e => e.1 = id), msgOf s id with
  | some e, _ => (some e.2, s)
  | none, none => (none, s)
  | none, some m =>
    let l := storedBytes s m
    let n := objAudioLen l
    let o := emerImages + s.fw.emUsed
    if objOk s l ∧ o + n ≤ emerSize s then
      let s1 := (busWrite .clove s (emerBase s + o) ((l.drop (objAudio l)).take n)).2
      (some (emerBase s + o), s1.mapFw (fun f => { f with
        emUsed := up64 (f.emUsed + n), emAt := tput 0 f.emAt id (emerBase s + o) }))
    else (none, s)

/-! ### The schedule copy (R236, R237) -/

def entryBytes (e : SchedEntry) : List Byte :=
  leBytes 4 e.entry ++ leBytes 4 e.msg ++ leBytes 2 e.zone ++ leBytes 1 e.prio ++ leBytes 1 (b2n e.cancelled) ++
    leBytes 4 e.period ++ leBytes 8 e.start ++ leBytes 4 e.count ++ leBytes 4 0

def schedHead (c : Sched) (crc : Nat) : List Byte :=
  leBytes 4 0x4D535343 ++ leBytes 4 c.epoch ++ leBytes 4 c.version ++ leBytes 4 c.entries.length ++ leBytes 8 c.issued ++
    leBytes 4 crc ++ leBytes 4 0

def schedBytes (c : Sched) : List Byte :=
  let es := c.entries.flatMap entryBytes
  schedHead c (crc32c (schedHead c 0 ++ es)) ++ es

def entryOf (l : List Byte) (o : Nat) : SchedEntry :=
  { entry := le l o 4, msg := le l (o + 4) 4, zone := le l (o + 8) 2, prio := le l (o + 0xA) 1,
    cancelled := bits (le l (o + 0xB) 1) 0 1 = 1, period := le l (o + 0xC) 4, start := le l (o + 0x10) 8, count := le l (o + 0x18) 4 }

/-- A received copy, if its magic number, its length and its CRC are right. -/
def schedOf (l : List Byte) : Option Sched :=
  let n := le l 0xC 4
  if le l 0 4 = 0x4D535343 ∧ n ≤ 65536 ∧ l.length = 32 + 32 * n ∧
      crc32c (l.take 0x18 ++ zeros 4 ++ l.drop 0x1C) = le l 0x18 4 then
    some { epoch := le l 4 4, version := le l 8 4, issued := le l 0x10 8,
           entries := (List.range n).map (fun i => entryOf l (32 + 32 * i)) }
  else none

/-- The copy goes to the emergency set and to area 7 of the store. -/
def keepSchedule (s : State) : State :=
  let d := schedBytes s.fw.sched
  let s1 := if d.length ≤ emerSize s then (busWrite .clove s (emerBase s) d).2 else s
  if !storeUp s1 then s1
  else
    let old := (s1.store.segs.filter (fun e => e.2.area = 7)).map (·.1)
    match storeWrite 7 0 d s1 with
    | some r => freeSegments old r.2
    | none => s1

/-! ### Arming (R237) -/

/-- Player channels that firmware may arm. -/
def idlePlayers (s : State) : List Nat :=
  (List.range 256).filter (fun c => !s.flag (MS_PL_c_CTL c) MS_PL_c_CTL_EN && !s.fw.armed.any (fun e => e.2 = c) &&
    !s.fw.stops.any (fun e => e.1 = c))

/-- The device serves a zone that has drive channels here. -/
def serves (s : State) (z : Nat) : Bool :=
  match zoneOf s z with
  | some x => decide (x.drvs ≠ [])
  | none => false

def isHub (s : State) : Bool := decide (s.net.hubRole = 2)

/-- Arms one player channel, which one being firmware's choice: key 2 e for holdover, 2 e + 1 for the source. -/
def armChannel (key start image : Nat) (fmt samples : Nat) (e : SchedEntry) (s : State) : State :=
  let l := idlePlayers s
  match l[s.free .unstated % l.length]? with
  | none => s
  | some c =>
    let w := fun (a v : Nat) (s : State) => fwWrite a (BitVec.ofNat 32 v) s
    let s1 := w (MS_PL_c_START_LO c) start (w (MS_PL_c_START_HI c) (start / 2 ^ 32) s.freeNext)
    let s2 := w (MS_PL_c_BUF_LO c) image (w (MS_PL_c_BUF_HI c) (image / 2 ^ 32) (w (MS_PL_c_SAMPLES c) samples s1))
    let s3 := w (MS_PL_c_PERIOD c) e.period (w (MS_PL_c_REPEATS c) e.count s2)
    let s4 := w (MS_PL_c_CTL c) (1 + 2 * fmt) s3
    (w MS_CTL (setBits (s4.reg MS_CTL).toNat 0 1 1) s4).mapFw (fun f => { f with armed := f.armed ++ [(key, c)] })

/-- OFS of the transmit flow that carries a zone: which flow that is, the routing plan says and the spec does not. -/
def zoneOffset (s : State) : Nat := flOfs s (s.free .unstated % 3072)

def armedKey (s : State) (k : Nat) : Bool := s.fw.armed.any (fun e => e.1 = k)

def armEntry (s : State) (e : SchedEntry) : State :=
  if e.cancelled || !serves s e.zone || (armedKey s (2 * e.entry) && (armedKey s (2 * e.entry + 1) || !isHub s)) then s
  else match loadImage e.msg s, msgOf s e.msg with
    | (some a, s1), some m =>
      let h := storedHead s1 m 0x40
      let go := fun (key start : Nat) (s : State) => armChannel key start a (objFmt h) (objSamples h) e s
      let s2 := if armedKey s1 (2 * e.entry) then s1 else go (2 * e.entry) e.start s1
      if isHub s2 && !armedKey s2 (2 * e.entry + 1) then
        go (2 * e.entry + 1) ((e.start + 2 ^ 64 - zoneOffset s2) % 2 ^ 64) s2.freeNext
      else s2
    | (_, s1), _ => s1

/-- Every entry of the copy that the device serves and has not armed. -/
def armAll (s : State) : State := s.fw.sched.entries.foldl armEntry s

/-! ### Adoption (R237, R238, R242) -/

/-- When channel `key` of the old copy is disarmed under the new one, if it is: a holdover channel at the next block tick, the
hub's source channel 20 ms after a cancellation. -/
def stopAt (s : State) (new : Sched) (key : Nat) : Option Nat :=
  let old := s.fw.sched.entries.find? (fun e => e.entry = key / 2)
  match new.entries.find? (fun e => e.entry = key / 2) with
  | some e =>
    if e.cancelled then some (if key % 2 = 1 then s.frame + fsHz s / 50 else s.frame)
    else if old = some e then none
    else some s.frame
  | none => some s.frame

/-- The new copy takes the place of the old one. -/
def adopt (new : Sched) (s : State) : State :=
  let gone := s.fw.armed.filterMap (fun e => (stopAt s new e.1).map (fun t => (e.2, t)))
  let s1 := s.mapFw (fun f => { f with
    sched := new, armed := f.armed.filter (fun e => (stopAt s new e.1).isNone), stops := f.stops ++ gone })
  armAll (keepSchedule s1)

def newer (a b : Sched) : Bool := decide (b.epoch < a.epoch) || (decide (a.epoch = b.epoch) && decide (b.version < a.version))

/-- SCHEDULE_RECEIVE (R237): the copy `l`. -/
def doScheduleReceive (l : List Byte) (s : State) : State :=
  if !fwUp s || minimal s then s
  else match schedOf l with
    | some c => if newer c s.fw.sched then adopt c s else s
    | none => s

/-- The hub issues its schedule with other entries. -/
def issue (es : List SchedEntry) (s : State) : State :=
  adopt { epoch := epochNow s, version := (s.fw.sched.version + 1) % 2 ^ 32, issued := s.frame, entries := es } s

def issuedBytes (s : State) : List Byte := leBytes 4 s.fw.sched.epoch ++ leBytes 4 s.fw.sched.version

/-! ### Messages and schedules -/

def runMsgStore (r : Req) (s : State) : CmdRes :=
  let l := r.payload
  let id := le l 8 4
  let rev := le l 0x14 4
  let old := (msgOf s id).getD MsgObj.none
  checked (objChecks l) s
    (if r.len ≠ objLen l then refuse stBadLength 0 s
     else if !objOk s l then refuse stSignature 0 s
     else if (msgOf s id).isSome ∧ rev ≤ old.rev then refuse stRollback 0 s
     else if !storeUp s then refuse stStore 0 s
     else if (msgOf s id).isNone ∧ 200000 ≤ s.fw.msgs.length then refuse stNoSpace 0 s
     else match storeWrite 3 id l s with
       | none => refuse stNoSpace 0 s
       | some x =>
         okRes (leBytes 4 id ++ leBytes 4 rev) ((freeSegments old.segs x.2).mapFw (fun f => { f with
           msgs := tput MsgObj.none f.msgs id { rev := rev, segs := x.1, len := l.length }
           emAt := tput 0 f.emAt id 0 })))

def cmdMsgStore : Cmd := { plainCmd 0x3001 0 runMsgStore with kind := .dataIn }

def withMsg (id : Nat) (s : State) (f : MsgObj → CmdRes) : CmdRes :=
  match msgOf s id with
  | some m => f m
  | none => refuse stNotFound 0 s

def runMsgDelete (r : Req) (s : State) : CmdRes :=
  let id := r.f 0 4
  withMsg id s (fun m =>
    if s.fw.sched.entries.any (fun e => e.msg = id) then refuse stBusy 0 s
    else okRes [] ((freeSegments m.segs s).mapFw (fun f => { f with
      msgs := tput MsgObj.none f.msgs id MsgObj.none, emAt := tput 0 f.emAt id 0 })))

def cmdMsgDelete : Cmd := plainCmd 0x3002 4 runMsgDelete

def cmdMsgInfo : Cmd := plainCmd 0x3003 4 (fun r s => withMsg (r.f 0 4) s (fun m => okRes (storedHead s m 0x28) s))

/-- The number after the largest in the schedule. -/
def nextEntryNo (s : State) : Nat := (s.fw.sched.entries.foldl (fun m e => max m e.entry) 0 + 1) % 2 ^ 32

def runAnnounce (r : Req) (s : State) : CmdRes :=
  checked [(4, decide (16383 < r.f 4 2)), (6, decide (63 < r.f 6 1))] s
    (withMsg (r.f 0 4) s (fun _ =>
      if 65536 ≤ s.fw.sched.entries.length then refuse stNoSpace 0 s
      else
        let e : SchedEntry := { entry := nextEntryNo s, msg := r.f 0 4, zone := r.f 4 2, prio := r.f 6 1, cancelled := false,
                                start := r.f 8 8, period := r.f 16 4, count := r.f 20 4 }
        let s1 := issue (s.fw.sched.entries ++ [e]) s
        okRes (leBytes 4 e.entry ++ issuedBytes s1) s1))

def cmdAnnounce : Cmd := { plainCmd 0x3004 24 runAnnounce with denied := fun _ s => !isHub s }

def runCancel (r : Req) (s : State) : CmdRes :=
  if s.fw.sched.entries.any (fun e => e.entry = r.f 0 4) then
    let s1 := issue (s.fw.sched.entries.map (fun e => if e.entry = r.f 0 4 then { e with cancelled := true } else e)) s
    okRes (issuedBytes s1) s1
  else refuse stNotFound 0 s

def cmdCancel : Cmd := { plainCmd 0x3005 4 runCancel with denied := fun _ s => !isHub s }

def cmdSchedGet : Cmd := { plainCmd 0x3006 0 (fun _ s => okRes (schedBytes s.fw.sched) s) with kind := .dataOut }

/-! ### Store -/

def mirrorByte (s : State) : List Byte := leBytes 1 (s.fld MS_STAT MS_STAT_MIRROR) ++ leBytes 1 (s.fld MS_STAT MS_STAT_RESYNC) ++ [0, 0]

def cmdStoreInfo : Cmd := plainCmd 0x7001 0 (fun _ s =>
  okRes (leBytes 4 s.store.total ++ leBytes 4 (freeSegs s).length ++ leBytes 4 s.fw.msgs.length ++ mirrorByte s) s)

/-- REC_CFG: a ring that the free segments and the stream's own cannot fill has no space. -/
def runRecCfg (r : Req) (s : State) : CmdRes :=
  let n := r.f 0 1
  let ring := r.f 2 2
  checked [(1, decide (1 < r.f 1 1)), (2, decide (r.f 1 1 = 1 ∧ ring < 2))] s
    (if r.f 1 1 = 1 ∧ (freeSegs s).length + (ringSegs s n).length < ring then refuse stNoSpace 0 s
     else
       let s1 := fwWrite (MS_REC_s_CFG n) (BitVec.ofNat 32 (r.f 1 1 + 65536 * ring)) s
       okRes [] (if r.f 1 1 = 1 then fwWrite MS_CTL (BitVec.ofNat 32 (setBits (s1.reg MS_CTL).toNat 1 1 1)) s1 else s1))

def cmdRecCfg : Cmd := plainCmd 0x7002 4 runRecCfg

/-- Segments of stream `n` whose samples meet a range. -/
def segsIn (s : State) (n first last : Nat) : List Nat :=
  (ringSegs s n).filter (fun g => let h := tget Seg.free s.store.segs g; rangeMeets h.first (segLast s h) first last)

def pinSeg (b : Bool) (s : State) (g : Nat) : State :=
  let h := tget Seg.free s.store.segs g
  setSeg g { h with flags := setBits h.flags 0 1 (b2n b) } s

def runRecPin (r : Req) (s : State) : CmdRes :=
  let n := r.f 0 1
  let gs := segsIn s n (r.f 8 8) (r.f 16 8)
  okRes (leBytes 4 gs.length) ((gs.foldl (pinSeg true) s).mapFw (fun f => { f with pins := f.pins ++ [(n, r.f 8 8, r.f 16 8)] }))

def cmdRecPin : Cmd := plainCmd 0x7003 24 runRecPin

/-- A pinned range less another one. -/
def cutRange (p : Nat × Nat × Nat) (n first last : Nat) : List (Nat × Nat × Nat) :=
  if p.1 ≠ n ∨ ¬ rangeMeets p.2.1 p.2.2 first last then [p]
  else (if p.2.1 < first then [(n, p.2.1, first - 1)] else []) ++ (if last < p.2.2 then [(n, last + 1, p.2.2)] else [])

def runRecUnpin (r : Req) (s : State) : CmdRes :=
  let n := r.f 0 1
  let gs := (segsIn s n (r.f 8 8) (r.f 16 8)).filter (fun g => bits (tget Seg.free s.store.segs g).flags 0 1 = 1)
  let pins := s.fw.pins.flatMap (fun p => cutRange p n (r.f 8 8) (r.f 16 8))
  if gs = [] ∧ pins = s.fw.pins then refuse stNotFound 0 s
  else okRes (leBytes 4 gs.length) ((gs.foldl (pinSeg false) s).mapFw (fun f => { f with pins := pins }))

def cmdRecUnpin : Cmd := plainCmd 0x7004 24 runRecUnpin

/-- The samples of a segment in a range of frames. -/
def segSamples (s : State) (first last g : Nat) : List Byte :=
  let h := tget Seg.free s.store.segs g
  let st := recStep s
  let lo := (first - h.first + st - 1) / st
  let hi := min (h.count / 3) ((last - h.first) / st + 1)
  s.bytes (segBase g + 4096 + 3 * lo) (3 * (hi - lo))

def runRecRead (r : Req) (s : State) : CmdRes :=
  let d := (segsIn s (r.f 0 1) (r.f 8 8) (r.f 16 8)).flatMap (segSamples s (r.f 8 8) (r.f 16 8))
  if d = [] then refuse stNotFound 0 s else okRes d s

def cmdRecRead : Cmd := { plainCmd 0x7005 24 runRecRead with kind := .dataOut }

/-- LOG_READ: the data of the area's segments written from SEQ on, oldest first. -/
def runLogRead (r : Req) (s : State) : CmdRes :=
  let a := r.f 0 1
  let gs := ((s.store.segs.filter (fun e => e.2.area = a && decide (r.f 8 8 ≤ e.2.seq))).map (fun e => (e.2.seq, e.1))).mergeSort
    (fun x y => x.1 ≤ y.1)
  checked [(0, decide (a ≠ 5 ∧ a ≠ 6))] s
    (okRes (gs.flatMap (fun e => s.bytes (segBase e.2 + 4096) (tget Seg.free s.store.segs e.2).count)) s)

def cmdLogRead : Cmd := { plainCmd 0x7006 16 runLogRead with kind := .dataOut }

/-! ### Security -/

/-- Bytes 0x000 to 0x0BF of the report (R382). -/
def reportBody (nonce : List Byte) (s : State) : List Byte :=
  leBytes 4 0x42544154 ++ leBytes 2 1 ++ leBytes 1 (b2n (minimal s)) ++
    leBytes 1 (if minimal s then 0xFF else s.fld BT_STAT BT_STAT_SLOT) ++ leBytes 8 s.otp.serial ++ nonce ++
    leBytes 8 (if sxRunning s then s.frame else 0) ++ regBytes s MC_ROM_VER ++ leBytes 4 s.fw.patchVer ++ leBytes 4 s.fw.fwVer ++
    leBytes 4 s.fw.fwBuild ++ leBytes 1 s.otp.rollback ++ leBytes 1 s.otp.lcs ++ leBytes 2 s.sec.granted ++ regBytes s BT_CAUSE ++
    regBytes s CV_DT_VER ++ leBytes 1 (if minimal s then 0xFF else s.fld BT_STAT BT_STAT_KIND) ++ zeros 11 ++
    (List.range 12).flatMap (fun k => regBytes s (SEC_MEAS_k k)) ++ slice s.fw.xipHash 0 48

/-- The signatures, and the two certificates of the identity blob, whose layout is not given. -/
def report (nonce : List Byte) (s : State) : List Byte :=
  let b := reportBody nonce s
  let blob := s.bytes (flashAddr 0x3001000) 0x1F000
  b ++ slice (Config.cipher 16 s.otp.secret blob b) 0 384 ++ slice (Config.cipher 18 s.otp.secret blob b) 0 49856 ++
    slice (Config.digest 4 blob) 0 61376

def cmdAttest : Cmd :=
  { plainCmd 0x9001 32 (fun r s => okRes (report (slice r.payload 0 32) s) s) with inMinimal := true, kind := .dataOut }

/-- The slot that an upload goes to (R380). -/
def uploadSlot (s : State) : Nat :=
  if !minimal s then 1 - s.fld BT_STAT BT_STAT_SLOT
  else
    let ok := fun (k : Nat) => s.fld BT_CAUSE BT_CAUSE_CODE ≠ 5 && headerOk s (slotBase k)
    if !ok 0 then 0
    else if !ok 1 then 1
    else if s.fld BT_CAUSE BT_CAUSE_CODE = 1 then s.fld BT_STAT BT_STAT_LAST_SLOT
    else if cSeq s (slotBase 0) < cSeq s (slotBase 1) then 0 else 1

/-- Model address at which an upload is looked at before it goes to a slot: where in DDR5 it is staged is not given. -/
def staging : Nat := 2 ^ 45

def runImageUpload (r : Req) (s : State) : CmdRes :=
  let reason := verifyReason (s.setBytes staging r.payload) staging
  let k := uploadSlot s
  let s1 := s.setBytes (slotBase k) r.payload
  if slotSize < r.payload.length then refuse stBadLength 0 s
  else if chLost s 0 && chLost s 1 then refuse stNoSpace 0 s
  else if reason = rRollback then refuse stRollback 0 s
  else if reason ≠ 0 then refuse stSignature 0 s
  else if verifyReason s1 (slotBase k) ≠ 0 then refuse stStore 0 s1
  else okRes [] (if minimal s then s1.setFld BT_STAT BT_STAT_ATTEMPT 0 else commitConfirmed s1)

def cmdImageUpload : Cmd := { plainCmd 0x9002 0 runImageUpload with isLocal := true, inMinimal := true, kind := .dataIn }

/-- No challenge is drawn during a lockout. -/
def runDebugChallenge (_ : Req) (s : State) : CmdRes :=
  if s.sec.lockout then refuse stAuth 0 s else let s1 := drawChallenge s; okRes (challenge s1) s1

def cmdDebugChallenge : Cmd := { plainCmd 0x9003 0 runDebugChallenge with isLocal := true }

def runDebugResponse (r : Req) (s : State) : CmdRes :=
  let x := checkResponse r.payload s
  if x.1 then okRes [] x.2 else refuse stAuth 0 x.2

def cmdDebugResponse : Cmd := { plainCmd 0x9004 0 runDebugResponse with isLocal := true, kind := .dataIn }

/-- A newly installed key has no counters. -/
def runRemoteKey (r : Req) (s : State) : CmdRes :=
  let id := r.f 0 2
  let k := slice r.payload 4 32
  okRes [] (s.mapFw (fun f => { f with keys := tput [] f.keys id k, counters := f.counters.filter (fun e => e.1 ≠ id) }))

def cmdRemoteKey : Cmd := { plainCmd 0x9005 36 runRemoteKey with isLocal := true }

def runRemoteClear (r : Req) (s : State) : CmdRes :=
  let id := r.f 0 2
  if tget [] s.fw.keys id = [] then refuse stNotFound 0 s
  else okRes [] (s.mapFw (fun f => { f with keys := tput [] f.keys id [], counters := f.counters.filter (fun e => e.1 ≠ id) }))

def cmdRemoteClear : Cmd := { plainCmd 0x9006 2 runRemoteClear with isLocal := true }

/-! ### Serving -/

/-- The commands of firmware 1.4. -/
def commands : List Cmd :=
  [cmdGetVersion, cmdGetStatus, cmdSetMbPerm, cmdReset, cmdSxRestart, cmdHubCfg, cmdMapWrite, cmdMapSwap, cmdMapRead, cmdTpCfg,
   cmdPlaneSel, cmdSpareCfg, cmdZoneSet, cmdZoneGet, cmdZoneGain, cmdZoneMute, cmdPairSet] ++
  [cmdMsgStore, cmdMsgDelete, cmdMsgInfo, cmdAnnounce, cmdCancel, cmdSchedGet, cmdFlowSet, cmdFlowEn, cmdFlowStat, cmdPortCfg,
   cmdRingCfg, cmdPtpCfg, cmdGclSet, cmdAnLaw, cmdAnChan, cmdAnRun, cmdAnResult, cmdAnRef] ++
  [cmdSfZone, cmdSfLimits, cmdSfCommit, cmdSfResult, cmdSfLoop, cmdStoreInfo, cmdRecCfg, cmdRecPin, cmdRecUnpin, cmdRecRead,
   cmdLogRead, cmdRegRead, cmdVtXfer, cmdNutmegRead, cmdHealth] ++
  [cmdAttest, cmdImageUpload, cmdDebugChallenge, cmdDebugResponse, cmdRemoteKey, cmdRemoteClear]

/-- Requests that no row of the opcode table names: MAP_SWAP, and codes not defined. -/
def serveOther (r : Req) (s : State) : State :=
  if r.code = 0x1002 then serve cmdMapSwap r s
  else if commands.any (fun c => c.code = r.code) then s
  else answer r.who r.key r.code r.seq (refuse stBadCode 0 s)

/-- Firmware takes and executes the request of pair `i` that is the command `c`. A request whose code has no row is served
here too. -/
def doCommand (c : Cmd) (i : Nat) (s : State) : State :=
  if !mailReady s i then s
  else
    let r := mailRequest s i
    if r.code = c.code then serve c r (take i s)
    else if r.code = 0x1002 ∨ !commands.any (fun c => c.code = r.code) then serveOther r (take i s)
    else s

/-! ### Remote frames (R360, R361) -/

/-- Senders by last acceptance, newest first. -/
def senders (l : List (Nat × Nat × Nat)) : List Nat := (l.map (fun e => e.2.1)).eraseDups

/-- A counter is accepted: beyond 256 senders the one silent longest is forgotten. -/
def noteCounter (key src ctr : Nat) (l : List (Nat × Nat × Nat)) : List (Nat × Nat × Nat) :=
  let n := (key, src, ctr) :: l.filter (fun e => !(e.1 = key && e.2.1 = src))
  let keep := (senders n).take 256
  n.filter (fun e => keep.contains e.2.1)

def lastCounter (s : State) (key src : Nat) : Option Nat :=
  (s.fw.counters.find? (fun e => e.1 = key && e.2.1 = src)).map (·.2.2)

/-- The request in the decrypted message `m` from `src` under `key`. -/
def remoteRequest (src key : Nat) (m : List Byte) : Req :=
  { who := 256 + src, key := key, code := le m 0 2, seq := le m 2 2, len := le m 4 2, flags := le m 6 2,
    payload := slice (m.drop 16) 0 (min (le m 4 2) 1452) }

/-- REMOTE_FRAME: payload `l` of a frame from `src`. -/
def doRemoteFrame (src : Nat) (l : List Byte) (s : State) : State :=
  let n := l.length
  let key := le l 2 2
  let k := tget [] s.fw.keys key
  let nonce := slice l 4 12
  let ctr := le l 8 8
  let ct := (l.drop 16).take (n - 32)
  if !fwUp s || minimal s || decide (n < 48) || decide (le l 0 1 ≠ 1) || decide (le l 1 1 ≠ 0) then s
  else if k = [] ∨ gcmTag k nonce (l.take 16) ct ≠ l.drop (n - 16) then s
  else if (match lastCounter s key src with
      | some c => decide (ctr ≤ c)
      | none => false) then s
  else
    let s1 := s.mapFw (fun f => { f with counters := noteCounter key src ctr f.counters })
    let m := gcmCrypt k nonce ct
    let r := remoteRequest src key m
    if le m 4 2 ≠ m.length - 16 then answer r.who key r.code r.seq (refuse stBadLength 0 s1)
    else match commands.find? (fun c => c.code = r.code) with
      | some c => serve c r s1
      | none => answer r.who key r.code r.seq (refuse stBadCode 0 s1)

/-! ### Firmware at a block tick -/

/-- A job's result, or the job it goes on as. -/
structure JobOut where
  res : Option CmdRes
  keep : Option JobKind
  s : State

def jobDone (x : CmdRes) : JobOut := { res := some x, keep := none, s := x.s }
def jobKeep (k : JobKind) (s : State) : JobOut := { res := none, keep := some k, s := s }
def jobEnd (s : State) : JobOut := { res := none, keep := none, s := s }

/-- The swap's reply. -/
def swapReply (s : State) : CmdRes :=
  let e := (s.reg SX_ERR).toNat % 64
  let d := leBytes 8 (blockNo s) ++ regBytes s SX_ERR ++ regBytes s SX_ERR_SLOT
  if e % 2 = 1 then { refuse stHw e s with data := d } else okRes d s

def jobTick (j : FwJob) (s : State) : JobOut :=
  match j.kind with
  | .flowEn => jobDone (okRes (leBytes 8 (blockNo s)) s)
  | .mapSwap => if s.flag SX_MAP_STAT SX_MAP_STAT_SWAP_PEND then jobKeep .mapSwap s else jobDone (swapReply s)
  | .sxStop cfg =>
    if sxRunning s || sxStarting s then jobKeep (.sxStop cfg) s
    else
      let s1 := fwWrite SX_CFG (BitVec.ofNat 32 cfg) s
      jobKeep .sxStart (fwWrite SX_CTL (sxCtlWord s1 1) s1)
  | .sxStart => if sxRunning s then jobDone (okRes (leBytes 8 (blockNo s)) s) else jobKeep .sxStart s
  | .gcl p =>
    if s.flag (NET_PORT_p_GCL_CTL p) NET_PORT_p_GCL_CTL_SWAP_REQ then jobKeep (.gcl p) s
    else if s.flag (NET_PORT_p_STAT p) NET_PORT_p_STAT_GCL_RANGE then jobDone (refuse stHw 0x20 s)
    else jobDone (okRes [] s)
  | .reset => if j.who < 256 ∧ tget [] s.fw.waitPost j.who ≠ [] then jobKeep .reset s else jobEnd (fwWrite PM_RST_CTL 1 s)

def jobStep (s : State) (j : FwJob) : State :=
  let o := jobTick j s
  match o.res, o.keep with
  | some x, _ => answer j.who j.key j.code j.seq x
  | none, some k => o.s.mapFw (fun f => { f with jobs := f.jobs ++ [{ j with kind := k }] })
  | none, none => o.s

def fwJobs (s : State) : State := s.fw.jobs.foldl jobStep (s.mapFw (fun f => { f with jobs := [] }))

/-- Player channels whose time has come are disarmed. -/
def fwStops (s : State) : State :=
  let due := s.fw.stops.filter (fun e => e.2 ≤ s.frame)
  (due.foldl (fun s e => fwWrite (MS_PL_c_CTL e.1) (BitVec.ofNat 32 (setBits (s.reg (MS_PL_c_CTL e.1)).toNat 0 1 0)) s) s).mapFw
    (fun f => { f with stops := f.stops.filter (fun e => !(e.2 ≤ s.frame)) })

/-- The black box records not yet archived that the ring still holds, in SEQ order. -/
def unarchived (s : State) : List Byte :=
  let n := (s.reg BB_SEQ).toNat
  let lo := max s.fw.archNext (n - 8192)
  ((List.range (n - lo)).map (lo + ·)).flatMap (fun q => if s.num (bbSlot q + 0xC) 4 = q then s.bytes (bbSlot q) 32 else [])

/-- Once the store is ready after a start, the records go to area 5, and a frozen black box is armed again (R428). -/
def archive (s : State) : State :=
  if s.fw.archDone || !inRun s || !storeUp s then s
  else match storeWrite 5 0 (unarchived s) s with
    | none => s
    | some x =>
      let s1 := x.2.mapFw (fun f => { f with archDone := true, archNext := (s.reg BB_SEQ).toNat })
      if s1.flag BB_STAT BB_STAT_FROZEN then doRearm .clove s1 else s1

/-- Firmware's part of a block tick: jobs, disarming, entries that could not be armed before, and the archive. -/
def fwBlockTick (s : State) : State := if fwUp s && !minimal s then archive (armAll (fwStops (fwJobs s))) else s

/-! ### Firmware's black box records (R426) -/

/-- Arguments of a firmware record: the spec does not give them. -/
def freeArgs (s : State) : List Nat := (List.range 4).map (fun i => (Config.freeValue .unstated (s.freeCtr + i)).toNat)

def fwNote (code : Nat) (s : State) : State := nutmeg 0x1000 code (freeArgs s) { s with freeCtr := s.freeCtr + 4 }

def fwNoteIf (b : Bool) (code : Nat) (s : State) : State := if b then fwNote code s else s

/-- Substitution entries that now have the player as source. -/
def hsActive (s : State) : List Nat := (s.listed (MS_HS_k_STAT 0) 8 256).filter (fun k => s.flag (MS_HS_k_STAT k) MS_HS_k_STAT_ACTIVE)

def rises (a b : State) (r : Nat) (f : Fld) : Bool := !a.flag r f && b.flag r f

/-- The records of codes 1 to 7 that the passage from `a` to `b` calls for. -/
def fwNotes (a b : State) : State :=
  if !fwUp b || minimal b then b
  else
    let b1 := if !a.dev.winRun && b.dev.winRun then nutmeg 0x1000 1 [(b.reg BT_CAUSE).toNat] b else b
    let b2 := fwNoteIf (rises a b BT_STAT BT_STAT_RUN) 2 b1
    let b3 := fwNoteIf (decide (a.net.hubRole ≠ b.net.hubRole)) 3 b2
    let b4 := fwNoteIf ((List.range 12).any (fun t =>
      a.fld (SX_TP_t_PHYS t) SX_TP_t_PHYS_CUR ≠ b.fld (SX_TP_t_PHYS t) SX_TP_t_PHYS_CUR)) 4 b3
    let b5 := fwNoteIf (decide (activePlane a ≠ activePlane b)) 5 b4
    let b6 := fwNoteIf (rises a b NET_RING_STAT NET_RING_STAT_ISOLATED) 6 b5
    fwNoteIf (decide (hsActive a ≠ hsActive b)) 7 b6

end Sys2Proof.Machine
end

