-- ==== Sys2Proof/Machine/Settle.lean ====
section
/-! DEFINITION. What follows every command: the interrupt exchange looks at its inputs, and microcode whose
condition has come to hold goes on, and firmware notes what it has seen.
Choices and readings: log entry 43. -/

namespace Sys2Proof.Machine

/-- Processors whose microcode is under way. -/
def microRunning (s : State) : List Nat := s.cpu.filterMap (fun e => if e.2.u.isSome then some e.1 else none)

/-- Microcode of processor `p` goes on as far as it can; a mismatch injected before is retried with it. -/
def uPoll (s : State) (p : Nat) : State :=
  let pc := match (s.proc p).u with
    | some u => u.pc0
    | none => 0
  let s1 := uRun p uFuel s
  if (s1.proc p).u.isNone then boundary p s1
  else if p = clove ∧ s1.ctl.inject ∧ ((s1.proc p).u.map (fun u => u.wrote)).getD false then lsMismatch 2 pc s1
  else s1

/-- Processors in a debugger's step: it ends at the instruction boundary. -/
def inStep (s : State) : List Nat := s.cpu.filterMap (fun e => if e.2.stepping then some e.1 else none)

def endSteps (s : State) : State := s.each (inStep s) (fun s p => boundary p s)

/-- The host is told when its presented source takes a new value other than 0 (R344). -/
def hostMsg (old : Nat) (s : State) : State := if pres s 49 ≠ old ∧ pres s 49 ≠ 0 then msixSend s else s

/-- The exchange's look at its inputs. -/
def icEnd (s : State) : State := hostMsg (pres s 49) (icSettle s)

/-- What follows a command that took `a` to `s`; the queue of waiting commands stays as the command found it. -/
def settled (a s : State) : State :=
  { icEnd (fwNotes a (dogSettle (endSteps (s.each (microRunning s) uPoll)))) with pending := a.pending }

/-- Every command ends so. -/
def done (a s : State) : Host.Outcome State Fault Refusal := .next (settled a s)

end Sys2Proof.Machine
end

