-- ==== Sys2Proof/Machine/Ticks.lean ====
section
/-! DEFINITION. The frame tick and the block tick (R19, R20, R466): the slot traffic of a frame, and what every
user of the ticks does at them.
Choices and readings: log entries 9, 11, 14, 15 and 16. -/

namespace Sys2Proof.Machine
open R

/-! ### Producers (R22, R23, R32, R33) -/

/-- The half of the tile ports that the exchange works on (R29). -/
def exchangeHalf (s : State) : Nat := 1 - s.sx.half

/-- Logical port `p` sends its transmit half in this block. -/
def portSends (s : State) (p : Nat) : Bool := s.sx.sending.contains p && !s.flag (SX_TP_t_STAT p) SX_TP_t_STAT_FAILED

/-- The word that channel `c` of producer port `p` presents in the current frame. -/
def producerWord (s : State) (p c : Nat) : Word :=
  if p < 12 then
    (if portSends s p then BitVec.ofNat 32 (s.num (txHalf p (exchangeHalf s) + halfOffset s c (s.frame % blockN s)) 4) else 0)
  else if p = 12 then tget 0 (tget [] s.streamOut s.frame) c
  else if p = 14 then tget 0 s.senseNow c
  else if p = 15 then tget 0 s.tdmIn c
  else if p = 16 then tget 0 (tget [] s.store.playOut s.frame) c
  else 0

/-- Driven slots with their producer entry; an entry that fails the check of R27 acts as though EN = 0. -/
def drivenSlots (s : State) : List (Nat × Word) := s.sx.prodActive.filter (fun e => entryEn e.2 && !prodBad s e.1 e.2)

/-- The words that the producers present, by slot. -/
def presentedWords (s : State) : List (Nat × Word) :=
  (drivenSlots s).foldl (fun t e => tput 0 t e.1 (producerWord s (prodPort e.2) (prodCh e.2))) []

/-- Slots that a disturbance of this frame touches. -/
def disturbedSlots (s : State) (fs : List PlaneFault) : List Nat :=
  (fs.map (·.slot) ++ (match s.sx.injNow with
    | some x => [x.2]
    | none => [])).filter (fun n => n < slotCount s)

/-- The transfers of the frame that can differ from a clean transfer of 0, by slot (R36). -/
def transfers (s : State) (fs : List PlaneFault) : List (Nat × Transfer) :=
  let w := presentedWords s
  let keys := (w.map (·.1) ++ disturbedSlots s fs).mergeSort (fun a b => a ≤ b)
  keys.eraseDups.map (fun n => (n, transferOf s fs n (tget 0 w n)))

/-- The words that the consumers of each driven slot receive. -/
def slotWords (s : State) (xs : List (Nat × Transfer)) : List (Nat × Word) :=
  let driven := (drivenSlots s).map (·.1)
  xs.foldl (fun t e => if driven.contains e.1 then tput 0 t e.1 (delivered s e.2) else t) []

/-! ### Consumers (R24, R31, R35, R124) -/

/-- What a frame brings to each consumer channel, by word of the consumer regions; `fromTile` says that the slot's
producer is a tile port. -/
structure Taken where
  word : Nat
  val : Word
  fromTile : Bool
  deriving DecidableEq, Repr

/-- The slot is produced by a tile port. -/
def tileSlot (s : State) (slot : Nat) : Bool := decide (prodPort (tget 0 s.sx.prodActive slot) < 12)

/-- The channels that receive a slot in this frame. -/
def takenWords (s : State) (ws : List (Nat × Word)) : List Taken :=
  (s.sx.consActive.filter (fun e => entryEn e.2 && !consBad s e.1 e.2)).map (fun e =>
    { word := e.1, val := tget 0 ws (consSlot e.2), fromTile := tileSlot s (consSlot e.2) })

def takenOf (l : List Taken) (k : Nat) : Option Taken := l.find? (fun x => x.word = k)

/-- The word of channel `c` of port `p`; a channel that takes no slot receives 0. -/
def consWord (l : List Taken) (p c : Nat) : Word := ((takenOf l (consIndex p c)).map (·.val)).getD 0

/-- Words that the drive and recorder ports get 2N frames later (R35). -/
def delayedWords (l : List Taken) : List (Nat × Word) :=
  (l.filter (fun x => !x.fromTile && (match consOf x.word with
    | some (p, _) => p = 13 || p = 17
    | none => false))).map (fun x => (x.word, x.val))

/-- The word of channel `c` of the drive or recorder port: one taken 2N frames ago, or one of a tile port now (R35). -/
def lateWord (s : State) (l : List Taken) (p c : Nat) : Word :=
  let k := consIndex p c
  match ((s.sx.history.getD (2 * blockN s - 1) []).find? (fun e => e.1 = k)) with
  | some e => e.2
  | none => match takenOf l k with
    | some x => if x.fromTile then x.val else 0
    | none => 0

/-- The frame's words enter the delay. -/
def pushDelay (l : List Taken) (s : State) : State :=
  { s with sx := { s.sx with history := (delayedWords l :: s.sx.history).take (2 * blockN s) } }

/-- Channel `c` of tile port `p` receives its word: into the filling half, and, when a slot was transferred, into the
capturing bank of the tile that serves the port (R31, R124). -/
def receiveWord (l : List Taken) (p : Nat) (s : State) (c : Nat) : State :=
  let s1 := s.setNum (rxHalf p (exchangeHalf s) + halfOffset s c (s.frame % blockN s)) 4 (consWord l p c).toNat
  let t := s.fld (SX_TP_t_PHYS p) SX_TP_t_PHYS_CUR
  match takenOf l (consIndex p c) with
  | some x => if portOfTile s t = some p then captureWord s1 t c x.val else s1
  | none => s1

def receivePort (l : List Taken) (s : State) (p : Nat) : State := s.each (List.range (activeRx s p)) (receiveWord l p)

/-- Enabled channels of port `p` with their words. -/
def portWords (l : List Taken) (p : Nat) : List (Nat × Word) :=
  l.filterMap (fun x => match consOf x.word with
    | some (q, c) => if q = p then some (c, x.val) else none
    | none => none)

/-- Every consumer takes the words of the frame. -/
def consume (l : List Taken) (s : State) : State :=
  let F := s.frame
  let s1 := s.each (List.range 12) (receivePort l)
  let s2 := s1.each (s1.flows.map (·.1)) (txCapture F (consWord l 12))
  let s3 := s2.each (List.range 64) (fun s n => driveCollect n (lateWord s l 13 n) s)
  let s4 := { s3 with tdmOut := [] }.each (portWords l 15) (fun s e => tdmSend e.1 e.2 s)
  let s5 := s4.each (s4.listed (MS_REC_s_CFG 0) 0x10 256) (fun s r => recSample F (lateWord s l 17 r) s r)
  let s6 := s5.each (portWords l 18) (fun s e => tapWord e.1 e.2 s)
  pushDelay l (s6.each (portWords l 19) (fun s e => sfTap e.1 e.2 s))

/-! ### Block tick (R20) -/

/-- The cores at a block tick of the running exchange (R75, R76, R403). -/
def coresTick (s : State) : State :=
  if sxRunning s then s.each (s.cores.map (·.1)) (fun s n => coreBlockTick n (blockNo s % 2 ^ 32) s) else s

/-- The drive channels' tick before and after Anise has added the probe (R137, R152, R187). -/
def driveTick (stops : Bool) (s : State) : State :=
  let all := List.range 64
  let s1 := (((s.each all markWanted).each all drvEnter).each all drvLatch)
  aniseBlock ((aniseTick stops s1).each all drvSource)

/-- BLOCK_TICK: once, at the tick of a frame with F mod N = 0. -/
def doBlockTick (s : State) : State :=
  if s.sx.blockDue then
    let stops := sxRunning s && !s.flag SX_CTL SX_CTL_RUN
    let s1 := sxBlockTick { s with sx := { s.sx with blockDue := false } }
    let s2 := driveTick stops (coresTick s1)
    fwBlockTick (evAll 1 (dmaTick (playerTick (flowsTick s2))))
  else s

/-! ### Frame tick (R19, R466) -/

/-- The slot traffic of the current frame; the answer says whether a cause to switch planes occurred. -/
def frameTraffic (fs : List PlaneFault) (s : State) : State × Bool × List Taken :=
  if sxRunning s then
    let xs := transfers s fs
    let l := takenWords s (slotWords s xs)
    let r := planeRecords s xs
    (consume l { r.1 with sx := { r.1.sx with latch := presentedWords s } }, r.2, l)
  else (consume [] s, false, [])

/-- PTR of the tiles that serve a port advances (R124). -/
def captureTick (s : State) (t : Nat) : State :=
  match portOfTile s t with
  | some p => if sxRunning s then captureAdvance s t (activeRx s p) else s
  | none => s

/-- F advances, and with it the time of R5. -/
def advanceFrame (s : State) : State :=
  let F := (s.frame + 1) % 2 ^ 64
  { s with
    frame := F
    timeNs := timeOfFrame (fsHz s) F
    sx := { s.sx with blockDue := decide (F % blockN s = 0), injNow := s.sx.injNext, injNext := none } }

/-- FRAME_TICK: the traffic of the frame that ends, then the tick of the next. A block tick that fell at the tick which
began the frame comes first. -/
def doFrameTick (x : FrameIn) (s : State) : State :=
  let s0 := doBlockTick s
  let F := s0.frame
  let r := frameTraffic x.faults s0
  let s1 := r.1.each (List.range 12) captureTick
  let s2 := tdmFrame x.tdm (senseFrame x.sense (s1.each (List.range 64) (calFrame x.sense)))
  let s3 := anFrame F (consWord r.2.2 18) s2
  let s4 := planeTick (advanceFrame s3) r.2.1
  evAll 0 (releaseHeld (streamFetch (playerFrame s4)))

end Sys2Proof.Machine
end

