-- ==== Sys2Proof/Machine/Commands.lean ====
section
/-! DEFINITION. The meaning of each command, one definition per row of the opcode table, in its order:
the named operation that carries out its rule, followed by what every command ends with. -/

namespace Sys2Proof.Machine

abbrev Out := Host.Outcome State Fault Refusal

/-- FRAME_TICK (R466). -/
def execFrameTick (x : FrameIn) (s : State) : Out := done s (doFrameTick x s)

/-- BLOCK_TICK (R20). -/
def execBlockTick (s : State) : Out := done s (doBlockTick s)

/-- HOLD_OFF_END (R37). -/
def execHoldOffEnd (s : State) : Out := done s (doHoldOffEnd s)

/-- SHADOW_COPY_DONE (R28). -/
def execShadowCopyDone (s : State) : Out := done s (doShadowCopyDone s)

/-- PORT_FAILED (R33). -/
def execPortFailed (t : Fin 12) (s : State) : Out := done s (doPortFailed t s)

/-- SWAP_REQ (R26). -/
def execSwapReq (ag : Agent) (s : State) : Out := done s (doSwapReq ag s)

/-- SWAP_CANCEL (R28). -/
def execSwapCancel (ag : Agent) (withReq : Bool) (s : State) : Out := done s (doSwapCancel ag withReq s)

/-- SHADOW_MAP_WRITE (R28). -/
def execShadowMapWrite (ag : Agent) (off : Nat) (v : Word) (s : State) : Out := done s (doShadowMapWrite ag off v s)

/-- ACTIVE_MAP_WRITE (R28). -/
def execActiveMapWrite (ag : Agent) (s : State) : Out := done s (doActiveMapWrite ag s)

/-- TP_CFG_WRITE (R30). -/
def execTpCfgWrite (ag : Agent) (t : Fin 12) (v : Word) (s : State) : Out := done s (doTpCfgWrite ag t v s)

/-- SX_CFG_WRITE (R44). -/
def execSxCfgWrite (ag : Agent) (v : Word) (s : State) : Out := done s (doSxCfgWrite ag v s)

/-- RUN_START (R45). -/
def execRunStart (ag : Agent) (s : State) : Out := done s (doRunStart ag s)

/-- RUN_STOP (R46). -/
def execRunStop (ag : Agent) (s : State) : Out := done s (doRunStop ag s)

/-- PLANE_SELECT_WRITE (R38). -/
def execPlaneSelectWrite (ag : Agent) (v : Word) (s : State) : Out := done s (doPlaneSelectWrite ag v s)

/-- PLANE_INJECT (R39). -/
def execPlaneInject (ag : Agent) (plane : Fin 2) (slot : Fin 8192) (s : State) : Out := done s (doPlaneInject ag plane slot s)

/-- TXRDY_WRITE (R32). -/
def execTxrdyWrite (ag : Agent) (t : Fin 12) (s : State) : Out := done s (doTxrdyWrite ag t s)

/-- FAIL_SET (R33). -/
def execFailSet (ag : Agent) (t : Fin 12) (s : State) : Out := done s (doFailSet ag t s)

/-- PHYS_WRITE (R41). -/
def execPhysWrite (ag : Agent) (t : Fin 12) (phys : Fin 16) (s : State) : Out := done s (doPhysWrite ag t phys s)

/-- BUNDLE_ISSUE (R58). -/
def execBundleIssue (n : Fin 48) (s : State) : Out := done s (doBundleIssue n s)

/-- RESULT_LANDING (R58). -/
def execResultLanding (n : Fin 48) (s : State) : Out := done s (doResultLanding n s)

/-- INTERLOCKED_ACCESS_DONE (R51). -/
def execInterlockedAccessDone (n : Fin 48) (s : State) : Out := done s (doInterlockedAccessDone n s)

/-- RETI_RESUME (R72). -/
def execRetiResume (n : Fin 48) (s : State) : Out := done s (doRetiResume n s)

/-- LOCK_GRANT (R127). -/
def execLockGrant (n : Fin 48) (s : State) : Out := done s (doLockGrant n s)

/-- LOCK_BREAK (R127). -/
def execLockBreak (n : Fin 48) (s : State) : Out := done s (doLockBreak n s)

/-- HANDLER_ENTRY (R71). -/
def execHandlerEntry (n : Fin 48) (s : State) : Out := done s (doHandlerEntry n s)

/-- FAULT_STATE_ENTRY (R79). -/
def execFaultStateEntry (n : Fin 48) (s : State) : Out := done s (doFaultStateEntry n s)

/-- CORE_START (R82). -/
def execCoreStart (n : Fin 48) (s : State) : Out := done s (doCoreStart n s)

/-- CORE_HALT (R78). -/
def execCoreHalt (n : Fin 48) (s : State) : Out := done s (doCoreHalt n s)

/-- HALT_ENTRY (R78). -/
def execHaltEntry (n : Fin 48) (s : State) : Out := done s (doHaltEntry n s)

/-- WIN_STEP (R78). -/
def execWinStep (n : Fin 48) (s : State) : Out := done s (doWinStep n s)

/-- CORE_RESET (R81). -/
def execCoreReset (n : Fin 48) (s : State) : Out := done s (doCoreReset n s)

/-- PROGRAM_MEMORY_LOAD (R52). -/
def execProgramMemoryLoad (ag : Agent) (n : Fin 48) (priv : Bool) (off : Fin 131072) (v : Word) (s : State) : Out := done s (doProgramMemoryLoad ag n priv off v s)

/-- OWNER_WRITE (R121). -/
def execOwnerWrite (ag : Agent) (t : Fin 12) (b : Fin 8) (v : Word) (s : State) : Out := done s (doOwnerWrite ag t b v s)

/-- HANDOVER_COMPLETE (R121). -/
def execHandoverComplete (t : Fin 12) (b : Fin 8) (s : State) : Out := done s (doHandoverComplete t b s)

/-- DRAIN_ABORT (R121). -/
def execDrainAbort (t : Fin 12) (b : Fin 8) (s : State) : Out := done s (doDrainAbort t b s)

/-- REMAP_WRITE (R130). -/
def execRemapWrite (t : Fin 12) (b : Fin 9) (k : Fin 4) (v : Word) (s : State) : Out := done s (doRemapWrite t b k v s)

/-- REMAP_COPY_START (R133). -/
def execRemapCopyStart (t : Fin 12) (b : Fin 9) (k : Fin 4) (s : State) : Out := done s (doRemapCopyStart t b k s)

/-- REMAP_COPY_DONE (R130). -/
def execRemapCopyDone (t : Fin 12) (b : Fin 9) (k : Fin 4) (s : State) : Out := done s (doRemapCopyDone t b k s)

/-- TEST_WINDOW_START (R133). -/
def execTestWindowStart (t : Fin 12) (s : State) : Out := done s (doTestWindowStart t s)

/-- TEST_WINDOW_END (R131). -/
def execTestWindowEnd (t : Fin 12) (b : Fin 9) (f : Option (Fin 64 × Fin 72)) (s : State) : Out := done s (doTestWindowEnd t b (f.map (fun e => (e.1.val, e.2.val))) s)

/-- BKT_INTERVAL_WRITE (R133). -/
def execBktIntervalWrite (t : Fin 12) (v : Word) (s : State) : Out := done s (doBktIntervalWrite t v s)

/-- CORRECTION_UPDATE (R144). -/
def execCorrectionUpdate (n : Fin 64) (v : Word) (s : State) : Out := done s (doCorrectionUpdate n v s)

/-- LOOP_FAULT (R145). -/
def execLoopFault (n : Fin 64) (s : State) : Out := done s (doLoopFault n s)

/-- IMPEDANCE_ESTIMATE (R146). -/
def execImpedanceEstimate (n : Fin 64) (sv : Nat) (si : Nat) (s : State) : Out := done s (doImpedanceEstimate n sv si s)

/-- OPEN_DETECT (R148). -/
def execOpenDetect (n : Fin 64) (s : State) : Out := done s (doOpenDetect n s)

/-- SHORT_DETECT (R147). -/
def execShortDetect (n : Fin 64) (s : State) : Out := done s (doShortDetect n s)

/-- GROUP_FAULT (R149). -/
def execGroupFault (g : Fin 8) (s : State) : Out := done s (doGroupFault g s)

/-- FLT_LATCHED_CLEAR (R149). -/
def execFltLatchedClear (g : Fin 8) (s : State) : Out := done s (doFltLatchedClear g s)

/-- DRIVE_ENABLE_LOSS (R150). -/
def execDriveEnableLoss (g : Fin 8) (s : State) : Out := done s (doDriveEnableLoss g s)

/-- ENABLE_WRITE (R469). -/
def execEnableWrite (n : Fin 64) (b : Bool) (s : State) : Out := done s (doEnableWrite n b s)

/-- CLR_FAULT (R151). -/
def execClrFault (n : Fin 64) (s : State) : Out := done s (doClrFault n s)

/-- CAL_START (R153). -/
def execCalStart (n : Fin 64) (s : State) : Out := done s (doCalStart n s)

/-- CAL_DONE (R153). -/
def execCalDone (n : Fin 64) (s : State) : Out := done s (doCalDone n s)

/-- SENSE_STUCK (R142). -/
def execSenseStuck (n : Fin 128) (s : State) : Out := done s (doSenseStuck n s)

/-- SENSE_OVERLOAD (R142). -/
def execSenseOverload (n : Fin 128) (s : State) : Out := done s (doSenseOverload n s)

/-- TDM_SLIP (R143). -/
def execTdmSlip (p : Fin 8) (s : State) : Out := done s (doTdmSlip p s)

/-- TDM_LOCK (R143). -/
def execTdmLock (p : Fin 8) (s : State) : Out := done s (doTdmLock p s)

/-- FRAME_RECEIVE (R158). -/
def execFrameReceive (p : Fin 4) (fr : EthFrame) (s : State) : Out := done s (doFrameReceive p fr s)

/-- FRAME_FORWARD (R158). -/
def execFrameForward (p : Fin 4) (s : State) : Out := done s (doFrameForward p s)

/-- LINK_UP (R155). -/
def execLinkUp (p : Fin 4) (s : State) : Out := done s (doLinkUp p s)

/-- LINK_DOWN (R160). -/
def execLinkDown (p : Fin 4) (s : State) : Out := done s (doLinkDown p s)

/-- DD_SOURCE_FORGET (R159). -/
def execDdSourceForget (src : Nat) (s : State) : Out := done s (doDdSourceForget src s)

/-- SUPERVISION_SEND (R160). -/
def execSupervisionSend (s : State) : Out := done s (doSupervisionSend s)

/-- RING_OPEN_TIMEOUT (R160). -/
def execRingOpenTimeout (r : Fin 2) (s : State) : Out := done s (doRingOpenTimeout r s)

/-- HOLDOVER_ENTRY (R163). -/
def execHoldoverEntry (s : State) : Out := done s (doHoldoverEntry s)

/-- DCO_FREQ_WRITE (R162). -/
def execDcoFreqWrite (v : Word) (s : State) : Out := done s (doDcoFreqWrite v s)

/-- CBS_WRITE (R164). -/
def execCbsWrite (p : Fin 4) (hi : Bool) (v : Word) (s : State) : Out := done s (doCbsWrite p hi v s)

/-- GCL_SWAP_REQ (R165). -/
def execGclSwapReq (p : Fin 4) (s : State) : Out := done s (doGclSwapReq p s)

/-- GCL_CYCLE_START (R165). -/
def execGclCycleStart (p : Fin 4) (s : State) : Out := done s (doGclCycleStart p s)

/-- PACKET_LAUNCH (R171). -/
def execPacketLaunch (f : Fin 3072) (s : State) : Out := done s (doPacketLaunch f s)

/-- FLOW_ENABLE (R170). -/
def execFlowEnable (f : Fin 3072) (s : State) : Out := done s (doFlowEnable f s)

/-- FLOW_DISABLE (R170). -/
def execFlowDisable (f : Fin 3072) (s : State) : Out := done s (doFlowDisable f s)

/-- FLOW_FIELD_WRITE (R170). -/
def execFlowFieldWrite (f : Fin 3072) (r : Fin 14) (v : Word) (s : State) : Out := done s (doFlowFieldWrite f r v s)

/-- HUB_ANNOUNCE_SEND (R181). -/
def execHubAnnounceSend (s : State) : Out := done s (doHubAnnounceSend s)

/-- HUB_TAKEOVER (R182). -/
def execHubTakeover (s : State) : Out := done s (doHubTakeover s)

/-- HUB_ELECTION_TIMEOUT (R181). -/
def execHubElectionTimeout (s : State) : Out := done s (doHubElectionTimeout s)

/-- ISOLATION (R183). -/
def execIsolation (s : State) : Out := done s (doIsolation s)

/-- RING_ENABLE_WRITE (R183). -/
def execRingEnableWrite (v : Word) (s : State) : Out := done s (doRingEnableWrite v s)

/-- REMOTE_FRAME (R361). -/
def execRemoteFrame (src : Nat) (l : List Byte) (s : State) : Out := done s (doRemoteFrame src l s)

/-- AN_START (R195). -/
def execAnStart (s : State) : Out := done s (doAnStart s)

/-- AN_STOP (R198). -/
def execAnStop (s : State) : Out := done s (doAnStop s)

/-- AN_RUN_BEGIN (R195). -/
def execAnRunBegin (s : State) : Out := done s (doAnRunBegin s)

/-- AN_RUN_END (R198). -/
def execAnRunEnd (s : State) : Out := done s (doAnRunEnd s)

/-- AN_PROCESSING_DONE (R199). -/
def execAnProcessingDone (s : State) : Out := done s (doAnProcessingDone s)

/-- AN_MODE_WRITE (R194). -/
def execAnModeWrite (m : Fin 4) (s : State) : Out := done s (doAnModeWrite m s)

/-- SF_UPDATE (R218). -/
def execSfUpdate (s : State) : Out := done s (doSfUpdate s)

/-- SF_RESULTS_WRITTEN (R218). -/
def execSfResultsWritten (s : State) : Out := done s (doSfResults s)

/-- SF_ENABLE (R218). -/
def execSfEnable (s : State) : Out := done s (doSfEnable s)

/-- LIM_LOCK (R222). -/
def execLimLock (s : State) : Out := done s (doLimLock s)

/-- SF_LIMIT_WRITE (R222). -/
def execSfLimitWrite (z : Fin 256) (v : Word) (s : State) : Out := done s (doSfLimitWrite z v s)

/-- NVME_COMPLETION (R225). -/
def execNvmeCompletion (p : Fin 2) (admin : Bool) (what : Fin 3) (s : State) : Out := done s (doNvmeCompletion p admin what s)

/-- NVME_TIMEOUT (R226). -/
def execNvmeTimeout (p : Fin 2) (s : State) : Out := done s (doNvmeTimeout p s)

/-- DRIVE_RETURN (R226). -/
def execDriveReturn (p : Fin 2) (intact : Bool) (s : State) : Out := done s (doDriveReturn p intact s)

/-- RESYNC_DONE (R226). -/
def execResyncDone (p : Fin 2) (s : State) : Out := done s (doResyncDone p s)

/-- PLAY_START (R233). -/
def execPlayStart (c : Fin 256) (s : State) : Out := done s (doPlayStart c s)

/-- PLAY_END (R232). -/
def execPlayEnd (c : Fin 256) (s : State) : Out := done s (doPlayEnd c s)

/-- SCHEDULE_RECEIVE (R237). -/
def execScheduleReceive (l : List Byte) (s : State) : Out := done s (doScheduleReceive l s)

/-- RECORD_HALF_FULL (R243). -/
def execRecordHalfFull (r : Fin 256) (s : State) : Out := done s (doRecordHalfFull r s)

/-- ENQT (R250). -/
def execEnqt (ag : Agent) (q : Fin 1048576) (e : Fin 16777216) (s : State) : Out := done s (doDoorbell ag 0 q e s)

/-- ENQH (R250). -/
def execEnqh (ag : Agent) (q : Fin 1048576) (e : Fin 16777216) (s : State) : Out := done s (doDoorbell ag 1 q e s)

/-- DEQ (R250). -/
def execDeq (ag : Agent) (q : Fin 1048576) (s : State) : Out := done s (doDoorbell ag 2 q 0 s)

/-- PEEK (R250). -/
def execPeek (ag : Agent) (q : Fin 1048576) (s : State) : Out := done s (doDoorbell ag 3 q 0 s)

/-- MOVE (R250). -/
def execMoveOp (ag : Agent) (q : Fin 1048576) (d : Fin 1048576) (front : Bool) (s : State) : Out := done s (doDoorbell ag 4 q (d + b2n front * 2147483648) s)

/-- SPLICE (R250). -/
def execSplice (ag : Agent) (q : Fin 1048576) (d : Fin 1048576) (s : State) : Out := done s (doDoorbell ag 5 q d s)

/-- FLUSH (R250). -/
def execFlushOp (ag : Agent) (q : Fin 1048576) (s : State) : Out := done s (doDoorbell ag 6 q 0 s)

/-- COUNT (R250). -/
def execCountOp (ag : Agent) (q : Fin 1048576) (s : State) : Out := done s (doDoorbell ag 7 q 0 s)

/-- ALLOC (R250). -/
def execAlloc (ag : Agent) (s : State) : Out := done s (doDoorbell ag 8 0 0 s)

/-- FREE (R250). -/
def execFreeOp (ag : Agent) (e : Fin 16777216) (s : State) : Out := done s (doDoorbell ag 9 0 e s)

/-- QM_ILLEGAL_OPERATION (R253). -/
def execQmIllegalOperation (ag : Agent) (op : Fin 16) (q : Fin 1048576) (s : State) : Out := done s (doQmIllegalOperation ag op q s)

/-- QM_DESCRIPTOR_FETCH_DONE (R255). -/
def execQmDescriptorFetchDone (q : Fin 1048576) (s : State) : Out := done s (doQmDescriptorFetchDone q s)

/-- INIT_DESC (R259). -/
def execInitDesc (s : State) : Out := done s (doInitDesc s)

/-- INIT_DESC_DONE (R259). -/
def execInitDescDone (s : State) : Out := done s (doInitDescDone s)

/-- INIT_POOL (R259). -/
def execInitPool (s : State) : Out := done s (doInitPool s)

/-- INIT_POOL_DONE (R259). -/
def execInitPoolDone (s : State) : Out := done s (doInitPoolDone s)

/-- QM_WRITE_BACK (R248). -/
def execQmWriteBack (s : State) : Out := done s (doQmWriteBack s)

/-- QM_WRITE_BACK_DONE (R248). -/
def execQmWriteBackDone (s : State) : Out := done s (doQmWriteBackDone s)

/-- QM_ENABLE_WRITE (R259). -/
def execQmEnableWrite (en : Bool) (s : State) : Out := done s (doQmEnableWrite en s)

/-- QM_QCFG_WRITE (R260). -/
def execQmQcfgWrite (ag : Agent) (v : Word) (s : State) : Out := done s (doQmQcfgWrite ag v s)

/-- QM_QLIM_WRITE (R260). -/
def execQmQlimWrite (ag : Agent) (v : Word) (s : State) : Out := done s (doQmQlimWrite ag v s)

/-- WATCH_CFG_WRITE (R258). -/
def execWatchCfgWrite (w : Fin 4096) (v : Word) (s : State) : Out := done s (doWatchCfgWrite w v s)

/-- WATCH_PEND_CLEAR (R258). -/
def execWatchPendClear (i : Fin 128) (v : Word) (s : State) : Out := done s (doWatchPendClear i v s)

/-- ARM (R272). -/
def execArm (e : Fin 13) (c : Fin 64) (s : State) : Out := done s (onChannel e c doArmRow s)

/-- GO (R272). -/
def execGo (e : Fin 13) (c : Fin 64) (s : State) : Out := done s (onChannel e c doGoRow s)

/-- DMA_STOP (R275). -/
def execDmaStop (e : Fin 13) (c : Fin 64) (s : State) : Out := done s (onChannel e c doStopRow s)

/-- DMA_RESET (R276). -/
def execDmaReset (e : Fin 13) (c : Fin 64) (s : State) : Out := done s (onChannel e c doResetRow s)

/-- APPEND (R274). -/
def execAppend (e : Fin 13) (c : Fin 64) (s : State) : Out := done s (onChannel e c doAppendRow s)

/-- DMA_DESCRIPTOR_FETCH_DONE (R267). -/
def execDmaDescriptorFetchDone (e : Fin 13) (c : Fin 64) (s : State) : Out := done s (onChannel e c doDmaDescriptorFetchDone s)

/-- DMA_BURST (R279). -/
def execDmaBurst (e : Fin 13) (lines : List Nat) (s : State) : Out := done s (doDmaBurst e lines s)

/-- DMA_TIMEOUT (R277). -/
def execDmaTimeout (e : Fin 13) (c : Fin 64) (s : State) : Out := done s (onChannel e c doDmaTimeout s)

/-- DESCRIPTOR_COMPLETE (R271). -/
def execDescriptorComplete (e : Fin 13) (c : Fin 64) (s : State) : Out := done s (onChannel e c doDescriptorComplete s)

/-- INTERRUPT_PRESENT (R289). -/
def execInterruptPresent (k : Fin 50) (s : State) : Out := done s (doInterruptPresent k s)

/-- CLAIM (R291). -/
def execClaim (k : Fin 50) (s : State) : Out := done s (doClaim k s)

/-- COMPLETE (R293). -/
def execComplete (k : Fin 50) (n : Fin 1024) (s : State) : Out := done s (doComplete k n s)

/-- PEND_SET (R285). -/
def execPendSet (i : Fin 32) (v : Word) (s : State) : Out := done s (writePendSet i v s)

/-- PEND_CLR (R285). -/
def execPendClr (i : Fin 32) (v : Word) (s : State) : Out := done s (writePendClr i v s)

/-- EN_SET (R285). -/
def execEnSet (i : Fin 32) (v : Word) (s : State) : Out := done s (writeEnSet i v s)

/-- EN_CLR (R285). -/
def execEnClr (i : Fin 32) (v : Word) (s : State) : Out := done s (writeEnClr i v s)

/-- SRC_CFG_WRITE (R286). -/
def execSrcCfgWrite (n : Fin 1024) (which : Fin 3) (v : Word) (s : State) : Out := done s (writeSrc n which v s)

/-- HOLD_OFF_EXPIRY (R297). -/
def execHoldOffExpiry (g : Fin 64) (s : State) : Out := done s (doHoldOffExpiry g s)

/-- EDGE_LATCH (R298). -/
def execEdgeLatch (e : Fin 48) (rising : Bool) (s : State) : Out := done s (doEdgeLatch e rising s)

/-- NOP (R308). -/
def execNop (p : Fin 97) (s : State) : Out := done s (doNop p s)

/-- LIT8 (R308). -/
def execLit8 (p : Fin 97) (imm : Fin 256) (s : State) : Out := done s (doLit8 p imm s)

/-- LIT (R308). -/
def execLit (p : Fin 97) (imm : Fin 65536) (s : State) : Out := done s (doLit p imm s)

/-- DUP (R308). -/
def execDup (p : Fin 97) (s : State) : Out := done s (doDup p s)

/-- DROP (R308). -/
def execDropOp (p : Fin 97) (s : State) : Out := done s (doDrop p s)

/-- SWAP (R308). -/
def execSwap (p : Fin 97) (s : State) : Out := done s (doSwap p s)

/-- OVER (R308). -/
def execOver (p : Fin 97) (s : State) : Out := done s (doOver p s)

/-- ROT (R308). -/
def execRot (p : Fin 97) (s : State) : Out := done s (doRot p s)

/-- PICK (R308). -/
def execPick (p : Fin 97) (imm : Fin 256) (s : State) : Out := done s (doPick p imm s)

/-- TOR (R308). -/
def execTor (p : Fin 97) (s : State) : Out := done s (doTor p s)

/-- FROMR (R308). -/
def execFromr (p : Fin 97) (s : State) : Out := done s (doFromr p s)

/-- RFETCH (R308). -/
def execRfetch (p : Fin 97) (s : State) : Out := done s (doRfetch p s)

/-- ADD (R310). -/
def execAdd (p : Fin 97) (s : State) : Out := done s (doAdd p s)

/-- ADDS (R310). -/
def execAdds (p : Fin 97) (s : State) : Out := done s (doAdds p s)

/-- ADDUS (R310). -/
def execAddus (p : Fin 97) (s : State) : Out := done s (doAddus p s)

/-- ADDC (R310). -/
def execAddc (p : Fin 97) (s : State) : Out := done s (doAddc p s)

/-- SUB (R310). -/
def execSub (p : Fin 97) (s : State) : Out := done s (doSub p s)

/-- SUBS (R310). -/
def execSubs (p : Fin 97) (s : State) : Out := done s (doSubs p s)

/-- SUBUS (R310). -/
def execSubus (p : Fin 97) (s : State) : Out := done s (doSubus p s)

/-- SUBB (R310). -/
def execSubb (p : Fin 97) (s : State) : Out := done s (doSubb p s)

/-- NEG (R310). -/
def execNeg (p : Fin 97) (s : State) : Out := done s (doNeg p s)

/-- NEGS (R310). -/
def execNegs (p : Fin 97) (s : State) : Out := done s (doNegs p s)

/-- ABS (R310). -/
def execAbs (p : Fin 97) (s : State) : Out := done s (doAbs p s)

/-- ABSS (R310). -/
def execAbss (p : Fin 97) (s : State) : Out := done s (doAbss p s)

/-- MUL (R310). -/
def execMul (p : Fin 97) (s : State) : Out := done s (doMul p s)

/-- MULH (R308). -/
def execMulh (p : Fin 97) (s : State) : Out := done s (doMulh p s)

/-- MULHU (R308). -/
def execMulhu (p : Fin 97) (s : State) : Out := done s (doMulhu p s)

/-- DIV (R310). -/
def execDiv (p : Fin 97) (s : State) : Out := done s (doDiv p s)

/-- DIVS (R310). -/
def execDivs (p : Fin 97) (s : State) : Out := done s (doDivs p s)

/-- DIVU (R310). -/
def execDivu (p : Fin 97) (s : State) : Out := done s (doDivu p s)

/-- MOD (R310). -/
def execMod (p : Fin 97) (s : State) : Out := done s (doMod p s)

/-- MODU (R310). -/
def execModu (p : Fin 97) (s : State) : Out := done s (doModu p s)

/-- AND (R308). -/
def execOpAnd (p : Fin 97) (s : State) : Out := done s (doAnd p s)

/-- OR (R308). -/
def execOpOr (p : Fin 97) (s : State) : Out := done s (doOr p s)

/-- XOR (R308). -/
def execOpXor (p : Fin 97) (s : State) : Out := done s (doXor p s)

/-- NOT (R308). -/
def execOpNot (p : Fin 97) (s : State) : Out := done s (doNot p s)

/-- SHL (R310). -/
def execShl (p : Fin 97) (s : State) : Out := done s (doShl p s)

/-- SHLS (R310). -/
def execShls (p : Fin 97) (s : State) : Out := done s (doShls p s)

/-- LSR (R310). -/
def execLsr (p : Fin 97) (s : State) : Out := done s (doLsr p s)

/-- ASR (R310). -/
def execAsr (p : Fin 97) (s : State) : Out := done s (doAsr p s)

/-- EQ (R308). -/
def execEq (p : Fin 97) (s : State) : Out := done s (doEq p s)

/-- LT (R308). -/
def execLt (p : Fin 97) (s : State) : Out := done s (doLt p s)

/-- LTU (R308). -/
def execLtu (p : Fin 97) (s : State) : Out := done s (doLtu p s)

/-- ZEQ (R308). -/
def execZeq (p : Fin 97) (s : State) : Out := done s (doZeq p s)

/-- LD (R308). -/
def execLd (p : Fin 97) (s : State) : Out := done s (doLd p s)

/-- ST (R308). -/
def execSt (p : Fin 97) (s : State) : Out := done s (doSt p s)

/-- LDINC (R308). -/
def execLdinc (p : Fin 97) (s : State) : Out := done s (doLdinc p s)

/-- STINC (R308). -/
def execStinc (p : Fin 97) (s : State) : Out := done s (doStinc p s)

/-- BR (R309). -/
def execBr (p : Fin 97) (imm : Fin 256) (s : State) : Out := done s (doBr p imm s)

/-- BZ (R309). -/
def execBz (p : Fin 97) (imm : Fin 256) (s : State) : Out := done s (doBz p imm s)

/-- BNZ (R309). -/
def execBnz (p : Fin 97) (imm : Fin 256) (s : State) : Out := done s (doBnz p imm s)

/-- JMP (R309). -/
def execJmp (p : Fin 97) (imm : Fin 65536) (s : State) : Out := done s (doJmp p imm s)

/-- CALL (R309). -/
def execCall (p : Fin 97) (imm : Fin 65536) (s : State) : Out := done s (doCall p imm s)

/-- RET (R308). -/
def execRet (p : Fin 97) (s : State) : Out := done s (doRet p s)

/-- CALLS (R309). -/
def execCalls (p : Fin 97) (s : State) : Out := done s (doCalls p s)

/-- JMPS (R309). -/
def execJmps (p : Fin 97) (s : State) : Out := done s (doJmps p s)

/-- VJMP (R308). -/
def execVjmp (imm : Fin 256) (s : State) : Out := done s (doVjmp imm s)

/-- RDS (R308). -/
def execRds (p : Fin 97) (imm : Fin 256) (s : State) : Out := done s (doRds p imm s)

/-- WRS (R302). -/
def execWrs (p : Fin 97) (imm : Fin 256) (s : State) : Out := done s (doWrs p imm s)

/-- EI (R308). -/
def execEi (s : State) : Out := done s (doEi s)

/-- DI (R308). -/
def execDi (s : State) : Out := done s (doDi s)

/-- WAIT (R313). -/
def execWaitOp (s : State) : Out := done s (doWait s)

/-- WAITEV (R315). -/
def execWaitev (p : Fin 96) (imm : Fin 256) (s : State) : Out := done s (doWaitev p imm s)

/-- CLOVE_RETI (R313). -/
def execCloveReti (s : State) : Out := done s (doCloveReti s)

/-- SIG (R308). -/
def execSig (p : Fin 96) (s : State) : Out := done s (doSig p s)

/-- BRK (R420). -/
def execBrk (p : Fin 97) (s : State) : Out := done s (doBrk p s)

/-- TRAP (R311). -/
def execTrap (p : Fin 97) (imm : Fin 256) (s : State) : Out := done s (doTrap p imm s)

/-- CUSTOMER_OPCODE (R318). -/
def execCustomerOpcode (p : Fin 97) (k : Fin 16) (imm : Fin 65536) (s : State) : Out := done s (doCustomerOpcode p k imm s)

/-- ILLEGAL_OPCODE (R334). -/
def execIllegalOpcode (p : Fin 97) (op : Fin 256) (s : State) : Out := done s (doIllegalOpcode p op s)

/-- CLOVE_INTERRUPT_ENTRY (R313). -/
def execCloveInterruptEntry (s : State) : Out := done s (doCloveInterruptEntry s)

/-- WINDOW_ACCESS_COMPLETE (R304). -/
def execWindowAccessComplete (p : Fin 97) (s : State) : Out := done s (doWindowAccessComplete p s)

/-- MICROWORD_WAIT_LIMIT (R336). -/
def execMicrowordWaitLimit (p : Fin 97) (s : State) : Out := done s (doMicrowordWaitLimit p s)

/-- SUMAC_START (R325). -/
def execSumacStart (ag : Agent) (p : Fin 96) (s : State) : Out := done s (doSumacStart ag p s)

/-- SUMAC_HALT (R325). -/
def execSumacHalt (ag : Agent) (p : Fin 96) (s : State) : Out := done s (doSumacHalt ag p s)

/-- SUMAC_RESET (R325). -/
def execSumacReset (ag : Agent) (p : Fin 96) (s : State) : Out := done s (doSumacReset ag p s)

/-- SUMAC_MEMORY_WRITE (R325). -/
def execSumacMemoryWrite (p : Fin 96) (off : Fin 8192) (v : Word) (s : State) : Out := done s (doSumacMemoryWrite p off v s)

/-- SUMAC_DOORBELL (R315). -/
def execSumacDoorbell (ag : Agent) (p : Fin 96) (s : State) : Out := done s (doSumacDoorbell ag p s)

/-- SUMAC_TIMER_EXPIRY (R315). -/
def execSumacTimerExpiry (p : Fin 96) (s : State) : Out := done s (doSumacTimerExpiry p s)

/-- DECODE_TABLE_WRITE (R317). -/
def execDecodeTableWrite (ag : Agent) (u : Fin 13) (e : Fin 256) (v : Word) (s : State) : Out := done s (doDecodeTableWrite ag u e v s)

/-- DT_LOCK (R317). -/
def execDtLock (ag : Agent) (u : Fin 13) (s : State) : Out := done s (doDtLock ag u s)

/-- CUST_OPEN (R318). -/
def execCustOpen (ag : Agent) (u : Fin 13) (s : State) : Out := done s (doCustOpen ag u s)

/-- PATCH_UNIT_WRITE (R324). -/
def execPatchUnitWrite (ag : Agent) (u : Fin 16) (data : Bool) (v : Word) (s : State) : Out := done s (doPatchUnitWrite ag u data v s)

/-- XIP_LINE_FILL (R323). -/
def execXipLineFill (err : Bool) (s : State) : Out := done s (doXipLineFill err s)

/-- XIP_INV (R323). -/
def execXipInv (ag : Agent) (s : State) : Out := done s (doXipInv ag s)

/-- LOCKSTEP_INJECT (R321). -/
def execLockstepInject (ag : Agent) (s : State) : Out := done s (doLockstepInject ag s)

/-- MICROCODE_COPY_DONE (R327). -/
def execMicrocodeCopyDone (s : State) : Out := done s (doMicrocodeCopyDone s)

/-- CONTROL_STORE_WRITE (R329). -/
def execControlStoreWrite (ag : Agent) (u : Fin 13) (w : Fin 2048) (g : Fin 4) (v : Word) (s : State) : Out := done s (doControlStoreWrite ag u w g v s)

/-- BANK_SWAP_REQUEST (R338). -/
def execBankSwapRequest (ag : Agent) (s : State) : Out := done s (doBankSwapRequest ag s)

/-- CONTROL_STORE_LOCK (R338). -/
def execControlStoreLock (ag : Agent) (u : Fin 13) (s : State) : Out := done s (doControlStoreLock ag u s)

/-- ROM_PATCH_MATCH_WRITE (R339). -/
def execRomPatchMatchWrite (ag : Agent) (m : Fin 32) (v : Word) (s : State) : Out := done s (doRomPatchMatchWrite ag m v s)

/-- PATCH_RAM_WRITE (R339). -/
def execPatchRamWrite (w : Fin 1024) (v : Fin 65536) (s : State) : Out := done s (doPatchRamWrite w v s)

/-- ROMP_LOCK (R339). -/
def execRompLock (ag : Agent) (s : State) : Out := done s (doRompLock ag s)

/-- REQUEST_WRITE (R346). -/
def execRequestWrite (i : Fin 18) (w : Fin 1024) (v : Word) (s : State) : Out := done s (doRequestWrite i w v s)

/-- RING (R345). -/
def execRing (i : Fin 18) (s : State) : Out := done s (doRing i s)

/-- TAKE (R345). -/
def execTake (ag : Agent) (i : Fin 18) (s : State) : Out := done s (doTake ag i s)

/-- POST (R345). -/
def execPost (ag : Agent) (i : Fin 18) (s : State) : Out := done s (doPost ag i s)

/-- ACK (R345). -/
def execAck (i : Fin 18) (s : State) : Out := done s (doAck i s)

/-- ABORT (R346). -/
def execAbort (i : Fin 18) (s : State) : Out := done s (doAbort i s)

/-- SPI_TRANSACTION (R343). -/
def execSpiTransaction (l : List Byte) (s : State) : Out := done s (doSpiTransaction l s)

/-- GET_VERSION (R358). -/
def execGetVersion (i : Fin 18) (s : State) : Out := done s (doCommand cmdGetVersion i s)

/-- GET_STATUS (R359). -/
def execGetStatus (i : Fin 18) (s : State) : Out := done s (doCommand cmdGetStatus i s)

/-- SET_MB_PERM (R356). -/
def execSetMbPerm (i : Fin 18) (s : State) : Out := done s (doCommand cmdSetMbPerm i s)

/-- RESET (R359). -/
def execResetCmd (i : Fin 18) (s : State) : Out := done s (doCommand cmdReset i s)

/-- SX_RESTART (R359). -/
def execSxRestart (i : Fin 18) (s : State) : Out := done s (doCommand cmdSxRestart i s)

/-- HUB_CFG (R359). -/
def execHubCfg (i : Fin 18) (s : State) : Out := done s (doCommand cmdHubCfg i s)

/-- MAP_WRITE (R359). -/
def execMapWrite (i : Fin 18) (s : State) : Out := done s (doCommand cmdMapWrite i s)

/-- MAP_READ (R359). -/
def execMapRead (i : Fin 18) (s : State) : Out := done s (doCommand cmdMapRead i s)

/-- TP_CFG (R359). -/
def execTpCfg (i : Fin 18) (s : State) : Out := done s (doCommand cmdTpCfg i s)

/-- PLANE_SEL (R359). -/
def execPlaneSel (i : Fin 18) (s : State) : Out := done s (doCommand cmdPlaneSel i s)

/-- SPARE_CFG (R359). -/
def execSpareCfg (i : Fin 18) (s : State) : Out := done s (doCommand cmdSpareCfg i s)

/-- ZONE_SET (R359). -/
def execZoneSet (i : Fin 18) (s : State) : Out := done s (doCommand cmdZoneSet i s)

/-- ZONE_GET (R359). -/
def execZoneGet (i : Fin 18) (s : State) : Out := done s (doCommand cmdZoneGet i s)

/-- ZONE_GAIN (R359). -/
def execZoneGain (i : Fin 18) (s : State) : Out := done s (doCommand cmdZoneGain i s)

/-- ZONE_MUTE (R359). -/
def execZoneMute (i : Fin 18) (s : State) : Out := done s (doCommand cmdZoneMute i s)

/-- PAIR_SET (R359). -/
def execPairSet (i : Fin 18) (s : State) : Out := done s (doCommand cmdPairSet i s)

/-- MSG_STORE (R231). -/
def execMsgStore (i : Fin 18) (s : State) : Out := done s (doCommand cmdMsgStore i s)

/-- MSG_DELETE (R359). -/
def execMsgDelete (i : Fin 18) (s : State) : Out := done s (doCommand cmdMsgDelete i s)

/-- MSG_INFO (R359). -/
def execMsgInfo (i : Fin 18) (s : State) : Out := done s (doCommand cmdMsgInfo i s)

/-- ANNOUNCE (R237). -/
def execAnnounce (i : Fin 18) (s : State) : Out := done s (doCommand cmdAnnounce i s)

/-- CANCEL (R238). -/
def execCancel (i : Fin 18) (s : State) : Out := done s (doCommand cmdCancel i s)

/-- SCHED_GET (R359). -/
def execSchedGet (i : Fin 18) (s : State) : Out := done s (doCommand cmdSchedGet i s)

/-- FLOW_SET (R359). -/
def execFlowSet (i : Fin 18) (s : State) : Out := done s (doCommand cmdFlowSet i s)

/-- FLOW_EN (R359). -/
def execFlowEn (i : Fin 18) (s : State) : Out := done s (doCommand cmdFlowEn i s)

/-- FLOW_STAT (R359). -/
def execFlowStat (i : Fin 18) (s : State) : Out := done s (doCommand cmdFlowStat i s)

/-- PORT_CFG (R359). -/
def execPortCfg (i : Fin 18) (s : State) : Out := done s (doCommand cmdPortCfg i s)

/-- RING_CFG (R359). -/
def execRingCfg (i : Fin 18) (s : State) : Out := done s (doCommand cmdRingCfg i s)

/-- PTP_CFG (R359). -/
def execPtpCfg (i : Fin 18) (s : State) : Out := done s (doCommand cmdPtpCfg i s)

/-- GCL_SET (R359). -/
def execGclSet (i : Fin 18) (s : State) : Out := done s (doCommand cmdGclSet i s)

/-- AN_LAW (R359). -/
def execAnLaw (i : Fin 18) (s : State) : Out := done s (doCommand cmdAnLaw i s)

/-- AN_CHAN (R359). -/
def execAnChan (i : Fin 18) (s : State) : Out := done s (doCommand cmdAnChan i s)

/-- AN_RUN (R359). -/
def execAnRun (i : Fin 18) (s : State) : Out := done s (doCommand cmdAnRun i s)

/-- AN_RESULT (R359). -/
def execAnResult (i : Fin 18) (s : State) : Out := done s (doCommand cmdAnResult i s)

/-- AN_REF (R359). -/
def execAnRef (i : Fin 18) (s : State) : Out := done s (doCommand cmdAnRef i s)

/-- SF_ZONE (R359). -/
def execSfZone (i : Fin 18) (s : State) : Out := done s (doCommand cmdSfZone i s)

/-- SF_LIMITS (R359). -/
def execSfLimits (i : Fin 18) (s : State) : Out := done s (doCommand cmdSfLimits i s)

/-- SF_COMMIT (R222). -/
def execSfCommit (i : Fin 18) (s : State) : Out := done s (doCommand cmdSfCommit i s)

/-- SF_RESULT (R359). -/
def execSfResult (i : Fin 18) (s : State) : Out := done s (doCommand cmdSfResult i s)

/-- SF_LOOP (R222). -/
def execSfLoop (i : Fin 18) (s : State) : Out := done s (doCommand cmdSfLoop i s)

/-- STORE_INFO (R359). -/
def execStoreInfo (i : Fin 18) (s : State) : Out := done s (doCommand cmdStoreInfo i s)

/-- REC_CFG (R359). -/
def execRecCfg (i : Fin 18) (s : State) : Out := done s (doCommand cmdRecCfg i s)

/-- REC_PIN (R244). -/
def execRecPin (i : Fin 18) (s : State) : Out := done s (doCommand cmdRecPin i s)

/-- REC_UNPIN (R244). -/
def execRecUnpin (i : Fin 18) (s : State) : Out := done s (doCommand cmdRecUnpin i s)

/-- REC_READ (R359). -/
def execRecRead (i : Fin 18) (s : State) : Out := done s (doCommand cmdRecRead i s)

/-- LOG_READ (R359). -/
def execLogRead (i : Fin 18) (s : State) : Out := done s (doCommand cmdLogRead i s)

/-- REG_READ (R359). -/
def execRegRead (i : Fin 18) (s : State) : Out := done s (doCommand cmdRegRead i s)

/-- VT_XFER (R421). -/
def execVtXfer (i : Fin 18) (s : State) : Out := done s (doCommand cmdVtXfer i s)

/-- NUTMEG_READ (R428). -/
def execNutmegRead (i : Fin 18) (s : State) : Out := done s (doCommand cmdNutmegRead i s)

/-- HEALTH (R359). -/
def execHealth (i : Fin 18) (s : State) : Out := done s (doCommand cmdHealth i s)

/-- ATTEST (R382). -/
def execAttest (i : Fin 18) (s : State) : Out := done s (doCommand cmdAttest i s)

/-- IMAGE_UPLOAD (R380). -/
def execImageUpload (i : Fin 18) (s : State) : Out := done s (doCommand cmdImageUpload i s)

/-- DEBUG_CHALLENGE (R383). -/
def execDebugChallenge (i : Fin 18) (s : State) : Out := done s (doCommand cmdDebugChallenge i s)

/-- DEBUG_RESPONSE (R383). -/
def execDebugResponse (i : Fin 18) (s : State) : Out := done s (doCommand cmdDebugResponse i s)

/-- REMOTE_KEY (R359). -/
def execRemoteKey (i : Fin 18) (s : State) : Out := done s (doCommand cmdRemoteKey i s)

/-- REMOTE_CLEAR (R359). -/
def execRemoteClear (i : Fin 18) (s : State) : Out := done s (doCommand cmdRemoteClear i s)

/-- ALWAYS_ON_POWER_UP (R393). -/
def execAlwaysOnPowerUp (s : State) : Out := done s (doAlwaysOnPowerUp s)

/-- POWER_ON_RESET (R393). -/
def execPowerOnReset (s : State) : Out := done s (doPowerOnReset s)

/-- PIN_RESET (R393). -/
def execPinReset (s : State) : Out := done s (doPinReset s)

/-- WARM_RESET (R394). -/
def execWarmReset (soft : Bool) (s : State) : Out := done s (doWarmReset soft s)

/-- TILE_RESET (R393). -/
def execTileReset (ag : Agent) (t : Fin 12) (s : State) : Out := done s (doTileReset ag t s)

/-- RESET_RELEASE (R394). -/
def execResetRelease (s : State) : Out := done s (doResetRelease s)

/-- BOOT_START (R370). -/
def execBootStart (sfdp : Bool) (bad : List Nat) (s : State) : Out := done s (doBootStart sfdp bad s)

/-- START_WINDOW_EXPIRY (R376). -/
def execStartWindowExpiry (s : State) : Out := done s (doStartWindowExpiry s)

/-- BOOT_DONE (R377). -/
def execBootDone (ag : Agent) (s : State) : Out := done s (doBootDone ag s)

/-- COMMIT_RB (R377). -/
def execCommitRb (ag : Agent) (s : State) : Out := done s (doCommitRb ag s)

/-- XIP_WP (R370). -/
def execXipWp (ag : Agent) (s : State) : Out := done s (doXipWp ag s)

/-- MINIMAL_NOTICE (R381). -/
def execMinimalNotice (s : State) : Out := done s (doMinimalNotice s)

/-- SECURITY_JOB_START (R386). -/
def execSecurityJobStart (ag : Agent) (hash : Bool) (v : Word) (s : State) : Out := done s (doSecurityJobStart ag hash v s)

/-- SECURITY_JOB_DONE (R386). -/
def execSecurityJobDone (hash : Bool) (s : State) : Out := done s (doSecurityJobDone hash s)

/-- GLITCH_DETECT (R387). -/
def execGlitchDetect (clock : Bool) (s : State) : Out := done s (doGlitchDetect clock s)

/-- DEBUG_AUTH_GO (R412). -/
def execDebugAuthGo (ag : Agent) (len : Fin 262144) (s : State) : Out := done s (doDebugAuthGo ag len s)

/-- DEBUG_AUTH_DONE (R412). -/
def execDebugAuthDone (s : State) : Out := done s (doDebugAuthDone s)

/-- DEBUG_LOCKOUT_END (R383). -/
def execDebugLockoutEnd (s : State) : Out := done s (doDebugLockoutEnd s)

/-- SESSION_LOCK (R384). -/
def execSessionLock (ag : Agent) (s : State) : Out := done s (doSessionLock ag s)

/-- REFCLK_LOSS (R390). -/
def execRefclkLoss (s : State) : Out := done s (doRefclkLoss s)

/-- HOLD_EXPIRY (R390). -/
def execHoldExpiry (s : State) : Out := done s (doHoldExpiry s)

/-- FALLBACK_LOCK (R390). -/
def execFallbackLock (s : State) : Out := done s (doFallbackLock s)

/-- XTAL_READY (R391). -/
def execXtalReady (s : State) : Out := done s (doXtalReady s)

/-- REF_OK (R391). -/
def execRefOk (s : State) : Out := done s (doRefOk s)

/-- RETURN (R391). -/
def execCkReturn (ag : Agent) (s : State) : Out := done s (doReturn ag s)

/-- PLL_LOCK_LOSS (R392). -/
def execPllLockLoss (p : Fin 4) (s : State) : Out := done s (doPllLockLoss p s)

/-- CLOCK_GATE_WRITE (R389). -/
def execClockGateWrite (ag : Agent) (hi : Bool) (v : Word) (s : State) : Out := done s (doClockGateWrite ag hi v s)

/-- TILE_GATE_WRITE (R398). -/
def execTileGateWrite (ag : Agent) (v : Word) (s : State) : Out := done s (doTileGateWrite ag v s)

/-- TILE_POWER_OFF (R398). -/
def execTilePowerOff (t : Fin 12) (s : State) : Out := done s (doTilePowerOff t s)

/-- TILE_POWER_ON (R398). -/
def execTilePowerOn (t : Fin 12) (s : State) : Out := done s (doTilePowerOn t s)

/-- STBY (R400). -/
def execStby (ag : Agent) (s : State) : Out := done s (doStby ag s)

/-- STANDBY_ENTERED (R400). -/
def execStandbyEntered (s : State) : Out := done s (doStandbyEntered s)

/-- WAKE (R401). -/
def execWake (ag : Agent) (s : State) : Out := done s (doWake ag s)

/-- STANDBY_EXITED (R401). -/
def execStandbyExited (s : State) : Out := done s (doStandbyExited s)

/-- WD_DEV_KICK (R404). -/
def execWdDevKick (ag : Agent) (v : Word) (s : State) : Out := done s (doWdDevKick ag v s)

/-- WD_CV_KICK (R402). -/
def execWdCvKick (ag : Agent) (v : Word) (s : State) : Out := done s (doWdCvKick ag v s)

/-- WD_DEV_ARM (R404). -/
def execWdDevArm (ag : Agent) (s : State) : Out := done s (doWdDevArm ag s)

/-- DEVICE_WATCHDOG_WARNING (R402). -/
def execDeviceWatchdogWarning (s : State) : Out := done s (doDeviceWatchdogWarning s)

/-- DEVICE_WATCHDOG_EXPIRY (R404). -/
def execDeviceWatchdogExpiry (s : State) : Out := done s (doDeviceWatchdogExpiry s)

/-- CLOVE_WATCHDOG_WARNING (R402). -/
def execCloveWatchdogWarning (s : State) : Out := done s (doCloveWatchdogWarning s)

/-- CLOVE_WATCHDOG_EXPIRY (R402). -/
def execCloveWatchdogExpiry (s : State) : Out := done s (doCloveWatchdogExpiry s)

/-- CORE_WATCHDOG_EXPIRY (R403). -/
def execCoreWatchdogExpiry (n : Fin 48) (s : State) : Out := done s (doCoreWatchdogExpiry n s)

/-- DDR_CHANNEL_LOST (R408). -/
def execDdrChannelLost (c : Fin 2) (s : State) : Out := done s (doDdrChannelLost c s)

/-- DDR_REDIRECT_DONE (R432). -/
def execDdrRedirectDone (c : Fin 2) (s : State) : Out := done s (doDdrRedirectDone c s)

/-- SUPPLY_MONITOR_FALL (R454). -/
def execSupplyMonitorFall (k : Fin 8) (s : State) : Out := done s (doSupplyMonitorFall k s)

/-- DAP_ACCESS (R410). -/
def execDapAccess (a : Fin 1099511627776) (v : Word) (write : Bool) (nse : Bool) (s : State) : Out := done s (doDapAccess a v write nse s)

/-- FREEZE (R416). -/
def execFreeze (n : Fin 48) (s : State) : Out := done s (doFreeze n s)

/-- FREEZE_TAKEN (R416). -/
def execFreezeTaken (n : Fin 48) (s : State) : Out := done s (doFreezeTaken n s)

/-- FREEZE_LOCK_BREAK (R418). -/
def execFreezeLockBreak (n : Fin 48) (s : State) : Out := done s (doFreezeLockBreak n s)

/-- BSTEP (R417). -/
def execBstep (n : Fin 48) (s : State) : Out := done s (doBstep n s)

/-- CLOVE_DEBUG_HALT (R420). -/
def execCloveDebugHalt (ag : Agent) (s : State) : Out := done s (doCloveDebugHalt ag s)

/-- CLOVE_DEBUG_STEP (R420). -/
def execCloveDebugStep (ag : Agent) (s : State) : Out := done s (doCloveDebugStep ag s)

/-- RESUME (R420). -/
def execResume (ag : Agent) (s : State) : Out := done s (doResume ag s)

/-- SUMAC_DEBUG_STEP (R420). -/
def execSumacDebugStep (ag : Agent) (p : Fin 96) (s : State) : Out := done s (doSumacDebugStep ag p s)

/-- VT_OUT_READ (R421). -/
def execVtOutRead (t : Fin 49) (s : State) : Out := done s (doVtOutRead t s)

/-- VT_IN_WRITE (R421). -/
def execVtInWrite (ag : Agent) (t : Fin 49) (v : Word) (s : State) : Out := done s (doVtInWrite ag t v s)

/-- WIN_SEL_WRITE (R422). -/
def execWinSelWrite (ag : Agent) (v : Word) (s : State) : Out := done s (doWinSelWrite ag v s)

/-- WINDOW_CAPTURE_DONE (R422). -/
def execWindowCaptureDone (s : State) : Out := done s (doWindowCaptureDone s)

/-- WINDOW_WRITE (R424). -/
def execWindowWrite (ag : Agent) (w : Fin 1024) (v : Word) (s : State) : Out := done s (doWindowWrite ag w v s)

/-- NUTMEG_RECORD (R426). -/
def execNutmegRecord (ag : Agent) (v : Word) (s : State) : Out := done s (doNutmegRecord ag v s)

/-- NUTMEG_FREEZE (R427). -/
def execNutmegFreeze (s : State) : Out := done s (doNutmegFreeze s)

/-- REARM (R427). -/
def execRearm (ag : Agent) (s : State) : Out := done s (doRearm ag s)

/-- OUTBOUND_TIMEOUT (R447). -/
def execOutboundTimeout (ag : Agent) (a : Fin 1099511627776) (write : Bool) (s : State) : Out := done s (doOutboundTimeout ag a write s)

/-- RC_READ (R11). -/
def execRcRead (ag : Agent) (a : Fin 1099511627776) (s : State) : Out := done s (doRcRead ag a s)

/-- LO_HALF_READ (R11). -/
def execLoHalfRead (ag : Agent) (k : Fin 4) (s : State) : Out := done s (doLoHalfRead ag k s)

/-- REGISTER_WRITE (R11). -/
def execRegisterWrite (ag : Agent) (a : Fin 1099511627776) (v : Word) (s : State) : Out := done s (doRegisterWrite ag a v s)

/-- SUPPLY_MONITOR_RISE (R454). -/
def execSupplyMonitorRise (k : Fin 8) (s : State) : Out := done s (doSupplyMonitorRise k s)

/-- PLL_LOCK_RETURN (R392). -/
def execPllLockReturn (p : Fin 4) (s : State) : Out := done s (doPllLockReturn p s)

/-- REFCLK_RETURN (R390). -/
def execRefclkReturn (s : State) : Out := done s (doRefclkReturn s)

/-- IO_UNIT_READY (R315). -/
def execIoUnitReady (p : Fin 96) (s : State) : Out := done s (doIoUnitReady p s)

/-- WDO_PULSE_END (R404). -/
def execWdoPulseEnd (s : State) : Out := done s (doWdoPulseEnd s)

/-- PCIE_LINK_UP (R456). -/
def execPcieLinkUp (l : Fin 3) (s : State) : Out := done s (doPcieLinkUp l s)

/-- PCIE_LINK_DOWN (R447). -/
def execPcieLinkDown (l : Fin 3) (s : State) : Out := done s (doPcieLinkDown l s)

/-- HOST_POWER_STATE_CHANGE (R290). -/
def execHostPowerStateChange (d3 : Bool) (l2 : Bool) (s : State) : Out := done s (doHostPowerStateChange d3 l2 s)

/-- TAP_INSTRUCTION_UPDATE (R409). -/
def execTapInstructionUpdate (ir : Fin 256) (s : State) : Out := done s (doTapInstructionUpdate ir s)

/-- GATE_INTERVAL_END (R165). -/
def execGateIntervalEnd (p : Fin 4) (s : State) : Out := done s (doGateIntervalEnd p s)

/-- FLT_INPUT_HIGH (R149). -/
def execFltInputHigh (g : Fin 8) (s : State) : Out := done s (doFltInputHigh g s)

end Sys2Proof.Machine
end

