-- ==== Sys2Proof/Machine/Dispatch.lean ====
section
/-! DEFINITION. One arm per command: each calls the meaning of that command. -/

namespace Sys2Proof.Machine

def exec (i : Instr) (s : State) : Host.Outcome State Fault Refusal :=
  match i with
  | .frameTick x => Sys2Proof.Machine.execFrameTick x s
  | .blockTick => Sys2Proof.Machine.execBlockTick s
  | .holdOffEnd => Sys2Proof.Machine.execHoldOffEnd s
  | .shadowCopyDone => Sys2Proof.Machine.execShadowCopyDone s
  | .portFailed t => Sys2Proof.Machine.execPortFailed t s
  | .swapReq ag => Sys2Proof.Machine.execSwapReq ag s
  | .swapCancel ag withReq => Sys2Proof.Machine.execSwapCancel ag withReq s
  | .shadowMapWrite ag off v => Sys2Proof.Machine.execShadowMapWrite ag off v s
  | .activeMapWrite ag => Sys2Proof.Machine.execActiveMapWrite ag s
  | .tpCfgWrite ag t v => Sys2Proof.Machine.execTpCfgWrite ag t v s
  | .sxCfgWrite ag v => Sys2Proof.Machine.execSxCfgWrite ag v s
  | .runStart ag => Sys2Proof.Machine.execRunStart ag s
  | .runStop ag => Sys2Proof.Machine.execRunStop ag s
  | .planeSelectWrite ag v => Sys2Proof.Machine.execPlaneSelectWrite ag v s
  | .planeInject ag plane slot => Sys2Proof.Machine.execPlaneInject ag plane slot s
  | .txrdyWrite ag t => Sys2Proof.Machine.execTxrdyWrite ag t s
  | .failSet ag t => Sys2Proof.Machine.execFailSet ag t s
  | .physWrite ag t phys => Sys2Proof.Machine.execPhysWrite ag t phys s
  | .bundleIssue n => Sys2Proof.Machine.execBundleIssue n s
  | .resultLanding n => Sys2Proof.Machine.execResultLanding n s
  | .interlockedAccessDone n => Sys2Proof.Machine.execInterlockedAccessDone n s
  | .retiResume n => Sys2Proof.Machine.execRetiResume n s
  | .lockGrant n => Sys2Proof.Machine.execLockGrant n s
  | .lockBreak n => Sys2Proof.Machine.execLockBreak n s
  | .handlerEntry n => Sys2Proof.Machine.execHandlerEntry n s
  | .faultStateEntry n => Sys2Proof.Machine.execFaultStateEntry n s
  | .coreStart n => Sys2Proof.Machine.execCoreStart n s
  | .coreHalt n => Sys2Proof.Machine.execCoreHalt n s
  | .haltEntry n => Sys2Proof.Machine.execHaltEntry n s
  | .winStep n => Sys2Proof.Machine.execWinStep n s
  | .coreReset n => Sys2Proof.Machine.execCoreReset n s
  | .programMemoryLoad ag n priv off v => Sys2Proof.Machine.execProgramMemoryLoad ag n priv off v s
  | .ownerWrite ag t b v => Sys2Proof.Machine.execOwnerWrite ag t b v s
  | .handoverComplete t b => Sys2Proof.Machine.execHandoverComplete t b s
  | .drainAbort t b => Sys2Proof.Machine.execDrainAbort t b s
  | .remapWrite t b k v => Sys2Proof.Machine.execRemapWrite t b k v s
  | .remapCopyStart t b k => Sys2Proof.Machine.execRemapCopyStart t b k s
  | .remapCopyDone t b k => Sys2Proof.Machine.execRemapCopyDone t b k s
  | .testWindowStart t => Sys2Proof.Machine.execTestWindowStart t s
  | .testWindowEnd t b f => Sys2Proof.Machine.execTestWindowEnd t b f s
  | .bktIntervalWrite t v => Sys2Proof.Machine.execBktIntervalWrite t v s
  | .correctionUpdate n v => Sys2Proof.Machine.execCorrectionUpdate n v s
  | .loopFault n => Sys2Proof.Machine.execLoopFault n s
  | .impedanceEstimate n sv si => Sys2Proof.Machine.execImpedanceEstimate n sv si s
  | .openDetect n => Sys2Proof.Machine.execOpenDetect n s
  | .shortDetect n => Sys2Proof.Machine.execShortDetect n s
  | .groupFault g => Sys2Proof.Machine.execGroupFault g s
  | .fltLatchedClear g => Sys2Proof.Machine.execFltLatchedClear g s
  | .driveEnableLoss g => Sys2Proof.Machine.execDriveEnableLoss g s
  | .enableWrite n b => Sys2Proof.Machine.execEnableWrite n b s
  | .clrFault n => Sys2Proof.Machine.execClrFault n s
  | .calStart n => Sys2Proof.Machine.execCalStart n s
  | .calDone n => Sys2Proof.Machine.execCalDone n s
  | .senseStuck n => Sys2Proof.Machine.execSenseStuck n s
  | .senseOverload n => Sys2Proof.Machine.execSenseOverload n s
  | .tdmSlip p => Sys2Proof.Machine.execTdmSlip p s
  | .tdmLock p => Sys2Proof.Machine.execTdmLock p s
  | .frameReceive p fr => Sys2Proof.Machine.execFrameReceive p fr s
  | .frameForward p => Sys2Proof.Machine.execFrameForward p s
  | .linkUp p => Sys2Proof.Machine.execLinkUp p s
  | .linkDown p => Sys2Proof.Machine.execLinkDown p s
  | .ddSourceForget src => Sys2Proof.Machine.execDdSourceForget src s
  | .supervisionSend => Sys2Proof.Machine.execSupervisionSend s
  | .ringOpenTimeout r => Sys2Proof.Machine.execRingOpenTimeout r s
  | .holdoverEntry => Sys2Proof.Machine.execHoldoverEntry s
  | .dcoFreqWrite v => Sys2Proof.Machine.execDcoFreqWrite v s
  | .cbsWrite p hi v => Sys2Proof.Machine.execCbsWrite p hi v s
  | .gclSwapReq p => Sys2Proof.Machine.execGclSwapReq p s
  | .gclCycleStart p => Sys2Proof.Machine.execGclCycleStart p s
  | .packetLaunch f => Sys2Proof.Machine.execPacketLaunch f s
  | .flowEnable f => Sys2Proof.Machine.execFlowEnable f s
  | .flowDisable f => Sys2Proof.Machine.execFlowDisable f s
  | .flowFieldWrite f r v => Sys2Proof.Machine.execFlowFieldWrite f r v s
  | .hubAnnounceSend => Sys2Proof.Machine.execHubAnnounceSend s
  | .hubTakeover => Sys2Proof.Machine.execHubTakeover s
  | .hubElectionTimeout => Sys2Proof.Machine.execHubElectionTimeout s
  | .isolation => Sys2Proof.Machine.execIsolation s
  | .ringEnableWrite v => Sys2Proof.Machine.execRingEnableWrite v s
  | .remoteFrame src l => Sys2Proof.Machine.execRemoteFrame src l s
  | .anStart => Sys2Proof.Machine.execAnStart s
  | .anStop => Sys2Proof.Machine.execAnStop s
  | .anRunBegin => Sys2Proof.Machine.execAnRunBegin s
  | .anRunEnd => Sys2Proof.Machine.execAnRunEnd s
  | .anProcessingDone => Sys2Proof.Machine.execAnProcessingDone s
  | .anModeWrite m => Sys2Proof.Machine.execAnModeWrite m s
  | .sfUpdate => Sys2Proof.Machine.execSfUpdate s
  | .sfResultsWritten => Sys2Proof.Machine.execSfResultsWritten s
  | .sfEnable => Sys2Proof.Machine.execSfEnable s
  | .limLock => Sys2Proof.Machine.execLimLock s
  | .sfLimitWrite z v => Sys2Proof.Machine.execSfLimitWrite z v s
  | .nvmeCompletion p admin what => Sys2Proof.Machine.execNvmeCompletion p admin what s
  | .nvmeTimeout p => Sys2Proof.Machine.execNvmeTimeout p s
  | .driveReturn p intact => Sys2Proof.Machine.execDriveReturn p intact s
  | .resyncDone p => Sys2Proof.Machine.execResyncDone p s
  | .playStart c => Sys2Proof.Machine.execPlayStart c s
  | .playEnd c => Sys2Proof.Machine.execPlayEnd c s
  | .scheduleReceive l => Sys2Proof.Machine.execScheduleReceive l s
  | .recordHalfFull r => Sys2Proof.Machine.execRecordHalfFull r s
  | .enqt ag q e => Sys2Proof.Machine.execEnqt ag q e s
  | .enqh ag q e => Sys2Proof.Machine.execEnqh ag q e s
  | .deq ag q => Sys2Proof.Machine.execDeq ag q s
  | .peek ag q => Sys2Proof.Machine.execPeek ag q s
  | .moveOp ag q d front => Sys2Proof.Machine.execMoveOp ag q d front s
  | .splice ag q d => Sys2Proof.Machine.execSplice ag q d s
  | .flushOp ag q => Sys2Proof.Machine.execFlushOp ag q s
  | .countOp ag q => Sys2Proof.Machine.execCountOp ag q s
  | .alloc ag => Sys2Proof.Machine.execAlloc ag s
  | .freeOp ag e => Sys2Proof.Machine.execFreeOp ag e s
  | .qmIllegalOperation ag op q => Sys2Proof.Machine.execQmIllegalOperation ag op q s
  | .qmDescriptorFetchDone q => Sys2Proof.Machine.execQmDescriptorFetchDone q s
  | .initDesc => Sys2Proof.Machine.execInitDesc s
  | .initDescDone => Sys2Proof.Machine.execInitDescDone s
  | .initPool => Sys2Proof.Machine.execInitPool s
  | .initPoolDone => Sys2Proof.Machine.execInitPoolDone s
  | .qmWriteBack => Sys2Proof.Machine.execQmWriteBack s
  | .qmWriteBackDone => Sys2Proof.Machine.execQmWriteBackDone s
  | .qmEnableWrite en => Sys2Proof.Machine.execQmEnableWrite en s
  | .qmQcfgWrite ag v => Sys2Proof.Machine.execQmQcfgWrite ag v s
  | .qmQlimWrite ag v => Sys2Proof.Machine.execQmQlimWrite ag v s
  | .watchCfgWrite w v => Sys2Proof.Machine.execWatchCfgWrite w v s
  | .watchPendClear ix v => Sys2Proof.Machine.execWatchPendClear ix v s
  | .arm e c => Sys2Proof.Machine.execArm e c s
  | .go e c => Sys2Proof.Machine.execGo e c s
  | .dmaStop e c => Sys2Proof.Machine.execDmaStop e c s
  | .dmaReset e c => Sys2Proof.Machine.execDmaReset e c s
  | .append e c => Sys2Proof.Machine.execAppend e c s
  | .dmaDescriptorFetchDone e c => Sys2Proof.Machine.execDmaDescriptorFetchDone e c s
  | .dmaBurst e lines => Sys2Proof.Machine.execDmaBurst e lines s
  | .dmaTimeout e c => Sys2Proof.Machine.execDmaTimeout e c s
  | .descriptorComplete e c => Sys2Proof.Machine.execDescriptorComplete e c s
  | .interruptPresent k => Sys2Proof.Machine.execInterruptPresent k s
  | .claim k => Sys2Proof.Machine.execClaim k s
  | .complete k n => Sys2Proof.Machine.execComplete k n s
  | .pendSet ix v => Sys2Proof.Machine.execPendSet ix v s
  | .pendClr ix v => Sys2Proof.Machine.execPendClr ix v s
  | .enSet ix v => Sys2Proof.Machine.execEnSet ix v s
  | .enClr ix v => Sys2Proof.Machine.execEnClr ix v s
  | .srcCfgWrite n which v => Sys2Proof.Machine.execSrcCfgWrite n which v s
  | .holdOffExpiry g => Sys2Proof.Machine.execHoldOffExpiry g s
  | .edgeLatch e rising => Sys2Proof.Machine.execEdgeLatch e rising s
  | .nop p => Sys2Proof.Machine.execNop p s
  | .lit8 p imm => Sys2Proof.Machine.execLit8 p imm s
  | .lit p imm => Sys2Proof.Machine.execLit p imm s
  | .dup p => Sys2Proof.Machine.execDup p s
  | .dropOp p => Sys2Proof.Machine.execDropOp p s
  | .swap p => Sys2Proof.Machine.execSwap p s
  | .over p => Sys2Proof.Machine.execOver p s
  | .rot p => Sys2Proof.Machine.execRot p s
  | .pick p imm => Sys2Proof.Machine.execPick p imm s
  | .tor p => Sys2Proof.Machine.execTor p s
  | .fromr p => Sys2Proof.Machine.execFromr p s
  | .rfetch p => Sys2Proof.Machine.execRfetch p s
  | .add p => Sys2Proof.Machine.execAdd p s
  | .adds p => Sys2Proof.Machine.execAdds p s
  | .addus p => Sys2Proof.Machine.execAddus p s
  | .addc p => Sys2Proof.Machine.execAddc p s
  | .sub p => Sys2Proof.Machine.execSub p s
  | .subs p => Sys2Proof.Machine.execSubs p s
  | .subus p => Sys2Proof.Machine.execSubus p s
  | .subb p => Sys2Proof.Machine.execSubb p s
  | .neg p => Sys2Proof.Machine.execNeg p s
  | .negs p => Sys2Proof.Machine.execNegs p s
  | .abs p => Sys2Proof.Machine.execAbs p s
  | .abss p => Sys2Proof.Machine.execAbss p s
  | .mul p => Sys2Proof.Machine.execMul p s
  | .mulh p => Sys2Proof.Machine.execMulh p s
  | .mulhu p => Sys2Proof.Machine.execMulhu p s
  | .div p => Sys2Proof.Machine.execDiv p s
  | .divs p => Sys2Proof.Machine.execDivs p s
  | .divu p => Sys2Proof.Machine.execDivu p s
  | .mod p => Sys2Proof.Machine.execMod p s
  | .modu p => Sys2Proof.Machine.execModu p s
  | .opAnd p => Sys2Proof.Machine.execOpAnd p s
  | .opOr p => Sys2Proof.Machine.execOpOr p s
  | .opXor p => Sys2Proof.Machine.execOpXor p s
  | .opNot p => Sys2Proof.Machine.execOpNot p s
  | .shl p => Sys2Proof.Machine.execShl p s
  | .shls p => Sys2Proof.Machine.execShls p s
  | .lsr p => Sys2Proof.Machine.execLsr p s
  | .asr p => Sys2Proof.Machine.execAsr p s
  | .eq p => Sys2Proof.Machine.execEq p s
  | .lt p => Sys2Proof.Machine.execLt p s
  | .ltu p => Sys2Proof.Machine.execLtu p s
  | .zeq p => Sys2Proof.Machine.execZeq p s
  | .ld p => Sys2Proof.Machine.execLd p s
  | .st p => Sys2Proof.Machine.execSt p s
  | .ldinc p => Sys2Proof.Machine.execLdinc p s
  | .stinc p => Sys2Proof.Machine.execStinc p s
  | .br p imm => Sys2Proof.Machine.execBr p imm s
  | .bz p imm => Sys2Proof.Machine.execBz p imm s
  | .bnz p imm => Sys2Proof.Machine.execBnz p imm s
  | .jmp p imm => Sys2Proof.Machine.execJmp p imm s
  | .call p imm => Sys2Proof.Machine.execCall p imm s
  | .ret p => Sys2Proof.Machine.execRet p s
  | .calls p => Sys2Proof.Machine.execCalls p s
  | .jmps p => Sys2Proof.Machine.execJmps p s
  | .vjmp imm => Sys2Proof.Machine.execVjmp imm s
  | .rds p imm => Sys2Proof.Machine.execRds p imm s
  | .wrs p imm => Sys2Proof.Machine.execWrs p imm s
  | .ei => Sys2Proof.Machine.execEi s
  | .di => Sys2Proof.Machine.execDi s
  | .waitOp => Sys2Proof.Machine.execWaitOp s
  | .waitev p imm => Sys2Proof.Machine.execWaitev p imm s
  | .cloveReti => Sys2Proof.Machine.execCloveReti s
  | .sig p => Sys2Proof.Machine.execSig p s
  | .brk p => Sys2Proof.Machine.execBrk p s
  | .trap p imm => Sys2Proof.Machine.execTrap p imm s
  | .customerOpcode p k imm => Sys2Proof.Machine.execCustomerOpcode p k imm s
  | .illegalOpcode p op => Sys2Proof.Machine.execIllegalOpcode p op s
  | .cloveInterruptEntry => Sys2Proof.Machine.execCloveInterruptEntry s
  | .windowAccessComplete p => Sys2Proof.Machine.execWindowAccessComplete p s
  | .microwordWaitLimit p => Sys2Proof.Machine.execMicrowordWaitLimit p s
  | .sumacStart ag p => Sys2Proof.Machine.execSumacStart ag p s
  | .sumacHalt ag p => Sys2Proof.Machine.execSumacHalt ag p s
  | .sumacReset ag p => Sys2Proof.Machine.execSumacReset ag p s
  | .sumacMemoryWrite p off v => Sys2Proof.Machine.execSumacMemoryWrite p off v s
  | .sumacDoorbell ag p => Sys2Proof.Machine.execSumacDoorbell ag p s
  | .sumacTimerExpiry p => Sys2Proof.Machine.execSumacTimerExpiry p s
  | .decodeTableWrite ag u e v => Sys2Proof.Machine.execDecodeTableWrite ag u e v s
  | .dtLock ag u => Sys2Proof.Machine.execDtLock ag u s
  | .custOpen ag u => Sys2Proof.Machine.execCustOpen ag u s
  | .patchUnitWrite ag u data v => Sys2Proof.Machine.execPatchUnitWrite ag u data v s
  | .xipLineFill err => Sys2Proof.Machine.execXipLineFill err s
  | .xipInv ag => Sys2Proof.Machine.execXipInv ag s
  | .lockstepInject ag => Sys2Proof.Machine.execLockstepInject ag s
  | .microcodeCopyDone => Sys2Proof.Machine.execMicrocodeCopyDone s
  | .controlStoreWrite ag u w g v => Sys2Proof.Machine.execControlStoreWrite ag u w g v s
  | .bankSwapRequest ag => Sys2Proof.Machine.execBankSwapRequest ag s
  | .controlStoreLock ag u => Sys2Proof.Machine.execControlStoreLock ag u s
  | .romPatchMatchWrite ag m v => Sys2Proof.Machine.execRomPatchMatchWrite ag m v s
  | .patchRamWrite w v => Sys2Proof.Machine.execPatchRamWrite w v s
  | .rompLock ag => Sys2Proof.Machine.execRompLock ag s
  | .requestWrite ix w v => Sys2Proof.Machine.execRequestWrite ix w v s
  | .ring ix => Sys2Proof.Machine.execRing ix s
  | .take ag ix => Sys2Proof.Machine.execTake ag ix s
  | .post ag ix => Sys2Proof.Machine.execPost ag ix s
  | .ack ix => Sys2Proof.Machine.execAck ix s
  | .abort ix => Sys2Proof.Machine.execAbort ix s
  | .spiTransaction l => Sys2Proof.Machine.execSpiTransaction l s
  | .getVersion ix => Sys2Proof.Machine.execGetVersion ix s
  | .getStatus ix => Sys2Proof.Machine.execGetStatus ix s
  | .setMbPerm ix => Sys2Proof.Machine.execSetMbPerm ix s
  | .resetCmd ix => Sys2Proof.Machine.execResetCmd ix s
  | .sxRestart ix => Sys2Proof.Machine.execSxRestart ix s
  | .hubCfg ix => Sys2Proof.Machine.execHubCfg ix s
  | .mapWrite ix => Sys2Proof.Machine.execMapWrite ix s
  | .mapRead ix => Sys2Proof.Machine.execMapRead ix s
  | .tpCfg ix => Sys2Proof.Machine.execTpCfg ix s
  | .planeSel ix => Sys2Proof.Machine.execPlaneSel ix s
  | .spareCfg ix => Sys2Proof.Machine.execSpareCfg ix s
  | .zoneSet ix => Sys2Proof.Machine.execZoneSet ix s
  | .zoneGet ix => Sys2Proof.Machine.execZoneGet ix s
  | .zoneGain ix => Sys2Proof.Machine.execZoneGain ix s
  | .zoneMute ix => Sys2Proof.Machine.execZoneMute ix s
  | .pairSet ix => Sys2Proof.Machine.execPairSet ix s
  | .msgStore ix => Sys2Proof.Machine.execMsgStore ix s
  | .msgDelete ix => Sys2Proof.Machine.execMsgDelete ix s
  | .msgInfo ix => Sys2Proof.Machine.execMsgInfo ix s
  | .announce ix => Sys2Proof.Machine.execAnnounce ix s
  | .cancel ix => Sys2Proof.Machine.execCancel ix s
  | .schedGet ix => Sys2Proof.Machine.execSchedGet ix s
  | .flowSet ix => Sys2Proof.Machine.execFlowSet ix s
  | .flowEn ix => Sys2Proof.Machine.execFlowEn ix s
  | .flowStat ix => Sys2Proof.Machine.execFlowStat ix s
  | .portCfg ix => Sys2Proof.Machine.execPortCfg ix s
  | .ringCfg ix => Sys2Proof.Machine.execRingCfg ix s
  | .ptpCfg ix => Sys2Proof.Machine.execPtpCfg ix s
  | .gclSet ix => Sys2Proof.Machine.execGclSet ix s
  | .anLaw ix => Sys2Proof.Machine.execAnLaw ix s
  | .anChan ix => Sys2Proof.Machine.execAnChan ix s
  | .anRun ix => Sys2Proof.Machine.execAnRun ix s
  | .anResult ix => Sys2Proof.Machine.execAnResult ix s
  | .anRef ix => Sys2Proof.Machine.execAnRef ix s
  | .sfZone ix => Sys2Proof.Machine.execSfZone ix s
  | .sfLimits ix => Sys2Proof.Machine.execSfLimits ix s
  | .sfCommit ix => Sys2Proof.Machine.execSfCommit ix s
  | .sfResult ix => Sys2Proof.Machine.execSfResult ix s
  | .sfLoop ix => Sys2Proof.Machine.execSfLoop ix s
  | .storeInfo ix => Sys2Proof.Machine.execStoreInfo ix s
  | .recCfg ix => Sys2Proof.Machine.execRecCfg ix s
  | .recPin ix => Sys2Proof.Machine.execRecPin ix s
  | .recUnpin ix => Sys2Proof.Machine.execRecUnpin ix s
  | .recRead ix => Sys2Proof.Machine.execRecRead ix s
  | .logRead ix => Sys2Proof.Machine.execLogRead ix s
  | .regRead ix => Sys2Proof.Machine.execRegRead ix s
  | .vtXfer ix => Sys2Proof.Machine.execVtXfer ix s
  | .nutmegRead ix => Sys2Proof.Machine.execNutmegRead ix s
  | .health ix => Sys2Proof.Machine.execHealth ix s
  | .attest ix => Sys2Proof.Machine.execAttest ix s
  | .imageUpload ix => Sys2Proof.Machine.execImageUpload ix s
  | .debugChallenge ix => Sys2Proof.Machine.execDebugChallenge ix s
  | .debugResponse ix => Sys2Proof.Machine.execDebugResponse ix s
  | .remoteKey ix => Sys2Proof.Machine.execRemoteKey ix s
  | .remoteClear ix => Sys2Proof.Machine.execRemoteClear ix s
  | .alwaysOnPowerUp => Sys2Proof.Machine.execAlwaysOnPowerUp s
  | .powerOnReset => Sys2Proof.Machine.execPowerOnReset s
  | .pinReset => Sys2Proof.Machine.execPinReset s
  | .warmReset soft => Sys2Proof.Machine.execWarmReset soft s
  | .tileReset ag t => Sys2Proof.Machine.execTileReset ag t s
  | .resetRelease => Sys2Proof.Machine.execResetRelease s
  | .bootStart sfdp bad => Sys2Proof.Machine.execBootStart sfdp bad s
  | .startWindowExpiry => Sys2Proof.Machine.execStartWindowExpiry s
  | .bootDone ag => Sys2Proof.Machine.execBootDone ag s
  | .commitRb ag => Sys2Proof.Machine.execCommitRb ag s
  | .xipWp ag => Sys2Proof.Machine.execXipWp ag s
  | .minimalNotice => Sys2Proof.Machine.execMinimalNotice s
  | .securityJobStart ag hash v => Sys2Proof.Machine.execSecurityJobStart ag hash v s
  | .securityJobDone hash => Sys2Proof.Machine.execSecurityJobDone hash s
  | .glitchDetect clock => Sys2Proof.Machine.execGlitchDetect clock s
  | .debugAuthGo ag len => Sys2Proof.Machine.execDebugAuthGo ag len s
  | .debugAuthDone => Sys2Proof.Machine.execDebugAuthDone s
  | .debugLockoutEnd => Sys2Proof.Machine.execDebugLockoutEnd s
  | .sessionLock ag => Sys2Proof.Machine.execSessionLock ag s
  | .refclkLoss => Sys2Proof.Machine.execRefclkLoss s
  | .holdExpiry => Sys2Proof.Machine.execHoldExpiry s
  | .fallbackLock => Sys2Proof.Machine.execFallbackLock s
  | .xtalReady => Sys2Proof.Machine.execXtalReady s
  | .refOk => Sys2Proof.Machine.execRefOk s
  | .ckReturn ag => Sys2Proof.Machine.execCkReturn ag s
  | .pllLockLoss p => Sys2Proof.Machine.execPllLockLoss p s
  | .clockGateWrite ag hi v => Sys2Proof.Machine.execClockGateWrite ag hi v s
  | .tileGateWrite ag v => Sys2Proof.Machine.execTileGateWrite ag v s
  | .tilePowerOff t => Sys2Proof.Machine.execTilePowerOff t s
  | .tilePowerOn t => Sys2Proof.Machine.execTilePowerOn t s
  | .stby ag => Sys2Proof.Machine.execStby ag s
  | .standbyEntered => Sys2Proof.Machine.execStandbyEntered s
  | .wake ag => Sys2Proof.Machine.execWake ag s
  | .standbyExited => Sys2Proof.Machine.execStandbyExited s
  | .wdDevKick ag v => Sys2Proof.Machine.execWdDevKick ag v s
  | .wdCvKick ag v => Sys2Proof.Machine.execWdCvKick ag v s
  | .wdDevArm ag => Sys2Proof.Machine.execWdDevArm ag s
  | .deviceWatchdogWarning => Sys2Proof.Machine.execDeviceWatchdogWarning s
  | .deviceWatchdogExpiry => Sys2Proof.Machine.execDeviceWatchdogExpiry s
  | .cloveWatchdogWarning => Sys2Proof.Machine.execCloveWatchdogWarning s
  | .cloveWatchdogExpiry => Sys2Proof.Machine.execCloveWatchdogExpiry s
  | .coreWatchdogExpiry n => Sys2Proof.Machine.execCoreWatchdogExpiry n s
  | .ddrChannelLost c => Sys2Proof.Machine.execDdrChannelLost c s
  | .ddrRedirectDone c => Sys2Proof.Machine.execDdrRedirectDone c s
  | .supplyMonitorFall k => Sys2Proof.Machine.execSupplyMonitorFall k s
  | .dapAccess a v write nse => Sys2Proof.Machine.execDapAccess a v write nse s
  | .freeze n => Sys2Proof.Machine.execFreeze n s
  | .freezeTaken n => Sys2Proof.Machine.execFreezeTaken n s
  | .freezeLockBreak n => Sys2Proof.Machine.execFreezeLockBreak n s
  | .bstep n => Sys2Proof.Machine.execBstep n s
  | .cloveDebugHalt ag => Sys2Proof.Machine.execCloveDebugHalt ag s
  | .cloveDebugStep ag => Sys2Proof.Machine.execCloveDebugStep ag s
  | .resume ag => Sys2Proof.Machine.execResume ag s
  | .sumacDebugStep ag p => Sys2Proof.Machine.execSumacDebugStep ag p s
  | .vtOutRead t => Sys2Proof.Machine.execVtOutRead t s
  | .vtInWrite ag t v => Sys2Proof.Machine.execVtInWrite ag t v s
  | .winSelWrite ag v => Sys2Proof.Machine.execWinSelWrite ag v s
  | .windowCaptureDone => Sys2Proof.Machine.execWindowCaptureDone s
  | .windowWrite ag w v => Sys2Proof.Machine.execWindowWrite ag w v s
  | .nutmegRecord ag v => Sys2Proof.Machine.execNutmegRecord ag v s
  | .nutmegFreeze => Sys2Proof.Machine.execNutmegFreeze s
  | .rearm ag => Sys2Proof.Machine.execRearm ag s
  | .outboundTimeout ag a write => Sys2Proof.Machine.execOutboundTimeout ag a write s
  | .rcRead ag a => Sys2Proof.Machine.execRcRead ag a s
  | .loHalfRead ag k => Sys2Proof.Machine.execLoHalfRead ag k s
  | .registerWrite ag a v => Sys2Proof.Machine.execRegisterWrite ag a v s
  | .supplyMonitorRise k => Sys2Proof.Machine.execSupplyMonitorRise k s
  | .pllLockReturn p => Sys2Proof.Machine.execPllLockReturn p s
  | .refclkReturn => Sys2Proof.Machine.execRefclkReturn s
  | .ioUnitReady p => Sys2Proof.Machine.execIoUnitReady p s
  | .wdoPulseEnd => Sys2Proof.Machine.execWdoPulseEnd s
  | .pcieLinkUp l => Sys2Proof.Machine.execPcieLinkUp l s
  | .pcieLinkDown l => Sys2Proof.Machine.execPcieLinkDown l s
  | .hostPowerStateChange d3 l2 => Sys2Proof.Machine.execHostPowerStateChange d3 l2 s
  | .tapInstructionUpdate ir => Sys2Proof.Machine.execTapInstructionUpdate ir s
  | .gateIntervalEnd p => Sys2Proof.Machine.execGateIntervalEnd p s
  | .fltInputHigh g => Sys2Proof.Machine.execFltInputHigh g s

end Sys2Proof.Machine
end

