-- ==== Sys2Proof/WellFormed.lean ====
section
/-! DEFINITION. Well-formed commands: operands that name a part of the device which exists. Most operands are bounded by
their type; these are the checks beside it. -/

namespace Sys2Proof

/-- The agent's numbers name a tile, a core, or a Sumac processor (R2, R120). -/
def agentOk : Agent → Bool
  | .sumac c p => decide (c < 12 ∧ p < 8)
  | .tileDma t => decide (t < 12)
  | .core n => decide (n < 48)
  | .dap | .clove | .trunk | .host | .stream | .store | .anise | .saffron | .qm | .security => true

/-- A word offset below `top`. -/
def wordOffset (top a : Nat) : Bool := decide (a < top ∧ a % 4 = 0)

/-- Sense inputs, TDM channels, and slots and planes of a frame exist (R22, R36). -/
def frameOk (x : FrameIn) : Bool :=
  x.sense.all (fun e => e.1 < 128) && x.tdm.all (fun e => e.1 < 128) && x.faults.all (fun f => f.slot < 8192 && f.plane < 3)

/-- A MAC address has 48 bits. -/
def macOk (m : Nat) : Bool := decide (m < 2 ^ 48)

/-- The fields of a stream packet fit the packet's own fields, and its payload holds whole frames (R166, R167). -/
def bodyOk : FrameBody → Bool
  | .avtp p => decide (p.streamId < 2 ^ 64 ∧ p.seq < 256 ∧ p.ts < 2 ^ 32) && decide (0 < p.chans ∧ p.samples.length % p.chans = 0)
  | .rtp p => decide (p.ip < 2 ^ 32 ∧ p.port < 65536 ∧ p.ssrc < 2 ^ 32 ∧ p.seq < 65536 ∧ p.ts < 2 ^ 32)
  | .announce a r e => decide (a < 256 ∧ r < 3 ∧ e < 2 ^ 32)
  | .supervision | .sync _ | .master _ _ | .linkDelay _ _ | .other _ => true

/-- An Ethernet frame's addresses, class, sequence number and body. -/
def ethOk (f : EthFrame) : Bool :=
  macOk f.dst && macOk f.src && decide (f.cls < 8) && f.seq.all (fun n => n < 65536) && bodyOk f.body

/-- Channels of DMA engine `e`: 0 to 11 the tiles', 12 the trunk's (R258, R269). -/
def dmaChannelsOf (e : Nat) : Nat := if e < 12 then 16 else 64

/-- The command is well-formed. -/
def Instr.wellFormed : Instr → Bool
  | .frameTick x => frameOk x
  | .swapReq ag => agentOk ag
  | .swapCancel ag _ => agentOk ag
  | .shadowMapWrite ag off _ => agentOk ag && wordOffset 0x3A000 off
  | .activeMapWrite ag => agentOk ag
  | .tpCfgWrite ag _ _ => agentOk ag
  | .sxCfgWrite ag _ => agentOk ag
  | .runStart ag => agentOk ag
  | .runStop ag => agentOk ag
  | .planeSelectWrite ag _ => agentOk ag
  | .planeInject ag _ _ => agentOk ag
  | .txrdyWrite ag _ => agentOk ag
  | .failSet ag _ => agentOk ag
  | .physWrite ag _ _ => agentOk ag
  | .programMemoryLoad ag _ _ off _ => agentOk ag && wordOffset 0x20000 off
  | .ownerWrite ag _ _ _ => agentOk ag
  | .frameReceive _ fr => ethOk fr
  | .ddSourceForget src => macOk src
  | .remoteFrame src l => macOk src && decide (l.length ≤ 1500)
  | .enqt ag _ _ => agentOk ag
  | .enqh ag _ _ => agentOk ag
  | .deq ag _ => agentOk ag
  | .peek ag _ => agentOk ag
  | .moveOp ag _ _ _ => agentOk ag
  | .splice ag _ _ => agentOk ag
  | .flushOp ag _ => agentOk ag
  | .countOp ag _ => agentOk ag
  | .alloc ag => agentOk ag
  | .freeOp ag _ => agentOk ag
  | .qmIllegalOperation ag _ _ => agentOk ag
  | .qmQcfgWrite ag _ => agentOk ag
  | .qmQlimWrite ag _ => agentOk ag
  | .arm e c => decide (c < dmaChannelsOf e)
  | .go e c => decide (c < dmaChannelsOf e)
  | .dmaStop e c => decide (c < dmaChannelsOf e)
  | .dmaReset e c => decide (c < dmaChannelsOf e)
  | .append e c => decide (c < dmaChannelsOf e)
  | .dmaDescriptorFetchDone e c => decide (c < dmaChannelsOf e)
  | .dmaBurst _ lines => lines.all (fun n => 1 ≤ n && n < 64)
  | .dmaTimeout e c => decide (c < dmaChannelsOf e)
  | .descriptorComplete e c => decide (c < dmaChannelsOf e)
  | .sumacStart ag _ => agentOk ag
  | .sumacHalt ag _ => agentOk ag
  | .sumacReset ag _ => agentOk ag
  | .sumacMemoryWrite _ off _ => wordOffset 0x2000 off
  | .sumacDoorbell ag _ => agentOk ag
  | .decodeTableWrite ag _ _ _ => agentOk ag
  | .dtLock ag _ => agentOk ag
  | .custOpen ag _ => agentOk ag
  | .patchUnitWrite ag _ _ _ => agentOk ag
  | .xipInv ag => agentOk ag
  | .lockstepInject ag => agentOk ag
  | .controlStoreWrite ag _ _ _ _ => agentOk ag
  | .bankSwapRequest ag => agentOk ag
  | .controlStoreLock ag _ => agentOk ag
  | .romPatchMatchWrite ag _ _ => agentOk ag
  | .rompLock ag => agentOk ag
  | .take ag _ => agentOk ag
  | .post ag _ => agentOk ag
  | .spiTransaction l => decide (l ≠ [])
  | .tileReset ag _ => agentOk ag
  | .bootStart _ bad => bad.all (fun n => n < 2)
  | .bootDone ag => agentOk ag
  | .commitRb ag => agentOk ag
  | .xipWp ag => agentOk ag
  | .securityJobStart ag _ _ => agentOk ag
  | .debugAuthGo ag _ => agentOk ag
  | .sessionLock ag => agentOk ag
  | .ckReturn ag => agentOk ag
  | .clockGateWrite ag _ _ => agentOk ag
  | .tileGateWrite ag _ => agentOk ag
  | .stby ag => agentOk ag
  | .wake ag => agentOk ag
  | .wdDevKick ag _ => agentOk ag
  | .wdCvKick ag _ => agentOk ag
  | .wdDevArm ag => agentOk ag
  | .cloveDebugHalt ag => agentOk ag
  | .cloveDebugStep ag => agentOk ag
  | .resume ag => agentOk ag
  | .sumacDebugStep ag _ => agentOk ag
  | .vtInWrite ag _ _ => agentOk ag
  | .winSelWrite ag _ => agentOk ag
  | .windowWrite ag _ _ => agentOk ag
  | .nutmegRecord ag _ => agentOk ag
  | .rearm ag => agentOk ag
  | .outboundTimeout ag _ _ => agentOk ag
  | .rcRead ag a => agentOk ag && wordOffset 0x10000000000 a
  | .loHalfRead ag _ => agentOk ag
  | .registerWrite ag a _ => agentOk ag && wordOffset 0x10000000000 a
  | .blockTick | .holdOffEnd | .shadowCopyDone | .portFailed _ | .bundleIssue _ | .resultLanding _
  | .interlockedAccessDone _ | .retiResume _ | .lockGrant _ | .lockBreak _ | .handlerEntry _ | .faultStateEntry _
  | .coreStart _ | .coreHalt _ | .haltEntry _ | .winStep _ | .coreReset _ | .handoverComplete _ _ | .drainAbort _ _
  | .remapWrite _ _ _ _ | .remapCopyStart _ _ _ | .remapCopyDone _ _ _ | .testWindowStart _ | .testWindowEnd _ _ _
  | .bktIntervalWrite _ _ | .correctionUpdate _ _ | .loopFault _ | .impedanceEstimate _ _ _ | .openDetect _
  | .shortDetect _ | .groupFault _ | .fltLatchedClear _ | .driveEnableLoss _ | .enableWrite _ _ | .clrFault _
  | .calStart _ | .calDone _ | .senseStuck _ | .senseOverload _ | .tdmSlip _ | .tdmLock _ | .frameForward _ | .linkUp _
  | .linkDown _ | .supervisionSend | .ringOpenTimeout _ | .holdoverEntry | .dcoFreqWrite _ | .cbsWrite _ _ _
  | .gclSwapReq _ | .gclCycleStart _ | .packetLaunch _ | .flowEnable _ | .flowDisable _ | .flowFieldWrite _ _ _
  | .hubAnnounceSend | .hubTakeover | .hubElectionTimeout | .isolation | .ringEnableWrite _ | .anStart | .anStop
  | .anRunBegin | .anRunEnd | .anProcessingDone | .anModeWrite _ | .sfUpdate | .sfResultsWritten | .sfEnable | .limLock
  | .sfLimitWrite _ _ | .nvmeCompletion _ _ _ | .nvmeTimeout _ | .driveReturn _ _ | .resyncDone _ | .playStart _
  | .playEnd _ | .scheduleReceive _ | .recordHalfFull _ | .qmDescriptorFetchDone _ | .initDesc | .initDescDone
  | .initPool | .initPoolDone | .qmWriteBack | .qmWriteBackDone | .qmEnableWrite _ | .watchCfgWrite _ _
  | .watchPendClear _ _ | .interruptPresent _ | .claim _ | .complete _ _ | .pendSet _ _ | .pendClr _ _ | .enSet _ _
  | .enClr _ _ | .srcCfgWrite _ _ _ | .holdOffExpiry _ | .edgeLatch _ _ | .nop _ | .lit8 _ _ | .lit _ _ | .dup _
  | .dropOp _ | .swap _ | .over _ | .rot _ | .pick _ _ | .tor _ | .fromr _ | .rfetch _ | .add _ | .adds _ | .addus _
  | .addc _ | .sub _ | .subs _ | .subus _ | .subb _ | .neg _ | .negs _ | .abs _ | .abss _ | .mul _ | .mulh _ | .mulhu _
  | .div _ | .divs _ | .divu _ | .mod _ | .modu _ | .opAnd _ | .opOr _ | .opXor _ | .opNot _ | .shl _ | .shls _ | .lsr _
  | .asr _ | .eq _ | .lt _ | .ltu _ | .zeq _ | .ld _ | .st _ | .ldinc _ | .stinc _ | .br _ _ | .bz _ _ | .bnz _ _
  | .jmp _ _ | .call _ _ | .ret _ | .calls _ | .jmps _ | .vjmp _ | .rds _ _ | .wrs _ _ | .ei | .di | .waitOp
  | .waitev _ _ | .cloveReti | .sig _ | .brk _ | .trap _ _ | .customerOpcode _ _ _ | .illegalOpcode _ _
  | .cloveInterruptEntry | .windowAccessComplete _ | .microwordWaitLimit _ | .sumacTimerExpiry _ | .xipLineFill _
  | .microcodeCopyDone | .patchRamWrite _ _ | .requestWrite _ _ _ | .ring _ | .ack _ | .abort _ | .getVersion _
  | .getStatus _ | .setMbPerm _ | .resetCmd _ | .sxRestart _ | .hubCfg _ | .mapWrite _ | .mapRead _ | .tpCfg _
  | .planeSel _ | .spareCfg _ | .zoneSet _ | .zoneGet _ | .zoneGain _ | .zoneMute _ | .pairSet _ | .msgStore _
  | .msgDelete _ | .msgInfo _ | .announce _ | .cancel _ | .schedGet _ | .flowSet _ | .flowEn _ | .flowStat _
  | .portCfg _ | .ringCfg _ | .ptpCfg _ | .gclSet _ | .anLaw _ | .anChan _ | .anRun _ | .anResult _ | .anRef _
  | .sfZone _ | .sfLimits _ | .sfCommit _ | .sfResult _ | .sfLoop _ | .storeInfo _ | .recCfg _ | .recPin _ | .recUnpin _
  | .recRead _ | .logRead _ | .regRead _ | .vtXfer _ | .nutmegRead _ | .health _ | .attest _ | .imageUpload _
  | .debugChallenge _ | .debugResponse _ | .remoteKey _ | .remoteClear _ | .alwaysOnPowerUp | .powerOnReset | .pinReset
  | .warmReset _ | .resetRelease | .startWindowExpiry | .minimalNotice | .securityJobDone _ | .glitchDetect _
  | .debugAuthDone | .debugLockoutEnd | .refclkLoss | .holdExpiry | .fallbackLock | .xtalReady | .refOk | .pllLockLoss _
  | .tilePowerOff _ | .tilePowerOn _ | .standbyEntered | .standbyExited | .deviceWatchdogWarning | .deviceWatchdogExpiry
  | .cloveWatchdogWarning | .cloveWatchdogExpiry | .coreWatchdogExpiry _ | .ddrChannelLost _ | .ddrRedirectDone _
  | .supplyMonitorFall _ | .dapAccess _ _ _ _ | .freeze _ | .freezeTaken _ | .freezeLockBreak _ | .bstep _
  | .vtOutRead _ | .windowCaptureDone | .nutmegFreeze | .supplyMonitorRise _ | .pllLockReturn _ | .refclkReturn
  | .ioUnitReady _ | .wdoPulseEnd | .pcieLinkUp _ | .pcieLinkDown _ | .hostPowerStateChange _ _
  | .tapInstructionUpdate _ | .gateIntervalEnd _ | .fltInputHigh _ => true

end Sys2Proof
end

