-- ==== Sys2Proof/Safety.lean ====
section
/-! DEFINITION. The words that statements about the block use: what it is for a command to be carried out, what follows
every command, and what every step keeps. -/

namespace Sys2Proof.Machine
open R

/-- Command `c`, in state `s`, is carried out: the machine goes on in the state `t` that the command's own effect gives,
after what follows every command (`settled`). -/
def Completes (c : Instr) (s t : State) : Prop := exec c s = .next (settled s t)

/-- `t` is `s` with other values in registers of `l` only: no other register and nothing else of the state differs. -/
def OnlyRegs (l : List Nat) (s t : State) : Prop := { t with regs := s.regs } = s ∧ ∀ a, a ∉ l → t.reg a = s.reg a

/-- A step is safe: the machine goes on. -/
def SafeStep (s : State) : Prop := ∃ t, step s = .next t

/-- No microcode is under way and no processor is in a debugger's step. -/
def Quiet (s : State) : Prop := microRunning s = [] ∧ inStep s = []

/-- Registers that what follows a command can write: those of the black box and of the two watchdogs. -/
def afterRegs : List Nat := [BB_SEQ, BB_STAT, BB_LOST, BB_TRIG_SEQ, WD_DEV_STAT, WD_CV_STAT]

/-- Bytes that what follows a command can write: the ring of the black box, and the pending bit of the host's message. -/
def afterByte (c : Nat) : Prop := (0x20002C0000 ≤ c ∧ c < 0x2000300000) ∨ (0x20003F2800 ≤ c ∧ c < 0x20003F2804)

/-- `v` differs from `u` in nothing but the queue, what the black box, the watchdogs and the interrupt exchange's
presentations hold, and the model's free counter. -/
structure Beside (u v : State) : Prop where
  reg : ∀ a, a ∉ afterRegs → v.reg a = u.reg a
  byte : ∀ c, ¬ afterByte c → v.byte c = u.byte c
  dev : { v.dev with
    devFrozen := u.dev.devFrozen, devKick := u.dev.devKick, cvFrozen := u.dev.cvFrozen, cvKick := u.dev.cvKick,
    msiSent := u.dev.msiSent } = u.dev
  captured : v.captured = u.captured
  frame : v.frame = u.frame
  timeNs : v.timeNs = u.timeNs
  sx : v.sx = u.sx
  cores : v.cores = u.cores
  ecc : v.ecc = u.ecc
  spareRow : v.spareRow = u.spareRow
  spareCopy : v.spareCopy = u.spareCopy
  nextWin : v.nextWin = u.nextWin
  icStack : v.icStack = u.icStack
  nvPosted : v.nvPosted = u.nvPosted
  hostD3 : v.hostD3 = u.hostD3
  hostL2 : v.hostL2 = u.hostL2
  drv : v.drv = u.drv
  grpRise : v.grpRise = u.grpRise
  senseNow : v.senseNow = u.senseNow
  tdmIn : v.tdmIn = u.tdmIn
  tdmOut : v.tdmOut = u.tdmOut
  tdmClean : v.tdmClean = u.tdmClean
  tdmSlip : v.tdmSlip = u.tdmSlip
  ddrCap : v.ddrCap = u.ddrCap
  net : v.net = u.net
  flows : v.flows = u.flows
  streamOut : v.streamOut = u.streamOut
  store : v.store = u.store
  an : v.an = u.an
  sf : v.sf = u.sf
  qm : v.qm = u.qm
  dma : v.dma = u.dma
  dmaLast : v.dmaLast = u.dmaLast
  cpu : v.cpu = u.cpu
  ctl : v.ctl = u.ctl
  phase : v.phase = u.phase
  rstReq : v.rstReq = u.rstReq
  otp : v.otp = u.otp
  sec : v.sec = u.sec
  fw : v.fw = u.fw

/-- The queue manager accepts operations and none waits, and the descriptors of the queues of `l` are in its cache. -/
def QmReady (l : List Nat) (s : State) : Prop :=
  s.fld QM_CTL QM_CTL_EN = 1 ∧ s.fld QM_STAT QM_STAT_DESC_BUSY = 0 ∧ s.fld QM_STAT QM_STAT_POOL_BUSY = 0 ∧
  s.qm.waiting = [] ∧ ∀ q ∈ l, (cachedDesc s q).isSome = true

/-- The last result word that the queue manager gave to requester `ag`. -/
def qmResult (ag : Agent) (t : State) : Nat := tget 0 t.qm.results (portNo ag)

/-- Queue `x` holds in `t` what it holds in `s`; only its last use may differ. -/
def SameQueue (x : Nat) (s t : State) : Prop := { descOf t x with age := (descOf s x).age, dirty := (descOf s x).dirty } = descOf s x

/-- The `n` bytes from `a` lie in fitted, clocked DDR5, both channels are up and no word there is marked uncorrectable. -/
def GoodDdr (s : State) (a n : Nat) : Prop :=
  a + n ≤ 0x1000000000 ∧ a + n ≤ ddrLimit s ∧ ddrClock s a = true ∧ chLost s 0 = false ∧ chLost s 1 = false ∧
  ∀ w ∈ wordsOf a n, eccMark s w ≠ 2

/-- Processor `p` is about to dispatch opcode `op` with a valid entry of form `form`: it runs, is at a boundary, its fetch succeeds
and its stack suits the entry's counts; no halt, swap, injected mismatch or presentation is waiting (R305, R307, R316). -/
def CpuReady (p op form : Nat) (s : State) : Prop :=
  let c := s.proc p
  let e := dtEntry s p op
  canDispatch s p = true ∧ c.haltReq = false ∧ c.stepping = false ∧
  (p = clove → s.fld MC_CV_STAT MC_CV_STAT_SWAP_PEND = 0 ∧ s.ctl.inject = false ∧ pres s 48 = 0) ∧
  parityOk e = true ∧ dtValid e = true ∧ dtForm e = form ∧ (fetchAt s p c.pc (insLen p form)).1 = 0 ∧
  dtIn e ≤ c.os.length ∧ c.os.length - dtIn e + dtOut e ≤ osCap p ∧ c.os.length ≤ osCap p

/-- Address of the instruction after one of form `form`. -/
def cpuNext (p form : Nat) (s : State) : Nat := ((s.proc p).pc + insLen p form) % (if p = clove then 2 ^ 24 else 8192)

/-- `t` differs from `s` in processor `p` alone, and in the model's free counter. -/
def OnlyProc (p : Nat) (s t : State) : Prop :=
  { t with cpu := s.cpu, freeCtr := s.freeCtr } = s ∧ ∀ q, q ≠ p → t.proc q = s.proc q

/-- Processor `p` has taken the trap `code` of the instruction at `pc` from `s`, with argument `arg` on Sumac (R311, R312, R314). -/
def Trapped (p code arg pc : Nat) (s t : State) : Prop :=
  (t.proc p).os = (s.proc p).os ∧ (t.proc p).rs = (s.proc p).rs ∧
  if p = clove then
    (t.proc p).pc = (s.proc p).sp 9 + 65536 * (s.proc p).sp 10 ∧ (t.proc p).stBit 5 = 0 ∧ (t.proc p).stBit 6 = 1 ∧
    (t.proc p).sp 11 = pc % 65536 ∧ (t.proc p).sp 12 = pc / 65536 ∧ t.reg CV_TRAP = BitVec.ofNat 32 (pc + code * 2 ^ 24)
  else
    procSt t p = 4 ∧
    t.reg (SU_c_p_TRAP (p / 8) (p % 8)) = BitVec.ofNat 32 (pc % 4096 + code * 4096 + arg % 256 * 65536)

/-- Firmware is about to serve the request of pair `i` with this code, these flags and this payload: its reply mailbox is free, its
group is enabled, it repeats no executed command, and the device is not in minimal mode (R345, R350, R351, R356, R357). -/
def Asked (i code flags : Nat) (p : List Byte) (s : State) : Prop :=
  let r := mailRequest s i
  let old := tget (0, 0, []) s.fw.last i
  mailReady s i = true ∧ minimal s = false ∧ mbFlag s i MB_i_STAT_RPL_VALID = false ∧ r.code = code ∧ r.flags = flags ∧
  r.payload = p ∧ r.len = p.length ∧ groupOn r s = true ∧ (old.2.2 = [] ∨ old.1 ≠ code ∨ old.2.1 ≠ r.seq)

/-- A command with data in is about to be served: the last chunk brings what `b` still lacks (R355). -/
def AskedIn (i code : Nat) (b : List Byte) (s : State) : Prop :=
  ∃ off, off ≤ b.length ∧ b.length ≤ 0x4000000 ∧
    (off ≠ 0 → partialOf s i = { code := code, total := b.length, data := b.take off }) ∧
    Asked i code 4 (leBytes 4 off ++ leBytes 4 b.length ++ b.drop off) s

/-- Pair `i` has the reply to its request: taken, answered with this status, detail and data, and posted (R345, R347). -/
def Replied (i status detail : Nat) (d : List Byte) (s t : State) : Prop :=
  mbFlag t i MB_i_STAT_REQ_PEND = false ∧ mbFlag t i MB_i_STAT_REQ_BUSY = false ∧ mbFlag t i MB_i_STAT_RPL_VALID = true ∧
  t.bytes (mbReply i) (16 + d.length) = message (mailRequest s i).code (mailRequest s i).seq false status detail d

/-- The piece of data `d` from offset `off` on, of at most `n` bytes, that a reply to pair `i` brings (R355). -/
def piece (off n : Nat) (d : List Byte) : List Byte := leBytes 4 off ++ leBytes 4 d.length ++ (d.drop off).take (min n 4072)

/-- Firmware has taken the request of pair `i` and answers it later, at a block tick, with what job `j` comes to. -/
def Deferred (i : Nat) (j : JobKind) (s t : State) : Prop :=
  let r := mailRequest s i
  mbFlag t i MB_i_STAT_REQ_PEND = false ∧ mbFlag t i MB_i_STAT_REQ_BUSY = true ∧ mbFlag t i MB_i_STAT_RPL_VALID = false ∧
  t.fw.jobs = s.fw.jobs ++ [⟨i, 0, r.code, r.seq, j⟩]

/-- `t` differs from `s` in nothing but the reply of pair `i` and the copy of it that firmware keeps, and in the model's free counter. -/
def OnlyReply (i : Nat) (s t : State) : Prop :=
  { t with regs := s.regs, mem := s.mem, fw := s.fw, freeCtr := s.freeCtr } = s ∧ { t.fw with last := s.fw.last } = s.fw ∧
  (∀ a, a ≠ MB_i_STAT i → t.reg a = s.reg a) ∧ ∀ c, c < mbReply i ∨ mbReply i + 4096 ≤ c → t.byte c = s.byte c

/-- The value that register `a` takes in `s` when `v` is written to it, by its access types (R11). -/
def written (s : State) (a v : Nat) : Word := (s.writeByType a (BitVec.ofNat 32 v)).reg a

/-- Every presented source is 1,023 or a candidate of its target (R289). -/
def PresentedAreCandidates (s : State) : Prop :=
  ∀ e ∈ s.icPres, e.2 = 1023 ∨ candidate s e.1 e.2 = true

end Sys2Proof.Machine
end

