-- ==== Sys2Proof/Certificates/Slice0/Obligations.lean ====
section
/-! DEFINITION. The statements for the provers. `Completes c s t` says that command `c` is carried out from `s` and that `t` is
the state its own effect gives, before what follows every command. -/

open Sys2Proof Sys2Proof.Machine Sys2Proof.Machine.R

/-! ### The block -/

/-- The row of the queue: a step takes the command at the front of the queue and carries it out on the state with the rest. Model's
choice (notes/assumptions/1.md): with nothing waiting the block idles. -/
def Obligations.StepRunsTheFrontCommand : Prop :=
  (∀ (c : Instr) (rest : List Instr) (s : State), step { s with pending := c :: rest } = exec c { s with pending := rest }) ∧
  ∀ s : State, s.pending = [] → step s = .next s

/-- Each row is whole and indivisible: every command is carried out in one step, from every state, and leaves the commands that
wait behind it as they are. -/
def Obligations.EveryCommandGoesOnAndKeepsTheQueue : Prop :=
  ∀ (c : Instr) (s : State), ∃ t, exec c s = .next t ∧ t.pending = s.pending

/-- R289: from every state in which every presented source is 1,023 or a candidate of its target, every step leads to such a
state. -/
def Obligations.EveryStepPresentsOnlyCandidates : Prop :=
  ∀ s t : State, PresentedAreCandidates s → step s = .next t → PresentedAreCandidates t

/-- Reset presents only candidates, lists no memory, has its memory in canonical form, and holds the resets that the register
headers of several chapters give. -/
def Obligations.StateAfterReset : Prop :=
  PresentedAreCandidates State.reset ∧ memWf State.reset.mem ∧ State.reset.pending = [] ∧
  State.reset.reg SX_CTL = 0x1000#32 ∧ State.reset.reg SX_CFG = 2#32 ∧ State.reset.reg SX_PLANE_CTL = 6#32 ∧
  State.reset.reg SX_PLANE_HOLDOFF = 0x12C0#32 ∧ (∀ t : Fin 12, State.reset.reg (SX_TP_t_PHYS t) = BitVec.ofNat 32 (t * 0x10001)) ∧
  State.reset.fld SX_STAT SX_STAT_RUNNING = 0 ∧ (∀ n : Fin 48, (State.reset.core n).st = 0) ∧
  (∀ i : Fin 18, State.reset.reg (MB_i_PERM i) = if i.val = 0 ∨ i.val = 16 then 0x83FF#32 else 0x1FE#32) ∧
  State.reset.reg NV_ID = 0x4E560100#32 ∧ State.reset.reg (NV_p_TMO 1) = 2000#32

/-- R11: what each access type does with a write: RO and RC fields keep their value, RW and WO fields take the written one, a
W1S field gains and a W1C field loses the bits written as 1; bits outside the field stay. -/
def Obligations.FieldWriteFollowsAccessType : Prop :=
  ∀ (f : FieldRow) (old new i : Nat), f.lo + f.w ≤ 32 → i < 32 →
    bits (writeField f old new) i 1 =
      if f.lo ≤ i ∧ i < f.lo + f.w then
        match f.acc with
        | .ro | .rc => bits old i 1
        | .rw | .wo => bits new i 1
        | .w1s => max (bits old i 1) (bits new i 1)
        | .w1c => bits old i 1 * (1 - bits new i 1)
      else bits old i 1


/-! ### The Sample Exchange -/

/-- R47: a write to the exchange by an agent other than Clove and the debug access port completes and changes nothing but
SX_ERR.WRITER. -/
def Obligations.OtherWritersOnlySetExchangeWriterError : Prop :=
  ∀ (ag : Agent) (s : State) (c : Instr), sxWriter ag = false →
    c ∈ ([.swapReq ag, .swapCancel ag true, .swapCancel ag false, .activeMapWrite ag, .runStart ag, .runStop ag] : List Instr) ∨
    (∃ off v, c = .shadowMapWrite ag off v) ∨ (∃ t v, c = .tpCfgWrite ag t v) ∨ (∃ v, c = .sxCfgWrite ag v) ∨
    (∃ v, c = .planeSelectWrite ag v) ∨ (∃ p n, c = .planeInject ag p n) ∨ (∃ t, c = .txrdyWrite ag t) ∨
    (∃ t, c = .failSet ag t) ∨ (∃ t p, c = .physWrite ag t p) →
    Completes c s (s.setFld SX_ERR SX_ERR_WRITER 1)

/-- R26, R28: SWAP_REQ makes a swap pending; SWAP_CANCEL, with or without SWAP_REQ, withdraws it; the end of the shadow copy
refreshes the shadow. R28: an active map write is discarded and recorded. -/
def Obligations.SwapRequestsAndShadowCopyComplete : Prop :=
  ∀ (ag : Agent) (s : State) (w : Bool), sxWriter ag = true →
    Completes (.swapReq ag) s
      (((s.setFld SX_MAP_CTL SX_MAP_CTL_SWAP_CANCEL 0).setFld SX_MAP_CTL SX_MAP_CTL_SWAP_REQ 1).setFld
        SX_MAP_STAT SX_MAP_STAT_SWAP_PEND 1) ∧
    Completes (.swapCancel ag w) s
      (((s.setFld SX_MAP_CTL SX_MAP_CTL_SWAP_CANCEL 1).setFld SX_MAP_CTL SX_MAP_CTL_SWAP_REQ 0).setFld
        SX_MAP_STAT SX_MAP_STAT_SWAP_PEND 0) ∧
    Completes (.activeMapWrite ag) s (s.setFld SX_ERR SX_ERR_ACTIVE_WRITE 1) ∧
    (s.fld SX_MAP_STAT SX_MAP_STAT_COPYING = 1 → ∃ t, Completes .shadowCopyDone s t ∧
      t.fld SX_MAP_STAT SX_MAP_STAT_COPYING = 0 ∧ t.sx.prodShadow = s.sx.prodActive ∧ t.sx.consShadow = s.sx.consActive ∧
      (∀ a, a ≠ SX_MAP_STAT → t.reg a = s.reg a) ∧ t.mem = s.mem)

/-- R25, R28: while no copy runs, a write of a shadow map word that holds an entry makes that word read as written, without its
reserved bits, and no other word of the map memory changes; a consumer word that holds no entry ignores the write; while a copy
runs the write is discarded and SHADOW_BUSY set. -/
def Obligations.ShadowMapWriteReadsBack : Prop :=
  ∀ (ag : Agent) (off : Nat) (v : Word) (s : State), sxWriter ag = true → off % 4 = 0 → inShadow off = true →
    (s.fld SX_MAP_STAT SX_MAP_STAT_COPYING = 1 →
      Completes (.shadowMapWrite ag off v) s (s.setFld SX_ERR SX_ERR_SHADOW_BUSY 1)) ∧
    (s.fld SX_MAP_STAT SX_MAP_STAT_COPYING = 0 → ∃ t, Completes (.shadowMapWrite ag off v) s t ∧
      (off < 0x18000 → readMap off t = v &&& 0x801F1FFF#32) ∧
      (0x20000 ≤ off → ∀ e, consOf ((off - 0x20000) / 4) = some e → readMap off t = v &&& 0x80001FFF#32) ∧
      (0x20000 ≤ off → consOf ((off - 0x20000) / 4) = none → t = s) ∧
      (∀ o, o % 4 = 0 → o ≠ off → 0x10000 ≤ o → readMap o t = readMap o s) ∧ t.regs = s.regs ∧ t.mem = s.mem)

/-- R30, R44, R45, R46: channel counts go to the shadow (or are discarded during a copy), SX_CFG is written only while the
exchange is stopped, and RUN starts and stops it. -/
def Obligations.ExchangeConfigurationAndRunCommandsComplete : Prop :=
  ∀ (ag : Agent) (s : State) (v : Word) (p : Fin 12), sxWriter ag = true →
    (s.fld SX_MAP_STAT SX_MAP_STAT_COPYING = 1 →
      Completes (.tpCfgWrite ag p v) s (s.setFld SX_ERR SX_ERR_SHADOW_BUSY 1)) ∧
    (s.fld SX_MAP_STAT SX_MAP_STAT_COPYING = 0 → ∃ t, Completes (.tpCfgWrite ag p v) s t ∧ OnlyRegs [SX_TP_t_CFG p] s t ∧
      t.fld (SX_TP_t_CFG p) SX_TP_t_CFG_RXCH = bits v.toNat 0 11 ∧ t.fld (SX_TP_t_CFG p) SX_TP_t_CFG_TXCH = bits v.toNat 16 11) ∧
    (s.fld SX_STAT SX_STAT_RUNNING = 1 ∨ s.fld SX_STAT SX_STAT_STARTING = 1 →
      Completes (.sxCfgWrite ag v) s (s.setFld SX_ERR SX_ERR_CFG_WHILE_RUN 1)) ∧
    (s.fld SX_STAT SX_STAT_RUNNING = 0 → s.fld SX_STAT SX_STAT_STARTING = 0 → ∃ t, Completes (.sxCfgWrite ag v) s t ∧
      t.fld SX_CFG SX_CFG_FS = bits v.toNat 0 1 ∧ t.fld SX_CFG SX_CFG_N = bits v.toNat 1 2 ∧
      (∀ a, a ≠ SX_CFG → t.reg a = s.reg a) ∧ t.mem = s.mem) ∧
    (s.fld SX_CTL SX_CTL_RUN = 0 → s.fld SX_STAT SX_STAT_RUNNING = 0 → ∃ t, Completes (.runStart ag) s t ∧
      t.fld SX_CTL SX_CTL_RUN = 1 ∧ t.fld SX_STAT SX_STAT_STARTING = 1 ∧ t.fld SX_STAT SX_STAT_RUNNING = 0 ∧
      t.frame = frameAt (fsHz s) s.timeNs ∧ (∀ a, a ≠ SX_CTL → a ≠ SX_STAT → t.reg a = s.reg a) ∧ t.mem = s.mem) ∧
    (∃ t, Completes (.runStop ag) s t ∧ OnlyRegs [SX_CTL, SX_MAP_CTL, SX_MAP_STAT, SX_STAT] s t ∧
      t.fld SX_CTL SX_CTL_RUN = 0 ∧ t.fld SX_MAP_STAT SX_MAP_STAT_SWAP_PEND = 0 ∧
      t.fld SX_STAT SX_STAT_RUNNING = s.fld SX_STAT SX_STAT_RUNNING)

/-- R32, R33, R37 to R39, R41: commands on the tile ports and the planes. -/
def Obligations.PortAndPlaneCommandsComplete : Prop :=
  ∀ (ag : Agent) (s : State) (v : Word) (p : Fin 12) (x : Fin 16) (pl : Fin 2) (slot : Fin 8192), sxWriter ag = true →
    (∃ t, Completes (.planeSelectWrite ag v) s t ∧ t.fld SX_PLANE_CTL SX_PLANE_CTL_SEL = bits v.toNat 0 1 ∧
      t.fld SX_PLANE_CTL SX_PLANE_CTL_COMPARE_EN = bits v.toNat 1 1 ∧ t.fld SX_PLANE_CTL SX_PLANE_CTL_AUTO_EN = bits v.toNat 2 1 ∧
      t.sx = { s.sx with selWritten := true } ∧ (∀ a, a ≠ SX_PLANE_CTL → t.reg a = s.reg a) ∧ t.mem = s.mem) ∧
    (∃ t, Completes (.planeInject ag pl slot) s t ∧ t.sx = { s.sx with injNext := some (pl.val, slot.val) } ∧
      (∀ a, a ≠ SX_PLANE_INJ → t.reg a = s.reg a) ∧ t.mem = s.mem) ∧
    (∃ t, Completes (.txrdyWrite ag p) s t ∧ OnlyRegs [SX_TP_t_STAT p] s t ∧ t.fld (SX_TP_t_STAT p) SX_TP_t_STAT_TXRDY = 1 ∧
      t.fld (SX_TP_t_STAT p) SX_TP_t_STAT_FAILED = s.fld (SX_TP_t_STAT p) SX_TP_t_STAT_FAILED ∧
      t.fld (SX_TP_t_STAT p) SX_TP_t_STAT_LATE_RUN = s.fld (SX_TP_t_STAT p) SX_TP_t_STAT_LATE_RUN) ∧
    (∃ t, Completes (.failSet ag p) s t ∧ OnlyRegs [SX_TP_t_STAT p] s t ∧ t.fld (SX_TP_t_STAT p) SX_TP_t_STAT_FAILED = 1 ∧
      t.fld (SX_TP_t_STAT p) SX_TP_t_STAT_TXRDY = s.fld (SX_TP_t_STAT p) SX_TP_t_STAT_TXRDY) ∧
    Completes (.physWrite ag p x) s
      { s.setFld (SX_TP_t_PHYS p) SX_TP_t_PHYS_PHYS x with sx := { s.sx with remapReq := s.sx.remapReq ++ [p.val] } } ∧
    (s.fld SX_CTL SX_CTL_LATE_LIMIT ≠ 0 → s.fld SX_CTL SX_CTL_LATE_LIMIT ≤ s.fld (SX_TP_t_STAT p) SX_TP_t_STAT_LATE_RUN →
      Completes (.portFailed p) s (s.setFld (SX_TP_t_STAT p) SX_TP_t_STAT_FAILED 1)) ∧
    (s.sx.holdEnd ≤ s.frame + 1 →
      Completes .holdOffEnd s
        { s.setFld SX_PLANE_STAT SX_PLANE_STAT_HELD_OFF 0 with sx := { s.sx with holdEnd := 0 } })

/-- R20, R466: a frame tick with no block tick left to do advances F by one, takes the time of R5 with it, and makes a block tick due
exactly when N divides the new F. A block tick that is due is carried out once, in the same frame; firmware has nothing to do here. -/
def Obligations.FrameAndBlockTicksAdvance : Prop :=
  ∀ (x : FrameIn) (s : State),
    (s.sx.blockDue = false → ∃ t, Completes (.frameTick x) s t ∧
      t.frame = (s.frame + 1) % 2 ^ 64 ∧ t.timeNs = timeOfFrame (fsHz s) t.frame ∧
      (t.sx.blockDue = true ↔ t.frame % blockN s = 0)) ∧
    (s.sx.blockDue = false → Completes .blockTick s s) ∧
    (s.sx.blockDue = true → s.fw.jobs = [] → s.fw.stops = [] → s.fw.sched.entries = [] → s.fw.archDone = true → ∃ t,
      Completes .blockTick s t ∧ t.sx.blockDue = false ∧ t.frame = s.frame ∧ t.timeNs = s.timeNs ∧
      t.sx.prodActive = (sxBlockTick s).sx.prodActive ∧ t.sx.consActive = (sxBlockTick s).sx.consActive)

/-- R20, R26, R28, R45: at a due block tick of a running exchange with a swap pending, and at the first one of a run, the active
maps are the shadow maps, the request is gone, the copy runs, and every port has its shadow counts unless one breaks R30. -/
def Obligations.MapSwapTakesTheShadow : Prop :=
  ∀ s : State, s.fld SX_CTL SX_CTL_RUN = 1 →
    (s.fld SX_STAT SX_STAT_RUNNING = 1 ∧ s.fld SX_MAP_STAT SX_MAP_STAT_SWAP_PEND = 1) ∨ s.fld SX_STAT SX_STAT_RUNNING = 0 →
    (sxBlockTick s).sx.prodActive = s.sx.prodShadow ∧ (sxBlockTick s).sx.consActive = s.sx.consShadow ∧
    (sxBlockTick s).fld SX_MAP_CTL SX_MAP_CTL_SWAP_REQ = 0 ∧ (sxBlockTick s).fld SX_MAP_STAT SX_MAP_STAT_SWAP_PEND = 0 ∧
    (sxBlockTick s).fld SX_MAP_STAT SX_MAP_STAT_COPYING = 1 ∧
    (sxBlockTick s).reg SX_MAP_SWAPBLK = BitVec.ofNat 32 (blockNo s) ∧
    ∀ p : Fin 12, (sxBlockTick s).reg (SX_TP_t_ACFG p) =
      if countBad s (s.fld (SX_TP_t_CFG p) SX_TP_t_CFG_RXCH) || countBad s (s.fld (SX_TP_t_CFG p) SX_TP_t_CFG_TXCH)
      then s.reg (SX_TP_t_ACFG p) else s.reg (SX_TP_t_CFG p)

/-- R27, R30: at a swap MAP_RANGE is set exactly when it was set or a count or an entry fails its check; the first failure since
it was clear (refused counts before producer entries before consumer entries) is named in SX_ERR_SLOT; while MAP_RANGE is 1 the record stays. -/
def Obligations.MapSwapRecordsLowestFailure : Prop :=
  ∀ s : State, let bad := countFails s ++ mapFails ((List.range 12).foldl takeCounts s)
    ((mapSwap s).fld SX_ERR SX_ERR_MAP_RANGE = 1 ↔ s.fld SX_ERR SX_ERR_MAP_RANGE = 1 ∨ bad ≠ []) ∧
    (s.fld SX_ERR SX_ERR_MAP_RANGE = 1 → (mapSwap s).reg SX_ERR_SLOT = s.reg SX_ERR_SLOT) ∧
    (s.fld SX_ERR SX_ERR_MAP_RANGE = 0 → ∀ o, bad.head? = some o → (mapSwap s).reg SX_ERR_SLOT = BitVec.ofNat 32 o) ∧
    (s.fld SX_ERR SX_ERR_MAP_RANGE = 0 → bad = [] → (mapSwap s).reg SX_ERR_SLOT = s.reg SX_ERR_SLOT)

/-- R36: the word the consumers receive of a slot transfer, in each row of the table, with comparison on. -/
def Obligations.DeliveredWordFollowsParity : Prop :=
  ∀ (s : State) (x : Transfer), s.fld SX_PLANE_CTL SX_PLANE_CTL_COMPARE_EN = 1 →
    (x.parA = false → x.parB = false → delivered s x = if activePlane s = 0 then x.a else x.b) ∧
    (x.parA = true → x.parB = false → delivered s x = x.b) ∧
    (x.parA = false → x.parB = true → delivered s x = x.a) ∧
    (x.parA = true → x.parB = true → delivered s x = 0) ∧
    (mismatch x = false ↔ x.parA = false ∧ x.parB = false ∧ x.a = x.b)

/-- R32, R33: the check of a port at a block tick: not made of a port that has failed or produces no channel; a ready port sends
its half; one that is not ready is late, and fails when its run of late ticks reaches LATE_LIMIT. -/
def Obligations.PortCheckAtBlockTick : Prop :=
  ∀ (s : State) (p : Fin 12),
    let a := SX_TP_t_STAT p
    (s.fld a SX_TP_t_STAT_FAILED = 1 ∨ activeTx s p = 0 → checkPort s p = s) ∧
    (s.fld a SX_TP_t_STAT_FAILED = 0 → activeTx s p ≠ 0 →
      (s.fld a SX_TP_t_STAT_TXRDY = 1 →
        p.val ∈ (checkPort s p).sx.sending ∧ (checkPort s p).fld a SX_TP_t_STAT_LATE_RUN = 0 ∧
        (checkPort s p).fld a SX_TP_t_STAT_TX_LATE = s.fld a SX_TP_t_STAT_TX_LATE) ∧
      (s.fld a SX_TP_t_STAT_TXRDY = 0 →
        (checkPort s p).sx.sending = s.sx.sending ∧ (checkPort s p).fld a SX_TP_t_STAT_TX_LATE = 1 ∧
        (checkPort s p).fld a SX_TP_t_STAT_LATE_RUN = min 15 (s.fld a SX_TP_t_STAT_LATE_RUN + 1) ∧
        ((checkPort s p).fld a SX_TP_t_STAT_FAILED = 1 ↔ s.fld SX_CTL SX_CTL_LATE_LIMIT ≠ 0 ∧
          s.fld SX_CTL SX_CTL_LATE_LIMIT ≤ min 15 (s.fld a SX_TP_t_STAT_LATE_RUN + 1))))


/-! ### Signal cores -/

/-- R78, R81, R82: what START, HALT, WIN_STEP and CORE_RESET do to a core, and that no other core is touched. -/
def Obligations.CoreCommandsComplete : Prop :=
  ∀ (n : Fin 48) (s : State), coreOn s n = true →
    ((s.core n).st = 0 → Completes (.coreStart n) s
      (s.setCore n { s.core n with st := 2, pc := s.fld (SC_n_ENTRY n) SC_n_ENTRY_ENTRY, relCyc := (s.core n).cycles })) ∧
    ((s.core n).st = 2 ∨ (s.core n).st = 5 → Completes (.coreStart n) s s) ∧
    ((s.core n).st = 2 → Completes (.coreHalt n) s (s.setCore n { s.core n with haltReq := true })) ∧
    ((s.core n).st = 1 → (s.core n).haltWait = 0 → ∃ t, Completes (.winStep n) s t ∧
      (t.core n).st = 2 ∧ (t.core n).haltReq = true ∧ (t.core n).pc = (s.core n).pc ∧ t.mem = s.mem ∧
      ∀ m, m ≠ n.val → t.core m = s.core m) ∧
    (∃ t, Completes (.coreReset n) s t ∧ t.core n = Core.reset ∧ t.reg (SC_n_FAULT n) = 0 ∧ t.mem = s.mem ∧
      t.reg (DBG_VT_t_OUT n) = s.reg (DBG_VT_t_OUT n) ∧ t.reg (DBG_VT_t_IN n) = s.reg (DBG_VT_t_IN n) ∧
      t.reg (DBG_VT_t_STAT n) = s.reg (DBG_VT_t_STAT n) ∧ ∀ m, m ≠ n.val → t.core m = s.core m)

/-- R468: the command bits of one write to SC_n_CTL: CORE_RESET acts first, then START of the same write; HALT and WIN_STEP beside
CORE_RESET are ignored; without CORE_RESET, more than one of HALT, START and WIN_STEP acts as HALT alone. -/
def Obligations.CoreControlWriteOrdersItsCommands : Prop :=
  ∀ (n : Nat) (v : Word) (s : State), let w := s.writeByType (SC_n_CTL n) v
    let start := bits v.toNat 0 1; let halt := bits v.toNat 1 1; let reset := bits v.toNat 2 1; let step := bits v.toNat 4 1
    (reset = 1 → start = 1 → writeScCtl n v s = doCoreStart n (doCoreReset n w)) ∧
    (reset = 1 → start = 0 → writeScCtl n v s = doCoreReset n w) ∧
    (reset = 0 → 2 ≤ start + halt + step → writeScCtl n v s = doCoreHalt n w) ∧
    (reset = 0 → start = 1 → halt = 0 → step = 0 → writeScCtl n v s = doCoreStart n w) ∧
    (reset = 0 → start = 0 → halt = 1 → step = 0 → writeScCtl n v s = doCoreHalt n w) ∧
    (reset = 0 → start = 0 → halt = 0 → step = 1 → writeScCtl n v s = doWinStep n w) ∧
    (reset = 0 → start = 0 → halt = 0 → step = 0 → writeScCtl n v s = w)

/-- R71, R72, R78, R79: the ends of the gaps: entry into a handler, return from it, the halt and the FAULT state. -/
def Obligations.GapsEndInTheirStates : Prop :=
  ∀ (n : Fin 48) (s : State) (vec wait cause slot pc addr : Nat),
    ((s.core n).gap = .entry vec wait → ∃ t, Completes (.handlerEntry n) s t ∧ (t.core n).st = 2 ∧ (t.core n).pc = vec ∧
      (t.core n).ctl crIPC = (s.core n).pc % 4096 ∧ (t.core n).ie = false ∧ (t.core n).inHandler = true ∧
      (t.core n).sfld sLoopact = 0 ∧ (t.core n).sfld sTrapPend = 0 ∧
      bits ((t.core n).ctl crISTAT) 2 1 = (if wait = 0 then 0 else 1)) ∧
    ((s.core n).gap = .halt wait → ∃ t, Completes (.haltEntry n) s t ∧ (t.core n).st = 1 ∧ (t.core n).haltReq = false ∧
      (t.core n).haltWait = wait ∧ (t.core n).pc = (s.core n).pc) ∧
    ((s.core n).gap = .fault cause slot pc addr → ∃ t, Completes (.faultStateEntry n) s t ∧ (t.core n).st = 5 ∧
      t.reg (SC_n_FAULT n) = BitVec.ofNat 32 (cause + slot * 256 + pc * 4096) ∧
      t.reg (SC_n_FAULT_ADDR n) = (if cause = fcUnmapped ∨ cause = fcMisaligned ∨ cause = fcDataEcc
        then BitVec.ofNat 32 addr else s.reg (SC_n_FAULT_ADDR n))) ∧
    ((s.core n).gap = .reti → (s.core n).flight = [] → bits ((s.core n).ctl crISTAT) 2 1 = 0 →
      ∃ t, Completes (.retiResume n) s t ∧ (t.core n).st = 2 ∧ (t.core n).pc = (s.core n).ctl crIPC ∧
        (t.core n).status = ((s.core n).ctl crISTAT ||| ((s.core n).status &&& 0xF00)))

/-- A core that issues: running, nothing in flight, no loop, repeat, branch, lock or request under way. -/
def Obligations.IntegerBundleIssuesItsResults : Prop :=
  ∀ (n : Fin 48) (s : State) (o : AluOp), let c := s.core n
    mayIssue s n = true → c.freezeReq = false → c.haltReq = false → c.breakDue = false → c.flight = [] → c.stores = [] →
    c.hold = [] → c.pc < 4096 → c.repLeft = 0 → c.br = none → c.sfld sLoopact = 0 → holdsLock s n = false →
    (fetchMarks s n c.pc) = [0, 0, 0, 0] →
    decodeBundle (fetchBundle s n c.pc) = .ok
      { ls0 := none, ls1 := none, ma0 := none, ma1 := none, al0 := some o, al1 := none, fp := none, ct := .nop, window := false } →
    (∀ k : Fin 4, s.flag (DBG_SC_n_BP_k n k) DBG_SC_n_BP_k_EN = false) →
    ∃ t, Completes (.bundleIssue n) s t ∧ (t.core n).pc = c.pc + 1 ∧ (t.core n).cyc = c.cyc + 1 ∧ (t.core n).r = c.r ∧
      (t.core n).flight = (aluResults c o).map (mkFlight c.cyc 4 c.pc) ∧ t.mem = s.mem ∧
      (∀ m, m ≠ n.val → t.core m = s.core m) ∧ ∀ a, t.reg a = s.reg a

/-- R58: a result that is due lands in its D register and in no other; a running core's other registers stay. -/
def Obligations.DueResultLandsInItsRegister : Prop :=
  ∀ (n : Fin 48) (s : State) (f : Flight), coreOn s n = true → (s.core n).st = 2 → (s.core n).stores = [] →
    (s.core n).flight = [f] → f.due ≤ (s.core n).cyc → f.dest < 0x40 → f.sflags = 0 → f.fflags = 0 → f.bad = false →
    ∃ t, Completes (.resultLanding n) s t ∧ (t.core n).flight = [] ∧ (t.core n).d f.dest = f.val % 2 ^ 32 ∧
      (∀ k, k ≠ f.dest → (t.core n).get k = (s.core n).get k) ∧ t.mem = s.mem ∧ ∀ a, t.reg a = s.reg a

/-- R103: ADD, SUB and NEG on AL0 and AL1 keep the low 32 bits, or with `:s` the nearer limit, and set OV exactly when the exact
result is no signed 32-bit number. -/
def Obligations.IntegerSumsWrapOrSaturate : Prop :=
  ∀ (a b imm old : Nat), a < 2 ^ 32 → b < 2 ^ 32 →
    ∀ k ∈ [(AluKind.add, sext 32 a + sext 32 b), (AluKind.sub, sext 32 a - sext 32 b), (AluKind.neg, -sext 32 a)],
      sext 32 (aluValue k.1 true a b imm old).1 = max (-2 ^ 31) (min (2 ^ 31 - 1) k.2) ∧
      ((aluValue k.1 false a b imm old).1 : Int) = k.2 % 2 ^ 32 ∧
      ∀ sat, (aluValue k.1 sat a b imm old).2 = if -2 ^ 31 ≤ k.2 ∧ k.2 ≤ 2 ^ 31 - 1 then 0 else fOV

/-- R101, R103: quotient and remainder belong together, the quotient truncating toward zero; division by 0 sets DZ. -/
def Obligations.QuotientAndRemainderBelongTogether : Prop :=
  ∀ (a b imm old : Nat) (sat : Bool), a < 2 ^ 32 → b < 2 ^ 32 →
    (b ≠ 0 → (a ≠ 0x80000000 ∨ b ≠ 0xFFFFFFFF) →
      sext 32 b * sext 32 (aluValue .div sat a b imm old).1 + sext 32 (aluValue .rem sat a b imm old).1 = sext 32 a ∧
      (sext 32 (aluValue .rem sat a b imm old).1).natAbs < (sext 32 b).natAbs ∧
      0 ≤ sext 32 (aluValue .rem sat a b imm old).1 * sext 32 a ∧ (aluValue .div sat a b imm old).2 = 0) ∧
    (b ≠ 0 → b * (aluValue .divu sat a b imm old).1 + (aluValue .remu sat a b imm old).1 = a ∧
      (aluValue .remu sat a b imm old).1 < b) ∧
    (b = 0 → aluValue .rem sat a b imm old = (a, fDZ) ∧ aluValue .remu sat a b imm old = (a, fDZ) ∧
      aluValue .divu sat a b imm old = (0xFFFFFFFF, fDZ) ∧
      aluValue .div sat a b imm old = (if sext 32 a < 0 then 0x80000000 else 0x7FFFFFFF, fDZ))

/-- R96: an accumulator result inside the range is kept; one outside keeps its low 40 bits with S = 0, and is clamped to the
nearer limit with S = 1; OV is set in both cases. -/
def Obligations.AccumulatorWrapsOrClamps : Prop :=
  ∀ (x : Int) (sat : Bool),
    (-2 ^ 39 ≤ x ∧ x ≤ 2 ^ 39 - 1 → sext 40 (accFit sat x).1 = x ∧ (accFit sat x).2 = 0) ∧
    (x < -2 ^ 39 ∨ 2 ^ 39 - 1 < x → ((accFit false x).1 : Int) = x % 2 ^ 40 ∧ (accFit false x).2 = fOV ∧
      sext 40 (accFit true x).1 = (if x < 0 then -2 ^ 39 else 2 ^ 39 - 1) ∧ (accFit true x).2 = fOV)

/-- R93: a conditional store writes and gives its C register 1 only under the lock; otherwise it writes nothing and gives 0; the
pointer is updated in both cases. -/
def Obligations.ConditionalStoreNeedsTheLock : Prop :=
  ∀ (n slot : Nat) (locked : Bool) (c : Core) (o : LsOp) (x : LsOut), o.cls = 3 →
    (lsIssue n slot locked c (some o) x).s = x.s ∧ (lsIssue n slot locked c (some o) x).hd = x.hd ∧
    (lsIssue n slot locked c (some o) x).st = x.st ++ (if locked then
      [{ due := c.cyc + 2, slot := slot, addr := lsAddr c o, data := lsData c o }] else []) ∧
    (lsIssue n slot locked c (some o) x).fl = x.fl ++ [mkFlight c.cyc slot c.pc (res 1 (0xC0 + o.cm) (b2n locked))] ++
      (match lsUpdate c o with
       | some p => [mkFlight c.cyc slot c.pc (res 1 (0x40 + o.p) p)]
       | none => [])

/-- R51, R127: a held store to the transmit half completes and its bytes read back; an open lock that its eighth bundle leaves
breaks and is counted; a LOCK bundle whose turn comes issues and takes the lock. -/
def Obligations.HeldAccessesAndLocksComplete : Prop :=
  ∀ (n : Fin 48) (s : State) (h : HeldAccess) (l : List HeldAccess) (m : Nat), coreOn s n = true →
    ((s.core n).hold = h :: l → h.write = true → regionOf (n % 4) h.addr = .tx → halfAddr s (n / 4) h.addr = some m →
      ∃ t, Completes (.interlockedAccessDone n) s t ∧ (t.core n).hold = l ∧ t.bytes m h.data.length = h.data ∧
        (∀ a, a < m ∨ m + h.data.length ≤ a → t.byte a = s.byte a) ∧ ∀ a, t.reg a = s.reg a) ∧
    ((s.core n).breakDue = true → holdsLock s n = true → ∃ t, Completes (.lockBreak n) s t ∧
      lockHeld t (n / 4) = false ∧ bits (t.core n).status 11 1 = 1 ∧ (t.core n).breakDue = false ∧ t.mem = s.mem ∧
      t.fld (TL_t_LOCK (n / 4)) TL_t_LOCK_BROKEN_CNT = min (2 ^ TL_t_LOCK_BROKEN_CNT.w - 1) (s.fld (TL_t_LOCK (n / 4)) TL_t_LOCK_BROKEN_CNT + 1)) ∧
    ((s.core n).waitLock = true → (s.core n).st = 2 → lockHeld s (n / 4) = false → (s.core n).pc < 4096 →
      (s.core n).stepping = false → (s.core n).br = none → (s.core n).haltReq = false →
      (s.core n).repLeft = 0 → (s.core n).sfld sLoopact = 0 →
      fetchMarks s n (s.core n).pc = [0, 0, 0, 0] → (∀ k : Fin 4, s.flag (DBG_SC_n_BP_k n k) DBG_SC_n_BP_k_EN = false) →
      decodeBundle (fetchBundle s n (s.core n).pc) = .ok
        { ls0 := none, ls1 := none, ma0 := none, ma1 := none, al0 := none, al1 := none, fp := none, ct := .lock, window := false } →
      ∃ t, Completes (.lockGrant n) s t ∧ holdsLock t n = true ∧ (t.core n).waitLock = false ∧
        (t.core n).pc = (s.core n).pc + 1 ∧ t.mem = s.mem)

/-- R52: a fabric write to a core's program memory takes effect in RESET, HALTED and FAULT; in any other state it is discarded and
sets SC_n_ERR.LOAD_DISCARD. -/
def Obligations.ProgramLoadNeedsAStoppedCore : Prop :=
  ∀ (n : Fin 48) (s : State) (v : Word) (off : Fin 131072), coreOn s n = true → off.val % 4 = 0 →
    let a := tileBase (n / 4) + 0x900000 + n % 4 * 0x20000 + off
    ((s.core n).st = 0 ∨ (s.core n).st = 1 ∨ (s.core n).st = 5 → ∃ t, Completes (.programMemoryLoad .clove n false off v) s t ∧
      t.num a 4 = v.toNat ∧ ∀ c, c < a ∨ a + 4 ≤ c → t.byte c = s.byte c) ∧
    ((s.core n).st = 2 ∨ (s.core n).st = 3 ∨ (s.core n).st = 4 ∨ (s.core n).st = 6 ∨ (s.core n).st = 7 →
      ∃ t, Completes (.programMemoryLoad .clove n false off v) s t ∧ t.mem = s.mem ∧
        t.fld (SC_n_ERR n) SC_n_ERR_LOAD_DISCARD = 1)


/-! ### Tile memory -/

/-- R120, R121: OWNER_WRITE is discarded, refused, without effect, or begins a handover; HANDOVER_COMPLETE and DRAIN_ABORT end it. -/
def Obligations.OwnerWritesAndHandoversComplete : Prop :=
  ∀ (ag : Agent) (t : Fin 12) (b : Fin 8) (v : Word) (s : State), let o := TL_t_BK_b_OWNER t b
    (ag ≠ .clove → ag ≠ .dap → Completes (.ownerWrite ag t b v) s (s.setFld (TL_t_ERR t) TL_t_ERR_OWNER_WRITER 1)) ∧
    (ag = .clove ∨ ag = .dap →
      (8 ≤ bits v.toNat 0 4 → ownerBusy s t b = false →
        Completes (.ownerWrite ag t b v) s (s.setFld (TL_t_ERR t) TL_t_ERR_OWNER_CODE 1)) ∧
      (bits v.toNat 0 4 < 8 → ownerBusy s t b = true →
        Completes (.ownerWrite ag t b v) s (s.setFld (TL_t_ERR t) TL_t_ERR_OWNER_BUSY 1)) ∧
      (bits v.toNat 0 4 < 8 → ownerBusy s t b = false → bits v.toNat 0 4 = ownerCur s t b →
        Completes (.ownerWrite ag t b v) s s) ∧
      (bits v.toNat 0 4 < 8 → ownerBusy s t b = false → bits v.toNat 0 4 ≠ ownerCur s t b →
        ∃ u, Completes (.ownerWrite ag t b v) s u ∧ OnlyRegs [o] s u ∧ ownerReq u t b = bits v.toNat 0 4 ∧
          ownerCur u t b = ownerCur s t b ∧ ownerBusy u t b = true)) ∧
    (ownerBusy s t b = true → ∃ u, Completes (.handoverComplete t b) s u ∧ OnlyRegs [o, TL_t_CAP t] s u ∧
      ownerCur u t b = ownerReq s t b ∧ ownerBusy u t b = false) ∧
    (ownerBusy s t b = true → ∃ u, Completes (.drainAbort t b) s u ∧ ownerCur u t b = ownerReq s t b ∧
      ownerBusy u t b = false ∧ u.fld (TL_t_ERR t) TL_t_ERR_DRAIN_ABORT = 1 ∧ u.mem = s.mem ∧
      ∀ n : Fin 48, n.val / 4 = t.val → ∀ x ∈ (u.core n).stores, inBank b x.addr = false)

/-- R119: an access of an agent that the bank does not serve reads zeros, writes nothing, and is counted; the first one is recorded
while no record is held. -/
def Obligations.UnownedAccessIsRefusedAndCounted : Prop :=
  ∀ (s : State) (t : Fin 12) (b : Fin 8) (code off n : Nat) (l : List Byte), code < 9 → off < 0x80000 → ownerServes s t b code = false →
    (ownedRead s t b code off n).1 = List.replicate n 0 ∧ (ownedWrite s t b code off l).mem = s.mem ∧
    (ownedWrite s t b code off l).ecc = s.ecc ∧
    (ownedWrite s t b code off l).fld (TL_t_VIOL_CNT t) TL_t_VIOL_CNT_COUNT = min 65535 (s.fld (TL_t_VIOL_CNT t) TL_t_VIOL_CNT_COUNT + 1) ∧
    (s.fld (TL_t_VIOL t) TL_t_VIOL_VALID = 1 → (ownedWrite s t b code off l).reg (TL_t_VIOL t) = s.reg (TL_t_VIOL t)) ∧
    (s.fld (TL_t_VIOL t) TL_t_VIOL_VALID = 0 → ∀ u, u = (ownedRead s t b code off n).2 →
      u.fld (TL_t_VIOL t) TL_t_VIOL_AGENT = code ∧ u.fld (TL_t_VIOL t) TL_t_VIOL_BANK = b ∧
      u.fld (TL_t_VIOL t) TL_t_VIOL_WRITE = 0 ∧ u.fld (TL_t_VIOL t) TL_t_VIOL_VALID = 1 ∧
      u.fld (TL_t_VIOL_ADDR t) TL_t_VIOL_ADDR_OFFSET = off ∧
      (u.fld (TL_t_VIOL t) TL_t_VIOL_HANDOVER = 1 ↔
        ownerBusy s t b = true ∧ (ownerCur s t b = code ∨ ownerReq s t b = code)))

/-- R119, R130, R132: bytes that the served agent writes read back, whether or not their rows are spared or a test window is open,
and no other byte of the bank reads differently. -/
def Obligations.BankWriteReadsBack : Prop :=
  ∀ (s : State) (t : Fin 12) (b : Fin 9) (off : Nat) (l : List Byte), off + l.length ≤ bankSize b →
    (bankRead (bankWrite s t b off l) t b off l.length).1 = l ∧
    ∀ o, o < bankSize b → o < off ∨ off + l.length ≤ o →
      (bankRead (bankWrite s t b off l) t b o 1).1 = (bankRead s t b o 1).1

/-- R130, R131, R133, R134: the commands of spare rows and of the background test. -/
def Obligations.SpareRowAndTestCommandsComplete : Prop :=
  ∀ (s : State) (t : Fin 12) (b : Fin 9) (k : Fin 4) (v : Word),
    (remapBusy s t b k = true → ∃ u, Completes (.remapWrite t b k v) s u ∧ OnlyRegs [TL_t_ERR t] s u ∧
      u.fld (TL_t_ERR t) TL_t_ERR_REMAP_BUSY = 1) ∧
    (remapBusy s t b k = false → (b.val < 8 ∨ bits v.toNat 0 9 < 64) →
      (∀ j : Fin 4, j ≠ k → remapEn s t b j = true → remapRow s t b j ≠ bits v.toNat 0 9) → bits v.toNat 12 1 = 1 →
      ∃ u, Completes (.remapWrite t b k v) s u ∧ remapRow u t b k = bits v.toNat 0 9 ∧ remapEn u t b k = true ∧
        remapBusy u t b k = true ∧ u.mem = s.mem ∧
        tget 0 u.spareCopy (spareKey t b k) = (if windowOpen s t b then 1 else 2)) ∧
    (tget 0 s.spareCopy (spareKey t b k) = 1 → windowOpen s t b = false →
      Completes (.remapCopyStart t b k) s { s with spareCopy := tput 0 s.spareCopy (spareKey t b k) 2 }) ∧
    (tget 0 s.spareCopy (spareKey t b k) = 2 → remapEn s t b k = true → mappedRow s t b k = 0 →
      ∃ u, Completes (.remapCopyDone t b k) s u ∧ mappedRow u t b k = remapRow s t b k + 1 ∧ remapBusy u t b k = false ∧
        (∀ i, i < 1024 → u.byte (spareBase t b k + i) = s.byte (bankBase t b + 1024 * remapRow s t b k + i)) ∧
        ∀ a, a < spareBase t b k ∨ spareBase t b k + 1024 ≤ a → u.byte a = s.byte a) ∧
    (bits (s.fld (TL_t_BKT_CTL t) TL_t_BKT_CTL_EN) b 1 = 1 → windowOpen s t b = false → copyPending s t b = false →
      ∃ u, Completes (.testWindowStart t) s u ∧ windowOpen u t b = true ∧ windowNo u t b = tget 0 s.nextWin (9 * t + b) % 1024) ∧
    (windowOpen s t b = true → ∃ u, Completes (.testWindowEnd t b none) s u ∧ windowOpen u t b = false ∧
      tget 0 u.nextWin (9 * t + b) = (if windowNo s t b + 1 < windowsOf b then windowNo s t b + 1 else 0) ∧
      u.fld (bkTest t b) TL_t_BK_b_TEST_FAIL = s.fld (bkTest t b) TL_t_BK_b_TEST_FAIL) ∧
    (bits v.toNat 0 16 < 2 → Completes (.bktIntervalWrite t v) s (s.setFld (TL_t_ERR t) TL_t_ERR_INTERVAL_RANGE 1)) ∧
    (2 ≤ bits v.toNat 0 16 → Completes (.bktIntervalWrite t v) s (s.setFld (TL_t_BKT_INTERVAL t) TL_t_BKT_INTERVAL_US (bits v.toNat 0 16)))


/-! ### Drive, sense and TDM -/

/-- R149, R150: a group fault puts every channel of the group, and no other, into GROUP_FAULT and takes the enable away; the latch
clears only while the input is high; a lost enable sends live channels to OFF. -/
def Obligations.GroupFaultAndEnableLossComplete : Prop :=
  ∀ (g : Fin 8) (s : State), let c := DRV_GRP_g_CTL g
    (∃ t, Completes (.groupFault g) s t ∧ t.fld c DRV_GRP_g_CTL_FLT_LATCHED = 1 ∧ t.fld c DRV_GRP_g_CTL_EN_OUT = 0 ∧
      t.fld c DRV_GRP_g_CTL_EN = s.fld c DRV_GRP_g_CTL_EN ∧ t.mem = s.mem ∧
      (∀ n : Fin 64, n.val / 8 = g.val → drvState t n = 5 ∧ t.fld (DRV_n_STAT n) DRV_n_STAT_GRP = 1) ∧
      (∀ n : Fin 64, n.val / 8 ≠ g.val → t.reg (DRV_n_STAT n) = s.reg (DRV_n_STAT n))) ∧
    Completes (.fltInputHigh g) s (s.setFld c DRV_GRP_g_CTL_FLT_IN 0) ∧
    (s.fld c DRV_GRP_g_CTL_FLT_IN = 1 → ∃ t, Completes (.fltLatchedClear g) s t ∧
      t.fld c DRV_GRP_g_CTL_FLT_LATCHED = s.fld c DRV_GRP_g_CTL_FLT_LATCHED) ∧
    (s.fld c DRV_GRP_g_CTL_FLT_IN = 0 → ∃ t, Completes (.fltLatchedClear g) s t ∧ t.fld c DRV_GRP_g_CTL_FLT_LATCHED = 0 ∧
      t.fld c DRV_GRP_g_CTL_EN = s.fld c DRV_GRP_g_CTL_EN ∧
      (t.fld c DRV_GRP_g_CTL_EN_OUT = 1 ↔ s.fld c DRV_GRP_g_CTL_EN = 1 ∧ inRun s = true)) ∧
    (s.fld c DRV_GRP_g_CTL_EN_OUT = 1 → groupWanted s g = false → ∃ t, Completes (.driveEnableLoss g) s t ∧
      t.fld c DRV_GRP_g_CTL_EN_OUT = 0 ∧
      (∀ n : Fin 64, n.val / 8 = g.val → drvState t n = if drvLive s n then 0 else drvState s n) ∧
      (∀ n : Fin 64, t.fld (DRV_n_CTL n) DRV_n_CTL_ENABLE = s.fld (DRV_n_CTL n) DRV_n_CTL_ENABLE))

/-- R145, R147, R148, R151, R153, R469: the commands of one drive channel. -/
def Obligations.DriveChannelCommandsComplete : Prop :=
  ∀ (n : Fin 64) (s : State) (e : Bool),
    (drvLive s n = true → Completes (.shortDetect n) s ((setDrvState s n 4).setFld (DRV_n_STAT n) DRV_n_STAT_SHORT 1)) ∧
    (drvLive s n = false → Completes (.shortDetect n) s s) ∧
    (s.fld (DRV_n_STAT n) DRV_n_STAT_OPEN_CNT = 4 → ∃ t, Completes (.openDetect n) s t ∧ t.fld (DRV_n_STAT n) DRV_n_STAT_OPEN = 1 ∧
      (t.drive n).openCond = true ∧
      (s.fld (DRV_n_CTL n) DRV_n_CTL_OPEN_OFF = 1 → drvState t n = (if drvLive s n then 0 else drvState s n) ∧
        t.fld (DRV_n_CTL n) DRV_n_CTL_ENABLE = 0) ∧
      (s.fld (DRV_n_CTL n) DRV_n_CTL_OPEN_OFF = 0 → drvState t n = drvState s n ∧ t.reg (DRV_n_CTL n) = s.reg (DRV_n_CTL n))) ∧
    Completes (.enableWrite n e) s (s.setFld (DRV_n_CTL n) DRV_n_CTL_ENABLE (b2n e)) ∧
    (drvState s n = 4 ∨ drvState s n = 5 →
      Completes (.clrFault n) s (setDrvState (s.setFld (DRV_n_CTL n) DRV_n_CTL_CLR_FAULT 1) n 0)) ∧
    (drvState s n = 0 → ∃ t, Completes (.calStart n) s t ∧ drvState t n = 3 ∧ (t.drive n).calFrames = 0 ∧ (t.drive n).sumV = 0 ∧
      (t.drive n).sumI = 0) ∧
    (drvState s n ≠ 0 → ∃ t, Completes (.calStart n) s t ∧ drvState t n = drvState s n) ∧
    (drvState s n = 3 → (s.drive n).calFrames = 4096 → (s.drive n).sumV % 268435456 = 0 → (s.drive n).sumI % 268435456 = 0 →
      ∃ t, Completes (.calDone n) s t ∧ drvState t n = 0 ∧
        sext 16 (t.fld (SNS_n_CAL (2 * n)) SNS_n_CAL_OFFSET) = max (-32768) (min 32767 (-((s.drive n).sumV / 268435456))) ∧
        sext 16 (t.fld (SNS_n_CAL (2 * n + 1)) SNS_n_CAL_OFFSET) = max (-32768) (min 32767 (-((s.drive n).sumI / 268435456)))) ∧
    (64 ≤ (s.drive n).errCnt → ∃ t, Completes (.loopFault n) s t ∧ t.fld (DRV_n_CTL n) DRV_n_CTL_LOOP_EN = 0 ∧
      t.fld (DRV_n_STAT n) DRV_n_STAT_LOOP_FAULT = 1 ∧ (t.drive n).corr = 0)

/-- R142, R143, R144, R146, R148: updates of the loop and the estimator, and the events of sense inputs and TDM ports. -/
def Obligations.SenseLoopAndEstimateCommandsComplete : Prop :=
  ∀ (n : Fin 64) (m : Fin 128) (p : Fin 8) (s : State) (v : Word) (sv si : Nat),
    (drvLive s n = true → s.fld (DRV_n_CTL n) DRV_n_CTL_LOOP_EN = 0 → ∃ t, Completes (.correctionUpdate n v) s t ∧
      (t.drive n).corr = 0 ∧ (t.drive n).errCnt = 0 ∧ (t.drive n).edge ≤ 16000 ∧ t.reg (DRV_n_CTL n) = s.reg (DRV_n_CTL n)) ∧
    (scaleOk (s.reg (DRV_n_VSCALE n)).toNat = none ∨ scaleOk (s.reg (DRV_n_ISCALE n)).toNat = none →
      ∃ t, Completes (.impedanceEstimate n sv si) s t ∧ t.reg (DRV_n_ZEST n) = 0xFFFFFFFF#32 ∧
        t.fld (DRV_n_STAT n) DRV_n_STAT_OPEN_CNT = s.fld (DRV_n_STAT n) DRV_n_STAT_OPEN_CNT) ∧
    (s.fld (DRV_n_VMIN n) DRV_n_VMIN_VMIN = 0 → (scaleOk (s.reg (DRV_n_VSCALE n)).toNat).isSome = true →
      (scaleOk (s.reg (DRV_n_ISCALE n)).toNat).isSome = true → ∃ t, Completes (.impedanceEstimate n sv si) s t ∧
        t.fld (DRV_n_STAT n) DRV_n_STAT_OPEN_CNT = if s.fld (DRV_n_LIM n) DRV_n_LIM_OPEN_TH < (t.reg (DRV_n_ZEST n)).toNat / 4096
          then min 4 (s.fld (DRV_n_STAT n) DRV_n_STAT_OPEN_CNT + 1) else 0) ∧
    (senseOn s m = true → Completes (.senseStuck m) s (s.setFld (SNS_n_STAT m) SNS_n_STAT_STUCK 1)) ∧
    (senseOn s m = true → ∃ t, Completes (.senseOverload m) s t ∧ OnlyRegs [SNS_n_STAT m] { s with an := t.an } t ∧
      t.fld (SNS_n_STAT m) SNS_n_STAT_OVL = 1) ∧
    (tdmOn s p = true → s.fld (TDM_p_CTL p) TDM_p_CTL_MASTER = 0 → ∃ t, Completes (.tdmSlip p) s t ∧
      t.fld (TDM_p_STAT p) TDM_p_STAT_SLIP = 1 ∧ t.fld (TDM_p_STAT p) TDM_p_STAT_LOCKED = 0 ∧ tget 0 t.tdmClean p = 0) ∧
    (tdmOn s p = true → 16 ≤ tget 0 s.tdmClean p → Completes (.tdmLock p) s (s.setFld (TDM_p_STAT p) TDM_p_STAT_LOCKED 1))

/-- R469, R150: what a channel does at a block tick: live with ENABLE 0 it is OFF; STARTING becomes RUN; OFF with ENABLE 1 and an
enabled group starts, once a block has passed since the enable rose; no other state changes. -/
def Obligations.DriveChannelAtBlockTick : Prop :=
  ∀ (n : Fin 64) (s : State), let en := s.fld (DRV_n_CTL n) DRV_n_CTL_ENABLE
    drvState (drvEnter s n) n =
      if drvState s n = 1 ∨ drvState s n = 2 then (if en = 0 then 0 else 2)
      else if drvState s n = 0 ∧ en = 1 ∧ s.fld (DRV_GRP_g_CTL (n / 8)) DRV_GRP_g_CTL_EN_OUT = 1 ∧
        tget 0 s.grpRise (n / 8) + blockN s ≤ s.frame then 1
      else drvState s n


/-! ### Network and streams -/

/-- R155, R160, R162 to R165, R181 to R183: commands on links, rings, time, shaping and the hub role. -/
def Obligations.NetworkCommandsComplete : Prop :=
  ∀ (p : Fin 4) (r : Fin 2) (s : State) (v : Word) (src : Nat),
    (portRate s p ≠ 3 → ∃ t, Completes (.linkUp p) s t ∧ t.fld (NET_PORT_p_STAT p) NET_PORT_p_STAT_LINK = 1 ∧ t.net = s.net ∧
      (∀ a, a ≠ NET_PORT_p_STAT p → a ≠ NET_PORT_p_STAT (otherPort p) → t.reg a = s.reg a)) ∧
    (s.fld (NET_PORT_p_STAT p) NET_PORT_p_STAT_LINK = 1 → ∃ t, Completes (.linkDown p) s t ∧
      t.fld (NET_PORT_p_STAT p) NET_PORT_p_STAT_LINK = 0 ∧ t.fld (NET_PORT_p_STAT p) NET_PORT_p_STAT_LINK_LOST = 1 ∧
      t.fld NET_RING_STAT (ringOpenFld (ringOf p)) = 1 ∧ (∀ o ∈ t.net.fwd, o.port ≠ p.val)) ∧
    Completes (.ddSourceForget src) s { s with net := { s.net with dd := tdrop (· = src) s.net.dd } } ∧
    (ringEn s r = true → Completes (.ringOpenTimeout r) s (s.setFld NET_RING_STAT (ringOpenFld r) 1)) ∧
    (∃ t, Completes .holdoverEntry s t ∧ t.fld NET_PTP_STAT NET_PTP_STAT_HOLDOVER = 1) ∧
    (∃ t, Completes (.dcoFreqWrite v) s t ∧ OnlyRegs [NET_DCO_FREQ] s t ∧
      sext 32 (t.reg NET_DCO_FREQ).toNat = max (-100000000) (min 100000000 (sext 32 v.toNat))) ∧
    (3 * rateMbps s p < 4 * (bits v.toNat 0 16 + s.fld (NET_PORT_p_CBS_B p) NET_PORT_p_CBS_B_SLOPE) →
      Completes (.cbsWrite p true v) s (s.setFld (NET_PORT_p_STAT p) NET_PORT_p_STAT_CBS_RANGE 1)) ∧
    (4 * (bits v.toNat 0 16 + s.fld (NET_PORT_p_CBS_B p) NET_PORT_p_CBS_B_SLOPE) ≤ 3 * rateMbps s p →
      ∃ t, Completes (.cbsWrite p true v) s t ∧ OnlyRegs [NET_PORT_p_CBS_A p] s t ∧
        t.fld (NET_PORT_p_CBS_A p) NET_PORT_p_CBS_A_SLOPE = bits v.toNat 0 16) ∧
    Completes (.gclSwapReq p) s (s.setFld (NET_PORT_p_GCL_CTL p) NET_PORT_p_GCL_CTL_SWAP_REQ 1) ∧
    (s.fld (NET_PORT_p_GCL_CTL p) NET_PORT_p_GCL_CTL_SWAP_REQ = 1 →
      (s.fld (NET_PORT_p_GCL_CTL p) NET_PORT_p_GCL_CTL_LEN = 0 ∨ (s.reg (NET_PORT_p_GCL_CYC p)).toNat < 1000 →
        ∃ t, Completes (.gclCycleStart p) s t ∧ t.fld (NET_PORT_p_STAT p) NET_PORT_p_STAT_GCL_RANGE = 1 ∧
          ∀ k : Fin 64, t.reg (NET_GCLA_p_k p k) = s.reg (NET_GCLA_p_k p k)) ∧
      (1 ≤ s.fld (NET_PORT_p_GCL_CTL p) NET_PORT_p_GCL_CTL_LEN → s.fld (NET_PORT_p_GCL_CTL p) NET_PORT_p_GCL_CTL_LEN ≤ 64 →
        1000 ≤ (s.reg (NET_PORT_p_GCL_CYC p)).toNat → ∃ t, Completes (.gclCycleStart p) s t ∧
          t.fld (NET_PORT_p_GCL_CTL p) NET_PORT_p_GCL_CTL_SWAP_REQ = 0 ∧
          ∀ k : Fin 64, t.reg (NET_GCLA_p_k p k) = s.reg (NET_GCL_p_k p k))) ∧
    ((tget Gcl.reset s.net.gcl p).idx + 1 < (tget Gcl.reset s.net.gcl p).len →
      let g := tget Gcl.reset s.net.gcl p
      g.pos + gateLen s p g g.idx g.pos < g.cyc → ∃ t, Completes (.gateIntervalEnd p) s t ∧
        (tget Gcl.reset t.net.gcl p).idx = g.idx + 1 ∧ (tget Gcl.reset t.net.gcl p).pos = g.pos + gateLen s p g g.idx g.pos) ∧
    (anyRing s = true → ∃ t, Completes .isolation s t ∧ t.fld NET_RING_STAT NET_RING_STAT_ISOLATED = 1 ∧
      (s.fld NET_RING_STAT NET_RING_STAT_ISOLATED = 0 → t.fld NET_RING_STAT NET_RING_STAT_ISO_EVT = 1 ∧
        t.fld NET_PTP_STAT NET_PTP_STAT_HOLDOVER = 1)) ∧
    (bits v.toNat 0 2 = 0 → ∃ t, Completes (.ringEnableWrite v) s t ∧ t.fld NET_CTL NET_CTL_RING_A_EN = 0 ∧
      t.fld NET_CTL NET_CTL_RING_B_EN = 0 ∧ t.fld NET_RING_STAT NET_RING_STAT_ISOLATED = 0)

/-- R157: with PRP_EN and both rings enabled, all links up and no gate list in force, the device sends a supervision frame, and as
an eligible device a hub announce, as four copies with one sequence number, by path 0b0010 on ring A and 0b0011 on ring B. -/
def Obligations.OriginatedFramesGoOutAsFourCopies : Prop :=
  ∀ (s : State) (c : Instr), c = .supervisionSend ∨ (c = .hubAnnounceSend ∧ s.net.hubEligible = true) →
    prpEn s = true → ringEn s 0 = true → ringEn s 1 = true →
    (∀ p : Fin 4, linkUp s p = true ∧ s.fld (NET_PORT_p_GCL_CTL p) NET_PORT_p_GCL_CTL_EN = 0) →
    ∃ t, Completes c s t ∧ t.net.sent.map (fun o => (o.port, o.path)) = [(0, 2), (1, 2), (2, 3), (3, 3)] ∧
      (∀ o ∈ t.net.sent, o.frame.seq = some s.net.hsrSeq ∧ o.frame.src = ownMac s) ∧
      t.net.hsrSeq = (s.net.hsrSeq + 1) % 65536 ∧ t.mem = s.mem ∧ ∀ a, t.reg a = s.reg a

/-- R156, R158, R159: a frame that is too long or damaged is counted and changes nothing else; the device's own frame changes at
most the ring's open flag; a frame whose number has been seen on some ring is counted as a duplicate and not delivered; a free port
sends its oldest waiting frame of the highest class. -/
def Obligations.ReceivedFramesAreCountedOrDiscarded : Prop :=
  ∀ (p : Fin 4) (f : EthFrame) (s : State), linkUp s p = true →
    (1528 < f.len ∨ f.fcsOk = false →
      Completes (.frameReceive p f) s (s.incSat (NET_PORT_p_RXERR p) NET_PORT_p_RXERR_COUNT)) ∧
    (f.len ≤ 1528 → f.fcsOk = true → ringEn s (ringOf p) = true → f.src = ownMac s → ∃ t, Completes (.frameReceive p f) s t ∧
      OnlyRegs [NET_RING_STAT] s t) ∧
    (∀ q e, f.len ≤ 1528 → f.fcsOk = true → ringEn s (ringOf p) = true → f.src ≠ ownMac s → isMulticast f.dst = true →
      f.seq = some q → s.net.dd.find? (fun e => e.1 = f.src) = some e → seenOn e.2 q ≠ 0 →
      ∃ t, Completes (.frameReceive p f) s t ∧ t.mem = s.mem ∧ t.flows = s.flows ∧
        t.fld NET_DD_CNT NET_DD_CNT_DISCARDED = min (2 ^ 32 - 1) (s.fld NET_DD_CNT NET_DD_CNT_DISCARDED + 1) ∧
        t.fld NET_RING_STAT NET_RING_STAT_ISOLATED = 0 ∧
        (bits (seenOn e.2 q) (ringOf p) 1 = 1 → t.net.fwd = s.net.fwd)) ∧
    (∀ o, s.net.fwd = [o] → o.port = p → gateOpen s p o.frame.cls o.frame.len = true →
      Completes (.frameForward p) s { s with net := { s.net with sent := [o], fwd := [] } })

/-- R170: FLOW_ENABLE sets EN exactly when no check fails, each failing check sets its bit of FL_ERR, and the first error names the
context; FLOW_DISABLE clears EN and stops the context at the next block tick; other fields of a context in use are not written. -/
def Obligations.FlowCommandsComplete : Prop :=
  ∀ (f : Fin 3072) (r : Fin 14) (s : State) (v : Word),
    (flEn s f = false → flActive s f = false → (s.reg (FL_f_CTL f)).toNat = ((s.reg (FL_f_CTL f)) &&& 0x007F071F#32).toNat →
      ∃ t, Completes (.flowEnable f) s t ∧ t.mem = s.mem ∧
        (flEn t f = true ↔ overlapBad s f = false ∧ idDupBad s f = false ∧ rangeBad s f = false ∧ jbBad s f = false) ∧
        (overlapBad s f = true → t.fld FL_ERR FL_ERR_OVERLAP = 1) ∧ (idDupBad s f = true → t.fld FL_ERR FL_ERR_ID_DUP = 1) ∧
        (rangeBad s f = true → t.fld FL_ERR FL_ERR_RANGE = 1) ∧ (jbBad s f = true → t.fld FL_ERR FL_ERR_JB_ALIGN = 1) ∧
        (s.reg FL_ERR = 0 → flEn t f = false → t.reg FL_ERR_FLOW = BitVec.ofNat 32 f)) ∧
    (∃ t, Completes (.flowDisable f) s t ∧ flEn t f = false ∧ ((s.flow f).on = true → (t.flow f).stop = true)) ∧
    (1 ≤ r.val → r.val < 11 → flEn s f = true ∨ flActive s f = true → ∃ t, Completes (.flowFieldWrite f r v) s t ∧
      OnlyRegs [FL_ERR, FL_ERR_FLOW] s t ∧ t.fld FL_ERR FL_ERR_BUSY = 1) ∧
    (∀ f0 l, (s.flow f).on = true → flTx s f = true → launchFrame s f = some f0 → txSamples s f f0 = some l →
      (s.flow f).launched ≠ some f0 → ∃ t, Completes (.packetLaunch f) s t ∧ (t.flow f).launched = some f0 ∧
        flActive t f = true ∧ t.mem = s.mem ∧ ∀ o ∈ t.net.sent, ∃ q, o.frame.body = txBody s f f0 q l)

/-- R172, R173: the timestamp of a presentation frame gives back that frame at every receiver whose time is within 2^31 ns of it;
an AVTP receive context then adds its signed MCO. -/
def Obligations.AvtpTimestampRecoversPresentationFrame : Prop :=
  ∀ (s : State) (f fp : Nat), let t := fp * 1000000000 / fsHz s
    t < s.timeNs + 2 ^ 31 → s.timeNs < t + 2 ^ 31 →
    avtpFrame s f (t % 2 ^ 32) = (fp : Int) + sext 32 (flMco s f)

/-- R182: when two hubs hear each other, exactly one stays hub and the other becomes standby: the one with the higher epoch, or at
equal epochs the one that goes before the other by priority and then by the lower MAC address. R181, R182: a standby takes the hub
role over, and an eligible device takes it when none is heard, with an epoch beyond every epoch heard. -/
def Obligations.HubRolesResolve : Prop :=
  (∀ s u : State, s.net.hubRole = 2 → u.net.hubRole = 2 → ownMac s ≠ ownMac u →
    let a := (announceReceive (ownMac u) u.net.hubPrio 2 u.net.hubEpoch s).net.hubRole
    let b := (announceReceive (ownMac s) s.net.hubPrio 2 s.net.hubEpoch u).net.hubRole
    ((a = 2 ∧ b = 1) ∨ (a = 1 ∧ b = 2)) ∧ (u.net.hubEpoch < s.net.hubEpoch → a = 2)) ∧
  (∀ (s : State) (c : Instr), (c = .hubTakeover ∧ s.net.hubRole = 1) ∨
      (c = .hubElectionTimeout ∧ s.net.hubEligible = true ∧ s.net.hubRole ≠ 2) →
    ∃ t, Completes c s t ∧ t.net.hubRole = 2 ∧ t.net.hubEpoch = (s.net.maxEpoch + 1) % 2 ^ 32 ∧ t.mem = s.mem)


/-! ### Anise and Saffron -/

/-- R194, R195, R197, R198: requests, begin, end and results of Anise's runs. R208, R218 to R222: Saffron's enable, limits, updates,
results, and the bounded move of its trims. -/
def Obligations.AnalyzerCommandsComplete : Prop :=
  ∀ (s : State) (m : Fin 4) (z : Fin 256) (v : Word),
    (m.val < 3 → Completes (.anModeWrite m) s (s.setFld AN_CTL AN_CTL_MODE m)) ∧
    (m.val = 3 → Completes (.anModeWrite m) s (s.setFld AN_ERR AN_ERR_MODE_RANGE 1)) ∧
    (anBusy s = true → Completes .anStart s s) ∧
    (anBusy s = false → anMode s ≠ 0 → codeDup s = false → anMemBad s = false → winBad s = false →
      ∃ t, Completes .anStart s t ∧ OnlyRegs [AN_RUN_STAT] { s with an := t.an } t ∧
        t.fld AN_RUN_STAT AN_RUN_STAT_WAITING = 1 ∧ t.an.startAt = s.frame) ∧
    (anBusy s = false → anMode s = 0 ∨ codeDup s = true ∨ anMemBad s = true ∨ winBad s = true →
      ∃ t, Completes .anStart s t ∧ OnlyRegs [AN_ERR] s t ∧ (anMode s = 0 → t.fld AN_ERR AN_ERR_MODE_OFF = 1) ∧
        (codeDup s = true → t.fld AN_ERR AN_ERR_CODE_DUP = 1) ∧ (anMemBad s = true → t.fld AN_ERR AN_ERR_MEM_RANGE = 1) ∧
        (winBad s = true → t.fld AN_ERR AN_ERR_WIN_RANGE = 1)) ∧
    (∃ t, Completes .anStop s t ∧ t.fld AN_RUN_STAT AN_RUN_STAT_WAITING = 0 ∧ t.an.stopReq = s.an.run.isSome ∧ t.an.run = s.an.run) ∧
    (s.fld AN_RUN_STAT AN_RUN_STAT_WAITING = 1 → s.frame % 131071 = 0 → s.an.startAt + 4096 ≤ s.frame →
      ∃ t r, Completes .anRunBegin s t ∧ t.an.run = some r ∧ r.first = s.frame ∧
        r.periods = s.fld AN_RUN_CTL AN_RUN_CTL_PERIODS + 1 ∧ t.fld AN_RUN_STAT AN_RUN_STAT_RUNNING = 1 ∧
        t.fld AN_RUN_STAT AN_RUN_STAT_WAITING = 0 ∧ t.reg AN_START_LO = BitVec.ofNat 32 s.frame) ∧
    (∀ r, s.an.run = some r → s.frame % 131071 = 0 → r.first < s.frame →
      s.an.stopReq = true ∨ ((s.frame - r.first) / 131071 = r.periods ∧ s.fld AN_RUN_CTL AN_RUN_CTL_CONT = 0) →
      ∃ t d, Completes .anRunEnd s t ∧ t.an.proc = some d ∧ d.num = r.num ∧ d.acc = r.acc ∧
        d.periods = (s.frame - r.first) / 131071 ∧ (d.truncated = true ↔ (s.frame - r.first) / 131071 ≠ r.periods) ∧
        t.an.run = none ∧ t.fld AN_RUN_STAT AN_RUN_STAT_RUNNING = 0 ∧ t.fld AN_RUN_STAT AN_RUN_STAT_PROCESSING = 1) ∧
    (s.an.proc.isSome = true → ∃ t, Completes .anProcessingDone s t ∧ t.an.proc = none ∧
      t.fld AN_RUN_STAT AN_RUN_STAT_PROCESSING = 0 ∧ t.fld AN_RUN_STAT AN_RUN_STAT_DONE = 1) ∧
    (s.fld SF_CTL SF_CTL_EN = 0 → ddrLimit s < sfMem s + 0x100000 → Completes .sfEnable s (s.setFld SF_ERR SF_ERR_MEM_RANGE 1)) ∧
    (sfMem s + 0x100000 ≤ ddrLimit s → Completes .sfEnable s (s.setFld SF_CTL SF_CTL_EN 1)) ∧
    Completes .limLock s (s.setFld SF_CTL SF_CTL_LIM_LOCK 1) ∧
    (s.fld SF_CTL SF_CTL_LIM_LOCK = 1 → Completes (.sfLimitWrite z v) s (s.setFld SF_ERR SF_ERR_LIM_LOCKED 1)) ∧
    (s.fld SF_CTL SF_CTL_LIM_LOCK = 0 → ∃ t, Completes (.sfLimitWrite z v) s t ∧ OnlyRegs [SF_Z_z_LIM z] s t ∧
      t.reg (SF_Z_z_LIM z) = v) ∧
    (s.frame % (fsHz s / 4) = 0 → s.fld SF_CTL SF_CTL_EN = 1 → ∃ t, Completes .sfUpdate s t ∧ t.mem = s.mem ∧
      t.sf.pend = some s.frame ∧ t.sf.seq = (s.sf.seq + 1) % 2 ^ 32 ∧ t.fld SF_STAT SF_STAT_ACTIVE = 1) ∧
    (∀ u, s.sf.pend = some u → s.fw.sfLoop = false → ∃ t, Completes .sfResultsWritten s t ∧ t.sf.pend = none ∧
      t.fld SF_STAT SF_STAT_UPD = 1 ∧ t.reg SF_UPD_LO = BitVec.ofNat 32 u) ∧
    (let lim := fun f => (s.fld (SF_Z_z_LIM z) f : Int)
     let e := sext 8 (s.fld (SF_Z_z_TEFF z) SF_Z_z_TEFF_GAIN)
     let e' := sext 8 ((trimZone s z).fld (SF_Z_z_TEFF z) SF_Z_z_TEFF_GAIN)
     let w := max (-(lim SF_Z_z_LIM_GDN)) (min (lim SF_Z_z_LIM_GUP) (sext 8 (s.fld (SF_Z_z_TRIM z) SF_Z_z_TRIM_GAIN)))
     (lim SF_Z_z_LIM_SLEW = 0 → trimZone s z = s) ∧ (lim SF_Z_z_LIM_SLEW ≠ 0 →
       (e' - w).natAbs = (e - w).natAbs - s.fld (SF_Z_z_LIM z) SF_Z_z_LIM_SLEW ∧ (e ≤ w → e' ≤ w) ∧ (w ≤ e → w ≤ e')))

/-! ### Message store -/

/-- R225, R226, R243: completions and time-outs of the two drives, their return, and the switch of a recorder's halves. -/
def Obligations.StoreCommandsComplete : Prop :=
  ∀ (p : Fin 2) (intact : Bool) (r : Fin 256) (s : State), let x := s.recOf r
    Completes (.nvmeCompletion p true 0) s { s with nvPosted := tput 0 s.nvPosted (2 * p.val) 1 } ∧
    (∀ o, s.store.ops = [o] → o.stream = none → o.leftA = (if p = 0 then 1 else 0) → o.leftB = (if p = 1 then 1 else 0) →
      ∃ t, Completes (.nvmeCompletion p false 0) s t ∧ t.store.ops = [] ∧
        (∀ i, i < o.hdr.count → t.byte (segBase o.seg + 4096 + i) = s.byte (o.src + i)) ∧
        let h := tget Seg.free t.store.segs o.seg
        h.seq = s.store.seq + 1 ∧ bits h.flags 1 1 = 1 ∧ bits h.flags 2 1 = b2n (!inMirror s 0) ∧ bits h.flags 3 1 = b2n (!inMirror s 1)) ∧
    (∀ o, s.store.ops = [o] → o.leftA = 2 → o.leftB = 2 → ∃ t, Completes (.nvmeCompletion p false 0) s t ∧ t.mem = s.mem ∧
      t.store.ops = [{ o with leftA := if p = 0 then 1 else 2, leftB := if p = 1 then 1 else 2 }]) ∧
    (s.store.retry = none → inMirror s (1 - p.val) = true → ∃ t, Completes (.nvmeCompletion p false 2) s t ∧
      t.store.retry = some p.val ∧
      t.fld (NV_p_ERRCNT p) NV_p_ERRCNT_READ_ERR = min 65535 (s.fld (NV_p_ERRCNT p) NV_p_ERRCNT_READ_ERR + 1)) ∧
    (s.store.retry = some (1 - p.val) → ∃ t, Completes (.nvmeCompletion p false 1) s t ∧ t.store.retry = none ∧
      t.fld (NV_p_ERRCNT (1 - p.val)) NV_p_ERRCNT_REPAIRED =
        min 65535 (s.fld (NV_p_ERRCNT (1 - p.val)) NV_p_ERRCNT_REPAIRED + 1)) ∧
    (∃ t, Completes (.nvmeTimeout p) s t ∧ t.fld (NV_p_STAT p) NV_p_STAT_FAILED = 1 ∧ inMirror t p = false ∧
      inMirror t (1 - p.val) = inMirror s (1 - p.val)) ∧
    (inMirror s p = true → Completes (.driveReturn p intact) s s) ∧
    (inMirror s p = false → Completes (.driveReturn p true) s (s.setFld MS_STAT MS_STAT_RESYNC 1)) ∧
    (inMirror s p = false → ∃ t, Completes (.driveReturn p false) s t ∧ t.fld MS_STAT MS_STAT_RESYNC = 1 ∧
      ∀ e ∈ t.store.segs, bits e.2.flags (2 + p.val) 1 = 1) ∧
    (s.fld MS_STAT MS_STAT_RESYNC = 1 → inMirror s p = false → ∃ t, Completes (.resyncDone p) s t ∧
      t.fld MS_STAT MS_STAT_RESYNC = 0 ∧ inMirror t p = true ∧ inMirror t (1 - p.val) = inMirror s (1 - p.val) ∧
      ∀ e ∈ t.store.segs, bits e.2.flags (2 + p.val) 1 = 0) ∧
    (x.pos < 348160 → Completes (.recordHalfFull r) s s) ∧
    (348160 ≤ x.pos → x.other.isSome = true → Completes (.recordHalfFull r) s (s.setFld (MS_REC_s_STAT r) MS_REC_s_STAT_DROP 1)) ∧
    (348160 ≤ x.pos → x.other = none → ∃ t, Completes (.recordHalfFull r) s t ∧ (t.recOf r).pos = 0 ∧ t.mem = s.mem ∧
      t.fld (MS_REC_s_STAT r) MS_REC_s_STAT_HALF = 1 - s.fld (MS_REC_s_STAT r) MS_REC_s_STAT_HALF ∧
      (s.fld MS_STAT MS_STAT_MIRROR = 3 → t.store.ops = s.store.ops ∧ t.fld (MS_REC_s_STAT r) MS_REC_s_STAT_DROP = 1) ∧
      (s.fld MS_STAT MS_STAT_MIRROR ≠ 3 → ∀ g, recSegment s r = some g → ∃ o, t.store.ops = s.store.ops ++ [o] ∧ o.seg = g ∧
        o.hdr.area = 4 ∧ o.hdr.owner = r.val ∧ o.hdr.first = x.first ∧ o.hdr.count = 1044480 ∧
        o.src = recBuf s r (s.fld (MS_REC_s_STAT r) MS_REC_s_STAT_HALF)))

/-- R232 to R234: PLAYING and PLAY name the latest play begun by the frame; the channel carries that play's sample, left-justified,
in the frames that the format gives it, and 0 once the play has ended. -/
def Obligations.PlayerCarriesTheLatestPlay : Prop :=
  ∀ (c : Fin 256) (r : Nat) (s : State), let k := plCfg s c
    let off := s.frame - (k.start + r * k.period)
    plArmed s c = true → k.start + r * k.period ≤ s.frame → (k.period = 0 → r = 0) → (k.repeats ≠ 0 → k.period ≠ 0 → r < k.repeats) →
    (k.period ≠ 0 → s.frame < k.start + (r + 1) * k.period ∨ r + 1 = k.repeats) →
    (0 < plSamples s c → off ≤ (plSamples s c - 1) * plStep s c → ∃ t, Completes (.playStart c) s t ∧
      OnlyRegs [MS_PL_c_STAT c] s t ∧ t.fld (MS_PL_c_STAT c) MS_PL_c_STAT_PLAYING = 1 ∧
      t.fld (MS_PL_c_STAT c) MS_PL_c_STAT_PLAY = r % 65536) ∧
    ((plSamples s c - 1) * plStep s c < off → ∃ t, Completes (.playEnd c) s t ∧ OnlyRegs [MS_PL_c_STAT c] s t ∧
      t.fld (MS_PL_c_STAT c) MS_PL_c_STAT_PLAYING = 0 ∧ (playSample s c s.frame).1 = 0) ∧
    (∀ i, i < plSamples s c → off = i * plStep s c → tget 0 s.store.plDead c ≠ r + 1 → imageBad s c = false →
      let n := plBytes s c
      let x := ddrRead s (k.buf + i * n) n
      x.ecc = false → (playSample s c s.frame).1 = BitVec.ofNat 32 (leNat x.data * 2 ^ (32 - 8 * n)))

/-- R237, R242: a copy of the schedule that is not newer, or whose CRC is wrong, is discarded; a newer one is adopted, and a channel
armed for an entry that the copy lacks is to be disarmed at the next block tick. -/
def Obligations.ScheduleReceiveAdoptsOnlyNewerCopies : Prop :=
  ∀ (l : List Byte) (s : State), fwUp s = true → minimal s = false →
    (schedOf l = none → Completes (.scheduleReceive l) s s) ∧
    (∀ c, schedOf l = some c → (c.epoch < s.fw.sched.epoch ∨ (c.epoch = s.fw.sched.epoch ∧ c.version ≤ s.fw.sched.version)) →
      Completes (.scheduleReceive l) s s) ∧
    (∀ c, schedOf l = some c → (s.fw.sched.epoch < c.epoch ∨ (c.epoch = s.fw.sched.epoch ∧ s.fw.sched.version < c.version)) →
      emerSize s = 0 → (∀ e ∈ c.entries, e.cancelled = true ∨ serves s e.zone = false) →
      ∃ t, Completes (.scheduleReceive l) s t ∧ t.fw.sched = c ∧
        ∀ a ∈ s.fw.armed, (∀ e ∈ c.entries, e.entry ≠ a.1 / 2) → a ∉ t.fw.armed ∧ (a.2, s.frame) ∈ t.fw.stops)

/-! ### Queue manager -/

/-- R250: what each doorbell operation does to its queues, the free pool and the links, with its result word; `l.2.1` says that the
link read was uncorrectable. -/
def Obligations.QueueOperationsComplete : Prop :=
  ∀ (ag : Agent) (q d : Fin 1048576) (e : Fin 16777216) (s : State), let a := descOf s q
    let b := descOf s d
    let l := readLink s a.head
    a.owner ≠ 0xFF → ag ≠ .dap →
    (QmReady [q] s → e.val < poolSize s → overLimit a 1 = false →
      (∃ t, Completes (.enqt ag q e) s t ∧ (descOf t q).count = a.count + 1 ∧ (descOf t q).tail = e ∧
        (descOf t q).head = (if a.count = 0 then e.val else a.head) ∧ queueHas t q = true ∧ qmResult ag t = 2 ^ 31 ∧
        (∀ x, x ≠ q.val → SameQueue x s t) ∧
        (0 < a.count → placeOf s (linkAddr s a.tail) 4 = .ddr → t.num (linkAddr s a.tail) 4 = e)) ∧
      (∃ t, Completes (.enqh ag q e) s t ∧ (descOf t q).count = a.count + 1 ∧ (descOf t q).head = e ∧
        (descOf t q).tail = (if a.count = 0 then e.val else a.tail) ∧ queueHas t q = true ∧ qmResult ag t = 2 ^ 31 ∧
        (∀ x, x ≠ q.val → SameQueue x s t) ∧
        (0 < a.count → placeOf s (linkAddr s e) 4 = .ddr → t.num (linkAddr s e) 4 = a.head % 2 ^ 24))) ∧
    (QmReady [q] s → qmOwns ag a.owner = true → 0 < a.count → (a.count = 1 ∨ l.2.1 = false) →
      (∃ t, Completes (.deq ag q) s t ∧ qmResult ag t = a.head + 2 ^ 31 ∧ (descOf t q).count = a.count - 1 ∧
        (1 < a.count → (descOf t q).head = l.1 ∧ (descOf t q).tail = a.tail) ∧ queueHas t q = decide (1 < a.count) ∧
        (∀ x, x ≠ q.val → SameQueue x s t) ∧ t.mem = s.mem)) ∧
    (QmReady [q] s → qmOwns ag a.owner = true → 0 < a.count →
      (∃ t, Completes (.peek ag q) s t ∧ qmResult ag t = a.head + 2 ^ 31 ∧ (∀ x, SameQueue x s t) ∧ t.mem = s.mem)) ∧
    (QmReady [q] s → ∃ t, Completes (.countOp ag q) s t ∧ qmResult ag t = min a.count 0xFFFFFF + 2 ^ 31 ∧
      (∀ x, SameQueue x s t) ∧ t.mem = s.mem) ∧
    (QmReady [q, d] s → qmOwns ag a.owner = true → d ≠ q → b.owner ≠ 0xFF → 0 < a.count → (a.count = 1 ∨ l.2.1 = false) → overLimit b 1 = false →
      ∀ front, ∃ t, Completes (.moveOp ag q d front) s t ∧ qmResult ag t = 2 ^ 31 ∧ (descOf t q).count = a.count - 1 ∧
        (descOf t d).count = b.count + 1 ∧ (if front then (descOf t d).head else (descOf t d).tail) = a.head ∧
        (∀ x, x ≠ q.val → x ≠ d.val → SameQueue x s t)) ∧
    (QmReady [q] s → qmOwns ag a.owner = true → 0 < a.count → overLimit a 0 = false →
      ∃ t, Completes (.moveOp ag q q true) s t ∧ qmResult ag t = 2 ^ 31 ∧ (∀ x, SameQueue x s t) ∧ t.mem = s.mem) ∧
    (QmReady [q, d] s → qmOwns ag a.owner = true → d ≠ q → b.owner ≠ 0xFF → 0 < a.count → overLimit b a.count = false →
      ∃ t, Completes (.splice ag q d) s t ∧ qmResult ag t = 2 ^ 31 ∧ (descOf t q).count = 0 ∧
        (descOf t d).count = b.count + a.count ∧ (descOf t d).tail = a.tail ∧
        (descOf t d).head = (if b.count = 0 then a.head else b.head) ∧ queueHas t q = false ∧
        (∀ x, x ≠ q.val → x ≠ d.val → SameQueue x s t)) ∧
    (QmReady [q] s → qmOwns ag a.owner = true → 0 < a.count → freeCount s + a.count ≤ 2 ^ 24 →
      ∃ t, Completes (.flushOp ag q) s t ∧ qmResult ag t = 2 ^ 31 ∧ (descOf t q).count = 0 ∧ queueHas t q = false ∧
        freeCount t = freeCount s + a.count ∧ (∀ x, x ≠ q.val → SameQueue x s t)) ∧
    (QmReady [] s → 0 < freeCount s → (freeCount s = 1 ∨ (readLink s s.qm.freeHead).2.1 = false) →
      ∃ t, Completes (.alloc ag) s t ∧ qmResult ag t = s.qm.freeHead + 2 ^ 31 ∧ freeCount t = freeCount s - 1 ∧
        (1 < freeCount s → t.qm.freeHead = (readLink s s.qm.freeHead).1) ∧ (∀ x, SameQueue x s t) ∧ t.mem = s.mem) ∧
    (QmReady [] s → e.val < poolSize s → freeCount s < 2 ^ 24 →
      ∃ t, Completes (.freeOp ag e) s t ∧ qmResult ag t = 2 ^ 31 ∧ freeCount t = freeCount s + 1 ∧ t.qm.freeHead = e ∧
        (∀ x, SameQueue x s t))

/-- R252, R253: an operation stops at the first check that fails, gives its status, and changes no queue, link or pool; a failed write
other than EMPTY sets its bit of QM_ERR, and the first is recorded. Without the descriptor it waits for the fetch. -/
def Obligations.QueueChecksStopAtTheFirst : Prop :=
  ∀ (ag : Agent) (q : Fin 1048576) (e : Fin 16777216) (op : Fin 16) (s : State), let a := descOf s q
    (QmReady [q] s → let st := if a.owner = 0xFF then 3 else if ag = .dap then 2 else if poolSize s ≤ e.val then 4
        else if overLimit a 1 then 5 else 0
      st ≠ 0 → ∃ t, Completes (.enqt ag q e) s t ∧ qmResult ag t = st * 2 ^ 24 ∧ t.mem = s.mem ∧ (∀ x, SameQueue x s t) ∧
        freeCount t = freeCount s ∧ bits (t.reg QM_ERR).toNat (st - 2) 1 = 1 ∧
        (s.reg QM_ERR = 0 → t.fld QM_ERR_Q QM_ERR_Q_Q = q.val ∧ t.fld QM_ERR_Q QM_ERR_Q_OP = 0 ∧ t.fld QM_ERR_Q QM_ERR_Q_STATUS = st) ∧
        (s.reg QM_ERR ≠ 0 → t.reg QM_ERR_Q = s.reg QM_ERR_Q)) ∧
    (QmReady [q] s → let st := if a.owner = 0xFF then 3 else if !qmOwns ag a.owner then 2 else if a.count = 0 then 1 else 0
      st ≠ 0 → ∃ t, Completes (.deq ag q) s t ∧ qmResult ag t = st * 2 ^ 24 ∧ t.mem = s.mem ∧ (∀ x, SameQueue x s t) ∧
        t.reg QM_ERR = s.reg QM_ERR ∧ t.reg QM_ERR_Q = s.reg QM_ERR_Q) ∧
    (s.fld QM_CTL QM_CTL_EN = 0 → ∃ t, Completes (.freeOp ag e) s t ∧ qmResult ag t = 6 * 2 ^ 24 ∧ t.mem = s.mem ∧
      freeCount t = freeCount s ∧ t.fld QM_ERR QM_ERR_BUSY = 1) ∧
    (QmReady [] s → ∃ t, Completes (.qmIllegalOperation ag op q) s t ∧ qmResult ag t = 7 * 2 ^ 24 ∧ t.mem = s.mem ∧
      (∀ x, SameQueue x s t) ∧ (qmWrites op = true → t.fld QM_ERR QM_ERR_ILLEGAL = 1)) ∧
    (s.fld QM_CTL QM_CTL_EN = 1 → s.fld QM_STAT QM_STAT_DESC_BUSY = 0 → s.fld QM_STAT QM_STAT_POOL_BUSY = 0 →
      cachedDesc s q = none → ∃ t, Completes (.deq ag q) s t ∧ t.mem = s.mem ∧ (∀ x, descOf t x = descOf s x) ∧
        t.qm.waiting = s.qm.waiting ++ [{ ag := ag, op := 2, q := q, data := 0 }]) ∧
    (∀ w, s.qm.waiting = [w] → qmQueues w.op w.q w.data = [q.val] → ∃ t, Completes (.qmDescriptorFetchDone q) s t ∧
      t.qm.waiting = [] ∧ (cachedDesc t q).isSome = true)

/-- R248, R257 to R260: initialisation, write-back, enable, queue configuration and the watch table. -/
def Obligations.QueueConfigurationCommandsComplete : Prop :=
  ∀ (ag : Agent) (v : Word) (w : Fin 4096) (i : Fin 128) (s : State), let q := qmSel s
    let o := bits v.toNat 0 8
    let pinFull := bits v.toNat 8 1 = 1 ∧ 2 ≤ pinnedOthers s q
    (s.fld QM_CTL QM_CTL_EN = 0 → Completes .initDesc s (s.setFld QM_STAT QM_STAT_DESC_BUSY 1) ∧
      Completes .initPool s (s.setFld QM_STAT QM_STAT_POOL_BUSY 1)) ∧
    (s.fld QM_CTL QM_CTL_EN = 1 → Completes .initDesc s s ∧ Completes .initPool s s) ∧
    (s.fld QM_STAT QM_STAT_DESC_BUSY = 1 → ∃ t, Completes .initDescDone s t ∧ t.fld QM_STAT QM_STAT_DESC_BUSY = 0 ∧
      t.qm.cache = [] ∧ ∀ x, queueHas t x = false) ∧
    (s.fld QM_STAT QM_STAT_POOL_BUSY = 1 → ∃ t, Completes .initPoolDone s t ∧ t.fld QM_STAT QM_STAT_POOL_BUSY = 0 ∧
      freeCount t = poolSize s ∧ t.qm.freeHead = 0) ∧
    Completes .qmWriteBack s (s.setFld QM_STAT QM_STAT_WB_BUSY 1) ∧
    (s.fld QM_STAT QM_STAT_WB_BUSY = 1 → ∃ t, Completes .qmWriteBackDone s t ∧ t.fld QM_STAT QM_STAT_WB_BUSY = 0 ∧
      (∀ x ∈ t.qm.cache, x.2.dirty = false) ∧ (s.fld QM_CTL QM_CTL_EN = 0 → t.fld QM_STAT QM_STAT_EN_OUT = 0)) ∧
    (∃ t, Completes (.qmEnableWrite true) s t ∧ OnlyRegs [QM_CTL, QM_STAT] s t ∧ t.fld QM_CTL QM_CTL_EN = 1 ∧
      t.fld QM_STAT QM_STAT_EN_OUT = 1) ∧
    (s.fld QM_CTL QM_CTL_EN = 1 → ∃ t, Completes (.qmEnableWrite false) s t ∧ OnlyRegs [QM_CTL, QM_STAT] s t ∧
      t.fld QM_CTL QM_CTL_EN = 0 ∧ t.fld QM_STAT QM_STAT_WB_BUSY = 1 ∧
      t.fld QM_STAT QM_STAT_EN_OUT = s.fld QM_STAT QM_STAT_EN_OUT) ∧
    (ag ≠ .clove → ag ≠ .dap → Completes (.qmQcfgWrite ag v) s (s.setFld QM_ERR QM_ERR_CFG_WRITER 1) ∧
      Completes (.qmQlimWrite ag v) s (s.setFld QM_ERR QM_ERR_CFG_WRITER 1)) ∧
    (ag = .clove ∨ ag = .dap → (cachedDesc s q).isSome = true →
      (validOwner o = false → Completes (.qmQcfgWrite ag v) s (s.setFld QM_ERR QM_ERR_CFG_CODE 1)) ∧
      (validOwner o = true → pinFull → ∃ t, Completes (.qmQcfgWrite ag v) s t ∧ t.fld QM_ERR QM_ERR_PIN_FULL = 1 ∧
        ∀ x, SameQueue x s t) ∧
      (validOwner o = true → ¬ pinFull → ∃ t, Completes (.qmQcfgWrite ag v) s t ∧ (descOf t q).owner = o ∧
        (descOf t q).pin = decide (bits v.toNat 8 1 = 1) ∧ (descOf t q).count = (descOf s q).count ∧
        (descOf t q).head = (descOf s q).head ∧ ∀ x, x ≠ q → SameQueue x s t) ∧
      (∃ t, Completes (.qmQlimWrite ag v) s t ∧ (descOf t q).limit = bits v.toNat 0 25 ∧
        (descOf t q).count = (descOf s q).count ∧ ∀ x, x ≠ q → SameQueue x s t)) ∧
    (∃ t, Completes (.watchCfgWrite w v) s t ∧ t.fld (QM_W_w_CFG w) QM_W_w_CFG_QUEUE = bits v.toNat 0 20 ∧
      t.fld (QM_W_w_CFG w) QM_W_w_CFG_GROUP = bits v.toNat 30 1 ∧ t.fld (QM_W_w_CFG w) QM_W_w_CFG_EN = bits v.toNat 31 1 ∧
      (watchLevel t w = true → bits (t.reg (QM_W_PEND_i (w.val / 32))).toNat (w.val % 32) 1 = 1)) ∧
    (∃ t, Completes (.watchPendClear i v) s t ∧ ∀ j : Fin 32, bits (t.reg (QM_W_PEND_i i)).toNat j 1 =
      if watchLevel s (32 * i.val + j.val) then 1 else if bits v.toNat j 1 = 1 then 0 else bits (s.reg (QM_W_PEND_i i)).toNat j 1)

/-! ### DMA engines -/

/-- R272 to R277: the control bits of a DMA channel, its time-out, and what it does when its descriptor completes. -/
def Obligations.DmaControlCommandsComplete : Prop :=
  ∀ (e : Fin 13) (c : Fin 64) (s : State), c.val < dmaChannels e → let st := dmaState s e c
    let d := s.dmaOf e c
    let run := if e.val < 12 ∧ s.fld (dmaCtl e c) DMA_t_CH_c_CTL_TICK = 1 then 3 else 2
    let taken := fun (t : State) => (t.dmaOf e c).w = shadowWords s e c ∧ (t.dmaOf e c).moved = 0 ∧ curMem t e c = false ∧
      t.fld (dmaCtl e c) DMA_t_CH_c_CTL_ARM = 0 ∧ (descBad e (t.dmaOf e c) = false → dmaState t e c = run) ∧
      (descBad e (t.dmaOf e c) = true → dmaState t e c = 6 ∧ t.fld (dmaStat e c) DMA_t_CH_c_STAT_ERR = 1)
    (st = 0 ∨ st = 4 → ∃ t, Completes (.arm e c) s t ∧ taken t) ∧
    (st ≠ 0 → st ≠ 4 → ∃ t, Completes (.arm e c) s t ∧ dmaState t e c = st ∧ t.fld (dmaCtl e c) DMA_t_CH_c_CTL_ARM = 1 ∧
      t.dma = s.dma) ∧
    (st = 0 ∨ st = 4 → s.fld (dmaNextHi e c) DMA_t_CH_c_NEXT_HI_VALID = 1 → ∃ t, Completes (.go e c) s t ∧ dmaState t e c = 1 ∧
      (t.dmaOf e c).fetch = nextAddr s e c ∧ (t.dmaOf e c).reread = false) ∧
    ((st ≠ 0 ∧ st ≠ 4) ∨ s.fld (dmaNextHi e c) DMA_t_CH_c_NEXT_HI_VALID = 0 →
      ∃ t, Completes (.go e c) s t ∧ dmaState t e c = st ∧ t.dma = s.dma) ∧
    (st = 2 ∨ st = 3 ∨ st = 5 → ∃ t, Completes (.dmaStop e c) s t ∧ dmaState t e c = st ∧ (t.dmaOf e c).stop = true) ∧
    (st = 4 → ∃ t, Completes (.dmaStop e c) s t ∧ dmaState t e c = 0 ∧ t.fld (dmaStat e c) DMA_t_CH_c_STAT_STOPPED = 1 ∧
      t.fld (dmaNextHi e c) DMA_t_CH_c_NEXT_HI_VALID = 0) ∧
    (st = 0 → ∃ t, Completes (.dmaStop e c) s t ∧ OnlyRegs [dmaCtl e c] s t) ∧
    (∃ t, Completes (.dmaReset e c) s t ∧ dmaState t e c = 0 ∧ t.fld (dmaStat e c) DMA_t_CH_c_STAT_ERR = 0 ∧
      t.fld (dmaStat e c) DMA_t_CH_c_STAT_APP_PEND = 0 ∧ t.fld (dmaCtl e c) DMA_t_CH_c_CTL_ARM = 0 ∧
      (st = 2 ∨ st = 3 ∨ st = 5 → t.fld (dmaStat e c) DMA_t_CH_c_STAT_INCOMPLETE = 1 ∧
        t.reg (dmaRemain e c) = BitVec.ofNat 32 (dCount d - d.moved)) ∧ shadowWords t e c = shadowWords s e c) ∧
    (st = 4 → curMem s e c = true → ∃ t, Completes (.append e c) s t ∧ dmaState t e c = 1 ∧ (t.dmaOf e c).reread = true ∧
      (t.dmaOf e c).fetch = curAddr s e c) ∧
    (st ≠ 4 ∨ curMem s e c = false → ∃ t, Completes (.append e c) s t ∧ dmaState t e c = st ∧
      t.fld (dmaStat e c) DMA_t_CH_c_STAT_APP_PEND = 1) ∧
    (st = 1 ∨ st = 2 ∨ st = 5 → ∃ t, Completes (.dmaTimeout e c) s t ∧ dmaState t e c = 6 ∧
      t.fld (dmaStat e c) DMA_t_CH_c_STAT_ERR = 4 ∧ t.fld (dmaStat e c) DMA_t_CH_c_STAT_INCOMPLETE = 1) ∧
    (st = 5 → ∃ t, Completes (.descriptorComplete e c) s t ∧
      t.fld (dmaStat e c) DMA_t_CH_c_STAT_DONE_CNT = (s.fld (dmaStat e c) DMA_t_CH_c_STAT_DONE_CNT + 1) % 256 ∧
      t.fld (dmaStat e c) DMA_t_CH_c_STAT_DONE = (if dInt d then 1 else s.fld (dmaStat e c) DMA_t_CH_c_STAT_DONE) ∧
      (d.stop = true → dmaState t e c = 0 ∧ t.fld (dmaStat e c) DMA_t_CH_c_STAT_STOPPED = 1 ∧
        t.fld (dmaNextHi e c) DMA_t_CH_c_NEXT_HI_VALID = b2n (!dEoc d) ∧ (dEoc d = false → nextAddr t e c = dLink d)) ∧
      (d.stop = false → dEoc d = false → dmaState t e c = 1 ∧ (t.dmaOf e c).fetch = dLink d) ∧
      (d.stop = false → dEoc d = true → s.fld (dmaStat e c) DMA_t_CH_c_STAT_APP_PEND = 1 → curMem s e c = true →
        dmaState t e c = 1 ∧ (t.dmaOf e c).reread = true ∧ t.fld (dmaStat e c) DMA_t_CH_c_STAT_APP_PEND = 0) ∧
      (d.stop = false → dEoc d = true → s.fld (dmaStat e c) DMA_t_CH_c_STAT_APP_PEND = 0 ∨ curMem s e c = false →
        if s.fld (dmaCtl e c) DMA_t_CH_c_CTL_ARM = 1 then taken t else dmaState t e c = 4))

/-- R263, R267, R268, R273, R279: a fetch takes the eight words of the descriptor from memory; a burst slot goes to the winner of the
arbitration, whose elements are moved, and every other ready channel counts a loss. -/
def Obligations.DmaFetchesAndBurstsMoveData : Prop :=
  ∀ (e : Fin 13) (s : State),
    (∀ c : Fin 64, c.val < dmaChannels e → let d := s.dmaOf e c
      dmaState s e c = 1 → d.reread = false → d.fetch % 32 = 0 → GoodDdr s d.fetch 32 →
      ∃ t, Completes (.dmaDescriptorFetchDone e c) s t ∧ (t.dmaOf e c).w = chunks 4 8 (s.bytes d.fetch 32) ∧
        (t.dmaOf e c).moved = 0 ∧ curMem t e c = true ∧ curAddr t e c = d.fetch ∧
        (descBad e (t.dmaOf e c) = true → dmaState t e c = 6 ∧ t.fld (dmaStat e c) DMA_t_CH_c_STAT_ERR = 1) ∧
        (descBad e (t.dmaOf e c) = false → t.mem = s.mem ∧ t.reg (dmaRemain e c) = BitVec.ofNat 32 (dCount (t.dmaOf e c)) ∧
          dmaState t e c = if e.val < 12 ∧ s.fld (dmaCtl e c) DMA_t_CH_c_CTL_TICK = 1 then 3 else 2)) ∧
    (∀ (lines : List Nat) (c k : Nat), let ready := (List.range (dmaChannels e)).filter (dmaReady s e lines)
      let d := s.dmaOf e c
      dmaWinner s e ready = some c → dmaReq s e c = 0 → dSmode d = 0 → dDmode d = 0 → dSw d = 3 → dDw d = 3 → d.moved = 0 →
      dCount d = k → 0 < k → 4 * k ≤ 128 → dSrc d % 4096 + 4 * k ≤ 4096 → dDst d % 4096 + 4 * k ≤ 4096 → dSrc d % 4 = 0 →
      dDst d % 4 = 0 → GoodDdr s (dSrc d) (4 * k) → GoodDdr s (dDst d) (4 * k) →
      ∃ t, Completes (.dmaBurst e lines) s t ∧ (∀ i, i < 4 * k → t.byte (dDst d + i) = s.byte (dSrc d + i)) ∧
        (∀ a, a < dDst d ∨ dDst d + 4 * k ≤ a → t.byte a = s.byte a) ∧ (t.dmaOf e c).moved = k ∧ dmaState t e c = 5 ∧
        t.reg (dmaRemain e c) = 0 ∧ (t.dmaOf e c).loss = 0 ∧ ∀ j ∈ ready, j ≠ c → (t.dmaOf e j).loss = (s.dmaOf e j).loss + 1)

/-! ### Interrupt exchange -/

/-- R281, R285, R286, R288, R289, R291, R293, R297, R298: claims, completions, the pending and enable words, configuration, hold-off, edges, and
presentation: the candidate of highest PRIO, the lower number between equals, goes to a target that holds nothing; it replaces a held
source only by a higher PRIO, and never a held 1,023. -/
def Obligations.InterruptCommandsComplete : Prop :=
  ∀ (k : Fin 50) (n : Fin 1024) (i : Fin 32) (g : Fin 64) (e : Fin 48) (v : Word) (s : State), let p := pres s k
    (∀ n, candidate s k n = true → (∀ m, candidate s k m = true → srcPrio s m < srcPrio s n ∨ (srcPrio s m = srcPrio s n ∧ n ≤ m)) →
      (pres s k = 0 ∨ (pres s k ≠ 1023 ∧ srcPrio s (pres s k) < srcPrio s n) →
        ∃ t, Completes (.interruptPresent k) s t ∧ pres t k = n ∧ ∀ j, j ≠ k.val → pres t j = pres s j) ∧
      (pres s k ≠ 0 → srcPrio s n ≤ srcPrio s (pres s k) → Completes (.interruptPresent k) s s)) ∧
    (pres s k = 1023 ∨ (∀ n, candidate s k n = false) → Completes (.interruptPresent k) s s) ∧
    (p = 0 → Completes (.claim k) s { s with dev := { s.dev with lastRead := 0 } }) ∧
    (p = 1023 → ∃ t, Completes (.claim k) s t ∧ t.dev.lastRead = 1023 ∧ pres t k = 0 ∧ t.icStack = s.icStack ∧ t.regs = s.regs) ∧
    (usable p = true → ∃ t, Completes (.claim k) s t ∧ t.dev.lastRead = BitVec.ofNat 32 p ∧ pres t k = 0 ∧ inService t p = true ∧
      srcBit t IC_PEND_SET_i p = false ∧ icStackOf t k = (p, srcPrio s p) :: icStackOf s k ∧
      (s.fld (IC_GRP_g_HOLD (srcGroup s p)) IC_GRP_g_HOLD_US ≠ 0 → t.fld (IC_GRP_g_HOLD (srcGroup s p)) IC_GRP_g_HOLD_RUN = 1) ∧
      (∀ j, j ≠ k.val → icStackOf t j = icStackOf s j) ∧ ∀ m, m ≠ p → m < 1024 → inService t m = inService s m) ∧
    (∀ x l, icStackOf s k = (n.val, x) :: l → ∃ t, Completes (.complete k n) s t ∧ icStackOf t k = l ∧ inService t n = false ∧
      (∀ j, j ≠ k.val → icStackOf t j = icStackOf s j) ∧ t.reg IC_FAULT = s.reg IC_FAULT) ∧
    (topSource s k ≠ n.val ∨ icStackOf s k = [] → ∃ t, Completes (.complete k n) s t ∧ t.icStack = s.icStack ∧
      (∀ m, m < 1024 → inService t m = inService s m) ∧ t.fld IC_FAULT IC_FAULT_VALID = 1 ∧
      (s.fld IC_FAULT IC_FAULT_VALID = 0 → t.fld IC_FAULT IC_FAULT_TARGET = k.val ∧
        t.fld IC_FAULT_NUM IC_FAULT_NUM_WRITTEN = n.val ∧ t.fld IC_FAULT_NUM IC_FAULT_NUM_TOP = topSource s k % 1024) ∧
      (s.fld IC_FAULT IC_FAULT_VALID = 1 → t.reg IC_FAULT = s.reg IC_FAULT ∧ t.reg IC_FAULT_NUM = s.reg IC_FAULT_NUM)) ∧
    (∀ j : Fin 32, let m := 32 * i.val + j.val
      let one := bits v.toNat j 1 = 1
      (∃ t, Completes (.pendSet i v) s t ∧ OnlyRegs [IC_PEND_SET_i i] s t ∧
        (srcBit t IC_PEND_SET_i m = true ↔ srcBit s IC_PEND_SET_i m = true ∨ (one ∧ usable m = true))) ∧
      (∃ t, Completes (.pendClr i v) s t ∧ OnlyRegs [IC_PEND_SET_i i] s t ∧
        (srcBit t IC_PEND_SET_i m = true ↔ srcBit s IC_PEND_SET_i m = true ∧ ¬ one)) ∧
      (∃ t, Completes (.enSet i v) s t ∧ OnlyRegs [IC_EN_SET_i i] s t ∧
        (srcEnabled t m = true ↔ srcEnabled s m = true ∨ (one ∧ usable m = true))) ∧
      (∃ t, Completes (.enClr i v) s t ∧ OnlyRegs [IC_EN_SET_i i] s t ∧
        (srcEnabled t m = true ↔ srcEnabled s m = true ∧ ¬ one))) ∧
    (usable n = true → ∃ t, Completes (.srcCfgWrite n 0 v) s t ∧ OnlyRegs [IC_SRC_s_CFG n] s t ∧ srcGroup t n = bits v.toNat 8 6 ∧
      (srcWake t n = true ↔ bits v.toNat 4 1 = 1) ∧
      srcPrio t n = (if n.val = 1 ∧ bits v.toNat 0 4 = 0 then srcPrio s n else bits v.toNat 0 4)) ∧
    (usable n = true → n.val ≠ 1 → ∃ t, Completes (.srcCfgWrite n 1 v) s t ∧ OnlyRegs [IC_SRC_s_MASK_LO n] s t ∧
      t.reg (IC_SRC_s_MASK_LO n) = v) ∧
    (n.val = 0 ∨ n.val = 1 ∨ n.val = 1023 → Completes (.srcCfgWrite n 1 v) s s ∧ Completes (.srcCfgWrite n 2 v) s s) ∧
    Completes (.holdOffExpiry g) s (s.setFld (IC_GRP_g_HOLD g) IC_GRP_g_HOLD_RUN 0) ∧
    (∀ rising, let pol := s.fld (IC_EDGE_e_CFG e) IC_EDGE_e_CFG_POL
      (pol = 3 ∨ (pol = 0 ∧ rising = false) ∨ (pol = 1 ∧ rising = true) → Completes (.edgeLatch e rising) s s) ∧
      (pol = 2 ∨ (pol = 0 ∧ rising = true) ∨ (pol = 1 ∧ rising = false) → ∃ t, Completes (.edgeLatch e rising) s t ∧
        (s.phase ≠ 0 → srcBit t IC_PEND_SET_i (549 + e.val) = true) ∧
        (s.phase = 0 → t.fld (IC_EDGE_e_CFG e) IC_EDGE_e_CFG_LATCH = 1)))

/-! ### Clove and Sumac -/

/-- R308, R310: every arithmetic instruction at every pair of cells, at 16 and at 8 bits: result, new C, and whether it sets OV or DZ.
The operands go, the result is the new top, and nothing outside the processor changes. -/
def Obligations.StackArithmeticComplete : Prop :=
  ∀ (p : Fin 97) (s : State) (r : List Nat), let w := cellW p
    let ci := (s.proc p).stBit 0
    let top : Int := (2 : Int) ^ (w - 1)
    let out := fun i : Int => decide (i < -top ∨ top ≤ i)
    let sat := fun i : Int => BitVec.ofInt w (max (-top) (min (top - 1) i))
    let done := fun (e : Instr × Nat × BitVec w × Option Bool × Bool × Bool) => CpuReady p e.2.1 0 s →
      (e.2.2.2.2.2 = true → (s.proc p).stBit 3 = 0) →
      ∃ t, Completes e.1 s t ∧ OnlyProc p s t ∧ (t.proc p).os = e.2.2.1.toNat :: r ∧ (t.proc p).rs = (s.proc p).rs ∧
        (t.proc p).pc = cpuNext p 0 s ∧ (t.proc p).stBit 0 = (match e.2.2.2.1 with | some b => b2n b | none => ci) ∧
        (t.proc p).stBit 1 = (if e.2.2.2.2.1 then 1 else (s.proc p).stBit 1) ∧
        (t.proc p).stBit 2 = (if e.2.2.2.2.2 then 1 else (s.proc p).stBit 2) ∧
        ∀ i, 3 ≤ i → (t.proc p).stBit i = (s.proc p).stBit i
    (∀ x y : BitVec w, (s.proc p).os = y.toNat :: x.toNat :: r → let a := x.toNat
      let b := y.toNat
      let X := x.toInt
      let Y := y.toInt
      let n := b % 256
      ∀ e ∈ ([
        (.adds p, 0x11, sat (X + Y), none, out (X + Y), false),
        (.subs p, 0x15, sat (X - Y), none, out (X - Y), false),
        (.add p, 0x10, x + y, some (decide (2 ^ w ≤ a + b)), out (X + Y), false),
        (.sub p, 0x14, x - y, some (decide (a < b)), out (X - Y), false),
        (.addc p, 0x13, BitVec.ofNat w (a + b + ci), some (decide (2 ^ w ≤ a + b + ci)), false, false),
        (.subb p, 0x17, BitVec.ofInt w (X - Y - ci), some (decide (a < b + ci)), false, false),
        (.addus p, 0x12, if 2 ^ w ≤ a + b then BitVec.allOnes w else x + y, none, decide (2 ^ w ≤ a + b), false),
        (.subus p, 0x16, if a < b then 0 else x - y, none, decide (a < b), false),
        (.mul p, 0x1C, x * y, none, out (X * Y), false),
        (.mulh p, 0x1D, BitVec.ofInt w (X * Y / 2 ^ w), none, false, false),
        (.mulhu p, 0x1E, BitVec.ofNat w (a * b / 2 ^ w), none, false, false),
        (.div p, 0x20, if b = 0 then (if X < 0 then BitVec.ofInt w (-top) else BitVec.ofInt w (top - 1)) else BitVec.ofInt w (X.tdiv Y),
          none, decide (b ≠ 0) && out (X.tdiv Y), decide (b = 0)),
        (.divs p, 0x21, if b = 0 then (if X < 0 then BitVec.ofInt w (-top) else BitVec.ofInt w (top - 1)) else sat (X.tdiv Y),
          none, decide (b ≠ 0) && out (X.tdiv Y), decide (b = 0)),
        (.divu p, 0x22, if b = 0 then BitVec.allOnes w else x / y, none, false, decide (b = 0)),
        (.mod p, 0x23, if b = 0 then x else BitVec.ofInt w (X.tmod Y), none, false, decide (b = 0)),
        (.modu p, 0x24, if b = 0 then x else x % y, none, false, decide (b = 0)),
        (.opAnd p, 0x28, x &&& y, none, false, false), (.opOr p, 0x29, x ||| y, none, false, false),
        (.opXor p, 0x2A, x ^^^ y, none, false, false),
        (.shl p, 0x2C, x <<< n, none, out (X * 2 ^ n), false), (.shls p, 0x2D, sat (X * 2 ^ n), none, out (X * 2 ^ n), false),
        (.lsr p, 0x2E, x >>> n, none, false, false), (.asr p, 0x2F, x.sshiftRight n, none, false, false),
        (.eq p, 0x30, if x = y then 1 else 0, none, false, false), (.lt p, 0x31, if X < Y then 1 else 0, none, false, false),
        (.ltu p, 0x32, if a < b then 1 else 0, none, false, false)]
        : List (Instr × Nat × BitVec w × Option Bool × Bool × Bool)), done e) ∧
    (∀ x : BitVec w, (s.proc p).os = x.toNat :: r → let X := x.toInt
      ∀ e ∈ ([
        (.neg p, 0x18, -x, none, out (-X), false), (.negs p, 0x19, sat (-X), none, out (-X), false),
        (.abs p, 0x1A, BitVec.ofNat w X.natAbs, none, out X.natAbs, false), (.abss p, 0x1B, sat X.natAbs, none, out X.natAbs, false),
        (.opNot p, 0x2B, ~~~x, none, false, false), (.zeq p, 0x33, if x.toNat = 0 then 1 else 0, none, false, false)]
        : List (Instr × Nat × BitVec w × Option Bool × Bool × Bool)), done e)

/-- R306 to R309: literals, stack moves, the return stack, branches, jumps, calls and returns. -/
def Obligations.StackMovesAndFlowComplete : Prop :=
  ∀ (p : Fin 97) (i : Fin 256) (v : Fin 65536) (s : State) (r : List Nat) (x y z : Nat), let c := s.proc p
    let clv := p.val = 96
    let rel := ((cpuNext p 1 s : Int) + (if i.val < 128 then (i.val : Int) else (i.val : Int) - 256)) % ((2 : Int) ^ pcW p)
    let abs := if clv then cpuNext p 2 s / 65536 * 65536 + v.val else v.val % 4096
    let pair := if clv then x % 256 * 65536 + y else (y + 256 * x) % 4096
    (∀ e ∈ ([
        (.nop p, 0x00, 0, [], [], cpuNext p 0 s),
        (.lit8 p i, 0x01, 1, [], [if clv ∧ 128 ≤ i.val then 65280 + i.val else i.val], cpuNext p 1 s),
        (.lit p v, 0x02, 2, [], (if clv then [v.val] else [v.val / 256, v.val % 256]), cpuNext p 2 s),
        (.dup p, 0x03, 0, [x], [x, x], cpuNext p 0 s), (.dropOp p, 0x04, 0, [x], [], cpuNext p 0 s),
        (.swap p, 0x05, 0, [y, x], [x, y], cpuNext p 0 s), (.over p, 0x06, 0, [y, x], [x, y, x], cpuNext p 0 s),
        (.rot p, 0x07, 0, [z, y, x], [x, z, y], cpuNext p 0 s),
        (.br p i, 0x40, 1, [], [], rel.toNat),
        (.bz p i, 0x41, 1, [x], [], if x = 0 then rel.toNat else cpuNext p 1 s),
        (.bnz p i, 0x42, 1, [x], [], if x ≠ 0 then rel.toNat else cpuNext p 1 s),
        (.jmp p v, 0x43, 2, [], [], abs), (.jmps p, 0x48, 0, [x, y], [], pair)]
        : List (Instr × Nat × Nat × List Nat × List Nat × Nat)),
      CpuReady p e.2.1 e.2.2.1 s → c.os = e.2.2.2.1 ++ r → e.2.2.2.2.1.length + r.length ≤ osCap p →
      ∃ t, Completes e.1 s t ∧ OnlyProc p s t ∧ (t.proc p).os = e.2.2.2.2.1 ++ r ∧ (t.proc p).rs = c.rs ∧
        (t.proc p).status = c.status ∧ (t.proc p).pc = e.2.2.2.2.2) ∧
    (CpuReady p 0x08 1 s → c.os.length < osCap p → ∀ h : i.val < c.os.length, ∃ t, Completes (.pick p i) s t ∧ OnlyProc p s t ∧
      (t.proc p).os = c.os[i.val] :: c.os ∧ (t.proc p).pc = cpuNext p 1 s) ∧
    (CpuReady p 0x09 0 s → c.os = x :: r → c.rs.length < rsCap p → ∃ t, Completes (.tor p) s t ∧ OnlyProc p s t ∧
      (t.proc p).os = r ∧ (t.proc p).rs = (x, 0) :: c.rs ∧ (t.proc p).pc = cpuNext p 0 s) ∧
    (∀ a ie l, c.rs = (a, ie) :: l →
      (CpuReady p 0x0A 0 s → c.os.length < osCap p → ∃ t, Completes (.fromr p) s t ∧ OnlyProc p s t ∧
        (t.proc p).os = a % 2 ^ cellW p :: c.os ∧ (t.proc p).rs = l ∧ (t.proc p).pc = cpuNext p 0 s) ∧
      (CpuReady p 0x0B 0 s → c.os.length < osCap p → ∃ t, Completes (.rfetch p) s t ∧ OnlyProc p s t ∧
        (t.proc p).os = a % 2 ^ cellW p :: c.os ∧ (t.proc p).rs = c.rs ∧ (t.proc p).pc = cpuNext p 0 s) ∧
      (CpuReady p 0x45 0 s → ∃ t, Completes (.ret p) s t ∧ OnlyProc p s t ∧ (t.proc p).os = c.os ∧ (t.proc p).rs = l ∧
        (t.proc p).pc = a)) ∧
    (c.rs.length < rsCap p →
      (CpuReady p 0x44 2 s → ∃ t, Completes (.call p v) s t ∧ OnlyProc p s t ∧ (t.proc p).os = c.os ∧ (t.proc p).pc = abs ∧
        (t.proc p).rs = (cpuNext p 2 s % 2 ^ pcW p, 0) :: c.rs) ∧
      (CpuReady p 0x46 0 s → c.os = x :: y :: r → ∃ t, Completes (.calls p) s t ∧ OnlyProc p s t ∧ (t.proc p).os = r ∧
        (t.proc p).pc = pair ∧ (t.proc p).rs = (cpuNext p 0 s % 2 ^ pcW p, 0) :: c.rs)) ∧
    (CpuReady 96 0x47 1 s → ∃ t, Completes (.vjmp i) s t ∧ OnlyProc 96 s t ∧ (t.proc 96).os = (s.proc 96).os ∧
      (t.proc 96).pc = s.num (cvMem (0x20000 + 2 * i.val)) 2 + 65536 * (s.num (cvMem (0x20000 + 2 * i.val + 1)) 2 % 256)) ∧
    (CpuReady p 0x44 2 s → rsCap p ≤ c.rs.length → rsWrap s p = true → ∃ t, Completes (.call p v) s t ∧
      (t.proc p).rs = (cpuNext p 2 s % 2 ^ pcW p, 0) :: c.rs.take (rsCap p - 1) ∧ (t.proc p).stBit 4 = 1) ∧
    (CpuReady p 0x44 2 s → rsCap p ≤ c.rs.length → rsWrap s p = false → c.stBit 6 = 0 ∨ ¬ clv →
      ∃ t, Completes (.call p v) s t ∧ Trapped p 3 0 c.pc s t) ∧
    (CpuReady p 0x45 0 s → c.rs = [] → c.stBit 6 = 0 ∨ ¬ clv → ∃ t, Completes (.ret p) s t ∧ Trapped p 4 0 c.pc s t)

/-- R302 to R304, R311 to R315, R318, R323, R336: loads and stores, special registers, waits, traps, interrupt entry and return, and
the ends of window accesses, waits and line fills. -/
def Obligations.StackMemoryAndTrapCommandsComplete : Prop :=
  ∀ (p : Fin 97) (q : Fin 96) (n : Fin 256) (a : Fin 65536) (s : State) (r : List Nat) (x : BitVec (cellW p)), let c := s.proc p
    let ac := addrCells p a
    let ac' := addrCells p (a.val + 1)
    (∀ m, dataRef s p a false = .ram m → c.os = ac ++ r →
      (CpuReady p 0x38 0 s → ∃ t, Completes (.ld p) s t ∧ OnlyProc p s t ∧ (t.proc p).os = s.num m (partBytes p) :: r ∧
        (t.proc p).pc = cpuNext p 0 s) ∧
      (CpuReady p 0x3A 0 s → ac'.length + 1 + r.length ≤ osCap p → ∃ t, Completes (.ldinc p) s t ∧ OnlyProc p s t ∧
        (t.proc p).os = ac' ++ s.num m (partBytes p) :: r ∧ (t.proc p).pc = cpuNext p 0 s)) ∧
    (∀ m, dataRef s p a true = .ram m → c.os = ac ++ x.toNat :: r → ∀ cmd op,
      (cmd, op) = (Instr.st p, 0x39) ∨ (cmd, op) = (Instr.stinc p, 0x3B) → CpuReady p op 0 s →
      ∃ t, Completes cmd s t ∧ t.num m (partBytes p) = x.toNat ∧ (t.proc p).os = (if op = 0x39 then r else ac' ++ r) ∧
        (t.proc p).pc = cpuNext p 0 s ∧ t.regs = s.regs ∧ ∀ b, b < m ∨ m + partBytes p ≤ b → t.byte b = s.byte b) ∧
    (∀ f, dataRef s p a false = .fabric f → latched p c f = none → c.os = ac ++ r → CpuReady p 0x38 0 s →
      ∃ t w, Completes (.ld p) s t ∧ OnlyProc p s t ∧ (t.proc p).win = some w ∧ w.write = false ∧ w.addr = f / 4 * 4 ∧
        w.part = partOf p f ∧ w.next = cpuNext p 0 s) ∧
    (∀ w, c.win = some w → w.write = false → w.use = .ld → w.addr % 4 = 0 → GoodDdr s w.addr 4 → c.os = ac ++ r →
      c.haltReq = false → c.stepping = false → p.val ≠ 96 → r.length < osCap p → ∃ t, Completes (.windowAccessComplete p) s t ∧ OnlyProc p s t ∧
        (t.proc p).os = partVal p w.part (s.num w.addr 4) :: r ∧ (t.proc p).pc = w.next ∧ (t.proc p).win = none ∧
        (t.proc p).latch = some (w.addr, s.num w.addr 4)) ∧
    (CpuReady p 0x50 1 s → c.os.length < osCap p → ∃ t, Completes (.rds p n) s t ∧ OnlyProc p s t ∧
      (t.proc p).os = readSpr p c n % 2 ^ cellW p :: c.os ∧ (t.proc p).pc = cpuNext p 1 s) ∧
    (CpuReady p 0x51 1 s → c.os = x.toNat :: r → ∃ t, Completes (.wrs p n) s t ∧ OnlyProc p s t ∧ (t.proc p).os = r ∧
      (t.proc p).status = (if n.val = 0 then x.toNat % 2 ^ sprW p 0 else c.status) ∧
      ∀ k, 0 < k → (t.proc p).sp k = if k = n.val ∧ sprW p k ≠ 0 then x.toNat % 2 ^ sprW p k else c.sp k) ∧
    (CpuReady 96 0x58 0 s → ∃ t, Completes .ei s t ∧ OnlyProc 96 s t ∧ (t.proc 96).stBit 5 = 1) ∧
    (CpuReady 96 0x59 0 s → ∃ t, Completes .di s t ∧ OnlyProc 96 s t ∧ (t.proc 96).stBit 5 = 0) ∧
    (CpuReady 96 0x5A 0 s → ∃ t, Completes .waitOp s t ∧ procSt t 96 = 2 ∧ (t.proc 96).pc = cpuNext 96 0 s) ∧
    (∀ adr ie l, (s.proc 96).rs = (adr, ie) :: l → CpuReady 96 0x5B 0 s → ∃ t, Completes .cloveReti s t ∧ OnlyProc 96 s t ∧
      (t.proc 96).pc = adr ∧ (t.proc 96).rs = l ∧ (t.proc 96).stBit 5 = ie % 2) ∧
    (cloveAccepts s = true → (s.proc 96).rs.length < 32 → ∃ t, Completes .cloveInterruptEntry s t ∧ OnlyProc 96 s t ∧
      (t.proc 96).rs = ((s.proc 96).pc, 1) :: (s.proc 96).rs ∧ (t.proc 96).stBit 5 = 0 ∧
      (t.proc 96).pc = (s.proc 96).sp 7 + 65536 * (s.proc 96).sp 8) ∧
    (CpuReady q 0x5A 1 s → evMatch (s.proc q) n = 0 → ∃ t, Completes (.waitev q n) s t ∧ procSt t q = 2 ∧
      (t.proc q).waitEv = some n.val) ∧
    (CpuReady q 0x5A 1 s → evMatch (s.proc q) n ≠ 0 → (s.proc q).os.length < 16 → ∃ t, Completes (.waitev q n) s t ∧
      procSt t q = 1 ∧ (t.proc q).os = evMatch (s.proc q) n :: (s.proc q).os ∧ (t.proc q).sp 12 = (s.proc q).sp 12 - evMatch (s.proc q) n) ∧
    (CpuReady q 0x5C 0 s → ∃ t, Completes (.sig q) s t ∧ t.fld (SU_c_p_STAT (q.val / 8) (q.val % 8)) SU_c_p_STAT_SIG = 1 ∧
      (t.proc q).pc = cpuNext q 0 s) ∧
    (CpuReady p 0x5D 0 s → dbgHeld s p = true → ∃ t, Completes (.brk p) s t ∧ procSt t p = 3 ∧ (t.proc p).os = c.os) ∧
    (p.val ≠ 96 ∨ c.stBit 6 = 0 →
      (CpuReady p 0x5D 0 s → dbgHeld s p = false → ∃ t, Completes (.brk p) s t ∧ Trapped p 10 0 c.pc s t) ∧
      (CpuReady p 0x5E 1 s → ∃ t, Completes (.trap p n) s t ∧ Trapped p 7 n c.pc s t) ∧
      (canDispatch s p = true → (p.val = 96 → s.fld MC_CV_STAT MC_CV_STAT_SWAP_PEND = 0) → dtValid (dtEntry s p n) = false →
        parityOk (dtEntry s p n) = true → (fetchAt s p c.pc (insLen p (dtForm (dtEntry s p n)))).1 = 0 →
        ∃ t, Completes (.illegalOpcode p n) s t ∧ Trapped p 5 0 c.pc s t) ∧
      (∀ e, dtEntry s p 0x10 = e → canDispatch s p = true → (p.val = 96 → s.fld MC_CV_STAT MC_CV_STAT_SWAP_PEND = 0) →
        dtValid e = true → parityOk e = true → (fetchAt s p c.pc (insLen p (dtForm e))).1 = 0 → c.os.length < dtIn e →
        ∃ t, Completes (.add p) s t ∧ Trapped p 2 0 c.pc s t) ∧
      (CpuReady p 0x20 0 s → ∀ y, c.os = 0 :: y :: r → c.stBit 3 = 1 → ∃ t, Completes (.div p) s t ∧
        (t.proc p).stBit 2 = 1 ∧ (t.proc p).os.length = r.length + 1 ∧ (p.val ≠ 96 → procSt t p = 4) ∧
        (p.val = 96 → (t.proc p).pc = c.sp 9 + 65536 * c.sp 10))) ∧
    (∀ (k : Fin 16), CpuReady p (0xF0 + k.val) 0 s → let u := bits (dtEntry s p (0xF0 + k.val)) 0 11
      mwBad s p u = none → ∀ m, microWord s p u = m → m.wait = 0 → m.ns = 2 → m.alu = 0 → m.asel = 8 → m.dst = 0 → m.ostk ≤ 1 →
      m.rstk = 0 → m.mem = 0 → m.sprw = 0 → m.flg = 0 → m.cntop = 0 → m.misc = 0 → c.os.length < osCap p →
      ∃ t, Completes (.customerOpcode p k 0) s t ∧ (t.proc p).u = none ∧ (t.proc p).pc = cpuNext p 0 s ∧
        (t.proc p).os = (if m.ostk = 1 then m.lit :: c.os else c.os) ∧ (t.proc p).rs = c.rs ∧ t.mem = s.mem) ∧
    (∀ w, (s.proc q).u = none → (s.proc q).win = some w → ∃ t, Completes (.microwordWaitLimit ⟨q.val, by omega⟩) s t ∧
      procSt t q = 4 ∧ t.fld (SU_c_p_TRAP (q.val / 8) (q.val % 8)) SU_c_p_TRAP_CAUSE = 8) ∧
    (∀ l, s.ctl.xipWait = some l → l.micro = false → s.ctl.mchk = 0 → (s.proc 96).stBit 6 = 0 →
      ∃ t, Completes (.xipLineFill true) s t ∧ t.ctl.xipWait = none ∧ Trapped 96 9 0 (s.proc 96).pc s t) ∧
    (∀ l, s.ctl.xipWait = some l → l.micro = true → s.ctl.mchk = 0 → ∃ t, Completes (.xipLineFill false) s t ∧
      t.ctl.xipWait = none ∧ (xipWay t l.line).isSome = true ∧ ∀ u, (s.proc 96).u = some u → ∃ u', (t.proc 96).u = some u' ∧
        u'.rdy = true ∧ u'.ferr = false)


/-- R316 to R318, R323 to R325, R327 to R329, R338, R339: control of the Sumac processors, the decode tables, the control stores, the
patches and the boot copy of Clove. -/
def Obligations.ProcessorControlCommandsComplete : Prop :=
  ∀ (ag : Agent) (q : Fin 96) (u : Fin 13) (e : Fin 256) (v : Word) (off : Fin 8192) (w : Fin 2048) (g : Fin 4) (pu : Fin 16)
    (m : Fin 32) (pw : Fin 1024) (d : Fin 65536) (s : State), let st := procSt s q
    let may := ag = .clove ∨ ag = .dap
    (¬ may → Completes (.sumacStart ag q) s s ∧ Completes (.sumacHalt ag q) s s ∧ Completes (.sumacReset ag q) s s ∧
      Completes (.decodeTableWrite ag u e v) s s ∧ Completes (.controlStoreWrite ag u w g v) s s ∧ Completes (.dtLock ag u) s s) ∧
    (may →
      (st = 0 → ∃ t, Completes (.sumacStart ag q) s t ∧ procSt t q = 1 ∧ (t.proc q).pc = 0 ∧ rsWrap t q = rsWrap s q) ∧
      (st = 3 → ∃ t, Completes (.sumacStart ag q) s t ∧ procSt t q = 1 ∧ t.proc q = s.proc q ∧ rsWrap t q = rsWrap s q) ∧
      (st = 1 → atBoundary s q = true → ∃ t, Completes (.sumacHalt ag q) s t ∧ procSt t q = 3 ∧ (t.proc q).pc = (s.proc q).pc) ∧
      (st = 1 → atBoundary s q = false → ∃ t, Completes (.sumacHalt ag q) s t ∧ procSt t q = 1 ∧ (t.proc q).haltReq = true) ∧
      (∃ t, Completes (.sumacReset ag q) s t ∧ procSt t q = 0 ∧ t.proc q = Cpu.reset ∧ t.mem = s.mem) ∧
      ((s.proc q).waitEv = none → ∃ t, Completes (.sumacDoorbell ag q) s t ∧ bits ((t.proc q).sp 12) 3 1 = 1 ∧ t.mem = s.mem) ∧
      (let key := if u.val = 12 then dtClove (loadBank s) e else dtSumac u e
       (dtRefused s u e v.toNat = 0 → (u.val = 12 → s.fld MC_CV_CTL MC_CV_CTL_LOCK = 0) →
         ∃ t, Completes (.decodeTableWrite ag u e v) s t ∧ t.regs = s.regs ∧ ucodeGet t key = withParity (dtKeep v.toNat) ∧
           ∀ k, k ≠ key → ucodeGet t k = ucodeGet s k) ∧
       (dtRefused s u e v.toNat ≠ 0 → ∃ t, Completes (.decodeTableWrite ag u e v) s t ∧ OnlyRegs [dtErrReg u] s t ∧
         (dtLocked s u = true → bits (t.reg (dtErrReg u)).toNat 0 1 = 1) ∧
         (bits v.toNat 11 2 = 3 → bits (t.reg (dtErrReg u)).toNat 1 1 = 1) ∧
         (u.val < 12 → clusterBusy s u = true → bits (t.reg (dtErrReg u)).toNat 3 1 = 1))) ∧
      (∃ t, Completes (.dtLock ag u) s t ∧ dtLocked t u = true ∧ custOpen t u = false) ∧
      (dtLocked s u = true → Completes (.custOpen ag u) s s) ∧
      (dtLocked s u = false → ∃ t, Completes (.custOpen ag u) s t ∧ custOpen t u = true) ∧
      (∃ t, Completes (.patchUnitWrite ag pu false v) s t ∧ OnlyRegs [CV_FPU_u_ADDR pu] s t ∧
        t.fld (CV_FPU_u_ADDR pu) CV_FPU_u_ADDR_ADDR = bits v.toNat 0 24 ∧ t.fld (CV_FPU_u_ADDR pu) CV_FPU_u_ADDR_EN = bits v.toNat 31 1) ∧
      (∃ t, Completes (.patchUnitWrite ag pu true v) s t ∧ OnlyRegs [CV_FPU_u_DATA pu] s t ∧
        t.fld (CV_FPU_u_DATA pu) CV_FPU_u_DATA_DATA = bits v.toNat 0 16) ∧
      (∃ t, Completes (.xipInv ag) s t ∧ t.ctl = { s.ctl with xip := [] } ∧ ∀ l, xipWay t l = none) ∧
      (w.val < storeWords u →
        let key := if u.val = 12 then csClove (loadBank s) w g else csSumac u w g
        (csRefused s u w = 0 → groupW key ≠ 0 → ∃ t, Completes (.controlStoreWrite ag u w g v) s t ∧ t.regs = s.regs ∧
          ucodeGet t key = withParity (v.toNat % 2 ^ groupW key) ∧ ∀ k, k ≠ key → ucodeGet t k = ucodeGet s k) ∧
        (csRefused s u w ≠ 0 → ∃ t, Completes (.controlStoreWrite ag u w g v) s t ∧ OnlyRegs [MC_ERR] s t ∧
          t.reg MC_ERR = s.reg MC_ERR ||| BitVec.ofNat 32 (csRefused s u w))) ∧
      (s.fld MC_CV_CTL MC_CV_CTL_LOCK = 0 → ∃ t, Completes (.bankSwapRequest ag) s t ∧ OnlyRegs [MC_CV_CTL, MC_CV_STAT] s t ∧
        t.fld MC_CV_STAT MC_CV_STAT_SWAP_PEND = 1 ∧ activeBank t = activeBank s) ∧
      (s.fld MC_CV_CTL MC_CV_CTL_LOCK = 1 → ∃ t, Completes (.bankSwapRequest ag) s t ∧ OnlyRegs [MC_ERR] s t ∧
        t.fld MC_ERR MC_ERR_WR_LOCKED = 1) ∧
      (∃ t, Completes (.controlStoreLock ag u) s t ∧ bits (csRefused t u w) 0 1 = 1) ∧
      (∃ t, Completes (.rompLock ag) s t ∧ OnlyRegs [MC_ROMP_CTL] s t ∧ t.fld MC_ROMP_CTL MC_ROMP_CTL_LOCK = 1)) ∧
    (st = 0 ∨ st = 3 ∨ st = 4 → ∃ t, Completes (.sumacMemoryWrite q off v) s t ∧
      t.num (suProg q + off.val / 4 * 4) 4 = v.toNat ∧ t.regs = s.regs ∧
      ∀ a, a < suProg q + off.val / 4 * 4 ∨ suProg q + off.val / 4 * 4 + 4 ≤ a → t.byte a = s.byte a) ∧
    (st = 1 ∨ st = 2 → Completes (.sumacMemoryWrite q off v) s
      (s.setFld (SU_c_p_STAT (q.val / 8) (q.val % 8)) SU_c_p_STAT_LOAD_DISCARD 1)) ∧
    ((s.proc q).sp 13 + 256 * (s.proc q).sp 14 ≠ 0 → (s.proc q).waitEv = none → ∃ t, Completes (.sumacTimerExpiry q) s t ∧
      OnlyProc q s t ∧ bits ((t.proc q).sp 12) 2 1 = 1) ∧
    (∃ t, Completes (.lockstepInject .dap) s t ∧ t.ctl = { s.ctl with inject := true } ∧ t.cpu = s.cpu) ∧
    (ag ≠ .dap → Completes (.lockstepInject ag) s s) ∧
    (s.phase = 1 → ∃ t, Completes .microcodeCopyDone s t ∧ t.phase = 2 ∧ procSt t 96 = 1 ∧ t.proc 96 = Cpu.reset ∧ activeBank t = 0 ∧
      ∀ k, k < 8192 → ucodeGet t k = romImage k (groupW k)) ∧
    (let len := bits v.toNat 16 4
     let inRom := (s.proc 96).pc < 0xC400 ∧ s.fld MC_ROMP_CTL MC_ROMP_CTL_LOCK = 0
     (inRom → bits v.toNat 0 16 + len ≤ 0xBFFF → bits v.toNat 20 10 + len ≤ 1023 → ∃ t, Completes (.romPatchMatchWrite .clove m v) s t ∧
       OnlyRegs [MC_ROMP_m_MATCH m] s t ∧ t.fld (MC_ROMP_m_MATCH m) MC_ROMP_m_MATCH_ADDR = bits v.toNat 0 16 ∧
       t.fld (MC_ROMP_m_MATCH m) MC_ROMP_m_MATCH_PADDR = bits v.toNat 20 10) ∧
     (¬ inRom → ∃ t, Completes (.romPatchMatchWrite .clove m v) s t ∧ OnlyRegs [MC_ERR] s t ∧ bits (t.reg MC_ERR).toNat 3 1 = 1) ∧
     (inRom → ∃ t, Completes (.patchRamWrite pw d) s t ∧ t.num (cvMem (0xC000 + pw.val)) 2 = d.val ∧ t.regs = s.regs) ∧
     (¬ inRom → ∃ t, Completes (.patchRamWrite pw d) s t ∧ t.mem = s.mem ∧ bits (t.reg MC_ERR).toNat 3 1 = 1))

/-! ### Mailboxes and Molalrik -/

/-- R343, R345, R346, R360, R361: the handshake of a pair, transactions of the SPI target, and remote frames: one that fails a check
changes nothing, and GET_STATUS, asked remotely, is answered under the same key with the device's own counter. -/
def Obligations.MailboxHandshakeCompletes : Prop :=
  ∀ (ag : Agent) (i : Fin 18) (w : Fin 1024) (v : Word) (s : State), let st := MB_i_STAT i
    (mbOff s i = true → Completes (.requestWrite i w v) s s ∧ Completes (.ring i) s s ∧ Completes (.ack i) s s ∧ Completes (.abort i) s s) ∧
    (mbOff s i = false →
      (mbFlag s i MB_i_STAT_REQ_BUSY = false → ∃ t, Completes (.requestWrite i w v) s t ∧ t.regs = s.regs ∧
        t.num (mbRequest i + 4 * w) 4 = v.toNat ∧
        ∀ c, c < mbRequest i + 4 * w ∨ mbRequest i + 4 * w + 4 ≤ c → t.byte c = s.byte c) ∧
      (mbFlag s i MB_i_STAT_REQ_BUSY = true → Completes (.requestWrite i w v) s (s.setFld st MB_i_STAT_WR_BUSY 1)) ∧
      (mbFlag s i MB_i_STAT_REQ_BUSY = false → ∃ t, Completes (.ring i) s t ∧ mbFlag t i MB_i_STAT_REQ_PEND = true ∧
        mbFlag t i MB_i_STAT_REQ_BUSY = true ∧ mbFlag t i MB_i_STAT_RPL_VALID = mbFlag s i MB_i_STAT_RPL_VALID ∧ t.mem = s.mem ∧
        t.fld (MB_i_CNT i) MB_i_CNT_RINGS = min 65535 (s.fld (MB_i_CNT i) MB_i_CNT_RINGS + 1) ∧
        (i.val < 16 → OnlyRegs [MB_i_DOORBELL i, st, MB_i_CNT i] s t)) ∧
      (mbFlag s i MB_i_STAT_REQ_BUSY = true → ∃ t, Completes (.ring i) s t ∧ OnlyRegs [MB_i_DOORBELL i, st] s t ∧
        mbFlag t i MB_i_STAT_RING_IGN = true ∧ mbFlag t i MB_i_STAT_REQ_PEND = mbFlag s i MB_i_STAT_REQ_PEND) ∧
      (tget [] s.fw.waitPost i = [] → ∃ t, Completes (.ack i) s t ∧ OnlyRegs [MB_i_DOORBELL i, st] s t ∧
        mbFlag t i MB_i_STAT_RPL_VALID = false ∧ mbFlag t i MB_i_STAT_REQ_BUSY = mbFlag s i MB_i_STAT_REQ_BUSY) ∧
      (∀ b, tget [] s.fw.waitPost i = b → b ≠ [] → ∃ t, Completes (.ack i) s t ∧ t.bytes (mbReply i) b.length = b ∧
        mbFlag t i MB_i_STAT_RPL_VALID = true ∧ mbFlag t i MB_i_STAT_REQ_BUSY = false ∧ tget [] t.fw.waitPost i = []) ∧
      (mbFlag s i MB_i_STAT_REQ_PEND = true → ∃ t, Completes (.abort i) s t ∧ OnlyRegs [MB_i_DOORBELL i, st, MB_i_CNT i] s t ∧
        mbFlag t i MB_i_STAT_REQ_PEND = false ∧ mbFlag t i MB_i_STAT_REQ_BUSY = false ∧
        t.fld (MB_i_CNT i) MB_i_CNT_ABORT_CNT = min 255 (s.fld (MB_i_CNT i) MB_i_CNT_ABORT_CNT + 1)) ∧
      (mbFlag s i MB_i_STAT_REQ_PEND = false → ∃ t, Completes (.abort i) s t ∧ OnlyRegs [MB_i_DOORBELL i] s t)) ∧
    (ag ≠ .clove → Completes (.take ag i) s s ∧ Completes (.post ag i) s s) ∧
    (∃ t, Completes (.take .clove i) s t ∧ OnlyRegs [MB_i_POST i, st] s t ∧ mbFlag t i MB_i_STAT_REQ_PEND = false ∧
      mbFlag t i MB_i_STAT_REQ_BUSY = mbFlag s i MB_i_STAT_REQ_BUSY) ∧
    (mbFlag s i MB_i_STAT_RPL_VALID = false → ∃ t, Completes (.post .clove i) s t ∧ OnlyRegs [MB_i_POST i, st] s t ∧
      mbFlag t i MB_i_STAT_RPL_VALID = true ∧ mbFlag t i MB_i_STAT_REQ_BUSY = false) ∧
    (mbFlag s i MB_i_STAT_RPL_VALID = true → ∃ t, Completes (.post .clove i) s t ∧ OnlyRegs [MB_i_POST i, st] s t ∧
      mbFlag t i MB_i_STAT_POST_IGN = true ∧ mbFlag t i MB_i_STAT_REQ_BUSY = mbFlag s i MB_i_STAT_REQ_BUSY) ∧
    (∀ l : List Byte, domainOff s 26 = true ∨ (∀ h, l.head? = some h → h ≠ 2 ∧ h ≠ 3) →
      Completes (.spiTransaction l) s { s with dev := { s.dev with spiOut := [] } }) ∧
    (∀ l : List Byte, domainOff s 26 = false → mbFlag s 16 MB_i_STAT_REQ_BUSY = false → l.length ≤ 4096 → ∃ t,
      Completes (.spiTransaction ([2, 0, 0, 0] ++ l)) s t ∧ t.bytes (mbRequest 16) l.length = l ∧ t.regs = s.regs) ∧
    (∀ n : Fin 4097, domainOff s 26 = false → ∃ t, Completes (.spiTransaction ([3, 0, 0x10, 0, 0] ++ zeros n)) s t ∧
      t.dev.spiOut = s.bytes (mbReply 16) n ∧ t.regs = s.regs ∧ t.mem = s.mem) ∧
    (domainOff s 26 = false → mbFlag s 16 MB_i_STAT_REQ_BUSY = false → ∃ t,
      Completes (.spiTransaction [2, 0, 0x40, 4, 1, 0, 0, 0]) s t ∧ mbFlag t 16 MB_i_STAT_REQ_PEND = true ∧ t.mem = s.mem) ∧
    (∀ (src : Nat) (l : List Byte), let n := l.length
      let k := tget [] s.fw.keys (le l 2 2)
      let nonce := slice l 4 12
      let ct := (l.drop 16).take (n - 32)
      let m := gcmCrypt k nonce ct
      (fwUp s = false ∨ minimal s = true ∨ n < 48 ∨ k = [] ∨ gcmTag k nonce (l.take 16) ct ≠ l.drop (n - 16) ∨
        (∃ c, lastCounter s (le l 2 2) src = some c ∧ le l 8 8 ≤ c) → Completes (.remoteFrame src l) s s) ∧
      (fwUp s = true → minimal s = false → 48 ≤ n → le l 0 2 = 1 → k ≠ [] → gcmTag k nonce (l.take 16) ct = l.drop (n - 16) →
        (∀ c, lastCounter s (le l 2 2) src = some c → c < le l 8 8) → le m 0 2 = 2 → le m 4 2 = 0 → m.length = 16 →
        (tget (0, 0, []) s.fw.last (256 + src)).2.2 = [] → ∃ t, Completes (.remoteFrame src l) s t ∧
          t.fw.counters = noteCounter (le l 2 2) src (le l 8 8) s.fw.counters ∧ t.fw.ownCtr = (s.fw.ownCtr + 1) % 2 ^ 64 ∧
          t.regs = s.regs ∧ t.mem = s.mem ∧
          let own := leBytes 4 (ownMac s) ++ leBytes 8 t.fw.ownCtr
          let head := [1, 1] ++ leBytes 2 (le l 2 2) ++ own
          let reply := gcmCrypt k own (message 2 (le m 2 2) false 0 0 (statusBytes s))
          t.fw.sentRemote = [(src, head ++ reply ++ gcmTag k own head reply)]))

/-- R349 to R351, R356 to R359: the commands of the groups System, Routing, Zones and Streams. -/
def Obligations.MolalrikControlCommandsComplete : Prop :=
  ∀ (i : Fin 18) (p : List Byte) (s : State), let f := le p
    (Asked i 1 0 [] s → ∃ t, Completes (.getVersion i) s t ∧ OnlyReply i s t ∧ Replied i 0 0 ([1, 0, 4, 0] ++ leBytes 4 s.fw.fwBuild ++
      regBytes s MC_ROM_VER ++ leBytes 4 s.fw.patchVer ++ regBytes s CV_DT_VER ++ regBytes s (SU_c_DT_VER 0) ++ [0, 1, 0, 0]) s t) ∧
    (Asked i 2 0 [] s → ∃ t, Completes (.getStatus i) s t ∧ OnlyReply i s t ∧
      Replied i 0 0 ([0] ++ leBytes 1 (roleCode s) ++ [0, 0] ++ regBytes s BT_CAUSE ++ leBytes 8 s.frame ++ leBytes 4 (epochNow s)) s t) ∧
    (p.length = 4 → Asked i 3 0 p s →
      (i.val ≠ 0 ∧ i.val ≠ 16 ∨ f 0 1 = 0 ∨ f 0 1 = 16 → ∃ t, Completes (.setMbPerm i) s t ∧ OnlyReply i s t ∧ Replied i 5 0 [] s t) ∧
      (i.val = 0 ∨ i.val = 16 → f 0 1 ≠ 0 → f 0 1 ≠ 16 → f 0 1 < 18 → f 2 2 < 1024 → ∃ t, Completes (.setMbPerm i) s t ∧
        Replied i 0 0 [] s t ∧ t.fld (MB_i_PERM (f 0 1)) MB_i_PERM_GROUPS = f 2 2)) ∧
    (Asked i 4 0 [0] s → ∃ t, Completes (.resetCmd i) s t ∧ Replied i 0 0 [] s t ∧ t.rstReq = s.rstReq ++ [5]) ∧
    (p.length = 3 → Asked i 5 0 p s → f 0 1 ≤ 1 → f 1 1 ≤ 3 → f 2 1 ≤ 1 →
      (holdoverPlaying s = true → f 2 1 = 0 → ∃ t, Completes (.sxRestart i) s t ∧ OnlyReply i s t ∧ Replied i 4 0 [] s t) ∧
      (holdoverPlaying s = false ∨ f 2 1 = 1 → ∃ t, Completes (.sxRestart i) s t ∧ Deferred i (.sxStop (f 0 1 + 2 * f 1 1)) s t ∧
        t.fld SX_CTL SX_CTL_RUN = 0 ∧ t.fld SX_STAT SX_STAT_RUNNING = s.fld SX_STAT SX_STAT_RUNNING)) ∧
    (p.length = 2 → Asked i 6 0 p s → f 0 1 ≤ 1 → ∃ t, Completes (.hubCfg i) s t ∧
      Replied i 0 0 (leBytes 1 (roleCode t) ++ leBytes 4 (epochNow t)) s t ∧ t.net = { s.net with
        hubEligible := f 0 1 = 1, hubPrio := f 1 1, hubRole := if f 0 1 = 1 then s.net.hubRole else 0 }) ∧
    (∀ n, p.length = 8 + 4 * n → f 4 2 = n → 0 < n → n ≤ 1018 → f 0 4 % 4 = 0 → 0x10000 ≤ f 0 4 → f 0 4 + 4 * n ≤ 0x18000 →
      Asked i 0x1001 0 p s →
      (copying s = true → ∃ t, Completes (.mapWrite i) s t ∧ OnlyReply i s t ∧ Replied i 4 0 [] s t) ∧
      (copying s = false → ∃ t, Completes (.mapWrite i) s t ∧ Replied i 0 0 [] s t ∧
        ∀ k, k < n → readMap (f 0 4 + 4 * k) t = BitVec.ofNat 32 (f (8 + 4 * k) 4) &&& 0x801F1FFF#32)) ∧
    (p.length = 8 → Asked i 0x1003 0 p s → 0 < f 4 2 → f 4 2 ≤ 1018 → ∀ d, shadowRegion (f 0 4) (f 4 2) = some d → f 6 1 ≤ 1 →
      ∃ t, Completes (.mapRead i) s t ∧ OnlyReply i s t ∧ Replied i 0 0
        ((List.range (f 4 2)).flatMap (fun k => leBytes 4 (readMap (f 0 4 + d * f 6 1 + 4 * k) s).toNat)) s t) ∧
    (p.length = 6 → Asked i 0x1004 0 p s → f 0 1 < 12 → copying s = false →
      f 2 2 * blockN s ≤ 16384 → f 4 2 * blockN s ≤ 16384 → f 2 2 ≤ 1024 → f 4 2 ≤ 1024 → ∃ t, Completes (.tpCfg i) s t ∧
        Replied i 0 0 [] s t ∧ t.fld (SX_TP_t_CFG (f 0 1)) SX_TP_t_CFG_RXCH = f 2 2 ∧ t.fld (SX_TP_t_CFG (f 0 1)) SX_TP_t_CFG_TXCH = f 4 2) ∧
    (p.length = 3 → Asked i 0x1005 0 p s → f 0 1 ≤ 1 → f 1 1 ≤ 1 → f 2 1 ≤ 1 → ∃ t, Completes (.planeSel i) s t ∧
      Replied i 0 0 (regBytes t SX_PLANE_STAT) s t ∧ t.fld SX_PLANE_CTL SX_PLANE_CTL_SEL = f 0 1 ∧
      t.fld SX_PLANE_CTL SX_PLANE_CTL_COMPARE_EN = f 1 1 ∧ t.fld SX_PLANE_CTL SX_PLANE_CTL_AUTO_EN = f 2 1) ∧
    (p.length = 2 → Asked i 0x1006 0 p s → f 0 1 < 12 → f 1 1 ≤ 1 → ∃ t, Completes (.spareCfg i) s t ∧ Replied i 0 0 [] s t ∧
      t.fld SX_CTL SX_CTL_SPARE_TILE = f 0 1 ∧ t.fld SX_CTL SX_CTL_SPARE_EN = f 1 1 ∧ t.fld SX_CTL SX_CTL_RUN = s.fld SX_CTL SX_CTL_RUN) ∧
    (p.length = 3 + f 2 1 → Asked i 0x2001 0 p s → f 0 2 < 16384 → f 2 1 ≤ 64 → (∀ k, k < f 2 1 → f (3 + k) 1 < 64) →
      ∃ t, Completes (.zoneSet i) s t ∧ Replied i 0 0 [] s t ∧
        (zoneOf t (f 0 2)).map Zone.drvs = some ((List.range (f 2 1)).map (fun k => f (3 + k) 1)) ∧
        ∀ z, z ≠ f 0 2 → zoneOf t z = zoneOf s z) ∧
    (∀ z, p.length = 2 → Asked i 0x2002 0 p s → zoneOf s (f 0 2) = some z → z.drvs.length ≤ 64 → ∃ t, Completes (.zoneGet i) s t ∧
      OnlyReply i s t ∧ Replied i 0 0 (leBytes 2 (f 0 2) ++ leBytes 1 z.drvs.length ++ z.drvs.flatMap (leBytes 1)) s t) ∧
    (∀ z, p.length = 6 → Asked i 0x2003 0 p s → zoneOf s (f 0 2) = some z → ∃ t, Completes (.zoneGain i) s t ∧ Replied i 0 0 [] s t ∧
      zoneOf t (f 0 2) = some { z with gain := sext 16 (f 2 2), ramp := f 4 2 }) ∧
    (∀ z, p.length = 3 → Asked i 0x2004 0 p s → zoneOf s (f 0 2) = some z → f 2 1 ≤ 1 → ∃ t, Completes (.zoneMute i) s t ∧
      Replied i 0 0 [] s t ∧ zoneOf t (f 0 2) = some { z with mute := f 2 1 = 1 }) ∧
    (zoneOf s (f 0 2) = none →
      (p.length = 2 → Asked i 0x2002 0 p s → ∃ t, Completes (.zoneGet i) s t ∧ OnlyReply i s t ∧ Replied i 6 0 [] s t) ∧
      (p.length = 6 → Asked i 0x2003 0 p s → ∃ t, Completes (.zoneGain i) s t ∧ OnlyReply i s t ∧ Replied i 6 0 [] s t) ∧
      (p.length = 3 → Asked i 0x2004 0 p s → ∃ t, Completes (.zoneMute i) s t ∧ OnlyReply i s t ∧ Replied i 6 0 [] s t)) ∧
    (p.length = 5 → Asked i 0x2005 0 p s → domainOff s 45 = false → f 0 1 < 64 → f 1 1 < 64 → f 2 1 ≤ 1 → f 3 1 ≤ 7 → f 4 1 ≤ 15 →
      (f 2 1 = 1 → f 1 1 ≠ f 0 1) → ∃ t, Completes (.pairSet i) s t ∧ Replied i 0 0 [] s t ∧
        let a := DRV_n_PAIR (f 0 1)
        t.fld a DRV_n_PAIR_PARTNER = f 1 1 ∧ t.fld a DRV_n_PAIR_AUTO = f 2 1 ∧ t.fld a DRV_n_PAIR_TRIG = f 3 1 ∧
        t.fld a DRV_n_PAIR_GAIN_STEP = f 4 1) ∧
    (p.length = 48 → Asked i 0x4001 0 p s → f 0 2 < 3072 →
      (flEn s (f 0 2) = true ∨ flActive s (f 0 2) = true → ∃ t, Completes (.flowSet i) s t ∧ OnlyReply i s t ∧ Replied i 4 0 [] s t) ∧
      (flEn s (f 0 2) = false → flActive s (f 0 2) = false → ∃ t, Completes (.flowSet i) s t ∧ Replied i 0 0 [] s t ∧
        flEn t (f 0 2) = false ∧ ∀ k, 0 < k → k < 11 →
          t.reg (FL_f_CTL (f 0 2) + 4 * k) = written s (FL_f_CTL (f 0 2) + 4 * k) (f (4 + 4 * k) 4))) ∧
    (p.length = 3 → Asked i 0x4002 0 p s → f 0 2 < 3072 → s.reg (FL_f_CTL (f 0 2)) &&& 0x007F071F#32 = s.reg (FL_f_CTL (f 0 2)) →
      (f 2 1 = 0 → ∃ t, Completes (.flowEn i) s t ∧ Deferred i .flowEn s t ∧ flEn t (f 0 2) = false) ∧
      (f 2 1 = 1 → flEn s (f 0 2) = false → rangeBad s (f 0 2) = true → ∃ t, Completes (.flowEn i) s t ∧ flEn t (f 0 2) = false ∧
        Replied i 12 ((t.reg FL_ERR).toNat % 32) [] s t ∧ t.fld FL_ERR FL_ERR_RANGE = 1)) ∧
    (p.length = 2 → Asked i 0x4003 0 p s → f 0 2 < 3072 → ∃ t, Completes (.flowStat i) s t ∧
      Replied i 0 0 (regBytes s (FL_f_STAT (f 0 2)) ++ regBytes s (FL_f_CNT (f 0 2)) ++ regBytes s (FL_f_SEQ (f 0 2))) s t) ∧
    (p.length = 8 → Asked i 0x4004 0 p s → f 0 1 < 4 → f 1 1 < 4 → f 2 1 < 4 → f 3 1 < 2 → ∃ t, Completes (.portCfg i) s t ∧
      Replied i 0 0 [] s t ∧ let a := NET_PORT_p_CFG (f 0 1)
      t.fld a NET_PORT_p_CFG_RATE = f 1 1 ∧ t.fld a NET_PORT_p_CFG_FEC = f 2 1 ∧ t.fld a NET_PORT_p_CFG_AN = f 3 1 ∧
      t.fld (NET_PORT_p_DLY (f 0 1)) NET_PORT_p_DLY_TX = f 4 2 ∧ t.fld (NET_PORT_p_DLY (f 0 1)) NET_PORT_p_DLY_RX = f 6 2) ∧
    (p.length = 6 → Asked i 0x4005 0 p s → f 0 1 ≤ 1 → f 1 1 ≤ 1 → f 2 1 ≤ 1 → 100 ≤ f 4 2 → f 4 2 ≤ 20000 →
      ∃ t, Completes (.ringCfg i) s t ∧ Replied i 0 0 [] s t ∧ t.fld NET_CTL NET_CTL_RING_A_EN = f 0 1 ∧
        t.fld NET_CTL NET_CTL_RING_B_EN = f 1 1 ∧ t.fld NET_CTL NET_CTL_PRP_EN = f 2 1 ∧ t.fld NET_ISO_TIME NET_ISO_TIME_US = f 4 2) ∧
    (p.length = 2 → Asked i 0x4006 0 p s → f 0 1 ≤ 2 → ∃ t, Completes (.ptpCfg i) s t ∧ Replied i 0 0 [] s t ∧
      t.fld NET_PTP_CTL NET_PTP_CTL_PROFILE = f 0 1 ∧ t.fld NET_PTP_CTL NET_PTP_CTL_DOMAIN = f 1 1) ∧
    (p.length = 12 + 4 * f 1 1 → Asked i 0x4007 0 p s → f 0 1 < 4 → f 1 1 ≤ 64 → ∃ t, Completes (.gclSet i) s t ∧
      Deferred i (.gcl (f 0 1)) s t ∧ t.fld (NET_PORT_p_GCL_CTL (f 0 1)) NET_PORT_p_GCL_CTL_SWAP_REQ = 1 ∧
      t.fld (NET_PORT_p_GCL_CTL (f 0 1)) NET_PORT_p_GCL_CTL_LEN = f 1 1 ∧
      t.reg (NET_PORT_p_GCL_CYC (f 0 1)) = written s (NET_PORT_p_GCL_CYC (f 0 1)) (f 4 4) ∧
      t.reg (NET_PORT_p_GCL_BASE (f 0 1)) = written s (NET_PORT_p_GCL_BASE (f 0 1)) (f 8 4) ∧
      ∀ k, k < f 1 1 → t.reg (NET_GCL_p_k (f 0 1) k) = written s (NET_GCL_p_k (f 0 1) k) (f (12 + 4 * k) 4))

/-- R221, R222, R228 to R231, R236 to R238, R243, R349 to R351, R354, R355, R358, R359, R380 to R383: the commands of the groups
Messages and schedules, Verification, Intelligibility, Store, Diagnostics and Security. -/
def Obligations.MolalrikServiceCommandsComplete : Prop :=
  ∀ (i : Fin 18) (p b : List Byte) (s : State), let f := le p
    (∀ tot, p.length ≤ 4072 → p.length < tot → tot ≤ 0x4000000 → Asked i 0x3001 4 (leBytes 4 0 ++ leBytes 4 tot ++ p) s →
      ∃ t, Completes (.msgStore i) s t ∧ Replied i 0 0 [] s t ∧ t.fw.msgs = s.fw.msgs ∧
        partialOf t i = { code := 0x3001, total := tot, data := p }) ∧
    (AskedIn i 0x3001 b s → (∀ e ∈ objChecks b, e.2 = false) → b.length = objLen b →
      (objOk s b = false → ∃ t, Completes (.msgStore i) s t ∧ Replied i 7 0 [] s t ∧ t.fw.msgs = s.fw.msgs) ∧
      (objOk s b = true → msgOf s (le b 8 4) = none → storeUp s = true → s.fw.msgs.length < 200000 →
        b.length ≤ (takenSegs s).length * dataBytes → ∃ t, Completes (.msgStore i) s t ∧ Replied i 0 0 (leBytes 4 (le b 8 4) ++ leBytes 4 (le b 0x14 4)) s t ∧
          (tget MsgObj.none t.fw.msgs (le b 8 4)).rev = le b 0x14 4 ∧ (tget MsgObj.none t.fw.msgs (le b 8 4)).len = b.length)) ∧
    (p.length = 4 → Asked i 0x3002 0 p s →
      (msgOf s (f 0 4) = none → ∃ t, Completes (.msgDelete i) s t ∧ OnlyReply i s t ∧ Replied i 6 0 [] s t) ∧
      (∀ m, msgOf s (f 0 4) = some m → (∃ e ∈ s.fw.sched.entries, e.msg = f 0 4) → ∃ t, Completes (.msgDelete i) s t ∧
        OnlyReply i s t ∧ Replied i 4 0 [] s t) ∧
      (∀ m, msgOf s (f 0 4) = some m → (∀ e ∈ s.fw.sched.entries, e.msg ≠ f 0 4) → ∃ t, Completes (.msgDelete i) s t ∧
        Replied i 0 0 [] s t ∧ tget MsgObj.none t.fw.msgs (f 0 4) = MsgObj.none ∧
        ∀ g ∈ m.segs, tget Seg.free t.store.segs g = Seg.free)) ∧
    (∀ m g l, p.length = 4 → Asked i 0x3003 0 p s → msgOf s (f 0 4) = some m → m.segs = g :: l → ∃ t, Completes (.msgInfo i) s t ∧
      OnlyReply i s t ∧ Replied i 0 0 (s.bytes (segBase g + 4096) 0x28) s t) ∧
    (p.length = 24 → Asked i 0x3004 0 p s →
      (isHub s = false → ∃ t, Completes (.announce i) s t ∧ OnlyReply i s t ∧ Replied i 5 0 [] s t) ∧
      (isHub s = true → f 4 2 < 16384 → f 6 1 < 64 → (msgOf s (f 0 4)).isSome = true → s.fw.sched.entries.length < 65536 →
        emerBase s + emerSize s ≤ 0x1000000000 → ∃ t, Completes (.announce i) s t ∧
        Replied i 0 0 (leBytes 4 (nextEntryNo s) ++ leBytes 4 (epochNow s) ++ leBytes 4 ((s.fw.sched.version + 1) % 2 ^ 32)) s t ∧
        t.fw.sched = {
          epoch := epochNow s, version := (s.fw.sched.version + 1) % 2 ^ 32, issued := s.frame,
          entries := s.fw.sched.entries ++ [{ entry := nextEntryNo s, msg := f 0 4, zone := f 4 2, prio := f 6 1, cancelled := false,
                                              start := f 8 8, period := f 16 4, count := f 20 4 }] })) ∧
    (p.length = 4 → Asked i 0x3005 0 p s → isHub s = true →
      ((∀ e ∈ s.fw.sched.entries, e.entry ≠ f 0 4) → ∃ t, Completes (.cancel i) s t ∧ OnlyReply i s t ∧ Replied i 6 0 [] s t) ∧
      ((∃ e ∈ s.fw.sched.entries, e.entry = f 0 4) → emerBase s + emerSize s ≤ 0x1000000000 → ∃ t, Completes (.cancel i) s t ∧
        Replied i 0 0 (leBytes 4 (epochNow s) ++ leBytes 4 ((s.fw.sched.version + 1) % 2 ^ 32)) s t ∧
        t.fw.sched.version = (s.fw.sched.version + 1) % 2 ^ 32 ∧ t.fw.sched.entries =
          s.fw.sched.entries.map (fun e => if e.entry = f 0 4 then { e with cancelled := true } else e))) ∧
    (∀ off n, Asked i 0x3006 4 (leBytes 4 off ++ leBytes 4 n) s → off ≤ (schedBytes s.fw.sched).length → n < 2 ^ 32 → off < 2 ^ 32 →
      ∃ t, Completes (.schedGet i) s t ∧ OnlyReply i s t ∧ Replied i 0 0 (piece off n (schedBytes s.fw.sched)) s t) ∧
    (i.val < 16 → p.length = 16 → Asked i 0x3006 2 p s → f 0 8 % 64 = 0 → f 0 8 % 2 ^ 32 + f 8 4 ≤ 2 ^ 32 → f 12 4 = 0 →
      (schedBytes s.fw.sched).length ≤ f 8 4 → ∃ t, Completes (.schedGet i) s t ∧
        Replied i 0 0 (leBytes 4 (schedBytes s.fw.sched).length) s t ∧
        t.reg (MB_OB_w_BASE 0) = BitVec.ofNat 32 (f 0 8 / 2 ^ 32) ∧ t.fld (MB_OB_w_CTL 0) MB_OB_w_CTL_EN = 1) ∧
    (p.length = 20 → Asked i 0x5001 0 p s → ∃ t, Completes (.anLaw i) s t ∧ Replied i 0 0 [] s t ∧
      t.reg AN_LAW = written s AN_LAW (f 0 4) ∧ t.reg AN_LAW2 = written s AN_LAW2 (f 4 4) ∧ t.reg AN_BANDS = written s AN_BANDS (f 8 4) ∧
      t.reg AN_VERD = written s AN_VERD (f 12 4) ∧ t.reg AN_VERD2 = written s AN_VERD2 (f 16 4)) ∧
    (p.length = 6 → Asked i 0x5002 0 p s → f 0 1 < 64 → f 1 1 < 2 → f 2 1 < 16 → f 4 2 < 2048 → ∃ t, Completes (.anChan i) s t ∧
      Replied i 0 0 [] s t ∧ let a := AN_DRV_n_CFG (f 0 1)
      t.fld a AN_DRV_n_CFG_EN = f 1 1 ∧ t.fld a AN_DRV_n_CFG_LMIC = f 2 1 ∧ t.fld a AN_DRV_n_CFG_CODE = f 4 2) ∧
    (p.length = 6 → Asked i 0x5003 0 p s → f 1 1 < 2 → f 2 1 < 2 → f 3 1 < 4 →
      (f 0 1 = 1 → ∃ t, Completes (.anRun i) s t ∧ Replied i 0 0 (leBytes 4 s.an.runNum) s t ∧
        t.flag AN_RUN_STAT AN_RUN_STAT_WAITING = false ∧ t.an = { s.an with stopReq := s.an.run.isSome }) ∧
      (f 0 1 = 0 → 0 < f 4 2 → f 4 2 ≤ 4096 → (f 3 1 = 1 ∨ f 3 1 = 2) → (s.reg AN_ERR).toNat < 32 → anBusy s = false → codeDup s = false → anMemBad s = false →
        winBad s = false → ∃ t, Completes (.anRun i) s t ∧ Replied i 0 0 (leBytes 4 ((s.an.runNum + 1) % 2 ^ 32)) s t ∧
          t.fld AN_CTL AN_CTL_MODE = f 3 1 ∧ t.flag AN_RUN_STAT AN_RUN_STAT_WAITING = true ∧ t.an.startAt = s.frame ∧
          t.fld AN_RUN_CTL AN_RUN_CTL_PERIODS = f 4 2 - 1) ∧
      (f 0 1 = 0 → 0 < f 4 2 → f 4 2 ≤ 4096 → f 3 1 = 3 → ∃ t, Completes (.anRun i) s t ∧ t.fld AN_ERR AN_ERR_MODE_RANGE = 1 ∧
        Replied i 12 (t.reg AN_ERR).toNat [] s t)) ∧
    (p.length = 4 → Asked i 0x5004 0 p s → 0 < f 2 2 → f 2 2 < 64 → f 0 2 + f 2 2 ≤ 1152 →
      (s.flag AN_RUN_STAT AN_RUN_STAT_PROCESSING = true → ∃ t, Completes (.anResult i) s t ∧ OnlyReply i s t ∧ Replied i 4 0 [] s t) ∧
      (s.flag AN_RUN_STAT AN_RUN_STAT_PROCESSING = false → GoodDdr s (sumAddr s.an.mem (f 0 2)) (64 * f 2 2) → ∃ t,
        Completes (.anResult i) s t ∧ Replied i 0 0 (s.bytes (sumAddr s.an.mem (f 0 2)) (64 * f 2 2)) s t)) ∧
    (AskedIn i 0x5005 b s → b.length = 0x1212000 → s.flag AN_RUN_STAT AN_RUN_STAT_RUNNING = false →
      GoodDdr s (anMemReg s) 0x2424000 → ∃ t, Completes (.anRef i) s t ∧ Replied i 0 0 [] s t ∧
        t.bytes (anMemReg s + 0x1200000) 0x1200000 = b.take 0x1200000 ∧ t.bytes (anMemReg s + 0x2412000) 0x12000 = b.drop 0x1200000) ∧
    (p.length = 8 → Asked i 0x6001 0 p s → f 1 1 < 2 → f 2 1 < 16 → f 3 1 < 2 → ∃ t, Completes (.sfZone i) s t ∧ Replied i 0 0 [] s t ∧
      let a := SF_Z_z_CFG (f 0 1)
      t.fld a SF_Z_z_CFG_EN = f 1 1 ∧ t.fld a SF_Z_z_CFG_MIC_EN = f 2 1 ∧ t.fld a SF_Z_z_CFG_ZMODE = f 3 1 ∧
      t.reg (SF_Z_z_DLY (f 0 1)) = BitVec.ofNat 32 (f 4 4)) ∧
    (committed s = false →
      (p.length = 12 → Asked i 0x6002 0 p s → ∃ t, Completes (.sfLimits i) s t ∧ Replied i 0 0 [] s t ∧
        tget [] t.fw.sfLim (f 0 1) = [f 1 1, f 2 1, f 3 1, f 4 1, f 5 1, f 6 1, f 8 2, f 10 2]) ∧
      (Asked i 0x6003 0 [] s → (∀ e ∈ s.fw.sfLim, e.1 < 256) → ∃ t, Completes (.sfCommit i) s t ∧ Replied i 0 0 [] s t ∧
        committed t = true ∧ t.fld SF_CTL SF_CTL_LIM_LOCK = 1 ∧
        ∀ z l, s.fw.sfLim = [(z, l)] → t.reg (SF_Z_z_LIM z) = written s (SF_Z_z_LIM z) (limWord l).toNat) ∧
      (p.length = 1 → Asked i 0x6005 0 p s → ∃ t, Completes (.sfLoop i) s t ∧ OnlyReply i s t ∧ Replied i 5 0 [] s t)) ∧
    (committed s = true →
      (p.length = 12 → Asked i 0x6002 0 p s → ∃ t, Completes (.sfLimits i) s t ∧ OnlyReply i s t ∧ Replied i 5 0 [] s t) ∧
      (Asked i 0x6003 0 [] s → ∃ t, Completes (.sfCommit i) s t ∧ OnlyReply i s t ∧ Replied i 5 0 [] s t) ∧
      (p.length = 1 → f 0 1 ≤ 1 → Asked i 0x6005 0 p s → ∃ t, Completes (.sfLoop i) s t ∧ Replied i 0 0 [] s t ∧
        (t.fw.sfLoop = true ↔ f 0 1 = 1))) ∧
    (p.length = 1 → Asked i 0x6004 0 p s →
      (analysed s (f 0 1) = false → ∃ t, Completes (.sfResult i) s t ∧ OnlyReply i s t ∧ Replied i 6 0 [] s t) ∧
      (analysed s (f 0 1) = true → GoodDdr s (recordAddr s (f 0 1)) 64 → ∃ t, Completes (.sfResult i) s t ∧
        Replied i 0 0 (s.bytes (recordAddr s (f 0 1)) 64) s t)) ∧
    (Asked i 0x7001 0 [] s → ∃ t, Completes (.storeInfo i) s t ∧ OnlyReply i s t ∧
      Replied i 0 0 (leBytes 4 s.store.total ++ leBytes 4 (freeSegs s).length ++ leBytes 4 s.fw.msgs.length ++
        leBytes 1 (s.fld MS_STAT MS_STAT_MIRROR) ++ leBytes 1 (s.fld MS_STAT MS_STAT_RESYNC) ++ [0, 0]) s t) ∧
    (p.length = 4 → Asked i 0x7002 0 p s → f 1 1 = 1 → 2 ≤ f 2 2 →
      ((freeSegs s).length + (ringSegs s (f 0 1)).length < f 2 2 → ∃ t, Completes (.recCfg i) s t ∧ OnlyReply i s t ∧
        Replied i 10 0 [] s t) ∧
      (f 2 2 ≤ (freeSegs s).length + (ringSegs s (f 0 1)).length → ∃ t, Completes (.recCfg i) s t ∧ Replied i 0 0 [] s t ∧
        t.fld (MS_REC_s_CFG (f 0 1)) MS_REC_s_CFG_EN = 1 ∧ t.fld (MS_REC_s_CFG (f 0 1)) MS_REC_s_CFG_RING = f 2 2)) ∧
    (p.length = 24 → Asked i 0x7003 0 p s → ∃ t, Completes (.recPin i) s t ∧
      Replied i 0 0 (leBytes 4 (segsIn s (f 0 1) (f 8 8) (f 16 8)).length) s t ∧
      t.fw.pins = s.fw.pins ++ [(f 0 1, f 8 8, f 16 8)] ∧
      ∀ g ∈ segsIn s (f 0 1) (f 8 8) (f 16 8), bits (tget Seg.free t.store.segs g).flags 0 1 = 1) ∧
    (p.length = 24 → Asked i 0x7004 0 p s →
      (s.fw.pins = [(f 0 1, f 8 8, f 16 8)] → f 8 8 ≤ f 16 8 → ∃ t d, Completes (.recUnpin i) s t ∧ Replied i 0 0 (leBytes 4 d) s t ∧
        t.fw.pins = [] ∧ ∀ g ∈ segsIn s (f 0 1) (f 8 8) (f 16 8), bits (tget Seg.free t.store.segs g).flags 0 1 = 0) ∧
      (s.fw.pins = [] → segsIn s (f 0 1) (f 8 8) (f 16 8) = [] → ∃ t, Completes (.recUnpin i) s t ∧ OnlyReply i s t ∧
        Replied i 6 0 [] s t)) ∧
    (∀ off n d, p.length = 24 → Asked i 0x7005 4 (leBytes 4 off ++ leBytes 4 n ++ p) s → off < 2 ^ 32 → n < 2 ^ 32 →
      (segsIn s (f 0 1) (f 8 8) (f 16 8)).flatMap (segSamples s (f 8 8) (f 16 8)) = d → d ≠ [] → off ≤ d.length →
      ∃ t, Completes (.recRead i) s t ∧ OnlyReply i s t ∧ Replied i 0 0 (piece off n d) s t) ∧
    (∀ n g h, p.length = 16 → Asked i 0x7006 4 (leBytes 4 0 ++ leBytes 4 n ++ p) s → n < 2 ^ 32 → (f 0 1 = 5 ∨ f 0 1 = 6) →
      s.store.segs = [(g, h)] → h.area = f 0 1 → f 8 8 ≤ h.seq → ∃ t, Completes (.logRead i) s t ∧ OnlyReply i s t ∧
        Replied i 0 0 (piece 0 n (s.bytes (segBase g + 4096) h.count)) s t) ∧
    (p.length = 10 → Asked i 0x8001 0 p s → 0 < f 8 2 → f 8 2 ≤ 1018 → f 0 8 % 4 = 0 → 0x2000000000 ≤ f 0 8 →
      f 0 8 + 4 * f 8 2 ≤ 0x200046E000 → ∃ t, Completes (.regRead i) s t ∧ OnlyReply i s t ∧
        Replied i 0 0 ((List.range (f 8 2)).flatMap (fun k => (busRead .clove true (take i s) (f 0 8 + 4 * k) 4).data)) s t) ∧
    (p.length = 8 → Asked i 0x8002 0 p s → f 0 1 < 49 → let v := DBG_VT_t_STAT (f 0 1)
      (f 1 1 = 1 → s.flag v DBG_VT_t_STAT_IN_FULL = true → ∃ t, Completes (.vtXfer i) s t ∧ OnlyReply i s t ∧ Replied i 4 0 [] s t) ∧
      (f 1 1 = 0 ∨ (f 1 1 = 1 ∧ s.flag v DBG_VT_t_STAT_IN_FULL = false) → ∃ t, Completes (.vtXfer i) s t ∧
        Replied i 0 0 (regBytes s (DBG_VT_t_OUT (f 0 1)) ++ leBytes 1 (s.fld v DBG_VT_t_STAT_OUT_FULL)) s t ∧
        t.fld v DBG_VT_t_STAT_OUT_FULL = 0 ∧
        (f 1 1 = 1 → t.reg (DBG_VT_t_IN (f 0 1)) = BitVec.ofNat 32 (f 4 4) ∧ t.fld v DBG_VT_t_STAT_IN_FULL = 1))) ∧
    (p.length = 4 → Asked i 0x8003 0 p s → f 0 2 < 8192 → 0 < f 2 2 → f 2 2 < 128 → ∃ t, Completes (.nutmegRead i) s t ∧
      OnlyReply i s t ∧ Replied i 0 0 ((List.range (f 2 2)).flatMap (fun k => s.bytes (bbSlot (f 0 2 + k)) 32)) s t) ∧
    (Asked i 0x8004 0 [] s → ∃ t, Completes (.health i) s t ∧ OnlyReply i s t ∧ Replied i 0 0
      (regBytes s SX_PLANE_STAT ++ regBytes s MS_STAT ++ regBytes s NET_RING_STAT ++ regBytes s CV_LS_STAT ++
        leBytes 1 (faultedCores s) ++ leBytes 1 (faultedDrives s) ++ leBytes 1 (faultedSumac s) ++ [0]) s t) ∧
    (∀ off n, p.length = 32 → Asked i 0x9001 4 (leBytes 4 off ++ leBytes 4 n ++ p) s → off < 2 ^ 32 → n < 2 ^ 32 →
      off ≤ (report p s).length → slice (report p s) 16 32 = p ∧ ∃ t, Completes (.attest i) s t ∧ OnlyReply i s t ∧
        Replied i 0 0 (piece off n (report p s)) s t) ∧
    (AskedIn i 0x9002 b s → b.length ≤ slotSize → (chLost s 0 = false ∨ chLost s 1 = false) →
      let slot := slotBase (1 - s.fld BT_STAT BT_STAT_SLOT)
      (verifyReason (s.setBytes staging b) staging = 0 → verifyReason (s.setBytes slot b) slot = 0 → ∃ t,
        Completes (.imageUpload i) s t ∧ Replied i 0 0 [] s t ∧ t.bytes slot b.length = b) ∧
      (verifyReason (s.setBytes staging b) staging = rRollback → ∃ t, Completes (.imageUpload i) s t ∧ Replied i 8 0 [] s t ∧
        t.bytes slot b.length = s.bytes slot b.length)) ∧
    (Asked i 0x9003 0 [] s →
      (s.sec.lockout = true → ∃ t, Completes (.debugChallenge i) s t ∧ OnlyReply i s t ∧ Replied i 13 0 [] s t) ∧
      (s.sec.lockout = false → ∃ t, Completes (.debugChallenge i) s t ∧ Replied i 0 0 (challenge t) s t ∧
        t.sec = { s.sec with chalTime := some s.timeNs })) ∧
    (AskedIn i 0x9004 b s →
      (∀ g, responsePerms s b = some g → ∃ t, Completes (.debugResponse i) s t ∧ Replied i 0 0 [] s t ∧
        t.fld SEC_DBG SEC_DBG_PERMS = g % 32 ∧ t.fld SEC_DBG SEC_DBG_UNLOCKED = 1 ∧
        t.sec = { s.sec with chalTime := none, refused := 0, granted := s.sec.granted ||| g }) ∧
      (responsePerms s b = none → s.sec.refused < 2 → ∃ t, Completes (.debugResponse i) s t ∧ Replied i 13 0 [] s t ∧
        t.sec = { s.sec with chalTime := none, refused := s.sec.refused + 1 })) ∧
    (p.length = 36 → Asked i 0x9005 0 p s → ∃ t, Completes (.remoteKey i) s t ∧ Replied i 0 0 [] s t ∧
      tget [] t.fw.keys (f 0 2) = p.drop 4 ∧ ∀ k, k ≠ f 0 2 → tget [] t.fw.keys k = tget [] s.fw.keys k) ∧
    (p.length = 2 → Asked i 0x9006 0 p s →
      (tget [] s.fw.keys (f 0 2) = [] → ∃ t, Completes (.remoteClear i) s t ∧ OnlyReply i s t ∧ Replied i 6 0 [] s t) ∧
      (tget [] s.fw.keys (f 0 2) ≠ [] → ∃ t, Completes (.remoteClear i) s t ∧ Replied i 0 0 [] s t ∧
        tget [] t.fw.keys (f 0 2) = []))

/-! ### Boot, security, clocks, resets, power, watchdogs -/

/-- R370 to R377, R381, R383 to R387, R389 to R395, R398 to R408, R411, R412, R431, R432, R453, R454: resets, the start, security jobs
and sessions, the reference and the PLLs, gates, Standby, the watchdogs, DDR5 channels and supplies. -/
def Obligations.PowerAndSecurityCommandsComplete : Prop :=
  ∀ (ag : Agent) (v : Word) (q : Fin 12) (p : Fin 4) (c : Fin 2) (k : Fin 8) (n : Fin 48) (len : Fin 262144) (hash sfdp hi : Bool)
    (bad : List Nat) (s : State), let may := ag = .clove ∨ ag = .dap
    let low := fun (t : State) => (∀ m : Fin 48, (t.core m).st = 0) ∧ t.rstReq = [] ∧ t.otp = s.otp ∧
      t.reg BB_SEQ = s.reg BB_SEQ ∧ t.reg BB_TRIG_SEQ = s.reg BB_TRIG_SEQ ∧
      t.fld BT_STAT BT_STAT_ATTEMPT = s.fld BT_STAT BT_STAT_ATTEMPT ∧ t.reg SX_CTL = State.reset.reg SX_CTL ∧
      t.reg PM_TILE_CTL = State.reset.reg PM_TILE_CTL ∧ t.fld BT_STAT BT_STAT_RUN = 0
    -- resets
    (∃ t, Completes .alwaysOnPowerUp s t ∧ t.phase = 0 ∧ t.timeNs = 0 ∧ t.otp = s.otp ∧ (∀ a, t.reg a = State.reset.reg a) ∧
      ∀ a, isStore a = false → t.byte a = 0) ∧
    (∃ t, Completes .powerOnReset s t ∧ low t ∧ t.phase = 0 ∧ t.reg WD_RST_CAUSE = 2 ∧
      ∀ a, isStore a = false → isRing a = false → t.byte a = 0) ∧
    (∃ t, Completes .pinReset s t ∧ low t ∧ t.phase = 0 ∧ t.reg WD_RST_CAUSE = 4 ∧ t.ecc = s.ecc ∧
      (memWf s.mem → ∀ a, isPatchRam a = false → t.byte a = s.byte a)) ∧
    (s.rstReq = [] → Completes (.warmReset false) s s) ∧
    (s.rstReq = [] → ∃ t, Completes (.warmReset true) s t ∧ low t ∧ t.phase = 1 ∧ t.reg WD_RST_CAUSE = 32 ∧
      t.reg CK_CTL = s.reg CK_CTL ∧ t.reg MC_PERR = s.reg MC_PERR ∧ t.ecc = s.ecc ∧
      (memWf s.mem → ∀ a, isPatchRam a = false → t.byte a = s.byte a)) ∧
    (s.rstReq = [3] → ∃ t, Completes (.warmReset false) s t ∧ low t ∧ t.phase = 1 ∧ t.reg WD_RST_CAUSE = 8) ∧
    (¬ may → Completes (.tileReset ag q) s s) ∧
    (may → tileOn s q = false → Completes (.tileReset ag q) s (s.setFld PM_ERR PM_ERR_GATED 1)) ∧
    (may → tileOn s q = true → ∃ t, Completes (.tileReset ag q) s t ∧ (∀ j : Fin 4, (t.core (4 * q + j)).st = 0) ∧
      (∀ j : Fin 16, dmaState t q j = 0) ∧ ∀ m : Fin 48, m.val / 4 ≠ q.val → t.core m = s.core m) ∧
    (s.phase ≠ 0 ∨ s.dev.low ≠ [] ∨ (s.dev.refPresent = false ∧ s.dev.xtal = false) → Completes .resetRelease s s) ∧
    (s.phase = 0 → s.dev.low = [] → s.dev.refPresent = true → ∃ t, Completes .resetRelease s t ∧ t.phase = 1 ∧
      t.fld CK_STAT CK_STAT_LOCKED = 15 ∧ t.fld CK_STAT CK_STAT_REF_SEL = 0 ∧ t.fld CK_STAT CK_STAT_REF_OK = 1) ∧
    -- the start
    (bootPending s = false → Completes (.bootStart sfdp bad) s s) ∧
    (bootPending s = true →
      let stops := fun (code : Nat) => ∃ t, Completes (.bootStart sfdp bad) s t ∧ t.fld BT_CAUSE BT_CAUSE_CODE = code ∧
        t.fld BT_STAT BT_STAT_MINIMAL = 1 ∧ t.dev.winRun = false
      let att := s.fld BT_STAT BT_STAT_ATTEMPT
      (s.otp.lcs = 2 → stops 4) ∧
      (s.otp.lcs ≠ 2 → s.fld WD_RST_CAUSE WD_RST_CAUSE_MCHK = 1 → stops 3) ∧
      (s.otp.lcs ≠ 2 → s.fld WD_RST_CAUSE WD_RST_CAUSE_MCHK = 0 →
        (bootLimit s ≤ att → stops 1) ∧
        (att < bootLimit s → sfdp = false → stops 5) ∧
        (att < bootLimit s → sfdp = true → slotOrder s = [] → stops 2) ∧
        (att < bootLimit s → sfdp = true → ∀ slot rest, slotOrder s = slot :: rest → ¬ slot ∈ bad → verifyReason s (slotBase slot) = 0 →
          ∃ t, Completes (.bootStart sfdp bad) s t ∧ t.fld BT_STAT BT_STAT_SLOT = slot ∧ t.dev.winRun = true ∧ tileOn t q = true))) ∧
    (s.dev.winRun = true → sysHalt s = false → Completes .startWindowExpiry s { s with rstReq := s.rstReq ++ [7] }) ∧
    (s.dev.winRun = false ∨ sysHalt s = true → Completes .startWindowExpiry s s) ∧
    (¬ may → Completes (.bootDone ag) s s ∧ Completes (.commitRb ag) s s ∧ Completes (.xipWp ag) s s) ∧
    (may →
      (inRun s = false → s.fld BT_STAT BT_STAT_MINIMAL = 0 → s.phase = 2 → ∃ t, Completes (.bootDone ag) s t ∧
        t.fld BT_STAT BT_STAT_RUN = 1 ∧ t.fld BT_STAT BT_STAT_ATTEMPT = 0 ∧ t.dev.winRun = false) ∧
      (inRun s = true → ∃ t, Completes (.bootDone ag) s t ∧ OnlyRegs [BT_CTL] s t) ∧
      (inRun s = true → s.fld BT_STAT BT_STAT_KIND = 0 → ∃ t, Completes (.commitRb ag) s t ∧
        t.otp = { s.otp with rollback := max s.otp.rollback s.fw.rollback }) ∧
      (inRun s = false ∨ s.fld BT_STAT BT_STAT_KIND = 1 → ∃ t, Completes (.commitRb ag) s t ∧ OnlyRegs [BT_CTL] s t) ∧
      (∃ t, Completes (.xipWp ag) s t ∧ OnlyRegs [BT_CTL] s t ∧ t.fld BT_CTL BT_CTL_XIP_WP = 1)) ∧
    (s.fld BT_STAT BT_STAT_MINIMAL = 0 → Completes .minimalNotice s s) ∧
    (s.fld BT_STAT BT_STAT_MINIMAL = 1 → ∃ t, Completes .minimalNotice s t ∧ t.regs = s.regs ∧ t.fw.sentRemote =
      [(0xFFFFFFFFFFFF, [1, 2, 0, 0] ++ leBytes 8 s.otp.serial ++ leBytes 4 (s.reg BT_CAUSE).toNat ++ leBytes 4 (s.reg MC_ROM_VER).toNat)]) ∧
    -- security
    (let busy := s.flag (jobStat hash) ⟨0, 1⟩
     let a := bits (s.reg (jobCtl hash)).toNat 6 26 * 64 + bits v.toNat 0 8 * 2 ^ 32
     (¬ may ∨ busy = true → Completes (.securityJobStart ag hash v) s s) ∧
     (may → busy = false → GoodDdr s a 2 →
       (keyMisuse (s.byte a).toNat (s.byte (a + 1)).toNat (fromRom s ag) = false → ∃ t, Completes (.securityJobStart ag hash v) s t ∧
         t.fld (jobStat hash) ⟨0, 1⟩ = 1 ∧ t.fld (jobStat hash) ⟨4, 4⟩ = 0) ∧
       (keyMisuse (s.byte a).toNat (s.byte (a + 1)).toNat (fromRom s ag) = true → ∃ t, Completes (.securityJobStart ag hash v) s t ∧
         t.fld (jobStat hash) ⟨0, 1⟩ = 0 ∧ t.fld (jobStat hash) ⟨4, 4⟩ = 2 ∧ t.fld SEC_ALARM SEC_ALARM_KEY_MISUSE = 1)) ∧
     (busy = false → Completes (.securityJobDone hash) s s) ∧
     (busy = true → GoodDdr s (jobAddr s hash) 64 → let j := s.bytes (jobAddr s hash) 64
       (opOk hash (le j 0 1) = false → ∃ t, Completes (.securityJobDone hash) s t ∧ t.fld (jobStat hash) ⟨0, 1⟩ = 0 ∧
         t.fld (jobStat hash) ⟨1, 1⟩ = 1 ∧ t.fld (jobStat hash) ⟨4, 4⟩ = 1) ∧
       (hash = true → le j 0 1 = 1 → GoodDdr s (le j 8 8) (le j 4 4) → GoodDdr s (le j 0x10 8) 32 → ∃ t,
         Completes (.securityJobDone hash) s t ∧ t.fld (jobStat hash) ⟨0, 1⟩ = 0 ∧ t.fld (jobStat hash) ⟨1, 1⟩ = 1 ∧
         t.fld (jobStat hash) ⟨4, 4⟩ = 0 ∧
         t.bytes (le j 0x10 8) 32 = slice (Config.digest 256 (s.bytes (le j 8 8) (le j 4 4))) 0 32))) ∧
    (∀ clock, ∃ t, Completes (.glitchDetect clock) s t ∧ (∀ i, 2 ≤ i → tget [] t.sec.keys i = []) ∧
      t.fld SEC_ALARM (if clock then SEC_ALARM_CGLITCH else SEC_ALARM_VGLITCH) = 1 ∧ t.reg BB_SEQ = s.reg BB_SEQ + 1) ∧
    (¬ may → Completes (.debugAuthGo ag len) s s ∧ Completes (.sessionLock ag) s s) ∧
    (may →
      (s.sec.checking = none → s.sec.lockout = false → ∃ t, Completes (.debugAuthGo ag len) s t ∧
        t.fld DBG_AUTH_STAT DBG_AUTH_STAT_BUSY = 1 ∧ t.sec = { s.sec with checking := some len.val }) ∧
      (s.sec.checking ≠ none ∨ s.sec.lockout = true → ∃ t, Completes (.debugAuthGo ag len) s t ∧ t.sec = s.sec ∧
        t.fld DBG_AUTH_STAT DBG_AUTH_STAT_LOCKOUT = 1) ∧
      (∃ t, Completes (.sessionLock ag) s t ∧ OnlyRegs [SEC_DBG] s t ∧ session t = false ∧ t.fld SEC_DBG SEC_DBG_PERMS = 0)) ∧
    (s.sec.checking = none → Completes .debugAuthDone s s) ∧
    (∀ m, s.sec.checking = some m →
      (∀ g, responsePerms s (s.bytes dbgResponse (min m 131072)) = some g → ∃ t, Completes .debugAuthDone s t ∧ session t = true ∧
        t.fld SEC_DBG SEC_DBG_PERMS = g % 32 ∧ t.fld DBG_AUTH_STAT DBG_AUTH_STAT_BUSY = 0 ∧ t.fld DBG_AUTH_STAT DBG_AUTH_STAT_OK = 1) ∧
      (responsePerms s (s.bytes dbgResponse (min m 131072)) = none → ∃ t, Completes .debugAuthDone s t ∧ session t = session s ∧
        t.fld DBG_AUTH_STAT DBG_AUTH_STAT_BUSY = 0 ∧ t.fld DBG_AUTH_STAT DBG_AUTH_STAT_FAIL = 1 ∧
        (2 ≤ s.sec.refused → t.sec.lockout = true))) ∧
    (∃ t, Completes .debugLockoutEnd s t ∧ OnlyRegs [DBG_AUTH_STAT] { s with sec := t.sec } t ∧ t.sec = { s.sec with lockout := false } ∧
      t.fld DBG_AUTH_STAT DBG_AUTH_STAT_LOCKOUT = 0) ∧
    -- the reference and the PLLs
    (s.dev.refPresent = false → Completes .refclkLoss s s) ∧
    (s.dev.refPresent = true → ∃ t, Completes .refclkLoss s t ∧ t.fld CK_STAT CK_STAT_REF_LOST = 1 ∧ t.fld CK_STAT CK_STAT_REF_OK = 0 ∧
      (s.fld CK_STAT CK_STAT_REF_SEL = 0 → t.fld CK_STAT CK_STAT_HOLD = 1) ∧ t.reg BB_SEQ = s.reg BB_SEQ + 1) ∧
    (s.fld CK_STAT CK_STAT_HOLD = 0 ∨ s.fld CK_STAT CK_STAT_FREERUN = 1 → Completes .holdExpiry s s) ∧
    (s.fld CK_STAT CK_STAT_HOLD = 1 → s.fld CK_STAT CK_STAT_FREERUN = 0 →
      (s.fld CK_CTL CK_CTL_XTAL_EN = 1 → s.fld CK_STAT CK_STAT_XTAL_OK = 1 → ∃ t, Completes .holdExpiry s t ∧
        t.fld CK_STAT CK_STAT_REF_SEL = 1 ∧ t.fld CK_STAT CK_STAT_HOLD = 0 ∧ t.dev.switching = true) ∧
      (s.fld CK_CTL CK_CTL_XTAL_EN = 0 ∨ s.fld CK_STAT CK_STAT_XTAL_OK = 0 →
        Completes .holdExpiry s (s.setFld CK_STAT CK_STAT_FREERUN 1))) ∧
    (s.dev.switching = false → Completes .fallbackLock s s) ∧
    (s.dev.switching = true → ∃ t, Completes .fallbackLock s t ∧ t.fld CK_STAT CK_STAT_LOCKED = 15 ∧
      t.fld CK_STAT CK_STAT_FALLBACK = 1 ∧ t.dev = { s.dev with switching := false }) ∧
    (s.fld CK_CTL CK_CTL_XTAL_EN = 1 → s.dev.xtal = true → Completes .xtalReady s (s.setFld CK_STAT CK_STAT_XTAL_OK 1)) ∧
    (s.fld CK_CTL CK_CTL_XTAL_EN = 0 ∨ s.dev.xtal = false → Completes .xtalReady s s) ∧
    (s.dev.refPresent = false ∨ s.fld CK_STAT CK_STAT_REF_SEL = 0 → Completes .refOk s s) ∧
    (s.dev.refPresent = true → s.fld CK_STAT CK_STAT_REF_SEL = 1 →
      (s.fld CK_CTL CK_CTL_AUTO_RETURN = 0 → Completes .refOk s (s.setFld CK_STAT CK_STAT_REF_OK 1)) ∧
      (s.fld CK_CTL CK_CTL_AUTO_RETURN = 1 → ∃ t, Completes .refOk s t ∧ t.fld CK_STAT CK_STAT_REF_SEL = 0 ∧ t.dev.switching = true)) ∧
    (¬ may → Completes (.ckReturn ag) s s) ∧
    (may → s.fld CK_STAT CK_STAT_REF_OK = 1 → s.fld CK_STAT CK_STAT_REF_SEL = 1 → ∃ t, Completes (.ckReturn ag) s t ∧
      t.fld CK_STAT CK_STAT_REF_SEL = 0 ∧ t.fld CK_STAT CK_STAT_HOLD = 0 ∧ t.dev.switching = true) ∧
    (may → s.fld CK_STAT CK_STAT_REF_OK = 0 → ∃ t, Completes (.ckReturn ag) s t ∧
      t.fld CK_STAT CK_STAT_REF_SEL = s.fld CK_STAT CK_STAT_REF_SEL ∧ t.dev = s.dev) ∧
    (∃ t, Completes .refclkReturn s t ∧ t.dev = { s.dev with refPresent := true } ∧
      (s.fld CK_STAT CK_STAT_REF_SEL = 0 → t.fld CK_STAT CK_STAT_HOLD = 0 ∧ t.fld CK_STAT CK_STAT_FREERUN = 0)) ∧
    (∃ t, Completes (.pllLockLoss p) s t ∧ bits (t.fld CK_STAT CK_STAT_LOCKED) p 1 = 0 ∧ bits (t.fld CK_STAT CK_STAT_LOCK_LOST) p 1 = 1 ∧
      t.rstReq = (if p.val < 2 then s.rstReq ++ [8] else s.rstReq) ∧ (p.val = 2 → ∀ e : Fin 4, linkUp t e = false) ∧
      (p.val = 3 → t.fld NET_PTP_STAT NET_PTP_STAT_LOCKED = 0)) ∧
    (∃ t, Completes (.pllLockReturn p) s t ∧ OnlyRegs [CK_STAT] s t ∧ bits (t.fld CK_STAT CK_STAT_LOCKED) p 1 = 1) ∧
    -- gates and Standby
    (¬ may → Completes (.clockGateWrite ag hi v) s s ∧ Completes (.tileGateWrite ag v) s s) ∧
    (may → Completes (.clockGateWrite ag true v) s (s.setReg CK_GATE_HI (v &&& 0x3FFFEFFF#32)) ∧
      Completes (.clockGateWrite ag false v) s (s.setReg CK_GATE_LO (v &&& 0xFFFFCFFF#32))) ∧
    (may → ∃ t, Completes (.tileGateWrite ag v) s t ∧ t.fld PM_TILE_CTL PM_TILE_CTL_RET = bits v.toNat 16 12 ∧
      (∀ a, a ≠ PM_TILE_CTL → a ≠ PM_ERR → t.reg a = s.reg a) ∧
      (bits v.toNat q 1 = 1 → tileGate s q = false → mayGate s q = true → tileGate t q = true ∧ tilePend t q = 1) ∧
      (bits v.toNat q 1 = 1 → tileGate s q = false → mayGate s q = false → tileGate t q = false ∧ t.fld PM_ERR PM_ERR_GATE_BUSY = 1) ∧
      (bits v.toNat q 1 = 0 → tileGate s q = true → tileGate t q = false ∧ tilePend t q = 2)) ∧
    (tilePend s q ≠ 1 → Completes (.tilePowerOff q) s s) ∧
    (tilePend s q = 1 → ∃ t, Completes (.tilePowerOff q) s t ∧ tileOn t q = false ∧ tilePend t q = 0 ∧
      (tileRet s q = true → OnlyRegs [PM_STAT] { s with dev := t.dev } t) ∧
      (tileRet s q = false → (∀ j : Fin 4, (t.core (4 * q + j)).st = 0) ∧ ∀ a, inTile q a = true → t.byte a = 0)) ∧
    (tilePend s q ≠ 2 → Completes (.tilePowerOn q) s s) ∧
    (tilePend s q = 2 → ∃ t, Completes (.tilePowerOn q) s t ∧ tileOn t q = true ∧ tilePend t q = 0 ∧ t.mem = s.mem ∧
      ∀ j : Fin 4, t.fld (WD_SC_n_STAT (4 * q + j)) WD_SC_n_STAT_TICKS = 0) ∧
    (¬ may → Completes (.stby ag) s s ∧ Completes (.wake ag) s s) ∧
    (may →
      (inRun s = true → sxRunning s = false → s.dev.stby = 0 → (∀ g : Fin 8, s.fld (DRV_GRP_g_CTL g) DRV_GRP_g_CTL_EN_OUT = 0) →
        (∀ j : Fin 12, tileGate s j = true ∨ tileOn s j = false) → ∃ t, Completes (.stby ag) s t ∧
          t.dev = { s.dev with stby := 1, wakeLater := false } ∧ t.reg PM_ERR = s.reg PM_ERR) ∧
      (inRun s = false ∨ sxRunning s = true ∨ s.dev.stby ≠ 0 → ∃ t, Completes (.stby ag) s t ∧ t.dev = s.dev ∧
        t.fld PM_ERR PM_ERR_STBY_BUSY = 1) ∧
      (s.dev.stby = 2 → ∃ t, Completes (.wake ag) s t ∧ t.dev = { s.dev with stby := 3 }) ∧
      (s.dev.stby = 1 → ∃ t, Completes (.wake ag) s t ∧ t.dev = { s.dev with wakeLater := true }) ∧
      (s.dev.stby = 0 → ∃ t, Completes (.wake ag) s t ∧ OnlyRegs [PM_CTL] s t)) ∧
    (s.dev.stby ≠ 1 → Completes .standbyEntered s s) ∧
    (s.dev.stby = 1 → s.dev.wakeLater = false → ∃ t, Completes .standbyEntered s t ∧ t.fld PM_STAT PM_STAT_STANDBY = 1 ∧ t.dev.stby = 2 ∧
      t.dev.hpe = false ∧ (∀ e : Fin 4, e.val ≠ 0 → linkUp t e = false) ∧ ∀ d : Fin 2, t.fld (NV_p_STAT d) NV_p_STAT_LINK = 0) ∧
    (s.dev.stby = 1 → s.dev.wakeLater = true → ∃ t, Completes .standbyEntered s t ∧ t.dev.stby = 3) ∧
    (s.dev.stby ≠ 3 → Completes .standbyExited s s) ∧
    (s.dev.stby = 3 → ∃ t, Completes .standbyExited s t ∧ OnlyRegs [PM_STAT] { s with dev := t.dev } t ∧
      t.fld PM_STAT PM_STAT_STANDBY = 0 ∧ t.dev = { s.dev with stby := 0 }) ∧
    -- watchdogs
    (¬ may → Completes (.wdDevKick ag v) s s ∧ Completes (.wdCvKick ag v) s s ∧ Completes (.wdDevArm ag) s s) ∧
    (may → let good := bits v.toNat 0 16 = 0x5744
      (devArmed s = false → ∃ t, Completes (.wdDevKick ag v) s t ∧ OnlyRegs [WD_DEV_KICK] s t) ∧
      (devArmed s = true → good → s.fld WD_DEV_CFG WD_DEV_CFG_OPEN ≤ devElapsed s → ∃ t, Completes (.wdDevKick ag v) s t ∧
        t.dev = { s.dev with devKick := s.timeNs } ∧ t.rstReq = s.rstReq) ∧
      (devArmed s = true → ¬ good ∨ devElapsed s < s.fld WD_DEV_CFG WD_DEV_CFG_OPEN → ∃ t, Completes (.wdDevKick ag v) s t ∧
        t.rstReq = s.rstReq ++ [3] ∧ t.dev.wdo = true ∧ t.reg BB_SEQ = s.reg BB_SEQ + 1) ∧
      (good → ∃ t, Completes (.wdCvKick ag v) s t ∧ t.dev = { s.dev with cvKick := s.timeNs } ∧ t.rstReq = s.rstReq) ∧
      (¬ good → ∃ t, Completes (.wdCvKick ag v) s t ∧ t.rstReq = s.rstReq ++ [4] ∧ t.reg BB_SEQ = s.reg BB_SEQ + 1) ∧
      (∃ t, Completes (.wdDevArm ag) s t ∧ t.fld WD_DEV_CTL WD_DEV_CTL_EN = 1 ∧
        (s.fld WD_DEV_CTL WD_DEV_CTL_EN = 0 → t.dev = { s.dev with devKick := s.timeNs, devFrozen := none }))) ∧
    (devArmed s = true → s.fld WD_DEV_CFG WD_DEV_CFG_WARN ≠ 0 →
      Completes .deviceWatchdogWarning s (s.setFld WD_DEV_STAT WD_DEV_STAT_WARNED 1)) ∧
    (devArmed s = false → Completes .deviceWatchdogWarning s s ∧ Completes .deviceWatchdogExpiry s s) ∧
    (devArmed s = true → ∃ t, Completes .deviceWatchdogExpiry s t ∧ t.rstReq = s.rstReq ++ [3] ∧ t.dev.wdo = true) ∧
    (s.dev.cvFrozen = none → Completes .cloveWatchdogWarning s (s.setFld WD_CV_STAT WD_CV_STAT_WARNED 1) ∧
      ∃ t, Completes .cloveWatchdogExpiry s t ∧ t.rstReq = s.rstReq ++ [4]) ∧
    (s.dev.cvFrozen ≠ none → Completes .cloveWatchdogWarning s s ∧ Completes .cloveWatchdogExpiry s s) ∧
    (let due := s.fld (WD_SC_n_CFG n) WD_SC_n_CFG_EN = 1 ∧
       max (s.fld (WD_SC_n_CFG n) WD_SC_n_CFG_LIMIT) 1 ≤ s.fld (WD_SC_n_STAT n) WD_SC_n_STAT_TICKS
     (due → Completes (.coreWatchdogExpiry n) s (s.setFld (WD_SC_n_STAT n) WD_SC_n_STAT_EXPIRED 1)) ∧
     (¬ due → Completes (.coreWatchdogExpiry n) s s)) ∧
    (∃ t, Completes .wdoPulseEnd s t ∧ t = { s with dev := { s.dev with wdo := false } }) ∧
    -- DDR5, supplies, links and the test access port
    (∃ t, Completes (.ddrChannelLost c) s t ∧ chLost t c = true ∧ chLost t (1 - c.val) = chLost s (1 - c.val) ∧
      t.rstReq = (if inRun s && !ddrMirror s then s.rstReq ++ [5] else s.rstReq)) ∧
    (ddrMirror s = true → chLost s c = true → ∃ t, Completes (.ddrRedirectDone c) s t ∧ OnlyRegs [PM_DDR_CFG] s t ∧
      bits (t.fld PM_DDR_CFG PM_DDR_CFG_REDIR) c 1 = 1) ∧
    (ddrMirror s = false ∨ chLost s c = false → Completes (.ddrRedirectDone c) s s) ∧
    (∃ t, Completes (.supplyMonitorFall k) s t ∧ t.dev.low.contains k.val = true ∧
      (k.val < 5 → t.phase = 0 ∧ t.reg WD_RST_CAUSE = 2) ∧ (k.val = 5 ∨ k.val = 6 → t.phase = s.phase ∧ t.dev.hpe = false ∧
        ∀ e : Fin 4, linkUp t e = false) ∧ (k.val = 7 → chLost t 0 = true ∧ chLost t 1 = true)) ∧
    (∃ t, Completes (.supplyMonitorRise k) s t ∧ t.dev.low.contains k.val = false ∧
      (k.val = 3 → t.timeNs = 0 ∧ t.phase = 0) ∧ (k.val = 0 ∨ k.val = 4 → t.phase = 0 ∧ t.reg WD_RST_CAUSE = 2) ∧
      (k.val = 7 → s.dev.low.contains 7 = true → s.fld PM_DDR_CFG PM_DDR_CFG_REDIR = 0 → chLost t 0 = false ∧ chLost t 1 = false)) ∧
    (Completes (.pcieLinkUp 0) s { s with dev := { s.dev with hpe := true } } ∧
      Completes (.pcieLinkDown 0) s { s with dev := { s.dev with hpe := false } } ∧
      Completes (.pcieLinkUp 1) s (s.setFld (NV_p_STAT 0) NV_p_STAT_LINK 1) ∧
      Completes (.pcieLinkUp 2) s (s.setFld (NV_p_STAT 1) NV_p_STAT_LINK 1) ∧
      Completes (.pcieLinkDown 1) s (s.setFld (NV_p_STAT 0) NV_p_STAT_LINK 0) ∧
      Completes (.pcieLinkDown 2) s (s.setFld (NV_p_STAT 1) NV_p_STAT_LINK 0)) ∧
    (∀ d3 l2, Completes (.hostPowerStateChange d3 l2) s { s with hostD3 := d3, hostL2 := l2 }) ∧
    (∀ ir : Fin 256, let open' := s.otp.lcs = 0 ∨ sessionHas s 3 = true
      (ir.val = 1 ∨ ir.val = 2 ∨ ir.val = 0x20 ∨ (open' ∧ ir.val ∈ [0, 3, 4, 5, 6]) →
        Completes (.tapInstructionUpdate ir) s { s with dev := { s.dev with tapIr := ir.val } }) ∧
      (¬ (ir.val = 1 ∨ ir.val = 2 ∨ ir.val = 0x20 ∨ (open' ∧ ir.val ∈ [0, 3, 4, 5, 6])) →
        Completes (.tapInstructionUpdate ir) s { s with dev := { s.dev with tapIr := 0xFF } }))

/-! ### Debug access, readback, black box, register accesses -/

/-- R11, R342, R410, R411, R413 to R418, R420 to R422, R424 to R427, R439, R447, R315: the debug access port, stopping and stepping,
the virtual terminal, the readback window, Nutmeg, and register accesses. -/
def Obligations.DebugAndAccessCommandsComplete : Prop :=
  ∀ (ag : Agent) (n : Fin 48) (q : Fin 96) (u : Fin 49) (w : Fin 1024) (v : Word) (a : Fin 1099511627776) (wr nse : Bool) (s : State),
    let may := ag = .clove ∨ ag = .dap
    let c := s.core n
    let x := a.val / 4 * 4
    let plain := SNS_ID ≤ x ∧ x < CV_ID
    -- accesses
    (dapMay s x v wr nse = false → Completes (.dapAccess a v wr nse) s
      { s.setFld DBG_ERR DBG_ERR_DENIED 1 with dev := { s.dev with dapStatus := 2, dapData := 0 } }) ∧
    (dapMay s x v true nse = true → plain → Completes (.dapAccess a v true nse) s
      { s.writeByType x v with dev := { s.dev with dapStatus := 0, dapData := 0 } }) ∧
    (dapMay s x v false true = true → plain → ∃ t, Completes (.dapAccess a v false true) s t ∧
      t.dev = { s.dev with dapStatus := 0, dapData := (s.readByType x).1.toNat } ∧ t.regs = s.regs ∧ t.mem = s.mem) ∧
    (dapMay s x v true nse = true → 0x3000000000 ≤ a.val → a.val < 0x3010000000 → ∃ t, Completes (.dapAccess a v true nse) s t ∧
      t.dev.dapStatus = 2 ∧ t.fld DBG_ERR DBG_ERR_DENIED = 1) ∧
    (a.val < 0x20003C0000 ∨ 0x2000400000 ≤ a.val → Completes (.registerWrite .host a v) s s ∧ Completes (.rcRead .host a) s s) ∧
    (ag ≠ .host → plain → Completes (.registerWrite ag a v) s (s.writeByType x v) ∧
      Completes (.rcRead ag a) s { (s.readByType x).2 with dev := { s.dev with lastRead := (s.readByType x).1 } }) ∧
    (∀ i : Fin 16, a.val = MB_i_CNT i → ∃ t, Completes (.rcRead .host a) s t ∧ OnlyRegs [MB_i_CNT i] { s with dev := t.dev } t ∧
      t.dev.lastRead = s.reg (MB_i_CNT i) ∧ t.fld (MB_i_CNT i) MB_i_CNT_RINGS = 0 ∧ t.fld (MB_i_CNT i) MB_i_CNT_ABORT_CNT = 0) ∧
    (ag ≠ .host →
      (∃ t, Completes (.loHalfRead ag 0) s t ∧ t.dev.lastRead = BitVec.ofNat 32 s.frame ∧ t.regs = s.regs ∧
        tget 0 t.captured SX_FRAME_HI = BitVec.ofNat 32 (s.frame / 2 ^ 32)) ∧
      (∃ t, Completes (.loHalfRead ag 2) s t ∧ t.dev.lastRead = s.reg AN_START_LO ∧ t.regs = s.regs ∧
        tget 0 t.captured AN_START_HI = s.reg AN_START_HI)) ∧
    (a.val < 0x4000000000 ∨ 0x5000000000 ≤ a.val → Completes (.outboundTimeout ag a wr) s s) ∧
    (0x4000000000 ≤ a.val → a.val < 0x5000000000 →
      Completes (.outboundTimeout .store a wr) s (logFabric 29 3 wr a s) ∧
      (dmaState s 12 0 = 2 → dSrc (s.dmaOf 12 0) / 2 ^ 32 = a.val / 2 ^ 32 → ∃ t, Completes (.outboundTimeout .trunk a wr) s t ∧
        dmaState t 12 0 = 6)) ∧
    ((s.proc q).waitEv = none → ∃ t, Completes (.ioUnitReady q) s t ∧ OnlyProc q s t ∧ bits ((t.proc q).sp 12) 4 1 = 1) ∧
    -- signal cores
    (c.st = 0 ∨ c.st = 1 ∨ c.st = 5 ∨ c.st = 6 → Completes (.freeze n) s s) ∧
    (c.st = 2 ∨ c.st = 3 ∨ c.st = 4 ∨ c.st = 7 → ∃ t, Completes (.freeze n) s t ∧ t.core n = { c with freezeReq := true } ∧
      (∀ m : Fin 48, m ≠ n → t.core m = s.core m) ∧ t.regs = s.regs) ∧
    (c.freezeReq = false ∨ c.st = 6 → Completes (.freezeTaken n) s s) ∧
    (c.freezeReq = true → c.st ≠ 6 → c.hold = [] → c.waitLock = false → c.stepping = false → c.stores = [] → holdsLock s n = false → ∃ t,
      Completes (.freezeTaken n) s t ∧ t.core n = { c with st := 6, frozenFrom := c.st, freezeReq := false } ∧
      (∀ m : Fin 48, m ≠ n → t.core m = s.core m) ∧ t.mem = s.mem) ∧
    (c.freezeReq = false ∨ holdsLock s n = false → Completes (.freezeLockBreak n) s s) ∧
    (c.freezeReq = true → holdsLock s n = true → c.hold = [] → c.stepping = false → c.stores = [] → ∃ t,
      Completes (.freezeLockBreak n) s t ∧ holdsLock t n = false ∧ (t.core n).st = 6 ∧ t.mem = s.mem ∧
      (∀ m : Fin 48, m ≠ n → t.core m = s.core m)) ∧
    (c.st ≠ 6 ∨ c.frozenFrom ≠ 2 → Completes (.bstep n) s s) ∧
    (∀ o : AluOp, c.st = 6 → c.frozenFrom = 2 → coreOn s n = true → c.gap = .none → c.haltReq = false → c.breakDue = false →
      c.flight = [] → c.stores = [] → c.hold = [] → c.waitLock = false → c.pc < 4096 → c.repLeft = 0 → c.br = none →
      c.sfld sLoopact = 0 → lockHeld s (n / 4) = false → fetchMarks s n c.pc = [0, 0, 0, 0] →
      decodeBundle (fetchBundle s n c.pc) = .ok
        { ls0 := none, ls1 := none, ma0 := none, ma1 := none, al0 := some o, al1 := none, fp := none, ct := .nop, window := false } →
      (∀ k : Fin 4, s.flag (DBG_SC_n_BP_k n k) DBG_SC_n_BP_k_EN = false) → ∃ t, Completes (.bstep n) s t ∧ (t.core n).st = 6 ∧
        (t.core n).pc = c.pc + 1 ∧ (t.core n).r = c.r ∧ (t.core n).flight = (aluResults c o).map (mkFlight c.cyc 4 c.pc) ∧ t.mem = s.mem) ∧
    -- Clove and Sumac
    (¬ may → Completes (.cloveDebugHalt ag) s s ∧ Completes (.cloveDebugStep ag) s s ∧ Completes (.resume ag) s s ∧
      Completes (.sumacDebugStep ag q) s s) ∧
    (may →
      (procSt s 96 = 1 → atBoundary s 96 = true → ∃ t, Completes (.cloveDebugHalt ag) s t ∧ procSt t 96 = 3 ∧
        (t.proc 96).pc = (s.proc 96).pc ∧ t.fld DBG_CV_CTL DBG_CV_CTL_HOLD = s.fld DBG_CV_CTL DBG_CV_CTL_HOLD) ∧
      (procSt s 96 = 1 → atBoundary s 96 = false → ∃ t, Completes (.cloveDebugHalt ag) s t ∧ procSt t 96 = 1 ∧
        (t.proc 96).haltReq = true) ∧
      (procSt s 96 = 3 → s.ctl.mchk = 0 → pres s 48 = 0 → s.fld MC_CV_STAT MC_CV_STAT_SWAP_PEND = 0 → (s.proc 96).haltReq = false →
        (s.proc 96).stepping = false → ∃ t, Completes (.resume ag) s t ∧ procSt t 96 = 1 ∧ t.proc 96 = s.proc 96) ∧
      (∀ p ∈ [96, q.val], procSt s p = 3 → atBoundary s p = true → procClock s p = true →
        (p = 96 → s.ctl.mchk = 0 ∧ s.ctl.inject = false ∧ s.fld MC_CV_STAT MC_CV_STAT_SWAP_PEND = 0 ∧
          (s.proc 96).pc < 2 ^ 24 ∧ ∃ i, i < 256 ∧ extFetch s (s.proc 96).pc = .word i) →
        (p ≠ 96 → (s.proc p).pc < 4096 ∧ s.byte (suProg p + (s.proc p).pc) = 0) →
        (let e := dtEntry s p 0
         parityOk e = true ∧ dtValid e = true ∧ dtForm e = 0 ∧ dtIn e ≤ (s.proc p).os.length ∧
           (s.proc p).os.length - dtIn e + dtOut e ≤ osCap p) →
        ∃ t, Completes (if p = 96 then .cloveDebugStep ag else .sumacDebugStep ag q) s t ∧ procSt t p = 3 ∧
          (t.proc p).pc = cpuNext p 0 s ∧ (t.proc p).os = (s.proc p).os ∧ (t.proc p).rs = (s.proc p).rs ∧ t.mem = s.mem)) ∧
    -- virtual terminal and window
    (∃ t, Completes (.vtOutRead u) s t ∧ OnlyRegs [DBG_VT_t_STAT u] { s with dev := t.dev } t ∧
      t.dev = { s.dev with lastRead := s.reg (DBG_VT_t_OUT u) } ∧ t.fld (DBG_VT_t_STAT u) DBG_VT_t_STAT_OUT_FULL = 0) ∧
    (¬ may → Completes (.vtInWrite ag u v) s s ∧ Completes (.winSelWrite ag v) s s ∧ Completes (.windowWrite ag w v) s s ∧
      Completes (.rearm ag) s s) ∧
    (may →
      (s.fld (DBG_VT_t_STAT u) DBG_VT_t_STAT_IN_FULL = 1 → Completes (.vtInWrite ag u v) s
        (s.setFld (DBG_VT_t_STAT u) DBG_VT_t_STAT_IN_OVF 1)) ∧
      (s.fld (DBG_VT_t_STAT u) DBG_VT_t_STAT_IN_FULL = 0 → ∃ t, Completes (.vtInWrite ag u v) s t ∧ t.reg (DBG_VT_t_IN u) = v ∧
        t.fld (DBG_VT_t_STAT u) DBG_VT_t_STAT_IN_FULL = 1 ∧ OnlyRegs [DBG_VT_t_IN u, DBG_VT_t_STAT u] s t) ∧
      (bits v.toNat 0 4 = 0 → bits v.toNat 16 12 = n.val → ∃ t, Completes (.winSelWrite ag v) s t ∧ t.dev.winDue = true ∧
        t.fld DBG_WIN_STAT DBG_WIN_STAT_READY = 0 ∧
        (c.st = 1 ∨ c.st = 6 → t.fld DBG_WIN_STAT DBG_WIN_STAT_UNAVAIL = 0 ∧ ∀ k, k < 64 → tget 0 t.dev.window k = c.d k) ∧
        (c.st ≠ 1 → c.st ≠ 6 → t.fld DBG_WIN_STAT DBG_WIN_STAT_UNAVAIL = 1 ∧ t.dev.window = [])) ∧
      (s.fld DBG_WIN_SEL DBG_WIN_SEL_KIND = 0 → s.fld DBG_WIN_SEL DBG_WIN_SEL_INST = n.val → winMay s 0 = true → c.st = 1 → w.val < 64 →
        ∃ t, Completes (.windowWrite ag w v) s t ∧ (t.core n).d w = v.toNat ∧ (∀ k, k ≠ w.val → (t.core n).get k = c.get k) ∧
          (∀ m : Fin 48, m ≠ n → t.core m = s.core m) ∧ t.regs = s.regs) ∧
      (winMay s (s.fld DBG_WIN_SEL DBG_WIN_SEL_KIND) = false ∨ 2 < s.fld DBG_WIN_SEL DBG_WIN_SEL_KIND →
        Completes (.windowWrite ag w v) s (s.setFld DBG_ERR DBG_ERR_WIN_RO 1)) ∧
      (∃ t, Completes (.rearm ag) s t ∧ OnlyRegs [BB_CTL, BB_STAT] s t ∧ t.fld BB_STAT BB_STAT_FROZEN = 0 ∧
        t.fld BB_STAT BB_STAT_ARMED = 1 ∧ t.fld BB_CTL BB_CTL_POST = s.fld BB_CTL BB_CTL_POST)) ∧
    (s.dev.winDue = false → Completes .windowCaptureDone s s) ∧
    (s.dev.winDue = true → ∃ t, Completes .windowCaptureDone s t ∧ t.fld DBG_WIN_STAT DBG_WIN_STAT_READY = 1 ∧
      t.dev = { s.dev with winDue := false }) ∧
    -- Nutmeg
    (ag ≠ .clove → Completes (.nutmegRecord ag v) s s) ∧
    (∃ t, Completes (.nutmegRecord .clove v) s t ∧ t.reg BB_SEQ = s.reg BB_SEQ + 1 ∧
      (s.fld BB_STAT BB_STAT_FROZEN = 1 → t.mem = s.mem ∧
        t.reg BB_LOST = (if (s.reg BB_LOST).toNat + 1 < 2 ^ 32 then s.reg BB_LOST + 1 else s.reg BB_LOST)) ∧
      (s.fld BB_STAT BB_STAT_FROZEN = 0 → t.bytes (bbSlot (s.reg BB_SEQ).toNat) 32 =
          leBytes 8 (s.timeNs % 2 ^ 63 + b2n (bbUnsync s) * 2 ^ 63) ++ leBytes 2 (bits v.toNat 16 16) ++ leBytes 2 (bits v.toNat 0 16) ++
            leBytes 4 (s.reg BB_SEQ).toNat ++ (List.range 4).flatMap (fun k => leBytes 4 (s.reg (BB_WR_ARG_k k)).toNat)) ∧
      (s.fld BB_STAT BB_STAT_FROZEN = 0 → s.bb.post = none → s.fld BB_STAT BB_STAT_ARMED = 1 → 32768 ≤ bits v.toNat 0 16 →
        t.reg BB_TRIG_SEQ = s.reg BB_SEQ ∧ t.fld BB_STAT BB_STAT_ARMED = 0)) ∧
    (s.bb.post = some 0 → ∃ t, Completes .nutmegFreeze s t ∧ t.bb = { s.bb with post := none } ∧ t.fld BB_STAT BB_STAT_FROZEN = 1) ∧
    (s.bb.post ≠ some 0 → Completes .nutmegFreeze s s)
end

