-- ==== Sys2Proof/Laws/Table.lean ====
section
/-! SUPPORT. Laws of the sparse tables: a read after a write, and the canonical form. -/

namespace Sys2Proof.Machine

variable {α : Type}

/-- A key that has only larger keys after it holds the default. -/
theorem tget_dropWhile (d : α) (a : Nat) (t : List (Nat × α)) (b : Nat) (h : a ≤ b) :
    tget d (t.dropWhile (fun e => decide (e.1 ≤ a))) b = if a = b then d else tget d t b := by
  induction t with
  | nil => simp [tget]
  | cons e t ih =>
    obtain ⟨k, w⟩ := e
    by_cases hk : k ≤ a
    · rw [List.dropWhile_cons_of_pos (by simpa using hk), ih]
      split
      · rfl
      · have : ¬ b < k := by omega
        have : ¬ b = k := by omega
        simp [tget, *]
    · rw [List.dropWhile_cons_of_neg (by simpa using hk)]
      split
      · have : b < k := by omega
        simp [tget, this]
      · rfl

/-- Every key of a well-formed table is larger than `a`. -/
def above (a : Nat) (t : List (Nat × α)) : Prop := ∀ e ∈ t, a < e.1

theorem dropWhile_above (a : Nat) (t : List (Nat × α)) (h : above a t) :
    t.dropWhile (fun e => decide (e.1 ≤ a)) = t := by
  cases t with
  | nil => rfl
  | cons e t =>
    have := h e (List.mem_cons_self ..)
    rw [List.dropWhile_cons_of_neg (by simpa using this)]

variable [DecidableEq α]

@[simp] theorem tget_tput_same (d : α) (t : List (Nat × α)) (a : Nat) (v : α) : tget d (tput d t a v) a = v := by
  induction t with
  | nil => by_cases h : v = d <;> simp [tput, tget, h]
  | cons e t ih =>
    obtain ⟨k, w⟩ := e
    unfold tput
    split
    · rename_i hk
      by_cases h : v = d <;> simp [tget, h, hk]
    · split
      · by_cases h : v = d
        · simp [h, tget_dropWhile]
        · simp [tget, h]
      · rename_i h1 h2
        simp [tget, h1, h2, ih]

theorem tget_tput_other (d d' : α) (t : List (Nat × α)) (a b : Nat) (v : α) (h : b ≠ a) :
    tget d (tput d' t a v) b = tget d t b := by
  induction t with
  | nil =>
    by_cases hv : v = d'
    · simp [tput, hv]
    · simp [tput, hv, tget, h]
  | cons e t ih =>
    obtain ⟨k, w⟩ := e
    unfold tput
    split
    · rename_i hk
      by_cases hv : v = d'
      · simp [hv]
      · rw [if_neg hv]
        by_cases hb : b < a
        · have : b < k := by omega
          simp [tget, hb, this]
        · rw [show tget d ((a, v) :: (k, w) :: t) b = tget d ((k, w) :: t) b by simp [tget, hb, h]]
    · split
      · rename_i hk
        subst hk
        by_cases hv : v = d'
        · rw [if_pos hv]
          by_cases hb : b < a
          · rw [show tget d ((a, w) :: t) b = d by simp [tget, hb]]
            clear ih
            induction t with
            | nil => simp [tget]
            | cons e t ih =>
              obtain ⟨k, x⟩ := e
              by_cases hk : k ≤ a
              · rw [List.dropWhile_cons_of_pos (by simpa using hk)]
                exact ih
              · rw [List.dropWhile_cons_of_neg (by simpa using hk)]
                have : b < k := by omega
                simp [tget, this]
          · rw [tget_dropWhile d a t b (by omega)]
            have : ¬ a = b := fun e => h e.symm
            simp [tget, this, hb, h]
        · simp [hv, tget, h]
      · by_cases hb : b < k
        · simp [tget, hb]
        · by_cases hbk : b = k
          · simp [tget, hbk]
          · simp [tget, hb, hbk, ih]

theorem twf_cons (d : Nat → α) (k : Nat) (w : α) (t : List (Nat × α)) :
    twf d ((k, w) :: t) = true ↔ w ≠ d k ∧ above k t ∧ twf d t = true := by
  induction t generalizing k w with
  | nil => simp [twf, above]
  | cons e t ih =>
    obtain ⟨k', w'⟩ := e
    simp only [twf, Bool.and_eq_true, decide_eq_true_eq]
    rw [ih]
    constructor
    · rintro ⟨⟨h1, h2⟩, h3, h4, h5⟩
      refine ⟨h1, ?_, h3, h4, h5⟩
      intro e he
      rcases List.mem_cons.1 he with rfl | he
      · exact h2
      · exact lt_trans h2 (h4 e he)
    · rintro ⟨h1, h2, h3, h4, h5⟩
      exact ⟨⟨h1, h2 _ (List.mem_cons_self ..)⟩, h3, h4, h5⟩

theorem above_tput (d v : α) (t : List (Nat × α)) (a b : Nat) (h : above b t) (hab : b < a) : above b (tput d t a v) := by
  induction t with
  | nil =>
    by_cases hv : v = d
    · simp [tput, hv, above]
    · simpa [tput, hv, above] using hab
  | cons e t ih =>
    obtain ⟨k, w⟩ := e
    have ht : above b t := fun e he => h e (List.mem_cons_of_mem _ he)
    unfold tput
    split
    · by_cases hv : v = d
      · simpa [hv] using h
      · rw [if_neg hv]
        intro e he
        rcases List.mem_cons.1 he with rfl | he
        · exact hab
        · exact h e he
    · split
      · by_cases hv : v = d
        · rw [if_pos hv]
          exact fun e he => ht e ((List.dropWhile_sublist _).mem he)
        · rw [if_neg hv]
          intro e he
          rcases List.mem_cons.1 he with rfl | he
          · exact hab
          · exact ht e he
      · intro e he
        rcases List.mem_cons.1 he with rfl | he
        · exact h _ (List.mem_cons_self ..)
        · exact ih ht e he

/-- Every write keeps the canonical form. -/
theorem twf_tput (d : Nat → α) (t : List (Nat × α)) (a : Nat) (v : α) (h : twf d t = true) :
    twf d (tput (d a) t a v) = true := by
  induction t with
  | nil => by_cases hv : v = d a <;> simp [tput, hv, twf]
  | cons e t ih =>
    obtain ⟨k, w⟩ := e
    obtain ⟨h1, h2, h3⟩ := (twf_cons d k w t).1 h
    unfold tput
    split
    · rename_i hk
      by_cases hv : v = d a
      · simpa [hv] using h
      · rw [if_neg hv, twf_cons]
        refine ⟨hv, ?_, h⟩
        intro e he
        rcases List.mem_cons.1 he with rfl | he
        · exact hk
        · exact lt_trans hk (h2 e he)
    · split
      · rename_i hk
        subst hk
        by_cases hv : v = d a
        · rw [if_pos hv, dropWhile_above a t h2]
          exact h3
        · rw [if_neg hv, twf_cons]
          exact ⟨hv, h2, h3⟩
      · rename_i n1 n2
        rw [twf_cons]
        exact ⟨h1, above_tput (d a) v t a k h2 (by omega), ih h3⟩

/-- A table without some of its keys keeps the canonical form. -/
theorem twf_tdrop (d : Nat → α) (p : Nat → Bool) (t : List (Nat × α)) (h : twf d t = true) : twf d (tdrop p t) = true := by
  induction t with
  | nil => rfl
  | cons e t ih =>
    obtain ⟨k, w⟩ := e
    obtain ⟨h1, h2, h3⟩ := (twf_cons d k w t).1 h
    rw [tdrop, List.filter_cons]
    split
    · exact (twf_cons d k w _).2 ⟨h1, fun e he => h2 e (List.mem_of_mem_filter he), ih h3⟩
    · exact ih h3

end Sys2Proof.Machine
end

