-- ==== Sys2Proof/Laws/Mem.lean ====
section
/-! SUPPORT. Laws of the named operations over memory: a read after a write, and the canonical form. -/

namespace Sys2Proof.Machine

@[simp] theorem byte_setByte_same (s : State) (a : Nat) (b : Byte) : (s.setByte a b).byte a = b := by
  simp [State.byte, State.setByte]

theorem byte_setByte_other (s : State) (a c : Nat) (b : Byte) (h : c ≠ a) : (s.setByte a b).byte c = s.byte c := by
  simp only [State.byte, State.setByte]
  exact tget_tput_other _ _ _ _ _ _ h

/-- A byte outside the written ones keeps its value. -/
theorem byte_setBytes_other (l : List Byte) (s : State) (a c : Nat) (h : c < a ∨ a + l.length ≤ c) :
    (s.setBytes a l).byte c = s.byte c := by
  induction l generalizing s a with
  | nil => rfl
  | cons b t ih =>
    simp only [List.length_cons] at h
    rw [State.setBytes, ih _ _ (by omega), byte_setByte_other _ _ _ _ (by omega)]

/-- The written bytes read back. -/
theorem bytes_setBytes (l : List Byte) (s : State) (a : Nat) : (s.setBytes a l).bytes a l.length = l := by
  induction l generalizing s a with
  | nil => rfl
  | cons b t ih =>
    simp only [State.setBytes, List.length_cons, State.bytes]
    rw [byte_setBytes_other _ _ _ _ (by omega), ih]
    simp

/-- A number reads back, cut to its width. -/
theorem num_setNum (s : State) (a n v : Nat) : (s.setNum a n v).num a n = v % 256 ^ n := by
  have := bytes_setBytes (leBytes n v) s a
  rw [leBytes_length] at this
  simp [State.num, State.setNum, this]

/-! ### The canonical form -/

theorem memWf_setByte (s : State) (a : Nat) (b : Byte) (h : memWf s.mem) : memWf (s.setByte a b).mem :=
  twf_tput (fun _ => memDefault) s.mem a b h

theorem memWf_setBytes (l : List Byte) (s : State) (a : Nat) (h : memWf s.mem) : memWf (s.setBytes a l).mem := by
  induction l generalizing s a with
  | nil => exact h
  | cons b t ih => exact ih _ _ (memWf_setByte s a b h)

theorem memWf_setNum (s : State) (a n v : Nat) (h : memWf s.mem) : memWf (s.setNum a n v).mem := memWf_setBytes _ s a h

/-- Memory that loses some of its contents, as at a power-down. -/
theorem memWf_tdrop (p : Nat → Bool) (s : State) (h : memWf s.mem) : memWf (tdrop p s.mem) :=
  twf_tdrop (fun _ => memDefault) p s.mem h

theorem memWf_reset : memWf State.reset.mem := rfl

end Sys2Proof.Machine
end

