-- ==== Sys2Proof/Laws/Regs.lean ====
section
/-! SUPPORT. Laws of the named operations over registers: what a write of a register or a field leaves to read. -/

namespace Sys2Proof.Machine

@[simp] theorem reg_setReg_same (s : State) (a : Nat) (v : Word) : (s.setReg a v).reg a = v := by
  simp [State.reg, State.setReg]

theorem reg_setReg_other (s : State) (a b : Nat) (v : Word) (h : b ≠ a) : (s.setReg a v).reg b = s.reg b := by
  simp only [State.reg, State.setReg]
  exact tget_tput_other _ _ _ _ _ _ h

theorem reg_setFld_other (s : State) (a b : Nat) (f : Fld) (x : Nat) (h : b ≠ a) : (s.setFld a f x).reg b = s.reg b :=
  reg_setReg_other s a b _ h

theorem fld_setReg_other (s : State) (a b : Nat) (v : Word) (g : Fld) (h : b ≠ a) : (s.setReg a v).fld b g = s.fld b g := by
  simp only [State.fld, reg_setReg_other s a b v h]

theorem fld_setFld_other (s : State) (a b : Nat) (f g : Fld) (x : Nat) (h : b ≠ a) :
    (s.setFld a f x).fld b g = s.fld b g := fld_setReg_other s a b _ g h

theorem flag_setFld_other (s : State) (a b : Nat) (f g : Fld) (x : Nat) (h : b ≠ a) :
    (s.setFld a f x).flag b g = s.flag b g := by
  simp only [State.flag, fld_setFld_other s a b f g x h]

/-- A field reads the value written to it, cut to its width. -/
theorem fld_setFld_same (s : State) (a : Nat) (f : Fld) (x : Nat) (h : f.lo + f.w ≤ 32) :
    (s.setFld a f x).fld a f = x % 2 ^ f.w := by
  have : setBits (s.reg a).toNat f.lo f.w x < 2 ^ 32 := setBits_lt _ _ _ _ 32 (s.reg a).isLt h
  simp only [State.fld, State.setFld, reg_setReg_same, BitVec.toNat_ofNat, Nat.mod_eq_of_lt this, bits_setBits_same]

/-- Two fields of one register that do not overlap. -/
def Fld.apart (f g : Fld) : Prop := f.lo + f.w ≤ g.lo ∨ g.lo + g.w ≤ f.lo

theorem fld_setFld_apart (s : State) (a : Nat) (f g : Fld) (x : Nat) (h : f.lo + f.w ≤ 32) (hg : f.apart g) :
    (s.setFld a f x).fld a g = s.fld a g := by
  have : setBits (s.reg a).toNat f.lo f.w x < 2 ^ 32 := setBits_lt _ _ _ _ 32 (s.reg a).isLt h
  simp only [State.fld, State.setFld, reg_setReg_same, BitVec.toNat_ofNat, Nat.mod_eq_of_lt this]
  rcases hg with hg | hg
  · exact bits_setBits_above _ _ _ _ _ _ hg
  · exact bits_setBits_below _ _ _ _ _ _ hg

end Sys2Proof.Machine
end

