-- ==== Sys2Proof/Laws/State.lean ====
section
/-! SUPPORT. What each update of State leaves as it was: one lemma per field and update, so that no proof unfolds a
record update. -/

namespace Sys2Proof.Machine

@[simp] theorem setReg_pending (s : State) (a : Nat) (v : Word) : (s.setReg a v).pending = s.pending := rfl
@[simp] theorem setReg_freeCtr (s : State) (a : Nat) (v : Word) : (s.setReg a v).freeCtr = s.freeCtr := rfl
@[simp] theorem setReg_mem (s : State) (a : Nat) (v : Word) : (s.setReg a v).mem = s.mem := rfl
@[simp] theorem setReg_captured (s : State) (a : Nat) (v : Word) : (s.setReg a v).captured = s.captured := rfl
@[simp] theorem setReg_frame (s : State) (a : Nat) (v : Word) : (s.setReg a v).frame = s.frame := rfl
@[simp] theorem setReg_timeNs (s : State) (a : Nat) (v : Word) : (s.setReg a v).timeNs = s.timeNs := rfl
@[simp] theorem setReg_sx (s : State) (a : Nat) (v : Word) : (s.setReg a v).sx = s.sx := rfl
@[simp] theorem setReg_cores (s : State) (a : Nat) (v : Word) : (s.setReg a v).cores = s.cores := rfl
@[simp] theorem setReg_ecc (s : State) (a : Nat) (v : Word) : (s.setReg a v).ecc = s.ecc := rfl
@[simp] theorem setReg_spareRow (s : State) (a : Nat) (v : Word) : (s.setReg a v).spareRow = s.spareRow := rfl
@[simp] theorem setReg_spareCopy (s : State) (a : Nat) (v : Word) : (s.setReg a v).spareCopy = s.spareCopy := rfl
@[simp] theorem setReg_nextWin (s : State) (a : Nat) (v : Word) : (s.setReg a v).nextWin = s.nextWin := rfl
@[simp] theorem setReg_icStack (s : State) (a : Nat) (v : Word) : (s.setReg a v).icStack = s.icStack := rfl
@[simp] theorem setReg_icPres (s : State) (a : Nat) (v : Word) : (s.setReg a v).icPres = s.icPres := rfl
@[simp] theorem setReg_nvPosted (s : State) (a : Nat) (v : Word) : (s.setReg a v).nvPosted = s.nvPosted := rfl
@[simp] theorem setReg_hostD3 (s : State) (a : Nat) (v : Word) : (s.setReg a v).hostD3 = s.hostD3 := rfl
@[simp] theorem setReg_hostL2 (s : State) (a : Nat) (v : Word) : (s.setReg a v).hostL2 = s.hostL2 := rfl
@[simp] theorem setReg_drv (s : State) (a : Nat) (v : Word) : (s.setReg a v).drv = s.drv := rfl
@[simp] theorem setReg_grpRise (s : State) (a : Nat) (v : Word) : (s.setReg a v).grpRise = s.grpRise := rfl
@[simp] theorem setReg_senseNow (s : State) (a : Nat) (v : Word) : (s.setReg a v).senseNow = s.senseNow := rfl
@[simp] theorem setReg_tdmIn (s : State) (a : Nat) (v : Word) : (s.setReg a v).tdmIn = s.tdmIn := rfl
@[simp] theorem setReg_tdmOut (s : State) (a : Nat) (v : Word) : (s.setReg a v).tdmOut = s.tdmOut := rfl
@[simp] theorem setReg_tdmClean (s : State) (a : Nat) (v : Word) : (s.setReg a v).tdmClean = s.tdmClean := rfl
@[simp] theorem setReg_tdmSlip (s : State) (a : Nat) (v : Word) : (s.setReg a v).tdmSlip = s.tdmSlip := rfl
@[simp] theorem setReg_ddrCap (s : State) (a : Nat) (v : Word) : (s.setReg a v).ddrCap = s.ddrCap := rfl
@[simp] theorem setReg_net (s : State) (a : Nat) (v : Word) : (s.setReg a v).net = s.net := rfl
@[simp] theorem setReg_flows (s : State) (a : Nat) (v : Word) : (s.setReg a v).flows = s.flows := rfl
@[simp] theorem setReg_streamOut (s : State) (a : Nat) (v : Word) : (s.setReg a v).streamOut = s.streamOut := rfl
@[simp] theorem setReg_store (s : State) (a : Nat) (v : Word) : (s.setReg a v).store = s.store := rfl
@[simp] theorem setReg_an (s : State) (a : Nat) (v : Word) : (s.setReg a v).an = s.an := rfl
@[simp] theorem setReg_sf (s : State) (a : Nat) (v : Word) : (s.setReg a v).sf = s.sf := rfl
@[simp] theorem setReg_qm (s : State) (a : Nat) (v : Word) : (s.setReg a v).qm = s.qm := rfl
@[simp] theorem setReg_dma (s : State) (a : Nat) (v : Word) : (s.setReg a v).dma = s.dma := rfl
@[simp] theorem setReg_dmaLast (s : State) (a : Nat) (v : Word) : (s.setReg a v).dmaLast = s.dmaLast := rfl
@[simp] theorem setReg_cpu (s : State) (a : Nat) (v : Word) : (s.setReg a v).cpu = s.cpu := rfl
@[simp] theorem setReg_ctl (s : State) (a : Nat) (v : Word) : (s.setReg a v).ctl = s.ctl := rfl
@[simp] theorem setReg_bb (s : State) (a : Nat) (v : Word) : (s.setReg a v).bb = s.bb := rfl
@[simp] theorem setReg_phase (s : State) (a : Nat) (v : Word) : (s.setReg a v).phase = s.phase := rfl
@[simp] theorem setReg_rstReq (s : State) (a : Nat) (v : Word) : (s.setReg a v).rstReq = s.rstReq := rfl
@[simp] theorem setReg_otp (s : State) (a : Nat) (v : Word) : (s.setReg a v).otp = s.otp := rfl
@[simp] theorem setReg_sec (s : State) (a : Nat) (v : Word) : (s.setReg a v).sec = s.sec := rfl
@[simp] theorem setReg_dev (s : State) (a : Nat) (v : Word) : (s.setReg a v).dev = s.dev := rfl
@[simp] theorem setReg_fw (s : State) (a : Nat) (v : Word) : (s.setReg a v).fw = s.fw := rfl

@[simp] theorem setFld_pending (s : State) (a : Nat) (f : Fld) (x : Nat) : (s.setFld a f x).pending = s.pending := rfl
@[simp] theorem setFld_freeCtr (s : State) (a : Nat) (f : Fld) (x : Nat) : (s.setFld a f x).freeCtr = s.freeCtr := rfl
@[simp] theorem setFld_mem (s : State) (a : Nat) (f : Fld) (x : Nat) : (s.setFld a f x).mem = s.mem := rfl
@[simp] theorem setFld_captured (s : State) (a : Nat) (f : Fld) (x : Nat) : (s.setFld a f x).captured = s.captured := rfl
@[simp] theorem setFld_frame (s : State) (a : Nat) (f : Fld) (x : Nat) : (s.setFld a f x).frame = s.frame := rfl
@[simp] theorem setFld_timeNs (s : State) (a : Nat) (f : Fld) (x : Nat) : (s.setFld a f x).timeNs = s.timeNs := rfl
@[simp] theorem setFld_sx (s : State) (a : Nat) (f : Fld) (x : Nat) : (s.setFld a f x).sx = s.sx := rfl
@[simp] theorem setFld_cores (s : State) (a : Nat) (f : Fld) (x : Nat) : (s.setFld a f x).cores = s.cores := rfl
@[simp] theorem setFld_ecc (s : State) (a : Nat) (f : Fld) (x : Nat) : (s.setFld a f x).ecc = s.ecc := rfl
@[simp] theorem setFld_spareRow (s : State) (a : Nat) (f : Fld) (x : Nat) : (s.setFld a f x).spareRow = s.spareRow := rfl
@[simp] theorem setFld_spareCopy (s : State) (a : Nat) (f : Fld) (x : Nat) : (s.setFld a f x).spareCopy = s.spareCopy := rfl
@[simp] theorem setFld_nextWin (s : State) (a : Nat) (f : Fld) (x : Nat) : (s.setFld a f x).nextWin = s.nextWin := rfl
@[simp] theorem setFld_icStack (s : State) (a : Nat) (f : Fld) (x : Nat) : (s.setFld a f x).icStack = s.icStack := rfl
@[simp] theorem setFld_icPres (s : State) (a : Nat) (f : Fld) (x : Nat) : (s.setFld a f x).icPres = s.icPres := rfl
@[simp] theorem setFld_nvPosted (s : State) (a : Nat) (f : Fld) (x : Nat) : (s.setFld a f x).nvPosted = s.nvPosted := rfl
@[simp] theorem setFld_hostD3 (s : State) (a : Nat) (f : Fld) (x : Nat) : (s.setFld a f x).hostD3 = s.hostD3 := rfl
@[simp] theorem setFld_hostL2 (s : State) (a : Nat) (f : Fld) (x : Nat) : (s.setFld a f x).hostL2 = s.hostL2 := rfl
@[simp] theorem setFld_drv (s : State) (a : Nat) (f : Fld) (x : Nat) : (s.setFld a f x).drv = s.drv := rfl
@[simp] theorem setFld_grpRise (s : State) (a : Nat) (f : Fld) (x : Nat) : (s.setFld a f x).grpRise = s.grpRise := rfl
@[simp] theorem setFld_senseNow (s : State) (a : Nat) (f : Fld) (x : Nat) : (s.setFld a f x).senseNow = s.senseNow := rfl
@[simp] theorem setFld_tdmIn (s : State) (a : Nat) (f : Fld) (x : Nat) : (s.setFld a f x).tdmIn = s.tdmIn := rfl
@[simp] theorem setFld_tdmOut (s : State) (a : Nat) (f : Fld) (x : Nat) : (s.setFld a f x).tdmOut = s.tdmOut := rfl
@[simp] theorem setFld_tdmClean (s : State) (a : Nat) (f : Fld) (x : Nat) : (s.setFld a f x).tdmClean = s.tdmClean := rfl
@[simp] theorem setFld_tdmSlip (s : State) (a : Nat) (f : Fld) (x : Nat) : (s.setFld a f x).tdmSlip = s.tdmSlip := rfl
@[simp] theorem setFld_ddrCap (s : State) (a : Nat) (f : Fld) (x : Nat) : (s.setFld a f x).ddrCap = s.ddrCap := rfl
@[simp] theorem setFld_net (s : State) (a : Nat) (f : Fld) (x : Nat) : (s.setFld a f x).net = s.net := rfl
@[simp] theorem setFld_flows (s : State) (a : Nat) (f : Fld) (x : Nat) : (s.setFld a f x).flows = s.flows := rfl
@[simp] theorem setFld_streamOut (s : State) (a : Nat) (f : Fld) (x : Nat) : (s.setFld a f x).streamOut = s.streamOut := rfl
@[simp] theorem setFld_store (s : State) (a : Nat) (f : Fld) (x : Nat) : (s.setFld a f x).store = s.store := rfl
@[simp] theorem setFld_an (s : State) (a : Nat) (f : Fld) (x : Nat) : (s.setFld a f x).an = s.an := rfl
@[simp] theorem setFld_sf (s : State) (a : Nat) (f : Fld) (x : Nat) : (s.setFld a f x).sf = s.sf := rfl
@[simp] theorem setFld_qm (s : State) (a : Nat) (f : Fld) (x : Nat) : (s.setFld a f x).qm = s.qm := rfl
@[simp] theorem setFld_dma (s : State) (a : Nat) (f : Fld) (x : Nat) : (s.setFld a f x).dma = s.dma := rfl
@[simp] theorem setFld_dmaLast (s : State) (a : Nat) (f : Fld) (x : Nat) : (s.setFld a f x).dmaLast = s.dmaLast := rfl
@[simp] theorem setFld_cpu (s : State) (a : Nat) (f : Fld) (x : Nat) : (s.setFld a f x).cpu = s.cpu := rfl
@[simp] theorem setFld_ctl (s : State) (a : Nat) (f : Fld) (x : Nat) : (s.setFld a f x).ctl = s.ctl := rfl
@[simp] theorem setFld_bb (s : State) (a : Nat) (f : Fld) (x : Nat) : (s.setFld a f x).bb = s.bb := rfl
@[simp] theorem setFld_phase (s : State) (a : Nat) (f : Fld) (x : Nat) : (s.setFld a f x).phase = s.phase := rfl
@[simp] theorem setFld_rstReq (s : State) (a : Nat) (f : Fld) (x : Nat) : (s.setFld a f x).rstReq = s.rstReq := rfl
@[simp] theorem setFld_otp (s : State) (a : Nat) (f : Fld) (x : Nat) : (s.setFld a f x).otp = s.otp := rfl
@[simp] theorem setFld_sec (s : State) (a : Nat) (f : Fld) (x : Nat) : (s.setFld a f x).sec = s.sec := rfl
@[simp] theorem setFld_dev (s : State) (a : Nat) (f : Fld) (x : Nat) : (s.setFld a f x).dev = s.dev := rfl
@[simp] theorem setFld_fw (s : State) (a : Nat) (f : Fld) (x : Nat) : (s.setFld a f x).fw = s.fw := rfl

@[simp] theorem setByte_pending (s : State) (a : Nat) (b : Byte) : (s.setByte a b).pending = s.pending := rfl
@[simp] theorem setByte_freeCtr (s : State) (a : Nat) (b : Byte) : (s.setByte a b).freeCtr = s.freeCtr := rfl
@[simp] theorem setByte_regs (s : State) (a : Nat) (b : Byte) : (s.setByte a b).regs = s.regs := rfl
@[simp] theorem setByte_captured (s : State) (a : Nat) (b : Byte) : (s.setByte a b).captured = s.captured := rfl
@[simp] theorem setByte_frame (s : State) (a : Nat) (b : Byte) : (s.setByte a b).frame = s.frame := rfl
@[simp] theorem setByte_timeNs (s : State) (a : Nat) (b : Byte) : (s.setByte a b).timeNs = s.timeNs := rfl
@[simp] theorem setByte_sx (s : State) (a : Nat) (b : Byte) : (s.setByte a b).sx = s.sx := rfl
@[simp] theorem setByte_cores (s : State) (a : Nat) (b : Byte) : (s.setByte a b).cores = s.cores := rfl
@[simp] theorem setByte_ecc (s : State) (a : Nat) (b : Byte) : (s.setByte a b).ecc = s.ecc := rfl
@[simp] theorem setByte_spareRow (s : State) (a : Nat) (b : Byte) : (s.setByte a b).spareRow = s.spareRow := rfl
@[simp] theorem setByte_spareCopy (s : State) (a : Nat) (b : Byte) : (s.setByte a b).spareCopy = s.spareCopy := rfl
@[simp] theorem setByte_nextWin (s : State) (a : Nat) (b : Byte) : (s.setByte a b).nextWin = s.nextWin := rfl
@[simp] theorem setByte_icStack (s : State) (a : Nat) (b : Byte) : (s.setByte a b).icStack = s.icStack := rfl
@[simp] theorem setByte_icPres (s : State) (a : Nat) (b : Byte) : (s.setByte a b).icPres = s.icPres := rfl
@[simp] theorem setByte_nvPosted (s : State) (a : Nat) (b : Byte) : (s.setByte a b).nvPosted = s.nvPosted := rfl
@[simp] theorem setByte_hostD3 (s : State) (a : Nat) (b : Byte) : (s.setByte a b).hostD3 = s.hostD3 := rfl
@[simp] theorem setByte_hostL2 (s : State) (a : Nat) (b : Byte) : (s.setByte a b).hostL2 = s.hostL2 := rfl
@[simp] theorem setByte_drv (s : State) (a : Nat) (b : Byte) : (s.setByte a b).drv = s.drv := rfl
@[simp] theorem setByte_grpRise (s : State) (a : Nat) (b : Byte) : (s.setByte a b).grpRise = s.grpRise := rfl
@[simp] theorem setByte_senseNow (s : State) (a : Nat) (b : Byte) : (s.setByte a b).senseNow = s.senseNow := rfl
@[simp] theorem setByte_tdmIn (s : State) (a : Nat) (b : Byte) : (s.setByte a b).tdmIn = s.tdmIn := rfl
@[simp] theorem setByte_tdmOut (s : State) (a : Nat) (b : Byte) : (s.setByte a b).tdmOut = s.tdmOut := rfl
@[simp] theorem setByte_tdmClean (s : State) (a : Nat) (b : Byte) : (s.setByte a b).tdmClean = s.tdmClean := rfl
@[simp] theorem setByte_tdmSlip (s : State) (a : Nat) (b : Byte) : (s.setByte a b).tdmSlip = s.tdmSlip := rfl
@[simp] theorem setByte_ddrCap (s : State) (a : Nat) (b : Byte) : (s.setByte a b).ddrCap = s.ddrCap := rfl
@[simp] theorem setByte_net (s : State) (a : Nat) (b : Byte) : (s.setByte a b).net = s.net := rfl
@[simp] theorem setByte_flows (s : State) (a : Nat) (b : Byte) : (s.setByte a b).flows = s.flows := rfl
@[simp] theorem setByte_streamOut (s : State) (a : Nat) (b : Byte) : (s.setByte a b).streamOut = s.streamOut := rfl
@[simp] theorem setByte_store (s : State) (a : Nat) (b : Byte) : (s.setByte a b).store = s.store := rfl
@[simp] theorem setByte_an (s : State) (a : Nat) (b : Byte) : (s.setByte a b).an = s.an := rfl
@[simp] theorem setByte_sf (s : State) (a : Nat) (b : Byte) : (s.setByte a b).sf = s.sf := rfl
@[simp] theorem setByte_qm (s : State) (a : Nat) (b : Byte) : (s.setByte a b).qm = s.qm := rfl
@[simp] theorem setByte_dma (s : State) (a : Nat) (b : Byte) : (s.setByte a b).dma = s.dma := rfl
@[simp] theorem setByte_dmaLast (s : State) (a : Nat) (b : Byte) : (s.setByte a b).dmaLast = s.dmaLast := rfl
@[simp] theorem setByte_cpu (s : State) (a : Nat) (b : Byte) : (s.setByte a b).cpu = s.cpu := rfl
@[simp] theorem setByte_ctl (s : State) (a : Nat) (b : Byte) : (s.setByte a b).ctl = s.ctl := rfl
@[simp] theorem setByte_bb (s : State) (a : Nat) (b : Byte) : (s.setByte a b).bb = s.bb := rfl
@[simp] theorem setByte_phase (s : State) (a : Nat) (b : Byte) : (s.setByte a b).phase = s.phase := rfl
@[simp] theorem setByte_rstReq (s : State) (a : Nat) (b : Byte) : (s.setByte a b).rstReq = s.rstReq := rfl
@[simp] theorem setByte_otp (s : State) (a : Nat) (b : Byte) : (s.setByte a b).otp = s.otp := rfl
@[simp] theorem setByte_sec (s : State) (a : Nat) (b : Byte) : (s.setByte a b).sec = s.sec := rfl
@[simp] theorem setByte_dev (s : State) (a : Nat) (b : Byte) : (s.setByte a b).dev = s.dev := rfl
@[simp] theorem setByte_fw (s : State) (a : Nat) (b : Byte) : (s.setByte a b).fw = s.fw := rfl

@[simp] theorem setCore_pending (s : State) (n : Nat) (c : Core) : (s.setCore n c).pending = s.pending := rfl
@[simp] theorem setCore_freeCtr (s : State) (n : Nat) (c : Core) : (s.setCore n c).freeCtr = s.freeCtr := rfl
@[simp] theorem setCore_regs (s : State) (n : Nat) (c : Core) : (s.setCore n c).regs = s.regs := rfl
@[simp] theorem setCore_mem (s : State) (n : Nat) (c : Core) : (s.setCore n c).mem = s.mem := rfl
@[simp] theorem setCore_captured (s : State) (n : Nat) (c : Core) : (s.setCore n c).captured = s.captured := rfl
@[simp] theorem setCore_frame (s : State) (n : Nat) (c : Core) : (s.setCore n c).frame = s.frame := rfl
@[simp] theorem setCore_timeNs (s : State) (n : Nat) (c : Core) : (s.setCore n c).timeNs = s.timeNs := rfl
@[simp] theorem setCore_sx (s : State) (n : Nat) (c : Core) : (s.setCore n c).sx = s.sx := rfl
@[simp] theorem setCore_ecc (s : State) (n : Nat) (c : Core) : (s.setCore n c).ecc = s.ecc := rfl
@[simp] theorem setCore_spareRow (s : State) (n : Nat) (c : Core) : (s.setCore n c).spareRow = s.spareRow := rfl
@[simp] theorem setCore_spareCopy (s : State) (n : Nat) (c : Core) : (s.setCore n c).spareCopy = s.spareCopy := rfl
@[simp] theorem setCore_nextWin (s : State) (n : Nat) (c : Core) : (s.setCore n c).nextWin = s.nextWin := rfl
@[simp] theorem setCore_icStack (s : State) (n : Nat) (c : Core) : (s.setCore n c).icStack = s.icStack := rfl
@[simp] theorem setCore_icPres (s : State) (n : Nat) (c : Core) : (s.setCore n c).icPres = s.icPres := rfl
@[simp] theorem setCore_nvPosted (s : State) (n : Nat) (c : Core) : (s.setCore n c).nvPosted = s.nvPosted := rfl
@[simp] theorem setCore_hostD3 (s : State) (n : Nat) (c : Core) : (s.setCore n c).hostD3 = s.hostD3 := rfl
@[simp] theorem setCore_hostL2 (s : State) (n : Nat) (c : Core) : (s.setCore n c).hostL2 = s.hostL2 := rfl
@[simp] theorem setCore_drv (s : State) (n : Nat) (c : Core) : (s.setCore n c).drv = s.drv := rfl
@[simp] theorem setCore_grpRise (s : State) (n : Nat) (c : Core) : (s.setCore n c).grpRise = s.grpRise := rfl
@[simp] theorem setCore_senseNow (s : State) (n : Nat) (c : Core) : (s.setCore n c).senseNow = s.senseNow := rfl
@[simp] theorem setCore_tdmIn (s : State) (n : Nat) (c : Core) : (s.setCore n c).tdmIn = s.tdmIn := rfl
@[simp] theorem setCore_tdmOut (s : State) (n : Nat) (c : Core) : (s.setCore n c).tdmOut = s.tdmOut := rfl
@[simp] theorem setCore_tdmClean (s : State) (n : Nat) (c : Core) : (s.setCore n c).tdmClean = s.tdmClean := rfl
@[simp] theorem setCore_tdmSlip (s : State) (n : Nat) (c : Core) : (s.setCore n c).tdmSlip = s.tdmSlip := rfl
@[simp] theorem setCore_ddrCap (s : State) (n : Nat) (c : Core) : (s.setCore n c).ddrCap = s.ddrCap := rfl
@[simp] theorem setCore_net (s : State) (n : Nat) (c : Core) : (s.setCore n c).net = s.net := rfl
@[simp] theorem setCore_flows (s : State) (n : Nat) (c : Core) : (s.setCore n c).flows = s.flows := rfl
@[simp] theorem setCore_streamOut (s : State) (n : Nat) (c : Core) : (s.setCore n c).streamOut = s.streamOut := rfl
@[simp] theorem setCore_store (s : State) (n : Nat) (c : Core) : (s.setCore n c).store = s.store := rfl
@[simp] theorem setCore_an (s : State) (n : Nat) (c : Core) : (s.setCore n c).an = s.an := rfl
@[simp] theorem setCore_sf (s : State) (n : Nat) (c : Core) : (s.setCore n c).sf = s.sf := rfl
@[simp] theorem setCore_qm (s : State) (n : Nat) (c : Core) : (s.setCore n c).qm = s.qm := rfl
@[simp] theorem setCore_dma (s : State) (n : Nat) (c : Core) : (s.setCore n c).dma = s.dma := rfl
@[simp] theorem setCore_dmaLast (s : State) (n : Nat) (c : Core) : (s.setCore n c).dmaLast = s.dmaLast := rfl
@[simp] theorem setCore_cpu (s : State) (n : Nat) (c : Core) : (s.setCore n c).cpu = s.cpu := rfl
@[simp] theorem setCore_ctl (s : State) (n : Nat) (c : Core) : (s.setCore n c).ctl = s.ctl := rfl
@[simp] theorem setCore_bb (s : State) (n : Nat) (c : Core) : (s.setCore n c).bb = s.bb := rfl
@[simp] theorem setCore_phase (s : State) (n : Nat) (c : Core) : (s.setCore n c).phase = s.phase := rfl
@[simp] theorem setCore_rstReq (s : State) (n : Nat) (c : Core) : (s.setCore n c).rstReq = s.rstReq := rfl
@[simp] theorem setCore_otp (s : State) (n : Nat) (c : Core) : (s.setCore n c).otp = s.otp := rfl
@[simp] theorem setCore_sec (s : State) (n : Nat) (c : Core) : (s.setCore n c).sec = s.sec := rfl
@[simp] theorem setCore_dev (s : State) (n : Nat) (c : Core) : (s.setCore n c).dev = s.dev := rfl
@[simp] theorem setCore_fw (s : State) (n : Nat) (c : Core) : (s.setCore n c).fw = s.fw := rfl

@[simp] theorem freeNext_pending (s : State) : (s.freeNext).pending = s.pending := rfl
@[simp] theorem freeNext_regs (s : State) : (s.freeNext).regs = s.regs := rfl
@[simp] theorem freeNext_mem (s : State) : (s.freeNext).mem = s.mem := rfl
@[simp] theorem freeNext_captured (s : State) : (s.freeNext).captured = s.captured := rfl
@[simp] theorem freeNext_frame (s : State) : (s.freeNext).frame = s.frame := rfl
@[simp] theorem freeNext_timeNs (s : State) : (s.freeNext).timeNs = s.timeNs := rfl
@[simp] theorem freeNext_sx (s : State) : (s.freeNext).sx = s.sx := rfl
@[simp] theorem freeNext_cores (s : State) : (s.freeNext).cores = s.cores := rfl
@[simp] theorem freeNext_ecc (s : State) : (s.freeNext).ecc = s.ecc := rfl
@[simp] theorem freeNext_spareRow (s : State) : (s.freeNext).spareRow = s.spareRow := rfl
@[simp] theorem freeNext_spareCopy (s : State) : (s.freeNext).spareCopy = s.spareCopy := rfl
@[simp] theorem freeNext_nextWin (s : State) : (s.freeNext).nextWin = s.nextWin := rfl
@[simp] theorem freeNext_icStack (s : State) : (s.freeNext).icStack = s.icStack := rfl
@[simp] theorem freeNext_icPres (s : State) : (s.freeNext).icPres = s.icPres := rfl
@[simp] theorem freeNext_nvPosted (s : State) : (s.freeNext).nvPosted = s.nvPosted := rfl
@[simp] theorem freeNext_hostD3 (s : State) : (s.freeNext).hostD3 = s.hostD3 := rfl
@[simp] theorem freeNext_hostL2 (s : State) : (s.freeNext).hostL2 = s.hostL2 := rfl
@[simp] theorem freeNext_drv (s : State) : (s.freeNext).drv = s.drv := rfl
@[simp] theorem freeNext_grpRise (s : State) : (s.freeNext).grpRise = s.grpRise := rfl
@[simp] theorem freeNext_senseNow (s : State) : (s.freeNext).senseNow = s.senseNow := rfl
@[simp] theorem freeNext_tdmIn (s : State) : (s.freeNext).tdmIn = s.tdmIn := rfl
@[simp] theorem freeNext_tdmOut (s : State) : (s.freeNext).tdmOut = s.tdmOut := rfl
@[simp] theorem freeNext_tdmClean (s : State) : (s.freeNext).tdmClean = s.tdmClean := rfl
@[simp] theorem freeNext_tdmSlip (s : State) : (s.freeNext).tdmSlip = s.tdmSlip := rfl
@[simp] theorem freeNext_ddrCap (s : State) : (s.freeNext).ddrCap = s.ddrCap := rfl
@[simp] theorem freeNext_net (s : State) : (s.freeNext).net = s.net := rfl
@[simp] theorem freeNext_flows (s : State) : (s.freeNext).flows = s.flows := rfl
@[simp] theorem freeNext_streamOut (s : State) : (s.freeNext).streamOut = s.streamOut := rfl
@[simp] theorem freeNext_store (s : State) : (s.freeNext).store = s.store := rfl
@[simp] theorem freeNext_an (s : State) : (s.freeNext).an = s.an := rfl
@[simp] theorem freeNext_sf (s : State) : (s.freeNext).sf = s.sf := rfl
@[simp] theorem freeNext_qm (s : State) : (s.freeNext).qm = s.qm := rfl
@[simp] theorem freeNext_dma (s : State) : (s.freeNext).dma = s.dma := rfl
@[simp] theorem freeNext_dmaLast (s : State) : (s.freeNext).dmaLast = s.dmaLast := rfl
@[simp] theorem freeNext_cpu (s : State) : (s.freeNext).cpu = s.cpu := rfl
@[simp] theorem freeNext_ctl (s : State) : (s.freeNext).ctl = s.ctl := rfl
@[simp] theorem freeNext_bb (s : State) : (s.freeNext).bb = s.bb := rfl
@[simp] theorem freeNext_phase (s : State) : (s.freeNext).phase = s.phase := rfl
@[simp] theorem freeNext_rstReq (s : State) : (s.freeNext).rstReq = s.rstReq := rfl
@[simp] theorem freeNext_otp (s : State) : (s.freeNext).otp = s.otp := rfl
@[simp] theorem freeNext_sec (s : State) : (s.freeNext).sec = s.sec := rfl
@[simp] theorem freeNext_dev (s : State) : (s.freeNext).dev = s.dev := rfl
@[simp] theorem freeNext_fw (s : State) : (s.freeNext).fw = s.fw := rfl

@[simp] theorem setProc_pending (s : State) (p : Nat) (c : Cpu) : (s.setProc p c).pending = s.pending := rfl
@[simp] theorem setProc_freeCtr (s : State) (p : Nat) (c : Cpu) : (s.setProc p c).freeCtr = s.freeCtr := rfl
@[simp] theorem setProc_regs (s : State) (p : Nat) (c : Cpu) : (s.setProc p c).regs = s.regs := rfl
@[simp] theorem setProc_mem (s : State) (p : Nat) (c : Cpu) : (s.setProc p c).mem = s.mem := rfl
@[simp] theorem setProc_captured (s : State) (p : Nat) (c : Cpu) : (s.setProc p c).captured = s.captured := rfl
@[simp] theorem setProc_frame (s : State) (p : Nat) (c : Cpu) : (s.setProc p c).frame = s.frame := rfl
@[simp] theorem setProc_timeNs (s : State) (p : Nat) (c : Cpu) : (s.setProc p c).timeNs = s.timeNs := rfl
@[simp] theorem setProc_sx (s : State) (p : Nat) (c : Cpu) : (s.setProc p c).sx = s.sx := rfl
@[simp] theorem setProc_cores (s : State) (p : Nat) (c : Cpu) : (s.setProc p c).cores = s.cores := rfl
@[simp] theorem setProc_ecc (s : State) (p : Nat) (c : Cpu) : (s.setProc p c).ecc = s.ecc := rfl
@[simp] theorem setProc_spareRow (s : State) (p : Nat) (c : Cpu) : (s.setProc p c).spareRow = s.spareRow := rfl
@[simp] theorem setProc_spareCopy (s : State) (p : Nat) (c : Cpu) : (s.setProc p c).spareCopy = s.spareCopy := rfl
@[simp] theorem setProc_nextWin (s : State) (p : Nat) (c : Cpu) : (s.setProc p c).nextWin = s.nextWin := rfl
@[simp] theorem setProc_icStack (s : State) (p : Nat) (c : Cpu) : (s.setProc p c).icStack = s.icStack := rfl
@[simp] theorem setProc_icPres (s : State) (p : Nat) (c : Cpu) : (s.setProc p c).icPres = s.icPres := rfl
@[simp] theorem setProc_nvPosted (s : State) (p : Nat) (c : Cpu) : (s.setProc p c).nvPosted = s.nvPosted := rfl
@[simp] theorem setProc_hostD3 (s : State) (p : Nat) (c : Cpu) : (s.setProc p c).hostD3 = s.hostD3 := rfl
@[simp] theorem setProc_hostL2 (s : State) (p : Nat) (c : Cpu) : (s.setProc p c).hostL2 = s.hostL2 := rfl
@[simp] theorem setProc_drv (s : State) (p : Nat) (c : Cpu) : (s.setProc p c).drv = s.drv := rfl
@[simp] theorem setProc_grpRise (s : State) (p : Nat) (c : Cpu) : (s.setProc p c).grpRise = s.grpRise := rfl
@[simp] theorem setProc_senseNow (s : State) (p : Nat) (c : Cpu) : (s.setProc p c).senseNow = s.senseNow := rfl
@[simp] theorem setProc_tdmIn (s : State) (p : Nat) (c : Cpu) : (s.setProc p c).tdmIn = s.tdmIn := rfl
@[simp] theorem setProc_tdmOut (s : State) (p : Nat) (c : Cpu) : (s.setProc p c).tdmOut = s.tdmOut := rfl
@[simp] theorem setProc_tdmClean (s : State) (p : Nat) (c : Cpu) : (s.setProc p c).tdmClean = s.tdmClean := rfl
@[simp] theorem setProc_tdmSlip (s : State) (p : Nat) (c : Cpu) : (s.setProc p c).tdmSlip = s.tdmSlip := rfl
@[simp] theorem setProc_ddrCap (s : State) (p : Nat) (c : Cpu) : (s.setProc p c).ddrCap = s.ddrCap := rfl
@[simp] theorem setProc_net (s : State) (p : Nat) (c : Cpu) : (s.setProc p c).net = s.net := rfl
@[simp] theorem setProc_flows (s : State) (p : Nat) (c : Cpu) : (s.setProc p c).flows = s.flows := rfl
@[simp] theorem setProc_streamOut (s : State) (p : Nat) (c : Cpu) : (s.setProc p c).streamOut = s.streamOut := rfl
@[simp] theorem setProc_store (s : State) (p : Nat) (c : Cpu) : (s.setProc p c).store = s.store := rfl
@[simp] theorem setProc_an (s : State) (p : Nat) (c : Cpu) : (s.setProc p c).an = s.an := rfl
@[simp] theorem setProc_sf (s : State) (p : Nat) (c : Cpu) : (s.setProc p c).sf = s.sf := rfl
@[simp] theorem setProc_qm (s : State) (p : Nat) (c : Cpu) : (s.setProc p c).qm = s.qm := rfl
@[simp] theorem setProc_dma (s : State) (p : Nat) (c : Cpu) : (s.setProc p c).dma = s.dma := rfl
@[simp] theorem setProc_dmaLast (s : State) (p : Nat) (c : Cpu) : (s.setProc p c).dmaLast = s.dmaLast := rfl
@[simp] theorem setProc_ctl (s : State) (p : Nat) (c : Cpu) : (s.setProc p c).ctl = s.ctl := rfl
@[simp] theorem setProc_bb (s : State) (p : Nat) (c : Cpu) : (s.setProc p c).bb = s.bb := rfl
@[simp] theorem setProc_phase (s : State) (p : Nat) (c : Cpu) : (s.setProc p c).phase = s.phase := rfl
@[simp] theorem setProc_rstReq (s : State) (p : Nat) (c : Cpu) : (s.setProc p c).rstReq = s.rstReq := rfl
@[simp] theorem setProc_otp (s : State) (p : Nat) (c : Cpu) : (s.setProc p c).otp = s.otp := rfl
@[simp] theorem setProc_sec (s : State) (p : Nat) (c : Cpu) : (s.setProc p c).sec = s.sec := rfl
@[simp] theorem setProc_dev (s : State) (p : Nat) (c : Cpu) : (s.setProc p c).dev = s.dev := rfl
@[simp] theorem setProc_fw (s : State) (p : Nat) (c : Cpu) : (s.setProc p c).fw = s.fw := rfl

@[simp] theorem setDrive_pending (s : State) (n : Nat) (d : Drv) : (s.setDrive n d).pending = s.pending := rfl
@[simp] theorem setDrive_freeCtr (s : State) (n : Nat) (d : Drv) : (s.setDrive n d).freeCtr = s.freeCtr := rfl
@[simp] theorem setDrive_regs (s : State) (n : Nat) (d : Drv) : (s.setDrive n d).regs = s.regs := rfl
@[simp] theorem setDrive_mem (s : State) (n : Nat) (d : Drv) : (s.setDrive n d).mem = s.mem := rfl
@[simp] theorem setDrive_captured (s : State) (n : Nat) (d : Drv) : (s.setDrive n d).captured = s.captured := rfl
@[simp] theorem setDrive_frame (s : State) (n : Nat) (d : Drv) : (s.setDrive n d).frame = s.frame := rfl
@[simp] theorem setDrive_timeNs (s : State) (n : Nat) (d : Drv) : (s.setDrive n d).timeNs = s.timeNs := rfl
@[simp] theorem setDrive_sx (s : State) (n : Nat) (d : Drv) : (s.setDrive n d).sx = s.sx := rfl
@[simp] theorem setDrive_cores (s : State) (n : Nat) (d : Drv) : (s.setDrive n d).cores = s.cores := rfl
@[simp] theorem setDrive_ecc (s : State) (n : Nat) (d : Drv) : (s.setDrive n d).ecc = s.ecc := rfl
@[simp] theorem setDrive_spareRow (s : State) (n : Nat) (d : Drv) : (s.setDrive n d).spareRow = s.spareRow := rfl
@[simp] theorem setDrive_spareCopy (s : State) (n : Nat) (d : Drv) : (s.setDrive n d).spareCopy = s.spareCopy := rfl
@[simp] theorem setDrive_nextWin (s : State) (n : Nat) (d : Drv) : (s.setDrive n d).nextWin = s.nextWin := rfl
@[simp] theorem setDrive_icStack (s : State) (n : Nat) (d : Drv) : (s.setDrive n d).icStack = s.icStack := rfl
@[simp] theorem setDrive_icPres (s : State) (n : Nat) (d : Drv) : (s.setDrive n d).icPres = s.icPres := rfl
@[simp] theorem setDrive_nvPosted (s : State) (n : Nat) (d : Drv) : (s.setDrive n d).nvPosted = s.nvPosted := rfl
@[simp] theorem setDrive_hostD3 (s : State) (n : Nat) (d : Drv) : (s.setDrive n d).hostD3 = s.hostD3 := rfl
@[simp] theorem setDrive_hostL2 (s : State) (n : Nat) (d : Drv) : (s.setDrive n d).hostL2 = s.hostL2 := rfl
@[simp] theorem setDrive_grpRise (s : State) (n : Nat) (d : Drv) : (s.setDrive n d).grpRise = s.grpRise := rfl
@[simp] theorem setDrive_senseNow (s : State) (n : Nat) (d : Drv) : (s.setDrive n d).senseNow = s.senseNow := rfl
@[simp] theorem setDrive_tdmIn (s : State) (n : Nat) (d : Drv) : (s.setDrive n d).tdmIn = s.tdmIn := rfl
@[simp] theorem setDrive_tdmOut (s : State) (n : Nat) (d : Drv) : (s.setDrive n d).tdmOut = s.tdmOut := rfl
@[simp] theorem setDrive_tdmClean (s : State) (n : Nat) (d : Drv) : (s.setDrive n d).tdmClean = s.tdmClean := rfl
@[simp] theorem setDrive_tdmSlip (s : State) (n : Nat) (d : Drv) : (s.setDrive n d).tdmSlip = s.tdmSlip := rfl
@[simp] theorem setDrive_ddrCap (s : State) (n : Nat) (d : Drv) : (s.setDrive n d).ddrCap = s.ddrCap := rfl
@[simp] theorem setDrive_net (s : State) (n : Nat) (d : Drv) : (s.setDrive n d).net = s.net := rfl
@[simp] theorem setDrive_flows (s : State) (n : Nat) (d : Drv) : (s.setDrive n d).flows = s.flows := rfl
@[simp] theorem setDrive_streamOut (s : State) (n : Nat) (d : Drv) : (s.setDrive n d).streamOut = s.streamOut := rfl
@[simp] theorem setDrive_store (s : State) (n : Nat) (d : Drv) : (s.setDrive n d).store = s.store := rfl
@[simp] theorem setDrive_an (s : State) (n : Nat) (d : Drv) : (s.setDrive n d).an = s.an := rfl
@[simp] theorem setDrive_sf (s : State) (n : Nat) (d : Drv) : (s.setDrive n d).sf = s.sf := rfl
@[simp] theorem setDrive_qm (s : State) (n : Nat) (d : Drv) : (s.setDrive n d).qm = s.qm := rfl
@[simp] theorem setDrive_dma (s : State) (n : Nat) (d : Drv) : (s.setDrive n d).dma = s.dma := rfl
@[simp] theorem setDrive_dmaLast (s : State) (n : Nat) (d : Drv) : (s.setDrive n d).dmaLast = s.dmaLast := rfl
@[simp] theorem setDrive_cpu (s : State) (n : Nat) (d : Drv) : (s.setDrive n d).cpu = s.cpu := rfl
@[simp] theorem setDrive_ctl (s : State) (n : Nat) (d : Drv) : (s.setDrive n d).ctl = s.ctl := rfl
@[simp] theorem setDrive_bb (s : State) (n : Nat) (d : Drv) : (s.setDrive n d).bb = s.bb := rfl
@[simp] theorem setDrive_phase (s : State) (n : Nat) (d : Drv) : (s.setDrive n d).phase = s.phase := rfl
@[simp] theorem setDrive_rstReq (s : State) (n : Nat) (d : Drv) : (s.setDrive n d).rstReq = s.rstReq := rfl
@[simp] theorem setDrive_otp (s : State) (n : Nat) (d : Drv) : (s.setDrive n d).otp = s.otp := rfl
@[simp] theorem setDrive_sec (s : State) (n : Nat) (d : Drv) : (s.setDrive n d).sec = s.sec := rfl
@[simp] theorem setDrive_dev (s : State) (n : Nat) (d : Drv) : (s.setDrive n d).dev = s.dev := rfl
@[simp] theorem setDrive_fw (s : State) (n : Nat) (d : Drv) : (s.setDrive n d).fw = s.fw := rfl

@[simp] theorem mapDev_dev (s : State) (f : Dev → Dev) : (s.mapDev f).dev = f s.dev := rfl
@[simp] theorem mapDev_regs (s : State) (f : Dev → Dev) : (s.mapDev f).regs = s.regs := rfl
@[simp] theorem mapDev_mem (s : State) (f : Dev → Dev) : (s.mapDev f).mem = s.mem := rfl
@[simp] theorem mapDev_pending (s : State) (f : Dev → Dev) : (s.mapDev f).pending = s.pending := rfl
@[simp] theorem mapNet_net (s : State) (f : Net → Net) : (s.mapNet f).net = f s.net := rfl
@[simp] theorem mapNet_regs (s : State) (f : Net → Net) : (s.mapNet f).regs = s.regs := rfl
@[simp] theorem mapNet_mem (s : State) (f : Net → Net) : (s.mapNet f).mem = s.mem := rfl
@[simp] theorem mapNet_pending (s : State) (f : Net → Net) : (s.mapNet f).pending = s.pending := rfl
@[simp] theorem mapStore_store (s : State) (f : Store → Store) : (s.mapStore f).store = f s.store := rfl
@[simp] theorem mapStore_regs (s : State) (f : Store → Store) : (s.mapStore f).regs = s.regs := rfl
@[simp] theorem mapStore_mem (s : State) (f : Store → Store) : (s.mapStore f).mem = s.mem := rfl
@[simp] theorem mapStore_pending (s : State) (f : Store → Store) : (s.mapStore f).pending = s.pending := rfl
@[simp] theorem mapAn_an (s : State) (f : Anise → Anise) : (s.mapAn f).an = f s.an := rfl
@[simp] theorem mapAn_regs (s : State) (f : Anise → Anise) : (s.mapAn f).regs = s.regs := rfl
@[simp] theorem mapAn_mem (s : State) (f : Anise → Anise) : (s.mapAn f).mem = s.mem := rfl
@[simp] theorem mapAn_pending (s : State) (f : Anise → Anise) : (s.mapAn f).pending = s.pending := rfl
@[simp] theorem mapSf_sf (s : State) (f : Saffron → Saffron) : (s.mapSf f).sf = f s.sf := rfl
@[simp] theorem mapSf_regs (s : State) (f : Saffron → Saffron) : (s.mapSf f).regs = s.regs := rfl
@[simp] theorem mapSf_mem (s : State) (f : Saffron → Saffron) : (s.mapSf f).mem = s.mem := rfl
@[simp] theorem mapSf_pending (s : State) (f : Saffron → Saffron) : (s.mapSf f).pending = s.pending := rfl
@[simp] theorem mapQm_qm (s : State) (f : Qm → Qm) : (s.mapQm f).qm = f s.qm := rfl
@[simp] theorem mapQm_regs (s : State) (f : Qm → Qm) : (s.mapQm f).regs = s.regs := rfl
@[simp] theorem mapQm_mem (s : State) (f : Qm → Qm) : (s.mapQm f).mem = s.mem := rfl
@[simp] theorem mapQm_pending (s : State) (f : Qm → Qm) : (s.mapQm f).pending = s.pending := rfl
@[simp] theorem mapCtl_ctl (s : State) (f : Ctl → Ctl) : (s.mapCtl f).ctl = f s.ctl := rfl
@[simp] theorem mapCtl_regs (s : State) (f : Ctl → Ctl) : (s.mapCtl f).regs = s.regs := rfl
@[simp] theorem mapCtl_mem (s : State) (f : Ctl → Ctl) : (s.mapCtl f).mem = s.mem := rfl
@[simp] theorem mapCtl_pending (s : State) (f : Ctl → Ctl) : (s.mapCtl f).pending = s.pending := rfl
@[simp] theorem mapSec_sec (s : State) (f : Sec → Sec) : (s.mapSec f).sec = f s.sec := rfl
@[simp] theorem mapSec_regs (s : State) (f : Sec → Sec) : (s.mapSec f).regs = s.regs := rfl
@[simp] theorem mapSec_mem (s : State) (f : Sec → Sec) : (s.mapSec f).mem = s.mem := rfl
@[simp] theorem mapSec_pending (s : State) (f : Sec → Sec) : (s.mapSec f).pending = s.pending := rfl
@[simp] theorem mapFw_fw (s : State) (f : Fw → Fw) : (s.mapFw f).fw = f s.fw := rfl
@[simp] theorem mapFw_regs (s : State) (f : Fw → Fw) : (s.mapFw f).regs = s.regs := rfl
@[simp] theorem mapFw_mem (s : State) (f : Fw → Fw) : (s.mapFw f).mem = s.mem := rfl
@[simp] theorem mapFw_pending (s : State) (f : Fw → Fw) : (s.mapFw f).pending = s.pending := rfl

/-! ### Readings -/

@[simp] theorem setByte_reg (s : State) (a : Nat) (b : Byte) (c : Nat) : (s.setByte a b).reg c = s.reg c := rfl
@[simp] theorem setCore_reg (s : State) (n : Nat) (c : Core) (a : Nat) : (s.setCore n c).reg a = s.reg a := rfl
@[simp] theorem freeNext_reg (s : State) (a : Nat) : s.freeNext.reg a = s.reg a := rfl
@[simp] theorem setProc_reg (s : State) (p : Nat) (c : Cpu) (a : Nat) : (s.setProc p c).reg a = s.reg a := rfl
@[simp] theorem setReg_byte (s : State) (a : Nat) (v : Word) (c : Nat) : (s.setReg a v).byte c = s.byte c := rfl
@[simp] theorem setFld_byte (s : State) (a : Nat) (f : Fld) (x c : Nat) : (s.setFld a f x).byte c = s.byte c := rfl

end Sys2Proof.Machine
end

