-- ==== Sys2Proof/Laws/Settle.lean ====
section
/-! SUPPORT. What follows a command (`settled`) does, in one lemma: with no microcode under way it leaves everything
as the command left it but the black box, the watchdogs and the presentations. -/

namespace Sys2Proof.Machine
open R

theorem beside_refl (u : State) : Beside u u := by constructor <;> intros <;> rfl

theorem beside_trans {u v w : State} (h : Beside u v) (k : Beside v w) : Beside u w := by
  have hd : { w.dev with
    devFrozen := u.dev.devFrozen, devKick := u.dev.devKick, cvFrozen := u.dev.cvFrozen, cvKick := u.dev.cvKick,
    msiSent := u.dev.msiSent } = u.dev := by rw [← h.dev, ← k.dev]
  exact ⟨fun a ha => (k.reg a ha).trans (h.reg a ha), fun c hc => (k.byte c hc).trans (h.byte c hc), hd,
    k.captured.trans h.captured, k.frame.trans h.frame, k.timeNs.trans h.timeNs, k.sx.trans h.sx, k.cores.trans h.cores,
    k.ecc.trans h.ecc, k.spareRow.trans h.spareRow, k.spareCopy.trans h.spareCopy, k.nextWin.trans h.nextWin,
    k.icStack.trans h.icStack, k.nvPosted.trans h.nvPosted, k.hostD3.trans h.hostD3, k.hostL2.trans h.hostL2,
    k.drv.trans h.drv, k.grpRise.trans h.grpRise, k.senseNow.trans h.senseNow, k.tdmIn.trans h.tdmIn,
    k.tdmOut.trans h.tdmOut, k.tdmClean.trans h.tdmClean, k.tdmSlip.trans h.tdmSlip, k.ddrCap.trans h.ddrCap,
    k.net.trans h.net, k.flows.trans h.flows, k.streamOut.trans h.streamOut, k.store.trans h.store, k.an.trans h.an,
    k.sf.trans h.sf, k.qm.trans h.qm, k.dma.trans h.dma, k.dmaLast.trans h.dmaLast, k.cpu.trans h.cpu, k.ctl.trans h.ctl,
    k.phase.trans h.phase, k.rstReq.trans h.rstReq, k.otp.trans h.otp, k.sec.trans h.sec, k.fw.trans h.fw⟩

theorem beside_setReg (s : State) (a : Nat) (v : Word) (h : a ∈ afterRegs) : Beside s (s.setReg a v) := by
  refine ⟨fun b hb => reg_setReg_other s a b v (fun e => hb (e ▸ h)), ?_, ?_, ?_, ?_, ?_, ?_, ?_, ?_, ?_, ?_, ?_, ?_, ?_, ?_, ?_,
    ?_, ?_, ?_, ?_, ?_, ?_, ?_, ?_, ?_, ?_, ?_, ?_, ?_, ?_, ?_, ?_, ?_, ?_, ?_, ?_, ?_, ?_, ?_, ?_⟩ <;> intros <;> rfl

theorem beside_setFld (s : State) (a : Nat) (f : Fld) (x : Nat) (h : a ∈ afterRegs) : Beside s (s.setFld a f x) :=
  beside_setReg s a _ h

/-- A record of memory, free counter, presentations, black box and queue alone. -/
theorem beside_of_mem {u v : State} (h : v = { u with
    mem := v.mem, freeCtr := v.freeCtr, icPres := v.icPres, bb := v.bb, pending := v.pending })
    (hb : ∀ c, ¬ afterByte c → v.byte c = u.byte c) : Beside u v := by
  rw [h]
  rw [h] at hb
  refine ⟨?_, hb, ?_, ?_, ?_, ?_, ?_, ?_, ?_, ?_, ?_, ?_, ?_, ?_, ?_, ?_,
    ?_, ?_, ?_, ?_, ?_, ?_, ?_, ?_, ?_, ?_, ?_, ?_, ?_, ?_, ?_, ?_, ?_, ?_, ?_, ?_, ?_, ?_, ?_, ?_⟩ <;> intros <;> rfl

theorem setBytes_rest (l : List Byte) (s : State) (a : Nat) : s.setBytes a l = { s with mem := (s.setBytes a l).mem } := by
  induction l generalizing s a with
  | nil => rfl
  | cons b t ih => rw [State.setBytes, ih]; rfl

theorem beside_setBytes (l : List Byte) (s : State) (a : Nat) (h : ∀ c, a ≤ c → c < a + l.length → afterByte c) :
    Beside s (s.setBytes a l) := by
  refine beside_of_mem (by rw [setBytes_rest]) (fun c hc => byte_setBytes_other l s a c ?_)
  by_contra hn
  push Not at hn
  exact hc (h c hn.1 hn.2)

theorem beside_lose (s : State) : Beside s (bbLose s) := by
  unfold bbLose
  split
  · exact beside_setReg _ _ _ (by simp [afterRegs])
  · exact beside_refl s

theorem beside_bb (s : State) (b : Bb) : Beside s { s with bb := b } := beside_of_mem rfl (fun _ _ => rfl)

theorem beside_bbAfter (code : Nat) (seq : Word) (s : State) : Beside s (bbAfter code seq s) := by
  unfold bbAfter
  split
  · split
    · exact beside_trans (beside_bb s _) (beside_setFld _ _ _ _ (by simp [afterRegs]))
    · exact beside_bb s _
  · split
    · have h : Beside s ((s.setReg BB_TRIG_SEQ seq).setFld BB_STAT BB_STAT_ARMED 0) :=
        beside_trans (beside_setReg _ _ _ (by simp [afterRegs])) (beside_setFld _ _ _ _ (by simp [afterRegs]))
      simp only
      split
      · exact beside_trans h (beside_setFld _ _ _ _ (by simp [afterRegs]))
      · exact beside_trans h (beside_bb _ _)
    · exact beside_refl s

/-- Writing a record touches the black box alone. -/
theorem beside_nutmeg (source code : Nat) (args : List Nat) (s : State) : Beside s (nutmeg source code args s) := by
  unfold nutmeg
  simp only
  split
  · exact beside_trans (beside_lose s) (beside_setReg _ _ _ (by simp [afterRegs]))
  · refine beside_trans (beside_trans (beside_setBytes _ s _ ?_) (beside_setReg _ _ _ (by simp [afterRegs])))
      (beside_bbAfter code _ _)
    intro c h1 h2
    simp only [bbRecord, List.length_append, leBytes_length] at h2
    unfold bbSlot at h1 h2
    unfold afterByte
    omega

theorem beside_fwNote (code : Nat) (s : State) : Beside s (fwNote code s) :=
  beside_trans (beside_of_mem (v := { s with freeCtr := s.freeCtr + 4 }) rfl (fun _ _ => rfl)) (beside_nutmeg _ _ _ _)

theorem beside_fwNoteIf (b : Bool) (code : Nat) (s : State) : Beside s (fwNoteIf b code s) := by
  unfold fwNoteIf
  split
  · exact beside_fwNote code s
  · exact beside_refl s

theorem beside_fwNotes (a b : State) : Beside b (fwNotes a b) := by
  unfold fwNotes
  split
  · exact beside_refl b
  · refine beside_trans ?_ (beside_fwNoteIf _ _ _)
    refine beside_trans ?_ (beside_fwNoteIf _ _ _)
    refine beside_trans ?_ (beside_fwNoteIf _ _ _)
    refine beside_trans ?_ (beside_fwNoteIf _ _ _)
    refine beside_trans ?_ (beside_fwNoteIf _ _ _)
    refine beside_trans ?_ (beside_fwNoteIf _ _ _)
    split
    · exact beside_nutmeg _ _ _ _
    · exact beside_refl b

/-- A change of the watchdogs' kicks and freezes alone. -/
theorem beside_dogs (s : State) (a b : Nat) (c : Option (Bool × Nat)) (d : Option Nat) :
    Beside s (s.mapDev (fun v => { v with devKick := a, cvKick := b, devFrozen := c, cvFrozen := d })) := by
  refine ⟨?_, ?_, ?_, ?_, ?_, ?_, ?_, ?_, ?_, ?_, ?_, ?_, ?_, ?_, ?_, ?_,
    ?_, ?_, ?_, ?_, ?_, ?_, ?_, ?_, ?_, ?_, ?_, ?_, ?_, ?_, ?_, ?_, ?_, ?_, ?_, ?_, ?_, ?_, ?_, ?_⟩ <;> intros <;> rfl

theorem beside_dogSettle (s : State) : Beside s (dogSettle s) := by
  have h1 : Beside s (devDogSettle s) := by
    unfold devDogSettle
    split
    · split
      · exact beside_dogs s s.dev.devKick s.dev.cvKick _ s.dev.cvFrozen
      · exact beside_refl s
    · split
      · exact beside_refl s
      · rename_i e _ _
        have k : Beside s (s.mapDev (fun d => { d with devFrozen := none, devKick := s.timeNs })) :=
          beside_dogs s s.timeNs s.dev.cvKick none s.dev.cvFrozen
        simp only
        split
        · exact beside_trans k (beside_setFld _ _ _ _ (by simp [afterRegs]))
        · exact k
  refine beside_trans h1 ?_
  unfold dogSettle cvDogSettle
  generalize devDogSettle s = t
  split
  · split
    · exact beside_dogs t t.dev.devKick t.dev.cvKick t.dev.devFrozen _
    · exact beside_refl t
  · split
    · exact beside_refl t
    · exact beside_trans (beside_dogs t t.dev.devKick t.timeNs t.dev.devFrozen none) (beside_setFld _ _ _ _ (by simp [afterRegs]))

theorem beside_icSettle (s : State) : Beside s (icSettle s) := beside_of_mem rfl (fun _ _ => rfl)

theorem beside_msixSend (s : State) : Beside s (msixSend s) := by
  unfold msixSend
  split
  · exact beside_refl s
  · split
    · refine ⟨?_, ?_, ?_, ?_, ?_, ?_, ?_, ?_, ?_, ?_, ?_, ?_, ?_, ?_, ?_, ?_,
        ?_, ?_, ?_, ?_, ?_, ?_, ?_, ?_, ?_, ?_, ?_, ?_, ?_, ?_, ?_, ?_, ?_, ?_, ?_, ?_, ?_, ?_, ?_, ?_⟩ <;> intros <;> rfl
    · exact beside_setBytes _ s _ (fun c h1 h2 => by simp only [leBytes_length] at h2; unfold afterByte; omega)

theorem beside_icEnd (s : State) : Beside s (icEnd s) := by
  unfold icEnd hostMsg
  split
  · exact beside_trans (beside_icSettle s) (beside_msixSend _)
  · exact beside_icSettle s

/-- What follows a command, with no microcode under way: nothing beside the black box, the watchdogs and the
presentations changes. -/
theorem beside_settled (a t : State) (h : Quiet t) : Beside t (settled a t) := by
  unfold settled
  rw [h.1]
  have e : endSteps (t.each ([] : List Nat) uPoll) = t := by
    show endSteps t = t
    unfold endSteps
    rw [h.2]
    rfl
  rw [e]
  exact beside_trans (beside_trans (beside_trans (beside_dogSettle t) (beside_fwNotes a _)) (beside_icEnd _))
    (beside_of_mem rfl (fun _ _ => rfl))

/-- The queue stays as the command found it. -/
@[simp] theorem settled_pending (a t : State) : (settled a t).pending = a.pending := rfl

/-! ### Candidates depend on neither presentations nor messages -/

theorem candidate_icPres (s : State) (p : List (Nat × Nat)) (k n : Nat) : candidate { s with icPres := p } k n = candidate s k n := rfl
theorem candidate_mem (s : State) (m : List Host.Cell) (k n : Nat) : candidate { s with mem := m } k n = candidate s k n := rfl
theorem candidate_pending (s : State) (l : List Instr) (k n : Nat) : candidate { s with pending := l } k n = candidate s k n := rfl

end Sys2Proof.Machine
end

