-- ==== Sys2Proof/Tests/Slice0.lean ====
section
/-! SUPPORT. Tests of single steps, with expected values from the spec's own words and tables; terms that the
well-formedness check refuses; and for every statement with hypotheses a concrete state and operands that meet them
(`witness_<statement>`, clause by clause; the digits after the name number its parts). Where a hypothesis rests on a
free value (a signature that verifies, a digest), no term can be evaluated: the comment beside the witness says so. -/

namespace Sys2Proof.Machine
open R

-- One theorem after the other: the kernel's evaluations then need one large stack, not one each.
set_option Elab.async false

/-! ### Helpers -/

/-- The state after reset with all twelve tiles powered. -/
def tOn : State := State.reset.setFld PM_STAT PM_STAT_TILE_ON 0xFFF

/-- `s` with values in fields of registers. -/
def tSet (s : State) (l : List (Nat × Fld × Nat)) : State := l.foldl (fun s e => s.setFld e.1 e.2.1 e.2.2) s

/-- A state in which firmware serves. -/
def tFw : State := { tSet State.reset [(CV_STAT, ⟨0, 3⟩, 1), (BT_STAT, BT_STAT_RUN, 1)] with phase := 2 }

/-- Core 0 changed by `f`, its tile powered. -/
def tCore (f : Core → Core) : State := tOn.setCore 0 (f Core.reset)

/-- The state that a command leads to, when it goes on. -/
def tNext (o : Host.Outcome State Fault Refusal) : State :=
  match o with
  | .next t => t
  | _ => State.reset

/-- `GoodDdr` as a value that can be evaluated. -/
def tGood (s : State) (a n : Nat) : Bool :=
  have : Decidable (GoodDdr s a n) := by unfold GoodDdr; infer_instance
  decide (GoodDdr s a n)

theorem tGood_iff (s : State) (a n : Nat) : tGood s a n = true ↔ GoodDdr s a n := by simp only [tGood, decide_eq_true_eq]

/-! ### Well-formedness -/

theorem test_wf_agents_refused :
    Instr.wellFormed (.swapReq (.sumac 12 0)) = false ∧ Instr.wellFormed (.swapReq (.sumac 0 8)) = false ∧
    Instr.wellFormed (.runStart (.tileDma 12)) = false ∧ Instr.wellFormed (.runStop (.core 48)) = false := by decide

theorem test_wf_offsets_refused :
    Instr.wellFormed (.shadowMapWrite .clove 0x3A000 0) = false ∧ Instr.wellFormed (.shadowMapWrite .clove 2 0) = false ∧
    Instr.wellFormed (.programMemoryLoad .clove 0 false 2 0) = false ∧
    Instr.wellFormed (.sumacMemoryWrite 0 0x1FFE 0) = false ∧ Instr.wellFormed (.rcRead .dap 2) = false ∧
    Instr.wellFormed (.registerWrite .clove 0x2000000001 0) = false := by decide

theorem test_wf_frames_refused :
    Instr.wellFormed (.ddSourceForget (2 ^ 48)) = false ∧ Instr.wellFormed (.remoteFrame (2 ^ 48) []) = false ∧
    Instr.wellFormed (.remoteFrame 0 (List.replicate 1501 0)) = false ∧ Instr.wellFormed (.spiTransaction []) = false ∧
    Instr.wellFormed (.frameTick ⟨[(128, 0)], [], []⟩) = false ∧ Instr.wellFormed (.frameTick ⟨[], [(128, 0)], []⟩) = false ∧
    Instr.wellFormed (.frameTick ⟨[], [], [⟨8192, 0, 0, false⟩]⟩) = false ∧ Instr.wellFormed (.frameTick ⟨[], [], [⟨0, 3, 0, false⟩]⟩) = false ∧
    Instr.wellFormed (.frameReceive 0 ⟨64, true, 0, 0, some 65536, 0, .supervision⟩) = false ∧
    Instr.wellFormed (.frameReceive 0 ⟨64, true, 0, 0, none, 8, .supervision⟩) = false ∧
    Instr.wellFormed (.frameReceive 0 ⟨64, true, 0, 0, none, 0, .announce 256 0 0⟩) = false ∧
    Instr.wellFormed (.frameReceive 0 ⟨64, true, 0, 0, none, 0, .avtp ⟨0, false, false, 1, 48000, 2, 24, 0, 0, [1]⟩⟩) = false ∧
    Instr.wellFormed (.frameReceive 0 ⟨64, true, 0, 0, none, 0, .rtp ⟨2 ^ 32, 0, 0, 0, 0, true, true, []⟩⟩) = false := by
  decide +kernel

theorem test_wf_channels_refused :
    Instr.wellFormed (.arm 0 16) = false ∧ Instr.wellFormed (.go 11 16) = false ∧ Instr.wellFormed (.dmaStop 0 16) = false ∧
    Instr.wellFormed (.dmaReset 0 16) = false ∧ Instr.wellFormed (.append 0 16) = false ∧
    Instr.wellFormed (.dmaDescriptorFetchDone 0 16) = false ∧ Instr.wellFormed (.dmaTimeout 0 16) = false ∧
    Instr.wellFormed (.descriptorComplete 0 16) = false ∧ Instr.wellFormed (.dmaBurst 12 [0]) = false ∧
    Instr.wellFormed (.dmaBurst 12 [64]) = false ∧ Instr.wellFormed (.bootStart true [2]) = false := by decide

theorem test_wf_accepted :
    Instr.wellFormed (.swapReq (.sumac 11 7)) = true ∧ Instr.wellFormed (.shadowMapWrite .clove 0x39FFC 0) = true ∧
    Instr.wellFormed (.arm 12 63) = true ∧ Instr.wellFormed (.arm 11 15) = true ∧ Instr.wellFormed (.dmaBurst 12 [1, 63]) = true ∧
    Instr.wellFormed (.remoteFrame (2 ^ 48 - 1) [0]) = true := by decide

/-! ### The block -/

/-- The queue is served first in first out: the request in front is carried out, the cancellation behind it waits. -/
theorem test_step_takes_the_front :
    let t := tNext (step { State.reset with pending := [.swapReq .clove, .swapCancel .clove false] })
    t.pending = [.swapCancel .clove false] ∧ t.fld SX_MAP_STAT SX_MAP_STAT_SWAP_PEND = 1 := by decide +kernel

theorem witness_StepRunsTheFrontCommand : State.reset.pending = [] ∧ step State.reset = .next State.reset := ⟨rfl, rfl⟩

theorem witness_EveryStepPresentsOnlyCandidates :
    let s : State := { State.reset with icPres := [(48, 1023)] }
    PresentedAreCandidates s ∧ step s = .next s := by
  refine ⟨?_, rfl⟩
  unfold PresentedAreCandidates
  decide +kernel

theorem witness_FieldWriteFollowsAccessType :
    (⟨0, 1, .w1c⟩ : FieldRow).lo + 1 ≤ 32 ∧ (⟨31, 1, .ro⟩ : FieldRow).lo + 1 ≤ 32 ∧ (⟨0, 32, .rw⟩ : FieldRow).lo + 32 ≤ 32 ∧ 31 < 32 := by
  decide

/-! ### The Sample Exchange -/

theorem witness_OtherWritersOnlySetExchangeWriterError :
    sxWriter .host = false ∧ sxWriter (.sumac 0 0) = false ∧ sxWriter (.core 47) = false := by decide

/-- The states of the exchange that the witnesses use: copying, running with a swap pending, and a port that has been late 3 times. -/
def tSx (l : List (Nat × Fld × Nat)) : State := tSet State.reset l

theorem witness_SwapRequestsAndShadowCopyComplete :
    sxWriter .clove = true ∧ sxWriter .dap = true ∧
    (tSx [(SX_MAP_STAT, SX_MAP_STAT_COPYING, 1)]).fld SX_MAP_STAT SX_MAP_STAT_COPYING = 1 := by decide +kernel

theorem witness_ShadowMapWriteReadsBack :
    sxWriter .clove = true ∧ State.reset.fld SX_MAP_STAT SX_MAP_STAT_COPYING = 0 ∧
    (tSx [(SX_MAP_STAT, SX_MAP_STAT_COPYING, 1)]).fld SX_MAP_STAT SX_MAP_STAT_COPYING = 1 ∧
    (0x17FFC % 4 = 0 ∧ inShadow 0x17FFC = true) ∧ (0x20000 % 4 = 0 ∧ inShadow 0x20000 = true ∧ (consOf 0).isSome = true) ∧
    (inShadow 0x39FFC = true ∧ consOf ((0x39FFC - 0x20000) / 4) = none) ∧ 0x10000 % 4 = 0 ∧ 0x10000 ≠ 0x17FFC := by
  decide +kernel

theorem witness_ExchangeConfigurationAndRunCommandsComplete :
    sxWriter .clove = true ∧ State.reset.fld SX_MAP_STAT SX_MAP_STAT_COPYING = 0 ∧
    (tSx [(SX_MAP_STAT, SX_MAP_STAT_COPYING, 1)]).fld SX_MAP_STAT SX_MAP_STAT_COPYING = 1 ∧
    (tSx [(SX_STAT, SX_STAT_RUNNING, 1)]).fld SX_STAT SX_STAT_RUNNING = 1 ∧
    (tSx [(SX_STAT, SX_STAT_STARTING, 1)]).fld SX_STAT SX_STAT_STARTING = 1 ∧ State.reset.fld SX_STAT SX_STAT_STARTING = 0 ∧
    State.reset.fld SX_CTL SX_CTL_RUN = 0 ∧ State.reset.fld SX_STAT SX_STAT_RUNNING = 0 := by decide +kernel

theorem witness_PortAndPlaneCommandsComplete :
    let s := tSx [(SX_CTL, SX_CTL_LATE_LIMIT, 15), (SX_TP_t_STAT 11, SX_TP_t_STAT_LATE_RUN, 15)]
    sxWriter .dap = true ∧ s.fld SX_CTL SX_CTL_LATE_LIMIT ≠ 0 ∧
    s.fld SX_CTL SX_CTL_LATE_LIMIT ≤ s.fld (SX_TP_t_STAT 11) SX_TP_t_STAT_LATE_RUN ∧
    ({ s with sx := { s.sx with holdEnd := 1 } } : State).sx.holdEnd ≤ s.frame + 1 := by decide +kernel

theorem witness_FrameAndBlockTicksAdvance :
    State.reset.sx.blockDue = false ∧
    (let s : State := { State.reset with sx := { Sx.reset with blockDue := true }, fw := { Fw.reset with archDone := true } }
     s.sx.blockDue = true ∧ s.fw.jobs = [] ∧ s.fw.stops = [] ∧ s.fw.sched.entries = [] ∧ s.fw.archDone = true) := by decide +kernel

theorem witness_MapSwapTakesTheShadow :
    (let s := tSx [(SX_CTL, SX_CTL_RUN, 1), (SX_STAT, SX_STAT_RUNNING, 1), (SX_MAP_STAT, SX_MAP_STAT_SWAP_PEND, 1)]
     s.fld SX_CTL SX_CTL_RUN = 1 ∧ s.fld SX_STAT SX_STAT_RUNNING = 1 ∧ s.fld SX_MAP_STAT SX_MAP_STAT_SWAP_PEND = 1) ∧
    (let s := tSx [(SX_CTL, SX_CTL_RUN, 1)]
     s.fld SX_CTL SX_CTL_RUN = 1 ∧ s.fld SX_STAT SX_STAT_RUNNING = 0) := by decide +kernel

/-- Slot 0 naming channel 0 of port 11, whose active count is 0, fails (R22, R27); so does a receive count of 1,025 (R30). -/
theorem witness_MapSwapRecordsLowestFailure :
    (let s : State := { State.reset with sx := { Sx.reset with prodShadow := [(8191, 0x800B0000#32)] } }
     s.fld SX_ERR SX_ERR_MAP_RANGE = 0 ∧ (countFails s ++ mapFails ((List.range 12).foldl takeCounts s)).head? = some 0x17FFC) ∧
    (let s := tSx [(SX_TP_t_CFG 11, SX_TP_t_CFG_RXCH, 1025)]
     s.fld SX_ERR SX_ERR_MAP_RANGE = 0 ∧ (countFails s ++ mapFails ((List.range 12).foldl takeCounts s)).head? = some 0x1B0) ∧
    countFails State.reset ++ mapFails ((List.range 12).foldl takeCounts State.reset) = [] ∧
    (tSx [(SX_ERR, SX_ERR_MAP_RANGE, 1)]).fld SX_ERR SX_ERR_MAP_RANGE = 1 := by decide +kernel

theorem witness_DeliveredWordFollowsParity :
    State.reset.fld SX_PLANE_CTL SX_PLANE_CTL_COMPARE_EN = 1 ∧
    delivered State.reset { a := 1, b := 2, latch := 1, parA := false, parB := false } = 1 ∧
    delivered State.reset { a := 1, b := 2, latch := 1, parA := true, parB := false } = 2 ∧
    delivered State.reset { a := 1, b := 2, latch := 1, parA := false, parB := true } = 1 ∧
    delivered State.reset { a := 1, b := 2, latch := 1, parA := true, parB := true } = 0 := by decide +kernel

theorem witness_PortCheckAtBlockTick :
    activeTx State.reset 11 = 0 ∧
    (tSx [(SX_TP_t_STAT 11, SX_TP_t_STAT_FAILED, 1)]).fld (SX_TP_t_STAT 11) SX_TP_t_STAT_FAILED = 1 ∧
    (let s := tSx [(SX_TP_t_ACFG 11, SX_TP_t_ACFG_TXCH, 1024), (SX_TP_t_STAT 11, SX_TP_t_STAT_TXRDY, 1)]
     s.fld (SX_TP_t_STAT 11) SX_TP_t_STAT_FAILED = 0 ∧ activeTx s 11 ≠ 0 ∧ s.fld (SX_TP_t_STAT 11) SX_TP_t_STAT_TXRDY = 1) ∧
    (let s := tSx [(SX_TP_t_ACFG 0, SX_TP_t_ACFG_TXCH, 1)]
     s.fld (SX_TP_t_STAT 0) SX_TP_t_STAT_FAILED = 0 ∧ activeTx s 0 ≠ 0 ∧ s.fld (SX_TP_t_STAT 0) SX_TP_t_STAT_TXRDY = 0) := by
  decide +kernel

/-- R5: F is the whole part of t · fs: frame 3 at 48 kHz begins at 62,500 ns, and 1 ns earlier F is 2. -/
theorem test_frame_times :
    timeOfFrame 48000 3 = 62500 ∧ frameAt 48000 62500 = 3 ∧ frameAt 48000 62499 = 2 ∧ frameAt 96000 62500 = 6 := by decide +kernel

/-! ### Signal cores -/

theorem test_worked_frame_and_block :
    frameAt 48000 86400012500000 = 4147200600 ∧ 4147200600 / blockN State.reset = 259200037 ∧ 259200038 * blockN State.reset = 4147200608 := by
  decide +kernel

/-- The bundle of the FIR filter that chapter 03 assembles as f3. -/
theorem test_decode_bundle_f3 :
    decodeBundle [0x1C400000, 0x1A441100, 0x20000400, 0x20808500, 0, 0, 0, 0] = .ok
      { ls0 := some ⟨1, 6, 1, 0, 0, 0, 0, 0⟩, ls1 := some ⟨1, 5, 1, 4, 1, 1, 0, 0⟩,
        ma0 := some ⟨.macw, false, false, 0, 0, 4, 0⟩, ma1 := some ⟨.macw, false, false, 8, 2, 5, 0⟩,
        al0 := none, al1 := none, fp := none, ct := .nop, window := false } := rfl

/-- Bundles f8 and m3 and the control syllable of f4, as chapter 03 assembles them; and a syllable of CLS 4, which is not listed (R88). -/
theorem test_decode_syllables :
    (decodeMac 0 0x62020000 = some (some ⟨.ext, true, false, 0, 8, 0, 0⟩)) ∧ decodeCt 0x24000002 = some (.repeatN 3) ∧
    decodeAlu 0 0x5C14021E = some (some ⟨.maxx, false, false, 20, 2, 30, 0x21E⟩) ∧
    decodeAlu 1 0x051E1E01 = some (some ⟨.add, false, true, 30, 30, 1, 0x1E01⟩) ∧ decodeLs 0x40000000 = none := by decide +kernel

/-- R91: B = 0x80_1000, L = 40, K = 12: a pointer at 0x80_1024 moves to 0x80_1008. -/
theorem test_circular_update :
    lsUpdate { Core.reset with r := [(0x40, 0x801024), (0x80, 0x801000), (0x81, 40), (0x82, 12)] } ⟨1, 4, 2, 0, 0, 2, 0, 0⟩
      = some 0x801008 := by decide +kernel

/-- R92: the 8-point walk with K = 16 goes from 0x80_0410 to 0x80_0408, and from 0x80_041C back to 0x80_0400. -/
theorem test_bit_reversed_update :
    lsUpdate { Core.reset with r := [(0x45, 0x800410), (0x85, 16)] } ⟨1, 4, 3, 0, 5, 5, 0, 0⟩ = some 0x800408 ∧
    lsUpdate { Core.reset with r := [(0x45, 0x80041C), (0x85, 16)] } ⟨1, 4, 3, 0, 5, 5, 0, 0⟩ = some 0x800400 := by decide +kernel

/-- R103: −2³¹ · :s stays at the limit, with OV. -/
theorem test_saturating_sum :
    aluValue .add true 0x7FFFFFFF 1 0 0 = (0x7FFFFFFF, fOV) ∧ aluValue .add false 0x7FFFFFFF 1 0 0 = (0x80000000, fOV) ∧
    aluValue .div false 7 0 0 0 = (0x7FFFFFFF, fDZ) := by decide +kernel

theorem witness_CoreCommandsComplete :
    (coreOn tOn 47 = true ∧ (tOn.core 47).st = 0) ∧ ((tCore ({ · with st := 2 })).core 0).st = 2 ∧
    ((tCore ({ · with st := 5 })).core 0).st = 5 ∧ coreOn (tCore ({ · with st := 1 })) 0 = true ∧
    ((tCore ({ · with st := 1 })).core 0).st = 1 ∧ ((tCore ({ · with st := 1 })).core 0).haltWait = 0 := by decide +kernel

/-- R468: CORE_RESET with START, CORE_RESET alone, two of the others, each alone, none. -/
theorem witness_CoreControlWriteOrdersItsCommands :
    let f := fun (v : Word) => (bits v.toNat 2 1, bits v.toNat 0 1, bits v.toNat 1 1, bits v.toNat 4 1)
    f 5 = (1, 1, 0, 0) ∧ f 4 = (1, 0, 0, 0) ∧ f 3 = (0, 1, 1, 0) ∧ f 0x13 = (0, 1, 1, 1) ∧ f 1 = (0, 1, 0, 0) ∧ f 2 = (0, 0, 1, 0) ∧
    f 0x10 = (0, 0, 0, 1) ∧ f 0 = (0, 0, 0, 0) := by decide +kernel

theorem witness_GapsEndInTheirStates :
    ((tCore ({ · with st := 2, gap := .entry 4095 3 })).core 0).gap = .entry 4095 3 ∧
    ((tCore ({ · with st := 2, gap := .halt 0 })).core 0).gap = .halt 0 ∧
    ((tCore ({ · with st := 2, gap := .fault 0xB 1 17 0x400002 })).core 0).gap = .fault 0xB 1 17 0x400002 ∧
    (let c := (tCore ({ · with st := 2, gap := .reti })).core 0
     c.gap = .reti ∧ c.flight = [] ∧ bits (c.ctl crISTAT) 2 1 = 0) := by decide +kernel

/-- Core 0 about to issue, as bundle 17, the bundle that holds ADD P0, P0, K2 of f4 alone in AL0. -/
def tIssue : State :=
  (tCore ({ · with st := 2, pc := 17, r := [(0x40, 1024), (0x82, 0xFFFFFC04)] })).setNum (localBase 0 + 0x900000 + 544 + 16) 4 0x04404082

def tAdd : AluOp := ⟨.add, false, false, 0x40, 0x40, 0x82, 0x4082⟩

theorem witness_IntegerBundleIssuesItsResults :
    let s := tIssue
    let c := s.core 0
    (mayIssue s 0 = true ∧ c.freezeReq = false ∧ c.haltReq = false ∧ c.breakDue = false ∧ c.flight = [] ∧ c.stores = [] ∧
    c.hold = [] ∧ c.pc < 4096 ∧ c.repLeft = 0 ∧ c.br = none ∧ c.sfld sLoopact = 0 ∧ holdsLock s 0 = false ∧
    (fetchMarks s 0 c.pc) = [0, 0, 0, 0] ∧ ∀ k : Fin 4, s.flag (DBG_SC_n_BP_k 0 k) DBG_SC_n_BP_k_EN = false) ∧
    decodeBundle (fetchBundle s 0 c.pc) = .ok
      { ls0 := none, ls1 := none, ma0 := none, ma1 := none, al0 := some tAdd, al1 := none, fp := none, ct := .nop, window := false } := by
  refine ⟨?_, rfl⟩
  decide +kernel

/-- Chapter 02: K2 = −1,020 takes P0 from 1,024 to 4, one issue cycle after the add. -/
theorem test_pointer_add_lands :
    let t := tNext (exec (.bundleIssue 0) tIssue)
    let u := tNext (exec (.bundleIssue 0) t)
    (t.core 0).pc = 18 ∧ (t.core 0).p 0 = 1024 ∧ (u.core 0).p 0 = 4 ∧ (u.core 0).pc = 19 := by decide +kernel

theorem witness_DueResultLandsInItsRegister :
    let f := mkFlight 0 4 0 (res 1 0x3F 7)
    let s := tCore ({ · with st := 2, cyc := f.due, flight := [f] })
    coreOn s 0 = true ∧ (s.core 0).st = 2 ∧ (s.core 0).stores = [] ∧ (s.core 0).flight = [f] ∧ f.due ≤ (s.core 0).cyc ∧
    f.dest < 0x40 ∧ f.sflags = 0 ∧ f.fflags = 0 ∧ f.bad = false := by decide +kernel

theorem witness_IntegerSumsWrapOrSaturate : 0xFFFFFFFF < 2 ^ 32 ∧ 0x80000000 < 2 ^ 32 := by decide

theorem witness_QuotientAndRemainderBelongTogether :
    (0x80000000 < 2 ^ 32 ∧ 1 < 2 ^ 32 ∧ 1 ≠ 0 ∧ (0x80000000 ≠ 0x80000000 ∨ 1 ≠ 0xFFFFFFFF)) ∧ (0 : Nat) = 0 := by decide

theorem witness_AccumulatorWrapsOrClamps :
    ((-2 : Int) ^ 39 ≤ 2 ^ 39 - 1 ∧ (2 : Int) ^ 39 - 1 ≤ 2 ^ 39 - 1) ∧ (2 : Int) ^ 39 - 1 < 2 ^ 39 ∧ (-2 ^ 39 - 1 : Int) < -2 ^ 39 := by decide

theorem witness_ConditionalStoreNeedsTheLock : decodeLs 0x38000020 = some (some ⟨3, 4, 0, 0, 0, 0, 1, 0⟩) := by decide +kernel

theorem witness_HeldAccessesAndLocksComplete_1 :
    let h : HeldAccess := { slot := 0, write := true, addr := 0xF1FFFC, size := 4, data := [1, 2, 3, 4], dest := 0, signed := false, iss := 0, pc := 0 }
    let s := tCore ({ · with st := 2, hold := [h] })
    coreOn s 0 = true ∧ (s.core 0).hold = [h] ∧ h.write = true ∧ regionOf 0 h.addr = .tx ∧ (halfAddr s 0 h.addr).isSome = true := by
  decide +kernel

theorem witness_HeldAccessesAndLocksComplete_2 :
    let s := takeLock 3 (tOn.setCore 3 { Core.reset with st := 2, breakDue := true })
    coreOn s 3 = true ∧ (s.core 3).breakDue = true ∧ holdsLock s 3 = true := by decide +kernel

/-- CT operation 0x18 is LOCK (R113). -/
theorem witness_HeldAccessesAndLocksComplete_3 :
    let s := (tCore ({ · with st := 2, pc := 4095, waitLock := true })).setNum (localBase 0 + 0x900000 + 32 * 4095 + 28) 4 0x60000000
    let c := s.core 0
    (coreOn s 0 = true ∧ c.waitLock = true ∧ c.st = 2 ∧ lockHeld s 0 = false ∧ c.pc < 4096 ∧ c.stepping = false ∧ c.br = none ∧
    c.haltReq = false ∧ c.repLeft = 0 ∧ c.sfld sLoopact = 0 ∧ fetchMarks s 0 c.pc = [0, 0, 0, 0] ∧
    (∀ k : Fin 4, s.flag (DBG_SC_n_BP_k 0 k) DBG_SC_n_BP_k_EN = false)) ∧ decodeBundle (fetchBundle s 0 c.pc) = .ok
      { ls0 := none, ls1 := none, ma0 := none, ma1 := none, al0 := none, al1 := none, fp := none, ct := .lock, window := false } := by
  refine ⟨?_, rfl⟩
  decide +kernel

theorem witness_ProgramLoadNeedsAStoppedCore :
    coreOn tOn 47 = true ∧ 131068 % 4 = 0 ∧ (tOn.core 47).st = 0 ∧ ((tCore ({ · with st := 7 })).core 0).st = 7 ∧
    ((tCore ({ · with st := 3 })).core 0).st = 3 := by decide +kernel

/-! ### Tile memory -/

/-- The worked address of chapter 04: TL_3_BK_5_OWNER is at 0x10_03C1_0240. -/
theorem test_owner_register_address : TL_t_BK_b_OWNER 3 5 = 0x1003C10240 := by decide +kernel

theorem witness_OwnerWritesAndHandoversComplete :
    ownerBusy State.reset 11 7 = false ∧ 8 ≤ bits (15 : Word).toNat 0 4 ∧ bits (0 : Word).toNat 0 4 < 8 ∧
    bits (0 : Word).toNat 0 4 ≠ ownerCur State.reset 11 7 ∧
    bits (BitVec.ofNat 32 (ownerCur State.reset 0 0)).toNat 0 4 = ownerCur State.reset 0 0 ∧
    ownerBusy (tSet State.reset [(TL_t_BK_b_OWNER 11 7, TL_t_BK_b_OWNER_BUSY, 1)]) 11 7 = true ∧
    Agent.host ≠ .clove ∧ Agent.host ≠ .dap := by decide +kernel

theorem witness_UnownedAccessIsRefusedAndCounted :
    ownerServes State.reset 11 7 8 = false ∧ ownerServes State.reset 0 0 0 = false ∧ 0x7FFFF < 0x80000 ∧
    State.reset.fld (TL_t_VIOL 11) TL_t_VIOL_VALID = 0 ∧
    (tSet State.reset [(TL_t_VIOL 11, TL_t_VIOL_VALID, 1)]).fld (TL_t_VIOL 11) TL_t_VIOL_VALID = 1 := by decide +kernel

theorem witness_BankWriteReadsBack : 0x7FFFC + [(1 : Byte), 2, 3, 4].length ≤ bankSize 7 ∧ 0xFFFF + 1 ≤ bankSize 8 := by decide +kernel

theorem witness_SpareRowAndTestCommandsComplete_1 :
    remapBusy (tSet State.reset [(bkRemap 11 8 3, TL_t_BK_b_REMAP_k_BUSY, 1)]) 11 8 3 = true ∧
    (remapBusy State.reset 0 8 0 = false ∧ bits (0x103F : Word).toNat 0 9 < 64 ∧ bits (0x103F : Word).toNat 12 1 = 1 ∧
      ∀ j : Fin 4, j ≠ 0 → remapEn State.reset 0 8 j = true → remapRow State.reset 0 8 j ≠ 63) ∧
    (let s : State := { State.reset with spareCopy := [(spareKey 11 8 3, 1)] }
     tget 0 s.spareCopy (spareKey 11 8 3) = 1 ∧ windowOpen s 11 8 = false) ∧
    (let s : State := { tSet State.reset [(bkRemap 11 8 3, TL_t_BK_b_REMAP_k_EN, 1)] with spareCopy := [(spareKey 11 8 3, 2)] }
     tget 0 s.spareCopy (spareKey 11 8 3) = 2 ∧ remapEn s 11 8 3 = true ∧ mappedRow s 11 8 3 = 0) := by decide +kernel

theorem witness_SpareRowAndTestCommandsComplete_2 :
    (bits (State.reset.fld (TL_t_BKT_CTL 11) TL_t_BKT_CTL_EN) 8 1 = 1 ∧ windowOpen State.reset 11 8 = false ∧
      copyPending State.reset 11 8 = false) ∧
    windowOpen (tSet State.reset [(bkTest 11 8, TL_t_BK_b_TEST_ACTIVE, 1)]) 11 8 = true ∧ bits (1 : Word).toNat 0 16 < 2 ∧
    2 ≤ bits (2 : Word).toNat 0 16 := by decide +kernel

/-! ### Drive, sense and TDM -/

/-- The worked line of chapter 05: 20 V over 0.1 A of FS 200 V and 4 A is 200 Ω: 200 × 4,096. -/
theorem test_impedance_of_worked_line :
    let s := (State.reset.setReg (DRV_n_VSCALE 12) 0x43480000#32).setReg (DRV_n_ISCALE 12) 0x40800000#32
    (impedance s 12 160000 10000).1 = 0x000C8000 := by decide +kernel

theorem witness_GroupFaultAndEnableLossComplete :
    (tSet State.reset [(DRV_GRP_g_CTL 7, DRV_GRP_g_CTL_FLT_IN, 1)]).fld (DRV_GRP_g_CTL 7) DRV_GRP_g_CTL_FLT_IN = 1 ∧
    State.reset.fld (DRV_GRP_g_CTL 7) DRV_GRP_g_CTL_FLT_IN = 0 ∧
    (let s := tSet State.reset [(DRV_GRP_g_CTL 7, DRV_GRP_g_CTL_EN_OUT, 1)]
     s.fld (DRV_GRP_g_CTL 7) DRV_GRP_g_CTL_EN_OUT = 1 ∧ groupWanted s 7 = false) := by decide +kernel

theorem witness_DriveChannelCommandsComplete :
    drvLive (setDrvState State.reset 63 2) 63 = true ∧ drvLive State.reset 63 = false ∧
    (let s := tSet State.reset [(DRV_n_STAT 63, DRV_n_STAT_OPEN_CNT, 4)]
     s.fld (DRV_n_STAT 63) DRV_n_STAT_OPEN_CNT = 4 ∧ s.fld (DRV_n_CTL 63) DRV_n_CTL_OPEN_OFF = 0) ∧
    (let s := tSet State.reset [(DRV_n_STAT 63, DRV_n_STAT_OPEN_CNT, 4), (DRV_n_CTL 63, DRV_n_CTL_OPEN_OFF, 1)]
     s.fld (DRV_n_STAT 63) DRV_n_STAT_OPEN_CNT = 4 ∧ s.fld (DRV_n_CTL 63) DRV_n_CTL_OPEN_OFF = 1) ∧
    drvState (setDrvState State.reset 63 4) 63 = 4 ∧ drvState (setDrvState State.reset 63 5) 63 = 5 ∧
    drvState State.reset 63 = 0 ∧ drvState (setDrvState State.reset 0 1) 0 ≠ 0 ∧
    (let s : State := { setDrvState State.reset 63 3 with drv := [(63, { Drv.reset with calFrames := 4096, sumV := -268435456, sumI := 0 })] }
     drvState s 63 = 3 ∧ (s.drive 63).calFrames = 4096 ∧ (s.drive 63).sumV % 268435456 = 0 ∧ (s.drive 63).sumI % 268435456 = 0) ∧
    64 ≤ (({ State.reset with drv := [(63, { Drv.reset with errCnt := 64 })] } : State).drive 63).errCnt := by decide +kernel

theorem witness_SenseLoopAndEstimateCommandsComplete :
    (drvLive (setDrvState State.reset 63 1) 63 = true ∧ (setDrvState State.reset 63 1).fld (DRV_n_CTL 63) DRV_n_CTL_LOOP_EN = 0) ∧
    scaleOk ((State.reset.setReg (DRV_n_VSCALE 0) 0).reg (DRV_n_VSCALE 0)).toNat = none ∧
    (let s := ((State.reset.setReg (DRV_n_VSCALE 0) 0x3F800000#32).setReg (DRV_n_ISCALE 0) 0x3F800000#32).setFld (DRV_n_VMIN 0) DRV_n_VMIN_VMIN 0
     s.fld (DRV_n_VMIN 0) DRV_n_VMIN_VMIN = 0 ∧ (scaleOk (s.reg (DRV_n_VSCALE 0)).toNat).isSome = true ∧
      (scaleOk (s.reg (DRV_n_ISCALE 0)).toNat).isSome = true) ∧
    senseOn (tSet State.reset [(SNS_n_CFG 127, SNS_n_CFG_EN, 1), (SNS_CLK_g_CFG 7, SNS_CLK_g_CFG_EN, 1)]) 127 = true ∧
    (let s := tSet State.reset [(TDM_p_CTL 7, TDM_p_CTL_EN, 1)]
     tdmOn s 7 = true ∧ s.fld (TDM_p_CTL 7) TDM_p_CTL_MASTER = 0) ∧
    (let s : State := { tSet State.reset [(TDM_p_CTL 7, TDM_p_CTL_EN, 1)] with tdmClean := [(7, 16)] }
     tdmOn s 7 = true ∧ 16 ≤ tget 0 s.tdmClean 7) := by decide +kernel

/-- The three rows of the statement beside the case in which nothing changes. -/
theorem test_channel_at_block_tick :
    drvState (drvEnter (setDrvState State.reset 0 1) 0) 0 = 0 ∧
    drvState (drvEnter (tSet (setDrvState State.reset 0 1) [(DRV_n_CTL 0, DRV_n_CTL_ENABLE, 1)]) 0) 0 = 2 ∧
    drvState (drvEnter (setDrvState State.reset 0 4) 0) 0 = 4 := by decide +kernel

/-! ### Network and streams -/

/-- Every port at 25 Gb/s. -/
def tPorts : State := tSet State.reset ((List.range 4).map (fun p => (NET_PORT_p_CFG p, NET_PORT_p_CFG_RATE, 0)))

theorem witness_NetworkCommandsComplete_1 :
    portRate tPorts 3 ≠ 3 ∧
    (tSet State.reset [(NET_PORT_p_STAT 3, NET_PORT_p_STAT_LINK, 1)]).fld (NET_PORT_p_STAT 3) NET_PORT_p_STAT_LINK = 1 ∧
    ringEn (tSet State.reset [(NET_CTL, NET_CTL_RING_B_EN, 1)]) 1 = true ∧ anyRing (tSet State.reset [(NET_CTL, NET_CTL_RING_A_EN, 1)]) = true ∧
    (3 * rateMbps tPorts 3 < 4 * (bits (65535 : Word).toNat 0 16 + tPorts.fld (NET_PORT_p_CBS_B 3) NET_PORT_p_CBS_B_SLOPE)) ∧
    (4 * (bits (0 : Word).toNat 0 16 + tPorts.fld (NET_PORT_p_CBS_B 3) NET_PORT_p_CBS_B_SLOPE) ≤ 3 * rateMbps tPorts 3) ∧
    bits (0xFFFFFFFC : Word).toNat 0 2 = 0 := by decide +kernel

theorem witness_NetworkCommandsComplete_2 :
    (let s := tSet State.reset [(NET_PORT_p_GCL_CTL 3, NET_PORT_p_GCL_CTL_SWAP_REQ, 1)]
     s.fld (NET_PORT_p_GCL_CTL 3) NET_PORT_p_GCL_CTL_SWAP_REQ = 1 ∧ s.fld (NET_PORT_p_GCL_CTL 3) NET_PORT_p_GCL_CTL_LEN = 0) ∧
    (let s := (tSet State.reset [(NET_PORT_p_GCL_CTL 3, NET_PORT_p_GCL_CTL_SWAP_REQ, 1), (NET_PORT_p_GCL_CTL 3, NET_PORT_p_GCL_CTL_LEN, 64)]).setReg
        (NET_PORT_p_GCL_CYC 3) 1000
     1 ≤ s.fld (NET_PORT_p_GCL_CTL 3) NET_PORT_p_GCL_CTL_LEN ∧ s.fld (NET_PORT_p_GCL_CTL 3) NET_PORT_p_GCL_CTL_LEN ≤ 64 ∧
      1000 ≤ (s.reg (NET_PORT_p_GCL_CYC 3)).toNat) ∧
    (let s : State := { State.reset with net := { Net.reset with gcl := [(3, { len := 2, cyc := 1000, idx := 0, pos := 0 })] } }
     let g := tget Gcl.reset s.net.gcl 3
     g.idx + 1 < g.len ∧ g.pos + gateLen s 3 g g.idx g.pos < g.cyc) := by decide +kernel

theorem witness_OriginatedFramesGoOutAsFourCopies :
    let s := tSet { tPorts with net := { Net.reset with hubEligible := true } } ([(NET_CTL, NET_CTL_RING_A_EN, 1),
      (NET_CTL, NET_CTL_RING_B_EN, 1), (NET_CTL, NET_CTL_PRP_EN, 1)] ++ (List.range 4).map (fun p => (NET_PORT_p_STAT p, NET_PORT_p_STAT_LINK, 1)))
    s.net.hubEligible = true ∧ prpEn s = true ∧ ringEn s 0 = true ∧ ringEn s 1 = true ∧
    ∀ p : Fin 4, linkUp s p = true ∧ s.fld (NET_PORT_p_GCL_CTL p) NET_PORT_p_GCL_CTL_EN = 0 := by decide +kernel

/-- A port with its link up, on ring A enabled; a frame of another device with sequence number 7, seen on ring B. -/
def tNet : State :=
  { tSet tPorts [(NET_PORT_p_STAT 1, NET_PORT_p_STAT_LINK, 1), (NET_CTL, NET_CTL_RING_A_EN, 1)] with
    net := { Net.reset with dd := [(5, { top := 7, seen := [(7, 2)] })],
                            fwd := [⟨1, 0, ⟨1528, true, 0x010000000000, 5, some 8, 6, .other 0⟩⟩] } }

def tFrame : EthFrame := ⟨1528, true, 0x010000000000, 5, some 7, 6, .other 0⟩

theorem witness_ReceivedFramesAreCountedOrDiscarded :
    linkUp tNet 1 = true ∧ 1528 < 1529 ∧ (tFrame.len ≤ 1528 ∧ tFrame.fcsOk = true ∧ ringEn tNet (ringOf 1) = true ∧
      tFrame.src ≠ ownMac tNet ∧ isMulticast tFrame.dst = true ∧ tFrame.seq = some 7 ∧
      (tNet.net.dd.find? (fun e => e.1 = tFrame.src)).map (fun e => seenOn e.2 7) = some 2) ∧
    ({ tFrame with src := ownMac tNet } : EthFrame).src = ownMac tNet ∧
    (tNet.net.fwd.map (·.port) = [1] ∧ gateOpen tNet 1 6 1528 = true) := by decide +kernel

/-- Context 3,071 as a transmit context of one channel in effect, with P = 8 and the samples of frames 16 to 23 at frame 32. -/
def tFlow : State :=
  { tSet { State.reset with frame := 32 } [(FL_f_CTL 3071, FL_f_CTL_EN, 1), (FL_f_CTL 3071, FL_f_CTL_DIR, 1), (FL_f_CTL 3071, FL_f_CTL_P, 8),
      (FL_f_CH 3071, FL_f_CH_CHN, 1)] with
    flows := [(3071, { Flow.reset with on := true, tx := (List.range 8).map (fun i => (16 + i, [5])) })] }

theorem witness_FlowCommandsComplete :
    (flEn State.reset 3071 = false ∧ flActive State.reset 3071 = false ∧
      (State.reset.reg (FL_f_CTL 3071)).toNat = (State.reset.reg (FL_f_CTL 3071) &&& 0x007F071F#32).toNat ∧ State.reset.reg FL_ERR = 0) ∧
    (tFlow.flow 3071).on = true ∧ flEn tFlow 3071 = true ∧
    (flTx tFlow 3071 = true ∧ launchFrame tFlow 3071 = some 16 ∧ (txSamples tFlow 3071 16).isSome = true ∧
      (tFlow.flow 3071).launched ≠ some 16) := by decide +kernel

/-- R170: a context with CHN 0 is out of range; with 32 channels, P = 8 and OFS = 96 it is in range and nothing else is wrong. -/
theorem test_flow_checks :
    rangeBad State.reset 120 = true ∧
    (let s := tSet State.reset [(FL_f_CTL 120, FL_f_CTL_DIR, 1), (FL_f_CTL 120, FL_f_CTL_P, 8), (FL_f_CH 120, FL_f_CH_CHN, 32), (FL_f_OFS 120, FL_f_OFS_OFS, 96)]
     rangeBad s 120 = false ∧ overlapBad s 120 = false ∧ idDupBad s 120 = false ∧ jbBad s 120 = false) := by decide +kernel

/-- The worked stream of chapter 06: F0 = 4,147,200,608 and OFS = 96 give the timestamp 0x922E_CBAA, and frame 4,147,200,704 back. -/
theorem test_worked_timestamp :
    (match txBody (tSet State.reset [(FL_f_OFS 120, FL_f_OFS_OFS, 96)]) 120 4147200608 0 [] with
      | .avtp p => p.ts
      | _ => 0) = 0x922ECBAA ∧
    avtpFrame { State.reset with timeNs := 86400013000000 } 300 0x922ECBAA = 4147200704 := by decide +kernel

theorem witness_AvtpTimestampRecoversPresentationFrame :
    let s : State := { State.reset with timeNs := 86400013000000 }
    let t := 4147200704 * 1000000000 / fsHz s
    t < s.timeNs + 2 ^ 31 ∧ s.timeNs < t + 2 ^ 31 := by decide +kernel

/-- Two hubs with different addresses; a standby; an eligible device with no role. -/
theorem witness_HubRolesResolve :
    let hub : State := { State.reset with net := { Net.reset with hubRole := 2, hubEpoch := 3 } }
    let u := hub.setReg NET_MAC_LO 1
    hub.net.hubRole = 2 ∧ u.net.hubRole = 2 ∧ ownMac hub ≠ ownMac u ∧
    ({ State.reset with net := { Net.reset with hubRole := 1 } } : State).net.hubRole = 1 ∧
    (let e : State := { State.reset with net := { Net.reset with hubEligible := true } }
     e.net.hubEligible = true ∧ e.net.hubRole ≠ 2) := by decide +kernel

/-! ### Anise, Saffron, message store -/

/-- 16,384 MiB of DDR5 and windows as after reset, MODE 1. -/
def tAn : State := tSet State.reset [(AN_CTL, AN_CTL_MODE, 1)]

theorem witness_AnalyzerCommandsComplete_1 :
    (2 < 3 ∧ (3 : Nat) = 3) ∧ anBusy (tSet State.reset [(AN_RUN_STAT, AN_RUN_STAT_RUNNING, 1)]) = true ∧
    (anBusy tAn = false ∧ anMode tAn ≠ 0 ∧ codeDup tAn = false ∧ anMemBad tAn = false ∧ winBad tAn = false) ∧
    (anBusy State.reset = false ∧ anMode State.reset = 0) ∧
    codeDup (tSet tAn [(AN_DRV_n_CFG 0, AN_DRV_n_CFG_EN, 1), (AN_DRV_n_CFG 63, AN_DRV_n_CFG_EN, 1), (AN_DRV_n_CFG 0, AN_DRV_n_CFG_CODE, 7),
      (AN_DRV_n_CFG 63, AN_DRV_n_CFG_CODE, 7)]) = true ∧
    anMemBad (tSet tAn [(AN_MEM_HI, AN_MEM_HI_ADDR, 15)]) = true ∧ winBad (tSet tAn [(AN_WIN_S, AN_WIN_S_LAG_END, 0), (AN_WIN_S, AN_WIN_S_LAG_START, 1)]) = true := by
  decide +kernel

/-- A run of one period that began at frame 131,071. -/
def tRun : AnRun :=
  { num := 1, first := 131071, periods := 1, drvs := [0], sns := [], mics := [], lmic := [], codes := [], mem := 0, notDriven := [], ovl := [],
    clip := [], quiet := false, modeChg := false, truncated := false, refcap := false, acc := [] }

theorem witness_AnalyzerCommandsComplete_2 :
    (let s : State := { tSet tAn [(AN_RUN_STAT, AN_RUN_STAT_WAITING, 1)] with frame := 131071, an := { Anise.reset with startAt := 126975 } }
     s.fld AN_RUN_STAT AN_RUN_STAT_WAITING = 1 ∧ s.frame % 131071 = 0 ∧ s.an.startAt + 4096 ≤ s.frame) ∧
    (let s : State := { tAn with frame := 262142, an := { Anise.reset with run := some tRun } }
     s.an.run = some tRun ∧ s.frame % 131071 = 0 ∧ tRun.first < s.frame ∧ (s.frame - tRun.first) / 131071 = tRun.periods ∧
      s.fld AN_RUN_CTL AN_RUN_CTL_CONT = 0) ∧
    ({ tAn with an := { Anise.reset with proc := some tRun } } : State).an.proc.isSome = true := by decide +kernel

/-- Chapter 07: at frame 4,147,200,600 the next boundary is 4,147,217,511, and the 16th after it 4,149,314,647. -/
theorem test_worked_run_boundaries :
    4147200600 % 131071 = 114160 ∧ 4147217511 % 131071 = 0 ∧ 4147217511 + 16 * 131071 = 4149314647 ∧
    (let s : State := { tSet tAn [(AN_RUN_STAT, AN_RUN_STAT_WAITING, 1)] with frame := 4147217511, an := { Anise.reset with startAt := 4147200600 } }
     (tNext (exec .anRunBegin s)).an.run.isSome = true ∧ (tNext (exec .anRunBegin s)).fld AN_RUN_STAT AN_RUN_STAT_RUNNING = 1) := by decide +kernel

theorem witness_AnalyzerCommandsComplete_3 :
    (let s := tSet State.reset [(SF_MEM_HI, SF_MEM_HI_ADDR, 15)]
     s.fld SF_CTL SF_CTL_EN = 0 ∧ ddrLimit s < sfMem s + 0x100000) ∧
    sfMem State.reset + 0x100000 ≤ ddrLimit State.reset ∧ State.reset.fld SF_CTL SF_CTL_LIM_LOCK = 0 ∧
    (tSet State.reset [(SF_CTL, SF_CTL_LIM_LOCK, 1)]).fld SF_CTL SF_CTL_LIM_LOCK = 1 ∧
    (let s : State := { tSet State.reset [(SF_CTL, SF_CTL_EN, 1)] with frame := 12000 }
     s.frame % (fsHz s / 4) = 0 ∧ s.fld SF_CTL SF_CTL_EN = 1) ∧
    (let s : State := { State.reset with sf := { Saffron.reset with pend := some 12000 } }
     s.sf.pend = some 12000 ∧ s.fw.sfLoop = false) ∧
    ((tSet State.reset [(SF_Z_z_LIM 255, SF_Z_z_LIM_SLEW, 0)]).fld (SF_Z_z_LIM 255) SF_Z_z_LIM_SLEW : Int) = 0 ∧
    ((tSet State.reset [(SF_Z_z_LIM 255, SF_Z_z_LIM_SLEW, 1)]).fld (SF_Z_z_LIM 255) SF_Z_z_LIM_SLEW : Int) ≠ 0 := by decide +kernel

/-- Chapter 08: at F = 4,147,200,600 and 48 kHz the next update is at frame 4,147,212,000. -/
theorem test_worked_update :
    let s : State := { tSet State.reset [(SF_CTL, SF_CTL_EN, 1)] with frame := 4147212000 }
    (tNext (exec .sfUpdate s)).sf.pend = some 4147212000 ∧ (tNext (exec .sfUpdate { s with frame := 4147200600 })).sf.pend = none := by
  decide +kernel

/-- A segment write that waits for both drives, for one drive, or for two completions of each. -/
def tOp (a b : Nat) : State :=
  { State.reset with store := { Store.reset with ops := [⟨132, { Seg.free with count := 1 }, 0, none, a, b⟩] } }

theorem witness_StoreCommandsComplete_1 :
    (tOp 1 0).store.ops.map (fun o => (o.stream, o.leftA, o.leftB)) = [(none, 1, 0)] ∧
    (tOp 0 1).store.ops.map (fun o => (o.stream, o.leftA, o.leftB)) = [(none, 0, 1)] ∧
    (tOp 2 2).store.ops.map (fun o => (o.leftA, o.leftB)) = [(2, 2)] ∧
    (State.reset.store.retry = none ∧ inMirror (setMirror State.reset true true) (1 - 0) = true) ∧
    ({ State.reset with store := { Store.reset with retry := some 0 } } : State).store.retry = some (1 - 1) ∧
    inMirror (setMirror State.reset true false) 0 = true ∧ inMirror (setMirror State.reset true false) 1 = false ∧
    (tSet State.reset [(MS_STAT, MS_STAT_RESYNC, 1), (MS_STAT, MS_STAT_MIRROR, 1)]).fld MS_STAT MS_STAT_RESYNC = 1 := by decide +kernel

/-- Recording stream 255 with a full filling half, its other half written or not; segment 132 free for it. -/
def tRec (other : Option Nat) (m : Nat) : State :=
  { tSet State.reset [(MS_REC_s_CFG 255, MS_REC_s_CFG_RING, 2), (MS_STAT, MS_STAT_MIRROR, m)] with
    store := { Store.reset with total := 134, recs := [(255, { pos := 348160, first := 0, other := other, lost := 0 })] } }

theorem witness_StoreCommandsComplete_2 :
    (State.reset.recOf 255).pos < 348160 ∧ (348160 ≤ ((tRec (some 0) 0).recOf 255).pos ∧ ((tRec (some 0) 0).recOf 255).other.isSome = true) ∧
    (348160 ≤ ((tRec none 0).recOf 255).pos ∧ ((tRec none 0).recOf 255).other = none ∧ (tRec none 0).fld MS_STAT MS_STAT_MIRROR ≠ 3 ∧
      recSegment (tRec none 0) 255 = some 132) ∧
    (tRec none 3).fld MS_STAT MS_STAT_MIRROR = 3 := by decide +kernel

/-- Player channel 255 armed for two plays of two 24-bit samples from frame 100 on, ten frames apart. -/
def tPlay (F : Nat) : State :=
  { (tSet State.reset [(MS_CTL, MS_CTL_PLAY_EN, 1), (MS_PL_c_CTL 255, MS_PL_c_CTL_EN, 1), (MS_PL_c_SAMPLES 255, MS_PL_c_SAMPLES_SAMPLES, 2)]).setBytes
      0x1003 [0x56, 0x34, 0x12] with
    frame := F, store := { Store.reset with plCfg := [(255, { start := 100, period := 10, repeats := 2, buf := 0x1000 })] } }

theorem witness_PlayerCarriesTheLatestPlay :
    let s := tPlay 111
    let k := plCfg s 255
    (plArmed s 255 = true ∧ k.start + 1 * k.period ≤ s.frame ∧ k.period ≠ 0 ∧ (k.repeats ≠ 0 ∧ 1 < k.repeats) ∧ 1 + 1 = k.repeats) ∧
    (0 < plSamples s 255 ∧ s.frame - (k.start + 1 * k.period) ≤ (plSamples s 255 - 1) * plStep s 255) ∧
    (plSamples (tPlay 112) 255 - 1) * plStep (tPlay 112) 255 < (tPlay 112).frame - (k.start + 1 * k.period) ∧
    (1 < plSamples s 255 ∧ s.frame - (k.start + 1 * k.period) = 1 * plStep s 255 ∧ tget 0 s.store.plDead 255 ≠ 1 + 1 ∧ imageBad s 255 = false ∧
      (ddrRead s (k.buf + 1 * plBytes s 255) (plBytes s 255)).ecc = false) := by decide +kernel

/-- R232: a 24-bit sample is left-justified in Q1.31. -/
theorem test_player_sample : (playSample (tPlay 111) 255 111).1 = 0x12345600#32 := by decide +kernel

/-- A schedule copy without entries. -/
def tCopy : Sched := { epoch := 7, version := 43, issued := 9, entries := [] }

theorem witness_ScheduleReceiveAdoptsOnlyNewerCopies :
    (fwUp tFw = true ∧ minimal tFw = false) ∧ schedOf [] = none ∧ schedOf (schedBytes tCopy) = some tCopy ∧
    tFw.fw.sched.epoch < tCopy.epoch ∧ (tSet tFw [(MS_EMER_SIZE, MS_EMER_SIZE_MIB, 0)]).fld MS_EMER_SIZE MS_EMER_SIZE_MIB = 0 ∧
    (let s : State := { tFw with fw := { Fw.reset with sched := { tCopy with version := 43 } } }
     tCopy.epoch = s.fw.sched.epoch ∧ tCopy.version ≤ s.fw.sched.version) := by decide +kernel

/-! ### Queue manager -/

/-- The queue manager enabled over a pool of 2²⁴ elements of which `free` are free, with queues 19,269 (of Sumac cluster 3) and 19,270 in its
cache. -/
def tQm (d : Desc) (free : Nat) : State :=
  { tSet State.reset [(QM_CTL, QM_CTL_EN, 1), (QM_POOL_SIZE, QM_POOL_SIZE_ELEMS, 16777216), (QM_FREE_CNT, QM_FREE_CNT_COUNT, free)] with
    qm := { Qm.reset with cache := [(19269, d), (19270, { d with count := 0 })], freeHead := 0x041A2C } }

def tDesc (n : Nat) : Desc := { head := 7, tail := 7, count := n, owner := 0x13, pin := false, limit := 0, dirty := false, age := 0 }

/-- A change of a link address, an owner that the agent is, counts of 1 and of 2, a pool with 0, 1 and 2²⁴ − 1 free elements. -/
theorem witness_QueueOperationsComplete :
    (let s := tQm (tDesc 1) 1
     let a := descOf s 19269
     (s.fld QM_CTL QM_CTL_EN = 1 ∧ s.fld QM_STAT QM_STAT_DESC_BUSY = 0 ∧ s.fld QM_STAT QM_STAT_POOL_BUSY = 0 ∧ s.qm.waiting = [] ∧
       (cachedDesc s 19269).isSome = true ∧ (cachedDesc s 19270).isSome = true) ∧
     a.owner ≠ 0xFF ∧ Agent.sumac 3 0 ≠ .dap ∧ qmOwns (.sumac 3 0) a.owner = true ∧ 0xFFFFFF < poolSize s ∧ overLimit a 1 = false ∧
     overLimit a 0 = false ∧ overLimit (descOf s 19270) 1 = false ∧ a.count = 1 ∧ freeCount s = 1 ∧ (19269 : Nat) ≠ 19270 ∧
     (descOf s 19270).owner ≠ 0xFF ∧ overLimit (descOf s 19270) a.count = false ∧ freeCount s + a.count ≤ 2 ^ 24) ∧
    (let s := tQm (tDesc 2) 2
     (descOf s 19269).count = 2 ∧ (readLink s 7).2.1 = false ∧ placeOf s (linkAddr s 7) 4 = .ddr ∧ freeCount s = 2 ∧
       (readLink s s.qm.freeHead).2.1 = false) ∧
    freeCount (tQm (tDesc 0) 0xFFFFFF) < 2 ^ 24 ∧ (descOf (tQm (tDesc 0) 0) 19269).count = 0 := by decide +kernel

/-- Chapter 10: ALLOC gives 0x8004_1A2C, ENQT takes COUNT from 0 to 1, and DEQ by cluster 3 gives 0x8004_1A2C back. -/
theorem test_worked_queue :
    let t := tNext (exec (.enqt .clove 19269 0x041A2C) (tQm (tDesc 0) 1))
    qmResult .clove (tNext (exec (.alloc .clove) (tQm (tDesc 0) 1))) = 0x80041A2C ∧ (descOf t 19269).count = 1 ∧
    qmResult (.sumac 3 0) (tNext (exec (.deq (.sumac 3 0) 19269) t)) = 0x80041A2C := by decide +kernel

theorem witness_QueueChecksStopAtTheFirst :
    (descOf (tQm { tDesc 0 with owner := 0xFF } 0) 19269).owner = 0xFF ∧ qmOwns (.sumac 4 0) (descOf (tQm (tDesc 0) 0) 19269).owner = false ∧
    poolSize (tSet (tQm (tDesc 0) 0) [(QM_POOL_SIZE, QM_POOL_SIZE_ELEMS, 1024)]) ≤ 1024 ∧ overLimit { tDesc 3 with limit := 3 } 1 = true ∧
    (tQm (tDesc 0) 0).reg QM_ERR = 0 ∧ (tSet (tQm (tDesc 0) 0) [(QM_ERR, QM_ERR_BUSY, 1)]).reg QM_ERR ≠ 0 ∧
    State.reset.fld QM_CTL QM_CTL_EN = 0 ∧ qmWrites 9 = true ∧ cachedDesc (tQm (tDesc 0) 0) 0 = none ∧
    (let w : QmWait := { ag := .clove, op := 2, q := 5, data := 0 }
     qmQueues w.op w.q w.data = [5]) := by decide +kernel

theorem witness_QueueConfigurationCommandsComplete :
    State.reset.fld QM_CTL QM_CTL_EN = 0 ∧ (tQm (tDesc 0) 0).fld QM_CTL QM_CTL_EN = 1 ∧
    (tSet State.reset [(QM_STAT, QM_STAT_DESC_BUSY, 1)]).fld QM_STAT QM_STAT_DESC_BUSY = 1 ∧
    (tSet State.reset [(QM_STAT, QM_STAT_POOL_BUSY, 1)]).fld QM_STAT QM_STAT_POOL_BUSY = 1 ∧
    (tSet State.reset [(QM_STAT, QM_STAT_WB_BUSY, 1)]).fld QM_STAT QM_STAT_WB_BUSY = 1 ∧ Agent.core 0 ≠ .clove ∧ Agent.core 0 ≠ .dap ∧
    (let s := tSet (tQm (tDesc 0) 0) [(QM_QSEL, QM_QSEL_Q, 19269)]
     (cachedDesc s (qmSel s)).isSome = true ∧ validOwner 0x1C = false ∧ validOwner 0xFF = true ∧ pinnedOthers s (qmSel s) = 0) ∧
    (let s : State := { State.reset with qm := { Qm.reset with cache := [(0, tDesc 0), (2048, { tDesc 0 with pin := true }), (4096, { tDesc 0 with pin := true })] } }
     (cachedDesc s (qmSel s)).isSome = true ∧ 2 ≤ pinnedOthers s (qmSel s)) ∧
    (let s := tSet (tQm (tDesc 1) 0) [(QM_W_w_CFG 4095, QM_W_w_CFG_EN, 1), (QM_W_w_CFG 4095, QM_W_w_CFG_QUEUE, 19269)]
     watchLevel { s with qm := { s.qm with nonEmpty := [(19269, true)] } } 4095 = true) := by decide +kernel

/-! ### DMA engines -/

def tDma (e c st : Nat) : State := setDmaState e c st State.reset

/-- Channel 63 of the trunk with a descriptor of one word from 0x1000 to 0x2000, `more` words after it in the chain or none. -/
def tMove (moved : Nat) (eoc : Bool) : State :=
  { tDma 12 63 2 with dma := [(64 * 12 + 63,
      { DmaCh.reset with w := [0x1000, 0x300, 0x2000, 0x300, 1, if eoc then 0x01000000 else 0, 0x40, 0], moved := moved })] }

theorem witness_DmaControlCommandsComplete :
    63 < dmaChannels 12 ∧ 15 < dmaChannels 11 ∧
    (∀ st : Fin 7, dmaState (tDma 12 63 st) 12 63 = st ∧ dmaState (tDma 0 15 st) 0 15 = st) ∧
    (let s := tSet (tDma 12 63 4) [(dmaNextHi 12 63, DMA_t_CH_c_NEXT_HI_VALID, 1), (dmaCurHi 12 63, DMA_t_CH_c_CUR_HI_MEM, 1)]
     s.fld (dmaNextHi 12 63) DMA_t_CH_c_NEXT_HI_VALID = 1 ∧ curMem s 12 63 = true) ∧
    (tDma 12 63 0).fld (dmaNextHi 12 63) DMA_t_CH_c_NEXT_HI_VALID = 0 ∧ curMem (tDma 12 63 4) 12 63 = false ∧
    (let s := tSet (setDmaState 12 63 5 (tMove 1 true)) [(dmaStat 12 63, DMA_t_CH_c_STAT_APP_PEND, 1), (dmaCurHi 12 63, DMA_t_CH_c_CUR_HI_MEM, 1)]
     dmaState s 12 63 = 5 ∧ (s.dmaOf 12 63).stop = false ∧ dEoc (s.dmaOf 12 63) = true ∧
      s.fld (dmaStat 12 63) DMA_t_CH_c_STAT_APP_PEND = 1 ∧ curMem s 12 63 = true) ∧
    (let s := tSet (setDmaState 12 63 5 (tMove 1 true)) [(dmaCtl 12 63, DMA_t_CH_c_CTL_ARM, 1)]
     dEoc (s.dmaOf 12 63) = true ∧ s.fld (dmaStat 12 63) DMA_t_CH_c_STAT_APP_PEND = 0 ∧ s.fld (dmaCtl 12 63) DMA_t_CH_c_CTL_ARM = 1) ∧
    dEoc ((tMove 1 false).dmaOf 12 63) = false := by decide +kernel

/-- Words 0 to 7 of the worked descriptor of chapter 11: gather of 64 32-bit elements into packed 24-bit words. -/
theorem test_worked_descriptor :
    let d : DmaCh := { DmaCh.reset with w := [0x03F00000, 0x00002310, 0x03100000, 0x00000210, 0x00000040, 0x03400100, 0, 0] }
    dSrc d = 0x1003F00000 ∧ dSw d = 3 ∧ dSmode d = 2 ∧ dDst d = 0x1003100000 ∧ dDw d = 2 ∧ dDmode d = 0 ∧ dCount d = 64 ∧
    dIdx d = 0x400100 ∧ dEoc d = true ∧ dInt d = true ∧ dJust d = 0 ∧ descBad 3 d = false := by decide +kernel

theorem witness_DmaFetchesAndBurstsMoveData :
    (let s : State := { tDma 12 63 1 with dma := [(64 * 12 + 63, { DmaCh.reset with fetch := 0xFE0 })] }
     63 < dmaChannels 12 ∧ dmaState s 12 63 = 1 ∧ (s.dmaOf 12 63).reread = false ∧ (s.dmaOf 12 63).fetch % 32 = 0 ∧
     (0xFE0 + 32 ≤ 0x1000000000 ∧ 0xFE0 + 32 ≤ ddrLimit s ∧ ddrClock s 0xFE0 = true ∧ chLost s 0 = false ∧ chLost s 1 = false ∧
       ∀ w ∈ wordsOf 0xFE0 32, eccMark s w ≠ 2)) ∧
    (let s := tMove 0 true
     let d := s.dmaOf 12 63
     dmaWinner s 12 ((List.range (dmaChannels 12)).filter (dmaReady s 12 [])) = some 63 ∧ dmaReq s 12 63 = 0 ∧ dSmode d = 0 ∧ dDmode d = 0 ∧
     dSw d = 3 ∧ dDw d = 3 ∧ d.moved = 0 ∧ dCount d = 1 ∧ dSrc d % 4096 + 4 ≤ 4096 ∧ dDst d % 4096 + 4 ≤ 4096 ∧ dSrc d % 4 = 0 ∧ dDst d % 4 = 0) := by
  decide +kernel

/-! ### Interrupt exchange -/

/-- Source 818 with PRIO 9 and source 312 with PRIO 4, enabled and pending, both routed to SC13 (chapter 12). -/
def tIc : State :=
  let s := tSet tOn [(IC_SRC_s_CFG 312, IC_SRC_s_CFG_PRIO, 4), (IC_SRC_s_CFG 818, IC_SRC_s_CFG_PRIO, 9)]
  let s := ((s.setReg (IC_SRC_s_MASK_LO 312) 0x3000).setReg (IC_SRC_s_MASK_LO 818) 0x2000)
  ((((s.setReg (IC_EN_SET_i 9) 0x01000000).setReg (IC_EN_SET_i 25) 0x40000).setReg (IC_PEND_SET_i 9) 0x01000000).setReg (IC_PEND_SET_i 25) 0x40000).setCore 13
    { Core.reset with st := 2 }

/-- 818 is the candidate of highest PRIO; the claim gives it, and it covers the 4 of 312 in a stack. -/
theorem test_worked_interrupts :
    let t := tNext (exec (.interruptPresent 13) tIc)
    let s : State := { tIc with icStack := [(13, [(818, 9), (312, 4)])] }
    pres t 13 = 818 ∧ (tNext (exec (.claim 13) t)).dev.lastRead = 818 ∧
    icStackOf (tNext (exec (.complete 13 312) s)) 13 = [(818, 9), (312, 4)] ∧
    (tNext (exec (.complete 13 312) s)).fld IC_FAULT_NUM IC_FAULT_NUM_TOP = 818 ∧
    icStackOf (tNext (exec (.complete 13 818) s)) 13 = [(312, 4)] := by decide +kernel

theorem witness_InterruptCommandsComplete :
    (candidate tIc 13 818 = true ∧ candidate tIc 13 312 = true ∧ srcPrio tIc 312 < srcPrio tIc 818 ∧ pres tIc 13 = 0 ∧
      enabledSources tIc = [1, 312, 818]) ∧
    (let s := setPres tIc 13 312
     pres s 13 ≠ 1023 ∧ srcPrio s (pres s 13) < srcPrio s 818 ∧ usable (pres s 13) = true) ∧
    pres (setPres tIc 13 1023) 13 = 1023 ∧ pres (setPres tIc 13 818) 13 ≠ 0 ∧
    (let s : State := { tIc with icStack := [(49, [(1023, 9)])] }
     icStackOf s 49 = [((1023 : Fin 1024).val, 9)] ∧ topSource s 49 ≠ 312) ∧
    icStackOf State.reset 49 = [] ∧ usable 1022 = true ∧ usable 1 = true ∧ usable 0 = false ∧ usable 1023 = false ∧
    State.reset.phase = 0 ∧
    ∀ k : Fin 4, (tSet State.reset [(IC_EDGE_e_CFG 47, IC_EDGE_e_CFG_POL, k)]).fld (IC_EDGE_e_CFG 47) IC_EDGE_e_CFG_POL = k := by decide +kernel

/-! ### Clove and Sumac -/

/-- Processor `p` running, with a valid entry for `op` of form `form`, IN `i` and OUT `o`, changed by `f`; Clove runs from its program RAM. -/
def tProc (p op form i o : Nat) (f : Cpu → Cpu) : State :=
  let s := setProcSt State.reset p 1
  let key := if p = clove then dtClove 0 op else dtSumac (p / 8) op
  (s.mapCtl (fun c => { c with ucode := [(key, withParity (form * 2 ^ 11 + i * 2 ^ 13 + o * 2 ^ 16 + 2 ^ 31))] })).setProc p
    (f { Cpu.reset with pc := if p = clove then 0x30100 else 0x100 })

/-- `CpuReady` as a value that can be evaluated. -/
def tReady (p op form : Nat) (s : State) : Bool :=
  have : Decidable (CpuReady p op form s) := by unfold CpuReady; infer_instance
  decide (CpuReady p op form s)

theorem tReady_iff (p op form : Nat) (s : State) : tReady p op form s = true ↔ CpuReady p op form s := by
  simp only [tReady, decide_eq_true_eq]

/-- ADD at IN 2 and OUT 1, and NEG at IN 1 and OUT 1, on Clove and on the last Sumac processor, with two and with one operand. -/
theorem witness_StackArithmeticComplete :
    (tReady 96 0x10 0 (tProc 96 0x10 0 2 1 ({ · with os := [0xFFFF, 1] })) = true ∧
      ((tProc 96 0x10 0 2 1 ({ · with os := [0xFFFF, 1] })).proc 96).os = [(0xFFFF : BitVec 16).toNat, (1 : BitVec 16).toNat]) ∧
    tReady 95 0x20 0 (tProc 95 0x20 0 2 1 ({ · with os := [0, 1] })) = true ∧
    ((tProc 95 0x20 0 2 1 ({ · with os := [0, 1] })).proc 95).stBit 3 = 0 ∧
    tReady 0 0x18 0 (tProc 0 0x18 0 1 1 ({ · with os := [0x80] })) = true := by
  decide +kernel

/-- R310: 0x7FFF + 1 on Clove gives 0x8000 without carry and with OV; 0xFF + 1 on Sumac gives 0 with carry; ADDS stays at the limit. -/
theorem test_stack_add :
    let t := (tNext (exec (.add 96) (tProc 96 0x10 0 2 1 ({ · with os := [1, 0x7FFF] })))).proc 96
    let u := (tNext (exec (.add 95) (tProc 95 0x10 0 2 1 ({ · with os := [1, 0xFF] })))).proc 95
    let w := (tNext (exec (.adds 96) (tProc 96 0x11 0 2 1 ({ · with os := [1, 0x7FFF] })))).proc 96
    (t.os = [0x8000] ∧ t.stBit 0 = 0 ∧ t.stBit 1 = 1 ∧ t.pc = 0x30101) ∧ (u.os = [0] ∧ u.stBit 0 = 1 ∧ u.stBit 1 = 0 ∧ u.pc = 0x101) ∧
    w.os = [0x7FFF] := by decide +kernel

/-- Subtraction borrows, division truncates toward zero, and a division by 0 sets DZ (R308, R310). -/
theorem test_stack_sub_and_div :
    let t := (tNext (exec (.sub 96) (tProc 96 0x14 0 2 1 ({ · with os := [2, 1] })))).proc 96
    let u := (tNext (exec (.div 95) (tProc 95 0x20 0 2 1 ({ · with os := [2, 0xF9] })))).proc 95
    let w := (tNext (exec (.divu 96) (tProc 96 0x22 0 2 1 ({ · with os := [0, 5] })))).proc 96
    (t.os = [0xFFFF] ∧ t.stBit 0 = 1) ∧ u.os = [0xFD] ∧ w.os = [0xFFFF] ∧ w.stBit 2 = 1 := by decide +kernel

theorem witness_StackMovesAndFlowComplete_1 :
    tReady 96 0x02 2 (tProc 96 0x02 2 0 1 id) = true ∧ tReady 95 0x02 2 (tProc 95 0x02 2 0 2 id) = true ∧
    tReady 95 0x07 0 (tProc 95 0x07 0 3 3 ({ · with os := [3, 2, 1] })) = true ∧
    (let s := tProc 96 0x08 1 1 2 ({ · with os := [7] })
     tReady 96 0x08 1 s = true ∧ (s.proc 96).os.length < osCap 96 ∧ 0 < (s.proc 96).os.length) ∧
    (let s := tProc 95 0x09 0 1 0 ({ · with os := [7] })
     tReady 95 0x09 0 s = true ∧ (s.proc 95).rs.length < rsCap 95) := by
  decide +kernel

theorem witness_StackMovesAndFlowComplete_2 :
    (let s := tProc 95 0x0A 0 0 1 ({ · with rs := [(0xFFF, 0)] })
     tReady 95 0x0A 0 s = true ∧ (s.proc 95).rs = [(0xFFF, 0)] ∧ (s.proc 95).os.length < osCap 95) ∧
    tReady 96 0x0B 0 (tProc 96 0x0B 0 0 1 ({ · with rs := [(0xFFFFFF, 1)] })) = true ∧
    tReady 96 0x45 0 (tProc 96 0x45 0 0 0 ({ · with rs := [(0xFFFFFF, 1)] })) = true ∧
    (let s := tProc 95 0x44 2 0 0 id
     tReady 95 0x44 2 s = true ∧ (s.proc 95).rs.length < rsCap 95) ∧
    tReady 96 0x46 0 (tProc 96 0x46 0 2 0 ({ · with os := [0x80, 0x1235] })) = true ∧ tReady 96 0x47 1 (tProc 96 0x47 1 0 0 id) = true := by
  decide +kernel

theorem witness_StackMovesAndFlowComplete_3 :
    (let s := tProc 95 0x44 2 0 0 ({ · with rs := List.replicate 8 (1, 0) })
     tReady 95 0x44 2 s = true ∧ rsCap 95 ≤ (s.proc 95).rs.length ∧ rsWrap (tSet s [(SU_c_p_CTL 11 7, SU_c_p_CTL_RSWRAP, 1)]) 95 = true ∧
      rsWrap (tSet s [(SU_c_p_CTL 11 7, SU_c_p_CTL_RSWRAP, 0)]) 95 = false) ∧
    (let s := tProc 96 0x45 0 0 0 id
     tReady 96 0x45 0 s = true ∧ (s.proc 96).rs = [] ∧ (s.proc 96).stBit 6 = 0) := by
  decide +kernel

/-- Chapter 13: JMPS goes to 0x80 joined with 0x1235, and vector 5 with 0x0100 and 0x0003 to 0x03_0100. -/
theorem test_worked_field_fix :
    ((tNext (exec (.jmps 96) (tProc 96 0x48 0 2 0 ({ · with os := [0x80, 0x1235] })))).proc 96).pc = 0x801235 ∧
    ((tNext (exec (.vjmp 5) (((tProc 96 0x47 1 0 0 id).setNum (cvMem 0x2000A) 2 0x0100).setNum (cvMem 0x2000B) 2 0x0003))).proc 96).pc = 0x30100 := by
  decide +kernel

theorem witness_StackMemoryAndTrapCommandsComplete_1 :
    (dataRef State.reset 96 0x7FFF false = .ram (cvMem 0x17FFF) ∧ tReady 96 0x38 0 (tProc 96 0x38 0 1 1 ({ · with os := addrCells 96 0x7FFF })) = true ∧
      tReady 95 0x3A 0 (tProc 95 0x3A 0 2 3 ({ · with os := addrCells 95 0xFFF })) = true ∧ dataRef State.reset 95 0xFFF false = .ram (suData 95 + 0xFFF)) ∧
    (dataRef State.reset 95 0 true = .ram (suData 95) ∧ tReady 95 0x39 0 (tProc 95 0x39 0 3 0 ({ · with os := addrCells 95 0 ++ [0xFF] })) = true ∧
      tReady 96 0x3B 0 (tProc 96 0x3B 0 2 1 ({ · with os := addrCells 96 0 ++ [0xFFFF] })) = true ∧ dataRef State.reset 96 0 true = .ram (cvMem 0x10000)) ∧
    (let s := tProc 96 0x38 0 1 1 ({ · with os := addrCells 96 0xE202, spr := [(5, 0x45A), (6, 0x200)] })
     dataRef s 96 0xE202 false = .fabric 0x200045A404 ∧ latched 96 (s.proc 96) 0x200045A404 = none ∧ tReady 96 0x38 0 s = true) := by
  decide +kernel

theorem witness_StackMemoryAndTrapCommandsComplete_2 :
    (let w : WinAcc := { write := false, addr := 0x1000, data := 0, part := 0, use := .ld, next := 0x101 }
     let s := tProc 95 0x38 0 1 1 ({ · with os := addrCells 95 0x4000, win := some w })
     let c := s.proc 95
     c.win = some w ∧ w.addr % 4 = 0 ∧ ddrClock s 0x1000 = true ∧ 0x1004 ≤ ddrLimit s ∧ c.haltReq = false ∧ c.stepping = false) ∧
    tReady 96 0x50 1 (tProc 96 0x50 1 0 1 id) = true ∧ tReady 95 0x51 1 (tProc 95 0x51 1 1 0 ({ · with os := [0xFF] })) = true ∧
    tReady 96 0x58 0 (tProc 96 0x58 0 0 0 id) = true ∧ tReady 96 0x59 0 (tProc 96 0x59 0 0 0 id) = true ∧ tReady 96 0x5A 0 (tProc 96 0x5A 0 0 0 id) = true ∧
    tReady 96 0x5B 0 (tProc 96 0x5B 0 0 0 ({ · with rs := [(0x801234, 1)] })) = true ∧
    (let s := setPres (tProc 96 0 0 0 0 ({ · with status := 32 })) 48 1
     cloveAccepts s = true ∧ (s.proc 96).rs.length < 32) := by
  decide +kernel

theorem witness_StackMemoryAndTrapCommandsComplete_3 :
    (tReady 0 0x5A 1 (tProc 0 0x5A 1 0 1 id) = true ∧ evMatch ((tProc 0 0x5A 1 0 1 id).proc 0) 255 = 0) ∧
    (let s := tProc 95 0x5A 1 0 1 ({ · with spr := [(11, 63), (12, 32)] })
     tReady 95 0x5A 1 s = true ∧ evMatch (s.proc 95) 32 = 32 ∧ (s.proc 95).os.length < 16) ∧
    tReady 95 0x5C 0 (tProc 95 0x5C 0 0 0 id) = true ∧
    (tReady 96 0x5D 0 (tProc 96 0x5D 0 0 0 id) = true ∧ dbgHeld (tProc 96 0x5D 0 0 0 id) 96 = false ∧ ((tProc 96 0x5D 0 0 0 id).proc 96).stBit 6 = 0) ∧
    dbgHeld (tSet (tProc 96 0x5D 0 0 0 id) [(DBG_CV_CTL, DBG_CV_CTL_HOLD, 1)]) 96 = true ∧ tReady 95 0x5E 1 (tProc 95 0x5E 1 0 0 id) = true := by
  decide +kernel

theorem witness_StackMemoryAndTrapCommandsComplete_4 :
    (let s := tProc 95 0 0 0 0 id
     let e := dtEntry s 95 255
     canDispatch s 95 = true ∧ dtValid e = false ∧ (fetchAt s 95 (s.proc 95).pc (insLen 95 (dtForm e))).1 = 0) ∧
    (let s := tProc 95 0x10 0 2 1 ({ · with os := [1] })
     let e := dtEntry s 95 0x10
     canDispatch s 95 = true ∧ dtValid e = true ∧ parityOk e = true ∧ (s.proc 95).os.length < dtIn e) ∧
    (let s := tProc 95 0x20 0 2 1 ({ · with os := [0, 7], status := 8 })
     tReady 95 0x20 0 s = true ∧ (s.proc 95).os = [0, 7] ∧ (s.proc 95).stBit 3 = 1) ∧
    (let w : WinAcc := { write := false, addr := 0x1000, data := 0, part := 0, use := .ld, next := 0x101 }
     let s := tProc 95 0 0 0 0 ({ · with win := some w })
     (s.proc 95).u = none ∧ (s.proc 95).win = some w) ∧
    (let s := (tProc 96 0 0 0 0 id).mapCtl (fun c => { c with xipWait := some { line := 0, op := 256, imm := 0, micro := false } })
     s.ctl.xipWait.map (·.micro) = some false ∧ s.ctl.mchk = 0 ∧ (s.proc 96).stBit 6 = 0) := by
  decide +kernel

/-- R312, R314: TRAP 0x12 of Sumac processor 95 at 0x100 leaves cause 7 and argument 0x12 in SU_11_7_TRAP, and the processor TRAPPED. -/
theorem test_sumac_trap :
    let t := tNext (exec (.trap 95 0x12) (tProc 95 0x5E 1 0 0 id))
    t.reg (SU_c_p_TRAP 11 7) = 0x00127100#32 ∧ procSt t 95 = 4 := by decide +kernel

/-- Customer opcode 0xFF of Sumac cluster 11 at entry 0x380: one microword that pushes LIT 0x5A (ASEL 8) and dispatches (NS 2). -/
def tCust : State :=
  let s := tProc 95 0xFF 0 0 1 id
  let w := 2 * 2 ^ 10 + 8 * 2 ^ 34 + 1 * 2 ^ 46 + 0x5A * 2 ^ 74
  s.mapCtl (fun c => { c with ucode :=
    [(csSumac 11 0x380 0, withParity (w % 2 ^ 32)), (csSumac 11 0x380 1, withParity (w / 2 ^ 32 % 2 ^ 32)), (csSumac 11 0x380 2, withParity (w / 2 ^ 64)),
     (dtSumac 11 0xFF, withParity (0x380 + 2 ^ 16 + 2 ^ 31))] })

theorem witness_StackMemoryAndTrapCommandsComplete_5 :
    let s := tCust
    let u := bits (dtEntry s 95 0xFF) 0 11
    let m := microWord s 95 u
    tReady 95 (0xF0 + 15) 0 s = true ∧ mwBad s 95 u = none ∧
    (m.wait = 0 ∧ m.ns = 2 ∧ m.alu = 0 ∧ m.asel = 8 ∧ m.dst = 0 ∧ m.ostk = 1 ∧ m.rstk = 0 ∧ m.mem = 0 ∧ m.sprw = 0 ∧ m.flg = 0 ∧ m.cntop = 0 ∧
      m.misc = 0) ∧ (s.proc 95).os.length < osCap 95 := by
  decide +kernel

theorem witness_StackMemoryAndTrapCommandsComplete_6 :
    let s := (tProc 96 0 0 0 0 id).mapCtl (fun c => { c with xipWait := some { line := 5, op := 256, imm := 0, micro := true } })
    s.ctl.xipWait.map (·.micro) = some true ∧ s.ctl.mchk = 0 := by decide +kernel

/-- Chapter 14: group 0 of the microword at 0x0A2 reads 0x3C20_C0A4 with parity bit 1, and a group of zeros has parity bit 1; its wait
limit is 32,768. -/
theorem test_worked_microword :
    withParity 0x3C20C0A4 = 0x13C20C0A4 ∧ withParity 0 = 0x100000000 ∧
    (let m := mwClove 0x3C20C0A4
     m.na = 0x0A4 ∧ m.ns = 0 ∧ m.cond = 6 ∧ m.wait = 1 ∧ m.wlim = 0xF0 ∧ waitLimit m = 32768) := by decide +kernel

theorem witness_ProcessorControlCommandsComplete_1 :
    (∀ st : Fin 5, procSt (setProcSt State.reset 95 st) 95 = st) ∧ atBoundary State.reset 95 = true ∧
    atBoundary (State.reset.setProc 95 { Cpu.reset with waitEv := some 0 }) 95 = false ∧ (State.reset.proc 95).waitEv = none ∧
    (dtRefused State.reset 11 0xEF (0x80000000 : Word).toNat = 0 ∧ dtRefused State.reset 12 0xEF (0x800006FF : Word).toNat = 0 ∧
      State.reset.fld MC_CV_CTL MC_CV_CTL_LOCK = 0) ∧
    (dtRefused State.reset 11 0 (0x1800 : Word).toNat ≠ 0 ∧ bits (0x1800 : Word).toNat 11 2 = 3) ∧
    dtLocked (tSet State.reset [(SU_c_CTL 11, SU_c_CTL_DT_LOCK, 1)]) 11 = true ∧ dtLocked State.reset 12 = false ∧
    clusterBusy (setProcSt State.reset 95 1) 11 = true ∧
    ((1023 : Nat) < storeWords 11 ∧ csRefused State.reset 11 0x37F = 0 ∧ groupW (csSumac 11 0x37F 2) ≠ 0 ∧ csRefused State.reset 12 2047 ≠ 0) ∧
    (tSet State.reset [(MC_CV_CTL, MC_CV_CTL_LOCK, 1)]).fld MC_CV_CTL MC_CV_CTL_LOCK = 1 := by decide +kernel

/-- Match 0xBFFF in ROM patched by word 1,023, by Clove in its ROM with the unit not locked. -/
theorem witness_ProcessorControlCommandsComplete_2 :
    ((State.reset.proc 96).pc < 0xC400 ∧ State.reset.fld MC_ROMP_CTL MC_ROMP_CTL_LOCK = 0 ∧
      bits (0x3FF0BFFF : Word).toNat 0 16 + bits (0x3FF0BFFF : Word).toNat 16 4 ≤ 0xBFFF ∧
      bits (0x3FF0BFFF : Word).toNat 20 10 + bits (0x3FF0BFFF : Word).toNat 16 4 ≤ 1023) ∧
    ¬ (((State.reset.setProc 96 { Cpu.reset with pc := 0xC400 }).proc 96).pc < 0xC400) ∧
    (let s := State.reset.setProc 95 { Cpu.reset with spr := [(14, 255)] }
     (s.proc 95).sp 13 + 256 * (s.proc 95).sp 14 ≠ 0 ∧ (s.proc 95).waitEv = none) ∧
    ({ State.reset with phase := 1 } : State).phase = 1 ∧ Agent.clove ≠ .dap := by decide +kernel

/-- R325: HALTED resumes where it stood; RESET starts at 0. -/
theorem test_sumac_start :
    let s := (setProcSt State.reset 95 3).setProc 95 { Cpu.reset with pc := 0x123, os := [7] }
    let t := tNext (exec (.sumacStart .clove 95) s)
    procSt t 95 = 1 ∧ (t.proc 95).pc = 0x123 ∧ (t.proc 95).os = [7] := by decide +kernel

/-! ### Mailboxes and Molalrik -/

theorem witness_MailboxHandshakeCompletes :
    mbOff (tSet State.reset [(BT_STAT, BT_STAT_MINIMAL, 1)]) 15 = true ∧ mbOff State.reset 17 = false ∧
    mbFlag State.reset 17 MB_i_STAT_REQ_BUSY = false ∧ mbFlag (mbSet 17 MB_i_STAT_REQ_BUSY true State.reset) 17 MB_i_STAT_REQ_BUSY = true ∧
    mbFlag (mbSet 17 MB_i_STAT_REQ_PEND true State.reset) 17 MB_i_STAT_REQ_PEND = true ∧ mbFlag State.reset 17 MB_i_STAT_REQ_PEND = false ∧
    mbFlag (mbSet 17 MB_i_STAT_RPL_VALID true State.reset) 17 MB_i_STAT_RPL_VALID = true ∧ mbFlag State.reset 17 MB_i_STAT_RPL_VALID = false ∧
    tget [] State.reset.fw.waitPost 17 = [] ∧
    (let s : State := { State.reset with fw := { Fw.reset with waitPost := [(17, [1, 2])] } }
     tget [] s.fw.waitPost 17 = [1, 2]) ∧
    domainOff State.reset 26 = false ∧ domainOff (State.reset.setReg CK_GATE_LO 0x04000000) 26 = true ∧
    (∀ h, ([5] : List Byte).head? = some h → h ≠ 2 ∧ h ≠ 3) ∧ fwUp State.reset = false ∧
    (∀ c, lastCounter State.reset 0 5 = some c → c < 1) ∧
    lastCounter { State.reset with fw := { Fw.reset with counters := [(0, 5, 9)] } } 0 5 = some 9 := by
  refine ⟨by decide +kernel, by decide +kernel, by decide +kernel, by decide +kernel, by decide +kernel, by decide +kernel, by decide +kernel,
    by decide +kernel, rfl, rfl, by decide +kernel, by decide +kernel, ?_, by decide +kernel, ?_, by decide +kernel⟩
  · intro h e; cases e; decide
  · intro c e
    have h : lastCounter State.reset 0 5 = none := rfl
    rw [h] at e; cases e

theorem tSlice_length (l : List Byte) (o n : Nat) : (slice l o n).length = n := by
  simp [slice, zeros] <;> omega

theorem tZip_twice : ∀ d ks : List Byte, ks.length = d.length →
    List.zipWith (fun a b => a ^^^ b) (List.zipWith (fun a b => a ^^^ b) d ks) ks = d
  | [], ks, _ => by simp
  | x :: d, [], e => by simp at e
  | x :: d, y :: ks, e => by
    simp only [List.zipWith_cons_cons, tZip_twice d ks (by simpa using e), BitVec.xor_assoc, BitVec.xor_self, BitVec.xor_zero]

theorem tCrypt_length (k iv d : List Byte) : (gcmCrypt k iv d).length = d.length := by
  simp [gcmCrypt, tSlice_length]

/-- Combining twice with the key stream gives the data back (R369). -/
theorem tCrypt_twice (k iv d : List Byte) : gcmCrypt k iv (gcmCrypt k iv d) = d := by
  rw [gcmCrypt, tCrypt_length, gcmCrypt]
  exact tZip_twice d _ (tSlice_length _ _ _)

/-- A remote GET_STATUS under key 7 with counter 1: 16 bytes of header, 16 encrypted, the tag. -/
def tRemoteKey : List Byte := [1]
def tRemoteHead : List Byte := [1, 0] ++ leBytes 2 7 ++ leBytes 4 5 ++ leBytes 8 1
def tRemoteAsk : List Byte := leBytes 2 2 ++ leBytes 2 0x101 ++ zeros 12
def tRemoteState : State := { tFw with fw := { Fw.reset with keys := [(7, tRemoteKey)] } }
def tRemoteBody : List Byte := gcmCrypt tRemoteKey (slice tRemoteHead 4 12) tRemoteAsk
def tRemoteTag : List Byte := gcmTag tRemoteKey (slice tRemoteHead 4 12) tRemoteHead tRemoteBody
def tRemote : List Byte := tRemoteHead ++ (tRemoteBody ++ tRemoteTag)

/-- The frame is built from the cipher itself, so that its check holds whatever the cipher's free function is. -/
theorem witness_MailboxHandshakeCompletes_remote :
    let l := tRemote
    let k := tget [] tRemoteState.fw.keys (le l 2 2)
    let nonce := slice l 4 12
    let ct := (l.drop 16).take (l.length - 32)
    let m := gcmCrypt k nonce ct
    fwUp tRemoteState = true ∧ minimal tRemoteState = false ∧ 48 ≤ l.length ∧ le l 0 2 = 1 ∧ k ≠ [] ∧
    gcmTag k nonce (l.take 16) ct = l.drop (l.length - 16) ∧ lastCounter tRemoteState (le l 2 2) 5 = none ∧
    le m 0 2 = 2 ∧ le m 4 2 = 0 ∧ m.length = 16 ∧ (tget (0, 0, []) tRemoteState.fw.last (256 + 5)).2.2 = [] := by
  have hh : tRemoteHead.length = 16 := by decide +kernel
  have hc : tRemoteBody.length = 16 := by rw [tRemoteBody, tCrypt_length]; decide +kernel
  have hg : tRemoteTag.length = 16 := by simp [tRemoteTag, gcmTag, tSlice_length]
  have hs : ∀ o n, o + n ≤ 16 → slice tRemote o n = slice tRemoteHead o n := by
    intro o n h
    have h1 : n - (16 - o) = 0 := by omega
    simp [slice, tRemote, List.drop_append, List.take_append, hh, h1]
  have hl : tRemote.length = 48 := by simp [tRemote, hh, hc, hg]
  have hk : le tRemote 2 2 = 7 := by rw [le, hs 2 2 (by omega)]; decide +kernel
  have h0 : le tRemote 0 2 = 1 := by rw [le, hs 0 2 (by omega)]; decide +kernel
  have ht : tRemote.take 16 = tRemoteHead := by simp [tRemote, ← hh]
  have hd : (tRemote.drop 16).take 16 = tRemoteBody := by
    rw [tRemote, ← hh, List.drop_left, hh, ← hc, List.take_left]
  have he : tRemote.drop 32 = tRemoteTag := by
    rw [tRemote, ← List.append_assoc, show 32 = (tRemoteHead ++ tRemoteBody).length by simp [hh, hc], List.drop_left]
  have hq : tget [] tRemoteState.fw.keys 7 = tRemoteKey := rfl
  have hm : gcmCrypt tRemoteKey (slice tRemoteHead 4 12) tRemoteBody = tRemoteAsk := tCrypt_twice _ _ _
  simp only [hl, hk, hq, hs 4 12 (by omega), ht, show 48 - 32 = 16 from rfl, show 48 - 16 = 32 from rfl, hd, he, h0, hm]
  exact ⟨by decide +kernel, by decide +kernel, by omega, trivial, by decide, rfl, rfl, by decide +kernel, by decide +kernel, by decide +kernel, rfl⟩

/-- `s` with a request of pair `i` in its mailbox (SEQ 0x77), rung, every group enabled. -/
def tAt (s : State) (i code flags : Nat) (p : List Byte) : State :=
  ((mbSet i MB_i_STAT_REQ_BUSY true s).setFld (MB_i_PERM i) MB_i_PERM_GROUPS 0x3FF).setBytes (mbRequest i)
    (leBytes 2 code ++ leBytes 2 0x77 ++ leBytes 2 p.length ++ leBytes 2 flags ++ zeros 8 ++ p)

/-- `Asked` as a value that can be evaluated. -/
def tAsked (i code flags : Nat) (p : List Byte) (s : State) : Bool :=
  have : Decidable (Asked i code flags p s) := by unfold Asked; infer_instance
  decide (Asked i code flags p s)

theorem tAsked_iff (i code flags : Nat) (p : List Byte) (s : State) : tAsked i code flags p s = true ↔ Asked i code flags p s := by
  simp only [tAsked, decide_eq_true_eq]

/-- The request is `Asked` once it stands in `s`, and `c` holds there and of the fields. -/
def tOk (s : State) (i code flags : Nat) (p : List Byte) (c : State → (Nat → Nat → Nat) → Bool) : Bool :=
  let t := tAt s i code flags p
  tAsked i code flags p t && c t (le p)

/-- Chapter 15: GET_VERSION on pair 3 is answered under the same SEQ with status OK, and the payload begins with protocol 1 and firmware 1.4. -/
theorem test_get_version :
    let t := tNext (exec (.getVersion 3) (tAt tFw 3 1 0 []))
    t.bytes (mbReply 3) 4 = [1, 0, 0x77, 0] ∧ t.bytes (mbReply 3 + 16) 4 = [1, 0, 4, 0] ∧ mbFlag t 3 MB_i_STAT_RPL_VALID = true := by
  decide +kernel

def tZone : Zone := { drvs := [0, 63], gain := 0, ramp := 0, mute := false }
def tZoned : State := { tFw with fw := { Fw.reset with zones := [(16383, tZone)] } }

theorem witness_MolalrikControlCommandsComplete_1 :
    tOk tFw 3 1 0 [] (fun _ _ => true) ∧ tOk tFw 17 2 0 [] (fun _ _ => true) ∧ tOk tFw 17 3 0 [5, 0, 0xFF, 3] (fun _ _ => true) ∧
    tOk tFw 16 3 0 [0, 0, 0xFF, 3] (fun _ f => f 0 1 = 0) ∧
    tOk tFw 16 3 0 [17, 0, 0xFF, 3] (fun _ f => f 0 1 ≠ 0 && f 0 1 ≠ 16 && f 0 1 < 18 && f 2 2 < 1024) ∧
    tOk tFw 0 4 0 [0] (fun _ _ => true) ∧
    tOk ((tSet tFw [(MS_PL_c_STAT 3, MS_PL_c_STAT_PLAYING, 1)]).mapFw (fun w => { w with armed := [(10, 3)] })) 5 5 0 [1, 3, 0]
      (fun s f => holdoverPlaying s && f 0 1 ≤ 1 && f 1 1 ≤ 3 && f 2 1 = 0) ∧
    tOk tFw 5 5 0 [0, 0, 0] (fun s f => !holdoverPlaying s && f 2 1 ≤ 1) ∧ tOk tFw 5 6 0 [1, 255] (fun _ f => f 0 1 ≤ 1) := by
  decide +kernel

theorem witness_MolalrikControlCommandsComplete_2 :
    (let c := fun (s : State) (f : Nat → Nat → Nat) => f 4 2 = 1 && f 0 4 % 4 = 0 && decide (0x10000 ≤ f 0 4) && decide (f 0 4 + 4 ≤ 0x18000) && copying s
     tOk tFw 2 0x1001 0 [0xFC, 0x7F, 1, 0, 1, 0, 0, 0, 1, 0, 0, 0x80] (fun s f => !copying s && c (s.setFld SX_MAP_STAT SX_MAP_STAT_COPYING 1) f) ∧
     tOk (tSet tFw [(SX_MAP_STAT, SX_MAP_STAT_COPYING, 1)]) 2 0x1001 0 [0, 0, 1, 0, 1, 0, 0, 0, 1, 0, 0, 0x80] c) ∧
    tOk tFw 2 0x1003 0 [0xFC, 0x9F, 3, 0, 1, 0, 1, 0] (fun _ f => 0 < f 4 2 && f 4 2 ≤ 1018 && shadowRegion (f 0 4) (f 4 2) = some 0x20000 && f 6 1 ≤ 1) ∧
    tOk tFw 2 0x1004 0 [11, 0, 0, 1, 0, 4] (fun s f => f 0 1 < 12 && !copying s && f 2 2 * blockN s ≤ 16384 && f 4 2 * blockN s ≤ 16384 &&
      f 2 2 ≤ 1024 && f 4 2 ≤ 1024) ∧
    tOk tFw 2 0x1005 0 [1, 1, 1] (fun _ f => f 0 1 ≤ 1 && f 1 1 ≤ 1 && f 2 1 ≤ 1) ∧ tOk tFw 2 0x1006 0 [11, 1] (fun _ f => f 0 1 < 12 && f 1 1 ≤ 1) := by
  decide +kernel

theorem witness_MolalrikControlCommandsComplete_3 :
    tOk tFw 6 0x2001 0 [0xFF, 0x3F, 2, 0, 63] (fun _ f => f 2 1 = 2 && f 0 2 < 16384 && f 2 1 ≤ 64 && (List.range 2).all (fun k => f (3 + k) 1 < 64)) ∧
    tOk tZoned 6 0x2002 0 [0xFF, 0x3F] (fun s f => zoneOf s (f 0 2) = some tZone && tZone.drvs.length ≤ 64) ∧
    tOk tZoned 6 0x2003 0 [0xFF, 0x3F, 0, 0x80, 0, 0] (fun s f => zoneOf s (f 0 2) = some tZone) ∧
    tOk tZoned 6 0x2004 0 [0xFF, 0x3F, 1] (fun s f => zoneOf s (f 0 2) = some tZone && f 2 1 ≤ 1) ∧
    tOk tFw 6 0x2002 0 [0xFF, 0x3F] (fun s f => zoneOf s (f 0 2) = none) ∧ tOk tFw 6 0x2003 0 [0xFF, 0x3F, 0, 0, 0, 0] (fun s f => zoneOf s (f 0 2) = none) ∧
    tOk tFw 6 0x2004 0 [0xFF, 0x3F, 1] (fun s f => zoneOf s (f 0 2) = none) ∧
    tOk tFw 6 0x2005 0 [63, 0, 1, 7, 15] (fun s f => !domainOff s 45 && f 0 1 < 64 && f 1 1 < 64 && f 2 1 ≤ 1 && f 3 1 ≤ 7 && f 4 1 ≤ 15 && f 1 1 ≠ f 0 1) := by
  decide +kernel

theorem witness_MolalrikControlCommandsComplete_4 :
    tOk (tSet tFw [(FL_f_CTL 3071, FL_f_CTL_EN, 1)]) 6 0x4001 0 ([0xFF, 0x0B] ++ zeros 46) (fun s f => f 0 2 < 3072 && flEn s (f 0 2)) ∧
    tOk tFw 6 0x4001 0 ([0xFF, 0x0B] ++ zeros 46) (fun s f => f 0 2 < 3072 && !flEn s (f 0 2) && !flActive s (f 0 2)) ∧
    tOk tFw 6 0x4002 0 [0xFF, 0x0B, 0] (fun s f => f 0 2 < 3072 && f 2 1 = 0 && s.reg (FL_f_CTL (f 0 2)) &&& 0x007F071F#32 = s.reg (FL_f_CTL (f 0 2))) ∧
    tOk tFw 6 0x4002 0 [0, 0, 1] (fun s f => f 2 1 = 1 && !flEn s (f 0 2) && rangeBad s (f 0 2)) ∧ tOk tFw 6 0x4003 0 [0xFF, 0x0B] (fun _ f => f 0 2 < 3072) ∧
    tOk tFw 6 0x4004 0 [3, 3, 3, 1, 0, 0, 0, 0] (fun _ f => f 0 1 < 4 && f 1 1 < 4 && f 2 1 < 4 && f 3 1 < 2) ∧
    tOk tFw 6 0x4005 0 [1, 1, 1, 0, 0x20, 0x4E] (fun _ f => f 0 1 ≤ 1 && f 1 1 ≤ 1 && f 2 1 ≤ 1 && 100 ≤ f 4 2 && f 4 2 ≤ 20000) ∧
    tOk tFw 6 0x4006 0 [2, 127] (fun _ f => f 0 1 ≤ 2) ∧
    tOk tFw 6 0x4007 0 ([3, 1, 0, 0] ++ leBytes 4 1000 ++ zeros 4 ++ leBytes 4 0xFF000064) (fun _ f => f 0 1 < 4 && f 1 1 ≤ 64) := by
  decide +kernel

/-! Where a command depends on a signature or a digest (`objOk` true, `verifyReason` 0 or rollback, `responsePerms` given), the
outcome is a free value and no state can be shown to have it; the witnesses show what else those clauses ask. -/

/-- A message object of one sample with all its bytes brought, its header as R230 gives it. -/
def tObj : List Byte := (leBytes 4 0x4D53474F ++ leBytes 2 1 ++ [0, 0] ++ leBytes 4 1 ++ leBytes 4 1) ++ zeros 30288

theorem witness_MsgStore :
    (tOk tFw 4 0x3001 4 (leBytes 4 0 ++ leBytes 4 0x4000000 ++ [1]) (fun _ _ => true) = true ∧ ([1] : List Byte).length < 0x4000000) ∧
    (let s := tAt (tFw.mapFw (fun w => { w with partials := [(4, { code := 0x3001, total := tObj.length, data := tObj })] })) 4 0x3001 4
       (leBytes 4 tObj.length ++ leBytes 4 tObj.length)
     AskedIn 4 0x3001 tObj s ∧ (∀ e ∈ objChecks tObj, e.2 = false) ∧ tObj.length = objLen tObj ∧ objOk s tObj = false) ∧
    (let s : State := { tSet tFw [(MS_STAT, MS_STAT_MIRROR, 0)] with store := { Store.reset with total := 200 } }
     msgOf s 1 = none ∧ storeUp s = true ∧ s.fw.msgs.length < 200000 ∧ tObj.length ≤ (takenSegs s).length * dataBytes) := by
  have hl : tObj.length = 30304 := by
    rw [tObj, List.length_append, zeros, List.length_replicate]; rfl
  refine ⟨by decide +kernel, ⟨⟨tObj.length, Nat.le_refl _, by rw [hl]; omega, fun _ => ?_, ?_⟩, by decide +kernel, by rw [hl]; decide +kernel, rfl⟩,
    rfl, by decide +kernel, by decide +kernel, by rw [hl]; decide +kernel⟩
  · rw [List.take_length]; rfl
  · rw [List.drop_length, List.append_nil, ← tAsked_iff, hl]
    decide +kernel

def tMsg : MsgObj := { rev := 1, segs := [132], len := 30304 }
def tEntry : SchedEntry := { entry := 9, msg := 7, zone := 0, prio := 63, cancelled := false, period := 0, start := 0, count := 1 }
/-- A hub that has message 7, scheduled or not. -/
def tHub (es : List SchedEntry) : State :=
  { tFw with net := { Net.reset with hubRole := 2 }, fw := { Fw.reset with msgs := [(7, tMsg)], sched := { Sched.reset with entries := es } } }

theorem witness_MolalrikServiceCommandsComplete_1 :
    tOk tFw 5 0x3002 0 [7, 0, 0, 0] (fun s f => msgOf s (f 0 4) = none) ∧
    tOk (tHub [tEntry]) 5 0x3002 0 [7, 0, 0, 0] (fun s f => msgOf s (f 0 4) = some tMsg && s.fw.sched.entries.any (fun e => e.msg = f 0 4)) ∧
    tOk (tHub []) 5 0x3002 0 [7, 0, 0, 0] (fun s f => msgOf s (f 0 4) = some tMsg && s.fw.sched.entries.all (fun e => e.msg ≠ f 0 4)) ∧
    tOk (tHub []) 5 0x3003 0 [7, 0, 0, 0] (fun s f => msgOf s (f 0 4) = some tMsg && tMsg.segs = [132]) ∧
    tOk tFw 5 0x3004 0 (zeros 24) (fun s _ => !isHub s) ∧
    tOk (tHub [tEntry]) 5 0x3004 0 ([7, 0, 0, 0, 0xFF, 0x3F, 63, 0] ++ zeros 16) (fun s f => isHub s && f 4 2 < 16384 && f 6 1 < 64 &&
      (msgOf s (f 0 4)).isSome && s.fw.sched.entries.length < 65536 && emerBase s + emerSize s ≤ 0x1000000000) ∧
    tOk (tHub []) 5 0x3005 0 [9, 0, 0, 0] (fun s f => isHub s && s.fw.sched.entries.all (fun e => e.entry ≠ f 0 4)) ∧
    tOk (tHub [tEntry]) 5 0x3005 0 [9, 0, 0, 0] (fun s f => isHub s && s.fw.sched.entries.any (fun e => e.entry = f 0 4)) ∧
    tOk (tHub [tEntry]) 5 0x3006 4 (leBytes 4 1 ++ leBytes 4 0xFFFFFFFF) (fun s _ => 1 ≤ (schedBytes s.fw.sched).length) ∧
    tOk (tHub [tEntry]) 15 0x3006 2 (leBytes 8 0xFFFFFF00 ++ leBytes 4 0x100 ++ zeros 4) (fun s f => f 0 8 % 64 = 0 &&
      f 0 8 % 2 ^ 32 + f 8 4 ≤ 2 ^ 32 && f 12 4 = 0 && (schedBytes s.fw.sched).length ≤ f 8 4) := by
  decide +kernel

theorem witness_MolalrikServiceCommandsComplete_2 :
    tOk tFw 5 0x5001 0 (zeros 20) (fun _ _ => true) ∧
    tOk tFw 5 0x5002 0 [63, 1, 15, 0, 0xFF, 7] (fun _ f => f 0 1 < 64 && f 1 1 < 2 && f 2 1 < 16 && f 4 2 < 2048) ∧
    tOk tFw 5 0x5003 0 [1, 1, 1, 3, 0, 0] (fun _ f => f 1 1 < 2 && f 2 1 < 2 && f 3 1 < 4 && f 0 1 = 1) ∧
    tOk tFw 5 0x5003 0 [0, 1, 1, 2, 0, 16] (fun s f => f 0 1 = 0 && 0 < f 4 2 && f 4 2 ≤ 4096 && f 3 1 = 2 && (s.reg AN_ERR).toNat < 32 &&
      !anBusy s && !codeDup s && !anMemBad s && !winBad s) ∧
    tOk tFw 5 0x5003 0 [0, 0, 0, 3, 1, 0] (fun _ f => f 0 1 = 0 && 0 < f 4 2 && f 3 1 = 3) ∧
    tOk (tSet tFw [(AN_RUN_STAT, AN_RUN_STAT_PROCESSING, 1)]) 5 0x5004 0 [0x7F, 4, 1, 0] (fun s f => 0 < f 2 2 && f 2 2 < 64 && f 0 2 + f 2 2 ≤ 1152 &&
      s.flag AN_RUN_STAT AN_RUN_STAT_PROCESSING) ∧
    tOk tFw 5 0x5004 0 [0x7F, 4, 1, 0] (fun s f => f 0 2 + f 2 2 = 1152 && !s.flag AN_RUN_STAT AN_RUN_STAT_PROCESSING &&
      tGood s (sumAddr s.an.mem (f 0 2)) (64 * f 2 2)) ∧
    tOk tFw 5 0x6001 0 [255, 1, 15, 1, 0, 0, 0, 0] (fun _ f => f 1 1 < 2 && f 2 1 < 16 && f 3 1 < 2) := by
  decide +kernel

/-- The data of AN_REF: 1,152 responses and their summaries, all brought before the last, empty chunk. -/
theorem witness_AnRef :
    let b : List Byte := List.replicate 0x1212000 0
    let s := tAt (tFw.mapFw (fun w => { w with partials := [(5, { code := 0x5005, total := 0x1212000, data := b })] })) 5 0x5005 4
      (leBytes 4 0x1212000 ++ leBytes 4 0x1212000)
    AskedIn 5 0x5005 b s ∧ b.length = 0x1212000 ∧ s.flag AN_RUN_STAT AN_RUN_STAT_RUNNING = false := by
  have hl : (List.replicate 0x1212000 (0 : Byte)).length = 0x1212000 := List.length_replicate ..
  refine ⟨⟨0x1212000, Nat.le_of_eq hl.symm, by rw [hl]; omega, fun _ => ?_, ?_⟩, hl, by decide +kernel⟩
  · rw [hl, List.take_of_length_le (Nat.le_of_eq hl)]; rfl
  · rw [hl, List.drop_of_length_le (Nat.le_of_eq hl), List.append_nil, ← tAsked_iff]
    decide +kernel

/-- AN_REF's memory after reset, where no word is marked. -/
theorem witness_AnRef_memory : anMemReg State.reset + 0x2424000 ≤ ddrLimit State.reset ∧ anMemReg State.reset + 0x2424000 ≤ 0x1000000000 ∧
    ddrClock State.reset (anMemReg State.reset) = true ∧ chLost State.reset 0 = false ∧ chLost State.reset 1 = false ∧
    ∀ w, eccMark State.reset w ≠ 2 := ⟨by decide +kernel, by decide +kernel, by decide +kernel, by decide +kernel, by decide +kernel, fun _ => by simp [eccMark, State.reset, tget]⟩

def tLim : State := { tSet tFw [] with fw := { Fw.reset with sfLim := [(255, [1, 2, 3, 4, 5, 6, 7, 8])] } }
def tCommitted : State := { tFw with fw := { Fw.reset with sfDone := true } }

theorem witness_MolalrikServiceCommandsComplete_3 :
    tOk tFw 5 0x6002 0 (255 :: zeros 11) (fun s _ => !committed s) ∧ tOk tLim 5 0x6003 0 [] (fun s _ => !committed s && s.fw.sfLim.all (fun e => e.1 < 256)) ∧
    tOk tFw 5 0x6005 0 [1] (fun s _ => !committed s) ∧ tOk tCommitted 5 0x6002 0 (zeros 12) (fun s _ => committed s) ∧
    tOk tCommitted 5 0x6003 0 [] (fun s _ => committed s) ∧ tOk tCommitted 5 0x6005 0 [1] (fun s f => committed s && f 0 1 ≤ 1) ∧
    tOk tFw 5 0x6004 0 [255] (fun s f => !analysed s (f 0 1)) ∧
    tOk (tFw.mapSf (fun x => { x with cfg := [(255, (0x03#32, 0))] })) 5 0x6004 0 [255] (fun s f => analysed s (f 0 1) && tGood s (recordAddr s (f 0 1)) 64) := by
  decide +kernel

/-- A recording ring of stream 3 with one sealed segment of 4 samples from frame 1,000. -/
def tRecorded : State :=
  { tFw with store := { Store.reset with
      total := 200, segs := [(140, { area := 4, flags := 0, owner := 3, object := 0, seq := 1, first := 1000, count := 12, prev := 0 })] } }
def tRange : List Byte := [3, 0, 0, 0, 0, 0, 0, 0] ++ leBytes 8 1003 ++ leBytes 8 2000

theorem witness_MolalrikServiceCommandsComplete_4 :
    tOk tRecorded 7 0x7001 0 [] (fun _ _ => true) ∧ tOk tFw 7 0x7002 0 [3, 1, 2, 0] (fun s f => f 1 1 = 1 && 2 ≤ f 2 2 && (freeSegs s).length + (ringSegs s (f 0 1)).length < f 2 2) ∧
    tOk tRecorded 7 0x7002 0 [3, 1, 68, 0] (fun s f => f 1 1 = 1 && f 2 2 ≤ (freeSegs s).length + (ringSegs s (f 0 1)).length) ∧
    tOk tRecorded 7 0x7003 0 tRange (fun s f => segsIn s (f 0 1) (f 8 8) (f 16 8) = [140]) ∧
    tOk (tRecorded.mapFw (fun w => { w with pins := [(3, 1003, 2000)] })) 7 0x7004 0 tRange (fun s f => s.fw.pins = [(f 0 1, f 8 8, f 16 8)] && f 8 8 ≤ f 16 8) ∧
    tOk tFw 7 0x7004 0 tRange (fun s f => s.fw.pins = [] && segsIn s (f 0 1) (f 8 8) (f 16 8) = []) ∧
    tOk tRecorded 7 0x7005 4 (leBytes 4 3 ++ leBytes 4 100 ++ tRange) (fun s _ => (segsIn s 3 1003 2000).flatMap (segSamples s 1003 2000) = zeros 3) ∧
    tOk { tFw with store := { Store.reset with segs := [(133, { Seg.free with area := 5, seq := 8, count := 40 })] } } 7 0x7006 4
      (leBytes 4 0 ++ leBytes 4 40 ++ [5, 0, 0, 0, 0, 0, 0, 0] ++ leBytes 8 8) (fun s f => f 8 1 = 5 && s.store.segs = [(133, { Seg.free with area := 5, seq := 8, count := 40 })] && f 16 8 ≤ 8) := by
  decide +kernel

theorem witness_MolalrikServiceCommandsComplete_5 :
    tOk tFw 8 0x8001 0 (leBytes 8 0x200046DFFC ++ [1, 0]) (fun _ f => 0 < f 8 2 && f 8 2 ≤ 1018 && f 0 8 % 4 = 0 && 0x2000000000 ≤ f 0 8 && f 0 8 + 4 * f 8 2 ≤ 0x200046E000) ∧
    tOk (tSet tFw [(DBG_VT_t_STAT 48, DBG_VT_t_STAT_IN_FULL, 1)]) 8 0x8002 0 [48, 1, 0, 0, 1, 2, 3, 4] (fun s f => f 0 1 < 49 && f 1 1 = 1 &&
      s.flag (DBG_VT_t_STAT (f 0 1)) DBG_VT_t_STAT_IN_FULL) ∧
    tOk tFw 8 0x8002 0 [48, 1, 0, 0, 1, 2, 3, 4] (fun s f => f 1 1 = 1 && !s.flag (DBG_VT_t_STAT (f 0 1)) DBG_VT_t_STAT_IN_FULL) ∧
    tOk tFw 8 0x8002 0 (zeros 8) (fun _ f => f 1 1 = 0) ∧ tOk tFw 8 0x8003 0 [0xFF, 0x1F, 127, 0] (fun _ f => f 0 2 < 8192 && 0 < f 2 2 && f 2 2 < 128) ∧
    tOk tFw 8 0x8004 0 [] (fun _ _ => true) ∧ tOk tFw 9 0x9001 4 (leBytes 4 0 ++ leBytes 4 1 ++ zeros 32) (fun _ _ => true) ∧
    tOk tFw 9 0x9003 0 [] (fun s _ => !s.sec.lockout) ∧ tOk { tFw with sec := { Sec.reset with lockout := true } } 9 0x9003 0 [] (fun s _ => s.sec.lockout) ∧
    tOk tFw 9 0x9005 0 ([0xFF, 0xFF, 0, 0] ++ zeros 32) (fun _ _ => true) ∧ tOk tFw 9 0x9006 0 [7, 0] (fun s f => tget [] s.fw.keys (f 0 2) = []) ∧
    tOk (tFw.mapFw (fun w => { w with keys := [(7, [1])] })) 9 0x9006 0 [7, 0] (fun s f => tget [] s.fw.keys (f 0 2) ≠ []) := by
  decide +kernel

/-- IMAGE_UPLOAD and DEBUG_RESPONSE with no data: an empty response names no certificate and is refused. -/
theorem witness_MolalrikServiceCommandsComplete_6 :
    let s := tAt tFw 9 0x9002 4 (zeros 8)
    let u := tAt tFw 9 0x9004 4 (zeros 8)
    AskedIn 9 0x9002 [] s ∧ chLost s 0 = false ∧ AskedIn 9 0x9004 [] u ∧ responsePerms u [] = none ∧ u.sec.refused < 2 := by
  refine ⟨⟨0, Nat.le_refl _, by decide, fun h => absurd rfl h, ?_⟩, by decide +kernel, ⟨0, Nat.le_refl _, by decide, fun h => absurd rfl h, ?_⟩, rfl, by decide⟩
  · rw [← tAsked_iff]; decide +kernel
  · rw [← tAsked_iff]; decide +kernel

/-! ### Boot, security, power -/

/-- Clove running in the mask ROM, the start not decided; `lcs` and a slot 1 with a valid header or none. -/
def tBoot (lcs : Nat) (slot : Bool) : State :=
  let s := { setProcSt State.reset 96 1 with phase := 2, otp := { Otp.reset with lcs := lcs } }
  if slot then s.setBytes (slotBase 1) (leBytes 4 0x4254494D ++ leBytes 2 1 ++ leBytes 2 1) else s

/-- The certificate chain and the signatures of a container are free values, so no slot can be shown to verify. -/
theorem witness_PowerAndSecurityCommandsComplete_1 :
    State.reset.rstReq = [] ∧ ({ State.reset with rstReq := [3] } : State).rstReq = [3] ∧ Agent.clove ≠ .dap ∧ ¬ (Agent.trunk = .clove ∨ Agent.trunk = .dap) ∧
    tileOn State.reset 11 = false ∧ tileOn tOn 11 = true ∧ State.reset.phase = 0 ∧ State.reset.dev.low = [] ∧ State.reset.dev.refPresent = true ∧
    ({ State.reset with phase := 1 } : State).phase ≠ 0 ∧ memWf State.reset.mem ∧
    bootPending State.reset = false ∧ (bootPending (tBoot 2 false) = true ∧ (tBoot 2 false).otp.lcs = 2) ∧
    (bootPending (tSet (tBoot 1 false) [(WD_RST_CAUSE, WD_RST_CAUSE_MCHK, 1)]) = true) ∧
    (let s := tSet (tBoot 1 false) [(BT_STAT, BT_STAT_ATTEMPT, 3)]
     bootPending s = true ∧ s.fld WD_RST_CAUSE WD_RST_CAUSE_MCHK = 0 ∧ bootLimit s ≤ s.fld BT_STAT BT_STAT_ATTEMPT) ∧
    (let s := tBoot 1 false
     s.fld WD_RST_CAUSE WD_RST_CAUSE_MCHK = 0 ∧ s.fld BT_STAT BT_STAT_ATTEMPT < bootLimit s ∧ slotOrder s = []) ∧
    slotOrder (tBoot 1 true) = [1] ∧ ¬ 1 ∈ ([0] : List Nat) := by
  refine ⟨rfl, rfl, by decide, by decide, ?_⟩
  decide +kernel

theorem witness_PowerAndSecurityCommandsComplete_2 :
    (let s := State.reset.mapDev (fun d => { d with winRun := true })
     s.dev.winRun = true ∧ sysHalt s = false) ∧
    sysHalt (tSet (setProcSt State.reset 96 3) [(SEC_DBG, SEC_DBG_UNLOCKED, 1), (SEC_DBG, SEC_DBG_PERMS, 4)]) = true ∧ State.reset.dev.winRun = false ∧
    (inRun (tBoot 1 false) = false ∧ (tBoot 1 false).fld BT_STAT BT_STAT_MINIMAL = 0 ∧ (tBoot 1 false).phase = 2) ∧
    (inRun tFw = true ∧ tFw.fld BT_STAT BT_STAT_KIND = 0) ∧ (tSet tFw [(BT_STAT, BT_STAT_KIND, 1)]).fld BT_STAT BT_STAT_KIND = 1 ∧
    (tSet tFw [(BT_STAT, BT_STAT_MINIMAL, 1)]).fld BT_STAT BT_STAT_MINIMAL = 1 ∧ tFw.fld BT_STAT BT_STAT_MINIMAL = 0 := by decide +kernel

/-- A hash job block at 0x1000: SHA-256 (operation 1) of 3 bytes at 0x2000 into 0x3000. -/
def tJob (op slot : Nat) : State :=
  State.reset.setBytes 0x1000 (leBytes 1 op ++ leBytes 1 slot ++ zeros 2 ++ leBytes 4 3 ++ leBytes 8 0x2000 ++ leBytes 8 0x3000)

/-- The 32 bits of SEC_HASH_JOB_LO that name 0x1000, then a job under way. -/
def tJobSet (s : State) : State := s.setFld SEC_HASH_JOB_LO ⟨6, 26⟩ 64
def tJobBusy (op : Nat) : State := (tJobSet (tJob op 4)).setFld SEC_HASH_STAT ⟨0, 1⟩ 1

theorem witness_PowerAndSecurityCommandsComplete_3 :
    (let s := tJobSet (tJob 1 4)
     let a := bits (s.reg (jobCtl true)).toNat 6 26 * 64 + bits (0 : Word).toNat 0 8 * 2 ^ 32
     s.flag (jobStat true) ⟨0, 1⟩ = false ∧ a = 0x1000 ∧ tGood s a 2 = true ∧ keyMisuse (s.byte a).toNat (s.byte (a + 1)).toNat (fromRom s .dap) = false) ∧
    (let s := tJobSet (tJob 1 0)
     keyMisuse (s.byte 0x1000).toNat (s.byte 0x1001).toNat (fromRom s .dap) = true) ∧
    (let s := tJobBusy 16
     s.flag (jobStat true) ⟨0, 1⟩ = true ∧ tGood s (jobAddr s true) 64 = true ∧ opOk true (le (s.bytes (jobAddr s true) 64) 0 1) = false) ∧
    (let s := tJobBusy 1
     let j := s.bytes (jobAddr s true) 64
     s.flag (jobStat true) ⟨0, 1⟩ = true ∧ tGood s (jobAddr s true) 64 = true ∧ le j 0 1 = 1 ∧ tGood s (le j 8 8) (le j 4 4) = true ∧ tGood s (le j 0x10 8) 32 = true) ∧
    (State.reset.sec.checking = none ∧ State.reset.sec.lockout = false) ∧
    (let s := State.reset.mapSec (fun x => { x with checking := some 0 })
     s.sec.checking = some 0 ∧ responsePerms s (s.bytes dbgResponse (min 0 131072)) = none) ∧
    (State.reset.mapSec (fun x => { x with lockout := true, refused := 2 })).sec.lockout = true := by decide +kernel

theorem witness_PowerAndSecurityCommandsComplete_4 :
    (State.reset.mapDev (fun d => { d with refPresent := false })).dev.refPresent = false ∧ State.reset.dev.refPresent = true ∧
    State.reset.fld CK_STAT CK_STAT_REF_SEL = 0 ∧ State.reset.fld CK_STAT CK_STAT_HOLD = 0 ∧
    (let s := tSet State.reset [(CK_STAT, CK_STAT_HOLD, 1), (CK_STAT, CK_STAT_XTAL_OK, 1), (CK_CTL, CK_CTL_XTAL_EN, 1)]
     s.fld CK_STAT CK_STAT_HOLD = 1 ∧ s.fld CK_STAT CK_STAT_FREERUN = 0 ∧ s.fld CK_CTL CK_CTL_XTAL_EN = 1 ∧ s.fld CK_STAT CK_STAT_XTAL_OK = 1 ∧ s.dev.xtal = true) ∧
    (let s := tSet State.reset [(CK_STAT, CK_STAT_HOLD, 1), (CK_CTL, CK_CTL_XTAL_EN, 0)]
     s.fld CK_STAT CK_STAT_HOLD = 1 ∧ s.fld CK_STAT CK_STAT_FREERUN = 0 ∧ s.fld CK_CTL CK_CTL_XTAL_EN = 0) ∧
    (State.reset.dev.switching = false ∧ (State.reset.mapDev (fun d => { d with switching := true })).dev.switching = true) ∧
    (∀ k : Fin 2, let s := tSet State.reset [(CK_STAT, CK_STAT_REF_SEL, 1), (CK_STAT, CK_STAT_REF_OK, 1), (CK_CTL, CK_CTL_AUTO_RETURN, k)]
     s.dev.refPresent = true ∧ s.fld CK_STAT CK_STAT_REF_SEL = 1 ∧ s.fld CK_STAT CK_STAT_REF_OK = 1 ∧ s.fld CK_CTL CK_CTL_AUTO_RETURN = k) ∧
    State.reset.fld CK_STAT CK_STAT_REF_OK = 0 := by decide +kernel

theorem witness_PowerAndSecurityCommandsComplete_5 :
    (tileGate State.reset 0 = false ∧ mayGate State.reset 0 = true ∧ bits (0xFFF : Word).toNat 11 1 = 1) ∧
    mayGate (State.reset.setCore 47 { Core.reset with st := 2 }) 11 = false ∧
    (bits (0 : Word).toNat 11 1 = 0 ∧ tileGate (tSet State.reset [(PM_TILE_CTL, PM_TILE_CTL_GATE, 0x800)]) 11 = true) ∧
    (∀ k : Fin 3, tilePend (setTilePend 11 k State.reset) 11 = k) ∧
    (tileRet State.reset 11 = false ∧ tileRet (tSet State.reset [(PM_TILE_CTL, PM_TILE_CTL_RET, 0x800)]) 11 = true) ∧
    (inRun tFw = true ∧ sxRunning tFw = false ∧ tFw.dev.stby = 0 ∧ (∀ g : Fin 8, tFw.fld (DRV_GRP_g_CTL g) DRV_GRP_g_CTL_EN_OUT = 0) ∧
      ∀ j : Fin 12, tileGate tFw j = true ∨ tileOn tFw j = false) ∧
    (inRun State.reset = false ∧ sxRunning (tSet tFw [(SX_STAT, SX_STAT_RUNNING, 1)]) = true) ∧
    (∀ k : Fin 4, let s := tFw.mapDev (fun d => { d with stby := k }); s.dev.stby = k ∧ s.dev.wakeLater = false) ∧
    (tFw.mapDev (fun d => { d with stby := 1, wakeLater := true })).dev.wakeLater = true := by decide +kernel

theorem witness_PowerAndSecurityCommandsComplete_6 :
    (devArmed State.reset = false ∧ State.reset.dev.cvFrozen = none) ∧
    (let s := { tSet State.reset [(WD_DEV_CTL, WD_DEV_CTL_EN, 1), (WD_DEV_CFG, WD_DEV_CFG_OPEN, 10), (WD_DEV_CFG, WD_DEV_CFG_WARN, 1)] with timeNs := 10000000 }
     devArmed s = true ∧ bits (0x00005744 : Word).toNat 0 16 = 0x5744 ∧ s.fld WD_DEV_CFG WD_DEV_CFG_OPEN = devElapsed s ∧ s.fld WD_DEV_CFG WD_DEV_CFG_WARN ≠ 0 ∧
     devElapsed { s with timeNs := 9999999 } < s.fld WD_DEV_CFG WD_DEV_CFG_OPEN) ∧
    (State.reset.mapDev (fun d => { d with cvFrozen := some 5 })).dev.cvFrozen ≠ none ∧
    (let s := tSet State.reset [(WD_SC_n_CFG 47, WD_SC_n_CFG_EN, 1), (WD_SC_n_CFG 47, WD_SC_n_CFG_LIMIT, 2), (WD_SC_n_STAT 47, WD_SC_n_STAT_TICKS, 2)]
     s.fld (WD_SC_n_CFG 47) WD_SC_n_CFG_EN = 1 ∧ max (s.fld (WD_SC_n_CFG 47) WD_SC_n_CFG_LIMIT) 1 ≤ s.fld (WD_SC_n_STAT 47) WD_SC_n_STAT_TICKS) ∧
    (let s := tSet State.reset [(PM_DDR_CFG, PM_DDR_CFG_MIRROR, 1), (PM_DDR_STAT, PM_DDR_STAT_CH1_LOST, 1)]
     ddrMirror s = true ∧ chLost s 1 = true) ∧ chLost State.reset 1 = false ∧
    (let s := State.reset.mapDev (fun d => { d with low := [7] })
     s.dev.low.contains 7 = true ∧ s.fld PM_DDR_CFG PM_DDR_CFG_REDIR = 0) ∧
    (State.reset.otp.lcs = 0 ∧ sessionHas (tSet { State.reset with otp := { Otp.reset with lcs := 1 } }
      [(SEC_DBG, SEC_DBG_UNLOCKED, 1), (SEC_DBG, SEC_DBG_PERMS, 8)]) 3 = true) := by decide +kernel

/-- A memory channel lost without a mirror in RUN asks for a warm reset (R432), the loss of the reference starts the hold (R390), and
the gate register has no bit for domains 12 and 13 (R389). -/
theorem test_power_events :
    (tNext (exec (.ddrChannelLost 1) (tFw.setFld PM_DDR_CFG PM_DDR_CFG_MIRROR 0))).rstReq = [5] ∧
    (tNext (exec .refclkLoss State.reset)).fld CK_STAT CK_STAT_HOLD = 1 ∧
    (tNext (exec (.clockGateWrite .clove false 0xFFFFFFFF) State.reset)).reg CK_GATE_LO = 0xFFFFCFFF#32 := by decide +kernel

/-! ### Debug -/

theorem witness_DebugAndAccessCommandsComplete_1 :
    (dapMay { State.reset with otp := { Otp.reset with lcs := 1 } } 0x200045A000 0 true true = false) ∧
    (dapMay State.reset 0x200045A000 0 true true = true ∧ SNS_ID ≤ 0x2000465000 ∧ 0x2000465000 < CV_ID ∧ dapMay State.reset 0x2000465000 0 false true = true ∧
      dapMay State.reset 0x2000465000 0 true true = true) ∧
    (dapMay State.reset 0x3000000000 0 true true = true ∧ (0x300FFFFFFF : Nat) < 0x3010000000) ∧ MB_i_CNT 15 < 2 ^ 40 ∧
    (let s := (setDmaState 12 0 2 State.reset).mapDma 12 0 (fun d => { d with w := [0, 0x4F] })
     dmaState s 12 0 = 2 ∧ dSrc (s.dmaOf 12 0) / 2 ^ 32 = 0x4FFFFFFFFF / 2 ^ 32) ∧ (State.reset.proc 95).waitEv = none := by decide +kernel

/-- Core 0 as `tIssue` has it, frozen while it ran. -/
def tFrozen : State := tIssue.setCore 0 { tIssue.core 0 with st := 6, frozenFrom := 2 }

theorem witness_DebugAndAccessCommandsComplete_2 :
    (∀ k : Fin 8, (tCore ({ · with st := k })).core 0 = { Core.reset with st := k }) ∧
    (let s := tCore ({ · with st := 2, freezeReq := true })
     let c := s.core 0
     c.freezeReq = true ∧ c.st ≠ 6 ∧ c.hold = [] ∧ c.waitLock = false ∧ c.stepping = false ∧ c.stores = [] ∧ holdsLock s 0 = false ∧
     holdsLock (takeLock 0 s) 0 = true ∧ ((takeLock 0 s).core 0).freezeReq = true ∧ ((takeLock 0 s).core 0).hold = [] ∧ ((takeLock 0 s).core 0).stores = []) ∧
    (let s := tFrozen
     let c := s.core 0
     c.st = 6 ∧ c.frozenFrom = 2 ∧ coreOn s 0 = true ∧ c.gap = .none ∧ c.haltReq = false ∧ c.breakDue = false ∧ c.flight = [] ∧ c.stores = [] ∧
     c.hold = [] ∧ c.waitLock = false ∧ c.pc < 4096 ∧ c.repLeft = 0 ∧ c.br = none ∧ c.sfld sLoopact = 0 ∧ lockHeld s 0 = false ∧
     fetchMarks s 0 c.pc = [0, 0, 0, 0] ∧ ∀ k : Fin 4, s.flag (DBG_SC_n_BP_k 0 k) DBG_SC_n_BP_k_EN = false) := by decide +kernel

theorem witness_DebugAndAccessCommandsComplete_bstep : decodeBundle (fetchBundle tFrozen 0 (tFrozen.core 0).pc) = .ok
    { ls0 := none, ls1 := none, ma0 := none, ma1 := none, al0 := some tAdd, al1 := none, fp := none, ct := .nop, window := false } := rfl

/-- Processor `p` halted before opcode 0, a NOP of one byte. -/
def tHalted (p : Nat) : State := setProcSt (tProc p 0 0 0 0 id) p 3

theorem witness_DebugAndAccessCommandsComplete_3 :
    (let s := tProc 96 0 0 0 0 id
     procSt s 96 = 1 ∧ atBoundary s 96 = true ∧ atBoundary (s.setProc 96 { Cpu.reset with waitEv := some 0 }) 96 = false) ∧
    (let s := tHalted 96
     procSt s 96 = 3 ∧ s.ctl.mchk = 0 ∧ pres s 48 = 0 ∧ s.fld MC_CV_STAT MC_CV_STAT_SWAP_PEND = 0 ∧ (s.proc 96).haltReq = false ∧
     (s.proc 96).stepping = false ∧ s.ctl.inject = false ∧ (s.proc 96).pc < 2 ^ 24) ∧
    (∀ p ∈ [96, 95], let s := tHalted p
     let e := dtEntry s p 0
     procSt s p = 3 ∧ atBoundary s p = true ∧ procClock s p = true ∧ parityOk e = true ∧ dtValid e = true ∧ dtForm e = 0 ∧
     dtIn e ≤ (s.proc p).os.length ∧ (s.proc p).os.length - dtIn e + dtOut e ≤ osCap p) ∧
    ((tHalted 95).proc 95).pc < 4096 ∧ (tHalted 95).byte (suProg 95 + ((tHalted 95).proc 95).pc) = 0 := by decide +kernel

theorem witness_DebugAndAccessCommandsComplete_fetch : ∃ i, i < 256 ∧ extFetch (tHalted 96) ((tHalted 96).proc 96).pc = .word i :=
  ⟨0, by decide, rfl⟩

theorem witness_DebugAndAccessCommandsComplete_4 :
    (∀ k : Fin 2, (tSet State.reset [(DBG_VT_t_STAT 48, DBG_VT_t_STAT_IN_FULL, k)]).fld (DBG_VT_t_STAT 48) DBG_VT_t_STAT_IN_FULL = k) ∧
    (bits (0x002F0000 : Word).toNat 0 4 = 0 ∧ bits (0x002F0000 : Word).toNat 16 12 = 47) ∧
    (let s := tSet (State.reset.setCore 47 { Core.reset with st := 1 }) [(DBG_WIN_SEL, DBG_WIN_SEL_INST, 47)]
     s.fld DBG_WIN_SEL DBG_WIN_SEL_KIND = 0 ∧ s.fld DBG_WIN_SEL DBG_WIN_SEL_INST = 47 ∧ winMay s 0 = true ∧ (s.core 47).st = 1) ∧
    2 < (tSet State.reset [(DBG_WIN_SEL, DBG_WIN_SEL_KIND, 3)]).fld DBG_WIN_SEL DBG_WIN_SEL_KIND ∧
    winMay { State.reset with otp := { Otp.reset with lcs := 1 } } 0 = false ∧ State.reset.dev.winDue = false ∧
    (State.reset.mapDev (fun d => { d with winDue := true })).dev.winDue = true ∧
    (State.reset.fld BB_STAT BB_STAT_FROZEN = 0 ∧ State.reset.bb.post = none ∧ State.reset.fld BB_STAT BB_STAT_ARMED = 1 ∧ 32768 ≤ bits (0x8000 : Word).toNat 0 16) ∧
    (tSet State.reset [(BB_STAT, BB_STAT_FROZEN, 1)]).fld BB_STAT BB_STAT_FROZEN = 1 ∧
    ({ State.reset with bb := { Bb.reset with post := some 0 } } : State).bb.post = some 0 := by decide +kernel

/-- R425: the first record stands in slot 0 with time 0 (clock not locked), code 2 of source 0x123, and the arguments. -/
theorem test_nutmeg_record :
    let s := (State.reset.setReg (BB_WR_ARG_k 0) 0xA).setReg (BB_WR_ARG_k 3) 0xB
    let t := tNext (exec (.nutmegRecord .clove 0x01230002) s)
    (t.bytes (bbSlot 0 + 8) 8 = [0x23, 1, 2, 0, 0, 0, 0, 0]) ∧ t.bytes (bbSlot 0 + 16) 4 = [0xA, 0, 0, 0] ∧ t.reg BB_SEQ = 1 := by decide +kernel

end Sys2Proof.Machine
end

section
/-! SUPPORT. The map swap at a block tick (R26, R28, R30, R45): what the port checks and remaps before it leave of its
inputs, what the swap makes of them, and O12. -/

namespace Sys2Proof.Machine
open R

@[simp] theorem reg_with_sx (s : State) (x : Sx) (a : Nat) : ({ s with sx := x } : State).reg a = s.reg a := rfl
@[simp] theorem fld_with_sx (s : State) (x : Sx) (a : Nat) (f : Fld) : ({ s with sx := x } : State).fld a f = s.fld a f := rfl

/-! ### What happens at the tick before the swap -/

/-- The registers that a block tick of the exchange may write before its swap: its errors and state, and the ports' states
and tiles. -/
def BeforeSwapReg (a : Nat) : Prop := a = SX_ERR ∨ a = SX_STAT ∨ ∃ p, a = SX_TP_t_STAT p ∨ a = SX_TP_t_PHYS p

theorem beforeSwapReg_err : BeforeSwapReg SX_ERR := .inl rfl
theorem beforeSwapReg_stat : BeforeSwapReg SX_STAT := .inr (.inl rfl)
theorem beforeSwapReg_portStat (p : Nat) : BeforeSwapReg (SX_TP_t_STAT p) := .inr (.inr ⟨p, .inl rfl⟩)
theorem beforeSwapReg_phys (p : Nat) : BeforeSwapReg (SX_TP_t_PHYS p) := .inr (.inr ⟨p, .inr rfl⟩)

theorem not_beforeSwapReg_cfg : ¬ BeforeSwapReg SX_CFG := by
  rintro (h | h | ⟨q, h | h⟩) <;> simp only [SX_CFG, SX_ERR, SX_STAT, SX_TP_t_STAT, SX_TP_t_PHYS] at h <;> omega

theorem not_beforeSwapReg_mapStat : ¬ BeforeSwapReg SX_MAP_STAT := by
  rintro (h | h | ⟨q, h | h⟩) <;> simp only [SX_MAP_STAT, SX_ERR, SX_STAT, SX_TP_t_STAT, SX_TP_t_PHYS] at h <;> omega

theorem not_beforeSwapReg_portCfg (p : Nat) : ¬ BeforeSwapReg (SX_TP_t_CFG p) := by
  rintro (h | h | ⟨q, h | h⟩) <;> simp only [SX_TP_t_CFG, SX_ERR, SX_STAT, SX_TP_t_STAT, SX_TP_t_PHYS] at h <;> omega

theorem not_beforeSwapReg_portActive (p : Nat) : ¬ BeforeSwapReg (SX_TP_t_ACFG p) := by
  rintro (h | h | ⟨q, h | h⟩) <;> simp only [SX_TP_t_ACFG, SX_ERR, SX_STAT, SX_TP_t_STAT, SX_TP_t_PHYS] at h <;> omega

/-- `t` has what a swap reads as `s` has it. -/
structure KeepsSwapInputs (s t : State) : Prop where
  reg : ∀ a, ¬ BeforeSwapReg a → t.reg a = s.reg a
  prodShadow : t.sx.prodShadow = s.sx.prodShadow
  consShadow : t.sx.consShadow = s.sx.consShadow
  frame : t.frame = s.frame

namespace KeepsSwapInputs

theorem refl (s : State) : KeepsSwapInputs s s := ⟨fun _ _ => rfl, rfl, rfl, rfl⟩

theorem trans {s t u : State} (h : KeepsSwapInputs s t) (k : KeepsSwapInputs t u) : KeepsSwapInputs s u :=
  ⟨fun a ha => (k.reg a ha).trans (h.reg a ha), k.prodShadow.trans h.prodShadow, k.consShadow.trans h.consShadow,
    k.frame.trans h.frame⟩

theorem setFld {s t : State} (h : KeepsSwapInputs s t) {a : Nat} (ha : BeforeSwapReg a) (f : Fld) (x : Nat) :
    KeepsSwapInputs s (t.setFld a f x) :=
  h.trans ⟨fun b hb => reg_setFld_other t a b f x (fun e => hb (e ▸ ha)), rfl, rfl, rfl⟩

theorem incSat {s t : State} (h : KeepsSwapInputs s t) {a : Nat} (ha : BeforeSwapReg a) (f : Fld) :
    KeepsSwapInputs s (t.incSat a f) := by
  unfold State.incSat
  split
  · exact h.setFld ha f _
  · exact h

theorem with_sx {s t : State} (h : KeepsSwapInputs s t) (x : Sx) (hp : x.prodShadow = t.sx.prodShadow)
    (hc : x.consShadow = t.sx.consShadow) : KeepsSwapInputs s { t with sx := x } :=
  ⟨h.reg, hp.trans h.prodShadow, hc.trans h.consShadow, h.frame⟩

theorem foldl {f : State → Nat → State} (h : ∀ s t, KeepsSwapInputs s (f s t)) (l : List Nat) (s : State) :
    KeepsSwapInputs s (l.foldl f s) := by
  induction l generalizing s with
  | nil => exact refl s
  | cons t l ih => exact (h s t).trans (ih (f s t))

end KeepsSwapInputs

theorem checkPort_keepsSwapInputs (s : State) (p : Nat) : KeepsSwapInputs s (checkPort s p) := by
  have hp := beforeSwapReg_portStat p
  have h := KeepsSwapInputs.refl s
  unfold checkPort
  split
  · exact h
  · split
    · exact (h.setFld hp SX_TP_t_STAT_LATE_RUN 0).with_sx _ rfl rfl
    · have late := (h.incSat hp SX_TP_t_STAT_LATE_RUN).setFld hp SX_TP_t_STAT_TX_LATE 1
      dsimp only
      split
      · exact late.setFld hp _ _
      · exact late

theorem tilePorts_keepsSwapInputs (s : State) (check : Bool) : KeepsSwapInputs s (tilePorts s check) := by
  have clear (t : State) : KeepsSwapInputs t ((List.range 12).foldl clearTxrdy t) :=
    .foldl (fun t p => (KeepsSwapInputs.refl t).setFld (beforeSwapReg_portStat p) _ _) _ t
  have sent := (KeepsSwapInputs.refl s).with_sx { s.sx with sending := [] } rfl rfl
  unfold tilePorts
  cases check with
  | false => exact sent.trans (clear _)
  | true => exact (sent.trans (.foldl checkPort_keepsSwapInputs _ _)).trans (clear _)

theorem tileRemap_keepsSwapInputs (s : State) (p : Nat) : KeepsSwapInputs s (tileRemap s p) := by
  have hs := beforeSwapReg_portStat p
  have hp := beforeSwapReg_phys p
  have h := KeepsSwapInputs.refl s
  unfold tileRemap
  split
  · exact h
  · split
    · exact (h.setFld beforeSwapReg_err _ _).setFld hp _ _
    · exact (((h.setFld hp _ _).setFld hs _ _).setFld hs _ _).setFld hs _ _

theorem tileRemaps_keepsSwapInputs (s : State) : KeepsSwapInputs s (tileRemaps s) := by
  have remapped := KeepsSwapInputs.foldl tileRemap_keepsSwapInputs (List.range 12) s
  unfold tileRemaps
  generalize (List.range 12).foldl tileRemap s = u at remapped ⊢
  exact remapped.with_sx { u.sx with remapReq := [] } rfl rfl

/-- R26, R45: where a swap is due, the block tick is the swap of a state with the same inputs; only the halves and the words on
their way change after it. -/
theorem sxBlockTick_swaps (s : State) (hrun : s.fld SX_CTL SX_CTL_RUN = 1)
    (h : (s.fld SX_STAT SX_STAT_RUNNING = 1 ∧ s.fld SX_MAP_STAT SX_MAP_STAT_SWAP_PEND = 1) ∨ s.fld SX_STAT SX_STAT_RUNNING = 0) :
    ∃ u half history, KeepsSwapInputs s u ∧
      sxBlockTick s = { mapSwap u with sx := { (mapSwap u).sx with half := half, history := history } } := by
  have hr : s.flag SX_CTL SX_CTL_RUN = true := by simp [State.flag, hrun]
  have ports (check : Bool) : KeepsSwapInputs s (tileRemaps (tilePorts s check)) :=
    (tilePorts_keepsSwapInputs s check).trans (tileRemaps_keepsSwapInputs _)
  rcases h with ⟨hrunning, hpend⟩ | hstopped
  · have hR : sxRunning s = true := by simp [sxRunning, State.flag, hrunning]
    have hp : (tileRemaps (tilePorts s true)).flag SX_MAP_STAT SX_MAP_STAT_SWAP_PEND = true := by
      simp only [State.fld] at hpend
      simp [State.flag, State.fld, (ports true).reg _ not_beforeSwapReg_mapStat, hpend]
    simp only [sxBlockTick, hR, hr, hp, Bool.and_self, if_true]
    exact ⟨_, _, _, ports true, rfl⟩
  · have hR : sxRunning s = false := by simp [sxRunning, State.flag, hstopped]
    simp only [sxBlockTick, hR, hr, Bool.false_and, Bool.false_eq_true, if_false, if_true]
    exact ⟨_, _, _, ((ports false).setFld beforeSwapReg_stat _ _).setFld beforeSwapReg_stat _ _, rfl⟩

/-! ### The channel counts of a swap (R30) -/

/-- The active counts of port `p` after a swap from `s`. -/
def swappedCounts (s : State) (p : Nat) : Word :=
  if countBad s (s.fld (SX_TP_t_CFG p) SX_TP_t_CFG_RXCH) || countBad s (s.fld (SX_TP_t_CFG p) SX_TP_t_CFG_TXCH)
  then s.reg (SX_TP_t_ACFG p) else s.reg (SX_TP_t_CFG p)

theorem blockN_congr {s t : State} (h : t.reg SX_CFG = s.reg SX_CFG) : blockN t = blockN s := by
  simp only [blockN, State.fld, h]

theorem countBad_congr {s t : State} (h : t.reg SX_CFG = s.reg SX_CFG) (n : Nat) : countBad t n = countBad s n := by
  simp only [countBad, blockN_congr h]

theorem swappedCounts_congr {s t : State} {p : Nat} (h : t.reg SX_CFG = s.reg SX_CFG)
    (hcfg : t.reg (SX_TP_t_CFG p) = s.reg (SX_TP_t_CFG p)) (hact : t.reg (SX_TP_t_ACFG p) = s.reg (SX_TP_t_ACFG p)) :
    swappedCounts t p = swappedCounts s p := by
  have hfld (f : Fld) : t.fld (SX_TP_t_CFG p) f = s.fld (SX_TP_t_CFG p) f := by simp only [State.fld, hcfg]
  unfold swappedCounts
  rw [countBad_congr h, countBad_congr h, hfld, hfld, hcfg, hact]

theorem KeepsSwapInputs.swappedCounts_eq {s t : State} (h : KeepsSwapInputs s t) (p : Nat) :
    swappedCounts t p = swappedCounts s p :=
  swappedCounts_congr (h.reg _ not_beforeSwapReg_cfg) (h.reg _ (not_beforeSwapReg_portCfg p))
    (h.reg _ (not_beforeSwapReg_portActive p))

theorem KeepsSwapInputs.blockNo_eq {s t : State} (h : KeepsSwapInputs s t) : blockNo t = blockNo s := by
  simp only [blockNo, h.frame, blockN_congr (h.reg _ not_beforeSwapReg_cfg)]

theorem takeCounts_reg_same (s : State) (p : Nat) : (takeCounts s p).reg (SX_TP_t_ACFG p) = swappedCounts s p := by
  unfold takeCounts swappedCounts
  split
  · rfl
  · exact reg_setReg_same ..

theorem takeCounts_reg_other (s : State) (p a : Nat) (h : a ≠ SX_TP_t_ACFG p) : (takeCounts s p).reg a = s.reg a := by
  unfold takeCounts
  split
  · rfl
  · exact reg_setReg_other _ _ _ _ h

theorem takeCounts_rest (s : State) (p : Nat) : (takeCounts s p).sx = s.sx ∧ (takeCounts s p).frame = s.frame := by
  unfold takeCounts
  split <;> exact ⟨rfl, rfl⟩

theorem foldl_takeCounts_rest (l : List Nat) (s : State) :
    (l.foldl takeCounts s).sx = s.sx ∧ (l.foldl takeCounts s).frame = s.frame := by
  induction l generalizing s with
  | nil => exact ⟨rfl, rfl⟩
  | cons q l ih =>
    obtain ⟨hsx, hframe⟩ := takeCounts_rest s q
    obtain ⟨ihsx, ihframe⟩ := ih (takeCounts s q)
    exact ⟨ihsx.trans hsx, ihframe.trans hframe⟩

theorem foldl_takeCounts_reg_other (l : List Nat) (s : State) (a : Nat) (h : ∀ p ∈ l, a ≠ SX_TP_t_ACFG p) :
    (l.foldl takeCounts s).reg a = s.reg a := by
  induction l generalizing s with
  | nil => rfl
  | cons q l ih =>
    rw [List.foldl_cons, ih _ (fun p hp => h p (List.mem_cons_of_mem _ hp)),
      takeCounts_reg_other _ _ _ (h q (List.mem_cons_self ..))]

theorem portActive_injective {p q : Nat} (h : SX_TP_t_ACFG p = SX_TP_t_ACFG q) : p = q := by
  simp only [SX_TP_t_ACFG] at h; omega

theorem cfg_ne_portActive (p : Nat) : SX_CFG ≠ SX_TP_t_ACFG p := by simp only [SX_CFG, SX_TP_t_ACFG]; omega

theorem portCfg_ne_portActive (p q : Nat) : SX_TP_t_CFG p ≠ SX_TP_t_ACFG q := by
  simp only [SX_TP_t_CFG, SX_TP_t_ACFG]; omega

/-- The counts of one port do not depend on those that other ports have taken before it. -/
theorem swappedCounts_takeCounts {p q : Nat} (s : State) (h : p ≠ q) : swappedCounts (takeCounts s q) p = swappedCounts s p :=
  swappedCounts_congr (takeCounts_reg_other _ _ _ (cfg_ne_portActive q)) (takeCounts_reg_other _ _ _ (portCfg_ne_portActive p q))
    (takeCounts_reg_other _ _ _ (fun e => h (portActive_injective e)))

theorem foldl_takeCounts_reg_active {l : List Nat} (hl : l.Nodup) {p : Nat} (hp : p ∈ l) (s : State) :
    (l.foldl takeCounts s).reg (SX_TP_t_ACFG p) = swappedCounts s p := by
  induction l generalizing s with
  | nil => cases hp
  | cons q l ih =>
    obtain ⟨hq, hl⟩ := List.nodup_cons.1 hl
    rw [List.foldl_cons]
    rcases List.mem_cons.1 hp with rfl | hp
    · have hother : ∀ r ∈ l, SX_TP_t_ACFG p ≠ SX_TP_t_ACFG r := fun r hr e => hq (portActive_injective e ▸ hr)
      rw [foldl_takeCounts_reg_other l _ _ hother, takeCounts_reg_same]
    · rw [ih hl hp, swappedCounts_takeCounts s (ne_of_mem_of_not_mem hp hq)]

/-! ### The swap -/

theorem recordFails_rest (s : State) (l : List Nat) : (recordFails s l).sx = s.sx ∧ (recordFails s l).frame = s.frame := by
  cases l with
  | nil => exact ⟨rfl, rfl⟩
  | cons o l =>
    simp only [recordFails]
    split <;> exact ⟨rfl, rfl⟩

theorem recordFails_reg_other (s : State) (l : List Nat) (a : Nat) (herr : a ≠ SX_ERR) (hslot : a ≠ SX_ERR_SLOT) :
    (recordFails s l).reg a = s.reg a := by
  cases l with
  | nil => rfl
  | cons o l =>
    simp only [recordFails]
    rw [reg_setFld_other _ _ _ _ _ herr]
    split
    · rfl
    · exact reg_setReg_other _ _ _ _ hslot

/-- The state of a swap once the counts are taken and the failures recorded (R27, R30). -/
def swapChecked (s : State) : State :=
  let s1 := (List.range 12).foldl takeCounts s
  recordFails s1 (countFails s ++ mapFails s1)

theorem swapChecked_rest (s : State) : (swapChecked s).sx = s.sx ∧ (swapChecked s).frame = s.frame := by
  obtain ⟨hsx, hframe⟩ := foldl_takeCounts_rest (List.range 12) s
  obtain ⟨rsx, rframe⟩ := recordFails_rest ((List.range 12).foldl takeCounts s)
    (countFails s ++ mapFails ((List.range 12).foldl takeCounts s))
  exact ⟨rsx.trans hsx, rframe.trans hframe⟩

theorem swapChecked_reg_cfg (s : State) : (swapChecked s).reg SX_CFG = s.reg SX_CFG :=
  (recordFails_reg_other _ _ _ (by decide) (by decide)).trans
    (foldl_takeCounts_reg_other _ _ _ (fun p _ => cfg_ne_portActive p))

theorem swapChecked_reg_active (s : State) {p : Nat} (hp : p < 12) :
    (swapChecked s).reg (SX_TP_t_ACFG p) = swappedCounts s p :=
  (recordFails_reg_other _ _ _ (by simp only [SX_TP_t_ACFG, SX_ERR]; omega) (by simp only [SX_TP_t_ACFG, SX_ERR_SLOT]; omega)).trans
    (foldl_takeCounts_reg_active List.nodup_range (List.mem_range.2 hp) s)

/-- The swap after its checks (R26, R28): the maps are exchanged, the request is gone, the copy runs and B is noted. -/
theorem mapSwap_eq (s : State) : ∃ t : State,
    mapSwap s = ((withdrawSwap t).setFld SX_MAP_STAT SX_MAP_STAT_COPYING 1).setReg SX_MAP_SWAPBLK (BitVec.ofNat 32 (blockNo s)) ∧
    t.sx = { s.sx with prodActive := s.sx.prodShadow, consActive := s.sx.consShadow } ∧
    ∀ a, t.reg a = (swapChecked s).reg a := by
  obtain ⟨hsx, hframe⟩ := swapChecked_rest s
  let t : State := { swapChecked s with
    sx := { (swapChecked s).sx with prodActive := (swapChecked s).sx.prodShadow, consActive := (swapChecked s).sx.consShadow } }
  have hB : blockNo t = blockNo s := by
    simp only [blockNo, blockN_congr (show t.reg SX_CFG = s.reg SX_CFG from swapChecked_reg_cfg s),
      show t.frame = s.frame from hframe]
  exact ⟨t, by rw [← hB]; rfl, by simp only [t, hsx], fun _ => rfl⟩

theorem mapSwap_prodActive (s : State) : (mapSwap s).sx.prodActive = s.sx.prodShadow := by
  obtain ⟨t, he, hsx, -⟩ := mapSwap_eq s
  simp [he, withdrawSwap, hsx]

theorem mapSwap_consActive (s : State) : (mapSwap s).sx.consActive = s.sx.consShadow := by
  obtain ⟨t, he, hsx, -⟩ := mapSwap_eq s
  simp [he, withdrawSwap, hsx]

theorem mapSwap_swapReq (s : State) : (mapSwap s).fld SX_MAP_CTL SX_MAP_CTL_SWAP_REQ = 0 := by
  obtain ⟨t, he, -, -⟩ := mapSwap_eq s
  rw [he, fld_setReg_other _ _ _ _ _ (by decide), fld_setFld_other _ _ _ _ _ _ (by decide), withdrawSwap,
    fld_setFld_other _ _ _ _ _ _ (by decide), fld_setFld_same _ _ _ _ (by decide), Nat.zero_mod]

theorem mapSwap_swapPend (s : State) : (mapSwap s).fld SX_MAP_STAT SX_MAP_STAT_SWAP_PEND = 0 := by
  obtain ⟨t, he, -, -⟩ := mapSwap_eq s
  rw [he, fld_setReg_other _ _ _ _ _ (by decide), fld_setFld_apart _ _ _ _ _ (by decide) (.inr (by decide)), withdrawSwap,
    fld_setFld_same _ _ _ _ (by decide), Nat.zero_mod]

theorem mapSwap_copying (s : State) : (mapSwap s).fld SX_MAP_STAT SX_MAP_STAT_COPYING = 1 := by
  obtain ⟨t, he, -, -⟩ := mapSwap_eq s
  rw [he, fld_setReg_other _ _ _ _ _ (by decide), fld_setFld_same _ _ _ _ (by decide)]
  rfl

theorem mapSwap_swapBlk (s : State) : (mapSwap s).reg SX_MAP_SWAPBLK = BitVec.ofNat 32 (blockNo s) := by
  obtain ⟨t, he, -, -⟩ := mapSwap_eq s
  rw [he, reg_setReg_same]

theorem mapSwap_reg_active (s : State) {p : Nat} (hp : p < 12) : (mapSwap s).reg (SX_TP_t_ACFG p) = swappedCounts s p := by
  obtain ⟨t, he, -, hreg⟩ := mapSwap_eq s
  have hblk : SX_TP_t_ACFG p ≠ SX_MAP_SWAPBLK := by simp only [SX_TP_t_ACFG, SX_MAP_SWAPBLK]; omega
  have hstat : SX_TP_t_ACFG p ≠ SX_MAP_STAT := by simp only [SX_TP_t_ACFG, SX_MAP_STAT]; omega
  have hctl : SX_TP_t_ACFG p ≠ SX_MAP_CTL := by simp only [SX_TP_t_ACFG, SX_MAP_CTL]; omega
  rw [he, reg_setReg_other _ _ _ _ hblk, reg_setFld_other _ _ _ _ _ hstat, withdrawSwap, reg_setFld_other _ _ _ _ _ hstat,
    reg_setFld_other _ _ _ _ _ hctl, hreg, swapChecked_reg_active s hp]

/-- Settles O12: the tick is the swap of a state with the same inputs, and the swap does each of the things named. -/
theorem mapSwapTakesTheShadow : Obligations.MapSwapTakesTheShadow := by
  intro s hrun h
  obtain ⟨u, half, history, hu, he⟩ := sxBlockTick_swaps s hrun h
  rw [he]
  simp only [fld_with_sx, reg_with_sx]
  exact ⟨(mapSwap_prodActive u).trans hu.prodShadow, (mapSwap_consActive u).trans hu.consShadow, mapSwap_swapReq u,
    mapSwap_swapPend u, mapSwap_copying u, hu.blockNo_eq ▸ mapSwap_swapBlk u,
    fun p => (mapSwap_reg_active u p.isLt).trans (hu.swappedCounts_eq p)⟩

end Sys2Proof.Machine
end

section

/-! SUPPORT. The command bits of one write to SC_n_CTL (R468): CORE_RESET is bit 2, START bit 0, HALT bit 1, WIN_STEP bit 4;
and O17. -/

namespace Sys2Proof.Machine
open R

section CommandBits

variable (n : Nat) {v : Word} (s : State)

/-- With CORE_RESET, only START of the same write still counts (R468). -/
theorem writeScCtl_of_reset (hreset : bits v.toNat 2 1 = 1) :
    writeScCtl n v s =
      if bits v.toNat 0 1 = 1 then doCoreStart n (doCoreReset n (s.writeByType (SC_n_CTL n) v))
      else doCoreReset n (s.writeByType (SC_n_CTL n) v) := by
  simp only [writeScCtl, if_pos hreset]

/-- Without CORE_RESET, HALT wins over the others, and START with WIN_STEP acts as HALT too (R468). -/
theorem writeScCtl_of_not_reset (hreset : bits v.toNat 2 1 = 0) :
    writeScCtl n v s =
      if bits v.toNat 1 1 = 1 ∨ bits v.toNat 0 1 = 1 ∧ bits v.toNat 4 1 = 1 then doCoreHalt n (s.writeByType (SC_n_CTL n) v)
      else if bits v.toNat 0 1 = 1 then doCoreStart n (s.writeByType (SC_n_CTL n) v)
      else if bits v.toNat 4 1 = 1 then doWinStep n (s.writeByType (SC_n_CTL n) v)
      else s.writeByType (SC_n_CTL n) v := by
  by_cases hhalt : bits v.toNat 1 1 = 1
  · simp [writeScCtl, hreset, hhalt]
  · simp [writeScCtl, hreset, hhalt]

/-- Of three command bits, two or more are set only if HALT is, or START and WIN_STEP are. -/
theorem halt_or_start_and_step_of_two_le (x : Nat) (h : 2 ≤ bits x 0 1 + bits x 1 1 + bits x 4 1) :
    bits x 1 1 = 1 ∨ bits x 0 1 = 1 ∧ bits x 4 1 = 1 := by
  have hstart := bits_lt x 0 1
  have hhalt := bits_lt x 1 1
  have hstep := bits_lt x 4 1
  omega

end CommandBits

/-- Settles O17: the write with CORE_RESET and the write without it, then the other command bits of each. -/
theorem coreControlWriteOrdersItsCommands : Obligations.CoreControlWriteOrdersItsCommands := by
  intro n v s w start halt reset step
  refine ⟨?resetStart, ?resetAlone, ?several, ?start, ?halt, ?step, ?none⟩
  case resetStart =>
    intro hreset hstart
    rw [writeScCtl_of_reset n s hreset, if_pos hstart]
  case resetAlone =>
    intro hreset hstart
    rw [writeScCtl_of_reset n s hreset, if_neg (by omega)]
  case several =>
    intro hreset hseveral
    rw [writeScCtl_of_not_reset n s hreset, if_pos (halt_or_start_and_step_of_two_le _ hseveral)]
  case start =>
    intro hreset hstart hhalt hstep
    rw [writeScCtl_of_not_reset n s hreset, if_neg (by omega), if_pos hstart]
  case halt =>
    intro hreset _ hhalt _
    rw [writeScCtl_of_not_reset n s hreset, if_pos (.inl hhalt)]
  case step =>
    intro hreset hstart hhalt hstep
    rw [writeScCtl_of_not_reset n s hreset, if_neg (by omega), if_neg (by omega), if_pos hstep]
  case none =>
    intro hreset hstart hhalt hstep
    rw [writeScCtl_of_not_reset n s hreset, if_neg (by omega), if_neg (by omega), if_neg (by omega)]

end Sys2Proof.Machine
end

section

/-! SUPPORT. Signed values: the two's complement form of a number in the range reads back as the number, and `satS` is the number,
or the nearer limit; then the accumulator result of R96, and O23. -/

namespace Sys2Proof.Machine

section Signed

variable {w : Nat} {i : Int}

theorem coe_unsext (w : Nat) (i : Int) : (unsext w i : Int) = i % 2 ^ w := by
  have hpos : (0 : Int) < (2 ^ w : Nat) := mod_cast Nat.two_pow_pos w
  rw [unsext, Int.toNat_of_nonneg (Int.emod_nonneg _ hpos.ne'), Nat.cast_pow, Nat.cast_ofNat]

theorem unsext_lt (w : Nat) (i : Int) : unsext w i < 2 ^ w := by
  have h : (unsext w i : Int) < 2 ^ w := coe_unsext w i ▸ Int.emod_lt_of_pos i (by positivity)
  exact_mod_cast h

theorem sext_unsext_eq_ite (w : Nat) (i : Int) :
    sext w (unsext w i) = if i % 2 ^ w < 2 ^ (w - 1) then i % 2 ^ w else i % 2 ^ w - 2 ^ w := by
  rw [← coe_unsext, sext, Nat.mod_eq_of_lt (unsext_lt w i)]
  norm_cast

theorem sext_unsext (hw : 0 < w) (hlo : -2 ^ (w - 1) ≤ i) (hhi : i ≤ 2 ^ (w - 1) - 1) : sext w (unsext w i) = i := by
  have hhalf : (2 : Int) ^ w = 2 * 2 ^ (w - 1) := (mul_pow_sub_one hw.ne' 2).symm
  rw [sext_unsext_eq_ite]
  rcases le_or_gt 0 i with hi | hi
  · have hmod : i % 2 ^ w = i := Int.emod_eq_of_lt hi (by omega)
    rw [hmod, if_pos (by omega)]
  · have hmod : i % 2 ^ w = i + 2 ^ w := by
      rw [← Int.add_emod_right, Int.emod_eq_of_lt (by omega) (by omega)]
    rw [hmod, if_neg (by omega), add_sub_cancel_right]

theorem satS_of_lt (h : i < -2 ^ (w - 1)) : satS w i = -2 ^ (w - 1) := by
  simp [satS, h]

theorem satS_of_mem (hlo : -2 ^ (w - 1) ≤ i) (hhi : i ≤ 2 ^ (w - 1) - 1) : satS w i = i := by
  simp [satS, hlo.not_gt, hhi.not_gt]

theorem satS_of_gt (h : 2 ^ (w - 1) - 1 < i) : satS w i = 2 ^ (w - 1) - 1 := by
  have hpos : (0 : Int) < 2 ^ (w - 1) := by positivity
  have hlo : ¬ i < -2 ^ (w - 1) := by omega
  simp [satS, hlo, h]

theorem fitsS_of_mem (hlo : -2 ^ (w - 1) ≤ i) (hhi : i ≤ 2 ^ (w - 1) - 1) : fitsS w i = true :=
  decide_eq_true (satS_of_mem hlo hhi)

theorem fitsS_of_not_mem (h : i < -2 ^ (w - 1) ∨ 2 ^ (w - 1) - 1 < i) : fitsS w i = false := by
  refine decide_eq_false ?_
  rcases h with h | h
  · rw [satS_of_lt h]; exact h.ne'
  · rw [satS_of_gt h]; exact h.ne

end Signed

theorem accFit_of_mem (sat : Bool) {x : Int} (hlo : -2 ^ 39 ≤ x) (hhi : x ≤ 2 ^ 39 - 1) : accFit sat x = (unsext 40 x, 0) := by
  simp only [accFit, fitsS_of_mem (w := 40) hlo hhi, satS_of_mem (w := 40) hlo hhi, ite_self, if_true]

theorem accFit_of_not_mem (sat : Bool) {x : Int} (h : x < -2 ^ 39 ∨ 2 ^ 39 - 1 < x) :
    accFit sat x = (unsext 40 (if sat then satS 40 x else x), fOV) := by
  simp only [accFit, fitsS_of_not_mem (w := 40) h, Bool.false_eq_true, if_false]

/-- The limit that an exact value outside the 40-bit range is clamped to. -/
theorem satS_eq_nearer_limit {x : Int} (h : x < -2 ^ 39 ∨ 2 ^ 39 - 1 < x) :
    satS 40 x = if x < 0 then -2 ^ 39 else 2 ^ 39 - 1 := by
  rcases h with h | h
  · rw [if_pos (by omega)]
    exact satS_of_lt h
  · rw [if_neg (by omega)]
    exact satS_of_gt h

/-- Settles O23: a value in the range and one outside it, where the limit it is clamped to is itself in the range. -/
theorem accumulatorWrapsOrClamps : Obligations.AccumulatorWrapsOrClamps := by
  intro x sat
  refine ⟨fun ⟨hlo, hhi⟩ => ?inside, fun h => ?outside⟩
  case inside =>
    rw [accFit_of_mem sat hlo hhi]
    exact ⟨sext_unsext (by decide) hlo hhi, rfl⟩
  case outside =>
    rw [accFit_of_not_mem false h, accFit_of_not_mem true h]
    have hclamp : sext 40 (unsext 40 (satS 40 x)) = satS 40 x := by
      rw [satS_eq_nearer_limit h]
      exact sext_unsext (by decide) (by split <;> decide) (by split <;> decide)
    exact ⟨coe_unsext 40 x, rfl, hclamp.trans (satS_eq_nearer_limit h), rfl⟩

end Sys2Proof.Machine
end

section

/-! SUPPORT. Issue of a conditional store (R93): what the access leaves, and the pointer update after it (R90); and O24. -/

namespace Sys2Proof.Machine

/-- The access of a conditional store: a store in flight only under the lock, the C register's result in both cases (R93). -/
theorem condIssue_eq (slot : Nat) (locked : Bool) (c : Core) (o : LsOp) (x : LsOut) :
    condIssue slot locked c o x =
      { s := x.s
        fl := x.fl ++ [mkFlight c.cyc slot c.pc (res 1 (0xC0 + o.cm) (b2n locked))]
        st := x.st ++ if locked then [{ due := c.cyc + 2, slot := slot, addr := lsAddr c o, data := lsData c o }] else []
        hd := x.hd } := by
  cases locked with
  | true => rfl
  | false => simp [condIssue]

section CondStore

variable (n slot : Nat) (locked : Bool) {c : Core} {o : LsOp} (x : LsOut) (hcls : o.cls = 3)
include hcls

theorem lsIssue_cond_of_no_update (hp : lsUpdate c o = none) :
    lsIssue n slot locked c (some o) x = condIssue slot locked c o x := by
  simp only [lsIssue, hcls, hp]

theorem lsIssue_cond_of_update {p : Nat} (hp : lsUpdate c o = some p) :
    lsIssue n slot locked c (some o) x =
      { condIssue slot locked c o x with
        fl := (condIssue slot locked c o x).fl ++ [mkFlight c.cyc slot c.pc (res 1 (0x40 + o.p) p)] } := by
  simp only [lsIssue, hcls, hp]

end CondStore

/-- Settles O24: the access, without a pointer update and with one. -/
theorem conditionalStoreNeedsTheLock : Obligations.ConditionalStoreNeedsTheLock := by
  intro n slot locked c o x hcls
  cases hp : lsUpdate c o with
  | none =>
    rw [lsIssue_cond_of_no_update n slot locked x hcls hp, condIssue_eq]
    exact ⟨rfl, rfl, rfl, (List.append_nil _).symm⟩
  | some p =>
    rw [lsIssue_cond_of_update n slot locked x hcls hp, condIssue_eq]
    exact ⟨rfl, rfl, rfl, rfl⟩

end Sys2Proof.Machine
end

section

/-! SUPPORT. Commands and what follows them: every command goes on, the queue stays (O1, O2), and every step presents only
candidates (O3); the state after reset (O4). -/

namespace Sys2Proof.Machine
open R

/-- A command is carried out to the state that its effect equals. -/
theorem Completes.of_eq {c : Instr} {s t u : State} (h : Completes c s t) (e : t = u) : Completes c s u := e ▸ h

/-- Every arm of `exec` goes on to a state of its own and then to what follows every command. -/
theorem exec_goes_on (c : Instr) (s : State) : ∃ t, Completes c s t := by
  cases c <;> exact ⟨_, rfl⟩

/-- Settles O1: the two cases of a step. -/
theorem stepRunsTheFrontCommand : Obligations.StepRunsTheFrontCommand :=
  ⟨fun _ _ _ => rfl, fun s h => by simp only [step, h]⟩

/-- Settles O2: what follows a command restores the queue. -/
theorem everyCommandGoesOnAndKeepsTheQueue : Obligations.EveryCommandGoesOnAndKeepsTheQueue := by
  intro c s
  obtain ⟨t, h⟩ := exec_goes_on c s
  exact ⟨_, h, settled_pending s t⟩

/-! ### Presentations (R289) -/

theorem presentedAreCandidates_icSettle (s : State) : PresentedAreCandidates (icSettle s) := by
  intro e he
  obtain ⟨x, -, rfl⟩ := List.mem_map.1 he
  by_cases h : (decide (x.2 = 1023) || candidate s x.1 x.2) = true
  · rw [if_pos h]
    exact (Bool.or_eq_true ..▸ h).imp of_decide_eq_true id
  · rw [if_neg h]
    exact .inl rfl

/-- The host's message changes nothing that makes a source a candidate. -/
theorem presentedAreCandidates_msixSend {s : State} (h : PresentedAreCandidates s) : PresentedAreCandidates (msixSend s) := by
  have hset (l : List Byte) (a : Nat) : PresentedAreCandidates (s.setBytes a l) := by rw [setBytes_rest]; exact h
  unfold msixSend
  split
  · exact h
  · split
    · exact h
    · exact hset _ _

theorem presentedAreCandidates_icEnd (s : State) : PresentedAreCandidates (icEnd s) := by
  have h := presentedAreCandidates_icSettle s
  unfold icEnd hostMsg
  split
  · exact presentedAreCandidates_msixSend h
  · exact h

/-- Settles O3: a step is a command, and every command ends with the exchange's look at its inputs. -/
theorem everyStepPresentsOnlyCandidates : Obligations.EveryStepPresentsOnlyCandidates := by
  intro s t h hstep
  unfold step at hstep
  split at hstep
  · injection hstep with e
    exact e ▸ h
  next c rest _ =>
    obtain ⟨u, hu⟩ := exec_goes_on c { s with pending := rest }
    rw [hu] at hstep
    injection hstep with e
    exact e ▸ presentedAreCandidates_icEnd _

/-- Settles O4: the lists of the reset state are empty, and the registers are read in the table. -/
theorem stateAfterReset : Obligations.StateAfterReset := by
  refine ⟨?_, memWf_reset, rfl, by decide, by decide, by decide, by decide, by decide, by decide, by decide, by decide, by decide, by decide⟩
  intro e he
  cases he

end Sys2Proof.Machine
end

section

/-! SUPPORT. Register fields bit by bit (R11), what writes of fields leave to read, and O5. -/

namespace Sys2Proof.Machine

/-! ### Single bits -/

theorem bits_one_eq_testBit (v i : Nat) : bits v i 1 = (v.testBit i).toNat := (Nat.toNat_testBit v i).symm

/-- A field of a field. -/
theorem bits_bits (v lo w j k : Nat) (h : j + k ≤ w) : bits (bits v lo w) j k = bits v (lo + j) k := by
  obtain ⟨m, rfl⟩ := Nat.exists_eq_add_of_le h
  unfold bits
  rw [pow_add, pow_add, mul_assoc, Nat.mod_mul_right_div_self, Nat.mod_mul_right_mod, Nat.div_div_eq_div_mul, ← pow_add]

/-- One bit of a word in which a field has been replaced. -/
theorem bits_setBits_one (v lo w x i : Nat) :
    bits (setBits v lo w x) i 1 = if lo ≤ i ∧ i < lo + w then bits x (i - lo) 1 else bits v i 1 := by
  by_cases h : lo ≤ i ∧ i < lo + w
  · obtain ⟨j, rfl⟩ := Nat.exists_eq_add_of_le h.1
    have hj : j + 1 ≤ w := by omega
    rw [if_pos h, ← bits_bits _ lo w j 1 hj, bits_setBits_same, Nat.add_sub_cancel_left]
    simpa [bits] using bits_bits x 0 w j 1 hj
  · rw [if_neg h]
    rcases Nat.lt_or_ge i lo with hi | hi
    · exact bits_setBits_below _ _ _ _ _ _ hi
    · exact bits_setBits_above _ _ _ _ _ _ (by omega)

theorem bits_or_one (a b i : Nat) : bits (a ||| b) i 1 = max (bits a i 1) (bits b i 1) := by
  simp only [bits_one_eq_testBit, Nat.testBit_or]
  cases a.testBit i <;> cases b.testBit i <;> rfl

/-- A bit of `a` without the bits of the `w`-bit number `b`. -/
theorem bits_and_sub_one {a b w i : Nat} (hb : b < 2 ^ w) (hi : i < w) :
    bits (a &&& (2 ^ w - 1 - b)) i 1 = bits a i 1 * (1 - bits b i 1) := by
  have he : 2 ^ w - 1 - b = 2 ^ w - (b + 1) := by omega
  simp only [bits_one_eq_testBit, Nat.testBit_and, he, Nat.testBit_two_pow_sub_succ hb, hi, decide_true, Bool.true_and]
  cases a.testBit i <;> cases b.testBit i <;> rfl

/-- Settles O5: one bit, inside the field and outside it, for each access type. -/
theorem fieldWriteFollowsAccessType : Obligations.FieldWriteFollowsAccessType := by
  intro f old new i _ _
  by_cases hi : f.lo ≤ i ∧ i < f.lo + f.w
  · obtain ⟨j, rfl⟩ := Nat.exists_eq_add_of_le hi.1
    have hj : j < f.w := by omega
    have field (v : Nat) : bits (bits v f.lo f.w) j 1 = bits v (f.lo + j) 1 := bits_bits _ _ _ _ _ hj
    have hn : bits new f.lo f.w < 2 ^ f.w := bits_lt ..
    rw [if_pos hi]
    unfold writeField
    cases f.acc <;>
      simp only [bits_setBits_one, if_pos hi, Nat.add_sub_cancel_left, bits_or_one, bits_and_sub_one hn hj, field]
  · rw [if_neg hi]
    unfold writeField
    cases f.acc <;> simp only [bits_setBits_one, if_neg hi]

/-! ### Fields of registers -/

section Fields
variable (s : State) (a : Nat) (f g : Fld) (x : Nat)

theorem fld_lt : s.fld a f < 2 ^ f.w := bits_lt ..

/-- A value that fits is read back. -/
theorem fld_setFld_of_lt (hf : f.lo + f.w ≤ 32) (hx : x < 2 ^ f.w) : (s.setFld a f x).fld a f = x := by
  rw [fld_setFld_same _ _ _ _ hf, Nat.mod_eq_of_lt hx]

theorem fld_setFld_ne (hf : f.lo + f.w ≤ 32) (hg : f.lo + f.w ≤ g.lo ∨ g.lo + g.w ≤ f.lo) :
    (s.setFld a f x).fld a g = s.fld a g := fld_setFld_apart s a f g x hf hg

theorem fld_setReg_same (v : Word) : (s.setReg a v).fld a f = bits v.toNat f.lo f.w := by
  simp only [State.fld, reg_setReg_same]

theorem flag_eq : s.flag a f = decide (s.fld a f ≠ 0) := rfl

theorem flag_eq_true_of_fld_eq_one (h : s.fld a f = 1) : s.flag a f = true := by simp [State.flag, h]

theorem flag_eq_false_iff : s.flag a f = false ↔ s.fld a f = 0 := by simp [State.flag]

/-- A one-bit field is its flag. -/
theorem fld_eq_b2n_flag (hf : f.w = 1) : s.fld a f = b2n (s.flag a f) := by
  have h := fld_lt s a f
  rw [hf] at h
  have : s.fld a f = 0 ∨ s.fld a f = 1 := by omega
  rcases this with h | h <;> simp [State.flag, h, b2n]

theorem incSat_reg_other (b : Nat) (h : b ≠ a) : (s.incSat a f).reg b = s.reg b := by
  unfold State.incSat
  split
  · exact reg_setFld_other _ _ _ _ _ h
  · rfl

/-- A saturating count goes up by 1 or stays at its largest value. -/
theorem fld_incSat_same (hf : f.lo + f.w ≤ 32) : (s.incSat a f).fld a f = min (2 ^ f.w - 1) (s.fld a f + 1) := by
  have h := fld_lt s a f
  unfold State.incSat
  split
  · rw [fld_setFld_of_lt _ _ _ _ hf (by omega)]; omega
  · omega

theorem fld_incSat_ne (hf : f.lo + f.w ≤ 32) (hg : f.lo + f.w ≤ g.lo ∨ g.lo + g.w ≤ f.lo) :
    (s.incSat a f).fld a g = s.fld a g := by
  unfold State.incSat
  split
  · exact fld_setFld_ne _ _ _ _ _ hf hg
  · rfl

theorem fld_incSat_other (b : Nat) (h : b ≠ a) : (s.incSat a f).fld b g = s.fld b g := by
  simp only [State.fld, incSat_reg_other _ _ _ _ h]

@[simp] theorem incSat_mem : (s.incSat a f).mem = s.mem := by
  unfold State.incSat
  split <;> rfl

end Fields

/-! ### Only some registers -/

theorem onlyRegs_refl (l : List Nat) (s : State) : OnlyRegs l s s := ⟨rfl, fun _ _ => rfl⟩

theorem OnlyRegs.setReg {l : List Nat} {s t : State} (h : OnlyRegs l s t) {a : Nat} (ha : a ∈ l) (v : Word) :
    OnlyRegs l s (t.setReg a v) := by
  obtain ⟨hrest, hreg⟩ := h
  refine ⟨hrest, fun b hb => ?_⟩
  rw [reg_setReg_other _ _ _ _ (fun e : b = a => hb (e ▸ ha)), hreg b hb]

theorem OnlyRegs.setFld {l : List Nat} {s t : State} (h : OnlyRegs l s t) {a : Nat} (ha : a ∈ l) (f : Fld) (x : Nat) :
    OnlyRegs l s (t.setFld a f x) := h.setReg ha _

theorem OnlyRegs.incSat {l : List Nat} {s t : State} (h : OnlyRegs l s t) {a : Nat} (ha : a ∈ l) (f : Fld) :
    OnlyRegs l s (t.incSat a f) := by
  unfold State.incSat
  split
  · exact h.setFld ha f _
  · exact h

/-- A write by access type changes its register alone. -/
theorem OnlyRegs.writeByType {l : List Nat} {s t : State} (h : OnlyRegs l s t) {a : Nat} (ha : a ∈ l) (v : Word) :
    OnlyRegs l s (t.writeByType a v) := by
  unfold State.writeByType
  split
  · exact h.setReg ha _
  · exact h

theorem OnlyRegs.rest {l : List Nat} {s t : State} (h : OnlyRegs l s t) : t = { s with regs := t.regs } := by
  conv_rhs => rw [← h.1]

theorem OnlyRegs.mem_eq {l : List Nat} {s t : State} (h : OnlyRegs l s t) : t.mem = s.mem :=
  (congrArg State.mem h.1 :)

end Sys2Proof.Machine
end

section

/-! SUPPORT. What a register write by access type (R11) leaves in each field. -/

namespace Sys2Proof.Machine

theorem testBit_bits (v lo w i : Nat) : (bits v lo w).testBit i = (decide (i < w) && v.testBit (lo + i)) := by
  simp [bits, Nat.testBit_mod_two_pow, Nat.testBit_div_two_pow, Nat.add_comm]

/-- What the access type makes of `w` bits that hold `old` when `new` is written to them. -/
def Acc.write (c : Acc) (w old new : Nat) : Nat :=
  match c with
  | .ro | .rc => old
  | .rw | .wo => new
  | .w1s => old ||| new
  | .w1c => old &&& (2 ^ w - 1 - new)

/-- Bits inside one run of bits of a written register. -/
theorem bits_writeField (f : FieldRow) (old new lo w : Nat) (h : f.lo ≤ lo ∧ lo + w ≤ f.lo + f.w) :
    bits (writeField f old new) lo w = f.acc.write w (bits old lo w) (bits new lo w) := by
  obtain ⟨j, rfl⟩ := Nat.exists_eq_add_of_le h.1
  have hj : j + w ≤ f.w := by omega
  have inside (x : Nat) : bits (setBits old f.lo f.w x) (f.lo + j) w = bits x j w := by
    rw [← bits_bits _ f.lo f.w j w hj, bits_setBits_same]
    simpa [bits] using bits_bits x 0 f.w j w hj
  have sub (v i : Nat) (hi : i < w) : (bits v f.lo f.w).testBit (j + i) = v.testBit (f.lo + (j + i)) := by
    rw [testBit_bits, decide_eq_true (show j + i < f.w by omega), Bool.true_and]
  unfold writeField Acc.write
  cases f.acc with
  | ro | rc => rfl
  | rw | wo => exact (inside _).trans (bits_bits _ _ _ _ _ hj)
  | w1s =>
    refine (inside _).trans (Nat.eq_of_testBit_eq fun i => ?_)
    by_cases hi : i < w
    · simp [testBit_bits, hi, sub _ _ hi, add_assoc]
    · simp [testBit_bits, hi]
  | w1c =>
    refine (inside _).trans (Nat.eq_of_testBit_eq fun i => ?_)
    have mask (k : Nat) {n : Nat} (b : Nat) (hb : b < 2 ^ n) :
        (2 ^ n - 1 - b).testBit k = (decide (k < n) && !b.testBit k) := by
      rw [show 2 ^ n - 1 - b = 2 ^ n - (b + 1) by omega, Nat.testBit_two_pow_sub_succ hb]
    by_cases hi : i < w
    · simp [testBit_bits, hi, sub _ _ hi, add_assoc, mask, bits_lt, show j + i < f.w by omega]
    · simp [testBit_bits, hi]

/-- The run of bits `f` lies beside the bits from `lo` on. -/
def FieldRow.beside (lo w : Nat) (f : FieldRow) : Bool := decide (f.lo + f.w ≤ lo) || decide (lo + w ≤ f.lo)

theorem bits_writeField_beside (f : FieldRow) (old new lo w : Nat) (h : f.beside lo w = true) :
    bits (writeField f old new) lo w = bits old lo w := by
  have beside (x : Nat) : bits (setBits old f.lo f.w x) lo w = bits old lo w := by
    rcases Bool.or_eq_true .. ▸ h with h | h
    · exact bits_setBits_above _ _ _ _ _ _ (of_decide_eq_true h)
    · exact bits_setBits_below _ _ _ _ _ _ (of_decide_eq_true h)
  unfold writeField
  cases f.acc with
  | ro | rc => rfl
  | rw | wo | w1s | w1c => exact beside _

theorem bits_writeFields_beside (fs : List FieldRow) (old new lo w : Nat) (h : fs.all (·.beside lo w) = true) :
    bits (writeFields fs old new) lo w = bits old lo w := by
  induction fs generalizing old with
  | nil => rfl
  | cons f fs ih =>
    simp only [List.all_cons, Bool.and_eq_true] at h
    rw [writeFields, ih _ h.2, bits_writeField_beside f old new lo w h.1]

/-- The access type of the `w` bits from `lo` on: that of the one run of bits that holds them. -/
def accOf (lo w : Nat) : List FieldRow → Option Acc
  | [] => none
  | f :: fs =>
    if f.beside lo w then accOf lo w fs
    else if f.lo ≤ lo ∧ lo + w ≤ f.lo + f.w ∧ fs.all (·.beside lo w) then some f.acc else none

theorem bits_writeFields (fs : List FieldRow) (old new lo w : Nat) (c : Acc) (h : accOf lo w fs = some c) :
    bits (writeFields fs old new) lo w = c.write w (bits old lo w) (bits new lo w) := by
  induction fs generalizing old with
  | nil => cases h
  | cons f fs ih =>
    unfold accOf at h
    split at h
    next hb => rw [writeFields, ih _ h, bits_writeField_beside f old new lo w hb]
    · split at h
      next hin =>
        cases h
        rw [writeFields, bits_writeFields_beside _ _ _ _ _ hin.2.2, bits_writeField _ _ _ _ _ ⟨hin.1, hin.2.1⟩]
      · cases h

/-- The fields of register `a`. -/
def fieldsAt (a : Nat) : List FieldRow :=
  match regRow a with
  | some (r, _) => r.fields
  | none => []

/-- No field of the register reaches beyond its 32 bits. -/
def fitFields (fs : List FieldRow) : Bool := fs.all (fun f => decide (f.lo + f.w ≤ 32))

theorem writeFields_lt {fs : List FieldRow} (hf : fitFields fs = true) {old : Nat} (new : Nat) (h : old < 2 ^ 32) :
    writeFields fs old new < 2 ^ 32 := by
  induction fs generalizing old with
  | nil => exact h
  | cons f fs ih =>
    simp only [fitFields, List.all_cons, Bool.and_eq_true, decide_eq_true_eq] at hf
    refine ih hf.2 ?_
    unfold writeField
    cases f.acc with
    | ro | rc => exact h
    | rw | wo | w1s | w1c => exact setBits_lt _ _ _ _ 32 h hf.1

theorem toNat_reg_writeByType (s : State) (a : Nat) (v : Word) (hf : fitFields (fieldsAt a) = true) :
    ((s.writeByType a v).reg a).toNat = writeFields (fieldsAt a) (s.reg a).toNat v.toNat := by
  unfold State.writeByType
  unfold fieldsAt at hf ⊢
  cases h : regRow a with
  | none => rfl
  | some r =>
    rw [h] at hf
    simp only [reg_setReg_same, BitVec.toNat_ofNat]
    exact Nat.mod_eq_of_lt (writeFields_lt hf _ (s.reg a).isLt)

section Write
variable (s : State) (a : Nat) (v : Word)

theorem reg_writeByType_other (b : Nat) (h : b ≠ a) : (s.writeByType a v).reg b = s.reg b := by
  unfold State.writeByType
  split
  · exact reg_setReg_other _ _ _ _ h
  · rfl

theorem fld_writeByType_other (b : Nat) (f : Fld) (h : b ≠ a) : (s.writeByType a v).fld b f = s.fld b f := by
  simp only [State.fld, reg_writeByType_other _ _ _ _ h]

/-- A field takes what its access type makes of the written bits. -/
theorem fld_writeByType {fs : List FieldRow} (g : Fld) (c : Acc) (ha : fieldsAt a = fs) (hf : fitFields fs = true)
    (hc : accOf g.lo g.w fs = some c) :
    (s.writeByType a v).fld a g = c.write g.w (s.fld a g) (bits v.toNat g.lo g.w) := by
  subst ha
  rw [State.fld, toNat_reg_writeByType _ _ _ hf, bits_writeFields _ _ _ _ _ _ hc]
  rfl

/-- What a write by access type leaves of the rest of the state. -/
theorem writeByType_rest : s.writeByType a v = { s with regs := (s.writeByType a v).regs } := by
  unfold State.writeByType
  split <;> rfl

@[simp] theorem writeByType_mem : (s.writeByType a v).mem = s.mem := by rw [writeByType_rest]
@[simp] theorem writeByType_sx : (s.writeByType a v).sx = s.sx := by rw [writeByType_rest]

end Write

end Sys2Proof.Machine
end

section

/-! SUPPORT. Commands on the exchange: its registers, map memory, ports and planes (R23 to R47), and O6 to O10, O14, O15. -/

namespace Sys2Proof.Machine
open R

/-! ### Who writes the exchange (R47) -/

theorem sxGuard_of_writer {ag : Agent} (h : sxWriter ag = true) (s : State) (f : State → State) : sxGuard ag s f = f s := by
  simp [sxGuard, h]

theorem sxGuard_of_other {ag : Agent} (h : sxWriter ag = false) (s : State) (f : State → State) :
    sxGuard ag s f = s.setFld SX_ERR SX_ERR_WRITER 1 := by
  simp [sxGuard, h]

/-- Settles O6: every write command of the exchange is guarded. -/
theorem otherWritersOnlySetExchangeWriterError : Obligations.OtherWritersOnlySetExchangeWriterError := by
  intro ag s c h hc
  have guarded : ∃ f, Completes c s (sxGuard ag s f) := by
    simp only [List.mem_cons, List.not_mem_nil, or_false] at hc
    rcases hc with (rfl | rfl | rfl | rfl | rfl | rfl) | ⟨_, _, rfl⟩ | ⟨_, _, rfl⟩ | ⟨_, rfl⟩ | ⟨_, rfl⟩ | ⟨_, _, rfl⟩ | ⟨_, rfl⟩ |
      ⟨_, rfl⟩ | ⟨_, _, rfl⟩ <;> exact ⟨_, rfl⟩
  obtain ⟨f, hf⟩ := guarded
  exact hf.of_eq (sxGuard_of_other h s f)

/-! ### Map swap and map memory -/

/-- Settles O7. -/
theorem swapRequestsAndShadowCopyComplete : Obligations.SwapRequestsAndShadowCopyComplete := by
  intro ag s w hag
  refine ⟨?_, ?_, ?_, ?_⟩
  · exact Completes.of_eq (t := sxGuard ag s (writeMapCtl 1)) rfl (sxGuard_of_writer hag s _)
  · refine Completes.of_eq (t := sxGuard ag s (writeMapCtl (if w then 3 else 2))) rfl ?_
    rw [sxGuard_of_writer hag]
    cases w <;> rfl
  · exact Completes.of_eq (t := sxGuard ag s _) rfl (sxGuard_of_writer hag s _)
  · intro hcopy
    have he : doShadowCopyDone s = _ := if_pos (flag_eq_true_of_fld_eq_one _ _ _ hcopy)
    refine ⟨doShadowCopyDone s, rfl, ?_⟩
    rw [he]
    exact ⟨fld_setFld_of_lt _ _ _ _ (by decide) (by decide), rfl, rfl, fun a ha => reg_setFld_other _ _ _ _ _ ha, rfl⟩

theorem writeShadow_of_copying {s : State} (h : s.fld SX_MAP_STAT SX_MAP_STAT_COPYING = 1) (off : Nat) (v : Word) :
    writeShadow off v s = s.setFld SX_ERR SX_ERR_SHADOW_BUSY 1 :=
  if_pos (flag_eq_true_of_fld_eq_one _ _ _ h)

section ShadowWrite
variable {s : State} (hidle : s.fld SX_MAP_STAT SX_MAP_STAT_COPYING = 0) {off : Nat} (v : Word)
include hidle

theorem writeShadow_producer (hlt : off < 0x18000) :
    writeShadow off v s = { s with sx := { s.sx with prodShadow := tput 0 s.sx.prodShadow ((off - 0x10000) / 4) (prodMask v) } } := by
  simp [writeShadow, (flag_eq_false_iff s _ _).2 hidle, hlt]

theorem writeShadow_no_entry (hge : 0x18000 ≤ off) (h : consOf ((off - 0x20000) / 4) = none) : writeShadow off v s = s := by
  simp [writeShadow, (flag_eq_false_iff s _ _).2 hidle, h, Nat.not_lt.2 hge]

theorem writeShadow_consumer (hge : 0x18000 ≤ off) {e : Nat × Nat} (h : consOf ((off - 0x20000) / 4) = some e) :
    writeShadow off v s = { s with sx := { s.sx with consShadow := tput 0 s.sx.consShadow ((off - 0x20000) / 4) (consMask v) } } := by
  simp [writeShadow, (flag_eq_false_iff s _ _).2 hidle, h, Nat.not_lt.2 hge]

end ShadowWrite

/-- A word of the map memory other than the written producer word reads as before. -/
theorem readMap_producer_other {s : State} {off o : Nat} (v : Word) (hin : 0x10000 ≤ off) (ho : 0x10000 ≤ o)
    (hal : off % 4 = 0) (hal' : o % 4 = 0) (hne : o ≠ off) :
    readMap o { s with sx := { s.sx with prodShadow := tput 0 s.sx.prodShadow ((off - 0x10000) / 4) v } } = readMap o s := by
  unfold readMap
  split
  · exact tget_tput_other _ _ _ _ _ _ (by omega)
  · rfl

theorem readMap_consumer_other {s : State} {off o : Nat} (v : Word) (hin : 0x20000 ≤ off)
    (hal : off % 4 = 0) (hal' : o % 4 = 0) (hne : o ≠ off) :
    readMap o { s with sx := { s.sx with consShadow := tput 0 s.sx.consShadow ((off - 0x20000) / 4) v } } = readMap o s := by
  unfold readMap
  split
  · rfl
  · split
    · rfl
    · split
      · exact tget_tput_other _ _ _ _ _ _ (by omega)
      · rfl

/-- Settles O8: a producer word, a consumer word that holds an entry, and one that holds none. -/
theorem shadowMapWriteReadsBack : Obligations.ShadowMapWriteReadsBack := by
  intro ag off v s hag hal hin
  have he : doShadowMapWrite ag off v s = writeShadow off v s := by
    rw [doShadowMapWrite, sxGuard_of_writer hag, if_pos (by simp [hin, hal])]
  refine ⟨fun hcopy => Completes.of_eq rfl (he.trans (writeShadow_of_copying hcopy off v)), fun hidle =>
    ⟨writeShadow off v s, Completes.of_eq rfl he, ?_⟩⟩
  simp only [inShadow, Bool.or_eq_true, Bool.and_eq_true, decide_eq_true_eq] at hin
  rcases hin with ⟨hlo, hhi⟩ | ⟨hlo, hhi⟩
  · rw [writeShadow_producer hidle v hhi]
    refine ⟨fun _ => ?_, fun h => absurd h (by omega), fun h => absurd h (by omega),
      fun o ho hne hoge => readMap_producer_other _ hlo hoge hal ho hne, rfl, rfl⟩
    simp only [readMap, if_pos hhi, tget_tput_same]
    rfl
  · have hge : 0x18000 ≤ off := by omega
    cases hc : consOf ((off - 0x20000) / 4) with
    | none =>
      rw [writeShadow_no_entry hidle v hge hc]
      exact ⟨fun h => absurd h (by omega), fun _ e h => (nomatch h), fun _ _ => rfl, fun _ _ _ _ => rfl, rfl, rfl⟩
    | some e =>
      rw [writeShadow_consumer hidle v hge hc]
      refine ⟨fun h => absurd h (by omega), fun _ _ _ => ?_, fun _ h => (nomatch h),
        fun o ho hne _ => readMap_consumer_other _ hlo hal ho hne, rfl, rfl⟩
      have h1 : ¬ off < 0x18000 := by omega
      have h2 : ¬ off < 0x20000 := by omega
      simp only [readMap, if_neg h1, if_neg h2, if_pos hhi, tget_tput_same]
      rfl

/-! ### Configuration, start and stop -/

theorem fieldsAt_SX_TP_t_CFG (p : Fin 12) : fieldsAt (SX_TP_t_CFG p) = [⟨0, 11, .rw⟩, ⟨16, 11, .rw⟩] := by
  revert p; decide

theorem fieldsAt_SX_TP_t_STAT (p : Fin 12) :
    fieldsAt (SX_TP_t_STAT p) = [⟨0, 1, .w1s⟩, ⟨1, 2, .w1c⟩, ⟨3, 1, .wo⟩, ⟨8, 4, .ro⟩] := by
  revert p; decide

theorem fieldsAt_SX_CFG : fieldsAt SX_CFG = [⟨0, 3, .rw⟩] := by decide
theorem fieldsAt_SX_PLANE_CTL : fieldsAt SX_PLANE_CTL = [⟨0, 3, .rw⟩] := by decide

/-- R45: RUN of a stopped exchange. -/
theorem startRun_of_stopped {s : State} (hrun : s.fld SX_CTL SX_CTL_RUN = 0) (hst : s.fld SX_STAT SX_STAT_RUNNING = 0) :
    startRun s = { (s.setFld SX_CTL SX_CTL_RUN 1).setFld SX_STAT SX_STAT_STARTING 1 with frame := frameAt (fsHz s) s.timeNs } := by
  have h1 : s.flag SX_CTL SX_CTL_RUN = false := (flag_eq_false_iff ..).2 hrun
  have h2 : sxRunning (s.setFld SX_CTL SX_CTL_RUN 1) = false := by
    rw [sxRunning, flag_setFld_other _ _ _ _ _ _ (by decide)]
    exact (flag_eq_false_iff ..).2 hst
  have h3 : fsHz (s.setFld SX_CTL SX_CTL_RUN 1) = fsHz s := by
    simp only [fsHz, fld_setFld_other _ _ _ _ _ _ (show SX_CFG ≠ SX_CTL by decide)]
  simp [startRun, h1, h2, h3]

/-- Settles O9. -/
theorem exchangeConfigurationAndRunCommandsComplete : Obligations.ExchangeConfigurationAndRunCommandsComplete := by
  intro ag s v p hag
  have cfg : doTpCfgWrite ag p v s = if s.flag SX_MAP_STAT SX_MAP_STAT_COPYING then s.setFld SX_ERR SX_ERR_SHADOW_BUSY 1
      else s.writeByType (SX_TP_t_CFG p) v := sxGuard_of_writer hag ..
  refine ⟨fun h => ?_, fun h => ?_, fun h => ?_, fun hr hs => ?_, fun hrun hst => ?_, ?_⟩
  · exact Completes.of_eq rfl (cfg.trans (if_pos (flag_eq_true_of_fld_eq_one _ _ _ h)))
  · refine ⟨s.writeByType (SX_TP_t_CFG p) v, Completes.of_eq rfl (cfg.trans (if_neg ?_)), ?_, ?_, ?_⟩
    · simp [flag_eq, h]
    · exact (onlyRegs_refl _ s).writeByType (List.mem_singleton.2 rfl) v
    · exact fld_writeByType _ _ _ _ .rw (fieldsAt_SX_TP_t_CFG p) (by decide) (by decide)
    · exact fld_writeByType _ _ _ _ .rw (fieldsAt_SX_TP_t_CFG p) (by decide) (by decide)
  · refine Completes.of_eq rfl ((sxGuard_of_writer hag ..).trans (if_pos ?_))
    rcases h with h | h <;> simp [sxRunning, sxStarting, flag_eq, h]
  · have he : doSxCfgWrite ag v s = _ := (sxGuard_of_writer hag ..).trans (if_neg (by simp [sxRunning, sxStarting, flag_eq, hr, hs]))
    have fs := fld_writeByType s SX_CFG v SX_CFG_FS .rw fieldsAt_SX_CFG (by decide) (by decide)
    have n := fld_writeByType s SX_CFG v SX_CFG_N .rw fieldsAt_SX_CFG (by decide) (by decide)
    have other (a : Nat) (ha : a ≠ SX_CFG) := reg_writeByType_other s SX_CFG v a ha
    refine ⟨doSxCfgWrite ag v s, rfl, ?_⟩
    rw [he]
    dsimp only
    split <;> exact ⟨fs, n, other, writeByType_mem ..⟩
  · refine ⟨startRun s, Completes.of_eq rfl (sxGuard_of_writer hag ..), ?_⟩
    rw [startRun_of_stopped hrun hst]
    refine ⟨?_, fld_setFld_of_lt _ _ _ _ (by decide) (by decide), ?_, rfl, fun a h1 h2 => ?_, rfl⟩
    · exact (fld_setFld_other _ _ _ _ _ _ (by decide)).trans (fld_setFld_of_lt _ _ _ _ (by decide) (by decide))
    · exact (fld_setFld_ne _ _ _ _ _ (by decide) (by decide)).trans ((fld_setFld_other _ _ _ _ _ _ (by decide)).trans hst)
    · exact (reg_setFld_other _ _ _ _ _ h2).trans (reg_setFld_other _ _ _ _ _ h1)
  · refine ⟨stopRun s, Completes.of_eq rfl (sxGuard_of_writer hag ..), ?_, ?_, ?_, ?_⟩
    · exact ((((onlyRegs_refl _ s).setFld (by decide) _ _).setFld (by decide) _ _).setFld (by decide) _ _).setFld (by decide) _ _
    all_goals
      simp (disch := decide) only [stopRun, withdrawSwap, fld_setFld_other, fld_setFld_ne, fld_setFld_of_lt]

/-! ### Ports and planes -/

/-- The operand of an injection reads back as its plane and its slot. -/
theorem writePlaneInj_operand (plane : Fin 2) (slot : Fin 8192) (s : State) :
    let v := BitVec.ofNat 32 (2 ^ 31 + plane % 2 * 65536 + slot % 8192)
    writePlaneInj v s = { s.writeByType SX_PLANE_INJ v with sx := { s.sx with injNext := some (plane.val, slot.val) } } := by
  intro v
  have hp := plane.isLt
  have hs := slot.isLt
  have hv : v.toNat = 2 ^ 31 + plane * 65536 + slot := by
    simp only [v, BitVec.toNat_ofNat]
    omega
  have h31 : bits v.toNat 31 1 = 1 := by rw [hv, bits]; omega
  have h16 : bits v.toNat 16 1 = plane := by rw [hv, bits]; omega
  have h0 : bits v.toNat 0 13 = slot := by rw [hv, bits]; omega
  simp only [writePlaneInj, h31, h16, h0, if_true, writeByType_sx]

/-- Settles O10. -/
theorem portAndPlaneCommandsComplete : Obligations.PortAndPlaneCommandsComplete := by
  intro ag s v p x pl slot hag
  have stat (v : Word) (g : Fld) (c : Acc) (hc : accOf g.lo g.w [⟨0, 1, .w1s⟩, ⟨1, 2, .w1c⟩, ⟨3, 1, .wo⟩, ⟨8, 4, .ro⟩] = some c) :=
    fld_writeByType s (SX_TP_t_STAT p) v g c (fieldsAt_SX_TP_t_STAT p) (by decide) hc
  have only (v : Word) := (onlyRegs_refl [SX_TP_t_STAT p] s).writeByType (List.mem_singleton.2 rfl) v
  refine ⟨?_, ?_, ?_, ?_, ?_, fun h1 h2 => ?_, fun h => ?_⟩
  · refine ⟨_, Completes.of_eq rfl (sxGuard_of_writer hag ..), ?_⟩
    dsimp only
    have sel (g : Fld) (hg : accOf g.lo g.w [⟨0, 3, .rw⟩] = some .rw) :=
      fld_writeByType s SX_PLANE_CTL v g .rw fieldsAt_SX_PLANE_CTL (by decide) hg
    refine ⟨sel SX_PLANE_CTL_SEL (by decide), sel SX_PLANE_CTL_COMPARE_EN (by decide), sel SX_PLANE_CTL_AUTO_EN (by decide), ?_,
      reg_writeByType_other _ _ _, writeByType_mem ..⟩
    rw [writeByType_sx]
  · refine ⟨_, Completes.of_eq rfl ((sxGuard_of_writer hag ..).trans (writePlaneInj_operand pl slot s)), rfl, ?_, ?_⟩
    · exact fun a ha => reg_writeByType_other _ _ _ _ ha
    · exact writeByType_mem ..
  · refine ⟨s.writeByType (SX_TP_t_STAT p) 1, Completes.of_eq rfl (sxGuard_of_writer hag ..), only 1, ?_, ?_, ?_⟩
    · rw [stat _ _ .w1s (by decide)]
      have := fld_lt s (SX_TP_t_STAT p) SX_TP_t_STAT_TXRDY
      change _ < 2 at this
      change s.fld (SX_TP_t_STAT p) SX_TP_t_STAT_TXRDY ||| 1 = 1
      interval_cases s.fld (SX_TP_t_STAT p) SX_TP_t_STAT_TXRDY <;> rfl
    · rw [stat _ _ .w1c (by decide)]
      exact Nat.and_two_pow_sub_one_of_lt_two_pow (fld_lt ..)
    · exact stat _ _ .ro (by decide)
  · refine ⟨(s.writeByType (SX_TP_t_STAT p) 8).setFld (SX_TP_t_STAT p) SX_TP_t_STAT_FAILED 1,
      Completes.of_eq rfl (sxGuard_of_writer hag ..), (only 8).setFld (List.mem_singleton.2 rfl) _ _,
      fld_setFld_of_lt _ _ _ _ (by decide) (by decide), ?_⟩
    rw [fld_setFld_ne _ _ _ _ _ (by decide) (by decide), stat _ _ .w1s (by decide)]
    exact Nat.or_zero _
  · exact Completes.of_eq rfl (sxGuard_of_writer hag ..)
  · exact Completes.of_eq rfl (if_pos ⟨h1, h2⟩)
  · exact Completes.of_eq rfl (if_pos h)

/-- Settles O14. -/
theorem deliveredWordFollowsParity : Obligations.DeliveredWordFollowsParity := by
  intro s x h
  have hon : compareOn s = true := flag_eq_true_of_fld_eq_one _ _ _ h
  refine ⟨fun ha hb => ?_, fun ha hb => ?_, fun ha hb => ?_, fun ha hb => ?_, ?_⟩
  · by_cases h0 : activePlane s = 0 <;> simp [delivered, hon, ha, hb, h0]
  · by_cases h0 : activePlane s = 0 <;> simp [delivered, hon, ha, hb, h0]
  · by_cases h0 : activePlane s = 0 <;> simp [delivered, hon, ha, hb, h0]
  · simp [delivered, hon, ha, hb]
  · simp [mismatch, and_assoc]

section LatePort
variable {s : State} {p : Nat} (hf : s.fld (SX_TP_t_STAT p) SX_TP_t_STAT_FAILED = 0) (htx : activeTx s p ≠ 0)
include hf htx

theorem checkPort_of_ready (h : s.fld (SX_TP_t_STAT p) SX_TP_t_STAT_TXRDY = 1) :
    checkPort s p = { s.setFld (SX_TP_t_STAT p) SX_TP_t_STAT_LATE_RUN 0 with sx := { s.sx with sending := s.sx.sending ++ [p] } } := by
  simp [checkPort, flag_eq, hf, htx, h]

/-- A port that is not ready: late, and failed when its run reaches the limit. -/
theorem checkPort_of_late (h : s.fld (SX_TP_t_STAT p) SX_TP_t_STAT_TXRDY = 0) :
    let u := (s.incSat (SX_TP_t_STAT p) SX_TP_t_STAT_LATE_RUN).setFld (SX_TP_t_STAT p) SX_TP_t_STAT_TX_LATE 1
    checkPort s p = if s.fld SX_CTL SX_CTL_LATE_LIMIT ≠ 0 ∧
        s.fld SX_CTL SX_CTL_LATE_LIMIT ≤ u.fld (SX_TP_t_STAT p) SX_TP_t_STAT_LATE_RUN
      then u.setFld (SX_TP_t_STAT p) SX_TP_t_STAT_FAILED 1 else u := by
  simp [checkPort, flag_eq, hf, htx, h]

end LatePort

/-- Settles O15: the port that is not checked, the ready one and the late one. -/
theorem portCheckAtBlockTick : Obligations.PortCheckAtBlockTick := by
  intro s p
  refine ⟨fun h => ?_, fun hf htx => ⟨fun hr => ?_, fun hl => ?_⟩⟩
  · rcases h with h | h <;> simp [checkPort, flag_eq, h]
  · rw [checkPort_of_ready hf htx hr]
    exact ⟨List.mem_append_right _ (List.mem_singleton.2 rfl), fld_setFld_of_lt _ _ _ _ (by decide) (by decide),
      fld_setFld_ne _ _ _ _ _ (by decide) (by decide)⟩
  · let a := SX_TP_t_STAT p
    let u := (s.incSat a SX_TP_t_STAT_LATE_RUN).setFld a SX_TP_t_STAT_TX_LATE 1
    have hsx : u.sx = s.sx := by
      show (s.incSat a SX_TP_t_STAT_LATE_RUN).sx = s.sx
      unfold State.incSat
      split <;> rfl
    have hlate : u.fld a SX_TP_t_STAT_TX_LATE = 1 := fld_setFld_of_lt _ _ _ _ (by decide) (by decide)
    have hrun : u.fld a SX_TP_t_STAT_LATE_RUN = min 15 (s.fld a SX_TP_t_STAT_LATE_RUN + 1) :=
      (fld_setFld_ne _ _ _ _ _ (by decide) (by decide)).trans (fld_incSat_same _ _ _ (by decide))
    have hfail : u.fld a SX_TP_t_STAT_FAILED = 0 :=
      (fld_setFld_ne _ _ _ _ _ (by decide) (by decide)).trans ((fld_incSat_ne _ _ _ _ (by decide) (by decide)).trans hf)
    have he : checkPort s p = if s.fld SX_CTL SX_CTL_LATE_LIMIT ≠ 0 ∧
        s.fld SX_CTL SX_CTL_LATE_LIMIT ≤ min 15 (s.fld a SX_TP_t_STAT_LATE_RUN + 1)
        then u.setFld a SX_TP_t_STAT_FAILED 1 else u := hrun ▸ checkPort_of_late hf htx hl
    rw [he]
    split
    next hc =>
      refine ⟨congrArg Sx.sending hsx, ?_, ?_, ?_⟩
      · exact (fld_setFld_ne _ _ _ _ _ (by decide) (by decide)).trans hlate
      · exact (fld_setFld_ne _ _ _ _ _ (by decide) (by decide)).trans hrun
      · exact iff_of_true (fld_setFld_of_lt _ _ _ _ (by decide) (by decide)) hc
    next hc => exact ⟨congrArg Sx.sending hsx, hlate, hrun, iff_of_false (by rw [hfail]; decide) hc⟩

end Sys2Proof.Machine
end

section

/-! SUPPORT. Integer results of a signal core (R101, R103): exact values against the 32-bit range, and O21 and O22. -/

namespace Sys2Proof.Machine

theorem sext_mem {w : Nat} (hw : 0 < w) (v : Nat) : -2 ^ (w - 1) ≤ sext w v ∧ sext w v ≤ 2 ^ (w - 1) - 1 := by
  have hhalf : 2 ^ w = 2 * 2 ^ (w - 1) := (mul_pow_sub_one hw.ne' 2).symm
  have hlt : v % 2 ^ w < 2 ^ w := Nat.mod_lt _ (Nat.two_pow_pos w)
  have hcast : ((2 ^ (w - 1) : Nat) : Int) = 2 ^ (w - 1) := by norm_cast
  unfold sext
  split <;> omega

theorem satS_eq_clamp {w : Nat} (i : Int) : satS w i = max (-2 ^ (w - 1)) (min (2 ^ (w - 1) - 1) i) := by
  have hpos : (0 : Int) < 2 ^ (w - 1) := by positivity
  rcases lt_or_ge i (-2 ^ (w - 1)) with h | h
  · rw [satS_of_lt h]; omega
  · rcases le_or_gt i (2 ^ (w - 1) - 1) with h' | h'
    · rw [satS_of_mem h h']; omega
    · rw [satS_of_gt h']; omega

theorem satS_mem (w : Nat) (i : Int) : -2 ^ (w - 1) ≤ satS w i ∧ satS w i ≤ 2 ^ (w - 1) - 1 := by
  have hpos : (0 : Int) < 2 ^ (w - 1) := by positivity
  rw [satS_eq_clamp]
  omega

/-- OV is set exactly when the exact value is out of range. -/
theorem ovIf_fitsS (x : Int) : ovIf (!fitsS 32 x) = if -2 ^ 31 ≤ x ∧ x ≤ 2 ^ 31 - 1 then 0 else fOV := by
  split
  next h => rw [fitsS_of_mem (w := 32) h.1 h.2]; rfl
  next h => rw [fitsS_of_not_mem (w := 32) (by omega)]; rfl

/-- A saturated result is the nearer number of the range. -/
theorem sext_signed32_saturated (x : Int) : sext 32 (signed32 true x).1 = max (-2 ^ 31) (min (2 ^ 31 - 1) x) := by
  obtain ⟨hlo, hhi⟩ := satS_mem 32 x
  exact (sext_unsext (by decide) hlo hhi).trans (satS_eq_clamp x)

/-- Settles O21: the three sums are signed results of their exact values. -/
theorem integerSumsWrapOrSaturate : Obligations.IntegerSumsWrapOrSaturate := by
  intro a b imm old _ _ k hk
  have signed : ∀ sat, aluValue k.1 sat a b imm old = signed32 sat k.2 := by
    simp only [List.mem_cons, List.not_mem_nil, or_false] at hk
    rcases hk with rfl | rfl | rfl <;> exact fun _ => rfl
  simp only [signed]
  exact ⟨sext_signed32_saturated k.2, coe_unsext 32 k.2, fun sat => ovIf_fitsS k.2⟩

/-! ### Division (R101, R103) -/

theorem sext_eq_zero_iff {v : Nat} (h : v < 2 ^ 32) : sext 32 v = 0 ↔ v = 0 := by
  unfold sext
  rw [Nat.mod_eq_of_lt h]
  split <;> omega

/-- The quotient is in range but for the most negative number by -1. -/
theorem tdiv_mem {x y : Int} (hx : -2 ^ 31 ≤ x ∧ x ≤ 2 ^ 31 - 1) (hy : y ≠ 0) (h : x ≠ -2 ^ 31 ∨ y ≠ -1) :
    -2 ^ 31 ≤ x.tdiv y ∧ x.tdiv y ≤ 2 ^ 31 - 1 := by
  have habs : (x.tdiv y).natAbs = x.natAbs / y.natAbs := Int.natAbs_tdiv x y
  have hle : x.natAbs / y.natAbs ≤ x.natAbs := Nat.div_le_self _ _
  by_cases hmin : x = -2 ^ 31
  · by_cases hone : y = 1
    · subst hone
      rw [Int.tdiv_one]
      exact hx
    · have hy2 : 2 ≤ y.natAbs := by omega
      have hhalf : x.natAbs / y.natAbs ≤ x.natAbs / 2 := Nat.div_le_div_left hy2 (by decide)
      omega
  · omega

theorem tmod_nonpos {x : Int} (y : Int) (h : x ≤ 0) : x.tmod y ≤ 0 := by
  have := Int.tmod_nonneg y (Int.neg_nonneg.2 h)
  rw [Int.neg_tmod] at this
  omega

theorem tmod_mem {x y : Int} (hx : -2 ^ 31 ≤ x ∧ x ≤ 2 ^ 31 - 1) :
    -2 ^ 31 ≤ x.tmod y ∧ x.tmod y ≤ 2 ^ 31 - 1 := by
  have habs : (x.tmod y).natAbs = x.natAbs % y.natAbs := Int.natAbs_tmod x y
  have hle : x.natAbs % y.natAbs ≤ x.natAbs := Nat.mod_le _ _
  rcases le_or_gt 0 x with h | h
  · have := Int.tmod_nonneg y h
    omega
  · have := tmod_nonpos y h.le
    omega

/-- The remainder has the sign of the dividend. -/
theorem tmod_mul_self_nonneg (x y : Int) : 0 ≤ x.tmod y * x := by
  rcases le_total 0 x with h | h
  · exact mul_nonneg (Int.tmod_nonneg y h) h
  · exact mul_nonneg_of_nonpos_of_nonpos (tmod_nonpos y h) h

/-- Settles O22: the library's truncating division, whose results the 32-bit range holds, and division by 0. -/
theorem quotientAndRemainderBelongTogether : Obligations.QuotientAndRemainderBelongTogether := by
  intro a b imm old sat ha hb
  refine ⟨fun h0 hov => ?_, fun h0 => ?_, fun h0 => ?_⟩
  · let x := sext 32 a
    let y := sext 32 b
    have hx : -2 ^ 31 ≤ x ∧ x ≤ 2 ^ 31 - 1 := sext_mem (by decide) a
    have hy : y ≠ 0 := fun e => h0 ((sext_eq_zero_iff hb).1 e)
    have hxy : x ≠ -2 ^ 31 ∨ y ≠ -1 := by
      simp only [x, y, sext, Nat.mod_eq_of_lt ha, Nat.mod_eq_of_lt hb]
      split <;> split <;> omega
    obtain ⟨hqlo, hqhi⟩ := tdiv_mem hx hy hxy
    obtain ⟨hrlo, hrhi⟩ := tmod_mem (y := y) hx
    have hdiv : aluValue .div sat a b imm old = (unsext 32 (x.tdiv y), 0) := by
      simp only [aluValue, divResult, if_neg h0, signed32, ovIf_fitsS]
      rw [satS_of_mem (w := 32) hqlo hqhi, ite_self, if_pos ⟨hqlo, hqhi⟩]
    have hrem : aluValue .rem sat a b imm old = (unsext 32 (x.tmod y), 0) := by
      simp only [aluValue, divResult, if_neg h0]
      rfl
    have hq : sext 32 (unsext 32 (x.tdiv y)) = x.tdiv y := sext_unsext (by decide) hqlo hqhi
    have hr : sext 32 (unsext 32 (x.tmod y)) = x.tmod y := sext_unsext (by decide) hrlo hrhi
    rw [hdiv, hrem, hq, hr]
    refine ⟨Int.mul_tdiv_add_tmod x y, ?_, tmod_mul_self_nonneg x y, rfl⟩
    rw [Int.natAbs_tmod]
    exact Nat.mod_lt _ (Int.natAbs_pos.2 hy)
  · simp only [aluValue, divResult, if_neg h0]
    exact ⟨Nat.div_add_mod a b, Nat.mod_lt _ (Nat.pos_of_ne_zero h0)⟩
  · simp only [aluValue, divResult, if_pos h0, and_self]

end Sys2Proof.Machine
end

section

/-! SUPPORT. Rules of memory, of runs of updates, and of records of fields. -/

namespace Sys2Proof.Machine

/-! ### Bytes -/

@[simp] theorem bytes_length (s : State) (a n : Nat) : (s.bytes a n).length = n := by
  induction n generalizing a with
  | zero => rfl
  | succ n ih => simp [State.bytes, ih]

theorem bytes_getElem (s : State) (a n i : Nat) (h : i < (s.bytes a n).length) : (s.bytes a n)[i] = s.byte (a + i) := by
  induction n generalizing a i with
  | zero => simp [State.bytes] at h
  | succ n ih =>
    cases i with
    | zero => rfl
    | succ i =>
      simp only [State.bytes, List.getElem_cons_succ]
      rw [ih]
      congr 1
      omega

/-- Bytes that agree one by one are the same. -/
theorem bytes_congr {s t : State} {a b n : Nat} (h : ∀ i, i < n → t.byte (b + i) = s.byte (a + i)) : t.bytes b n = s.bytes a n := by
  refine List.ext_getElem (by simp) fun i h1 _ => ?_
  rw [bytes_getElem, bytes_getElem]
  exact h i (by simpa using h1)

/-- A byte inside the written ones. -/
theorem byte_setBytes_inside (l : List Byte) (s : State) (a i : Nat) (h : i < l.length) : (s.setBytes a l).byte (a + i) = l[i] := by
  have hb : i < ((s.setBytes a l).bytes a l.length).length := by simpa using h
  rw [← bytes_getElem _ _ _ _ hb]
  simp only [bytes_setBytes]

theorem byte_of_mem_eq {s t : State} (h : t.mem = s.mem) (a : Nat) : t.byte a = s.byte a := by
  simp only [State.byte, h]

theorem bytes_of_mem_eq {s t : State} (h : t.mem = s.mem) (a n : Nat) : t.bytes a n = s.bytes a n :=
  bytes_congr fun _ _ => byte_of_mem_eq h _

theorem num_of_mem_eq {s t : State} (h : t.mem = s.mem) (a n : Nat) : t.num a n = s.num a n := by
  rw [State.num, State.num, bytes_of_mem_eq h]

theorem reg_of_regs_eq {s t : State} (h : t.regs = s.regs) (a : Nat) : t.reg a = s.reg a := by
  simp only [State.reg, h]

theorem core_of_cores_eq {s t : State} (h : t.cores = s.cores) (n : Nat) : t.core n = s.core n := by
  simp only [State.core, h]

/-- A register that reads the same has the same fields. -/
theorem fld_of_reg_eq {s t : State} {a : Nat} (h : t.reg a = s.reg a) (f : Fld) : t.fld a f = s.fld a f := by
  simp only [State.fld, h]

theorem flag_of_reg_eq {s t : State} {a : Nat} (h : t.reg a = s.reg a) (f : Fld) : t.flag a f = s.flag a f := by
  simp only [State.flag, fld_of_reg_eq h]

@[simp] theorem core_setCore_same (s : State) (n : Nat) (c : Core) : (s.setCore n c).core n = c := tget_tput_same ..

theorem core_setCore_other (s : State) {n m : Nat} (c : Core) (h : m ≠ n) : (s.setCore n c).core m = s.core m :=
  tget_tput_other _ _ _ _ _ _ h

@[simp] theorem setCore_byte (s : State) (n : Nat) (c : Core) (a : Nat) : (s.setCore n c).byte a = s.byte a := rfl
@[simp] theorem setCore_fld (s : State) (n : Nat) (c : Core) (a : Nat) (f : Fld) : (s.setCore n c).fld a f = s.fld a f := rfl
@[simp] theorem setCore_flag (s : State) (n : Nat) (c : Core) (a : Nat) (f : Fld) : (s.setCore n c).flag a f = s.flag a f := rfl

/-! ### Runs of updates -/

/-- What every update of a run keeps, the run keeps. -/
theorem each_induction {α : Type} {P : State → Prop} {f : State → α → State} {l : List α} {s : State} (h : P s)
    (step : ∀ u x, x ∈ l → P u → P (f u x)) : P (s.each l f) := by
  induction l generalizing s with
  | nil => exact h
  | cons x l ih =>
    exact ih (step s x (List.mem_cons_self ..) h) fun u y hy => step u y (List.mem_cons_of_mem _ hy)

/-! ### Records of fields -/

theorem OnlyRegs.setFlds {l : List Nat} {s t : State} (h : OnlyRegs l s t) {a : Nat} (ha : a ∈ l) (fs : List (Fld × Nat)) :
    OnlyRegs l s (t.setFlds a fs) := by
  induction fs generalizing t with
  | nil => exact h
  | cons f fs ih => exact ih (h.setFld ha f.1 f.2)

theorem setFlds_rest (s : State) (a : Nat) (l : List (Fld × Nat)) : s.setFlds a l = { s with regs := (s.setFlds a l).regs } := by
  induction l generalizing s with
  | nil => rfl
  | cons f l ih => rw [State.setFlds, ih]; rfl

theorem reg_setFlds_other (s : State) (a b : Nat) (l : List (Fld × Nat)) (h : b ≠ a) : (s.setFlds a l).reg b = s.reg b := by
  induction l generalizing s with
  | nil => rfl
  | cons f l ih => rw [State.setFlds, ih, reg_setFld_other _ _ _ _ _ h]

theorem fld_setFlds_other (s : State) (a b : Nat) (l : List (Fld × Nat)) (g : Fld) (h : b ≠ a) :
    (s.setFlds a l).fld b g = s.fld b g := fld_of_reg_eq (reg_setFlds_other s a b l h) g

theorem flag_setFlds_other (s : State) (a b : Nat) (l : List (Fld × Nat)) (g : Fld) (h : b ≠ a) :
    (s.setFlds a l).flag b g = s.flag b g := flag_of_reg_eq (reg_setFlds_other s a b l h) g

/-- A field beside the written ones keeps its value. -/
theorem fld_setFlds_beside (s : State) (a : Nat) (l : List (Fld × Nat)) (g : Fld)
    (h : ∀ f ∈ l, f.1.lo + f.1.w ≤ 32 ∧ (f.1.lo + f.1.w ≤ g.lo ∨ g.lo + g.w ≤ f.1.lo)) : (s.setFlds a l).fld a g = s.fld a g := by
  induction l generalizing s with
  | nil => rfl
  | cons f l ih =>
    obtain ⟨hf, hg⟩ := h f (List.mem_cons_self ..)
    rw [State.setFlds, ih _ fun e he => h e (List.mem_cons_of_mem _ he), fld_setFld_ne _ _ _ _ _ hf hg]

end Sys2Proof.Machine
end

section

/-! SUPPORT. Tile memory (chapter 04): what an access to a bank changes, where its bytes lie, and O27 to O30. -/

namespace Sys2Proof.Machine
open R

/-! ### What an access to a bank changes -/

/-- `u` is `s` but for memory, the ECC marks and the ECC registers of bank `b` of tile `t`. -/
structure BankOnly (t b : Nat) (s u : State) : Prop where
  rest : { u with regs := s.regs, mem := s.mem, ecc := s.ecc } = s
  reg : ∀ a, a ≠ bkEcc t b → a ≠ bkEccAddr t b → u.reg a = s.reg a

namespace BankOnly
variable {t b : Nat} {s u v : State}

theorem refl (t b : Nat) (s : State) : BankOnly t b s s := ⟨rfl, fun _ _ _ => rfl⟩

theorem trans (h : BankOnly t b s u) (k : BankOnly t b u v) : BankOnly t b s v := by
  refine ⟨?_, fun a h1 h2 => (k.reg a h1 h2).trans (h.reg a h1 h2)⟩
  conv_rhs => rw [← h.rest, ← k.rest]

theorem setMark (h : BankOnly t b s u) (a m : Nat) : BankOnly t b s (setMark u a m) := ⟨h.rest, h.reg⟩

theorem setByte (h : BankOnly t b s u) (a : Nat) (x : Byte) : BankOnly t b s (u.setByte a x) := ⟨h.rest, h.reg⟩

theorem setFld (h : BankOnly t b s u) {a : Nat} (ha : a = bkEcc t b ∨ a = bkEccAddr t b) (f : Fld) (x : Nat) :
    BankOnly t b s (u.setFld a f x) := by
  refine ⟨h.rest, fun c h1 h2 => (reg_setFld_other _ _ _ _ _ ?_).trans (h.reg c h1 h2)⟩
  rcases ha with rfl | rfl
  · exact h1
  · exact h2

theorem incSat (h : BankOnly t b s u) {a : Nat} (ha : a = bkEcc t b ∨ a = bkEccAddr t b) (f : Fld) :
    BankOnly t b s (u.incSat a f) := by
  unfold State.incSat
  split
  · exact h.setFld ha f _
  · exact h

theorem countCorr (h : BankOnly t b s u) : BankOnly t b s (countCorr u t b) := h.incSat (.inl rfl) _

theorem countUnc (h : BankOnly t b s u) (off : Nat) : BankOnly t b s (countUnc u t b off) :=
  (h.incSat (.inl rfl) _).setFld (.inr rfl) _ _

theorem spareRow_eq (h : BankOnly t b s u) : u.spareRow = s.spareRow := (congrArg State.spareRow h.rest :)
theorem spareCopy_eq (h : BankOnly t b s u) : u.spareCopy = s.spareCopy := (congrArg State.spareCopy h.rest :)
theorem nextWin_eq (h : BankOnly t b s u) : u.nextWin = s.nextWin := (congrArg State.nextWin h.rest :)
theorem cores_eq (h : BankOnly t b s u) : u.cores = s.cores := (congrArg State.cores h.rest :)

theorem reg_test (h : BankOnly t b s u) : u.reg (bkTest t b) = s.reg (bkTest t b) := by
  refine h.reg _ ?_ ?_ <;> unfold bkTest
  · unfold bkEcc
    split <;> simp only [TL_t_BK_b_TEST, TL_t_BK_b_ECC, TL_t_CB_TEST, TL_t_CB_ECC] <;> omega
  · unfold bkEccAddr
    split <;> simp only [TL_t_BK_b_TEST, TL_t_BK_b_ECCADDR, TL_t_CB_TEST, TL_t_CB_ECCADDR] <;> omega

theorem arrayAddr_eq (h : BankOnly t b s u) (off : Nat) : arrayAddr u t b off = arrayAddr s t b off := by
  simp only [arrayAddr, spareOf, h.spareRow_eq]

theorem inWindow_eq (h : BankOnly t b s u) (off : Nat) : inWindow u t b off = inWindow s t b off := by
  unfold inWindow windowOpen windowNo
  rw [flag_of_reg_eq h.reg_test, fld_of_reg_eq h.reg_test]

theorem readAddr_eq (h : BankOnly t b s u) (off : Nat) : readAddr u t b off = readAddr s t b off := by
  simp only [readAddr, h.inWindow_eq, h.arrayAddr_eq]

end BankOnly

@[simp] theorem setMark_mem (s : State) (a m : Nat) : (setMark s a m).mem = s.mem := rfl

theorem eccRead_bankOnly (t b : Nat) (s : State) (w : Nat) : BankOnly t b s (eccRead t b s w) := by
  have h := BankOnly.refl t b s
  unfold eccRead
  split
  · exact h
  · exact h.countCorr
  · exact h.countUnc w

theorem eccRead_mem (t b : Nat) (s : State) (w : Nat) : (eccRead t b s w).mem = s.mem := by
  unfold eccRead countCorr countUnc
  split <;> simp

theorem eccWrite_bankOnly (t b : Nat) (whole : Bool) (s : State) (w : Nat) : BankOnly t b s (eccWrite t b whole s w) := by
  have h := BankOnly.refl t b s
  unfold eccWrite
  dsimp only
  split
  · exact h.setMark _ _
  · split
    · exact h
    · exact h.countCorr.setMark _ _
    · exact h.countUnc w

theorem eccWrite_mem (t b : Nat) (whole : Bool) (s : State) (w : Nat) : (eccWrite t b whole s w).mem = s.mem := by
  unfold eccWrite countCorr countUnc
  dsimp only
  split
  · rfl
  · split <;> simp

theorem bankPutByte_bankOnly (s : State) (t b off : Nat) (v : Byte) : BankOnly t b s (bankPutByte s t b off v) := by
  have h := (BankOnly.refl t b s).setByte (arrayAddr s t b off) v
  unfold bankPutByte
  dsimp only
  split
  · exact h.setByte _ v
  · exact h

theorem bankPut_bankOnly (t b : Nat) (s : State) (off : Nat) (l : List Byte) : BankOnly t b s (bankPut t b s off l) := by
  induction l generalizing s off with
  | nil => exact .refl t b s
  | cons v l ih => exact (bankPutByte_bankOnly s t b off v).trans (ih _ _)

/-- The state of a write once its ECC effects are done. -/
def bankMarked (s : State) (t b off n : Nat) : State :=
  s.each (wordsOf off n) (fun s w => eccWrite t b (off ≤ w && w + 8 ≤ off + n) s w)

theorem bankWrite_eq (s : State) (t b off : Nat) (l : List Byte) :
    bankWrite s t b off l = bankPut t b (bankMarked s t b off l.length) off l := rfl

theorem bankMarked_bankOnly (s : State) (t b off n : Nat) : BankOnly t b s (bankMarked s t b off n) :=
  each_induction (.refl t b s) fun u w _ h => h.trans (eccWrite_bankOnly t b _ u w)

theorem bankMarked_mem (s : State) (t b off n : Nat) : (bankMarked s t b off n).mem = s.mem :=
  each_induction (P := fun u => u.mem = s.mem) rfl fun u w _ h => (eccWrite_mem t b _ u w).trans h

theorem bankWrite_bankOnly (s : State) (t b off : Nat) (l : List Byte) : BankOnly t b s (bankWrite s t b off l) :=
  (bankMarked_bankOnly s t b off l.length).trans (bankPut_bankOnly t b _ off l)

theorem bankRead_bankOnly (s : State) (t b off n : Nat) : BankOnly t b s (bankRead s t b off n).2 :=
  each_induction (.refl t b s) fun u w _ h => h.trans (eccRead_bankOnly t b u w)

/-! ### Where the bytes of a bank lie (R130, R132) -/

section Place
variable {t b : Nat} (ht : t < 12) (hb : b < 9)
include ht hb

theorem bankBase_add_lt {off : Nat} (h : off < 0x80000) : bankBase t b + off < 0x10010000000 := by
  unfold bankBase tileBase
  split <;> omega

theorem spareBase_add_lt {k off : Nat} (hk : k < 4) (h : off < 1024) : spareBase t b k + off < 0x10020000000 := by
  unfold spareBase
  omega

omit ht hb in
theorem spareOf_lt {s : State} {row k : Nat} (h : spareOf s t b row = some k) : k < 4 :=
  List.mem_range.1 (List.mem_of_find?_eq_some h)

omit ht hb in
/-- A spare holds one row. -/
theorem row_of_spareOf {s : State} {row k : Nat} (h : spareOf s t b row = some k) : mappedRow s t b k = row + 1 := by
  simpa [mappedRow] using List.find?_some h

theorem arrayAddr_lt (s : State) {off : Nat} (h : off < 0x80000) : arrayAddr s t b off < 0x10020000000 := by
  unfold arrayAddr
  split
  next k hk => exact spareBase_add_lt ht hb (spareOf_lt hk) (Nat.mod_lt _ (by decide))
  next => exact (bankBase_add_lt ht hb h).trans (by decide)

/-- Different offsets of a bank lie at different places of the array. -/
theorem arrayAddr_injective (s : State) {off o : Nat} (hoff : off < 0x80000) (ho : o < 0x80000)
    (h : arrayAddr s t b off = arrayAddr s t b o) : off = o := by
  have spare_ge (k i : Nat) : 0x10010000000 ≤ spareBase t b k + i := by unfold spareBase; omega
  unfold arrayAddr at h
  split at h
  next k hk =>
    split at h
    next k' hk' =>
      have hr := row_of_spareOf hk
      have hr' := row_of_spareOf hk'
      have hkk : k = k' := by unfold spareBase at h; omega
      subst hkk
      have hrow : off / 1024 = o / 1024 := by omega
      omega
    next => exact absurd h (Nat.ne_of_gt ((bankBase_add_lt ht hb ho).trans_le (spare_ge _ _)))
  next =>
    split at h
    next => exact absurd h (Nat.ne_of_lt ((bankBase_add_lt ht hb hoff).trans_le (spare_ge _ _)))
    next => omega

omit ht hb in
/-- A written byte is read where it was written, whether or not the window is open. -/
theorem bankPutByte_byte_same (s : State) (v : Byte) (off : Nat) : (bankPutByte s t b off v).byte (readAddr s t b off) = v := by
  unfold bankPutByte readAddr
  dsimp only
  split <;> exact byte_setByte_same ..

/-- A written byte is read at no other offset. -/
theorem bankPutByte_byte_other (s : State) (v : Byte) {off o : Nat} (hoff : off < 0x80000) (ho : o < 0x80000) (hne : o ≠ off) :
    (bankPutByte s t b off v).byte (readAddr s t b o) = s.byte (readAddr s t b o) := by
  have save_ge (i : Nat) : 0x10020000000 ≤ saveBase t b + i := by unfold saveBase; omega
  have array_lt {i : Nat} (hi : i < 0x80000) := arrayAddr_lt ht hb s hi
  have harray : readAddr s t b o ≠ arrayAddr s t b off := by
    unfold readAddr
    split
    · exact Nat.ne_of_gt ((array_lt hoff).trans_le (save_ge _))
    · exact fun e => hne (arrayAddr_injective ht hb s ho hoff e)
  unfold bankPutByte
  dsimp only
  split
  next hw =>
    have hsave : readAddr s t b o ≠ saveBase t b + off % 512 := by
      unfold readAddr
      split
      next hw' =>
        simp only [inWindow, Bool.and_eq_true, decide_eq_true_eq] at hw hw'
        omega
      next => exact Nat.ne_of_lt ((array_lt ho).trans_le (save_ge _))
    rw [byte_setByte_other _ _ _ _ hsave, byte_setByte_other _ _ _ _ harray]
  next => exact byte_setByte_other _ _ _ _ harray

theorem bankPut_byte_outside (s : State) (l : List Byte) {off o : Nat} (hoff : off + l.length ≤ 0x80000) (ho : o < 0x80000)
    (h : o < off ∨ off + l.length ≤ o) : (bankPut t b s off l).byte (readAddr s t b o) = s.byte (readAddr s t b o) := by
  induction l generalizing s off with
  | nil => rfl
  | cons v l ih =>
    simp only [List.length_cons] at hoff h
    have hput := bankPutByte_bankOnly s t b off v
    rw [bankPut, ← hput.readAddr_eq, ih _ (by omega) (by omega), hput.readAddr_eq,
      bankPutByte_byte_other ht hb s v (by omega) ho (by omega)]

theorem bankPut_byte_inside (s : State) (l : List Byte) {off : Nat} (hoff : off + l.length ≤ 0x80000) (i : Nat) (hi : i < l.length) :
    (bankPut t b s off l).byte (readAddr s t b (off + i)) = l[i] := by
  induction l generalizing s off i with
  | nil => cases hi
  | cons v l ih =>
    simp only [List.length_cons] at hoff
    have hput := bankPutByte_bankOnly s t b off v
    rw [bankPut, ← hput.readAddr_eq]
    cases i with
    | zero =>
      rw [bankPut_byte_outside ht hb _ l (by omega) (by omega) (by omega), hput.readAddr_eq]
      exact bankPutByte_byte_same s v off
    | succ i =>
      have hi' : i < l.length := by simpa using hi
      rw [show off + (i + 1) = off + 1 + i by omega, ih _ (by omega) i hi']
      rfl

end Place

/-- Settles O29: a read and a write see the same places, which differ for different offsets. -/
theorem bankWriteReadsBack : Obligations.BankWriteReadsBack := by
  intro s t b off l hlen
  have ht := t.isLt
  have hb := b.isLt
  have hsize : bankSize b ≤ 0x80000 := by unfold bankSize; split <;> omega
  have hw := bankWrite_bankOnly s t b off l
  have hm := bankMarked_bankOnly s t b off l.length
  refine ⟨List.ext_getElem (by simp [bankRead]) fun i _ hi => ?_, fun o ho hout => ?_⟩
  · simp only [bankRead, List.getElem_map, List.getElem_range]
    rw [hw.readAddr_eq, ← hm.readAddr_eq]
    exact bankPut_byte_inside ht hb _ l (by omega) i hi
  · simp only [bankRead, List.range_one, List.map_cons, List.map_nil, Nat.add_zero]
    rw [hw.readAddr_eq, ← hm.readAddr_eq, bankWrite_eq, bankPut_byte_outside ht hb _ l (by omega) (by omega) hout,
      byte_of_mem_eq (bankMarked_mem ..)]

end Sys2Proof.Machine
end

section

/-! SUPPORT. Owners and handover, refused accesses, spare rows and the background test (R118 to R134), and O27, O28, O30. -/

namespace Sys2Proof.Machine
open R

/-! ### Owners -/

theorem updateCapture_onlyRegs {l : List Nat} {s u : State} {t : Nat} (h : OnlyRegs l s u) (ht : TL_t_CAP t ∈ l) :
    OnlyRegs l s (updateCapture u t) := by
  unfold updateCapture
  dsimp only
  generalize (if u.flag (TL_t_CAP t) TL_t_CAP_ACTIVE then some (u.fld (TL_t_CAP t) TL_t_CAP_BANK) else none) = old
  split
  · exact h
  · split <;> exact h.setFlds ht _

theorem updateCapture_reg_other (s : State) (t a : Nat) (h : a ≠ TL_t_CAP t) : (updateCapture s t).reg a = s.reg a :=
  (updateCapture_onlyRegs (onlyRegs_refl [TL_t_CAP t] s) (List.mem_singleton.2 rfl)).2 a (by simpa using h)

/-- R121: a completed handover gives CUR the requested code and ends BUSY. -/
theorem handoverComplete_owner {s : State} {t b : Nat} (hbusy : ownerBusy s t b = true)
    (hcap : TL_t_BK_b_OWNER t b ≠ TL_t_CAP t) :
    ownerCur (doHandoverComplete t b s) t b = ownerReq s t b ∧ ownerBusy (doHandoverComplete t b s) t b = false := by
  have hreg := updateCapture_reg_other ((s.setFld (TL_t_BK_b_OWNER t b) TL_t_BK_b_OWNER_CUR (ownerReq s t b)).setFld
      (TL_t_BK_b_OWNER t b) TL_t_BK_b_OWNER_BUSY 0) t _ hcap
  rw [doHandoverComplete, if_pos hbusy]
  constructor
  · rw [ownerCur, fld_of_reg_eq hreg, fld_setFld_ne _ _ _ _ _ (by decide) (by decide)]
    exact fld_setFld_of_lt _ _ _ _ (by decide) (fld_lt ..)
  · rw [ownerBusy, flag_of_reg_eq hreg, flag_eq_false_iff]
    exact fld_setFld_of_lt _ _ _ _ (by decide) (by decide)

theorem handoverComplete_onlyRegs {l : List Nat} {s u : State} (h : OnlyRegs l s u) {t b : Nat} (ho : TL_t_BK_b_OWNER t b ∈ l)
    (hc : TL_t_CAP t ∈ l) : OnlyRegs l s (doHandoverComplete t b u) := by
  unfold doHandoverComplete
  split
  · exact updateCapture_onlyRegs ((h.setFld ho _ _).setFld ho _ _) hc
  · exact h

/-! ### An aborted drain -/

/-- The accesses of the tile's cores to the bank are dropped, one core after the other. -/
def abortTile (t b : Nat) (s : State) : State :=
  s.each (List.range 4) (fun s j => s.setCore (4 * t + j) (abortAccesses b (s.core (4 * t + j))))

theorem abortTile_rest (t b : Nat) (s : State) : abortTile t b s = { s with cores := (abortTile t b s).cores } :=
  each_induction (P := fun u => u = { s with cores := u.cores }) rfl fun u j _ h => by
    conv_lhs => rw [h]
    rfl

theorem abortTile_stores {t b n : Nat} (hn : n / 4 = t) (s : State) :
    ∀ x ∈ ((abortTile t b s).core n).stores, inBank b x.addr = false := by
  obtain ⟨j, hj, rfl⟩ : ∃ j, j < 4 ∧ n = 4 * t + j := ⟨n % 4, Nat.mod_lt _ (by decide), by omega⟩
  have abort (c : Core) : ∀ x ∈ (abortAccesses b c).stores, inBank b x.addr = false := by
    intro x hx
    simpa using (List.mem_filter.1 hx).2
  simp only [abortTile, State.each, show List.range 4 = [0, 1, 2, 3] from rfl, List.foldl_cons, List.foldl_nil]
  interval_cases j <;> simp [core_setCore_other] <;> exact abort _

/-- Settles O27. -/
theorem ownerWritesAndHandoversComplete : Obligations.OwnerWritesAndHandoversComplete := by
  intro ag t b v s o
  have hcap : o ≠ TL_t_CAP t := by simp only [o, TL_t_BK_b_OWNER, TL_t_CAP]; omega
  have herr : o ≠ TL_t_ERR t := by simp only [o, TL_t_BK_b_OWNER, TL_t_ERR]; omega
  refine ⟨fun h1 h2 => Completes.of_eq rfl (by simp [doOwnerWrite, h1, h2]), fun hag => ?_, fun hbusy => ?_, fun hbusy => ?_⟩
  · have hw : (decide (ag = .clove) || decide (ag = .dap)) = true := by simpa using hag
    refine ⟨fun hc hb => ?_, fun hc hb => ?_, fun hc hb he => ?_, fun hc hb he => ?_⟩
    · exact Completes.of_eq rfl (by simp [doOwnerWrite, hw, hc, hb])
    · exact Completes.of_eq rfl (by simp [doOwnerWrite, hw, Nat.not_le.2 hc, hb])
    · exact Completes.of_eq rfl (by simp [doOwnerWrite, hw, hb, he, Nat.not_le.2 (he ▸ hc)])
    · let u := (s.setFld o TL_t_BK_b_OWNER_OWNER (bits v.toNat 0 4)).setFld o TL_t_BK_b_OWNER_BUSY 1
      have hdo : doOwnerWrite ag t b v s = u := by simp [doOwnerWrite, hw, Nat.not_le.2 hc, hb, he, u, o]
      refine ⟨u, Completes.of_eq rfl hdo, ?_, ?_, ?_, ?_⟩
      · exact ((onlyRegs_refl [o] s).setFld (List.mem_singleton.2 rfl) _ _).setFld (List.mem_singleton.2 rfl) _ _
      · exact (fld_setFld_ne _ _ _ _ _ (by decide) (by decide)).trans (fld_setFld_of_lt _ _ _ _ (by decide) (bits_lt ..))
      · exact (fld_setFld_ne _ _ _ _ _ (by decide) (by decide)).trans (fld_setFld_ne _ _ _ _ _ (by decide) (by decide))
      · exact flag_eq_true_of_fld_eq_one _ _ _ (fld_setFld_of_lt _ _ _ _ (by decide) (by decide))
  · obtain ⟨hcur, hidle⟩ := handoverComplete_owner hbusy hcap
    exact ⟨_, rfl, handoverComplete_onlyRegs (onlyRegs_refl _ s) (by simp [o]) (by simp), hcur, hidle⟩
  · let u := (abortTile t b s).setFld (TL_t_ERR t) TL_t_ERR_DRAIN_ABORT 1
    have hdo : doDrainAbort t b s = doHandoverComplete t b u := if_pos hbusy
    have hreg : u.reg o = s.reg o := by
      rw [reg_setFld_other _ _ _ _ _ herr]
      exact reg_of_regs_eq (congrArg State.regs (abortTile_rest t b s)) o
    have hbusy' : ownerBusy u t b = true := (flag_of_reg_eq hreg _).trans hbusy
    obtain ⟨hcur, hidle⟩ := handoverComplete_owner hbusy' hcap
    have hkeep := handoverComplete_onlyRegs (onlyRegs_refl [o, TL_t_CAP t] u) (t := t) (b := b) (by simp [o]) (by simp)
    refine ⟨_, Completes.of_eq rfl hdo, hcur.trans (fld_of_reg_eq hreg _), hidle, ?_, ?_, ?_⟩
    · rw [fld_of_reg_eq (hkeep.2 (TL_t_ERR t) ?_)]
      · exact fld_setFld_of_lt _ _ _ _ (by decide) (by decide)
      · simp only [List.mem_cons, List.not_mem_nil, or_false, not_or]
        exact ⟨herr.symm, by simp only [TL_t_ERR, TL_t_CAP]; omega⟩
    · exact hkeep.mem_eq.trans (congrArg State.mem (abortTile_rest t b s) :)
    · intro n hn
      rw [core_of_cores_eq (congrArg State.cores hkeep.rest)]
      exact abortTile_stores hn s

/-! ### Refused accesses (R119) -/

section Refused
variable {s : State} {t : Nat}

theorem violation_of_held (h : s.fld (TL_t_VIOL t) TL_t_VIOL_VALID = 1) (b code off : Nat) (write : Bool) :
    violation s t b code off write = s.incSat (TL_t_VIOL_CNT t) TL_t_VIOL_CNT_COUNT :=
  if_pos (flag_eq_true_of_fld_eq_one _ _ _ h)

theorem violation_of_free (h : s.fld (TL_t_VIOL t) TL_t_VIOL_VALID = 0) (b code off : Nat) (write : Bool) :
    violation s t b code off write =
      ((s.incSat (TL_t_VIOL_CNT t) TL_t_VIOL_CNT_COUNT).setFlds (TL_t_VIOL t) [(TL_t_VIOL_AGENT, code), (TL_t_VIOL_BANK, b),
        (TL_t_VIOL_WRITE, b2n write),
        (TL_t_VIOL_HANDOVER, b2n (ownerBusy s t b && (ownerCur s t b = code || ownerReq s t b = code))),
        (TL_t_VIOL_VALID, 1)]).setFld (TL_t_VIOL_ADDR t) TL_t_VIOL_ADDR_OFFSET off := by
  simp only [violation, (flag_eq_false_iff s _ _).2 h, Bool.false_eq_true, if_false]

/-- A refused access changes the registers of the violation alone. -/
theorem violation_onlyRegs (b code off : Nat) (write : Bool) :
    OnlyRegs [TL_t_VIOL_CNT t, TL_t_VIOL t, TL_t_VIOL_ADDR t] s (violation s t b code off write) := by
  have h := (onlyRegs_refl [TL_t_VIOL_CNT t, TL_t_VIOL t, TL_t_VIOL_ADDR t] s).incSat (a := TL_t_VIOL_CNT t) (by simp)
    TL_t_VIOL_CNT_COUNT
  unfold violation
  dsimp only
  split
  · exact h
  · exact (h.setFlds (by simp) _).setFld (by simp) _ _

end Refused

/-- Settles O28. -/
theorem unownedAccessIsRefusedAndCounted : Obligations.UnownedAccessIsRefusedAndCounted := by
  intro s t b code off n l hcode hoff hserves
  have hread : ownedRead s t b code off n = (zeros n, violation s t b code off false) := if_neg (by simp [hserves])
  have hwrite : ownedWrite s t b code off l = violation s t b code off true := if_neg (by simp [hserves])
  have honly : OnlyRegs _ s (violation s t b code off true) := violation_onlyRegs b code off true
  have hcnt : TL_t_VIOL_CNT t ≠ TL_t_VIOL t := by simp only [TL_t_VIOL_CNT, TL_t_VIOL]; omega
  have hcnta : TL_t_VIOL_CNT t ≠ TL_t_VIOL_ADDR t := by simp only [TL_t_VIOL_CNT, TL_t_VIOL_ADDR]; omega
  have haddr : TL_t_VIOL t ≠ TL_t_VIOL_ADDR t := by simp only [TL_t_VIOL, TL_t_VIOL_ADDR]; omega
  rw [hread, hwrite]
  have hvalid := fld_lt s (TL_t_VIOL t) TL_t_VIOL_VALID
  refine ⟨rfl, honly.mem_eq, (congrArg State.ecc honly.1 :), ?_, fun hv => ?_, fun hv u hu => ?_⟩
  · have hcase : s.fld (TL_t_VIOL t) TL_t_VIOL_VALID = 0 ∨ s.fld (TL_t_VIOL t) TL_t_VIOL_VALID = 1 := by
      change _ < 2 at hvalid
      omega
    rcases hcase with hv | hv
    · rw [violation_of_free hv, fld_setFld_other _ _ _ _ _ _ hcnta, fld_setFlds_other _ _ _ _ _ hcnt]
      exact fld_incSat_same _ _ _ (by decide)
    · rw [violation_of_held hv]
      exact fld_incSat_same _ _ _ (by decide)
  · rw [violation_of_held hv]
    exact incSat_reg_other _ _ _ _ hcnt.symm
  · rw [hu, violation_of_free hv]
    have hb := b.isLt
    have hb2n (x : Bool) : b2n x < 2 := by cases x <;> decide
    simp only [fld_setFld_other _ _ _ _ _ _ haddr, State.setFlds]
    refine ⟨?_, ?_, ?_, ?_, fld_setFld_of_lt _ _ _ _ (by decide) hoff, ?_⟩
    · simp (disch := decide) only [fld_setFld_ne]
      exact fld_setFld_of_lt _ _ _ _ (by decide) (hcode.trans (by decide))
    · simp (disch := decide) only [fld_setFld_ne]
      exact fld_setFld_of_lt _ _ _ _ (by decide) hb
    · simp (disch := decide) only [fld_setFld_ne]
      exact fld_setFld_of_lt _ _ _ _ (by decide) (hb2n _)
    · exact fld_setFld_of_lt _ _ _ _ (by decide) (by decide)
    · rw [fld_setFld_ne _ _ _ _ _ (by decide) (by decide), fld_setFld_of_lt _ _ _ _ (by decide) (hb2n _)]
      cases ownerBusy s t b <;> simp [b2n, or_iff_not_imp_left]

/-! ### Spare rows (R130) -/

theorem each_append {α : Type} (s : State) (l m : List α) (f : State → α → State) :
    s.each (l ++ m) f = (s.each l f).each m f := List.foldl_append ..

theorem copyWord_rest (a d : Nat) (s : State) (i : Nat) :
    copyWord a d s i = { s with mem := (copyWord a d s i).mem, ecc := (copyWord a d s i).ecc } := by
  unfold copyWord
  rw [setBytes_rest]
  rfl

/-- Copying words changes memory and marks alone. -/
theorem copyWords_rest (a d : Nat) (l : List Nat) (s : State) :
    s.each l (copyWord a d) = { s with mem := (s.each l (copyWord a d)).mem, ecc := (s.each l (copyWord a d)).ecc } := by
  have h : { s.each l (copyWord a d) with mem := s.mem, ecc := s.ecc } = s :=
    each_induction (P := fun u => { u with mem := s.mem, ecc := s.ecc } = s) rfl fun u i _ h =>
      (congrArg (fun v : State => { v with mem := s.mem, ecc := s.ecc }) (copyWord_rest a d u i)).trans h
  generalize s.each l (copyWord a d) = u at h ⊢
  rw [← h]

theorem copyWords_regs (a d : Nat) (l : List Nat) (s : State) : (s.each l (copyWord a d)).regs = s.regs :=
  (congrArg State.regs (copyWords_rest a d l s) :)

theorem copyWord_byte (a d : Nat) (s : State) (i c : Nat) :
    (copyWord a d s i).byte c =
      if d + 8 * i ≤ c ∧ c < d + 8 * i + 8 then s.byte (a + (c - d)) else s.byte c := by
  show (s.setBytes (d + 8 * i) (s.bytes (a + 8 * i) 8)).byte c = _
  split
  next h =>
    obtain ⟨j, rfl⟩ := Nat.exists_eq_add_of_le h.1
    rw [byte_setBytes_inside _ _ _ j (by simp; omega), bytes_getElem]
    congr 1
    omega
  next h => exact byte_setBytes_other _ _ _ _ (by simp; omega)

/-- Words copied to a place apart from their source read there as they did at the source. -/
theorem copyWords_byte {a d n : Nat} (h : a + 8 * n ≤ d ∨ d + 8 * n ≤ a) (s : State) (c : Nat) :
    (s.each (List.range n) (copyWord a d)).byte c =
      if d ≤ c ∧ c < d + 8 * n then s.byte (a + (c - d)) else s.byte c := by
  induction n generalizing c with
  | zero =>
    rw [if_neg (by omega)]
    rfl
  | succ n ih =>
    rw [List.range_succ, each_append]
    show (copyWord a d _ n).byte c = _
    rw [copyWord_byte]
    have h' : a + 8 * n ≤ d ∨ d + 8 * n ≤ a := by omega
    split
    next hc => rw [ih h', if_neg (by omega), if_pos (by omega)]
    next hc =>
      rw [ih h']
      by_cases hin : d ≤ c ∧ c < d + 8 * n
      · rw [if_pos hin, if_pos (by omega)]
      · rw [if_neg hin, if_neg (by omega)]

theorem copyRow_regs (a d : Nat) (s : State) : (copyRow a d s).regs = s.regs :=
  copyWords_regs ..

theorem copyRow_byte {a d : Nat} (h : a + 1024 ≤ d ∨ d + 1024 ≤ a) (s : State) (c : Nat) :
    (copyRow a d s).byte c = if d ≤ c ∧ c < d + 1024 then s.byte (a + (c - d)) else s.byte c := by
  rw [copyRow, copyWords_byte (by omega)]

theorem bkTest_eq {b : Nat} (hb : b < 9) (t : Nat) : bkTest t b = TL_t_BK_b_TEST t b := by
  unfold bkTest
  split
  · rfl
  · simp only [TL_t_CB_TEST, TL_t_BK_b_TEST]; omega

theorem bkEcc_eq {b : Nat} (hb : b < 9) (t : Nat) : bkEcc t b = TL_t_BK_b_ECC t b := by
  unfold bkEcc
  split
  · rfl
  · simp only [TL_t_CB_ECC, TL_t_BK_b_ECC]; omega

theorem bkEccAddr_eq {b : Nat} (hb : b < 9) (t : Nat) : bkEccAddr t b = TL_t_BK_b_ECCADDR t b := by
  unfold bkEccAddr
  split
  · rfl
  · simp only [TL_t_CB_ECCADDR, TL_t_BK_b_ECCADDR]; omega

theorem bankRow_below_spare {t b r k : Nat} (ht : t < 12) (hr : r < 512) :
    bankBase t b + 1024 * r + 1024 ≤ spareBase t b k := by
  unfold bankBase tileBase spareBase
  split <;> omega

/-- R130: a row copied into its spare, which holds no other row. -/
theorem remapCopyDone_of_free {s : State} {t b k : Nat} (ht : t < 12) (hc : tget 0 s.spareCopy (spareKey t b k) = 2)
    (hen : remapEn s t b k = true) (hfree : mappedRow s t b k = 0) :
    ∃ v : State, v.regs = (s.setFld (bkRemap t b k) TL_t_BK_b_REMAP_k_BUSY 0).regs ∧
      (∀ c, v.byte c = if spareBase t b k ≤ c ∧ c < spareBase t b k + 1024 then
        s.byte (bankBase t b + 1024 * remapRow s t b k + (c - spareBase t b k)) else s.byte c) ∧
      doRemapCopyDone t b k s = { v with spareRow := tput 0 v.spareRow (spareKey t b k) (remapRow s t b k + 1) } := by
  have hun : unmapSpare t b k s = s := by simp [unmapSpare, hfree]
  let w := s.setFld (bkRemap t b k) TL_t_BK_b_REMAP_k_BUSY 0
  let u := { w with spareCopy := tput 0 w.spareCopy (spareKey t b k) 0 }
  have hu (c : Nat) : u.byte c = s.byte c := rfl
  have hrow : remapRow s t b k < 512 := fld_lt ..
  refine ⟨copyRow (bankBase t b + 1024 * remapRow s t b k) (spareBase t b k) u, copyRow_regs _ _ u, fun c => ?_, ?_⟩
  · rw [copyRow_byte (.inl (bankRow_below_spare ht hrow)), hu, hu]
  simp only [doRemapCopyDone, hc, hun, hen, if_true]
  rfl

/-! ### The background test (R131 to R134) -/

theorem copyWord_bankOnly (t b a d : Nat) (s : State) (i : Nat) : BankOnly t b s (copyWord a d s i) := by
  rw [copyWord_rest]
  generalize (copyWord a d s i).mem = m, (copyWord a d s i).ecc = e
  exact ⟨rfl, fun _ _ _ => rfl⟩

theorem saveWord_bankOnly (t b w : Nat) (s : State) (i : Nat) : BankOnly t b s (saveWord t b w s i) := by
  unfold saveWord
  exact (eccRead_bankOnly t b s _).trans (copyWord_bankOnly t b _ _ _ i)

/-- The saved window: the registers other than those of ECC, the windows and the spares stay. -/
theorem saveWords_bankOnly (t b w : Nat) (l : List Nat) (s : State) : BankOnly t b s (s.each l (saveWord t b w)) :=
  each_induction (.refl t b s) fun u i _ h => h.trans (saveWord_bankOnly t b w u i)

/-- What the opening of a window of bank `b` reads. -/
structure KeepsWindow (t b : Nat) (s u : State) : Prop where
  test : u.reg (bkTest t b) = s.reg (bkTest t b)
  ctl : u.reg (TL_t_BKT_CTL t) = s.reg (TL_t_BKT_CTL t)
  copy : u.spareCopy = s.spareCopy
  next : u.nextWin = s.nextWin

theorem openWindow_keepsWindow {t b b' : Nat} (hb : b < 9) (hb' : b' < 9) (hne : b' ≠ b) (s : State) :
    KeepsWindow t b s (openWindow t b' s) := by
  unfold openWindow
  split
  next =>
    have h := saveWords_bankOnly t b' (512 * tget 0 s.nextWin (9 * t + b')) (List.range 64) s
    dsimp only
    generalize s.each (List.range 64) _ = u at h ⊢
    have keep (a : Nat) (h1 : a ≠ bkTest t b') (h2 : a ≠ bkEcc t b') (h3 : a ≠ bkEccAddr t b') :
        (u.setFlds (bkTest t b') [(TL_t_BK_b_TEST_ACTIVE, 1), (TL_t_BK_b_TEST_WIN, tget 0 s.nextWin (9 * t + b'))]).reg a = s.reg a :=
      (reg_setFlds_other _ _ _ _ h1).trans (h.reg a h2 h3)
    have hrest := setFlds_rest u (bkTest t b') [(TL_t_BK_b_TEST_ACTIVE, 1), (TL_t_BK_b_TEST_WIN, tget 0 s.nextWin (9 * t + b'))]
    refine ⟨keep _ ?_ ?_ ?_, keep _ ?_ ?_ ?_, (congrArg State.spareCopy hrest).trans h.spareCopy_eq,
      (congrArg State.nextWin hrest).trans h.nextWin_eq⟩ <;>
      simp only [bkTest_eq hb, bkTest_eq hb', bkEcc_eq hb', bkEccAddr_eq hb', TL_t_BK_b_TEST, TL_t_BK_b_ECC, TL_t_BK_b_ECCADDR,
        TL_t_BKT_CTL] <;> omega
  next => exact ⟨rfl, rfl, rfl, rfl⟩

/-- The windows of other banks. -/
theorem openWindows_keepsWindow {t b : Nat} (hb : b < 9) {l : List Nat} (hl : ∀ b' ∈ l, b' < 9 ∧ b' ≠ b) (s : State) :
    KeepsWindow t b s (s.each l (fun s b => openWindow t b s)) :=
  each_induction ⟨rfl, rfl, rfl, rfl⟩ fun u b' hm h =>
    have k := openWindow_keepsWindow hb (hl b' hm).1 (hl b' hm).2 u
    ⟨k.test.trans h.test, k.ctl.trans h.ctl, k.copy.trans h.copy, k.next.trans h.next⟩

/-- R133: the window that a bank opens is its next one. -/
theorem openWindow_opens {t b : Nat} {s : State} (hen : bits (s.fld (TL_t_BKT_CTL t) TL_t_BKT_CTL_EN) b 1 = 1)
    (hopen : windowOpen s t b = false) (hcopy : copyPending s t b = false) :
    windowOpen (openWindow t b s) t b = true ∧ windowNo (openWindow t b s) t b = tget 0 s.nextWin (9 * t + b) % 1024 := by
  rw [openWindow, if_pos (by simp [hen, hopen, hcopy])]
  constructor
  · refine flag_eq_true_of_fld_eq_one _ _ _ ((fld_setFld_ne _ _ _ _ _ (by decide) (by decide)).trans ?_)
    exact fld_setFld_of_lt _ _ _ _ (by decide) (by decide)
  · exact fld_setFld_same _ _ _ _ (by decide)

theorem testWindowStart_opens {t b : Nat} {s : State} (hb : b < 9)
    (hen : bits (s.fld (TL_t_BKT_CTL t) TL_t_BKT_CTL_EN) b 1 = 1) (hopen : windowOpen s t b = false)
    (hcopy : copyPending s t b = false) :
    windowOpen (doTestWindowStart t s) t b = true ∧
      windowNo (doTestWindowStart t s) t b = tget 0 s.nextWin (9 * t + b) % 1024 := by
  obtain ⟨l, m, hlm⟩ := List.append_of_mem (List.mem_range.2 hb)
  have hmem (x : Nat) (hx : x ∈ l ∨ x ∈ m) : x < 9 := by
    refine List.mem_range.1 (hlm ▸ ?_)
    rcases hx with hx | hx
    · exact List.mem_append_left _ hx
    · exact List.mem_append_right _ (List.mem_cons_of_mem _ hx)
  have hnd := hlm ▸ List.nodup_range (n := 9)
  obtain ⟨-, hm, hdis⟩ := List.nodup_append.1 hnd
  obtain ⟨hbm, -⟩ := List.nodup_cons.1 hm
  have before := openWindows_keepsWindow (t := t) hb (l := l)
    (fun x hx => ⟨hmem x (.inl hx), hdis x hx b (List.mem_cons_self ..)⟩) s
  rw [doTestWindowStart, hlm, each_append]
  generalize s.each l _ = u at before ⊢
  have after := openWindows_keepsWindow (t := t) hb (l := m)
    (fun x hx => ⟨hmem x (.inr hx), fun e => hbm (e ▸ hx)⟩) (openWindow t b u)
  show windowOpen ((openWindow t b u).each m _) t b = true ∧ windowNo ((openWindow t b u).each m _) t b = _
  unfold windowOpen windowNo
  rw [flag_of_reg_eq after.test, fld_of_reg_eq after.test, ← before.next]
  refine openWindow_opens ?_ ?_ ?_
  · rw [fld_of_reg_eq before.ctl, hen]
  · exact (flag_of_reg_eq before.test _).trans hopen
  · simpa only [copyPending, before.copy] using hcopy

/-- The end of a window of bank `b` after its words are back in their place: the next one is `n`. -/
def closeWindow (t b n : Nat) (s : State) : State :=
  let s1 := s.setFld (bkTest t b) TL_t_BK_b_TEST_ACTIVE 0
  let s2 := { s1 with nextWin := tput 0 s1.nextWin (9 * t + b) n }
  if n = 0 then s2.setFld (bkTest t b) TL_t_BK_b_TEST_PASSES (s2.fld (bkTest t b) TL_t_BK_b_TEST_PASSES + 1) else s2

theorem closeWindow_next (t b n : Nat) (s : State) : tget 0 (closeWindow t b n s).nextWin (9 * t + b) = n := by
  unfold closeWindow
  split <;> exact tget_tput_same _ _ _ _

theorem closeWindow_closes (t b n : Nat) (s : State) : windowOpen (closeWindow t b n s) t b = false := by
  have h : (s.setFld (bkTest t b) TL_t_BK_b_TEST_ACTIVE 0).fld (bkTest t b) TL_t_BK_b_TEST_ACTIVE = 0 :=
    fld_setFld_of_lt _ _ _ _ (by decide) (by decide)
  unfold closeWindow
  split
  · exact (flag_eq_false_iff ..).2 ((fld_setFld_ne _ _ _ _ _ (by decide) (by decide)).trans h)
  · exact (flag_eq_false_iff ..).2 h

theorem closeWindow_fail (t b n : Nat) (s : State) :
    (closeWindow t b n s).fld (bkTest t b) TL_t_BK_b_TEST_FAIL = s.fld (bkTest t b) TL_t_BK_b_TEST_FAIL := by
  have h := fld_setFld_ne s (bkTest t b) TL_t_BK_b_TEST_ACTIVE TL_t_BK_b_TEST_FAIL 0 (by decide) (by decide)
  unfold closeWindow
  split
  · exact (fld_setFld_ne _ _ _ _ _ (by decide) (by decide)).trans h
  · exact h

/-- R131: a window ends; the next follows. -/
theorem testWindowEnd_closes {t b : Nat} {s : State} (hopen : windowOpen s t b = true) :
    let u := doTestWindowEnd t b none s
    windowOpen u t b = false ∧
      tget 0 u.nextWin (9 * t + b) = (if windowNo s t b + 1 < windowsOf b then windowNo s t b + 1 else 0) ∧
      u.fld (bkTest t b) TL_t_BK_b_TEST_FAIL = s.fld (bkTest t b) TL_t_BK_b_TEST_FAIL := by
  let w := windowNo s t b
  let n := if w + 1 < windowsOf b then w + 1 else 0
  have hregs := copyWords_regs (saveBase t b) (arrayAddr s t b (512 * w)) (List.range 64) s
  have hdo : doTestWindowEnd t b none s =
      closeWindow t b n (s.each (List.range 64) (copyWord (saveBase t b) (arrayAddr s t b (512 * w)))) := by
    rw [doTestWindowEnd, if_pos hopen]
    rfl
  rw [hdo]
  generalize s.each (List.range 64) _ = v at hregs ⊢
  exact ⟨closeWindow_closes t b n v, closeWindow_next t b n v,
    (closeWindow_fail t b n v).trans (fld_of_reg_eq (reg_of_regs_eq hregs _) _)⟩

/-- R130: the row is in its spare, and accesses to it go there. -/
theorem completes_remapCopyDone {s : State} {t : Fin 12} {b : Fin 9} {k : Fin 4}
    (hc : tget 0 s.spareCopy (spareKey t b k) = 2) (hen : remapEn s t b k = true) (hfree : mappedRow s t b k = 0) :
    ∃ u, Completes (.remapCopyDone t b k) s u ∧ mappedRow u t b k = remapRow s t b k + 1 ∧ remapBusy u t b k = false ∧
      (∀ i, i < 1024 → u.byte (spareBase t b k + i) = s.byte (bankBase t b + 1024 * remapRow s t b k + i)) ∧
      ∀ a, a < spareBase t b k ∨ spareBase t b k + 1024 ≤ a → u.byte a = s.byte a := by
  obtain ⟨v, hregs, hbyte, hdo⟩ := remapCopyDone_of_free t.isLt hc hen hfree
  refine ⟨_, Completes.of_eq rfl hdo, tget_tput_same _ _ _ _, ?_, fun i hi => ?_, fun a ha => ?_⟩
  · refine (flag_of_reg_eq (reg_of_regs_eq hregs _) _).trans ?_
    exact (flag_eq_false_iff ..).2 (fld_setFld_of_lt _ _ _ _ (by decide) (by decide))
  · refine (hbyte _).trans ?_
    rw [if_pos (by omega), Nat.add_sub_cancel_left]
  · exact (hbyte _).trans (if_neg (by omega))

theorem completes_testWindowStart {s : State} {t : Fin 12} {b : Fin 9}
    (hen : bits (s.fld (TL_t_BKT_CTL t) TL_t_BKT_CTL_EN) b 1 = 1) (hopen : windowOpen s t b = false)
    (hcopy : copyPending s t b = false) :
    ∃ u, Completes (.testWindowStart t) s u ∧ windowOpen u t b = true ∧
      windowNo u t b = tget 0 s.nextWin (9 * t + b) % 1024 :=
  ⟨doTestWindowStart t s, rfl, testWindowStart_opens b.isLt hen hopen hcopy⟩

theorem completes_testWindowEnd {s : State} {t : Fin 12} {b : Fin 9} (hopen : windowOpen s t b = true) :
    ∃ u, Completes (.testWindowEnd t b none) s u ∧ windowOpen u t b = false ∧
      tget 0 u.nextWin (9 * t + b) = (if windowNo s t b + 1 < windowsOf b then windowNo s t b + 1 else 0) ∧
      u.fld (bkTest t b) TL_t_BK_b_TEST_FAIL = s.fld (bkTest t b) TL_t_BK_b_TEST_FAIL :=
  ⟨doTestWindowEnd t b none s, rfl, testWindowEnd_closes hopen⟩

/-- Settles O30. -/
theorem spareRowAndTestCommandsComplete : Obligations.SpareRowAndTestCommandsComplete := by
  intro s t b k v
  have hb := b.isLt
  have ht := t.isLt
  have hk := k.isLt
  refine ⟨fun hbusy => ?_, fun hidle hrow hdup hen => ?_, fun hc hw => ?_, fun hc hen hfree => ?_, fun hen hw hc => ?_, fun hw => ?_,
    fun h => ?_, fun h => ?_⟩
  · refine ⟨_, rfl, ?_⟩
    have h1 := (onlyRegs_refl [TL_t_ERR t] s).setFld (List.mem_singleton.2 rfl) TL_t_ERR_REMAP_BUSY 1
    have hset : (s.setFld (TL_t_ERR t) TL_t_ERR_REMAP_BUSY 1).fld (TL_t_ERR t) TL_t_ERR_REMAP_BUSY = 1 :=
      fld_setFld_of_lt _ _ _ _ (by decide) (by decide)
    simp only [doRemapWrite, hbusy, Bool.true_or, if_true]
    split
    · exact ⟨h1.setFld (List.mem_singleton.2 rfl) _ _, (fld_setFld_ne _ _ _ _ _ (by decide) (by decide)).trans hset⟩
    · exact ⟨h1, hset⟩
  · have hnodup : ((List.range 4).any (fun j => j ≠ k && remapEn s t b j && remapRow s t b j = bits v.toNat 0 9) ||
        (b.val = 8 && 64 ≤ bits v.toNat 0 9)) = false := by
      simp only [Bool.or_eq_false_iff, List.any_eq_false, Bool.and_eq_true, decide_eq_true_eq, List.mem_range, not_and,
        Bool.and_eq_false_iff, decide_eq_false_iff_not]
      refine ⟨fun j hj ⟨hne, he⟩ => hdup ⟨j, hj⟩ (fun e => hne (congrArg Fin.val e)) he, by omega⟩
    let a := bkRemap t b k
    let w := ((s.setFld a TL_t_BK_b_REMAP_k_ROW (bits v.toNat 0 9)).setFld a TL_t_BK_b_REMAP_k_EN 1).setFld a
      TL_t_BK_b_REMAP_k_BUSY 1
    have hdo : doRemapWrite t b k v s =
        { w with spareCopy := tput 0 w.spareCopy (spareKey t b k) (if windowOpen s t b then 1 else 2) } := by
      unfold doRemapWrite
      dsimp only
      rw [hnodup, hidle, hen]
      rfl
    refine ⟨_, Completes.of_eq rfl hdo, ?_, ?_, ?_, rfl, tget_tput_same ..⟩
    · refine (fld_setFld_ne _ _ _ _ _ (by decide) (by decide)).trans ((fld_setFld_ne _ _ _ _ _ (by decide) (by decide)).trans ?_)
      exact fld_setFld_of_lt _ _ _ _ (by decide) (bits_lt ..)
    · refine flag_eq_true_of_fld_eq_one _ _ _ ((fld_setFld_ne _ _ _ _ _ (by decide) (by decide)).trans ?_)
      exact fld_setFld_of_lt _ _ _ _ (by decide) (by decide)
    · exact flag_eq_true_of_fld_eq_one _ _ _ (fld_setFld_of_lt _ _ _ _ (by decide) (by decide))
  · exact Completes.of_eq rfl (if_pos ⟨hc, by simp [hw]⟩)
  · exact completes_remapCopyDone hc hen hfree
  · exact completes_testWindowStart hen hw hc
  · exact completes_testWindowEnd hw
  · exact Completes.of_eq rfl (if_pos h)
  · exact Completes.of_eq rfl (if_neg (Nat.not_lt.2 h))

end Sys2Proof.Machine
end

section

/-! SUPPORT. Signal cores: the registers of a core, the landing of results and stores, commands (O16), the ends of the gaps (O18),
issue (O19), landing (O20), held accesses and locks (O25), and the loading of program memory (O26). -/

namespace Sys2Proof.Machine
open R

@[simp] theorem reg_setBytes (s : State) (a : Nat) (l : List Byte) (b : Nat) : (s.setBytes a l).reg b = s.reg b :=
  reg_of_regs_eq (congrArg State.regs (setBytes_rest l s a) :) b

@[simp] theorem setBytes_cores (s : State) (a : Nat) (l : List Byte) : (s.setBytes a l).cores = s.cores :=
  (congrArg State.cores (setBytes_rest l s a) :)

/-! ### Registers of a core -/

section CoreRegisters
variable (c : Core)

theorem get_put_same {k : Nat} (h : k ≠ 0xC0) (v : Nat) : (c.put k v).get k = regValue k v := by
  simp only [Core.put, Core.get, if_neg h, tget_tput_same]

theorem get_put_other {j k : Nat} (h : j ≠ k) (v : Nat) : (c.put k v).get j = c.get j := by
  unfold Core.put
  split
  · rfl
  · simp only [Core.get, tget_tput_other _ _ _ _ _ _ h]

theorem put_rest (k v : Nat) : c.put k v = { c with r := (c.put k v).r } := by
  unfold Core.put
  split <;> rfl

@[simp] theorem ctl_setCtl_same (r v : Nat) : (c.setCtl r v).ctl r = v := by
  have h1 : ctlKey r ≠ 0xC0 := by unfold ctlKey; omega
  have h2 : regValue (ctlKey r) v = v := by unfold regValue ctlKey; repeat rw [if_neg (by omega)]
  rw [Core.ctl, Core.setCtl, get_put_same c h1, h2]

theorem ctl_setCtl_other {q r : Nat} (h : q ≠ r) (v : Nat) : (c.setCtl r v).ctl q = c.ctl q :=
  get_put_other c (by unfold ctlKey; omega) v

/-- Writing back what a control register holds. -/
theorem get_setCtl_self (r j : Nat) : (c.setCtl r (c.ctl r)).get j = c.get j := by
  by_cases h : j = ctlKey r
  · subst h
    exact ctl_setCtl_same c r _
  · exact get_put_other c h _

theorem sfld_setSfld_same (f : Fld) (x : Nat) : (c.setSfld f x).sfld f = x % 2 ^ f.w := by
  simp [Core.sfld, Core.setSfld, Core.status]

theorem sfld_setSfld_below (f g : Fld) (x : Nat) (h : g.lo + g.w ≤ f.lo) : (c.setSfld f x).sfld g = c.sfld g := by
  simp only [Core.sfld, Core.setSfld, Core.status, ctl_setCtl_same, bits_setBits_below _ _ _ _ _ _ h]

theorem sfld_setSfld_above (f g : Fld) (x : Nat) (h : f.lo + f.w ≤ g.lo) : (c.setSfld f x).sfld g = c.sfld g := by
  simp only [Core.sfld, Core.setSfld, Core.status, ctl_setCtl_same, bits_setBits_above _ _ _ _ _ _ h]

theorem loopActive_eq_false (h : c.sfld sLoopact = 0) {k : Nat} (hk : k < 4) : c.loopActive k = false := by
  have hb : bits c.status (4 + k) 1 = bits (bits c.status 4 4) k 1 := (bits_bits _ _ _ _ _ (by omega)).symm
  have h0 : bits c.status 4 4 = 0 := h
  rw [Core.loopActive, hb, h0]
  simp [bits]

end CoreRegisters

/-- `d` is `c` with other values in its registers. -/
def OnlyCoreRegs (c d : Core) : Prop := { d with r := c.r } = c

namespace OnlyCoreRegs
variable {c d e : Core}

theorem refl (c : Core) : OnlyCoreRegs c c := rfl

theorem trans (h : OnlyCoreRegs c d) (k : OnlyCoreRegs d e) : OnlyCoreRegs c e :=
  (congrArg (fun x : Core => { x with r := c.r }) k :).trans h

theorem put (h : OnlyCoreRegs c d) (k v : Nat) : OnlyCoreRegs c (d.put k v) := by
  rw [put_rest]
  exact h

theorem setCtl (h : OnlyCoreRegs c d) (r v : Nat) : OnlyCoreRegs c (d.setCtl r v) := h.put _ _

theorem trap (h : OnlyCoreRegs c d) (cause : Nat) : OnlyCoreRegs c (d.trap cause) := (h.setCtl _ _).setCtl _ _

theorem raise (h : OnlyCoreRegs c d) (f : Nat) : OnlyCoreRegs c (d.raise f) := by
  unfold Core.raise
  dsimp only
  split
  · exact (h.setCtl _ _).trap _
  · exact h.setCtl _ _

theorem raiseFp (h : OnlyCoreRegs c d) (f : Nat) : OnlyCoreRegs c (d.raiseFp f) := by
  unfold Core.raiseFp
  dsimp only
  split
  · exact h.setCtl _ _
  · exact (h.setCtl _ _).trap _

theorem landGroup (h : OnlyCoreRegs c d) (g : List Flight) : OnlyCoreRegs c (landGroup d g) := by
  refine (OnlyCoreRegs.raise ?_ _).raiseFp _
  refine List.foldlRecOn (g.filter writesReg) _ h fun x hx f _ => ?_
  split
  · split
    · exact hx.put _ _
    · exact hx
  · exact hx

end OnlyCoreRegs

/-- The landing of results changes registers and flights. -/
theorem landFlights_rest (fuel upto : Nat) (c : Core) (b : Option Flight) :
    { (landFlights fuel upto c b).1 with r := c.r, flight := c.flight } = c := by
  induction fuel generalizing c b with
  | zero => rfl
  | succ fuel ih =>
    unfold landFlights
    split
    · rfl
    next d _ =>
      split
      next =>
        have hg := OnlyCoreRegs.landGroup (.refl { c with flight := c.flight.filter (fun f => f.due ≠ d) })
          (c.flight.filter (fun f => f.due = d))
        have h := ih (landGroup { c with flight := c.flight.filter (fun f => f.due ≠ d) } (c.flight.filter (fun f => f.due = d)))
          (match b with
            | some x => some x
            | none => (c.flight.filter (fun f => f.due = d)).find? (·.bad))
        dsimp only at h ⊢
        generalize landGroup _ _ = e at h hg ⊢
        generalize landFlights fuel upto _ _ = p at h ⊢
        have h1 := congrArg (fun x : Core => { x with r := c.r, flight := c.flight }) h
        exact h1.trans (congrArg (fun x : Core => { x with flight := c.flight }) hg)
      next => rfl

theorem landFlights_nil {c : Core} (h : c.flight = []) (fuel upto : Nat) (b : Option Flight) : landFlights fuel upto c b = (c, b) := by
  cases fuel with
  | zero => rfl
  | succ fuel => simp only [landFlights, h, nextDue, List.foldl_nil]

/-! ### Landing -/

/-- A landing store of core `n` leaves cores as they are, and registers other than the ECC registers of the tile's banks. -/
structure LandsStores (n : Nat) (s u : State) : Prop where
  cores : u.cores = s.cores
  reg : ∀ a, (∀ b, a ≠ bkEcc (n / 4) b ∧ a ≠ bkEccAddr (n / 4) b) → u.reg a = s.reg a

theorem LandsStores.refl (n : Nat) (s : State) : LandsStores n s s := ⟨rfl, fun _ _ => rfl⟩

theorem LandsStores.trans {n : Nat} {s u v : State} (h : LandsStores n s u) (k : LandsStores n u v) : LandsStores n s v :=
  ⟨k.cores.trans h.cores, fun a ha => (k.reg a ha).trans (h.reg a ha)⟩

theorem LandsStores.of_bankOnly {n b : Nat} {s u : State} (h : BankOnly (n / 4) b s u) : LandsStores n s u :=
  ⟨h.cores_eq, fun a ha => h.reg a (ha b).1 (ha b).2⟩

theorem LandsStores.setBytes {n : Nat} {s u : State} (h : LandsStores n s u) (a : Nat) (l : List Byte) :
    LandsStores n s (u.setBytes a l) := by
  rw [setBytes_rest]
  exact ⟨h.cores, h.reg⟩

theorem privWrite_landsStores (n a : Nat) (l : List Byte) (s : State) : LandsStores n s (privWrite s n a l) := by
  unfold privWrite
  refine LandsStores.setBytes (each_induction (.refl n s) fun u w _ h => ?_) _ _
  split
  · exact ⟨h.cores, h.reg⟩
  · exact h

theorem landStore_landsStores (n : Nat) (s : State) (x : StoreFlight) : LandsStores n s (landStore n s x) := by
  unfold landStore
  split
  · exact .of_bankOnly (bankWrite_bankOnly ..)
  · exact .of_bankOnly (bankWrite_bankOnly ..)
  · exact privWrite_landsStores ..
  · exact .refl n s

theorem vtProgramOut_cores (t v : Nat) (s : State) : (vtProgramOut t v s).cores = s.cores := by
  unfold vtProgramOut
  split <;> rfl

theorem vtProgramOut_reg (t v : Nat) (s : State) {a : Nat} (h1 : a ≠ DBG_VT_t_OUT t) (h2 : a ≠ DBG_VT_t_STAT t) :
    (vtProgramOut t v s).reg a = s.reg a := by
  unfold vtProgramOut
  split
  · exact reg_setFld_other _ _ _ _ _ h2
  · exact (reg_setFld_other _ _ _ _ _ h2).trans (reg_setReg_other _ _ _ _ h1)

/-- What the landing of everything due leaves of core `n`. -/
structure Landed (n : Nat) (s u : State) : Prop where
  core : { u.core n with r := (s.core n).r, flight := (s.core n).flight, stores := (s.core n).stores } = s.core n
  other : ∀ m, m ≠ n → u.core m = s.core m
  reg : ∀ a, (∀ b, a ≠ bkEcc (n / 4) b ∧ a ≠ bkEccAddr (n / 4) b) → a ≠ DBG_VT_t_OUT n → a ≠ DBG_VT_t_STAT n →
    u.reg a = s.reg a

theorem land_landed (n upto : Nat) (s : State) : Landed n s (land n upto s).1 := by
  unfold land landStores
  have hst : LandsStores n s (((s.core n).stores.filter (fun x => x.due ≤ upto)).foldl (landStore n) s) :=
    List.foldlRecOn _ _ (.refl n s) fun u h x _ => h.trans (landStore_landsStores n u x)
  dsimp only
  generalize List.foldl (landStore n) s _ = u at hst ⊢
  rw [core_setCore_same]
  generalize hc : ({ s.core n with stores := (s.core n).stores.filter (fun x => upto < x.due) } : Core) = c
  have hvt : ((vtWords c upto).foldl (fun s v => vtProgramOut n v s) (u.setCore n c)).cores = (u.setCore n c).cores ∧
      ∀ a, a ≠ DBG_VT_t_OUT n → a ≠ DBG_VT_t_STAT n →
        ((vtWords c upto).foldl (fun s v => vtProgramOut n v s) (u.setCore n c)).reg a = u.reg a :=
    List.foldlRecOn (motive := fun w : State => w.cores = (u.setCore n c).cores ∧
        ∀ a, a ≠ DBG_VT_t_OUT n → a ≠ DBG_VT_t_STAT n → w.reg a = u.reg a) _ _ ⟨rfl, fun _ _ _ => rfl⟩ fun w h v _ =>
      ⟨(vtProgramOut_cores n v w).trans h.1, fun a h1 h2 => (vtProgramOut_reg n v w h1 h2).trans (h.2 a h1 h2)⟩
  generalize List.foldl (fun s v => vtProgramOut n v s) (u.setCore n c) _ = w at hvt ⊢
  obtain ⟨hcores, hreg⟩ := hvt
  have hl := landFlights_rest (c.flight.length + 1) upto c none
  generalize landFlights (c.flight.length + 1) upto c none = p at hl ⊢
  refine ⟨?_, fun m hm => ?_, fun a hb h1 h2 => (hreg a h1 h2).trans (hst.reg a hb)⟩
  · rw [core_setCore_same]
    have h1 := congrArg (fun x : Core => { x with r := (s.core n).r, flight := (s.core n).flight, stores := (s.core n).stores })
      (hl.trans hc.symm)
    exact h1
  · rw [core_setCore_other _ _ hm, core_of_cores_eq hcores, core_setCore_other _ _ hm, core_of_cores_eq hst.cores]

theorem Landed.core_eq {n : Nat} {s u : State} (h : Landed n s u) :
    u.core n = { s.core n with r := (u.core n).r, flight := (u.core n).flight, stores := (u.core n).stores } := by
  have hc := h.core
  generalize s.core n = c at hc ⊢
  rw [← hc]

/-- Nothing in flight: the landing leaves the state of cores, registers and memory. -/
theorem land_nothing {n : Nat} {s : State} (hf : (s.core n).flight = []) (hs : (s.core n).stores = []) (upto : Nat) :
    land n upto s = ((s.setCore n (s.core n)).setCore n (s.core n), none) := by
  have hc : ({ s.core n with stores := [] } : Core) = s.core n := by rw [← hs]
  have hvt : vtWords (s.core n) upto = [] := by simp [vtWords, hf]
  unfold land landStores
  simp only [hs, List.filter_nil, List.foldl_nil, hc, core_setCore_same, hvt, landFlights_nil hf]

end Sys2Proof.Machine
end

section

/-! SUPPORT. Commands of a core (O16), the ends of its gaps (O18), and one due result (O20). -/

namespace Sys2Proof.Machine
open R

/-! ### Commands (R78, R81, R82) -/

theorem reloadCoreDog_core (n m : Nat) (s : State) : (reloadCoreDog n s).core m = s.core m := rfl

theorem resumeCore_running (n : Nat) (s : State) :
    resumeCore n 0 s = reloadCoreDog n (s.mapCore n (fun c => { c with st := 2, haltWait := 0, frozenFrom := 0 })) := rfl

theorem coreReset_eq (n : Nat) (s : State) :
    (coreReset n s).cores = (s.setCore n Core.reset).cores ∧ (coreReset n s).mem = s.mem ∧ (coreReset n s).reg (SC_n_FAULT n) = 0 ∧
      ∀ a, a ≠ TL_t_LOCK (n / 4) → a ≠ SC_n_FAULT n → (coreReset n s).reg a = s.reg a := by
  unfold coreReset
  refine ⟨?_, ?_, reg_setReg_same .., fun a h1 h2 => (reg_setReg_other _ _ _ _ h2).trans ?_⟩
  · split <;> rfl
  · split <;> rfl
  · split
    · exact reg_setFld_other _ _ _ _ _ h1
    · rfl

/-- Settles O16. -/
theorem coreCommandsComplete : Obligations.CoreCommandsComplete := by
  intro n s hon
  refine ⟨fun h => ?_, fun h => ?_, fun h => ?_, fun h hw => ?_, ?_⟩
  · exact Completes.of_eq rfl (by simp [doCoreStart, hon, h])
  · refine Completes.of_eq rfl ?_
    rcases h with h | h <;> simp [doCoreStart, hon, h]
  · exact Completes.of_eq rfl (by simp [doCoreHalt, h])
  · have hdo : doWinStep n s = resumeCore n 0 (s.setCore n { s.core n with haltReq := true }) := by simp [doWinStep, h, hw, hon]
    refine ⟨_, Completes.of_eq rfl (hdo.trans (resumeCore_running ..)), ?_⟩
    simp only [reloadCoreDog_core, State.mapCore, core_setCore_same, true_and]
    exact ⟨rfl, fun m hm => (core_setCore_other _ _ hm).trans (core_setCore_other _ _ hm)⟩
  · obtain ⟨hcores, hmem, hfault, hreg⟩ := coreReset_eq n s
    have hdo : doCoreReset n s = coreReset n s := by simp [doCoreReset, hon]
    refine ⟨_, Completes.of_eq rfl hdo, (core_of_cores_eq hcores _).trans (core_setCore_same ..), hfault, hmem, ?_, ?_, ?_,
      fun m hm => (core_of_cores_eq hcores _).trans (core_setCore_other _ _ hm)⟩ <;>
      refine hreg _ ?_ ?_ <;>
      simp only [DBG_VT_t_OUT, DBG_VT_t_IN, DBG_VT_t_STAT, TL_t_LOCK, SC_n_FAULT] <;> omega

/-! ### Gaps (R71, R72, R78, R79) -/

/-- The core at the end of a gap: everything has landed. -/
theorem landAll_core (n : Nat) (s : State) : ∃ (r : List (Nat × Nat)) (fl : List Flight) (st : List StoreFlight) (cyc : Nat),
    (landAll n s).core n = { s.core n with r := r, flight := fl, stores := st, cyc := cyc, gap := .none } := by
  have h := (land_landed n (s.core n).gapEnd s).core_eq
  let c := (land n (s.core n).gapEnd s).1.core n
  have hc : (landAll n s).core n = { c with cyc := max c.cyc (s.core n).gapEnd, gap := .none } := core_setCore_same ..
  exact ⟨c.r, c.flight, c.stores, max c.cyc (s.core n).gapEnd, 
    hc.trans (congrArg (fun x : Core => { x with cyc := max c.cyc (s.core n).gapEnd, gap := .none }) h :)⟩

theorem landAll_reg {n a : Nat} (s : State) (hb : ∀ b, a ≠ bkEcc (n / 4) b ∧ a ≠ bkEccAddr (n / 4) b) (h1 : a ≠ DBG_VT_t_OUT n)
    (h2 : a ≠ DBG_VT_t_STAT n) : (landAll n s).reg a = s.reg a :=
  (land_landed n (s.core n).gapEnd s).reg a hb h1 h2

/-- The registers of a core lie below those of its tile's banks. -/
theorem faultAddr_ne_bank (n b : Nat) : SC_n_FAULT_ADDR n ≠ bkEcc (n / 4) b ∧ SC_n_FAULT_ADDR n ≠ bkEccAddr (n / 4) b := by
  unfold bkEcc bkEccAddr
  constructor <;> split <;>
    simp only [SC_n_FAULT_ADDR, TL_t_BK_b_ECC, TL_t_BK_b_ECCADDR, TL_t_CB_ECC, TL_t_CB_ECCADDR] <;> omega

/-- Nutmeg's registers are its own. -/
theorem nutmeg_reg (source code : Nat) (args : List Nat) (s : State) {a : Nat} (h : a < BB_ID) :
    (nutmeg source code args s).reg a = s.reg a := by
  have hne (b : Nat) (hb : BB_ID ≤ b) : a ≠ b := by omega
  have h1 := hne BB_SEQ (by decide)
  have h2 := hne BB_LOST (by decide)
  have h3 := hne BB_STAT (by decide)
  have h4 := hne BB_TRIG_SEQ (by decide)
  have hafter (c : Nat) (q : Word) (u : State) : (bbAfter c q u).reg a = u.reg a := by
    unfold bbAfter
    split
    · split
      · exact reg_setFld_other _ _ _ _ _ h3
      · rfl
    · split
      · have h5 : ((u.setReg BB_TRIG_SEQ q).setFld BB_STAT BB_STAT_ARMED 0).reg a = u.reg a :=
          (reg_setFld_other _ _ _ _ _ h3).trans (reg_setReg_other _ _ _ _ h4)
        dsimp only
        split
        · exact (reg_setFld_other _ _ _ _ _ h3).trans h5
        · exact h5
      · rfl
  have hlose : (bbLose s).reg a = s.reg a := by
    unfold bbLose
    split
    · exact reg_setReg_other _ _ _ _ h2
    · rfl
  unfold nutmeg
  dsimp only
  split
  · exact (reg_setReg_other _ _ _ _ h1).trans hlose
  · rw [hafter, reg_setReg_other _ _ _ _ h1, reg_setBytes]

theorem bbAfter_cores (c : Nat) (q : Word) (u : State) : (bbAfter c q u).cores = u.cores := by
  unfold bbAfter
  dsimp only
  repeat' split
  all_goals rfl

theorem nutmeg_core (source code : Nat) (args : List Nat) (s : State) (n : Nat) : (nutmeg source code args s).core n = s.core n := by
  refine core_of_cores_eq ?_ n
  unfold nutmeg
  dsimp only
  split
  · unfold bbLose
    split <;> rfl
  · rw [bbAfter_cores, setReg_cores, setBytes_cores]

/-- Writing back what a field holds. -/
theorem setBits_self (v lo w : Nat) : setBits v lo w (bits v lo w) = v := by
  unfold setBits bits
  rw [Nat.mod_mod, Nat.pow_add, ← Nat.div_div_eq_div_mul]
  have h1 := Nat.div_add_mod (v / 2 ^ lo) (2 ^ w)
  have h2 := Nat.div_add_mod v (2 ^ lo)
  calc v / 2 ^ lo / 2 ^ w * (2 ^ lo * 2 ^ w) + v / 2 ^ lo % 2 ^ w * 2 ^ lo + v % 2 ^ lo
      = (2 ^ w * (v / 2 ^ lo / 2 ^ w) + v / 2 ^ lo % 2 ^ w) * 2 ^ lo + v % 2 ^ lo := by ring
    _ = v := by rw [h1, Nat.mul_comm, h2]

/-- Clearing a bit that is clear. -/
theorem setBits_of_clear {v lo w : Nat} (h : bits v lo w = 0) : setBits v lo w 0 = v := by
  conv_rhs => rw [← setBits_self v lo w, h]

/-- The sticky flags lie beside WAITING. -/
theorem bits_or_clear {a b : Nat} (h : bits a 2 1 = 0) : bits (a ||| (b &&& 0xF00)) 2 1 = 0 := by
  have hmask : (0xF00 : Nat).testBit 2 = false := by decide
  rw [bits_or_one, h, bits_one_eq_testBit, Nat.testBit_and, hmask, Bool.and_false]
  rfl

/-- The core at its handler's first bundle (R71). -/
def handlerCore (vec wait : Nat) (c : Core) : Core :=
  let c1 := (c.setCtl crIPC (c.pc % 4096)).setCtl crISTAT (setBits c.status 2 1 (if wait = 0 then 0 else 1))
  let c2 := (((c1.setSfld sIE 0).setSfld sInHandler 1).setSfld sLoopact 0).setSfld sTrapPend 0
  { c2 with st := 2, pc := vec, br := none, wstate := if wait = 0 then c.wstate else wait, fromWait := c.fromWait || wait = 3 }

theorem doHandlerEntry_eq {n vec wait : Nat} {s : State} (h : (s.core n).gap = .entry vec wait) :
    doHandlerEntry n s = (landAll n s).mapCore n (handlerCore vec wait) := by
  simp only [doHandlerEntry, h]
  rfl

theorem ctl_setSfld_other (c : Core) {q : Nat} (h : q ≠ crSTATUS) (f : Fld) (x : Nat) : (c.setSfld f x).ctl q = c.ctl q :=
  ctl_setCtl_other c h _

theorem handlerCore_ctl (vec wait : Nat) (c : Core) {q : Nat} (h : q ≠ crSTATUS) :
    (handlerCore vec wait c).ctl q =
      ((c.setCtl crIPC (c.pc % 4096)).setCtl crISTAT (setBits c.status 2 1 (if wait = 0 then 0 else 1))).ctl q :=
  (ctl_setSfld_other _ h ..).trans ((ctl_setSfld_other _ h ..).trans ((ctl_setSfld_other _ h ..).trans (ctl_setSfld_other _ h ..)))

theorem handlerCore_sfld (vec wait : Nat) (c : Core) :
    (handlerCore vec wait c).sfld sIE = 0 ∧ (handlerCore vec wait c).sfld sInHandler = 1 ∧
      (handlerCore vec wait c).sfld sLoopact = 0 ∧ (handlerCore vec wait c).sfld sTrapPend = 0 := by
  let c1 := (c.setCtl crIPC (c.pc % 4096)).setCtl crISTAT (setBits c.status 2 1 (if wait = 0 then 0 else 1))
  have hd (f : Fld) : (handlerCore vec wait c).sfld f =
      ((((c1.setSfld sIE 0).setSfld sInHandler 1).setSfld sLoopact 0).setSfld sTrapPend 0).sfld f := rfl
  refine ⟨?_, ?_, ?_, ?_⟩ <;> rw [hd]
  · rw [sfld_setSfld_below _ _ _ _ (by decide), sfld_setSfld_below _ _ _ _ (by decide), sfld_setSfld_below _ _ _ _ (by decide),
      sfld_setSfld_same]
    rfl
  · rw [sfld_setSfld_below _ _ _ _ (by decide), sfld_setSfld_below _ _ _ _ (by decide), sfld_setSfld_same]
    rfl
  · rw [sfld_setSfld_above _ _ _ _ (by decide), sfld_setSfld_same]
    rfl
  · rw [sfld_setSfld_same]
    rfl

/-- The core that goes on after its handler, of which nothing is in flight (R72). -/
theorem landAll_of_nothing {n : Nat} {s : State} (hf : (s.core n).flight = []) :
    ∃ (st : List StoreFlight) (cyc : Nat),
      (landAll n s).core n = { s.core n with stores := st, cyc := cyc, gap := .none } := by
  refine ⟨(s.core n).stores.filter (fun x => (s.core n).gapEnd < x.due), max (s.core n).cyc (s.core n).gapEnd,
    (core_setCore_same ..).trans ?_⟩
  unfold land landStores
  simp only [core_setCore_same, hf, landFlights_nil]

/-- The core that goes on after its handler (R72). -/
def resumedCore (c : Core) : Core :=
  { (c.setCtl crSTATUS (setBits (c.ctl crISTAT ||| (c.status &&& 0xF00)) 2 1 0)) with
    pc := c.ctl crIPC, st := 2, fromWait := if bits (c.ctl crISTAT) 1 1 = 0 then false else c.fromWait }

theorem doRetiResume_running {n : Nat} {s : State} (h : (s.core n).gap = .reti)
    (hw : bits (((landAll n s).core n).ctl crISTAT) 2 1 = 0) :
    doRetiResume n s = (landAll n s).setCore n (resumedCore ((landAll n s).core n)) := by
  simp only [doRetiResume, h, hw, Nat.zero_ne_one, decide_false, Bool.false_or, decide_eq_true_eq]
  rfl

/-- The record of a fault (R79): the address only for the causes that have one. -/
def recordFault (n cause slot pc addr : Nat) (s : State) : State :=
  let s1 := s.setReg (SC_n_FAULT n) (BitVec.ofNat 32 (cause + slot * 256 + pc * 4096))
  if cause = fcUnmapped ∨ cause = fcMisaligned ∨ cause = fcDataEcc then s1.setReg (SC_n_FAULT_ADDR n) (BitVec.ofNat 32 addr) else s1

theorem doFaultStateEntry_eq {n cause slot pc addr : Nat} {s : State} (h : (s.core n).gap = .fault cause slot pc addr) :
    let u := recordFault n cause slot pc addr
      ((landAll n s).mapCore n (fun c => { c with st := 5, haltReq := false, freezeReq := false }))
    doFaultStateEntry n s = nutmeg (0x300 + n) 1 [(u.reg (SC_n_FAULT n)).toNat, (u.reg (SC_n_FAULT_ADDR n)).toNat] u := by
  simp only [doFaultStateEntry, h]
  rfl

theorem recordFault_core (n cause slot pc addr : Nat) (s : State) (m : Nat) : (recordFault n cause slot pc addr s).core m = s.core m := by
  unfold recordFault
  dsimp only
  split <;> rfl

theorem recordFault_fault (n cause slot pc addr : Nat) (s : State) :
    (recordFault n cause slot pc addr s).reg (SC_n_FAULT n) = BitVec.ofNat 32 (cause + slot * 256 + pc * 4096) := by
  unfold recordFault
  dsimp only
  split
  · rw [reg_setReg_other _ _ _ _ (by simp only [SC_n_FAULT, SC_n_FAULT_ADDR]; omega), reg_setReg_same]
  · exact reg_setReg_same ..

theorem recordFault_addr (n cause slot pc addr : Nat) (s : State) :
    (recordFault n cause slot pc addr s).reg (SC_n_FAULT_ADDR n) =
      if cause = fcUnmapped ∨ cause = fcMisaligned ∨ cause = fcDataEcc then BitVec.ofNat 32 addr else s.reg (SC_n_FAULT_ADDR n) := by
  unfold recordFault
  dsimp only
  split
  · exact reg_setReg_same ..
  · exact reg_setReg_other _ _ _ _ (by simp only [SC_n_FAULT, SC_n_FAULT_ADDR]; omega)

/-- Settles O18. -/
theorem gapsEndInTheirStates : Obligations.GapsEndInTheirStates := by
  intro n s vec wait cause slot pc addr
  obtain ⟨r, fl, st, cyc, hl⟩ := landAll_core n s
  refine ⟨fun h => ?_, fun h => ?_, fun h => ?_, fun h hf hw => ?_⟩
  · obtain ⟨hie, hin, hloop, htrap⟩ := handlerCore_sfld vec wait ((landAll n s).core n)
    refine ⟨_, Completes.of_eq rfl (doHandlerEntry_eq h), ?_⟩
    rw [State.mapCore, core_setCore_same, handlerCore_ctl _ _ _ (by decide), handlerCore_ctl _ _ _ (by decide), ctl_setCtl_same,
      ctl_setCtl_other _ (by decide), ctl_setCtl_same, bits_setBits_same]
    refine ⟨rfl, rfl, by rw [hl], by simp [Core.ie, hie], by simp [Core.inHandler, hin], hloop, htrap, ?_⟩
    split <;> rfl
  · have hdo : doHaltEntry n s = (landAll n s).mapCore n (fun c => { c with st := 1, haltReq := false, haltWait := wait }) := by
      simp only [doHaltEntry, h]
    refine ⟨_, Completes.of_eq rfl hdo, ?_⟩
    rw [State.mapCore, core_setCore_same, hl]
    exact ⟨rfl, rfl, rfl, rfl⟩
  · have hreg := landAll_reg s (faultAddr_ne_bank n) (by simp only [SC_n_FAULT_ADDR, DBG_VT_t_OUT]; omega)
      (by simp only [SC_n_FAULT_ADDR, DBG_VT_t_STAT]; omega)
    have hbb : SC_n_FAULT n < BB_ID ∧ SC_n_FAULT_ADDR n < BB_ID := by simp only [SC_n_FAULT, SC_n_FAULT_ADDR, BB_ID]; omega
    refine ⟨_, Completes.of_eq rfl (doFaultStateEntry_eq h), ?_, ?_, ?_⟩
    · rw [nutmeg_core]
      rw [recordFault_core, State.mapCore, core_setCore_same]
    · rw [nutmeg_reg _ _ _ _ hbb.1, recordFault_fault]
    · rw [nutmeg_reg _ _ _ _ hbb.2, recordFault_addr, ← hreg]
      rfl
  · obtain ⟨st, cyc, hl⟩ := landAll_of_nothing hf
    refine ⟨_, Completes.of_eq rfl (doRetiResume_running h (by rw [hl]; exact hw)), ?_⟩
    rw [core_setCore_same, hl]
    refine ⟨rfl, rfl, (ctl_setCtl_same ..).trans ?_⟩
    exact setBits_of_clear (bits_or_clear hw)

/-! ### One due result (R58) -/

theorem get_raise_zero (c : Core) (k : Nat) : (c.raise 0).get k = c.get k := by
  have h : c.raise 0 = c.setCtl crSTATUS (c.ctl crSTATUS) := by simp [Core.raise, bits, Core.status]
  rw [h, get_setCtl_self]

theorem get_raiseFp_zero (c : Core) (k : Nat) : (c.raiseFp 0).get k = c.get k := by
  have h : c.raiseFp 0 = c.setCtl crFPCTL (c.ctl crFPCTL) := by simp [Core.raiseFp]
  rw [h, get_setCtl_self]

/-- A single result without flags lands as a plain write of its register. -/
theorem get_landGroup_single {f : Flight} (hd : f.dest < 0x40) (hs : f.sflags = 0) (hx : f.fflags = 0) (c : Core) (k : Nat) :
    (landGroup c [f]).get k = (c.put f.dest f.val).get k := by
  have hw : writesReg f = true := by
    simp only [writesReg, Bool.and_eq_true, decide_eq_true_eq]
    omega
  have hv : landValue c f.dest f.val = f.val := if_neg (by omega)
  have hg : landGroup c [f] = ((c.put f.dest f.val).raise 0).raiseFp 0 := by
    simp [landGroup, hw, winnerOf, hasRival, hs, hx, hv]
  rw [hg, get_raiseFp_zero, get_raise_zero]

theorem landFlights_single {c : Core} {f : Flight} {upto : Nat} (hf : c.flight = [f]) (hdue : f.due ≤ upto) (hbad : f.bad = false)
    (fuel : Nat) : landFlights (fuel + 1) upto c none = (landGroup { c with flight := [] } [f], none) := by
  have hg : (landGroup { c with flight := [] } [f]).flight = [] := by
    have h := OnlyCoreRegs.landGroup (.refl { c with flight := [] }) [f]
    exact (congrArg Core.flight h :)
  simp only [landFlights, hf, nextDue, List.foldl_cons, List.foldl_nil, if_pos hdue]
  simp [landFlights_nil hg, hbad]

/-- Settles O20. -/
theorem dueResultLandsInItsRegister : Obligations.DueResultLandsInItsRegister := by
  intro n s f hon hst hstores hflight hdue hd hs hx hbad
  have hc : ({ s.core n with stores := [] } : Core) = s.core n := by rw [← hstores]
  have hvt : vtWords (s.core n) (s.core n).cyc = [] := by
    have hkey : f.dest ≠ ctlKey 20 := by unfold ctlKey; omega
    simp [vtWords, hflight, hkey]
  have hland : land n (s.core n).cyc s =
      ((s.setCore n (s.core n)).setCore n (landGroup { s.core n with flight := [] } [f]), none) := by
    unfold land landStores
    simp only [hstores, List.filter_nil, List.foldl_nil, hc, core_setCore_same, hvt, landFlights_single hflight hdue hbad]
  have hdo : doResultLanding n s = (s.setCore n (s.core n)).setCore n (landGroup { s.core n with flight := [] } [f]) := by
    simp [doResultLanding, hst, hon, hland]
  have hget (k : Nat) := get_landGroup_single hd hs hx { s.core n with flight := [] } k
  refine ⟨_, Completes.of_eq rfl hdo, ?_, ?_, fun k hk => ?_, rfl, fun a => rfl⟩
  · rw [core_setCore_same]
    exact (congrArg Core.flight (OnlyCoreRegs.landGroup (.refl { s.core n with flight := [] }) [f]) :)
  · rw [core_setCore_same, Core.d, hget, get_put_same _ (by omega), regValue, if_pos hd]
  · rw [core_setCore_same, hget, get_put_other _ hk]
    rfl

end Sys2Proof.Machine
end

section

/-! SUPPORT. Issue of one bundle (O19), held accesses and locks (O25), and loads of program memory (O26). -/

namespace Sys2Proof.Machine
open R

/-! ### Issue -/

theorem endCheck_none (pc : Nat) {k : Nat} {c : Core} (h : ∀ j, j < k → c.loopActive j = false) : endCheck pc k c = (c, none) := by
  induction k with
  | zero => rfl
  | succ k ih =>
    rw [endCheck, if_neg (by simp [h k (Nat.lt_succ_self k)])]
    exact ih fun j hj => h j (Nat.lt_succ_of_lt hj)

/-- Without loop, repeat and branch the next bundle is the one after. -/
theorem advance_next {c : Core} {t : CtOp} (hrep : c.repLeft = 0) (hbr : c.br = none) (hloop : c.sfld sLoopact = 0)
    (ht : t = .nop ∨ t = .lock) : advance c t = { c with repLeft := 0, repRun := false, br := none, pc := c.pc + 1 } := by
  have he : endCheck c.pc 4 { c with repLeft := 0, repRun := false } = ({ c with repLeft := 0, repRun := false }, none) :=
    endCheck_none _ fun j hj => loopActive_eq_false c hloop hj
  unfold advance
  rw [if_neg (by omega), he]
  rcases ht with rfl | rfl <;> simp only [hbr] <;> rfl

/-- No breakpoint is enabled and the bundle makes no access. -/
theorem matches_nil {s : State} {n : Nat} (hbp : ∀ k : Fin 4, s.flag (DBG_SC_n_BP_k n k) DBG_SC_n_BP_k_EN = false) (c : Core)
    {b : Bundle} (h0 : b.ls0 = none) (h1 : b.ls1 = none) : matches' s n c b = [] := by
  have hb : (List.range 4).filterMap (fun k =>
      if s.flag (DBG_SC_n_BP_k n k) DBG_SC_n_BP_k_EN && s.fld (DBG_SC_n_BP_k n k) DBG_SC_n_BP_k_ADDR = c.pc && !c.repRun
      then some (k + 1, s.fld (DBG_SC_n_BP_k n k) DBG_SC_n_BP_k_ACTION, 0) else none) = [] := by
    refine List.filterMap_eq_nil_iff.2 fun k hk => ?_
    rw [hbp ⟨k, List.mem_range.1 hk⟩]
    rfl
  unfold matches'
  simp only [hb, bundleAccesses, h0, h1]
  rfl

/-- What a bundle without accesses that is no opportunity leaves: its flights, and the next bundle. -/
def issued (c : Core) (fl : List Flight) : Core :=
  { c with flight := c.flight ++ fl, stores := c.stores ++ [], hold := [], cyc := c.cyc + 1, oppGap := c.oppGap + 1,
           repLeft := 0, repRun := false, br := none, pc := c.pc + 1 }

/-- A bundle of one AL0 operation. -/
def al0Bundle (o : AluOp) : Bundle :=
  { ls0 := none, ls1 := none, ma0 := none, ma1 := none, al0 := some o, al1 := none, fp := none, ct := .nop, window := false }

theorem runBundle_al0 {n : Nat} {s : State} (o : AluOp) (hrep : (s.core n).repLeft = 0) (hbr : (s.core n).br = none)
    (hloop : (s.core n).sfld sLoopact = 0) (hlock : holdsLock s n = false)
    (hbp : ∀ k : Fin 4, s.flag (DBG_SC_n_BP_k n k) DBG_SC_n_BP_k_EN = false) :
    runBundle n false (al0Bundle o) s =
      s.setCore n (issued (s.core n) ((aluResults (s.core n) o).map (mkFlight (s.core n).cyc 4 (s.core n).pc))) := by
  let fl := (aluResults (s.core n) o).map (mkFlight (s.core n).cyc 4 (s.core n).pc)
  let c := s.core n
  let c2 : Core := { c with flight := c.flight ++ ([] ++ [] ++ [] ++ fl ++ [] ++ [] ++ []), stores := c.stores ++ [], hold := [],
                            cyc := c.cyc + 1, divFree := c.divFree, oppGap := c.oppGap + 1 }
  have hadv : advance c2 .nop = issued c ([] ++ [] ++ [] ++ fl ++ [] ++ [] ++ []) := advance_next hrep hbr hloop (.inl rfl)
  have hrun : runBundle n false (al0Bundle o) s =
      actMatches n c.pc (matches' s n c (al0Bundle o)) (lockAfter n (al0Bundle o) (s.setCore n (advance c2 .nop))) := rfl
  have hlock' (d : Core) : holdsLock (s.setCore n d) n = false := hlock
  rw [hrun, matches_nil hbp c rfl rfl, hadv, lockAfter, hlock']
  simp [actMatches]
  rfl

/-- A bundle without accesses, divide and control operation has no fault. -/
theorem bundleFault_al0 (n : Nat) (c : Core) (locked : Bool) (nxt : Nat) (o : AluOp) :
    bundleFault n c locked nxt (al0Bundle o) = none := by
  simp [bundleFault, al0Bundle, ctFault, CtOp.isBranch, CtOp.isReti, CtOp.isWait, CtOp.isLock, CtOp.isRepeat, CtOp.isLoop, loopSetup]

/-- A bundle that is fetched without an ECC error, decoded and passed by its checks issues. -/
theorem issueBundle_runs {n : Nat} {granted step : Bool} {s : State} {b : Bundle} (hpc : (s.core n).pc < 4096)
    (hmarks : fetchMarks s n (s.core n).pc = [0, 0, 0, 0]) (hdec : decodeBundle (fetchBundle s n (s.core n).pc) = .ok b)
    (hfault : ∀ nxt, bundleFault n (s.core n) (holdsLock s n) nxt b = none) (hgr : (b.ct.isLock && !granted) = false) :
    issueBundle n granted step s = runBundle n step b s := by
  have hlocked : (if b.ct.isLock = true then holdsLock s n else holdsLock s n || b.ct.isLock) = holdsLock s n := by
    cases b.ct.isLock <;> simp
  unfold issueBundle
  rw [if_neg (by omega), hmarks, if_neg (by decide)]
  simp only [show List.range ([0, 0, 0, 0].filter (fun x : Nat => x = 1)).length = [] from rfl, List.foldl_nil, hdec, hlocked, hfault, hgr]
  rfl

/-- Settles O19. -/
theorem integerBundleIssuesItsResults : Obligations.IntegerBundleIssuesItsResults := by
  intro n s o c hmay hfreeze _ hbreak hflight hstores hhold hpc hrep hbr hloop hlock hmarks hdec hbp
  let u := (s.setCore n c).setCore n c
  have hcore : u.core n = c := core_setCore_same ..
  have hdo : doBundleIssue n s = issueBundle n false false u := by
    have hb : lockBreak n s = s := by rw [lockBreak, hlock, Bool.and_false]; rfl
    have hland : land n c.cyc s = (u, none) := land_nothing hflight hstores _
    unfold doBundleIssue
    rw [hmay, hfreeze, hb, hland]
    rfl
  have hissue : issueBundle n false false u = u.setCore n (issued c ((aluResults c o).map (mkFlight c.cyc 4 c.pc))) := by
    rw [issueBundle_runs (b := al0Bundle o) (by rw [hcore]; exact hpc) (by rw [hcore]; exact hmarks) (by rw [hcore]; exact hdec)
      (fun _ => bundleFault_al0 ..) rfl]
    have h := runBundle_al0 (n := n) (s := u) o (by rw [hcore]; exact hrep) (by rw [hcore]; exact hbr) (by rw [hcore]; exact hloop)
      hlock hbp
    rwa [hcore] at h
  refine ⟨_, Completes.of_eq rfl (hdo.trans hissue), ?_⟩
  rw [core_setCore_same]
  refine ⟨rfl, rfl, rfl, ?_, rfl, fun m hm => ?_, fun a => rfl⟩
  · rw [issued, hflight, List.nil_append]
  · rw [core_setCore_other _ _ hm, core_setCore_other _ _ hm, core_setCore_other _ _ hm]

/-! ### Held accesses and locks (R51, R127) -/

/-- A bundle of LOCK alone. -/
def lockBundle : Bundle :=
  { ls0 := none, ls1 := none, ma0 := none, ma1 := none, al0 := none, al1 := none, fp := none, ct := .lock, window := false }

theorem bundleFault_lock {c : Core} (hbr : c.br = none) (n nxt : Nat) : bundleFault n c false nxt lockBundle = none := by
  simp [bundleFault, lockBundle, ctFault, CtOp.isBranch, CtOp.isReti, CtOp.isWait, CtOp.isRepeat, loopSetup, hbr]

/-- The state in which a LOCK bundle issues: its core holds the lock. -/
def lockTaken (n : Nat) (s : State) : State := (takeLock n s).mapCore n (fun c => { c with waitLock := false, lockCnt := 0 })

theorem lockTaken_core (n : Nat) (s : State) : (lockTaken n s).core n = { s.core n with waitLock := false, lockCnt := 0 } := by
  rw [lockTaken, State.mapCore, core_setCore_same, takeLock, setFlds_rest]
  rfl

theorem lockTaken_mem (n : Nat) (s : State) : (lockTaken n s).mem = s.mem := by
  rw [lockTaken, takeLock, setFlds_rest]
  rfl

theorem lockTaken_flag (n : Nat) (s : State) {a : Nat} (h : a ≠ TL_t_LOCK (n / 4)) (f : Fld) : (lockTaken n s).flag a f = s.flag a f :=
  flag_setFlds_other s _ _ _ f h

theorem holdsLock_lockTaken (n : Nat) (s : State) : holdsLock (lockTaken n s) n = true := by
  have hheld : (lockTaken n s).fld (TL_t_LOCK (n / 4)) TL_t_LOCK_HELD = 1 := fld_setFld_of_lt _ _ _ _ (by decide) (by decide)
  have hholder : (lockTaken n s).fld (TL_t_LOCK (n / 4)) TL_t_LOCK_HOLDER = n % 4 :=
    (fld_setFld_ne _ _ _ _ _ (by decide) (by decide)).trans
      (fld_setFld_of_lt _ _ _ _ (by decide) (Nat.mod_lt n (by decide : 0 < 4)))
  simp [holdsLock, lockHeld, flag_eq, hheld, hholder]

theorem runBundle_lock {n : Nat} {s : State} (hrep : (s.core n).repLeft = 0) (hbr : (s.core n).br = none)
    (hloop : (s.core n).sfld sLoopact = 0) (hbp : ∀ k : Fin 4, s.flag (DBG_SC_n_BP_k n k) DBG_SC_n_BP_k_EN = false) :
    runBundle n false lockBundle s =
      ((lockTaken n s).setCore n (issued ((lockTaken n s).core n) [])).mapCore n
        (fun c => { c with lockCnt := c.lockCnt + 1, breakDue := 8 ≤ c.lockCnt }) := by
  let u := lockTaken n s
  have hrun : runBundle n false lockBundle s =
      actMatches n (u.core n).pc (matches' u n (u.core n) lockBundle)
        (lockAfter n lockBundle (u.setCore n (advance { u.core n with
          flight := (u.core n).flight ++ [], stores := (u.core n).stores ++ [], hold := [], cyc := (u.core n).cyc + 1,
          divFree := (u.core n).divFree, oppGap := (u.core n).oppGap + 1 } .lock))) := rfl
  have hadv : advance { u.core n with
      flight := (u.core n).flight ++ [], stores := (u.core n).stores ++ [], hold := [], cyc := (u.core n).cyc + 1,
      divFree := (u.core n).divFree, oppGap := (u.core n).oppGap + 1 } .lock = issued (u.core n) [] := by
    have hc : u.core n = { s.core n with waitLock := false, lockCnt := 0 } := lockTaken_core n s
    rw [hc]
    exact advance_next hrep hbr hloop (.inr rfl)
  have hmatch : matches' u n (u.core n) lockBundle = [] := by
    refine matches_nil (fun k => (lockTaken_flag n s ?_ _).trans (hbp k)) _ rfl rfl
    simp only [DBG_SC_n_BP_k, TL_t_LOCK]
    omega
  have hheld (d : Core) : holdsLock (u.setCore n d) n = true := holdsLock_lockTaken n s
  rw [hrun, hmatch, hadv, lockAfter, hheld]
  rfl

theorem doLockGrant_issues {n : Nat} {s : State} (hwait : (s.core n).waitLock = true) (hst : (s.core n).st = 2)
    (hfree : lockHeld s (n / 4) = false) (hon : coreOn s n = true) :
    doLockGrant n s = issueBundle n true (s.core n).stepping (s.setCore n { s.core n with waitLock := false }) := by
  simp [doLockGrant, hwait, hst, hfree, hon]

theorem dropLock_of_held {n : Nat} {s : State} (h : holdsLock s n = true) :
    dropLock n s = (breakLock n s).mapCore n (fun c => { c.raise fLockBroken with breakDue := false, lockCnt := 0 }) := if_pos h

theorem status_raise_lockBroken (c : Core) : bits (c.raise fLockBroken).status 11 1 = 1 := by
  have h : c.raise fLockBroken = c.setCtl crSTATUS (c.status ||| fLockBroken) := by simp [Core.raise, bits, fLockBroken]
  have hmask : bits fLockBroken 11 1 = 1 := by decide
  have hlt := bits_lt c.status 11 1
  rw [h, Core.status, ctl_setCtl_same, bits_or_one, hmask]
  omega

theorem heldStore_tx {n m : Nat} {s : State} {h : HeldAccess} (htx : regionOf (n % 4) h.addr = .tx)
    (hm : halfAddr s (n / 4) h.addr = some m) : heldStore n h s = s.setBytes m h.data := by
  simp only [heldStore, htx, hm]

theorem doInterlockedAccessDone_tx {n m : Nat} {s : State} {h : HeldAccess} {l : List HeldAccess} (hon : coreOn s n = true)
    (hh : (s.core n).hold = h :: l) (hw : h.write = true) (htx : regionOf (n % 4) h.addr = .tx)
    (hm : halfAddr s (n / 4) h.addr = some m) :
    doInterlockedAccessDone n s =
      ((s.mapCore n (fun c => { c with hold := l, idle := c.idle + (2 + s.free .unstated % 65536) })).freeNext).setBytes m h.data := by
  unfold doInterlockedAccessDone
  simp only [hh]
  rw [if_neg (by simp [heldWaits, htx, hon]), if_pos hw, htx]
  exact heldStore_tx htx hm

/-- Settles O25. -/
theorem heldAccessesAndLocksComplete : Obligations.HeldAccessesAndLocksComplete := by
  intro n s h l m hon
  refine ⟨fun hh hw htx hm => ?_, fun hbreak hlock => ?_, fun hwait hst hfree hpc hstep hbr _ hrep hloop hmarks hbp hdec => ?_⟩
  · refine ⟨_, Completes.of_eq rfl (doInterlockedAccessDone_tx hon hh hw htx hm), ?_, bytes_setBytes .., fun a ha => ?_, fun a => ?_⟩
    · rw [core_of_cores_eq (setBytes_cores ..), State.mapCore]
      exact congrArg Core.hold (core_setCore_same ..)
    · exact byte_setBytes_other _ _ _ _ ha
    · exact reg_setBytes ..
  · have hdo : doLockBreak n s = dropLock n s := by simp [doLockBreak, lockBreak, hbreak, hlock]
    refine ⟨_, Completes.of_eq rfl (hdo.trans (dropLock_of_held hlock)), ?_, ?_, ?_, ?_, ?_⟩
    · refine (flag_eq_false_iff ..).2 ((fld_incSat_ne _ _ _ _ (by decide) (by decide)).trans ?_)
      exact fld_setFld_of_lt _ _ _ _ (by decide) (by decide)
    · rw [State.mapCore, core_setCore_same]
      exact status_raise_lockBroken _
    · rw [State.mapCore, core_setCore_same]
    · exact incSat_mem ..
    · refine (fld_incSat_same _ _ _ (by decide)).trans ?_
      rw [releaseLock, fld_setFld_ne _ _ _ _ _ (by decide) (by decide)]
  · let u := s.setCore n { s.core n with waitLock := false }
    have hcore : u.core n = { s.core n with waitLock := false } := core_setCore_same ..
    have hgrant : doLockGrant n s = issueBundle n true false u := by rw [doLockGrant_issues hwait hst hfree hon, hstep]
    have hnot : holdsLock u n = false := by
      have hu : lockHeld u (n / 4) = false := hfree
      rw [holdsLock, hu, Bool.false_and]
    have hfault (nxt : Nat) : bundleFault n (u.core n) (holdsLock u n) nxt lockBundle = none := by
      rw [hnot, hcore]
      exact bundleFault_lock hbr n nxt
    have hissue := issueBundle_runs (granted := true) (step := false) (b := lockBundle) (s := u) (n := n) (by rw [hcore]; exact hpc)
      (by rw [hcore]; exact hmarks) (by rw [hcore]; exact hdec) hfault rfl
    have hrun := runBundle_lock (n := n) (s := u) (by rw [hcore]; exact hrep) (by rw [hcore]; exact hbr) (by rw [hcore]; exact hloop) hbp
    refine ⟨_, Completes.of_eq rfl (hgrant.trans (hissue.trans hrun)), ?_, ?_, ?_, lockTaken_mem n u⟩
    · exact holdsLock_lockTaken n u
    · rw [State.mapCore, core_setCore_same, core_setCore_same, lockTaken_core]
      rfl
    · rw [State.mapCore, core_setCore_same, core_setCore_same, lockTaken_core, hcore]
      rfl

end Sys2Proof.Machine
end

section

/-! SUPPORT. Loads of program memory through the fabric (O26). -/

namespace Sys2Proof.Machine
open R

/-- A program memory address is no control register. -/
theorem isControl_programMemory {t k off : Nat} (ht : t < 12) (hk : k < 4) (hoff : off < 0x20000) :
    isControl (tileBase t + 0x900000 + k * 0x20000 + off) = false := by
  have hmod : (tileBase t + 0x900000 + k * 0x20000 + off) % 0x1000000 = 0x900000 + k * 0x20000 + off := by unfold tileBase; omega
  have hlt : tileBase t + 0x900000 + k * 0x20000 + off < 0x2000000000 := by unfold tileBase; omega
  simp only [isControl, hmod, Bool.or_eq_false_iff, Bool.and_eq_false_iff, decide_eq_false_iff_not]
  omega

theorem tileOf_programMemory {t k off : Nat} (ht : t < 12) (hk : k < 4) (hoff : off < 0x20000) :
    tileOf (tileBase t + 0x900000 + k * 0x20000 + off) = t := by
  unfold tileOf tileBase
  omega

theorem coreMem_programMemory {k off : Nat} (hk : k < 4) (hoff : off < 0x20000) :
    coreMem (0x900000 + k * 0x20000 + off) = some k := by
  unfold coreMem
  rw [if_neg (by omega), if_pos (by omega)]
  congr 1
  omega

/-- A write to a tile that answers, outside its registers. -/
theorem busWrite_tile {ag : Agent} {s : State} {a : Nat} {l : List Byte} (h1 : 0x1000000000 ≤ a) (h2 : a + l.length ≤ 0x100C000000)
    (h0 : 0 < l.length) (hc : isControl a = false) (hans : tileAnswers s (tileOf a) = true) {u : State}
    (hw : tileWrite ag s (tileOf a) (a % 0x1000000) l = (false, u)) : (busWrite ag s a l).2 = u := by
  have hraw : busWriteRaw ag s a l = (false, u) := by
    unfold busWriteRaw
    dsimp only
    rw [if_neg (by omega), hc, if_neg Bool.false_ne_true, if_pos ⟨h1, h2⟩, if_pos hans, hw]
  unfold busWrite
  rw [hraw]
  exact congrArg Prod.snd (if_neg Bool.false_ne_true)

/-- A write inside one core's memories. -/
theorem tileWrite_core {ag : Agent} {s : State} {t l c : Nat} {d : List Byte} (h : 0x410000 ≤ l) (h0 : 0 < d.length)
    (h1 : coreMem l = some c) (h2 : coreMem (l + d.length - 1) = some c) {n : Nat} (hn : 4 * t + c = n) :
    tileWrite ag s t l d = (false, loadCoreMem n l d s) := by
  subst hn
  unfold tileWrite
  dsimp only
  rw [if_neg (by omega), if_neg (by omega), h1]
  dsimp only
  rw [if_pos h2]

/-- The definition as a function: an equation between applied terms would have the kernel evaluate the address. -/
theorem doProgramMemoryLoad_eq_fun : doProgramMemoryLoad = fun ag n priv off v s =>
    (busWrite ag s (tileBase (n / 4) + (if priv then 0x800000 else 0x900000) + n % 4 * 0x20000 + off / 4 * 4)
      (leBytes 4 v.toNat)).2 := by
  delta doProgramMemoryLoad
  rfl

/-- A word write to program memory through the fabric is a load of that core's memory. -/
theorem doProgramMemoryLoad_eq {n off : Nat} {s : State} (hn : n < 48) (hon : coreOn s n = true) (hoff : off < 0x20000)
    (hal : off % 4 = 0) (v : Word) :
    doProgramMemoryLoad .clove n false off v s = loadCoreMem n (0x900000 + n % 4 * 0x20000 + off) (leBytes 4 v.toNat) s := by
  have ht : n / 4 < 12 := by omega
  have hk : n % 4 < 4 := Nat.mod_lt _ (by decide)
  have hlen : (leBytes 4 v.toNat).length = 4 := leBytes_length ..
  have hcore : 4 * (n / 4) + n % 4 = n := Nat.div_add_mod n 4
  have htile : tileWrite .clove s (n / 4) (0x900000 + n % 4 * 0x20000 + off) (leBytes 4 v.toNat) =
      (false, loadCoreMem n (0x900000 + n % 4 * 0x20000 + off) (leBytes 4 v.toNat) s) := by
    refine tileWrite_core (by omega) (by omega) (coreMem_programMemory hk hoff) ?_ hcore
    have hlast : 0x900000 + n % 4 * 0x20000 + off + (leBytes 4 v.toNat).length - 1 = 0x900000 + n % 4 * 0x20000 + (off + 3) := by omega
    rw [hlast]
    exact coreMem_programMemory hk (by omega)
  have hmod : (tileBase (n / 4) + 0x900000 + n % 4 * 0x20000 + off) % 0x1000000 = 0x900000 + n % 4 * 0x20000 + off := by
    unfold tileBase
    omega
  have htof := tileOf_programMemory ht hk hoff
  have hctl := isControl_programMemory ht hk hoff
  have h1 : 0x1000000000 ≤ tileBase (n / 4) + 0x900000 + n % 4 * 0x20000 + off := by unfold tileBase; omega
  have h2 : tileBase (n / 4) + 0x900000 + n % 4 * 0x20000 + off + (leBytes 4 v.toNat).length ≤ 0x100C000000 := by
    unfold tileBase
    omega
  have haddr : off / 4 * 4 = off := Nat.div_mul_cancel (Nat.dvd_of_mod_eq_zero hal)
  rw [doProgramMemoryLoad_eq_fun]
  simp only [Bool.false_eq_true, if_false, haddr]
  exact busWrite_tile h1 h2 (by omega) hctl ((congrArg (tileAnswers s) htof).trans hon)
    ((congrArg₂ (fun t l => tileWrite .clove s t l (leBytes 4 v.toNat)) htof hmod).trans htile)

theorem loadCoreMem_of_stopped {n : Nat} {s : State} (h : (s.core n).st = 0 ∨ (s.core n).st = 1 ∨ (s.core n).st = 5) (l : Nat)
    (d : List Byte) : ∃ u : State, u.mem = s.mem ∧ loadCoreMem n l d s = u.setBytes (localBase n + l) d := by
  refine ⟨_, ?_, if_pos h⟩
  refine each_induction (P := fun u => u.mem = s.mem) rfl fun u w _ hu => ?_
  split <;> exact hu

/-- Settles O26. -/
theorem programLoadNeedsAStoppedCore : Obligations.ProgramLoadNeedsAStoppedCore := by
  intro n s v off hon hal a
  have hdo := doProgramMemoryLoad_eq n.isLt hon off.isLt hal v
  have ha : localBase n + (0x900000 + n % 4 * 0x20000 + off) = a := by
    simp only [localBase, a]
    omega
  refine ⟨fun h => ?_, fun h => ?_⟩
  · obtain ⟨u, hmem, hload⟩ := loadCoreMem_of_stopped h (0x900000 + n % 4 * 0x20000 + off) (leBytes 4 v.toNat)
    rw [ha] at hload
    refine ⟨_, Completes.of_eq rfl (hdo.trans hload), ?_, fun c hc => ?_⟩
    · exact (num_setNum u a 4 v.toNat).trans (Nat.mod_eq_of_lt v.isLt)
    · refine (byte_setBytes_other _ _ _ _ ?_).trans (byte_of_mem_eq hmem c)
      rwa [leBytes_length]
  · have hload : loadCoreMem n (0x900000 + n % 4 * 0x20000 + off) (leBytes 4 v.toNat) s =
        s.setFld (SC_n_ERR n) SC_n_ERR_LOAD_DISCARD 1 := if_neg (by omega)
    exact ⟨_, Completes.of_eq rfl (hdo.trans hload), rfl, fld_setFld_of_lt _ _ _ _ (by decide) (by decide)⟩

end Sys2Proof.Machine
end

section

/-! SUPPORT. Drive channels, sense inputs and TDM ports: group faults (O31), channel commands (O32), the loop and the estimator
(O33), and the block tick (O34). -/

namespace Sys2Proof.Machine
open R

/-- A one-bit field is 0 or 1. -/
theorem fld_one_ne_zero_iff (s : State) (a : Nat) {f : Fld} (hf : f.w = 1) : s.fld a f ≠ 0 ↔ s.fld a f = 1 := by
  have h := fld_lt s a f
  rw [hf] at h
  omega

theorem flag_eq_true_iff (s : State) (a : Nat) {f : Fld} (hf : f.w = 1) : s.flag a f = true ↔ s.fld a f = 1 := by
  rw [flag_eq, decide_eq_true_eq, fld_one_ne_zero_iff s a hf]

/-! ### Addresses of chapter 05 -/

theorem drvStat_inj {n m : Nat} (h : n ≠ m) : DRV_n_STAT n ≠ DRV_n_STAT m := by
  simp only [DRV_n_STAT]
  omega

theorem drvCtl_ne_stat (n m : Nat) : DRV_n_CTL n ≠ DRV_n_STAT m := by
  simp only [DRV_n_CTL, DRV_n_STAT]
  omega

theorem grpCtl_ne_stat {g : Nat} (hg : g < 8) (n : Nat) : DRV_GRP_g_CTL g ≠ DRV_n_STAT n := by
  simp only [DRV_GRP_g_CTL, DRV_n_STAT]
  omega

theorem grpCtl_ne_ctl {g : Nat} (hg : g < 8) (n : Nat) : DRV_n_CTL n ≠ DRV_GRP_g_CTL g := by
  simp only [DRV_GRP_g_CTL, DRV_n_CTL]
  omega

theorem btStat_ne_grpCtl {g : Nat} (hg : g < 8) : BT_STAT ≠ DRV_GRP_g_CTL g := by
  simp only [DRV_GRP_g_CTL, BT_STAT]
  omega

/-! ### Runs over the channels of a group -/

/-- What a channel does in a run over channels: its own status register. -/
def OwnStat (f : State → Nat → State) : Prop := ∀ u k, OnlyRegs [DRV_n_STAT k] u (f u k)

section Channels
variable {f : State → Nat → State}

theorem each_stat_reg (hf : OwnStat f) (l : List Nat) (s : State) {a : Nat} (h : ∀ k ∈ l, a ≠ DRV_n_STAT k) :
    (s.each l f).reg a = s.reg a :=
  each_induction (P := fun u => u.reg a = s.reg a) rfl fun u k hk hu => ((hf u k).2 a (by simpa using h k hk)).trans hu

theorem each_stat_mem (hf : OwnStat f) (l : List Nat) (s : State) : (s.each l f).mem = s.mem :=
  each_induction (P := fun u => u.mem = s.mem) rfl fun u k _ hu => (hf u k).mem_eq.trans hu

/-- A channel of the run has its turn in a state in which its status is still the one at the start. -/
theorem each_stat_turn (hf : OwnStat f) {l : List Nat} (hnd : l.Nodup) (s : State) {n : Nat} (hn : n ∈ l) :
    ∃ u : State, u.reg (DRV_n_STAT n) = s.reg (DRV_n_STAT n) ∧ (s.each l f).reg (DRV_n_STAT n) = (f u n).reg (DRV_n_STAT n) := by
  obtain ⟨l1, l2, rfl⟩ := List.append_of_mem hn
  obtain ⟨-, h2, hdis⟩ := List.nodup_append.1 hnd
  obtain ⟨hn2, -⟩ := List.nodup_cons.1 h2
  refine ⟨s.each l1 f, each_stat_reg hf l1 s fun k hk => drvStat_inj (hdis k hk n (List.mem_cons_self ..)).symm, ?_⟩
  rw [each_append]
  exact each_stat_reg hf l2 _ fun k hk => drvStat_inj fun e => hn2 (e ▸ hk)

end Channels

theorem groupChannels_nodup (g : Nat) : (groupChannels g).Nodup :=
  (List.nodup_map_iff fun _ _ h => Nat.add_left_cancel h).2 List.nodup_range

theorem mem_groupChannels {g n : Nat} : n ∈ groupChannels g ↔ n / 8 = g := by
  simp only [groupChannels, List.mem_map, List.mem_range]
  constructor
  · rintro ⟨i, hi, rfl⟩
    omega
  · intro h
    exact ⟨n % 8, by omega, by omega⟩

theorem faultChannel_ownStat : OwnStat faultChannel := fun u _ =>
  ((onlyRegs_refl _ u).setFld (List.mem_singleton.2 rfl) _ _).setFld (List.mem_singleton.2 rfl) _ _

theorem dropChannel_onlyRegs {l : List Nat} {s u : State} (h : OnlyRegs l s u) {n : Nat} (hn : DRV_n_STAT n ∈ l) :
    OnlyRegs l s (dropChannel u n) := by
  unfold dropChannel setDrvState
  split
  · exact h.setFld hn _ _
  · exact h

theorem dropChannel_ownStat : OwnStat dropChannel := fun u _ => dropChannel_onlyRegs (onlyRegs_refl _ u) (List.mem_singleton.2 rfl)

theorem drvState_setDrvState (s : State) (n : Nat) {x : Nat} (hx : x < 8) : drvState (setDrvState s n x) n = x :=
  fld_setFld_of_lt _ _ _ _ (by decide) hx

theorem drvLive_of_reg_eq {s t : State} {n : Nat} (h : t.reg (DRV_n_STAT n) = s.reg (DRV_n_STAT n)) : drvLive t n = drvLive s n := by
  unfold drvLive drvState
  rw [fld_of_reg_eq h]

theorem drvState_dropChannel (s : State) (n : Nat) : drvState (dropChannel s n) n = if drvLive s n then 0 else drvState s n := by
  unfold dropChannel
  split
  · exact drvState_setDrvState s n (by decide)
  · rfl

/-! ### Group faults (R149, R150) -/

theorem groupWanted_eq (s : State) (g : Nat) :
    groupWanted s g = true ↔ s.fld (DRV_GRP_g_CTL g) DRV_GRP_g_CTL_EN = 1 ∧
      s.fld (DRV_GRP_g_CTL g) DRV_GRP_g_CTL_FLT_LATCHED = 0 ∧ inRun s = true := by
  simp only [groupWanted, flag_eq, Bool.and_eq_true, Bool.not_eq_true', decide_eq_true_eq, decide_eq_false_iff_not,
    fld_one_ne_zero_iff s _ (f := DRV_GRP_g_CTL_EN) rfl, Decidable.not_not, and_assoc]

/-- A lost enable (R150): the enable falls where a condition fails; nothing else of the group's register changes. -/
theorem doDriveEnableLoss_grp {g : Nat} (hg : g < 8) (s : State) :
    (doDriveEnableLoss g s).fld (DRV_GRP_g_CTL g) DRV_GRP_g_CTL_EN_OUT =
      (if groupWanted s g then s.fld (DRV_GRP_g_CTL g) DRV_GRP_g_CTL_EN_OUT else 0) ∧
    (∀ f : Fld, f.lo + f.w ≤ 3 → (doDriveEnableLoss g s).fld (DRV_GRP_g_CTL g) f = s.fld (DRV_GRP_g_CTL g) f) := by
  have hkeep (l : List Nat) (u : State) : (u.each l dropChannel).reg (DRV_GRP_g_CTL g) = u.reg (DRV_GRP_g_CTL g) :=
    each_stat_reg dropChannel_ownStat l u fun k _ => grpCtl_ne_stat hg k
  unfold doDriveEnableLoss
  split
  next h =>
    obtain ⟨-, hw⟩ := Bool.and_eq_true_iff.1 h
    have hw' : groupWanted s g = false := by simpa using hw
    refine ⟨?_, fun f hf => ?_⟩
    · rw [fld_of_reg_eq (hkeep _ _), hw', fld_setFld_of_lt _ _ _ _ (by decide) (by decide)]
      rfl
    · rw [fld_of_reg_eq (hkeep _ _), fld_setFld_ne _ _ _ _ _ (by decide) (.inr hf)]
  next h =>
    refine ⟨?_, fun _ _ => rfl⟩
    cases hw : groupWanted s g
    · have : s.flag (DRV_GRP_g_CTL g) DRV_GRP_g_CTL_EN_OUT = false := by simpa [hw] using h
      exact (flag_eq_false_iff ..).1 this
    · rfl

theorem settleGroup_grp {g : Nat} (hg : g < 8) (s : State) :
    ((settleGroup g s).fld (DRV_GRP_g_CTL g) DRV_GRP_g_CTL_EN_OUT = 1 ↔ groupWanted s g = true) ∧
    (∀ f : Fld, f.lo + f.w ≤ 3 → (settleGroup g s).fld (DRV_GRP_g_CTL g) f = s.fld (DRV_GRP_g_CTL g) f) := by
  unfold settleGroup
  split
  next h =>
    obtain ⟨hw, -⟩ := Bool.and_eq_true_iff.1 h
    refine ⟨⟨fun _ => hw, fun _ => ?_⟩, fun f hf => ?_⟩
    · exact fld_setFld_of_lt _ _ _ _ (by decide) (by decide)
    · exact fld_setFld_ne _ _ _ _ _ (by decide) (.inr hf)
  next h =>
    obtain ⟨hout, hkeep⟩ := doDriveEnableLoss_grp hg s
    refine ⟨?_, hkeep⟩
    rw [hout]
    cases hw : groupWanted s g
    · simp
    · have hon : s.flag (DRV_GRP_g_CTL g) DRV_GRP_g_CTL_EN_OUT = true := by simpa [hw] using h
      have := fld_eq_b2n_flag s (DRV_GRP_g_CTL g) DRV_GRP_g_CTL_EN_OUT rfl
      simp [this, hon, b2n]

/-- The word that FLT_LATCHED_CLEAR writes: EN in bit 0, 1 in bit 1. -/
theorem clearWord_bits {e : Nat} (h : e < 2) :
    bits (BitVec.ofNat 32 (2 + e)).toNat 0 1 = e ∧ bits (BitVec.ofNat 32 (2 + e)).toNat 1 1 = 1 := by
  obtain rfl | rfl : e = 0 ∨ e = 1 := by omega
  · decide
  · decide

/-- Settles O31. -/
theorem groupFaultAndEnableLossComplete : Obligations.GroupFaultAndEnableLossComplete := by
  intro g s c
  have hg := g.isLt
  refine ⟨⟨_, rfl, ?_⟩, rfl, fun hin => ⟨_, rfl, ?_⟩, fun hin => ⟨_, rfl, ?_⟩, fun hout hw => ?_⟩
  · let s1 := s.setFlds c [(DRV_GRP_g_CTL_FLT_IN, 1), (DRV_GRP_g_CTL_FLT_LATCHED, 1), (DRV_GRP_g_CTL_EN_OUT, 0)]
    have hkeep : (s1.each (groupChannels g) faultChannel).reg c = s1.reg c :=
      each_stat_reg faultChannel_ownStat _ _ fun k _ => grpCtl_ne_stat hg k
    have hreg (n : Fin 64) : s1.reg (DRV_n_STAT n) = s.reg (DRV_n_STAT n) := reg_setFlds_other _ _ _ _ (grpCtl_ne_stat hg n).symm
    refine ⟨?_, ?_, ?_, ?_, fun n hn => ?_, fun n hn => ?_⟩
    · exact (fld_of_reg_eq hkeep _).trans ((fld_setFld_ne _ _ _ _ _ (by decide) (by decide)).trans
        (fld_setFld_of_lt _ _ _ _ (by decide) (by decide)))
    · exact (fld_of_reg_eq hkeep _).trans (fld_setFld_of_lt _ _ _ _ (by decide) (by decide))
    · exact (fld_of_reg_eq hkeep _).trans (fld_setFlds_beside _ _ _ _ (by decide))
    · exact (each_stat_mem faultChannel_ownStat _ _).trans (congrArg State.mem (setFlds_rest ..) :)
    · obtain ⟨u, -, hu⟩ := each_stat_turn faultChannel_ownStat (groupChannels_nodup g) s1 (mem_groupChannels.2 hn)
      refine ⟨(fld_of_reg_eq hu _).trans ((fld_setFld_ne _ _ _ _ _ (by decide) (by decide)).trans ?_), (fld_of_reg_eq hu _).trans ?_⟩
      · exact drvState_setDrvState u n (by decide)
      · exact fld_setFld_of_lt _ _ _ _ (by decide) (by decide)
    · exact (each_stat_reg faultChannel_ownStat _ _ fun k hk =>
        drvStat_inj (n := n) (m := k) fun e => hn (mem_groupChannels.1 (e ▸ hk))).trans (hreg n)
  · have hlow : s.flag c DRV_GRP_g_CTL_FLT_IN = true := (flag_eq_true_iff _ _ rfl).2 hin
    have hkeep := (settleGroup_grp hg (s.setFld c DRV_GRP_g_CTL_EN
      (bits (BitVec.ofNat 32 (2 + s.fld c DRV_GRP_g_CTL_EN)).toNat 0 1))).2 DRV_GRP_g_CTL_FLT_LATCHED (by decide)
    have hdo : doFltLatchedClear g s = settleGroup g (s.setFld c DRV_GRP_g_CTL_EN
        (bits (BitVec.ofNat 32 (2 + s.fld c DRV_GRP_g_CTL_EN)).toNat 0 1)) := by
      unfold doFltLatchedClear writeGroup
      rw [hlow]
      simp [c]
    exact (congrArg (fun u : State => u.fld c DRV_GRP_g_CTL_FLT_LATCHED) hdo).trans
      (hkeep.trans (fld_setFld_ne _ _ _ _ _ (by decide) (by decide)))
  · have hlow : s.flag c DRV_GRP_g_CTL_FLT_IN = false := (flag_eq_false_iff ..).2 hin
    obtain ⟨hb0, hb1⟩ := clearWord_bits (fld_lt s c DRV_GRP_g_CTL_EN)
    have hdo : doFltLatchedClear g s =
        settleGroup g ((s.setFld c DRV_GRP_g_CTL_EN (s.fld c DRV_GRP_g_CTL_EN)).setFld c DRV_GRP_g_CTL_FLT_LATCHED 0) := by
      unfold doFltLatchedClear writeGroup
      rw [hlow, hb0, hb1]
      rfl
    rw [hdo]
    let u := (s.setFld c DRV_GRP_g_CTL_EN (s.fld c DRV_GRP_g_CTL_EN)).setFld c DRV_GRP_g_CTL_FLT_LATCHED 0
    have hlatch : u.fld c DRV_GRP_g_CTL_FLT_LATCHED = 0 := fld_setFld_of_lt _ _ _ _ (by decide) (by decide)
    have hen : u.fld c DRV_GRP_g_CTL_EN = s.fld c DRV_GRP_g_CTL_EN :=
      (fld_setFld_ne _ _ _ _ _ (by decide) (by decide)).trans (fld_setFld_of_lt _ _ _ _ (by decide) (fld_lt ..))
    have hrun : inRun u = inRun s := flag_of_reg_eq
      ((reg_setFld_other _ _ _ _ _ (btStat_ne_grpCtl hg)).trans (reg_setFld_other _ _ _ _ _ (btStat_ne_grpCtl hg))) _
    obtain ⟨hout, hkeep⟩ := settleGroup_grp hg u
    refine ⟨(hkeep _ (by decide)).trans hlatch, (hkeep _ (by decide)).trans hen, hout.trans ((groupWanted_eq u g).trans ?_)⟩
    rw [show u.fld (DRV_GRP_g_CTL g) DRV_GRP_g_CTL_EN = _ from hen, show u.fld (DRV_GRP_g_CTL g) DRV_GRP_g_CTL_FLT_LATCHED = _ from hlatch,
      hrun]
    simp [c]
  · have hloss : doDriveEnableLoss g s = (s.setFld c DRV_GRP_g_CTL_EN_OUT 0).each (groupChannels g) dropChannel := by
      refine if_pos ?_
      rw [(flag_eq_true_iff s c rfl).2 hout, hw]
      rfl
    have hreg (n : Fin 64) : (s.setFld c DRV_GRP_g_CTL_EN_OUT 0).reg (DRV_n_STAT n) = s.reg (DRV_n_STAT n) :=
      reg_setFld_other _ _ _ _ _ (grpCtl_ne_stat hg n).symm
    refine ⟨_, Completes.of_eq rfl hloss, ?_, fun n hn => ?_, fun n => ?_⟩
    · refine (fld_of_reg_eq (each_stat_reg dropChannel_ownStat _ _ fun k _ => grpCtl_ne_stat hg k) _).trans ?_
      exact fld_setFld_of_lt _ _ _ _ (by decide) (by decide)
    · obtain ⟨u, hu0, hu⟩ := each_stat_turn dropChannel_ownStat (groupChannels_nodup g) (s.setFld c DRV_GRP_g_CTL_EN_OUT 0)
        (mem_groupChannels.2 hn)
      refine (fld_of_reg_eq hu _).trans ((drvState_dropChannel u n).trans ?_)
      rw [drvLive_of_reg_eq (hu0.trans (hreg n)), drvState, fld_of_reg_eq (hu0.trans (hreg n))]
      rfl
    · refine fld_of_reg_eq ((each_stat_reg dropChannel_ownStat _ _ fun k _ => drvCtl_ne_stat n k).trans ?_) _
      exact reg_setFld_other _ _ _ _ _ (grpCtl_ne_ctl hg n)

/-- Settles O34. -/
theorem driveChannelAtBlockTick : Obligations.DriveChannelAtBlockTick := by
  intro n s en
  have hlive : drvLive s n = true ↔ drvState s n = 1 ∨ drvState s n = 2 := by simp [drvLive]
  have hen := flag_eq_true_iff s (DRV_n_CTL n) (f := DRV_n_CTL_ENABLE) rfl
  have hout := flag_eq_true_iff s (DRV_GRP_g_CTL (n / 8)) (f := DRV_GRP_g_CTL_EN_OUT) rfl
  have hlt := fld_lt s (DRV_n_CTL n) DRV_n_CTL_ENABLE
  have h0 : (en = 0) ↔ s.flag (DRV_n_CTL n) DRV_n_CTL_ENABLE = false := (flag_eq_false_iff ..).symm
  unfold drvEnter
  dsimp only
  split
  next h =>
    obtain ⟨hl, he⟩ := Bool.and_eq_true_iff.1 h
    rw [if_pos (hlive.1 hl), if_pos (h0.2 (by simpa using he)), drvState_setDrvState _ _ (by decide)]
  next h =>
    split
    next h1 =>
      have he : s.flag (DRV_n_CTL n) DRV_n_CTL_ENABLE = true := by simpa [hlive.2 (.inl h1)] using h
      rw [if_pos (.inl h1), if_neg (by rw [h0, he]; decide), drvState_setDrvState _ _ (by decide)]
    next h1 =>
      split
      next h2 =>
        simp only [Bool.and_eq_true, decide_eq_true_eq, hen, hout] at h2
        obtain ⟨⟨⟨hst, he⟩, ho⟩, hr⟩ := h2
        rw [if_neg (by omega), if_pos ⟨hst, he, ho, hr⟩, drvState_setDrvState _ _ (by decide)]
      next h2 =>
        simp only [Bool.and_eq_true, decide_eq_true_eq, hen, hout, and_assoc] at h2
        by_cases h3 : drvState s n = 2
        · have he : s.flag (DRV_n_CTL n) DRV_n_CTL_ENABLE = true := by simpa [hlive.2 (.inr h3)] using h
          rw [if_pos (.inr h3), if_neg (by rw [h0, he]; decide), h3]
        · rw [if_neg (by omega), if_neg h2]

end Sys2Proof.Machine
end

section

/-! SUPPORT. Commands of one drive channel (O32), and updates of the correction loop and the estimator with the events of sense
inputs and TDM ports (O33). -/

namespace Sys2Proof.Machine
open R

@[simp] theorem drive_setDrive_same (s : State) (n : Nat) (d : Drv) : (s.setDrive n d).drive n = d := tget_tput_same ..

theorem drive_of_drv_eq {s t : State} (h : t.drv = s.drv) (n : Nat) : t.drive n = s.drive n := by
  simp only [State.drive, h]

theorem snsCal_ne_stat {m : Nat} (n : Nat) (hn : n < 64) : DRV_n_STAT n ≠ SNS_n_CAL m := by
  simp only [DRV_n_STAT, SNS_n_CAL]
  omega

/-! ### Channel commands -/

theorem drvState_setFld_beside (s : State) (n : Nat) {f : Fld} (x : Nat) (h : 3 ≤ f.lo ∧ f.lo + f.w ≤ 32) :
    drvState (s.setFld (DRV_n_STAT n) f x) n = drvState s n :=
  fld_setFld_ne _ _ _ _ _ h.2 (.inr h.1)

theorem drvState_setFld_ctl (s : State) (n : Nat) (f : Fld) (x : Nat) : drvState (s.setFld (DRV_n_CTL n) f x) n = drvState s n :=
  fld_setFld_other _ _ _ _ _ _ (drvCtl_ne_stat n n).symm

/-- An open load (R148) before its channel is switched off. -/
def openNoted (n : Nat) (s : State) : State :=
  (s.setFld (DRV_n_STAT n) DRV_n_STAT_OPEN 1).mapDrive n (fun d => { d with openCond := true })

theorem openNoted_open (n : Nat) (s : State) : (openNoted n s).fld (DRV_n_STAT n) DRV_n_STAT_OPEN = 1 :=
  fld_setFld_of_lt _ _ _ _ (by decide) (by decide)

theorem openNoted_drive (n : Nat) (s : State) : ((openNoted n s).drive n).openCond = true :=
  congrArg Drv.openCond (drive_setDrive_same ..)

theorem openNoted_state (n : Nat) (s : State) : drvState (openNoted n s) n = drvState s n :=
  drvState_setFld_beside s n 1 (by decide)

theorem openNoted_live (n : Nat) (s : State) : drvLive (openNoted n s) n = drvLive s n := by
  unfold drvLive
  rw [openNoted_state]

theorem dropChannel_fld_beside (s : State) (n : Nat) {f : Fld} (h : 3 ≤ f.lo) :
    (dropChannel s n).fld (DRV_n_STAT n) f = s.fld (DRV_n_STAT n) f := by
  unfold dropChannel setDrvState
  split
  · exact fld_setFld_ne _ _ _ _ _ (by decide) (.inl h)
  · rfl

/-- R153: a sum of 4,096 samples whose mean is whole. -/
theorem writeOffset_whole {sum : Int} (h : sum % 268435456 = 0) (m : Nat) (s : State) :
    writeOffset m sum s = s.setFld (SNS_n_CAL m) SNS_n_CAL_OFFSET (unsext 16 (satS 16 (-(sum / 268435456)))) := by
  have hmod : (-sum) % ((4096 * 65536 : Nat) : Int) = 0 := by omega
  have hdiv : (-sum).fdiv ((4096 * 65536 : Nat) : Int) = -(sum / 268435456) := by
    rw [Int.fdiv_eq_ediv_of_nonneg _ (by omega)]
    omega
  unfold writeOffset roundFree
  rw [if_pos hmod, hdiv]

theorem sext_written_offset (s : State) (m : Nat) (x : Int) :
    sext 16 ((s.setFld (SNS_n_CAL m) SNS_n_CAL_OFFSET (unsext 16 (satS 16 x))).fld (SNS_n_CAL m) SNS_n_CAL_OFFSET) =
      max (-32768) (min 32767 x) := by
  have hlt : unsext 16 (satS 16 x) < 2 ^ 16 := by
    unfold unsext
    omega
  obtain ⟨hlo, hhi⟩ := satS_mem 16 x
  rw [fld_setFld_of_lt _ _ _ _ (by decide) hlt, sext_unsext (by decide) hlo hhi, satS_eq_clamp]
  rfl

/-- Settles O32. -/
theorem driveChannelCommandsComplete : Obligations.DriveChannelCommandsComplete := by
  intro n s e
  have hn := n.isLt
  refine ⟨fun h => Completes.of_eq rfl (if_pos h), fun h => Completes.of_eq rfl (if_neg (by simp [h])), fun h => ?_, rfl, fun h => ?_,
    fun h => ?_, fun h => ?_, fun h hcal hv hi => ?_, fun h => ?_⟩
  · have hdo : doOpenDetect n s = if s.flag (DRV_n_CTL n) DRV_n_CTL_OPEN_OFF
        then (dropChannel (openNoted n s) n).setFld (DRV_n_CTL n) DRV_n_CTL_ENABLE 0 else openNoted n s := if_pos h
    refine ⟨_, Completes.of_eq rfl hdo, ?_⟩
    split
    next hoff =>
      have hoff' := (flag_eq_true_iff s _ rfl).1 hoff
      have hstat (f : Fld) : ((dropChannel (openNoted n s) n).setFld (DRV_n_CTL n) DRV_n_CTL_ENABLE 0).fld (DRV_n_STAT n) f =
          (dropChannel (openNoted n s) n).fld (DRV_n_STAT n) f := fld_setFld_other _ _ _ _ _ _ (drvCtl_ne_stat n n).symm
      refine ⟨?_, ?_, fun _ => ⟨?_, fld_setFld_of_lt _ _ _ _ (by decide) (by decide)⟩, fun h0 => absurd h0 (by omega)⟩
      · rw [hstat, dropChannel_fld_beside _ _ (by decide), openNoted_open]
      · have hrest := (dropChannel_ownStat (openNoted n s) n).rest
        have hdrv : ((dropChannel (openNoted n s) n).setFld (DRV_n_CTL n) DRV_n_CTL_ENABLE 0).drv = (openNoted n s).drv :=
          (congrArg State.drv hrest :)
        rw [drive_of_drv_eq hdrv, openNoted_drive]
      · refine (hstat _).trans ((drvState_dropChannel _ n).trans ?_)
        rw [openNoted_live, openNoted_state]
    next hoff =>
      refine ⟨openNoted_open n s, openNoted_drive n s, fun h1 => absurd ((flag_eq_true_iff s _ rfl).2 h1) hoff,
        fun _ => ⟨openNoted_state n s, reg_setFld_other _ _ _ _ _ (drvCtl_ne_stat n n)⟩⟩
  · exact Completes.of_eq rfl (if_pos h)
  · refine ⟨_, Completes.of_eq rfl (if_pos h), drvState_setDrvState _ _ (by decide), ?_, ?_, ?_⟩ <;>
      exact congrArg _ (drive_setDrive_same ..)
  · exact ⟨_, Completes.of_eq rfl (if_neg h), drvState_setFld_ctl ..⟩
  · let u := writeOffset (2 * n) (s.drive n).sumV s
    have hdo : doCalDone n s = setDrvState (writeOffset (2 * n + 1) (s.drive n).sumI u) n 0 := if_pos ⟨h, hcal⟩
    refine ⟨_, Completes.of_eq rfl hdo, drvState_setDrvState _ _ (by decide), ?_, ?_⟩
    · rw [setDrvState, fld_setFld_other _ _ _ _ _ _ (snsCal_ne_stat n hn).symm, writeOffset_whole hi,
        fld_setFld_other _ _ _ _ _ _ (by simp only [SNS_n_CAL]; omega)]
      simp only [u]
      rw [writeOffset_whole hv]
      exact sext_written_offset ..
    · rw [setDrvState, fld_setFld_other _ _ _ _ _ _ (snsCal_ne_stat n hn).symm, writeOffset_whole hi]
      exact sext_written_offset ..
  · refine ⟨_, Completes.of_eq rfl (if_pos h), ?_, fld_setFld_of_lt _ _ _ _ (by decide) (by decide),
      congrArg Drv.corr (drive_setDrive_same ..)⟩
    exact (fld_setFld_other _ _ _ _ _ _ (drvCtl_ne_stat n n)).trans (fld_setFld_of_lt _ _ _ _ (by decide) (by decide))

/-! ### The loop and the estimator -/

/-- `t` is `s` with another count of the free values taken. -/
def OnlyFree (s t : State) : Prop := { t with freeCtr := s.freeCtr } = s

namespace OnlyFree
variable {s t : State}

theorem refl (s : State) : OnlyFree s s := rfl

theorem next (h : OnlyFree s t) : OnlyFree s t.freeNext := h

theorem reg_eq (h : OnlyFree s t) (a : Nat) : t.reg a = s.reg a := reg_of_regs_eq (congrArg State.regs h :) a

theorem trans {u : State} (h : OnlyFree s t) (k : OnlyFree t u) : OnlyFree s u :=
  (congrArg (fun v : State => { v with freeCtr := s.freeCtr }) k :).trans h

theorem pair {α : Type} {x : α} {u : State} (h : OnlyFree s u) : OnlyFree s (x, u).2 := h

theorem ite {α : Type} {c : Prop} [Decidable c] {x y : α × State} (hx : OnlyFree s x.2) (hy : OnlyFree s y.2) :
    OnlyFree s (if c then x else y).2 := by
  split
  · exact hx
  · exact hy

theorem roundFree (h : OnlyFree s t) (a : Int) (b : Nat) : OnlyFree s (roundFree t a b).2 := ite h h.next

theorem rootFree (h : OnlyFree s t) (a : Nat) : OnlyFree s (rootFree t a).2 := ite h h.next

theorem senseCal (h : OnlyFree s t) (n : Nat) (x : Int) : OnlyFree s (senseCal t n x).2 := ite (h.roundFree _ _) h

theorem loopTimes (h : OnlyFree s t) (n : Nat) (v : Int) : OnlyFree s (loopTimes t n v).2 := by
  unfold Machine.loopTimes
  split
  · exact ite h (h.roundFree _ _)
  · exact h.next

theorem interpolated (h : OnlyFree s t) (n : Nat) : OnlyFree s (interpolated t n).2 := ite h h.next

theorem rmsLevel (h : OnlyFree s t) (sum : Nat) : OnlyFree s (rmsLevel t sum).2 := ite h h.next

theorem impedance (h : OnlyFree s t) (n sv si : Nat) : OnlyFree s (impedance t n sv si).2 := by
  unfold Machine.impedance
  split
  · exact ite h (ite h (pair (h.rootFree _)))
  · exact h

end OnlyFree

theorem impedance_of_bad_scale {s : State} {n : Nat}
    (h : scaleOk (s.reg (DRV_n_VSCALE n)).toNat = none ∨ scaleOk (s.reg (DRV_n_ISCALE n)).toNat = none) (sv si : Nat) :
    impedance s n sv si = (0xFFFFFFFF, s) := by
  unfold impedance
  split
  next hv hi => rcases h with h | h <;> simp_all
  next => rfl

theorem setClip_drv (n : Nat) (s : State) : (setClip n s).drv = s.drv := rfl

theorem setClip_reg (n : Nat) (s : State) {a : Nat} (h : a ≠ DRV_n_STAT n) : (setClip n s).reg a = s.reg a :=
  reg_setFld_other _ _ _ _ _ h

theorem not_quiet_edge (quiet : Bool) (u : Nat) : (if quiet = true then 8000 else u % 16001) ≤ 16000 := by
  split
  · decide
  · have := Nat.mod_lt u (by decide : 0 < 16001)
    omega

/-- R144: an update with the loop open corrects nothing. -/
theorem doCorrectionUpdate_open {n : Nat} {s : State} (hlive : drvLive s n = true)
    (hloop : s.fld (DRV_n_CTL n) DRV_n_CTL_LOOP_EN = 0) (v : Word) :
    ∃ (u : State) (d : Drv), OnlyFree s u ∧ d.corr = 0 ∧ d.errCnt = 0 ∧ d.edge ≤ 16000 ∧
      (doCorrectionUpdate n v s = u.setDrive n d ∨ doCorrectionUpdate n v s = setClip n (u.setDrive n d)) := by
  have hoff := (flag_eq_false_iff ..).2 hloop
  have hg := (((OnlyFree.refl s).interpolated n).senseCal (2 * n) (sext 32 v.toNat)).loopTimes n
    (senseCal (interpolated s n).2 (2 * n) (sext 32 v.toNat)).1
  unfold doCorrectionUpdate
  rw [hlive, hoff]
  simp only [Bool.not_true, Bool.false_eq_true, if_false, Bool.not_false, Bool.true_or, if_true, Bool.false_and]
  generalize loopTimes _ n _ = g at hg ⊢
  generalize interpolated s n = r
  generalize decide (r.1 + 0 = 0) = quiet
  have hu : OnlyFree s (if quiet = true then g.2 else g.2.freeNext) := by
    split
    · exact hg
    · exact hg.next
  split
  · refine ⟨_, _, hu, ?_, ?_, ?_, .inl rfl⟩
    · rfl
    · rfl
    · exact not_quiet_edge quiet _
  · refine ⟨_, _, hu, ?_, ?_, ?_, .inr rfl⟩
    · rfl
    · rfl
    · exact not_quiet_edge quiet _

/-- R146: an estimate writes the level and the impedance, and then, where it is valid, counts. -/
theorem doImpedanceEstimate_eq (n sv si : Nat) (s : State) : ∃ (u : State) (lvl : Word) (z : Nat) (v : Nat), OnlyFree s u ∧
    (scaleOk (s.reg (DRV_n_VSCALE n)).toNat = none ∨ scaleOk (s.reg (DRV_n_ISCALE n)).toNat = none → z = 0xFFFFFFFF) ∧
    doImpedanceEstimate n sv si s =
      if ((scaleOk (s.reg (DRV_n_VSCALE n)).toNat).isSome && (scaleOk (s.reg (DRV_n_ISCALE n)).toNat).isSome &&
        decide (s.fld (DRV_n_VMIN n) DRV_n_VMIN_VMIN ≤ v)) = true
      then openCount n ((u.setReg (DRV_n_LEVEL n) lvl).setReg (DRV_n_ZEST n) (BitVec.ofNat 32 z))
      else (u.setReg (DRV_n_LEVEL n) lvl).setReg (DRV_n_ZEST n) (BitVec.ofNat 32 z) := by
  have hi := ((OnlyFree.refl s).rmsLevel sv).rmsLevel si
  refine ⟨_, _, _, _, hi.impedance n sv si, fun h => ?_, rfl⟩
  rw [← hi.reg_eq, ← hi.reg_eq] at h
  exact congrArg Prod.fst (impedance_of_bad_scale h sv si)

theorem openCount_count (n : Nat) (s : State) : (openCount n s).fld (DRV_n_STAT n) DRV_n_STAT_OPEN_CNT =
    if s.fld (DRV_n_LIM n) DRV_n_LIM_OPEN_TH < (s.reg (DRV_n_ZEST n)).toNat / 4096
    then min 4 (s.fld (DRV_n_STAT n) DRV_n_STAT_OPEN_CNT + 1) else 0 := by
  unfold openCount
  dsimp only
  split
  · have hw : DRV_n_STAT_OPEN_CNT.w = 3 := rfl
    rw [fld_setFld_of_lt _ _ _ _ (by decide) (by rw [hw]; omega), Nat.min_comm]
  · exact fld_setFld_of_lt _ _ _ _ (by decide) (by decide)

theorem openCount_reg (n : Nat) (s : State) {a : Nat} (h : a ≠ DRV_n_STAT n) : (openCount n s).reg a = s.reg a := by
  unfold openCount
  dsimp only
  split <;> exact reg_setFld_other _ _ _ _ _ h

theorem drvStat_ne_zest (n : Nat) : DRV_n_STAT n ≠ DRV_n_ZEST n ∧ DRV_n_STAT n ≠ DRV_n_LEVEL n := by
  simp only [DRV_n_STAT, DRV_n_ZEST, DRV_n_LEVEL]
  omega

theorem doTdmSlip_target {p : Nat} {s : State} (hon : tdmOn s p = true) (hm : s.flag (TDM_p_CTL p) TDM_p_CTL_MASTER = false) :
    doTdmSlip p s =
      { (s.setFld (TDM_p_STAT p) TDM_p_STAT_SLIP 1).setFld (TDM_p_STAT p) TDM_p_STAT_LOCKED 0 with
        tdmSlip := p :: s.tdmSlip, tdmClean := tput 0 s.tdmClean p 0 } := by
  unfold doTdmSlip
  rw [hon, hm]
  rfl

/-- Settles O33. -/
theorem senseLoopAndEstimateCommandsComplete : Obligations.SenseLoopAndEstimateCommandsComplete := by
  intro n m p s v sv si
  refine ⟨fun hlive hloop => ?_, fun hbad => ?_, fun hv h1 h2 => ?_, fun h => Completes.of_eq rfl (if_pos h), fun h => ?_,
    fun hon hm => ?_, fun hon hc => Completes.of_eq rfl (if_pos ?_)⟩
  · obtain ⟨u, d, hu, hcorr, herr, hedge, hdo⟩ := doCorrectionUpdate_open hlive hloop v
    rcases hdo with hdo | hdo
    · refine ⟨_, Completes.of_eq rfl hdo, ?_⟩
      rw [drive_setDrive_same]
      exact ⟨hcorr, herr, hedge, hu.reg_eq _⟩
    · refine ⟨_, Completes.of_eq rfl hdo, ?_⟩
      rw [drive_of_drv_eq (setClip_drv ..), drive_setDrive_same]
      exact ⟨hcorr, herr, hedge, (setClip_reg _ _ (drvCtl_ne_stat n n)).trans (hu.reg_eq _)⟩
  · obtain ⟨u, lvl, z, lev, hu, hz, hdo⟩ := doImpedanceEstimate_eq n sv si s
    rw [hz hbad, if_neg (by rcases hbad with h | h <;> simp [h])] at hdo
    refine ⟨_, Completes.of_eq rfl hdo, reg_setReg_same .., ?_⟩
    obtain ⟨hze, hle⟩ := drvStat_ne_zest n
    exact fld_of_reg_eq ((reg_setReg_other _ _ _ _ hze).trans ((reg_setReg_other _ _ _ _ hle).trans (hu.reg_eq _))) _
  · obtain ⟨u, lvl, z, lev, hu, -, hdo⟩ := doImpedanceEstimate_eq n sv si s
    rw [h1, h2, hv, if_pos (by simp)] at hdo
    refine ⟨_, Completes.of_eq rfl hdo, ?_⟩
    obtain ⟨hze, hle⟩ := drvStat_ne_zest n
    have hstat : ((u.setReg (DRV_n_LEVEL n) lvl).setReg (DRV_n_ZEST n) (BitVec.ofNat 32 z)).reg (DRV_n_STAT n) = s.reg (DRV_n_STAT n) :=
      (reg_setReg_other _ _ _ _ hze).trans ((reg_setReg_other _ _ _ _ hle).trans (hu.reg_eq _))
    have hlim : ((u.setReg (DRV_n_LEVEL n) lvl).setReg (DRV_n_ZEST n) (BitVec.ofNat 32 z)).reg (DRV_n_LIM n) = s.reg (DRV_n_LIM n) :=
      (reg_setReg_other _ _ _ _ (by simp only [DRV_n_LIM, DRV_n_ZEST]; omega)).trans
        ((reg_setReg_other _ _ _ _ (by simp only [DRV_n_LIM, DRV_n_LEVEL]; omega)).trans (hu.reg_eq _))
    rw [openCount_count, openCount_reg _ _ hze.symm, fld_of_reg_eq hstat, fld_of_reg_eq hlim]
  · let t := s.setFld (SNS_n_STAT m) SNS_n_STAT_OVL 1
    have hdo : doSenseOverload m s =
        { t with an := { t.an with ovls := if t.an.ovls.contains m then t.an.ovls else m :: t.an.ovls } } := if_pos h
    exact ⟨_, Completes.of_eq rfl hdo, ⟨rfl, fun a ha => reg_setFld_other _ _ _ _ _ (by simpa using ha)⟩,
      fld_setFld_of_lt _ _ _ _ (by decide) (by decide)⟩
  · have hmaster := (flag_eq_false_iff ..).2 hm
    have hdo := doTdmSlip_target hon hmaster
    refine ⟨_, Completes.of_eq rfl hdo, ?_, fld_setFld_of_lt _ _ _ _ (by decide) (by decide), tget_tput_same ..⟩
    exact (fld_setFld_ne _ _ _ _ _ (by decide) (by decide)).trans (fld_setFld_of_lt _ _ _ _ (by decide) (by decide))
  · rw [hon, decide_eq_true hc]
    rfl

end Sys2Proof.Machine
end

section

/-! SUPPORT. The network: originated frames (O36), received frames (O37), timestamps (O39) and the hub's role (O40). -/

namespace Sys2Proof.Machine
open R

/-! ### Originated frames (R157) -/

/-- With every port's link up and no gate list in force, all copies leave. -/
theorem putOut_all {l : List OutFrame} {s : State} (hup : ∀ o ∈ l, linkUp s o.port = true)
    (hgate : ∀ o ∈ l, gateOpen s o.port o.frame.cls o.frame.len = true) :
    putOut l s = s.mapNet (fun n => { n with sent := l, held := n.held ++ [] }) := by
  have h1 : l.filter (fun o => linkUp s o.port) = l := List.filter_eq_self.2 hup
  have h2 : l.filter (fun o => gateOpen s o.port o.frame.cls o.frame.len) = l := List.filter_eq_self.2 hgate
  have h3 : l.filter (fun o => !gateOpen s o.port o.frame.cls o.frame.len) = [] :=
    List.filter_eq_nil_iff.2 fun o ho => by simp [hgate o ho]
  unfold putOut
  simp only [h1, h2, h3]

theorem gateOpen_of_no_list {s : State} {p : Nat} (h : s.fld (NET_PORT_p_GCL_CTL p) NET_PORT_p_GCL_CTL_EN = 0) (c len : Nat) :
    gateOpen s p c len = true := by
  have hflag := (flag_eq_false_iff ..).2 h
  simp [gateOpen, hflag]

/-- The frame the device originates. -/
def ownFrame (len dst cls : Nat) (body : FrameBody) (s : State) : EthFrame :=
  { len := len, fcsOk := true, dst := dst, src := ownMac s, seq := some s.net.hsrSeq, cls := cls, body := body }

/-- The copies of a frame that the device originates. -/
def copiesOf (f : EthFrame) (s : State) : List OutFrame :=
  (sendPaths s).map (fun e => { port := e.1, path := e.2, frame := f : OutFrame })

theorem originate_eq (len dst cls : Nat) (body : FrameBody) (s : State) :
    originate len dst cls body s =
      if copiesOf (ownFrame len dst cls body s) s = [] then s.mapNet (fun n => { n with sent := [] })
      else putOut (copiesOf (ownFrame len dst cls body s) s) (s.mapNet (fun n => { n with hsrSeq := (n.hsrSeq + 1) % 65536 })) := rfl

/-- The four copies of a frame on both rings. -/
def fourCopies (f : EthFrame) : List OutFrame :=
  [{ port := 0, path := 2, frame := f }, { port := 1, path := 2, frame := f }, { port := 2, path := 3, frame := f },
    { port := 3, path := 3, frame := f }]

theorem originate_four {s : State} (hprp : prpEn s = true) (h0 : ringEn s 0 = true) (h1 : ringEn s 1 = true)
    (hport : ∀ p : Fin 4, linkUp s p = true ∧ s.fld (NET_PORT_p_GCL_CTL p) NET_PORT_p_GCL_CTL_EN = 0) (len dst cls : Nat)
    (body : FrameBody) :
    originate len dst cls body s = s.mapNet (fun n => { n with
      hsrSeq := (n.hsrSeq + 1) % 65536, sent := fourCopies (ownFrame len dst cls body s), held := n.held ++ [] }) := by
  have hpaths : sendPaths s = [(0, 2), (1, 2), (2, 3), (3, 3)] := by simp [sendPaths, hprp, h0, h1]
  have hl : copiesOf (ownFrame len dst cls body s) s = fourCopies (ownFrame len dst cls body s) := by rw [copiesOf, hpaths]; rfl
  have hmem (o : OutFrame) (ho : o ∈ fourCopies (ownFrame len dst cls body s)) : o.port < 4 := by
    simp only [fourCopies, List.mem_cons, List.not_mem_nil, or_false] at ho
    rcases ho with rfl | rfl | rfl | rfl <;> simp
  rw [originate_eq, hl, if_neg (by simp [fourCopies]), putOut_all]
  · rfl
  · exact fun o ho => (hport ⟨o.port, hmem o ho⟩).1
  · exact fun o ho => gateOpen_of_no_list (s := s.mapNet _) (hport ⟨o.port, hmem o ho⟩).2 _ _

/-- Settles O36. -/
theorem originatedFramesGoOutAsFourCopies : Obligations.OriginatedFramesGoOutAsFourCopies := by
  intro s c hc hprp h0 h1 hport
  have hsent (f : EthFrame) : ∀ o ∈ fourCopies f, o.frame = f := by simp [fourCopies]
  have key : ∃ len dst cls body t, Completes c s t ∧ t = originate len dst cls body s := by
    rcases hc with rfl | ⟨rfl, hel⟩
    · exact ⟨_, _, _, _, _, rfl, rfl⟩
    · exact ⟨_, _, _, _, _, Completes.of_eq rfl (if_pos hel), rfl⟩
  obtain ⟨len, dst, cls, body, t, ht, rfl⟩ := key
  rw [originate_four hprp h0 h1 hport] at ht
  refine ⟨_, ht, rfl, fun o ho => ?_, rfl, rfl, fun a => rfl⟩
  rw [hsent _ o ho]
  exact ⟨rfl, rfl⟩

/-! ### Received frames (R156, R158, R159) -/

theorem ownReturn_onlyRegs (f : EthFrame) (r : Nat) (s : State) : OnlyRegs [NET_RING_STAT] s (ownReturn f r s) := by
  unfold ownReturn
  split
  · exact (onlyRegs_refl _ s).setFld (List.mem_singleton.2 rfl) _ _
  · exact onlyRegs_refl _ s

/-- R159: the number of a known source. -/
theorem ddLookup_of_found {f : EthFrame} {q : Nat} {e : Nat × DdEntry} {s : State} (hq : f.seq = some q)
    (he : s.net.dd.find? (fun e => e.1 = f.src) = some e) (r : Nat) :
    ddLookup f r s = (seenOn e.2 q, s.mapNet (fun n => { n with dd := tput ⟨0, []⟩ n.dd f.src (ddNote e.2 q r) })) := by
  simp only [ddLookup, hq, he]

/-- A frame whose number has been seen: forwarded where its ring has not seen it, counted, not delivered. -/
theorem takeIn_duplicate {p q : Nat} {f : EthFrame} {e : Nat × DdEntry} {s : State} (hq : f.seq = some q)
    (he : s.net.dd.find? (fun e => e.1 = f.src) = some e) (hseen : seenOn e.2 q ≠ 0) (hdst : isMulticast f.dst = true) :
    ∃ n : Net, takeIn p f s = ({ s with net := n } : State).incSat NET_DD_CNT NET_DD_CNT_DISCARDED ∧
      (bits (seenOn e.2 q) (ringOf p) 1 = 1 → n.fwd = s.net.fwd) := by
  unfold takeIn
  rw [ddLookup_of_found hq he]
  dsimp only
  rw [hdst, Bool.true_or, if_neg (by decide), if_pos hseen]
  split
  next h =>
    refine ⟨_, rfl, fun hb => ?_⟩
    simp [forwards, hb] at h
  next => exact ⟨_, rfl, fun _ => rfl⟩

theorem doFrameForward_single {p : Nat} {o : OutFrame} {s : State} (hf : s.net.fwd = [o]) (hp : o.port = p)
    (hup : linkUp s p = true) (hg : gateOpen s p o.frame.cls o.frame.len = true) :
    doFrameForward p s = { s with net := { s.net with sent := [o], fwd := [] } } := by
  unfold doFrameForward
  rw [hf]
  simp [hp, hup, hg, State.mapNet, hf]

/-- Settles O37. -/
theorem receivedFramesAreCountedOrDiscarded : Obligations.ReceivedFramesAreCountedOrDiscarded := by
  intro p f s hup
  refine ⟨fun h => ?_, fun hlen hfcs hring hsrc => ?_, fun q e hlen hfcs hring hsrc hdst hq he hseen => ?_, fun o hf hp hg => ?_⟩
  · exact Completes.of_eq rfl (by rw [doFrameReceive, hup, Bool.not_true, if_neg Bool.false_ne_true, if_pos (by simpa using h)])
  · have hdo : doFrameReceive p f s = ownReturn f (ringOf p) s := by
      simp [doFrameReceive, hup, hfcs, hring, hsrc, Nat.not_lt.2 hlen]
    exact ⟨_, Completes.of_eq rfl hdo, ownReturn_onlyRegs ..⟩
  · have hdo : doFrameReceive p f s = takeIn p f (s.setFld NET_RING_STAT NET_RING_STAT_ISOLATED 0) := by
      simp [doFrameReceive, hup, hfcs, hring, hsrc, Nat.not_lt.2 hlen]
    obtain ⟨n, htake, hfwd⟩ := takeIn_duplicate (p := p) (s := s.setFld NET_RING_STAT NET_RING_STAT_ISOLATED 0) hq he hseen hdst
    let u : State := { s.setFld NET_RING_STAT NET_RING_STAT_ISOLATED 0 with net := n }
    have hrest : u.incSat NET_DD_CNT NET_DD_CNT_DISCARDED = { u with regs := (u.incSat NET_DD_CNT NET_DD_CNT_DISCARDED).regs } :=
      ((onlyRegs_refl [NET_DD_CNT] u).incSat (List.mem_singleton.2 rfl) _).rest
    refine ⟨_, Completes.of_eq rfl (hdo.trans htake), incSat_mem .., (congrArg State.flows hrest :), ?_, ?_, fun hb => ?_⟩
    · refine (fld_incSat_same u _ _ (by decide)).trans ?_
      have hcnt : u.fld NET_DD_CNT NET_DD_CNT_DISCARDED = s.fld NET_DD_CNT NET_DD_CNT_DISCARDED :=
        fld_setFld_other _ _ _ _ _ _ (by decide)
      rw [hcnt]
      rfl
    · refine (fld_incSat_other u _ _ _ _ (by decide)).trans ?_
      exact fld_setFld_of_lt s _ _ _ (by decide) (by decide)
    · exact (congrArg (fun v : State => v.net.fwd) hrest).trans (hfwd hb)
  · exact Completes.of_eq rfl (doFrameForward_single hf hp hup hg)

/-! ### Timestamps (R172, R173) -/

/-- A time within 2^31 ns of the device's own is the one nearest it with its low 32 bits. -/
theorem nearest32_of_near {now t : Nat} (h1 : t < now + 2 ^ 31) (h2 : now < t + 2 ^ 31) : nearest32 now (t % 2 ^ 32) = t := by
  unfold nearest32
  dsimp only
  split_ifs <;> omega

/-- The frame from whose instant a time is rounded down is the one that the time is rounded up to. -/
theorem frame_of_floor_time {fs : Nat} (hpos : 0 < fs) (hle : fs ≤ 1000000000) (fp : Nat) :
    (fp * 1000000000 / fs * fs + 999999999) / 1000000000 = fp := by
  have hmod : fp * 1000000000 % fs < fs := Nat.mod_lt _ hpos
  have hdiv := Nat.div_add_mod (fp * 1000000000) fs
  rw [Nat.mul_comm] at hdiv
  generalize fp * 1000000000 / fs * fs = x at hdiv ⊢
  omega

theorem fsHz_mem (s : State) : fsHz s = 48000 ∨ fsHz s = 96000 := by
  unfold fsHz
  split <;> simp

/-- Settles O39. -/
theorem avtpTimestampRecoversPresentationFrame : Obligations.AvtpTimestampRecoversPresentationFrame := by
  intro s f fp t h1 h2
  have hfs := fsHz_mem s
  unfold avtpFrame
  rw [nearest32_of_near h1 h2]
  dsimp only
  rw [frame_of_floor_time (by omega) (by omega)]

/-! ### The hub's role (R181, R182) -/

/-- The hub `n` of address `mac` stays when it hears another hub. -/
def hubStays (n : Net) (mac src prio epoch : Nat) : Prop :=
  epoch < n.hubEpoch ∨ (epoch = n.hubEpoch ∧ outranks n.hubPrio mac prio src = true)

/-- The announce of a peer is noted. -/
def announceNoted (src prio role epoch : Nat) (s : State) : State :=
  s.mapNet (fun n => { n with
    peers := tput ⟨0, 3, 0⟩ n.peers src { prio := prio, role := role, epoch := epoch }, maxEpoch := max n.maxEpoch epoch })

theorem announceReceive_hub {s : State} (h : s.net.hubRole = 2) (src prio epoch : Nat) :
    (hubStays s.net (ownMac s) src prio epoch → (announceReceive src prio 2 epoch s).net.hubRole = 2) ∧
    (¬ hubStays s.net (ownMac s) src prio epoch → (announceReceive src prio 2 epoch s).net.hubRole = 1) := by
  let u := announceNoted src prio 2 epoch s
  let stays := decide (epoch < s.net.hubEpoch) || (decide (epoch = s.net.hubEpoch) && outranks s.net.hubPrio (ownMac s) prio src)
  have hstays : hubStays s.net (ownMac s) src prio epoch ↔ stays = true := by simp [hubStays, stays]
  have hdo : announceReceive src prio 2 epoch s = if (!stays) = true then u.mapNet (fun n => { n with hubRole := 1 }) else u := if_pos h
  rw [hdo, hstays]
  cases stays
  · exact ⟨fun hst => absurd hst (by decide), fun _ => rfl⟩
  · exact ⟨fun _ => h, fun hst => absurd rfl hst⟩

theorem outranks_antisymm {p1 m1 p2 m2 : Nat} (h : m1 ≠ m2) : outranks p1 m1 p2 m2 = !outranks p2 m2 p1 m1 := by
  rw [Bool.eq_iff_iff]
  simp only [outranks, Bool.or_eq_true, Bool.and_eq_true, decide_eq_true_eq, Bool.not_eq_true', Bool.or_eq_false_iff,
    Bool.and_eq_false_iff, decide_eq_false_iff_not]
  omega

/-- What the origination of a frame leaves of the network's state. -/
theorem originate_net (len dst cls : Nat) (body : FrameBody) (s : State) :
    ∃ a b q, originate len dst cls body s = { s with net := { s.net with sent := a, held := b, hsrSeq := q } } := by
  rw [originate_eq]
  split
  · exact ⟨_, _, _, rfl⟩
  · exact ⟨_, _, _, rfl⟩

theorem becomeHub_net (s : State) : (becomeHub s).net.hubRole = 2 ∧ (becomeHub s).net.hubEpoch = (s.net.maxEpoch + 1) % 2 ^ 32 ∧
    (becomeHub s).mem = s.mem := by
  unfold becomeHub sendAnnounce
  obtain ⟨a, b, q, h⟩ := originate_net 64 announceMac 7 (.announce (s.mapNet _).net.hubPrio (s.mapNet _).net.hubRole
    (s.mapNet _).net.hubEpoch) (s.mapNet (fun n => { n with
      hubRole := 2, hubEpoch := (n.maxEpoch + 1) % 2 ^ 32, maxEpoch := (n.maxEpoch + 1) % 2 ^ 32 }))
  rw [h]
  exact ⟨rfl, rfl, rfl⟩

/-- Settles O40. -/
theorem hubRolesResolve : Obligations.HubRolesResolve := by
  refine ⟨fun s u hs hu hmac => ?_, fun s c hc => ?_⟩
  · obtain ⟨hs2, hs1⟩ := announceReceive_hub hs (ownMac u) u.net.hubPrio u.net.hubEpoch
    obtain ⟨hu2, hu1⟩ := announceReceive_hub hu (ownMac s) s.net.hubPrio s.net.hubEpoch
    have hone : hubStays s.net (ownMac s) (ownMac u) u.net.hubPrio u.net.hubEpoch ↔
        ¬ hubStays u.net (ownMac u) (ownMac s) s.net.hubPrio s.net.hubEpoch := by
      unfold hubStays
      rw [outranks_antisymm hmac]
      cases outranks u.net.hubPrio (ownMac u) s.net.hubPrio (ownMac s) <;> simp <;> omega
    refine ⟨?_, fun he => hs2 (.inl he)⟩
    by_cases h : hubStays s.net (ownMac s) (ownMac u) u.net.hubPrio u.net.hubEpoch
    · exact .inl ⟨hs2 h, hu1 (hone.1 h)⟩
    · exact .inr ⟨hs1 h, hu2 (not_not.1 fun hn => h (hone.2 hn))⟩
  · rcases hc with ⟨rfl, hr⟩ | ⟨rfl, he, hr⟩
    · exact ⟨_, Completes.of_eq rfl (if_pos hr), becomeHub_net _⟩
    · exact ⟨_, Completes.of_eq rfl (if_pos ⟨he, hr⟩), becomeHub_net _⟩

end Sys2Proof.Machine
end

section

/-! SUPPORT. Commands on links, rings, time, shaping and isolation (O35). -/

namespace Sys2Proof.Machine
open R

/-! ### Ports and rings -/

theorem portStat_inj {p q : Nat} (h : p ≠ q) : NET_PORT_p_STAT p ≠ NET_PORT_p_STAT q := by
  simp only [NET_PORT_p_STAT]
  omega

theorem ringStat_ne_portStat (p : Nat) : NET_RING_STAT ≠ NET_PORT_p_STAT p := by
  simp only [NET_RING_STAT, NET_PORT_p_STAT]
  omega

/-- The ports of a ring. -/
theorem ring_ports {p : Nat} (hp : p < 4) :
    (2 * ringOf p = p ∧ 2 * ringOf p + 1 = otherPort p) ∨ (2 * ringOf p = otherPort p ∧ 2 * ringOf p + 1 = p) := by
  unfold ringOf otherPort
  split <;> omega

/-- The mark of unequal rates touches one bit of the two ports of the ring. -/
theorem setMismatch_beside (r p : Nat) (s : State) {f : Fld} (h : f.lo + f.w ≤ 2 ∨ 3 ≤ f.lo) :
    (setMismatch r s).fld (NET_PORT_p_STAT p) f = s.fld (NET_PORT_p_STAT p) f := by
  have hone (t : State) (q x : Nat) : (t.setFld (NET_PORT_p_STAT q) NET_PORT_p_STAT_RATE_MISMATCH x).fld (NET_PORT_p_STAT p) f =
      t.fld (NET_PORT_p_STAT p) f := by
    by_cases hq : p = q
    · subst hq
      exact fld_setFld_ne _ _ _ _ _ (by decide) (h.symm.imp id id)
    · exact fld_setFld_other _ _ _ _ _ _ (portStat_inj hq)
  exact (hone _ _ _).trans (hone _ _ _)

theorem setMismatch_reg (r : Nat) (s : State) {a : Nat} (h0 : a ≠ NET_PORT_p_STAT (2 * r)) (h1 : a ≠ NET_PORT_p_STAT (2 * r + 1)) :
    (setMismatch r s).reg a = s.reg a :=
  (reg_setFld_other _ _ _ _ _ h1).trans (reg_setFld_other _ _ _ _ _ h0)

/-! ### Holdover and isolation (R163, R183) -/

theorem enterHoldover_set (s : State) : (enterHoldover s).fld NET_PTP_STAT NET_PTP_STAT_HOLDOVER = 1 := by
  unfold enterHoldover
  split
  next h => exact (flag_eq_true_iff s _ rfl).1 h
  next =>
    refine (fld_of_reg_eq (reg_setReg_other _ _ _ _ (by decide)) _).trans ?_
    exact (fld_setFld_ne _ _ _ _ _ (by decide) (by decide)).trans (fld_setFld_of_lt _ _ _ _ (by decide) (by decide))

theorem enterHoldover_reg (s : State) {a : Nat} (h1 : a ≠ NET_PTP_STAT) (h2 : a ≠ NET_DCO_FREQ) :
    (enterHoldover s).reg a = s.reg a := by
  unfold enterHoldover
  split
  · rfl
  · exact (reg_setReg_other _ _ _ _ h2).trans ((reg_setFld_other _ _ _ _ _ h1).trans (reg_setFld_other _ _ _ _ _ h1))

theorem enterHoldover_fwd (s : State) : (enterHoldover s).net.fwd = s.net.fwd := by
  unfold enterHoldover
  split <;> rfl

theorem isolate_set (s : State) : (isolate s).fld NET_RING_STAT NET_RING_STAT_ISOLATED = 1 := by
  unfold isolate
  split
  next h => exact (flag_eq_true_iff s _ rfl).1 h
  next =>
    rw [fld_of_reg_eq (enterHoldover_reg _ (by decide) (by decide)), fld_setFld_ne _ _ _ _ _ (by decide) (by decide)]
    exact fld_setFld_of_lt _ _ _ _ (by decide) (by decide)

/-- Isolation touches its own two bits, and what holdover does. -/
theorem isolate_reg (s : State) {a : Nat} (h0 : a ≠ NET_RING_STAT) (h1 : a ≠ NET_PTP_STAT) (h2 : a ≠ NET_DCO_FREQ) :
    (isolate s).reg a = s.reg a := by
  unfold isolate
  split
  · rfl
  · exact (enterHoldover_reg _ h1 h2).trans ((reg_setFld_other _ _ _ _ _ h0).trans (reg_setFld_other _ _ _ _ _ h0))

theorem isolate_beside (s : State) {f : Fld} (h : f.lo + f.w ≤ 2) : (isolate s).fld NET_RING_STAT f = s.fld NET_RING_STAT f := by
  unfold isolate
  split
  · rfl
  · rw [fld_of_reg_eq (enterHoldover_reg _ (by decide) (by decide)),
      fld_setFld_ne _ _ _ _ _ (by decide) (.inr (Nat.le_succ_of_le h)), fld_setFld_ne _ _ _ _ _ (by decide) (.inr h)]

theorem isolate_fwd (s : State) : (isolate s).net.fwd = s.net.fwd := by
  unfold isolate
  split
  · rfl
  · exact enterHoldover_fwd _

theorem checkIsolation_reg (s : State) {a : Nat} (h0 : a ≠ NET_RING_STAT) (h1 : a ≠ NET_PTP_STAT) (h2 : a ≠ NET_DCO_FREQ) :
    (checkIsolation s).reg a = s.reg a := by
  unfold checkIsolation
  split
  · exact reg_setFld_other _ _ _ _ _ h0
  · split
    · exact isolate_reg s h0 h1 h2
    · rfl

theorem checkIsolation_beside (s : State) {f : Fld} (h : f.lo + f.w ≤ 2) :
    (checkIsolation s).fld NET_RING_STAT f = s.fld NET_RING_STAT f := by
  unfold checkIsolation
  split
  · exact fld_setFld_ne _ _ _ _ _ (by decide) (.inr h)
  · split
    · exact isolate_beside s h
    · rfl

theorem checkIsolation_fwd (s : State) : (checkIsolation s).net.fwd = s.net.fwd := by
  unfold checkIsolation
  split
  · rfl
  · split
    · exact isolate_fwd s
    · rfl

/-! ### Gate lists (R165) -/

theorem releaseHeld_eq (s : State) : ∃ a b, releaseHeld s = { s with net := { s.net with sent := a, held := b } } := by
  unfold releaseHeld
  split
  · exact ⟨s.net.sent, s.net.held, rfl⟩
  · exact ⟨_, _, rfl⟩

theorem releaseHeld_reg (s : State) (a : Nat) : (releaseHeld s).reg a = s.reg a := by
  obtain ⟨_, _, h⟩ := releaseHeld_eq s
  rw [h]
  rfl

theorem releaseHeld_mapNet_reg (s : State) (f : Net → Net) (a : Nat) : (releaseHeld (s.mapNet f)).reg a = s.reg a :=
  (releaseHeld_reg _ a).trans rfl

theorem releaseHeld_gcl (s : State) : (releaseHeld s).net.gcl = s.net.gcl := by
  obtain ⟨_, _, h⟩ := releaseHeld_eq s
  rw [h]

/-- Copying a list of registers to places apart from it. -/
theorem each_copy_reg {dst src : Nat → Nat} (hinj : ∀ i j, i ≠ j → dst i ≠ dst j) (hap : ∀ i j, i < 64 → j < 64 → src i ≠ dst j) {n : Nat}
    (hn : n ≤ 64) (s : State) :
    (∀ k, k < n → (s.each (List.range n) (fun s k => s.setReg (dst k) (s.reg (src k)))).reg (dst k) = s.reg (src k)) ∧
    (∀ a, (∀ k, k < n → a ≠ dst k) → (s.each (List.range n) (fun s k => s.setReg (dst k) (s.reg (src k)))).reg a = s.reg a) := by
  induction n with
  | zero => exact ⟨fun k hk => absurd hk (Nat.not_lt_zero k), fun _ _ => rfl⟩
  | succ n ih =>
    obtain ⟨ih1, ih2⟩ := ih (Nat.le_of_succ_le hn)
    rw [List.range_succ, each_append]
    generalize s.each (List.range n) _ = u at ih1 ih2 ⊢
    have hlast : u.each [n] (fun s k => s.setReg (dst k) (s.reg (src k))) = u.setReg (dst n) (u.reg (src n)) := rfl
    rw [hlast]
    refine ⟨fun k hk => ?_, fun a ha => ?_⟩
    · by_cases hkn : k = n
      · subst hkn
        rw [reg_setReg_same]
        exact ih2 _ fun j hj => hap k j (by omega) (by omega)
      · rw [reg_setReg_other _ _ _ _ (hinj k n hkn)]
        exact ih1 k (by omega)
    · rw [reg_setReg_other _ _ _ _ (ha n (Nat.lt_succ_self n))]
      exact ih2 a fun k hk => ha k (Nat.lt_succ_of_lt hk)

/-- A slope within ±100 ppm. -/
theorem sext_clampPpt (v : Word) : sext 32 (clampPpt v).toNat = max (-100000000) (min 100000000 (sext 32 v.toNat)) := by
  unfold clampPpt
  dsimp only
  split
  next h => 
    have h1 : sext 32 (100000000 : Word).toNat = 100000000 := by decide
    omega
  next h =>
    split
    next h2 =>
      have h1 : sext 32 (BitVec.ofInt 32 (-100000000)).toNat = -100000000 := by decide
      omega
    next h2 => omega

theorem gcl_ne (p : Nat) (_ : p < 4) (i j : Nat) (hi : i < 64) (hj : j < 64) : NET_GCL_p_k p i ≠ NET_GCLA_p_k p j := by
  simp only [NET_GCL_p_k, NET_GCLA_p_k]
  omega

theorem fieldsAt_NET_PORT_p_CBS_A (p : Fin 4) : fieldsAt (NET_PORT_p_CBS_A p) = [⟨0, 16, .rw⟩] := by
  revert p
  decide

theorem fieldsAt_NET_CTL : fieldsAt NET_CTL = [⟨0, 3, .rw⟩] := by decide

/-- R155, R160: what the loss of a link leaves. -/
theorem doLinkDown_linked {p : Nat} {s : State} (h : s.fld (NET_PORT_p_STAT p) NET_PORT_p_STAT_LINK = 1) :
    let u := setMismatch (ringOf p) (((s.setFld (NET_PORT_p_STAT p) NET_PORT_p_STAT_LINK 0).setFld (NET_PORT_p_STAT p)
      NET_PORT_p_STAT_LINK_LOST 1).setFld NET_RING_STAT (ringOpenFld (ringOf p)) 1)
    doLinkDown p s = checkIsolation (u.mapNet (fun n => { n with
      fwd := n.fwd.filter (fun o => o.port ≠ p), held := n.held.filter (fun o => o.port ≠ p) })) := by
  unfold doLinkDown
  rw [(flag_eq_true_iff s _ rfl).2 h]
  rfl

theorem ringOpenFld_low (r : Nat) : (ringOpenFld r).lo + (ringOpenFld r).w ≤ 2 := by
  unfold ringOpenFld
  split <;> decide

theorem gcla_inj (p i j : Nat) (h : i ≠ j) : NET_GCLA_p_k p i ≠ NET_GCLA_p_k p j := by
  simp only [NET_GCLA_p_k]
  omega

/-- The list that becomes active (R165). -/
def gclLoaded (p : Nat) (s : State) : State :=
  (s.setFld (NET_PORT_p_GCL_CTL p) NET_PORT_p_GCL_CTL_SWAP_REQ 0).each (List.range 64)
    (fun s k => s.setReg (NET_GCLA_p_k p k) (s.reg (NET_GCL_p_k p k)))

def gclHead (p : Nat) (s : State) : Gcl :=
  { len := s.fld (NET_PORT_p_GCL_CTL p) NET_PORT_p_GCL_CTL_LEN, cyc := (s.reg (NET_PORT_p_GCL_CYC p)).toNat, idx := 0, pos := 0 }

theorem gclLoaded_entry {p k : Nat} (hp : p < 4) (hk : k < 64) (s : State) :
    (gclLoaded p s).reg (NET_GCLA_p_k p k) = s.reg (NET_GCL_p_k p k) := by
  refine ((each_copy_reg (dst := NET_GCLA_p_k p) (src := NET_GCL_p_k p) (gcla_inj p)
    (gcl_ne p hp) (Nat.le_refl 64) _).1 k hk).trans (reg_setFld_other _ _ _ _ _ ?_)
  simp only [NET_GCL_p_k, NET_PORT_p_GCL_CTL]
  omega

theorem gclLoaded_other {p a : Nat} (hp : p < 4) (h : ∀ k, k < 64 → a ≠ NET_GCLA_p_k p k) (s : State) :
    (gclLoaded p s).reg a = (s.setFld (NET_PORT_p_GCL_CTL p) NET_PORT_p_GCL_CTL_SWAP_REQ 0).reg a :=
  (each_copy_reg (dst := NET_GCLA_p_k p) (src := NET_GCL_p_k p) (gcla_inj p)
    (gcl_ne p hp) (Nat.le_refl 64) _).2 a h

theorem doGclCycleStart_refused {p : Nat} {s : State} (hreq : s.fld (NET_PORT_p_GCL_CTL p) NET_PORT_p_GCL_CTL_SWAP_REQ = 1)
    (h : s.fld (NET_PORT_p_GCL_CTL p) NET_PORT_p_GCL_CTL_LEN = 0 ∨ (s.reg (NET_PORT_p_GCL_CYC p)).toNat < 1000) :
    doGclCycleStart p s = releaseHeld (firstGate p ((s.setFld (NET_PORT_p_GCL_CTL p) NET_PORT_p_GCL_CTL_SWAP_REQ 0).setFld
      (NET_PORT_p_STAT p) NET_PORT_p_STAT_GCL_RANGE 1)) := by
  unfold doGclCycleStart
  dsimp only
  rw [(flag_eq_true_iff s _ rfl).2 hreq]
  exact if_pos (h.imp id .inr)

theorem doGclCycleStart_loads {p : Nat} {s : State} (hreq : s.fld (NET_PORT_p_GCL_CTL p) NET_PORT_p_GCL_CTL_SWAP_REQ = 1)
    (h1 : 1 ≤ s.fld (NET_PORT_p_GCL_CTL p) NET_PORT_p_GCL_CTL_LEN) (h2 : s.fld (NET_PORT_p_GCL_CTL p) NET_PORT_p_GCL_CTL_LEN ≤ 64)
    (h3 : 1000 ≤ (s.reg (NET_PORT_p_GCL_CYC p)).toNat) :
    doGclCycleStart p s = releaseHeld ((gclLoaded p s).mapNet (fun x => { x with gcl := tput Gcl.reset x.gcl p (gclHead p s) })) := by
  unfold doGclCycleStart
  dsimp only
  rw [(flag_eq_true_iff s _ rfl).2 hreq]
  have hok : ¬ (s.fld (NET_PORT_p_GCL_CTL p) NET_PORT_p_GCL_CTL_LEN = 0 ∨ 64 < s.fld (NET_PORT_p_GCL_CTL p) NET_PORT_p_GCL_CTL_LEN ∨
    (s.reg (NET_PORT_p_GCL_CYC p)).toNat < 1000) := by omega
  exact if_neg hok

/-- Settles O35. -/
theorem networkCommandsComplete : Obligations.NetworkCommandsComplete := by
  intro p r s v src
  have hp := p.isLt
  refine ⟨fun h => ?_, fun h => ?_, rfl, fun h => Completes.of_eq rfl (if_pos h), ⟨_, rfl, enterHoldover_set s⟩, ⟨_, rfl, ?_, ?_⟩,
    fun h => Completes.of_eq rfl (if_pos h), fun h => ?_, rfl, fun hreq => ⟨fun h => ?_, fun h1 h2 h3 => ?_⟩, fun h hpos => ?_,
    fun h => ?_, fun h => ?_⟩
  · let u := s.setFld (NET_PORT_p_STAT p) NET_PORT_p_STAT_LINK 1
    have hdo : doLinkUp p s = setMismatch (ringOf p) u := if_neg h
    refine ⟨_, Completes.of_eq rfl hdo, ?_, rfl, fun a h0 h1 => ?_⟩
    · rw [setMismatch_beside _ _ _ (by decide)]
      exact fld_setFld_of_lt _ _ _ _ (by decide) (by decide)
    · have hring : a ≠ NET_PORT_p_STAT (2 * ringOf p) ∧ a ≠ NET_PORT_p_STAT (2 * ringOf p + 1) := by
        rcases ring_ports hp with ⟨e0, e1⟩ | ⟨e0, e1⟩
        · rw [e1, e0]
          exact ⟨h0, h1⟩
        · rw [e1, e0]
          exact ⟨h1, h0⟩
      exact (setMismatch_reg _ _ hring.1 hring.2).trans (reg_setFld_other _ _ _ _ _ h0)
  · let w := (s.setFld (NET_PORT_p_STAT p) NET_PORT_p_STAT_LINK 0).setFld (NET_PORT_p_STAT p) NET_PORT_p_STAT_LINK_LOST 1
    have hport (f : Fld) (hf : f.lo + f.w ≤ 2) :
        (doLinkDown p s).fld (NET_PORT_p_STAT p) f = w.fld (NET_PORT_p_STAT p) f := by
      rw [doLinkDown_linked h]
      refine (fld_of_reg_eq (checkIsolation_reg _ (ringStat_ne_portStat p).symm ?_ ?_) f).trans
        ((setMismatch_beside _ _ _ (.inl hf)).trans (fld_setFld_other _ _ _ _ _ _ (ringStat_ne_portStat p).symm))
      · simp only [NET_PORT_p_STAT, NET_PTP_STAT]; omega
      · simp only [NET_PORT_p_STAT, NET_DCO_FREQ]; omega
    refine ⟨_, rfl, ?_, ?_, ?_, ?_⟩
    · refine (hport _ (by decide)).trans ((fld_setFld_ne _ _ _ _ _ (by decide) (by decide)).trans ?_)
      exact fld_setFld_of_lt _ _ _ _ (by decide) (by decide)
    · exact (hport _ (by decide)).trans (fld_setFld_of_lt _ _ _ _ (by decide) (by decide))
    · rw [doLinkDown_linked h]
      refine (checkIsolation_beside _ (ringOpenFld_low _)).trans ?_
      refine (fld_of_reg_eq (setMismatch_reg _ _ (ringStat_ne_portStat _) (ringStat_ne_portStat _)) _).trans ?_
      have hlow := ringOpenFld_low (ringOf p)
      refine fld_setFld_of_lt _ _ _ _ (by omega) ?_
      unfold ringOpenFld
      split <;> decide
    · rw [doLinkDown_linked h, checkIsolation_fwd]
      intro o ho
      exact of_decide_eq_true (List.mem_filter.1 ho).2
  · exact (onlyRegs_refl [NET_DCO_FREQ] s).setReg (List.mem_singleton.2 rfl) _
  · rw [doDcoFreqWrite, reg_setReg_same, sext_clampPpt]
  · have hdo : doCbsWrite p true v s = s.writeByType (NET_PORT_p_CBS_A p) v := if_neg (Nat.not_lt.2 h)
    refine ⟨_, Completes.of_eq rfl hdo, (onlyRegs_refl _ s).writeByType (List.mem_singleton.2 rfl) v, ?_⟩
    exact fld_writeByType s _ v _ .rw (fieldsAt_NET_PORT_p_CBS_A p) (by decide) (by decide)
  · refine ⟨_, Completes.of_eq rfl (doGclCycleStart_refused hreq h), ?_, fun k => ?_⟩
    · exact (fld_of_reg_eq (releaseHeld_reg ..) _).trans (fld_setFld_of_lt _ _ _ _ (by decide) (by decide))
    · have hk := k.isLt
      refine (releaseHeld_reg ..).trans ((reg_setFld_other _ _ _ _ _ ?_).trans (reg_setFld_other _ _ _ _ _ ?_))
      · simp only [NET_GCLA_p_k, NET_PORT_p_STAT]; omega
      · simp only [NET_GCLA_p_k, NET_PORT_p_GCL_CTL]; omega
  · have hctl : (gclLoaded p s).reg (NET_PORT_p_GCL_CTL p) =
        (s.setFld (NET_PORT_p_GCL_CTL p) NET_PORT_p_GCL_CTL_SWAP_REQ 0).reg (NET_PORT_p_GCL_CTL p) := by
      refine gclLoaded_other hp (fun k _ => ?_) s
      simp only [NET_GCLA_p_k, NET_PORT_p_GCL_CTL]
      omega
    refine ⟨_, Completes.of_eq rfl (doGclCycleStart_loads hreq h1 h2 h3), ?_, fun k => ?_⟩
    · rw [fld_of_reg_eq (releaseHeld_mapNet_reg _ _ _), fld_of_reg_eq hctl]
      exact fld_setFld_of_lt _ _ _ _ (by decide) (by decide)
    · rw [releaseHeld_mapNet_reg, gclLoaded_entry hp k.isLt]
  · refine ⟨_, Completes.of_eq rfl (if_pos ⟨h, hpos⟩), ?_⟩
    rw [releaseHeld_gcl]
    have hg := tget_tput_same Gcl.reset s.net.gcl p
    simp only [State.mapNet, hg, and_self]
  · refine ⟨_, Completes.of_eq rfl (if_pos h), isolate_set s, fun h0 => ?_⟩
    have hdo : isolate s = enterHoldover ((s.setFld NET_RING_STAT NET_RING_STAT_ISOLATED 1).setFld NET_RING_STAT
        NET_RING_STAT_ISO_EVT 1) := if_neg (by rw [(flag_eq_false_iff ..).2 h0]; decide)
    rw [hdo]
    refine ⟨?_, enterHoldover_set _⟩
    rw [fld_of_reg_eq (enterHoldover_reg _ (by decide) (by decide))]
    exact fld_setFld_of_lt _ _ _ _ (by decide) (by decide)
  · let u := s.writeByType NET_CTL v
    have hbit (i : Nat) (hi : i < 2) : bits v.toNat i 1 = 0 := by
      have hb := bits_bits v.toNat 0 2 i 1 (by omega)
      rw [h] at hb
      rw [← Nat.zero_add i, ← hb]
      simp [bits]
    have ha : u.fld NET_CTL NET_CTL_RING_A_EN = 0 :=
      (fld_writeByType s _ v _ .rw fieldsAt_NET_CTL (by decide) (by decide)).trans (hbit 0 (by decide))
    have hb : u.fld NET_CTL NET_CTL_RING_B_EN = 0 :=
      (fld_writeByType s _ v _ .rw fieldsAt_NET_CTL (by decide) (by decide)).trans (hbit 1 (by decide))
    have hnone : anyRing u = false := by
      simp [anyRing, ringEn, (flag_eq_false_iff ..).2 ha, (flag_eq_false_iff ..).2 hb]
    have hdo : doRingEnableWrite v s = u.setFld NET_RING_STAT NET_RING_STAT_ISOLATED 0 := if_pos (by
      show (!anyRing u) = true
      rw [hnone]
      rfl)
    refine ⟨_, Completes.of_eq rfl hdo, ?_, ?_, fld_setFld_of_lt _ _ _ _ (by decide) (by decide)⟩
    · exact (fld_setFld_other _ _ _ _ _ _ (by decide)).trans ha
    · exact (fld_setFld_other _ _ _ _ _ _ (by decide)).trans hb

end Sys2Proof.Machine
end

section

/-! SUPPORT. Rows of the register table found by address, and the interrupt exchange: O50. -/

namespace Sys2Proof.Machine
open R

/-- The whole of a word. -/
theorem bits_word (v : Word) : bits v.toNat 0 32 = v.toNat := by
  have := v.isLt
  unfold bits
  omega

/-! ### Rows of the register table -/

section Rows
variable {b n st x a : Nat} {co : List Nat} {fs : List FieldRow} {rs : List RegRow}

/-- A row that ends before `a` is not the row of `a`. -/
theorem findRow_past (h : b + n * st ≤ a) (hst : 0 < st) : findRow (⟨b, [(n, st)], x, co, fs⟩ :: rs) a = findRow rs a := by
  have hlt : ¬ (a - b) / st < n := by
    rw [Nat.div_lt_iff_lt_mul hst]
    omega
  simp only [findRow, matchDims, if_neg hlt]
  exact ite_self _

theorem findRow_past_one (h : b < a) : findRow (⟨b, [], x, co, fs⟩ :: rs) a = findRow rs a := by
  simp only [findRow, matchDims, if_neg (show ¬ a - b = 0 by omega)]
  exact ite_self _

/-- A row whose places `a` lies between is not the row of `a`. -/
theorem findRow_between (h : (a - b) % st ≠ 0) : findRow (⟨b, [(n, st)], x, co, fs⟩ :: rs) a = findRow rs a := by
  simp only [findRow, matchDims, if_neg h, Option.map_none, ite_self]

theorem findRow_at {i : Nat} (h : i < n) (hst : 0 < st) :
    findRow (⟨b, [(n, st)], x, co, fs⟩ :: rs) (b + i * st) = some (⟨b, [(n, st)], x, co, fs⟩, [i]) := by
  simp [findRow, matchDims, h, Nat.mul_div_cancel _ hst]

end Rows

theorem fieldsAt_of_regRow {a : Nat} {r : RegRow} {ix : List Nat} (h : regRow a = some (r, ix)) : fieldsAt a = r.fields := by
  rw [fieldsAt, h]

theorem regRowsAt_IC {a : Nat} (h : 0x2000440000 ≤ a) (h' : a < 0x2000448000) : regRowsAt a = regRowsIC := by
  unfold regRowsAt
  repeat rw [if_neg (by omega)]
  exact if_pos h'

theorem fieldsAt_IC_SRC_s_CFG {n : Nat} (h : n < 1024) : fieldsAt (IC_SRC_s_CFG n) = [⟨0, 5, .rw⟩, ⟨8, 6, .rw⟩] := by
  refine fieldsAt_of_regRow (r := ⟨0x2000442000, [(1024, 0x4)], 0x0, [], [⟨0, 5, .rw⟩, ⟨8, 6, .rw⟩]⟩) (ix := [n]) ?_
  unfold regRow IC_SRC_s_CFG
  rw [regRowsAt_IC (by omega) (by omega)]
  unfold regRowsIC
  simp (disch := omega) only [findRow_past, findRow_past_one, findRow_at]

theorem fieldsAt_IC_SRC_s_MASK_LO {n : Nat} (h : n < 1024) : fieldsAt (IC_SRC_s_MASK_LO n) = [⟨0, 32, .rw⟩] := by
  refine fieldsAt_of_regRow (r := ⟨0x2000444000, [(1024, 0x8)], 0x0, [], [⟨0, 32, .rw⟩]⟩) (ix := [n]) ?_
  unfold regRow IC_SRC_s_MASK_LO
  rw [regRowsAt_IC (by omega) (by omega)]
  unfold regRowsIC
  simp (disch := omega) only [findRow_past, findRow_past_one, findRow_at]

/-! ### What a presentation does keeps every presentation -/

/-- A record of the black box changes registers, memory and the black box alone. -/
theorem nutmeg_eq (source code : Nat) (args : List Nat) (s : State) :
    ∃ r m b, nutmeg source code args s = { s with regs := r, mem := m, bb := b } := by
  have after (u : State) (q : Word) : ∃ r b, bbAfter code q u = { u with regs := r, bb := b } := by
    unfold bbAfter
    split
    · split
      · exact ⟨_, _, rfl⟩
      · exact ⟨_, _, rfl⟩
    · split
      · dsimp only
        split
        · exact ⟨_, u.bb, rfl⟩
        · exact ⟨_, _, rfl⟩
      · exact ⟨_, _, rfl⟩
  unfold nutmeg
  dsimp only
  split
  · unfold bbLose
    split
    · exact ⟨_, s.mem, s.bb, rfl⟩
    · exact ⟨_, s.mem, s.bb, rfl⟩
  · obtain ⟨r, b, h⟩ := after ((s.setBytes (bbSlot (s.reg BB_SEQ).toNat) (bbRecord s source code args)).setReg BB_SEQ
      (s.reg BB_SEQ + 1)) (s.reg BB_SEQ)
    rw [h, setBytes_rest]
    exact ⟨_, _, _, rfl⟩

theorem machineCheck_icPres (cause pc : Nat) (s : State) : (machineCheck cause pc s).icPres = s.icPres := by
  unfold machineCheck
  split
  · rfl
  · obtain ⟨_, _, _, h⟩ := nutmeg_eq 0x100 0x8002 [cause, pc]
      { (s.mapCtl (fun c => { c with mchk := cause })) with rstReq := s.rstReq ++ [6] }
    rw [h]
    rfl

theorem cloveEntry_icPres (s : State) : (cloveEntry s).icPres = s.icPres := by
  unfold cloveEntry cloveTrap
  dsimp only
  split
  · split
    · exact machineCheck_icPres ..
    · rfl
  · rfl

theorem boundary_icPres (p : Nat) (s : State) : (boundary p s).icPres = s.icPres := by
  have swap : (dispatchSwap p s).icPres = s.icPres := by
    unfold dispatchSwap
    split <;> rfl
  unfold boundary
  dsimp only
  split
  · rfl
  · split
    · rfl
    · split
      · rw [cloveEntry_icPres, swap]
      · exact swap

theorem cloveWake_icPres (s : State) : (cloveWake s).icPres = s.icPres := by
  unfold cloveWake
  split
  · rw [boundary_icPres]
    rfl
  · rfl

theorem inWait_icPres (n : Nat) (s : State) : (inWait n s).icPres = s.icPres := by
  have note (u : State) : (noteOpportunity n u).icPres = u.icPres := by
    unfold noteOpportunity
    dsimp only
    split <;> rfl
  have acc (w wait : Nat) (u : State) : (accept n w wait u).icPres = u.icPres := by
    unfold accept
    split <;> rfl
  unfold inWait
  dsimp only
  split
  · rfl
  · generalize hu : (if (s.core n).freezeReq = true then noteOpportunity n s
      else accept n (s.core n).cyc (s.core n).st (noteOpportunity n s)) = u
    have hk : u.icPres = s.icPres := by
      subst hu
      split
      · exact note s
      · rw [acc, note]
    split
    · exact hk
    · split <;> exact hk

theorem tileWake_icPres (n : Nat) (s : State) : (tileWake n s).icPres = s.icPres := by
  unfold tileWake
  dsimp only
  split
  · rfl
  · split <;> rfl

theorem msixSend_icPres (s : State) : (msixSend s).icPres = s.icPres := by
  unfold msixSend
  split
  · rfl
  · split
    · rfl
    · rw [State.setNum, setBytes_rest]

theorem presented_icPres (k : Nat) (s : State) : (presented k s).icPres = s.icPres := by
  have core (u : State) : (corePresented k u).icPres = u.icPres := by
    unfold corePresented
    dsimp only
    split
    · exact inWait_icPres ..
    · rfl
  unfold presented
  split
  · rw [core]
    split
    · exact tileWake_icPres ..
    · rfl
  · split
    · exact cloveWake_icPres s
    · exact msixSend_icPres s

theorem pres_of_icPres_eq {s t : State} (h : t.icPres = s.icPres) (k : Nat) : pres t k = pres s k := by
  unfold pres
  rw [h]

/-! ### Arbitration -/

/-- Of candidates in rising order, the one that no other beats wins. -/
theorem foldl_better_eq (s : State) {n : Nat} {l : List Nat} (hs : l.Pairwise (· < ·)) (hn : n ∈ l)
    (hbest : ∀ m ∈ l, srcPrio s m < srcPrio s n ∨ (srcPrio s m = srcPrio s n ∧ n ≤ m)) {a : Option Nat}
    (ha : ∀ m ∈ a, srcPrio s m < srcPrio s n) : l.foldl (better s) a = some n := by
  have stays (l : List Nat) (h : ∀ m ∈ l, srcPrio s m ≤ srcPrio s n) : l.foldl (better s) (some n) = some n := by
    induction l with
    | nil => rfl
    | cons m l ih =>
      have hm : better s (some n) m = some n := if_neg (Nat.not_lt.2 (h m (List.mem_cons_self ..)))
      rw [List.foldl_cons, hm]
      exact ih fun x hx => h x (List.mem_cons_of_mem _ hx)
  induction l generalizing a with
  | nil => cases hn
  | cons m l ih =>
    rw [List.foldl_cons]
    rcases List.mem_cons.1 hn with rfl | hn'
    · have hw : better s a n = some n := by
        cases a with
        | none => rfl
        | some x => exact if_pos (ha x rfl)
      rw [hw]
      refine stays l fun x hx => ?_
      rcases hbest x (List.mem_cons_of_mem _ hx) with h | h
      · exact h.le
      · exact h.1.le
    · have hlt : m < n := List.rel_of_pairwise_cons hs hn'
      have hm : srcPrio s m < srcPrio s n := by
        rcases hbest m (List.mem_cons_self ..) with h | h
        · exact h
        · omega
      refine ih hs.of_cons hn' (fun x hx => hbest x (List.mem_cons_of_mem _ hx)) fun x hx => ?_
      cases a with
      | none =>
        cases hx
        exact hm
      | some y =>
        have hy := ha y rfl
        unfold better at hx
        dsimp only at hx
        split at hx
        · cases hx
          exact hm
        · cases hx
          exact hy

theorem enabledSources_eq (s : State) : enabledSources s = (List.range 1024).filter (srcEnabled s) := by
  have hw (i : Nat) : (if s.reg (IC_EN_SET_i i) = 0 then [] else ((List.range 32).map (32 * i + ·)).filter (srcEnabled s)) =
      ((List.range 32).map (32 * i + ·)).filter (srcEnabled s) := by
    split
    next h =>
      refine (List.filter_eq_nil_iff.2 fun x hx => ?_).symm
      obtain ⟨j, hj, rfl⟩ := List.mem_map.1 hx
      have hd : (32 * i + j) / 32 = i := by have := List.mem_range.1 hj; omega
      rw [srcEnabled, srcBit, hd, h]
      simp [bits]
    next => rfl
  have hr : List.range 1024 = (List.range 32).flatMap (fun i => (List.range 32).map (32 * i + ·)) := by decide +kernel
  unfold enabledSources
  rw [hr, List.filter_flatMap]
  exact congrArg (fun f => List.flatMap f _) (funext hw)

theorem candidate_facts {s : State} {k n : Nat} (h : candidate s k n = true) : n < 1023 ∧ srcEnabled s n = true := by
  unfold candidate srcPending usable at h
  simp only [Bool.and_eq_true, decide_eq_true_eq] at h
  obtain ⟨⟨⟨⟨⟨⟨he, -⟩, ⟨⟨-, hu⟩, -⟩⟩, -⟩, -⟩, -⟩, -⟩ := h
  exact ⟨hu, he⟩

theorem winner_eq {s : State} {k n : Nat} (hn : candidate s k n = true)
    (hbest : ∀ m, candidate s k m = true → srcPrio s m < srcPrio s n ∨ (srcPrio s m = srcPrio s n ∧ n ≤ m)) :
    winner s k = some n := by
  unfold winner
  rw [enabledSources_eq]
  obtain ⟨hlt, he⟩ := candidate_facts hn
  refine foldl_better_eq s ?_ ?_ (fun m hm => hbest m (List.mem_filter.1 hm).2) nofun
  · exact ((List.pairwise_lt_range).filter _).filter _
  · exact List.mem_filter.2 ⟨List.mem_filter.2 ⟨List.mem_range.2 (by omega), he⟩, hn⟩

theorem winner_eq_none {s : State} {k : Nat} (h : ∀ n, candidate s k n = false) : winner s k = none := by
  unfold winner
  rw [List.filter_eq_nil_iff.2 fun n _ => by simp [h n]]
  rfl

theorem doInterruptPresent_keeps {k : Nat} {s : State} (h : arbitrate s k = pres s k) : doInterruptPresent k s = s := if_pos h

theorem doInterruptPresent_takes {k n : Nat} {s : State} (h : arbitrate s k = n) (hn : n ≠ pres s k) :
    (doInterruptPresent k s).icPres = tput 0 s.icPres k n := by
  unfold doInterruptPresent
  dsimp only
  rw [h, if_neg hn, presented_icPres]
  rfl

/-! ### One bit per source -/

theorem srcBit_eq (s : State) (w : Nat → Nat) (n : Nat) : srcBit s w n = (s.reg (w (n / 32))).getLsbD (n % 32) := by
  rw [srcBit, bits_one_eq_testBit, BitVec.testBit_toNat]
  cases (s.reg (w (n / 32))).getLsbD (n % 32) <;> rfl

theorem srcBit_of_reg_eq {s t : State} {w : Nat → Nat} {n : Nat} (h : t.reg (w (n / 32)) = s.reg (w (n / 32))) :
    srcBit t w n = srcBit s w n := by
  rw [srcBit, h, srcBit]

theorem setSrcBit_reg_other (s : State) (w : Nat → Nat) (n : Nat) (b : Bool) {a : Nat} (h : a ≠ w (n / 32)) :
    (setSrcBit s w n b).reg a = s.reg a := reg_setReg_other _ _ _ _ h

theorem bits_setSrcBit (s : State) (w : Nat → Nat) (n : Nat) (b : Bool) (j : Nat) :
    bits ((setSrcBit s w n b).reg (w (n / 32))).toNat j 1 =
      if j = n % 32 then b2n b else bits (s.reg (w (n / 32))).toNat j 1 := by
  have hlt : setBits (s.reg (w (n / 32))).toNat (n % 32) 1 (b2n b) < 2 ^ 32 :=
    setBits_lt _ _ _ _ 32 (s.reg _).isLt (by omega)
  rw [setSrcBit, reg_setReg_same, BitVec.toNat_ofNat, Nat.mod_eq_of_lt hlt, bits_setBits_one]
  by_cases h : j = n % 32
  · rw [if_pos h, if_pos (by omega), h, Nat.sub_self]
    cases b <;> rfl
  · rw [if_neg h, if_neg (by omega)]

theorem srcBit_setSrcBit_same (s : State) (w : Nat → Nat) (n : Nat) (b : Bool) : srcBit (setSrcBit s w n b) w n = b := by
  rw [srcBit, bits_setSrcBit, if_pos rfl]
  cases b <;> rfl

theorem srcBit_setSrcBit_ne (s : State) {w : Nat → Nat} (hw : ∀ i j, i ≠ j → w i ≠ w j) {n m : Nat} (b : Bool) (h : m ≠ n) :
    srcBit (setSrcBit s w n b) w m = srcBit s w m := by
  by_cases hi : m / 32 = n / 32
  · rw [srcBit, hi, bits_setSrcBit, if_neg (by omega), srcBit, hi]
  · exact srcBit_of_reg_eq (setSrcBit_reg_other _ _ _ _ (hw _ _ hi))

/-- R281: bit `j` of word `i` names a usable source. -/
theorem usableMask_bit (i j : Fin 32) : (usableMask i).getLsbD j = usable (32 * i.val + j.val) := by
  have hi := i.isLt
  have hj := j.isLt
  unfold usableMask
  split
  next h =>
    rw [h]
    revert j
    decide
  next h0 =>
    split
    next h =>
      rw [h]
      revert j
      decide
    next h31 =>
      have hu : usable (32 * i.val + j.val) = true := by
        unfold usable
        simp only [Bool.and_eq_true, decide_eq_true_eq]
        omega
      rw [hu]
      clear hu hj
      revert j
      decide

theorem srcBit_word (s : State) (w : Nat → Nat) (i j : Fin 32) :
    srcBit s w (32 * i.val + j.val) = (s.reg (w i)).getLsbD j := by
  have h1 : (32 * i.val + j.val) / 32 = i := by omega
  have h2 : (32 * i.val + j.val) % 32 = j := by omega
  rw [srcBit_eq, h1, h2]

theorem bits_one_eq_one_iff (v : Word) (j : Nat) : bits v.toNat j 1 = 1 ↔ v.getLsbD j = true := by
  rw [bits_one_eq_testBit, BitVec.testBit_toNat]
  cases v.getLsbD j <;> decide

/-- R285: a word written to a set address. -/
theorem srcBit_orWord (s : State) (w : Nat → Nat) (i j : Fin 32) (v : Word) :
    srcBit (s.setReg (w i) (s.reg (w i) ||| (v &&& usableMask i))) w (32 * i.val + j.val) = true ↔
      srcBit s w (32 * i.val + j.val) = true ∨ (bits v.toNat j 1 = 1 ∧ usable (32 * i.val + j.val) = true) := by
  rw [srcBit_word, srcBit_word, reg_setReg_same, bits_one_eq_one_iff, ← usableMask_bit]
  simp

/-- R285: a word written to a clear address. -/
theorem srcBit_andWord (s : State) (w : Nat → Nat) (i j : Fin 32) (v : Word) :
    srcBit (s.setReg (w i) (s.reg (w i) &&& ~~~v)) w (32 * i.val + j.val) = true ↔
      srcBit s w (32 * i.val + j.val) = true ∧ ¬ bits v.toNat j 1 = 1 := by
  rw [srcBit_word, srcBit_word, reg_setReg_same, bits_one_eq_one_iff]
  simp

/-! ### Claims and completions -/

theorem pres_setPres_same (s : State) (k p : Nat) : pres (setPres s k p) k = p := tget_tput_same ..

theorem servWord_inj (i j : Nat) (h : i ≠ j) : IC_SERV_i i ≠ IC_SERV_i j := by
  simp only [IC_SERV_i]
  omega

theorem doClaim_nothing {k : Nat} {s : State} (h : pres s k = 0) :
    doClaim k s = { s with dev := { s.dev with lastRead := 0 } } := by
  rw [doClaim, readClaim, claimValue, claim, h, if_pos rfl]
  rfl

theorem doClaim_withdrawn {k : Nat} {s : State} (h : pres s k = 1023) :
    doClaim k s = (setPres s k 0).mapDev (fun d => { d with lastRead := 1023 }) := by
  rw [doClaim, readClaim, claimValue, claim, h, if_neg (by decide), if_pos rfl]
  rfl

/-- The state with source `p` taken by target `k` (R291). -/
def taken (k p : Nat) (s : State) : State :=
  let s1 := setSrcBit (setSrcBit s IC_PEND_SET_i p false) IC_SERV_i p true
  { s1 with icStack := tput [] s1.icStack k ((p, srcPrio s p) :: icStackOf s k) }

/-- The hold-off timer of the source's group starts, where it has one (R297). -/
def heldOff (p : Nat) (s t : State) : State :=
  let a := IC_GRP_g_HOLD (srcGroup s p)
  if s.fld a IC_GRP_g_HOLD_US = 0 then t else t.setFld a IC_GRP_g_HOLD_RUN 1

theorem doClaim_takes {k p : Nat} {s : State} (h : pres s k = p) (hu : usable p = true) :
    doClaim k s = (setPres (heldOff p s (taken k p s)) k 0).mapDev (fun d => { d with lastRead := BitVec.ofNat 32 p }) := by
  unfold usable at hu
  simp only [Bool.and_eq_true, decide_eq_true_eq] at hu
  rw [doClaim, readClaim, claimValue, claim, h]
  dsimp only
  rw [if_neg (by omega), if_neg (by omega)]
  rfl

theorem heldOff_reg_other (p : Nat) (s t : State) {a : Nat} (h : a ≠ IC_GRP_g_HOLD (srcGroup s p)) :
    (heldOff p s t).reg a = t.reg a := by
  unfold heldOff
  dsimp only
  split
  · rfl
  · exact reg_setFld_other _ _ _ _ _ h

theorem heldOff_icStack (p : Nat) (s t : State) : (heldOff p s t).icStack = t.icStack := by
  unfold heldOff
  dsimp only
  split <;> rfl

theorem holdWord_ne_serv (s : State) (n i : Nat) (hi : i < 32) : IC_SERV_i i ≠ IC_GRP_g_HOLD (srcGroup s n) := by
  simp only [IC_SERV_i, IC_GRP_g_HOLD]
  omega

theorem holdWord_ne_pend (s : State) (n i : Nat) (hi : i < 32) : IC_PEND_SET_i i ≠ IC_GRP_g_HOLD (srcGroup s n) := by
  simp only [IC_PEND_SET_i, IC_GRP_g_HOLD]
  omega

/-- The service bits after a claim of `p`. -/
theorem taken_service (k p : Nat) (s : State) (hp : p < 1024) {m : Nat} (hm : m < 1024) :
    inService (heldOff p s (taken k p s)) m = if m = p then true else inService s m := by
  have h1 : inService (heldOff p s (taken k p s)) m = inService (setSrcBit (setSrcBit s IC_PEND_SET_i p false) IC_SERV_i p true) m :=
    srcBit_of_reg_eq (heldOff_reg_other _ _ _ (holdWord_ne_serv s p _ (by omega)))
  rw [h1]
  split
  next h =>
    rw [h]
    exact srcBit_setSrcBit_same ..
  next h =>
    refine (srcBit_setSrcBit_ne _ servWord_inj _ h).trans (srcBit_of_reg_eq (setSrcBit_reg_other _ _ _ _ ?_))
    simp only [IC_SERV_i, IC_PEND_SET_i]
    omega

theorem taken_pending (k p : Nat) (s : State) (hp : p < 1024) : srcBit (heldOff p s (taken k p s)) IC_PEND_SET_i p = false := by
  have h1 : srcBit (heldOff p s (taken k p s)) IC_PEND_SET_i p =
      srcBit (setSrcBit (setSrcBit s IC_PEND_SET_i p false) IC_SERV_i p true) IC_PEND_SET_i p :=
    srcBit_of_reg_eq (heldOff_reg_other _ _ _ (holdWord_ne_pend s p _ (by omega)))
  refine (h1.trans (srcBit_of_reg_eq (setSrcBit_reg_other _ _ _ _ ?_))).trans (srcBit_setSrcBit_same ..)
  simp only [IC_SERV_i, IC_PEND_SET_i]
  omega

theorem heldOff_runs (p : Nat) (s t : State) (h : s.fld (IC_GRP_g_HOLD (srcGroup s p)) IC_GRP_g_HOLD_US ≠ 0) :
    (heldOff p s t).fld (IC_GRP_g_HOLD (srcGroup s p)) IC_GRP_g_HOLD_RUN = 1 := by
  unfold heldOff
  dsimp only
  rw [if_neg h]
  exact fld_setFld_of_lt _ _ _ _ (by decide) (by decide)

/-- R293: a completion of the top source. -/
theorem complete_top {k n x : Nat} {l : List (Nat × Nat)} {s : State} (h : icStackOf s k = (n, x) :: l) :
    ∃ nv, complete k n s = { setSrcBit { s with icStack := tput [] s.icStack k l } IC_SERV_i n false with nvPosted := nv } := by
  unfold complete
  rw [h]
  dsimp only
  rw [if_pos rfl]
  split
  · exact ⟨_, rfl⟩
  · exact ⟨s.nvPosted, rfl⟩

/-- The record of a refused completion (R294): the first one stays. -/
def refusedComplete (k n top : Nat) (s : State) : State :=
  if s.flag IC_FAULT IC_FAULT_VALID then s
  else ((((s.setFld IC_FAULT IC_FAULT_TARGET k).setFld IC_FAULT IC_FAULT_VALID 1).setFld
    IC_FAULT_NUM IC_FAULT_NUM_WRITTEN n).setFld IC_FAULT_NUM IC_FAULT_NUM_TOP top)

/-- R293: any other completion. -/
theorem complete_refused {k n : Nat} {s : State} (h : topSource s k ≠ n ∨ icStackOf s k = []) :
    complete k n s = refusedComplete k n (topSource s k) s := by
  unfold complete topSource at *
  cases hs : icStackOf s k with
  | nil => rfl
  | cons e l =>
    rw [hs] at h
    have hne : e.1 ≠ n := h.resolve_right nofun
    dsimp only
    rw [if_neg hne]
    rfl

theorem refusedComplete_icStack (k n top : Nat) (s : State) : (refusedComplete k n top s).icStack = s.icStack := by
  unfold refusedComplete
  split <;> rfl

theorem refusedComplete_reg_other (k n top : Nat) (s : State) {a : Nat} (h1 : a ≠ IC_FAULT) (h2 : a ≠ IC_FAULT_NUM) :
    (refusedComplete k n top s).reg a = s.reg a := by
  unfold refusedComplete
  split
  · rfl
  · simp only [reg_setFld_other _ _ _ _ _ h1, reg_setFld_other _ _ _ _ _ h2]

theorem refusedComplete_kept {s : State} (k n top : Nat) (h : s.fld IC_FAULT IC_FAULT_VALID = 1) :
    refusedComplete k n top s = s := if_pos (flag_eq_true_of_fld_eq_one _ _ _ h)

theorem refusedComplete_first {s : State} {k n : Nat} (top : Nat) (hk : k < 64) (hn : n < 1024) (h : s.fld IC_FAULT IC_FAULT_VALID = 0) :
    let t := refusedComplete k n top s
    t.fld IC_FAULT IC_FAULT_VALID = 1 ∧ t.fld IC_FAULT IC_FAULT_TARGET = k ∧ t.fld IC_FAULT_NUM IC_FAULT_NUM_WRITTEN = n ∧
      t.fld IC_FAULT_NUM IC_FAULT_NUM_TOP = top % 1024 := by
  have hdo : refusedComplete k n top s = ((((s.setFld IC_FAULT IC_FAULT_TARGET k).setFld IC_FAULT IC_FAULT_VALID 1).setFld
      IC_FAULT_NUM IC_FAULT_NUM_WRITTEN n).setFld IC_FAULT_NUM IC_FAULT_NUM_TOP top) :=
    if_neg (by rw [(flag_eq_false_iff ..).2 h]; decide)
  have apart (f : Fld) : (refusedComplete k n top s).fld IC_FAULT f =
      ((s.setFld IC_FAULT IC_FAULT_TARGET k).setFld IC_FAULT IC_FAULT_VALID 1).fld IC_FAULT f := by
    rw [hdo, fld_setFld_other _ _ _ _ _ _ (by decide), fld_setFld_other _ _ _ _ _ _ (by decide)]
  refine ⟨?_, ?_, ?_, ?_⟩
  · rw [apart]
    exact fld_setFld_of_lt _ _ _ _ (by decide) (by decide)
  · rw [apart, fld_setFld_ne _ _ _ _ _ (by decide) (by decide)]
    exact fld_setFld_of_lt _ _ _ _ (by decide) hk
  · rw [hdo, fld_setFld_ne _ _ _ _ _ (by decide) (by decide)]
    exact fld_setFld_of_lt _ _ _ _ (by decide) hn
  · rw [hdo]
    exact fld_setFld_same _ _ _ _ (by decide)

theorem doComplete_eq (k : Nat) (n : Fin 1024) (s : State) :
    doComplete k n s = complete k n (s.writeByType (IC_T_k_COMPLETE k) (BitVec.ofNat 32 n)) := by
  have h : wf (BitVec.ofNat 32 n.val) IC_T_k_COMPLETE_SRC = n := by
    unfold wf IC_T_k_COMPLETE_SRC bits
    have := n.isLt
    simp only [BitVec.toNat_ofNat]
    omega
  rw [doComplete, writeComplete, h]

/-! ### Configuration and edges -/

theorem writeSrcMask_protected {n : Nat} (h : n = 0 ∨ n = 1 ∨ n = 1023) (hi : Bool) (v : Word) (s : State) :
    writeSrcMask n hi v s = s := by
  rcases h with rfl | rfl | rfl <;> rfl

/-- The edge that the polarity field selects (R298). -/
def edgeTaken (pol : Nat) (rising : Bool) : Bool := (pol = 0 && rising) || (pol = 1 && !rising) || pol = 2

theorem latchEdge_other {e : Nat} {rising : Bool} {s : State}
    (h : edgeTaken (s.fld (IC_EDGE_e_CFG e) IC_EDGE_e_CFG_POL) rising = false) : latchEdge e rising s = s :=
  if_neg (by rw [edgeTaken] at h; rw [h]; decide)

theorem latchEdge_taken {e : Nat} {rising : Bool} {s : State}
    (h : edgeTaken (s.fld (IC_EDGE_e_CFG e) IC_EDGE_e_CFG_POL) rising = true) :
    latchEdge e rising s = let s1 := if srcWake s (549 + e) then wakeRequest s else s
      if s.phase = 0 then s1.setFld (IC_EDGE_e_CFG e) IC_EDGE_e_CFG_LATCH 1 else raiseEvent s1 (549 + e) :=
  if_pos (by rw [edgeTaken] at h; exact h)

theorem latchEdge_sets {e : Fin 48} {rising : Bool} {s : State}
    (h : edgeTaken (s.fld (IC_EDGE_e_CFG e) IC_EDGE_e_CFG_POL) rising = true) :
    (s.phase ≠ 0 → srcBit (latchEdge e rising s) IC_PEND_SET_i (549 + e.val) = true) ∧
    (s.phase = 0 → (latchEdge e rising s).fld (IC_EDGE_e_CFG e) IC_EDGE_e_CFG_LATCH = 1) := by
  have he := e.isLt
  have hu : usable (549 + e.val) = true := by
    unfold usable
    simp only [Bool.and_eq_true, decide_eq_true_eq]
    omega
  rw [latchEdge_taken h]
  dsimp only
  refine ⟨fun h => ?_, fun h => ?_⟩
  · rw [if_neg h, raiseEvent, if_pos hu]
    exact srcBit_setSrcBit_same ..
  · rw [if_pos h]
    exact fld_setFld_of_lt _ _ _ _ (by decide) (by decide)

/-- R289: the candidate that nothing beats is presented, or what is held stays. -/
theorem completes_interruptPresent (k : Fin 50) (s : State) {n : Nat} (hn : candidate s k n = true)
    (hbest : ∀ m, candidate s k m = true → srcPrio s m < srcPrio s n ∨ (srcPrio s m = srcPrio s n ∧ n ≤ m)) :
    (pres s k = 0 ∨ (pres s k ≠ 1023 ∧ srcPrio s (pres s k) < srcPrio s n) →
      ∃ t, Completes (.interruptPresent k) s t ∧ pres t k = n ∧ ∀ j, j ≠ k.val → pres t j = pres s j) ∧
    (pres s k ≠ 0 → srcPrio s n ≤ srcPrio s (pres s k) → Completes (.interruptPresent k) s s) := by
  have hw := winner_eq hn hbest
  refine ⟨fun h => ?_, fun h h' => ?_⟩
  · have harb : arbitrate s k = n := by
      unfold arbitrate
      rw [hw]
      rcases h with h | ⟨h, h'⟩
      · simp only [h]
        rfl
      · simp only [if_neg h, h', decide_true, Bool.or_true, if_true]
    have hne : n ≠ pres s k := by
      rcases h with h | ⟨-, h'⟩
      · rw [h]
        rintro rfl
        unfold candidate srcPending at hn
        simp [usable] at hn
      · rintro rfl
        exact absurd h' (lt_irrefl _)
    have ht := doInterruptPresent_takes harb hne
    refine ⟨_, rfl, ?_, fun j hj => ?_⟩
    · unfold pres
      rw [ht]
      exact tget_tput_same ..
    · unfold pres
      rw [ht]
      exact tget_tput_other _ _ _ _ _ _ hj
  · refine Completes.of_eq rfl (doInterruptPresent_keeps ?_)
    unfold arbitrate
    rw [hw]
    split
    next h1 => exact h1.symm
    next => exact if_neg (by simp [h, Nat.not_lt.2 h'])

/-- Settles O50. -/
theorem interruptCommandsComplete : Obligations.InterruptCommandsComplete := by
  intro k n i g e v s
  have hn := n.isLt
  refine ⟨fun m hm hbest => completes_interruptPresent k s hm hbest, fun h => ?_, fun h => Completes.of_eq rfl (doClaim_nothing h),
    fun h => ?_, fun hu => ?_, fun x l h => ?_, fun h => ?_, fun j => ⟨?_, ?_, ?_, ?_⟩, fun hu => ?_, fun hu h1 => ?_, fun h => ⟨?_, ?_⟩,
    rfl, fun rising => ⟨fun h => ?_, fun h => ?_⟩⟩
  · refine Completes.of_eq rfl (doInterruptPresent_keeps ?_)
    unfold arbitrate
    rcases h with h | h
    · exact (if_pos h).trans h.symm
    · rw [winner_eq_none h]
      split
      next h => exact h.symm
      next => rfl
  · exact ⟨_, Completes.of_eq rfl (doClaim_withdrawn h), rfl, pres_setPres_same .., rfl, rfl⟩
  · have hp : pres s k < 1023 := by
      unfold usable at hu
      simp only [Bool.and_eq_true, decide_eq_true_eq] at hu
      exact hu.2
    have hstack (j : Nat) : icStackOf (heldOff (pres s k) s (taken k (pres s k) s)) j =
        tget [] (tput [] s.icStack k ((pres s k, srcPrio s (pres s k)) :: icStackOf s k)) j :=
      congrArg (tget [] · j) (heldOff_icStack ..)
    refine ⟨_, Completes.of_eq rfl (doClaim_takes rfl hu), rfl, pres_setPres_same .., ?_, taken_pending _ _ _ (by omega), ?_,
      heldOff_runs _ _ _, fun j hj => ?_, fun m hm hlt => ?_⟩
    · exact (taken_service _ _ _ (by omega) (by omega)).trans (if_pos rfl)
    · exact (hstack k).trans (tget_tput_same ..)
    · exact (hstack j).trans (tget_tput_other _ _ _ _ _ _ hj)
    · exact (taken_service _ _ _ (by omega) hlt).trans (if_neg hm)
  · have hs : icStackOf (s.writeByType (IC_T_k_COMPLETE k) (BitVec.ofNat 32 n)) k = (n.val, x) :: l := by
      rw [writeByType_rest]
      exact h
    obtain ⟨nv, hdo⟩ := complete_top hs
    refine ⟨_, Completes.of_eq rfl ((doComplete_eq k n s).trans hdo), tget_tput_same .., srcBit_setSrcBit_same .., fun j hj => ?_, ?_⟩
    · refine (tget_tput_other _ _ _ _ _ _ hj).trans ?_
      rw [writeByType_rest]
      rfl
    · refine (setSrcBit_reg_other _ _ _ _ ?_).trans (reg_writeByType_other _ _ _ _ ?_)
      · simp only [IC_FAULT, IC_SERV_i]; omega
      · simp only [IC_FAULT, IC_T_k_COMPLETE]; omega
  · generalize hw : s.writeByType (IC_T_k_COMPLETE k) (BitVec.ofNat 32 n) = w
    have hwi : w.icStack = s.icStack := by rw [← hw, writeByType_rest]
    have hwr {a : Nat} (ha : a ≠ IC_T_k_COMPLETE k) : w.reg a = s.reg a := by rw [← hw, reg_writeByType_other _ _ _ _ ha]
    have hst : icStackOf w k = icStackOf s k := congrArg (tget [] · k.val) hwi
    have htop : topSource w k = topSource s k := by rw [topSource, hst, topSource]
    have hF : w.reg IC_FAULT = s.reg IC_FAULT := hwr (by simp only [IC_FAULT, IC_T_k_COMPLETE]; omega)
    have hN : w.reg IC_FAULT_NUM = s.reg IC_FAULT_NUM := hwr (by simp only [IC_FAULT_NUM, IC_T_k_COMPLETE]; omega)
    have hdo : doComplete k n s = refusedComplete k n (topSource s k) w := by
      rw [doComplete_eq, hw, complete_refused (by rw [htop, hst]; exact h), htop]
    have hV : w.fld IC_FAULT IC_FAULT_VALID = s.fld IC_FAULT IC_FAULT_VALID := fld_of_reg_eq hF _
    have hk : k.val < 64 := by omega
    refine ⟨_, Completes.of_eq rfl hdo, (refusedComplete_icStack ..).trans hwi, fun m hm => ?_, ?_, fun h0 => ?_, fun h1 => ?_⟩
    · refine srcBit_of_reg_eq ((refusedComplete_reg_other _ _ _ _ ?_ ?_).trans (hwr ?_))
      · simp only [IC_FAULT, IC_SERV_i]; omega
      · simp only [IC_FAULT_NUM, IC_SERV_i]; omega
      · simp only [IC_T_k_COMPLETE, IC_SERV_i]; omega
    · have hlt := fld_lt w IC_FAULT IC_FAULT_VALID
      rcases Nat.eq_zero_or_pos (w.fld IC_FAULT IC_FAULT_VALID) with h0 | h1
      · exact (refusedComplete_first _ hk hn h0).1
      · have h1' : w.fld IC_FAULT IC_FAULT_VALID = 1 := by
          have : IC_FAULT_VALID.w = 1 := rfl
          rw [this] at hlt
          omega
        rw [refusedComplete_kept _ _ _ h1', h1']
    · exact (refusedComplete_first _ hk hn (hV.trans h0)).2
    · rw [refusedComplete_kept _ _ _ (hV.trans h1)]
      exact ⟨hF, hN⟩
  · exact ⟨_, rfl, (onlyRegs_refl _ s).setReg (List.mem_singleton.2 rfl) _, srcBit_orWord s _ i j v⟩
  · exact ⟨_, rfl, (onlyRegs_refl _ s).setReg (List.mem_singleton.2 rfl) _, srcBit_andWord s _ i j v⟩
  · exact ⟨_, rfl, (onlyRegs_refl _ s).setReg (List.mem_singleton.2 rfl) _, srcBit_orWord s _ i j v⟩
  · exact ⟨_, rfl, (onlyRegs_refl _ s).setReg (List.mem_singleton.2 rfl) _, srcBit_andWord s _ i j v⟩
  · have hfs := fieldsAt_IC_SRC_s_CFG hn
    have hw := (onlyRegs_refl [IC_SRC_s_CFG n] s).writeByType (List.mem_singleton.2 rfl) v
    have hg : (s.writeByType (IC_SRC_s_CFG n) v).fld (IC_SRC_s_CFG n) IC_SRC_s_CFG_GROUP = bits v.toNat 8 6 :=
      fld_writeByType s _ v _ .rw hfs (by decide) (by decide)
    have hwake : (s.writeByType (IC_SRC_s_CFG n) v).fld (IC_SRC_s_CFG n) IC_SRC_s_CFG_WAKE = bits v.toNat 4 1 :=
      fld_writeByType s _ v _ .rw hfs (by decide) (by decide)
    have hprio : (s.writeByType (IC_SRC_s_CFG n) v).fld (IC_SRC_s_CFG n) IC_SRC_s_CFG_PRIO = bits v.toNat 0 4 :=
      fld_writeByType s _ v _ .rw hfs (by decide) (by decide)
    by_cases h1 : n.val = 1 ∧ bits v.toNat 0 4 = 0
    · have hdo : writeSrc n 0 v s =
          (s.writeByType (IC_SRC_s_CFG n) v).setFld (IC_SRC_s_CFG n) IC_SRC_s_CFG_PRIO (srcPrio s n) := by
        unfold writeSrc writeSrcCfg
        rw [if_pos rfl, if_neg (by rw [hu]; decide), if_pos h1]
      refine ⟨_, Completes.of_eq rfl hdo, hw.setFld (List.mem_singleton.2 rfl) _ _, ?_, ?_, ?_⟩
      · exact (fld_setFld_ne _ _ _ _ _ (by decide) (by decide)).trans hg
      · rw [srcWake, flag_eq_true_iff _ _ rfl, fld_setFld_ne _ _ _ _ _ (by decide) (by decide), hwake]
      · rw [if_pos h1]
        exact fld_setFld_of_lt _ _ _ _ (by decide) (fld_lt ..)
    · have hdo : writeSrc n 0 v s = s.writeByType (IC_SRC_s_CFG n) v := by
        unfold writeSrc writeSrcCfg
        rw [if_pos rfl, if_neg (by rw [hu]; decide), if_neg h1]
      refine ⟨_, Completes.of_eq rfl hdo, hw, hg, ?_, ?_⟩
      · rw [srcWake, flag_eq_true_iff _ _ rfl, hwake]
      · rw [if_neg h1]
        exact hprio
  · have hdo : writeSrc n 1 v s = s.writeByType (IC_SRC_s_MASK_LO n) v := by
      unfold writeSrc writeSrcMask
      rw [if_neg (by decide), if_neg (by simp [hu, h1])]
      rfl
    refine ⟨_, Completes.of_eq rfl hdo, (onlyRegs_refl _ s).writeByType (List.mem_singleton.2 rfl) v, ?_⟩
    have hT : (s.writeByType (IC_SRC_s_MASK_LO n) v).fld (IC_SRC_s_MASK_LO n) IC_SRC_s_MASK_LO_T = bits v.toNat 0 32 :=
      fld_writeByType s _ v _ .rw (fieldsAt_IC_SRC_s_MASK_LO hn) (by decide) (by decide)
    rw [State.fld, show IC_SRC_s_MASK_LO_T = ⟨0, 32⟩ from rfl, bits_word, bits_word] at hT
    exact BitVec.eq_of_toNat_eq hT
  · exact Completes.of_eq rfl (writeSrcMask_protected h false v s)
  · exact Completes.of_eq rfl (writeSrcMask_protected h true v s)
  · refine Completes.of_eq rfl (latchEdge_other ?_)
    unfold edgeTaken
    rcases h with h | ⟨h, hr⟩ | ⟨h, hr⟩
    · simp [h]
    · simp [h, hr]
    · simp [h, hr]
  · refine ⟨_, rfl, latchEdge_sets ?_⟩
    unfold edgeTaken
    rcases h with h | ⟨h, hr⟩ | ⟨h, hr⟩
    · simp [h]
    · simp [h, hr]
    · simp [h, hr]

end Sys2Proof.Machine
end

section

/-! SUPPORT. Flow contexts: O38. -/

namespace Sys2Proof.Machine
open R

/-! ### The contexts that are enabled -/

theorem regRowsAt_FL {a : Nat} (h : 0x2000380000 ≤ a) (h' : a < 0x20003C0000) : regRowsAt a = regRowsFL := by
  unfold regRowsAt
  repeat rw [if_neg (by omega)]
  exact if_pos h'

theorem resetValue_of_regRow {a : Nat} {r : RegRow} {ix : List Nat} (h1 : a ≠ IC_SRC_s_CFG 1) (h2 : a ≠ IC_SRC_s_MASK_HI 1)
    (h3 : a ≠ IC_EN_SET_i 0) (h4 : a ≠ MB_i_PERM 0) (h5 : a ≠ MB_i_PERM 16) (h : regRow a = some (r, ix)) :
    resetValue a = BitVec.ofNat 32 (r.reset + dot r.coef ix) := by
  unfold resetValue
  rw [if_neg h1, if_neg h2, if_neg h3, if_neg (by simp [h4, h5]), h]

theorem resetValue_FL_f_CTL {f : Nat} (h : f < 3072) : resetValue (FL_f_CTL f) = 0 := by
  refine resetValue_of_regRow (r := ⟨0x2000390000, [(3072, 0x40)], 0x0, [], [⟨0, 5, .rw⟩, ⟨8, 3, .rw⟩, ⟨16, 7, .rw⟩]⟩) (ix := [f])
    ?_ ?_ ?_ ?_ ?_ ?_
  · simp only [FL_f_CTL, IC_SRC_s_CFG]; omega
  · simp only [FL_f_CTL, IC_SRC_s_MASK_HI]; omega
  · simp only [FL_f_CTL, IC_EN_SET_i]; omega
  · simp only [FL_f_CTL, MB_i_PERM]; omega
  · simp only [FL_f_CTL, MB_i_PERM]; omega
  · unfold regRow FL_f_CTL
    rw [regRowsAt_FL (by omega) (by omega)]
    unfold regRowsFL
    simp (disch := omega) only [findRow_past_one, findRow_at]

theorem mem_of_tget_ne {α : Type} {d : α} {t : List (Nat × α)} {a : Nat} (h : tget d t a ≠ d) : ∃ v, (a, v) ∈ t := by
  induction t with
  | nil => exact absurd rfl h
  | cons e t ih =>
    obtain ⟨k, v⟩ := e
    unfold tget at h
    split at h
    · exact absurd rfl h
    · split at h
      next hk => exact ⟨v, hk ▸ List.mem_cons_self ..⟩
      next =>
        obtain ⟨w, hw⟩ := ih h
        exact ⟨w, List.mem_cons_of_mem _ hw⟩

theorem mem_listed {s : State} {base stride n i : Nat} {v : Word} (hs : 0 < stride) (hi : i < n)
    (h : (base + i * stride, v) ∈ s.regs) : i ∈ s.listed base stride n := by
  refine List.mem_filterMap.2 ⟨_, h, ?_⟩
  simp only [Nat.add_sub_cancel_left, Nat.mul_mod_left, Nat.mul_div_cancel _ hs]
  exact if_pos ⟨Nat.le_add_right .., trivial, hi⟩

theorem lt_of_mem_listed {s : State} {base stride n i : Nat} (h : i ∈ s.listed base stride n) : i < n := by
  obtain ⟨e, -, he⟩ := List.mem_filterMap.1 h
  split at he
  next hc =>
    cases he
    exact hc.2.2
  next => cases he

theorem mem_enabledFlows {s : State} {g : Nat} : g ∈ enabledFlows s ↔ g < 3072 ∧ flEn s g = true := by
  refine ⟨fun h => ?_, fun ⟨hg, he⟩ => ?_⟩
  · obtain ⟨hl, he⟩ := List.mem_filter.1 h
    exact ⟨lt_of_mem_listed hl, he⟩
  · refine List.mem_filter.2 ⟨?_, he⟩
    have hne : s.reg (FL_f_CTL g) ≠ 0 := by
      intro h0
      rw [flEn, flag_eq, State.fld, h0] at he
      exact absurd he (by decide)
    rw [State.reg, resetValue_FL_f_CTL hg] at hne
    obtain ⟨v, hv⟩ := mem_of_tget_ne hne
    exact mem_listed (by decide) hg (v := v) (by simpa [FL_f_CTL] using hv)

/-! ### The checks of an enable depend on what the registers read -/

section SameReads
variable {s t : State} (h : t.reg = s.reg)
include h

theorem fld_of_reads (a : Nat) (f : Fld) : t.fld a f = s.fld a f := by rw [State.fld, h, State.fld]

theorem flag_of_reads (a : Nat) (f : Fld) : t.flag a f = s.flag a f := by rw [State.flag, fld_of_reads h, State.flag]

theorem any_enabledFlows_of_reads (p : Nat → Bool) : (enabledFlows t).any p = (enabledFlows s).any p := by
  rw [Bool.eq_iff_iff, List.any_eq_true, List.any_eq_true]
  simp only [mem_enabledFlows, flEn, flag_of_reads h]

theorem overlapBad_of_reads (f : Nat) : overlapBad t f = overlapBad s f := by
  unfold overlapBad
  rw [any_enabledFlows_of_reads h]
  unfold streamChannels slotCount flBase flChn flTx State.flag State.fld
  rw [h]

theorem idDupBad_of_reads (f : Nat) : idDupBad t f = idDupBad s f := by
  unfold idDupBad
  rw [any_enabledFlows_of_reads h]
  unfold flIdentity flAes flId flTx State.flag State.fld
  rw [h]

theorem rangeBad_of_reads (f : Nat) : rangeBad t f = rangeBad s f := by
  unfold rangeBad flP blockN flChn flWidth flTx flAes flOfs fsHz State.flag State.fld
  rw [h]

theorem jbBad_of_reads (hc : t.ddrCap = s.ddrCap) (f : Nat) : jbBad t f = jbBad s f := by
  unfold jbBad flChn flDepth flJb flTx ddrLimit ddrMirror State.flag State.fld
  rw [h, hc]

end SameReads

theorem reads_setReg_self (s : State) (a : Nat) : (s.setReg a (s.reg a)).reg = s.reg := by
  funext b
  by_cases hb : b = a
  · rw [hb, reg_setReg_same]
  · exact reg_setReg_other _ _ _ _ hb

/-! ### The errors of an enable -/

section FlowErrors
variable (c : Bool) (f : Nat) (b : Fld) (s : State)

theorem OnlyRegs.trans {l : List Nat} {s t u : State} (h : OnlyRegs l s t) (k : OnlyRegs l t u) : OnlyRegs l s u :=
  ⟨(congrArg (fun x : State => { x with regs := s.regs }) k.1).trans h.1, fun a ha => (k.2 a ha).trans (h.2 a ha)⟩

theorem flError_onlyRegs : OnlyRegs [FL_ERR, FL_ERR_FLOW] s (flError f b s) := by
  unfold flError
  dsimp only
  split
  · exact ((onlyRegs_refl _ s).setReg (by simp) _).setFld (by simp) _ _
  · exact (onlyRegs_refl _ s).setFld (by simp) _ _

theorem flError_err : (flError f b s).reg FL_ERR = (s.setFld FL_ERR b 1).reg FL_ERR := by
  unfold flError State.setFld
  dsimp only
  rw [reg_setReg_same, reg_setReg_same]
  split
  · rw [reg_setReg_other _ _ _ _ (by decide)]
  · rfl

theorem flErrorIf_onlyRegs : OnlyRegs [FL_ERR, FL_ERR_FLOW] s (flErrorIf c f b s) := by
  unfold flErrorIf
  split
  · exact flError_onlyRegs f b s
  · exact onlyRegs_refl _ s

theorem flErrorIf_sets (hb : b.w = 1) (hlo : b.lo < 32) (hc : c = true) : (flErrorIf c f b s).fld FL_ERR b = 1 := by
  rw [flErrorIf, if_pos hc, fld_of_reg_eq (flError_err f b s)]
  exact fld_setFld_of_lt _ _ _ _ (by omega) (by rw [hb]; decide)

theorem flErrorIf_beside (g : Fld) (hb : b.lo + b.w ≤ 32) (hg : b.lo + b.w ≤ g.lo ∨ g.lo + g.w ≤ b.lo) :
    (flErrorIf c f b s).fld FL_ERR g = s.fld FL_ERR g := by
  unfold flErrorIf
  split
  · rw [fld_of_reg_eq (flError_err f b s)]
    exact fld_setFld_ne _ _ _ _ _ hb hg
  · rfl

/-- The context of the first error (R170). -/
theorem flErrorIf_first {t : State} (hb : b.w = 1) (hlo : b.lo < 32) :
    (t.reg FL_ERR = 0 → (flErrorIf c f b t).reg FL_ERR = 0 ∧ (flErrorIf c f b t).reg FL_ERR_FLOW = t.reg FL_ERR_FLOW ∧ c = false ∨
      (flErrorIf c f b t).reg FL_ERR ≠ 0 ∧ (flErrorIf c f b t).reg FL_ERR_FLOW = BitVec.ofNat 32 f ∧ c = true) ∧
    (t.reg FL_ERR ≠ 0 → (flErrorIf c f b t).reg FL_ERR ≠ 0 ∧ (flErrorIf c f b t).reg FL_ERR_FLOW = t.reg FL_ERR_FLOW) := by
  have hset : (flError f b t).reg FL_ERR ≠ 0 := by
    intro h0
    have h1 : (flErrorIf true f b t).fld FL_ERR b = 1 := flErrorIf_sets true f b t hb hlo rfl
    rw [flErrorIf, if_pos rfl, State.fld, h0] at h1
    simp [bits] at h1
  cases c with
  | false => exact ⟨fun h => .inl ⟨h, rfl, rfl⟩, fun h => ⟨h, rfl⟩⟩
  | true =>
    refine ⟨fun h => .inr ⟨hset, ?_, rfl⟩, fun h => ⟨hset, ?_⟩⟩
    · rw [flErrorIf, if_pos rfl, flError, if_pos h]
      exact (reg_setFld_other _ _ _ _ _ (by decide)).trans (reg_setReg_same ..)
    · rw [flErrorIf, if_pos rfl, flError, if_neg h]
      exact reg_setFld_other _ _ _ _ _ (by decide)

end FlowErrors

/-- The four checks of an enable, in order (R170). -/
def flowErrors (o i r j : Bool) (f : Nat) (s : State) : State :=
  flErrorIf j f FL_ERR_JB_ALIGN (flErrorIf r f FL_ERR_RANGE (flErrorIf i f FL_ERR_ID_DUP (flErrorIf o f FL_ERR_OVERLAP s)))

theorem flowErrors_onlyRegs (o i r j : Bool) (f : Nat) (s : State) : OnlyRegs [FL_ERR, FL_ERR_FLOW] s (flowErrors o i r j f s) := by
  have h (c : Bool) (b : Fld) (t : State) := flErrorIf_onlyRegs c f b t
  unfold flowErrors
  generalize h1 : flErrorIf o f FL_ERR_OVERLAP s = t1
  generalize h2 : flErrorIf i f FL_ERR_ID_DUP t1 = t2
  generalize h3 : flErrorIf r f FL_ERR_RANGE t2 = t3
  have k1 := h1 ▸ h o FL_ERR_OVERLAP s
  have k2 := h2 ▸ h i FL_ERR_ID_DUP t1
  have k3 := h3 ▸ h r FL_ERR_RANGE t2
  exact ((k1.trans k2).trans k3).trans (h j FL_ERR_JB_ALIGN t3)

theorem flowErrors_bits (o i r j : Bool) (f : Nat) (s : State) : let t := flowErrors o i r j f s
    (o = true → t.fld FL_ERR FL_ERR_OVERLAP = 1) ∧ (i = true → t.fld FL_ERR FL_ERR_ID_DUP = 1) ∧
    (r = true → t.fld FL_ERR FL_ERR_RANGE = 1) ∧ (j = true → t.fld FL_ERR FL_ERR_JB_ALIGN = 1) := by
  unfold flowErrors
  refine ⟨fun h => ?_, fun h => ?_, fun h => ?_, fun h => ?_⟩
  · rw [flErrorIf_beside _ _ _ _ _ (by decide) (by decide), flErrorIf_beside _ _ _ _ _ (by decide) (by decide),
      flErrorIf_beside _ _ _ _ _ (by decide) (by decide)]
    exact flErrorIf_sets _ _ _ _ rfl (by decide) h
  · rw [flErrorIf_beside _ _ _ _ _ (by decide) (by decide), flErrorIf_beside _ _ _ _ _ (by decide) (by decide)]
    exact flErrorIf_sets _ _ _ _ rfl (by decide) h
  · rw [flErrorIf_beside _ _ _ _ _ (by decide) (by decide)]
    exact flErrorIf_sets _ _ _ _ rfl (by decide) h
  · exact flErrorIf_sets _ _ _ _ rfl (by decide) h

theorem flowErrors_first {o i r j : Bool} {f : Nat} {s : State} (h : s.reg FL_ERR = 0) (hbad : (o || i || r || j) = true) :
    (flowErrors o i r j f s).reg FL_ERR_FLOW = BitVec.ofNat 32 f := by
  unfold flowErrors
  generalize h1 : flErrorIf o f FL_ERR_OVERLAP s = t1
  generalize h2 : flErrorIf i f FL_ERR_ID_DUP t1 = t2
  generalize h3 : flErrorIf r f FL_ERR_RANGE t2 = t3
  generalize h4 : flErrorIf j f FL_ERR_JB_ALIGN t3 = t4
  have k1 := h1 ▸ flErrorIf_first o f FL_ERR_OVERLAP (t := s) rfl (by decide)
  have k2 := h2 ▸ flErrorIf_first i f FL_ERR_ID_DUP (t := t1) rfl (by decide)
  have k3 := h3 ▸ flErrorIf_first r f FL_ERR_RANGE (t := t2) rfl (by decide)
  have k4 := h4 ▸ flErrorIf_first j f FL_ERR_JB_ALIGN (t := t3) rfl (by decide)
  -- before the first failing check no error is noted; from it on the context stays
  rcases k1.1 h with ⟨e1, -, rfl⟩ | ⟨e1, v1, -⟩
  · rcases k2.1 e1 with ⟨e2, -, rfl⟩ | ⟨e2, v2, -⟩
    · rcases k3.1 e2 with ⟨e3, -, rfl⟩ | ⟨e3, v3, -⟩
      · rcases k4.1 e3 with ⟨-, -, rfl⟩ | ⟨-, v4, -⟩
        · cases hbad
        · exact v4
      · exact (k4.2 e3).2.trans v3
    · exact (k4.2 (k3.2 e2).1).2.trans ((k3.2 e2).2.trans v2)
  · have e2 := k2.2 e1
    have e3 := k3.2 e2.1
    exact (k4.2 e3.1).2.trans (e3.2.trans (e2.2.trans v1))

/-! ### Enable and disable -/

theorem doFlowEnable_idle {f : Nat} {s : State} (he : flEn s f = false) (ha : flActive s f = false)
    (hm : (s.reg (FL_f_CTL f)).toNat = (s.reg (FL_f_CTL f) &&& 0x007F071F#32).toNat) :
    doFlowEnable f s =
      let s1 := s.setReg (FL_f_CTL f) (s.reg (FL_f_CTL f))
      let s2 := flowErrors (overlapBad s f) (idDupBad s f) (rangeBad s f) (jbBad s f) f s1
      if overlapBad s f || idDupBad s f || rangeBad s f || jbBad s f then s2 else s2.setFld (FL_f_CTL f) FL_f_CTL_EN 1 := by
  have hreads := reads_setReg_self s (FL_f_CTL f)
  generalize hc : s.reg (FL_f_CTL f) = c at hm hreads
  have h0 : c.toNat % 2 = 0 := by
    have := (flag_eq_false_iff ..).1 he
    rw [State.fld, hc] at this
    simpa [bits, FL_f_CTL_EN] using this
  have hand : c &&& 0x007F071F = c := (BitVec.eq_of_toNat_eq hm).symm
  have hnew : ((c ||| 1) &&& 0x007F071F).toNat = c.toNat + 1 := by
    have hdist : (c ||| 1) &&& 0x007F071F = c ||| 1 := by
      rw [BitVec.and_comm, BitVec.and_or_distrib_left, BitVec.and_comm, hand]
      rfl
    rw [hdist, BitVec.toNat_or]
    have h1 : (1#32).toNat = 1 := rfl
    rw [show (1 : BitVec 32) = 1#32 from rfl, h1]
    have := Nat.two_pow_add_eq_or_of_lt (i := 1) (b := 1) (by decide) (c.toNat / 2)
    have h2 : 2 ^ 1 * (c.toNat / 2) = c.toNat := by omega
    rw [h2] at this
    exact this.symm
  have hval : BitVec.ofNat 32 ((c.toNat + 1) / 2 * 2 + b2n false) = c := by
    have h1 : (c.toNat + 1) / 2 * 2 + b2n false = c.toNat := by
      have : b2n false = 0 := rfl
      omega
    rw [h1, BitVec.ofNat_toNat, BitVec.setWidth_eq]
  unfold doFlowEnable writeFlowCtl
  dsimp only
  rw [hc, he, ha, hnew]
  simp only [Bool.or_self, Bool.false_and, Bool.false_eq_true, if_false, hval]
  rw [if_neg (by omega)]
  simp only [overlapBad_of_reads hreads, idDupBad_of_reads hreads, rangeBad_of_reads hreads,
    jbBad_of_reads hreads rfl]
  rfl

theorem doFlowDisable_eq (f : Nat) (s : State) :
    ∃ s1 : State, s1.flows = s.flows ∧
      doFlowDisable f s = (s1.setFld (FL_f_CTL f) FL_f_CTL_EN 0).mapFlow f (fun x => { x with stop := x.stop || x.on }) := by
  generalize hc : s.reg (FL_f_CTL f) = c
  have hnew : ((c &&& 0xFFFFFFFE) &&& 0x007F071F).toNat % 2 = 0 := by
    have h : (c &&& 0xFFFFFFFE) &&& 0x007F071F = c &&& 0x007F071E := by
      rw [BitVec.and_assoc]
      rfl
    rw [h]
    have h0 : (c &&& 0x007F071E).toNat.testBit 0 = false := by
      rw [BitVec.testBit_toNat, BitVec.getLsbD_and]
      exact Bool.and_false _
    rw [Nat.testBit_zero] at h0
    have := of_decide_eq_false h0
    omega
  unfold doFlowDisable writeFlowCtl
  dsimp only
  rw [hc, if_pos hnew]
  refine ⟨_, ?_, rfl⟩
  split
  · exact (congrArg State.flows (flError_onlyRegs f FL_ERR_BUSY s).1 :)
  · rfl

/-! ### Packets -/

theorem mem_sent_originate {len dst cls : Nat} {body : FrameBody} {s : State} {o : OutFrame}
    (h : o ∈ (originate len dst cls body s).net.sent) : o.frame.body = body := by
  rw [originate_eq] at h
  split at h
  · cases h
  · obtain ⟨hup, -⟩ := List.mem_filter.1 h
    obtain ⟨hc, -⟩ := List.mem_filter.1 hup
    obtain ⟨e, -, rfl⟩ := List.mem_map.1 hc
    rfl

/-- Settles O38. -/
theorem flowCommandsComplete : Obligations.FlowCommandsComplete := by
  intro f r s v
  have hf := f.isLt
  have hctl1 : FL_f_CTL f ≠ FL_ERR := by simp only [FL_f_CTL, FL_ERR]; omega
  have hctl2 : FL_f_CTL f ≠ FL_ERR_FLOW := by simp only [FL_f_CTL, FL_ERR_FLOW]; omega
  refine ⟨fun he ha hm => ?_, ?_, fun h1 h2 hu => ?_, fun f0 l hon htx hl hs hn => ?_⟩
  · refine ⟨_, Completes.of_eq rfl (doFlowEnable_idle he ha hm), ?_⟩
    have hreads := reads_setReg_self s (FL_f_CTL f)
    dsimp only
    generalize hs1 : s.setReg (FL_f_CTL f) (s.reg (FL_f_CTL f)) = s1 at hreads
    have hmem : s1.mem = s.mem := by rw [← hs1]; rfl
    generalize overlapBad s f = o
    generalize idDupBad s f = i
    generalize rangeBad s f = k
    generalize jbBad s f = j
    have hb := flowErrors_bits o i k j f s1
    have hfirst (h : s.reg FL_ERR = 0) := flowErrors_first (o := o) (i := i) (r := k) (j := j) (f := f) ((congrFun hreads FL_ERR).trans h)
    have ho := flowErrors_onlyRegs o i k j f s1
    generalize flowErrors o i k j f s1 = s2 at hb hfirst ho
    have hen : flEn s2 f = false := by
      rw [flEn, flag_of_reg_eq (ho.2 _ (by simp [hctl1, hctl2])), flag_of_reads hreads]
      exact he
    obtain ⟨b1, b2, b3, b4⟩ := hb
    split
    next hbad =>
      refine ⟨ho.mem_eq.trans hmem, ?_, b1, b2, b3, b4, fun h _ => hfirst h hbad⟩
      rw [hen]
      constructor
      · exact nofun
      · rintro ⟨rfl, rfl, rfl, rfl⟩
        exact nomatch hbad
    next hok =>
      simp only [Bool.or_eq_true, not_or, Bool.not_eq_true] at hok
      obtain ⟨⟨⟨rfl, rfl⟩, rfl⟩, rfl⟩ := hok
      have hset : flEn (s2.setFld (FL_f_CTL f) FL_f_CTL_EN 1) f = true :=
        flag_eq_true_of_fld_eq_one _ _ _ (fld_setFld_of_lt _ _ _ _ (by decide) (by decide))
      refine ⟨ho.mem_eq.trans hmem, ?_, nofun, nofun, nofun, nofun, fun _ h => ?_⟩
      · simp [hset]
      · rw [hset] at h
        exact nomatch h
  · obtain ⟨s1, hflows, hdo⟩ := doFlowDisable_eq f s
    refine ⟨_, Completes.of_eq rfl hdo, ?_, fun hon => ?_⟩
    · exact (flag_eq_false_iff ..).2 (fld_setFld_of_lt _ _ _ _ (by decide) (by decide))
    · have hx : s1.flow f = s.flow f := congrArg (tget Flow.reset · f.val) hflows
      refine (congrArg Flow.stop (tget_tput_same ..)).trans ?_
      have : (s1.flow f).on = true := by rw [hx]; exact hon
      exact (congrArg (fun b => (s1.flow f).stop || b) this).trans (Bool.or_true _)
  · have hdo : doFlowFieldWrite f r v s = flError f FL_ERR_BUSY s := by
      unfold doFlowFieldWrite
      rw [if_neg (by omega), if_pos h2, if_pos (by rcases hu with h | h <;> simp [h])]
    refine ⟨_, Completes.of_eq rfl hdo, flError_onlyRegs .., ?_⟩
    exact flErrorIf_sets true f FL_ERR_BUSY s rfl (by decide) rfl
  · have hdo : ∃ len dst cls q, doPacketLaunch f s =
        (((originate len dst cls (txBody s f f0 q l) s).setFld (FL_f_SEQ f) FL_f_SEQ_SEQ q).setFld (FL_f_STAT f) FL_f_STAT_ACTIVE
          1).mapFlow f (fun x => { x with launched := some f0, seqSeen := true }) := by
      unfold doPacketLaunch
      dsimp only
      rw [hon, htx, if_neg (by decide), hl]
      dsimp only
      rw [hs]
      dsimp only
      rw [if_neg hn]
      exact ⟨_, _, _, _, rfl⟩
    obtain ⟨len, dst, cls, q, hdo⟩ := hdo
    refine ⟨_, Completes.of_eq rfl hdo, congrArg Flow.launched (tget_tput_same ..), ?_, ?_, fun o ho => ⟨q, mem_sent_originate ho⟩⟩
    · exact flag_eq_true_of_fld_eq_one _ _ _ (fld_setFld_of_lt _ _ _ _ (by decide) (by decide))
    · obtain ⟨_, _, _, ho⟩ := originate_net len dst cls (txBody s f f0 q l) s
      exact (congrArg State.mem ho :)

end Sys2Proof.Machine
end

section

/-! SUPPORT. The player: O43. -/

namespace Sys2Proof.Machine
open R

/-- R232, R233: the latest play begun by frame `F`. -/
theorem playAt_latest {k : PlCfg} {F r : Nat} (hle : k.start + r * k.period ≤ F) (h0 : k.period = 0 → r = 0)
    (hrep : k.repeats ≠ 0 → k.period ≠ 0 → r < k.repeats)
    (hlast : k.period ≠ 0 → F < k.start + (r + 1) * k.period ∨ r + 1 = k.repeats) :
    playAt k F = some (r, F - (k.start + r * k.period)) := by
  have hstart : ¬ F < k.start := by omega
  unfold playAt
  rw [if_neg hstart]
  by_cases hp : k.period = 0
  · obtain rfl := h0 hp
    simp [hp]
  · have hpos : 0 < k.period := Nat.pos_of_ne_zero hp
    have hge : r ≤ (F - k.start) / k.period := (Nat.le_div_iff_mul_le hpos).2 (by omega)
    have hlt (h : F < k.start + (r + 1) * k.period) : (F - k.start) / k.period < r + 1 :=
      (Nat.div_lt_iff_lt_mul hpos).2 (by omega)
    have hr : (if k.repeats = 0 then (F - k.start) / k.period else min ((F - k.start) / k.period) (k.repeats - 1)) = r := by
      split
      next hr0 =>
        have := hlt ((hlast hp).resolve_right (by omega))
        omega
      next hr0 =>
        have hrr := hrep hr0 hp
        rcases hlast hp with h | h
        · have := hlt h
          omega
        · omega
    simp only [if_neg hp, hr, Option.some.injEq, Prod.mk.injEq, true_and]
    omega

theorem plStep_pos (s : State) (c : Nat) : 0 < plStep s c := by
  unfold plStep
  split <;> split <;> decide

theorem playStatus_armed {c r off : Nat} {s : State} (ha : plArmed s c = true) (hp : playAt (plCfg s c) s.frame = some (r, off)) :
    playStatus c s =
      s.setFlds (MS_PL_c_STAT c) [(MS_PL_c_STAT_PLAYING, b2n (inPlay s c off)), (MS_PL_c_STAT_PLAY, r % 65536)] := by
  unfold playStatus
  rw [ha, hp]
  rfl

/-- PLAYING and PLAY after a status update of an armed channel. -/
theorem playStatus_reads {c r off : Nat} {s : State} (ha : plArmed s c = true) (hp : playAt (plCfg s c) s.frame = some (r, off)) :
    OnlyRegs [MS_PL_c_STAT c] s (playStatus c s) ∧
    (playStatus c s).fld (MS_PL_c_STAT c) MS_PL_c_STAT_PLAYING = b2n (inPlay s c off) ∧
    (playStatus c s).fld (MS_PL_c_STAT c) MS_PL_c_STAT_PLAY = r % 65536 := by
  rw [playStatus_armed ha hp]
  refine ⟨(onlyRegs_refl _ s).setFlds (List.mem_singleton.2 rfl) _, ?_, ?_⟩
  · refine (fld_setFld_ne _ _ _ _ _ (by decide) (by decide)).trans (fld_setFld_of_lt _ _ _ _ (by decide) ?_)
    cases inPlay s c off <;> decide
  · exact fld_setFld_of_lt _ _ _ _ (by decide) (Nat.mod_lt _ (by decide))

/-- Settles O43. -/
theorem playerCarriesTheLatestPlay : Obligations.PlayerCarriesTheLatestPlay := by
  intro c r s k off ha hle h0 hrep hlast
  have hp : playAt (plCfg s c) s.frame = some (r, off) := playAt_latest hle h0 hrep hlast
  obtain ⟨honly, hplaying, hplay⟩ := playStatus_reads ha hp
  refine ⟨fun hs ho => ⟨_, rfl, honly, ?_, hplay⟩, fun ho => ?_, fun i hi hoff hdead hbad => ?_⟩
  · have hin : inPlay s c off = true := by simp [inPlay, hs, ho]
    exact hplaying.trans (by rw [hin]; rfl)
  · have hin : inPlay s c off = false := by simp [inPlay, ho]
    refine ⟨_, rfl, honly, hplaying.trans (by rw [hin]; rfl), ?_⟩
    unfold playSample
    rw [ha, hp]
    simp [hin]
  · have hin : inPlay s c off = true := by
      have hpos : 0 < plSamples s c := by omega
      have hmul : off ≤ (plSamples s c - 1) * plStep s c := by
        rw [hoff]
        exact Nat.mul_le_mul_right _ (by omega)
      simp [inPlay, hpos, hmul]
    have hmod : off % plStep s c = 0 := by rw [hoff, Nat.mul_mod_left]
    have hdiv : off / plStep s c = i := by rw [hoff, Nat.mul_div_cancel _ (plStep_pos s c)]
    dsimp only
    intro hecc
    unfold playSample
    rw [ha, hp]
    simp only [hin, hdead, hbad, hmod, hdiv, Bool.not_true, Bool.false_eq_true, if_false, if_true, decide_false, Bool.or_self]
    exact congrArg Prod.fst (if_neg (by rw [hecc]; decide))

end Sys2Proof.Machine
end

section

/-! SUPPORT. The schedule copy: O44. -/

namespace Sys2Proof.Machine
open R

/-- A fold whose steps keep a part of the state keeps it. -/
theorem foldl_keeps {α β γ : Type} (g : β → γ) {f : β → α → β} (h : ∀ b a, g (f b a) = g b) (l : List α) (b : β) :
    g (l.foldl f b) = g b := by
  induction l generalizing b with
  | nil => rfl
  | cons a l ih => rw [List.foldl_cons, ih, h]

theorem freeSegments_fw (l : List Nat) (s : State) : (freeSegments l s).fw = s.fw := by
  unfold freeSegments
  exact foldl_keeps State.fw (f := fun s g => setSeg g Seg.free s) (fun _ _ => rfl) l s

theorem setBytes_fw (s : State) (a : Nat) (l : List Byte) : (s.setBytes a l).fw = s.fw :=
  (congrArg State.fw (setBytes_rest l s a)).trans rfl

theorem mapStore_fw (s : State) (f : Store → Store) : (s.mapStore f).fw = s.fw := rfl

theorem sealSeg_fw (g : Nat) (h : Seg) (s : State) : (sealSeg g h s).fw = s.fw := by
  unfold sealSeg setSeg
  dsimp only
  rw [mapStore_fw, mapStore_fw]

theorem writeSeg_fw (area object : Nat) (x : State × Nat × List Byte) (g : Nat) : (writeSeg area object x g).1.fw = x.1.fw := by
  unfold writeSeg
  dsimp only
  rw [sealSeg_fw, setBytes_fw]

theorem storeWrite_some {area object : Nat} {d : List Byte} {s : State} {r : List Nat × State} (h : storeWrite area object d s = some r) :
    ∃ gs, r = (gs, (gs.foldl (writeSeg area object) (s, 0xFFFFFFFF, d)).1) := by
  unfold storeWrite at h
  extract_lets n gs at h
  by_cases hlt : gs.length < n
  · rw [if_pos hlt] at h
    exact nomatch h
  · rw [if_neg hlt] at h
    exact ⟨gs, (Option.some.inj h).symm⟩

theorem storeWrite_fw {area object : Nat} {d : List Byte} {s : State} {r : List Nat × State} (h : storeWrite area object d s = some r) :
    r.2.fw = s.fw := by
  obtain ⟨gs, rfl⟩ := storeWrite_some h
  exact foldl_keeps (fun x : State × Nat × List Byte => x.1.fw) (writeSeg_fw area object) gs (s, 0xFFFFFFFF, d)

theorem leBytes_append_length_pos (n v : Nat) (l : List Byte) (h : 0 < n) : 0 < (leBytes n v ++ l).length := by
  rw [List.length_append, leBytes_length]
  omega

theorem schedBytes_length_pos (c : Sched) : 0 < (schedBytes c).length := by
  unfold schedBytes schedHead
  simp only [List.append_assoc]
  exact leBytes_append_length_pos _ _ _ (by decide)

theorem emerSize_mapFw (s : State) (f : Fw → Fw) : emerSize (s.mapFw f) = emerSize s := by
  have h : (s.mapFw f).fld MS_EMER_SIZE MS_EMER_SIZE_MIB = s.fld MS_EMER_SIZE MS_EMER_SIZE_MIB := rfl
  unfold emerSize
  rw [h]

/-- Without an emergency region, keeping the copy leaves firmware's own state. -/
theorem keepSchedule_fw {s : State} (h : emerSize s = 0) : (keepSchedule s).fw = s.fw := by
  have hlen : ¬ (schedBytes s.fw.sched).length ≤ emerSize s := by
    have := schedBytes_length_pos s.fw.sched
    omega
  unfold keepSchedule
  extract_lets d s1
  have hs1 : s1 = s := if_neg hlen
  rw [hs1]
  by_cases hu : (!storeUp s) = true
  · rw [if_pos hu]
  · rw [if_neg hu]
    cases hr : storeWrite 7 0 d s with
    | none => rfl
    | some r => exact (freeSegments_fw _ _).trans (storeWrite_fw hr)

/-- A copy whose entries are cancelled or concern no zone here arms no channel. -/
theorem armAll_none {s : State} (h : ∀ e ∈ s.fw.sched.entries, e.cancelled = true ∨ serves s e.zone = false) : armAll s = s := by
  have step (e : SchedEntry) (he : e.cancelled = true ∨ serves s e.zone = false) : armEntry s e = s := by
    refine if_pos ?_
    rcases he with he | he <;> simp [he]
  unfold armAll
  generalize s.fw.sched.entries = l at h
  induction l with
  | nil => rfl
  | cons e l ih =>
    rw [List.foldl_cons, step e (h e (List.mem_cons_self ..))]
    exact ih fun x hx => h x (List.mem_cons_of_mem _ hx)

/-- Firmware's own state after the new copy takes the place of the old one (R242). -/
def adopted (c : Sched) (s : State) (f : Fw) : Fw := { f with
  sched := c, armed := f.armed.filter (fun e => (stopAt s c e.1).isNone)
  stops := f.stops ++ s.fw.armed.filterMap (fun e => (stopAt s c e.1).map (fun t => (e.2, t))) }

theorem adopt_eq (c : Sched) (s : State) : adopt c s = armAll (keepSchedule (s.mapFw (adopted c s))) := rfl

theorem keepSchedule_adopted {c : Sched} {s : State} (h : emerSize s = 0) :
    (keepSchedule (s.mapFw (adopted c s))).fw = adopted c s s.fw := by
  have he : emerSize (s.mapFw (adopted c s)) = 0 := by rw [emerSize_mapFw, h]
  rw [keepSchedule_fw he]
  rfl

theorem armAll_adopted {c : Sched} {s t : State} (ht : t.fw = adopted c s s.fw)
    (hc : ∀ e ∈ c.entries, e.cancelled = true ∨ serves s e.zone = false) : (armAll t).fw = adopted c s s.fw := by
  have hserve (z : Nat) : serves t z = serves s z := by
    unfold serves zoneOf
    rw [ht]
    rfl
  rw [armAll_none, ht]
  intro e he
  rw [ht] at he
  exact (hc e he).imp id (hserve e.zone).trans

theorem adopt_fw {c : Sched} {s : State} (hs : emerSize s = 0) (hc : ∀ e ∈ c.entries, e.cancelled = true ∨ serves s e.zone = false) :
    (adopt c s).fw = adopted c s s.fw :=
  (congrArg State.fw (adopt_eq c s)).trans (armAll_adopted (keepSchedule_adopted hs) hc)

/-- A channel armed for an entry that the new copy lacks stops at once. -/
theorem stopAt_missing {s : State} {c : Sched} {k : Nat} (h : ∀ e ∈ c.entries, e.entry ≠ k / 2) : stopAt s c k = some s.frame := by
  have hf : c.entries.find? (fun e => e.entry = k / 2) = none := List.find?_eq_none.2 fun e he => by simpa using h e he
  unfold stopAt
  dsimp only
  rw [hf]

theorem doScheduleReceive_up {l : List Byte} {s : State} (hup : fwUp s = true) (hmin : minimal s = false) :
    doScheduleReceive l s = match schedOf l with
      | some c => if newer c s.fw.sched then adopt c s else s
      | none => s := if_neg (by simp [hup, hmin])

/-- Settles O44. -/
theorem scheduleReceiveAdoptsOnlyNewerCopies : Obligations.ScheduleReceiveAdoptsOnlyNewerCopies := by
  intro l s hup hmin
  have hdo := doScheduleReceive_up (l := l) hup hmin
  refine ⟨fun h => ?_, fun c h hold => ?_, fun c h hnew hsize hc => ?_⟩
  · rw [h] at hdo
    exact Completes.of_eq rfl hdo
  · rw [h] at hdo
    refine Completes.of_eq rfl (hdo.trans (if_neg ?_))
    unfold newer
    simp only [Bool.or_eq_true, Bool.and_eq_true, decide_eq_true_eq]
    omega
  · rw [h] at hdo
    have hn : newer c s.fw.sched = true := by
      unfold newer
      simp only [Bool.or_eq_true, Bool.and_eq_true, decide_eq_true_eq]
      omega
    refine ⟨_, Completes.of_eq rfl (hdo.trans (if_pos hn)), ?_, fun a ha hmiss => ⟨?_, ?_⟩⟩
    · rw [adopt_fw hsize hc]
      rfl
    · rw [adopt_fw hsize hc]
      intro hmem
      have := (List.mem_filter.1 hmem).2
      rw [stopAt_missing hmiss] at this
      exact nomatch this
    · rw [adopt_fw hsize hc]
      refine List.mem_append_right _ (List.mem_filterMap.2 ⟨a, ha, ?_⟩)
      rw [stopAt_missing hmiss]
      rfl

end Sys2Proof.Machine
end

section

/-! SUPPORT. Accesses of the engines to memory on the fabric (R408, R431 to R433, R440, R445): what they leave and what they depend on. -/

namespace Sys2Proof.Machine
open R

/-! ### What an access leaves -/

/-- Registers that an access to memory can write: the tiles' own, the fabric error log and the count of uncorrectable words. -/
def busReg (a : Nat) : Prop := a < 0x2000000000 ∨ (DBG_FERR ≤ a ∧ a ≤ DBG_FERR_CNT) ∨ a = PM_DDR_STAT

/-- `u` is `s` but for memory, the ECC marks, the free counter and the registers of `busReg`. -/
structure MemAccess (s u : State) : Prop where
  rest : { u with regs := s.regs, mem := s.mem, ecc := s.ecc, freeCtr := s.freeCtr } = s
  reg : ∀ a, ¬ busReg a → u.reg a = s.reg a

namespace MemAccess
variable {s u v : State}

theorem refl (s : State) : MemAccess s s := ⟨rfl, fun _ _ => rfl⟩

theorem trans (h : MemAccess s u) (k : MemAccess u v) : MemAccess s v := by
  refine ⟨?_, fun a ha => (k.reg a ha).trans (h.reg a ha)⟩
  conv_rhs => rw [← h.rest, ← k.rest]

theorem setReg (h : MemAccess s u) {a : Nat} (ha : busReg a) (v : Word) : MemAccess s (u.setReg a v) :=
  ⟨h.rest, fun c hc => (reg_setReg_other _ _ _ _ fun e => hc (by rw [e]; exact ha)).trans (h.reg c hc)⟩

theorem setFld (h : MemAccess s u) {a : Nat} (ha : busReg a) (f : Fld) (x : Nat) : MemAccess s (u.setFld a f x) := h.setReg ha _

theorem incSat (h : MemAccess s u) {a : Nat} (ha : busReg a) (f : Fld) : MemAccess s (u.incSat a f) := by
  unfold State.incSat
  split
  · exact h.setFld ha f _
  · exact h

theorem setFlds (h : MemAccess s u) {a : Nat} (ha : busReg a) (l : List (Fld × Nat)) : MemAccess s (u.setFlds a l) := by
  induction l generalizing u with
  | nil => exact h
  | cons e l ih => exact ih (h.setFld ha e.1 e.2)

theorem freeNext (h : MemAccess s u) : MemAccess s u.freeNext := ⟨h.rest, h.reg⟩

theorem setMark (h : MemAccess s u) (a m : Nat) : MemAccess s (setMark u a m) := ⟨h.rest, h.reg⟩

theorem setBytes (h : MemAccess s u) (a : Nat) (l : List Byte) : MemAccess s (u.setBytes a l) := by
  rw [setBytes_rest]
  exact ⟨h.rest, h.reg⟩

theorem of_onlyRegs {l : List Nat} (h : OnlyRegs l s u) (hl : ∀ a ∈ l, busReg a) : MemAccess s u := by
  refine ⟨?_, fun a ha => h.2 a fun hm => ha (hl a hm)⟩
  rw [h.rest]

theorem of_bankOnly {t b : Nat} (h : BankOnly t b s u) (ht : t < 256) (hb : b ≤ 8) : MemAccess s u := by
  have local' (a : Nat) (ha : a < 0x2000000000) : busReg a := .inl ha
  refine ⟨?_, fun a ha => h.reg a (fun e => ha (local' _ ?_)) fun e => ha (local' _ ?_)⟩
  · have := h.rest
    exact (congrArg (fun x : State => { x with freeCtr := s.freeCtr }) this)
  · rw [e]
    unfold bkEcc
    split <;> simp only [TL_t_BK_b_ECC, TL_t_CB_ECC] <;> omega
  · rw [e]
    unfold bkEccAddr
    split <;> simp only [TL_t_BK_b_ECCADDR, TL_t_CB_ECCADDR] <;> omega

theorem qm_eq (h : MemAccess s u) : u.qm = s.qm := (congrArg State.qm h.rest :)
theorem dma_eq (h : MemAccess s u) : u.dma = s.dma := (congrArg State.dma h.rest :)

end MemAccess

theorem placeOf_bank {s : State} {a n t b off : Nat} (h : placeOf s a n = .bank t b off) : t < 256 ∧ b ≤ 8 := by
  unfold placeOf at h
  split at h
  · cases h
  · split at h
    next hr =>
      dsimp only at h
      split at h
      · cases h
      · split at h
        next hb =>
          cases h
          omega
        next =>
          split at h
          next hb =>
            cases h
            omega
          next => cases h
    next => cases h

theorem busReg_ferr {a : Nat} (h : a = DBG_FERR ∨ a = DBG_FERR_ADDR_LO ∨ a = DBG_FERR_ADDR_HI ∨ a = DBG_FERR_CNT) : busReg a := by
  rcases h with rfl | rfl | rfl | rfl <;> exact .inr (.inl ⟨by decide, by decide⟩)

theorem logFabric_onlyRegs (port kind : Nat) (write : Bool) (a : Nat) (s : State) :
    OnlyRegs [DBG_FERR, DBG_FERR_ADDR_LO, DBG_FERR_ADDR_HI, DBG_FERR_CNT] s (logFabric port kind write a s) := by
  have h := (onlyRegs_refl [DBG_FERR, DBG_FERR_ADDR_LO, DBG_FERR_ADDR_HI, DBG_FERR_CNT] s).incSat (a := DBG_FERR_CNT) (by simp)
    DBG_FERR_CNT_COUNT
  unfold logFabric
  dsimp only
  split
  · exact h
  · exact ((h.setFlds (by simp) _).setReg (by simp) _).setReg (by simp) _

theorem logFabric_memAccess (port kind : Nat) (write : Bool) (a : Nat) (s : State) : MemAccess s (logFabric port kind write a s) :=
  .of_onlyRegs (logFabric_onlyRegs ..) fun c hc => busReg_ferr (by simpa using hc)

theorem violation_memAccess {t : Nat} (ht : t < 256) (s : State) (b code off : Nat) (write : Bool) :
    MemAccess s (violation s t b code off write) := by
  refine .of_onlyRegs (violation_onlyRegs b code off write) fun a ha => .inl ?_
  simp only [List.mem_cons, List.not_mem_nil, or_false, TL_t_VIOL_CNT, TL_t_VIOL, TL_t_VIOL_ADDR] at ha
  omega

theorem ddrCount_memAccess (s : State) (w : Nat) : MemAccess s (ddrCount s w) := by
  unfold ddrCount
  split
  · exact (MemAccess.refl s).incSat (.inr (.inr rfl)) _
  · exact .refl s

theorem ddrCount_mem (s : State) (w : Nat) : (ddrCount s w).mem = s.mem := by
  unfold ddrCount
  split
  · exact incSat_mem ..
  · rfl

theorem foldl_ddrByte_memAccess (l : List Nat) (r : List Byte × State) :
    MemAccess r.2 (l.foldl ddrByte r).2 ∧ (l.foldl ddrByte r).2.mem = r.2.mem := by
  induction l generalizing r with
  | nil => exact ⟨.refl _, rfl⟩
  | cons a l ih =>
    have step : MemAccess r.2 (ddrByte r a).2 ∧ (ddrByte r a).2.mem = r.2.mem := by
      unfold ddrByte
      split
      · exact ⟨(MemAccess.refl _).freeNext, rfl⟩
      · exact ⟨.refl _, rfl⟩
    exact ⟨step.1.trans (ih _).1, (ih _).2.trans step.2⟩

theorem ddrRead_memAccess (s : State) (a n : Nat) : MemAccess s (ddrRead s a n).s ∧ (ddrRead s a n).s.mem = s.mem := by
  have counts : MemAccess s (s.each (wordsOf a n) ddrCount) ∧ (s.each (wordsOf a n) ddrCount).mem = s.mem :=
    each_induction (P := fun u => MemAccess s u ∧ u.mem = s.mem) ⟨.refl s, rfl⟩ fun u w _ h =>
      ⟨h.1.trans (ddrCount_memAccess u w), (ddrCount_mem u w).trans h.2⟩
  have bytes := foldl_ddrByte_memAccess ((List.range n).map (a + ·)) ([], s.each (wordsOf a n) ddrCount)
  exact ⟨counts.1.trans bytes.1, bytes.2.trans counts.2⟩

theorem bankRead_mem (s : State) (t b off n : Nat) : (bankRead s t b off n).2.mem = s.mem :=
  each_induction (P := fun u => u.mem = s.mem) rfl fun u w _ h => (eccRead_mem t b u w).trans h

theorem ownedRead_memAccess {t b : Nat} (ht : t < 256) (hb : b ≤ 8) (s : State) (code off n : Nat) :
    MemAccess s (ownedRead s t b code off n).2 ∧ (ownedRead s t b code off n).2.mem = s.mem := by
  unfold ownedRead
  split
  · exact ⟨.of_bankOnly (bankRead_bankOnly ..) ht hb, bankRead_mem ..⟩
  · exact ⟨violation_memAccess ht .., (violation_onlyRegs ..).mem_eq⟩

theorem memRead_memAccess (s : State) (a n : Nat) : MemAccess s (memRead s a n).s ∧ (memRead s a n).s.mem = s.mem := by
  unfold memRead
  split
  · exact ddrRead_memAccess s a n
  next t b off hp =>
    obtain ⟨ht, hb⟩ := placeOf_bank hp
    dsimp only
    split
    · exact ⟨.of_bankOnly (bankRead_bankOnly ..) ht hb, bankRead_mem ..⟩
    · exact ownedRead_memAccess ht hb ..
  · exact ⟨.refl s, rfl⟩

/-- A read by an engine leaves memory, and of the rest all but the logs of its errors. -/
theorem engRead_memAccess (port : Nat) (s : State) (a n : Nat) : MemAccess s (engRead port s a n).s ∧ (engRead port s a n).s.mem = s.mem := by
  have h := memRead_memAccess s a n
  unfold engRead
  dsimp only
  split
  · exact ⟨h.1.trans (logFabric_memAccess ..), (logFabric_onlyRegs ..).mem_eq.trans h.2⟩
  · exact h

theorem ddrWrite_memAccess (s : State) (a : Nat) (l : List Byte) : MemAccess s (ddrWrite s a l) := by
  refine MemAccess.setBytes (each_induction (P := MemAccess s) (.refl s) fun u w _ h => ?_) a l
  split
  · exact h.setMark _ _
  · exact h

theorem memWrite_memAccess (s : State) (a : Nat) (l : List Byte) : MemAccess s (memWrite s a l).2 := by
  unfold memWrite
  split
  · exact ddrWrite_memAccess s a l
  next t b off hp =>
    obtain ⟨ht, hb⟩ := placeOf_bank hp
    dsimp only
    split
    · exact .of_bankOnly (bankWrite_bankOnly ..) ht hb
    · unfold ownedWrite
      split
      · exact .of_bankOnly (bankWrite_bankOnly ..) ht hb
      · exact violation_memAccess ht ..
  · exact .refl s

theorem engWrite_memAccess (port : Nat) (s : State) (a : Nat) (l : List Byte) : MemAccess s (engWrite port s a l).2 := by
  have h := memWrite_memAccess s a l
  unfold engWrite
  dsimp only
  split
  · exact h.trans (logFabric_memAccess ..)
  · exact h

/-- A write by an engine to DDR5 puts the bytes there. -/
theorem engWrite_ddr {s : State} {a : Nat} {l : List Byte} (port : Nat) (h : placeOf s a l.length = .ddr) :
    engWrite port s a l = (false, ddrWrite s a l) := by
  have hw : memWrite s a l = (false, ddrWrite s a l) := by
    unfold memWrite
    rw [h]
  unfold engWrite
  rw [hw]
  rfl

theorem setBytes_mem_congr {s t : State} (h : t.mem = s.mem) (a : Nat) (l : List Byte) :
    (t.setBytes a l).mem = (s.setBytes a l).mem := by
  induction l generalizing s t a with
  | nil => exact h
  | cons b l ih => exact ih (by simp only [State.setByte, h]) (a + 1)

theorem ddrWrite_mem (s : State) (a : Nat) (l : List Byte) : (ddrWrite s a l).mem = (s.setBytes a l).mem := by
  unfold ddrWrite
  have h : (s.each (wordsOf a l.length) (fun s w => if a ≤ w && w + 8 ≤ a + l.length then setMark s w 0 else s)).mem = s.mem :=
    each_induction (P := fun u => u.mem = s.mem) rfl fun u w _ h => by
      split
      · exact h
      · exact h
  generalize s.each _ _ = u at h
  exact setBytes_mem_congr h a l

theorem memPut_eq (port : Nat) (s : State) (a n v : Nat) : memPut port s a n v = (engWrite port s a (leBytes n v)).2 := by
  delta memPut
  exact rfl

/-! ### What an access depends on -/

/-- `t` differs from `s` in the queue manager alone: its state beyond its registers and the count of its cache's hits. -/
structure BesideQm (s t : State) : Prop where
  rest : { t with regs := s.regs, qm := s.qm } = s
  reg : ∀ a, a ≠ QM_CACHE_HIT → t.reg a = s.reg a

namespace BesideQm
variable {s t : State} (h : BesideQm s t)
include h

theorem fld (a : Nat) (ha : a ≠ QM_CACHE_HIT) (f : Fld) : t.fld a f = s.fld a f := fld_of_reg_eq (h.reg a ha) f
theorem flag (a : Nat) (ha : a ≠ QM_CACHE_HIT) (f : Fld) : t.flag a f = s.flag a f := flag_of_reg_eq (h.reg a ha) f

theorem mem_eq : t.mem = s.mem := (congrArg State.mem h.rest :)
theorem ecc_eq : t.ecc = s.ecc := (congrArg State.ecc h.rest :)
theorem ddrCap_eq : t.ddrCap = s.ddrCap := (congrArg State.ddrCap h.rest :)
theorem freeCtr_eq : t.freeCtr = s.freeCtr := (congrArg State.freeCtr h.rest :)
theorem spareRow_eq : t.spareRow = s.spareRow := (congrArg State.spareRow h.rest :)

theorem setReg (a : Nat) (v : Word) : BesideQm (s.setReg a v) (t.setReg a v) := by
  refine ⟨?_, fun c hc => ?_⟩
  · exact (congrArg (fun x : State => { x with regs := (s.setReg a v).regs }) h.rest :)
  · by_cases hca : c = a
    · rw [hca, reg_setReg_same, reg_setReg_same]
    · rw [reg_setReg_other _ _ _ _ hca, reg_setReg_other _ _ _ _ hca, h.reg c hc]

theorem incSat {a : Nat} (ha : a ≠ QM_CACHE_HIT) (f : Fld) : BesideQm (s.incSat a f) (t.incSat a f) := by
  unfold State.incSat
  rw [h.fld a ha]
  split
  · unfold State.setFld
    rw [h.reg a ha]
    exact h.setReg ..
  · exact h

theorem freeNext : BesideQm s.freeNext t.freeNext := by
  refine ⟨?_, h.reg⟩
  unfold State.freeNext
  rw [h.freeCtr_eq]
  exact (congrArg (fun x : State => { x with freeCtr := s.freeCtr + 1 }) h.rest :)

theorem free (k : Config.FreeKind) : t.free k = s.free k := by
  unfold State.free
  rw [h.freeCtr_eq]

theorem byte (a : Nat) : t.byte a = s.byte a := byte_of_mem_eq h.mem_eq a

theorem clockOn (d : Nat) : clockOn t d = clockOn s d := by
  unfold Machine.clockOn
  rw [h.reg _ (by split <;> decide)]

theorem chLost (c : Nat) : chLost t c = chLost s c := by
  unfold Machine.chLost
  rw [h.flag _ (by decide), h.flag _ (by decide)]

theorem ddrMirror : ddrMirror t = ddrMirror s := h.flag _ (by decide) _

theorem ddrLimit : ddrLimit t = ddrLimit s := by
  unfold Machine.ddrLimit
  rw [h.ddrMirror, h.ddrCap_eq]

theorem ddrHome (a : Nat) : ddrHome t a = ddrHome s a := by
  unfold Machine.ddrHome
  rw [h.ddrMirror, h.ddrCap_eq]

theorem ddrGone (a : Nat) : ddrGone t a = ddrGone s a := by
  unfold Machine.ddrGone
  rw [h.ddrHome, h.ddrMirror, h.chLost, h.chLost]

theorem ddrFails (w : Nat) : ddrFails t w = ddrFails s w := by
  unfold Machine.ddrFails eccMark
  rw [h.ecc_eq, h.ddrHome, h.chLost, h.fld _ (by decide)]

theorem ddrClock (a : Nat) : ddrClock t a = ddrClock s a := by
  unfold Machine.ddrClock
  rw [h.ddrHome, h.clockOn, h.clockOn]

theorem tileOn (t' : Nat) : tileOn t t' = tileOn s t' := by
  unfold Machine.tileOn
  rw [h.fld _ (by decide)]

theorem placeOf (a n : Nat) : placeOf t a n = placeOf s a n := by
  unfold Machine.placeOf tileAnswers
  rw [h.ddrLimit, h.ddrClock]
  simp only [h.tileOn, h.clockOn]

theorem ddrCount (w : Nat) : BesideQm (ddrCount s w) (ddrCount t w) := by
  unfold Machine.ddrCount
  rw [h.ddrFails]
  split
  · exact h.incSat (by decide) _
  · exact h

theorem each_ddrCount (l : List Nat) : BesideQm (s.each l Machine.ddrCount) (t.each l Machine.ddrCount) := by
  induction l generalizing s t with
  | nil => exact h
  | cons w l ih => exact ih (h.ddrCount w)

omit h in
theorem foldl_ddrByte (l : List Nat) {r q : List Byte × State} (h1 : q.1 = r.1) (h2 : BesideQm r.2 q.2) :
    (l.foldl ddrByte q).1 = (l.foldl ddrByte r).1 := by
  induction l generalizing r q with
  | nil => exact h1
  | cons a l ih =>
    rw [List.foldl_cons, List.foldl_cons]
    unfold ddrByte
    rw [h2.ddrGone]
    split
    · exact ih (by rw [h1, h2.free]) h2.freeNext
    · exact ih (by rw [h1, h2.byte]) h2

theorem ddrRead (a n : Nat) : (ddrRead t a n).data = (ddrRead s a n).data ∧ (ddrRead t a n).ecc = (ddrRead s a n).ecc := by
  refine ⟨foldl_ddrByte _ rfl (h.each_ddrCount _), ?_⟩
  unfold Machine.ddrRead
  simp only [h.ddrGone, h.ddrFails, h.ddrMirror]

theorem tileReg {a : Nat} (ha : a < 0x2000000000) : t.reg a = s.reg a := h.reg a fun e => by
  rw [e] at ha
  exact absurd ha (by decide)

theorem readAddr {t' b : Nat} (ht : t' < 256) (hb : b ≤ 8) (off : Nat) : readAddr t t' b off = readAddr s t' b off := by
  have hr : t.reg (bkTest t' b) = s.reg (bkTest t' b) := by
    refine h.tileReg ?_
    unfold bkTest
    split <;> simp only [TL_t_BK_b_TEST, TL_t_CB_TEST] <;> omega
  unfold Machine.readAddr inWindow windowOpen windowNo arrayAddr spareOf
  rw [flag_of_reg_eq hr, fld_of_reg_eq hr, h.spareRow_eq]

theorem bankRead {t' b : Nat} (ht : t' < 256) (hb : b ≤ 8) (off n : Nat) : (bankRead t t' b off n).1 = (bankRead s t' b off n).1 := by
  unfold Machine.bankRead
  simp only [h.readAddr ht hb, h.byte]

theorem ownedRead {t' b : Nat} (ht : t' < 256) (hb : b ≤ 8) (code off n : Nat) :
    (ownedRead t t' b code off n).1 = (ownedRead s t' b code off n).1 := by
  have hr : t.reg (TL_t_BK_b_OWNER t' b) = s.reg (TL_t_BK_b_OWNER t' b) := h.tileReg (by simp only [TL_t_BK_b_OWNER]; omega)
  unfold Machine.ownedRead ownerServes ownerCur ownerBusy
  rw [flag_of_reg_eq hr, fld_of_reg_eq hr]
  split
  · exact h.bankRead ht hb off n
  · rfl

theorem memRead (a n : Nat) : (memRead t a n).data = (memRead s a n).data ∧ (memRead t a n).ecc = (memRead s a n).ecc := by
  unfold Machine.memRead
  rw [h.placeOf]
  split
  · exact h.ddrRead a n
  next t' b off hp =>
    obtain ⟨ht, hb⟩ := placeOf_bank hp
    refine ⟨?_, rfl⟩
    dsimp only
    split
    · exact h.bankRead ht hb off n
    · exact h.ownedRead ht hb 6 off n
  · exact ⟨rfl, rfl⟩

/-- What an engine reads does not depend on the queue manager. -/
theorem engRead (port a n : Nat) : (engRead port t a n).data = (engRead port s a n).data ∧ (engRead port t a n).ecc = (engRead port s a n).ecc := by
  have step (u : State) : (Machine.engRead port u a n).data = (Machine.memRead u a n).data ∧
      (Machine.engRead port u a n).ecc = (Machine.memRead u a n).ecc := by
    unfold Machine.engRead
    dsimp only
    split <;> exact ⟨rfl, rfl⟩
  exact ⟨(step t).1.trans ((h.memRead a n).1.trans (step s).1.symm), (step t).2.trans ((h.memRead a n).2.trans (step s).2.symm)⟩

end BesideQm

end Sys2Proof.Machine
end

section

/-! SUPPORT. The queue manager: the descriptor cache, the watch table and what a doorbell leaves (chapter 10). -/

namespace Sys2Proof.Machine
open R

/-! ### Tables searched by key -/

section Find
variable {α : Type} [DecidableEq α] {d v : α} (hv : v ≠ d) (t : List (Nat × α)) (a : Nat)
include hv

theorem find_tput_same : (tput d t a v).find? (fun e => e.1 = a) = some (a, v) := by
  induction t with
  | nil => simp [tput, hv]
  | cons e t ih =>
    obtain ⟨k, w⟩ := e
    unfold tput
    split
    · simp
    · split
      · simp
      next h => simpa [Ne.symm h] using ih

theorem find_tput_other {b : Nat} (hb : b ≠ a) : (tput d t a v).find? (fun e => e.1 = b) = t.find? (fun e => e.1 = b) := by
  have hab : ¬ a = b := fun h => hb h.symm
  induction t with
  | nil => simp [tput, hv, hab]
  | cons e t ih =>
    obtain ⟨k, w⟩ := e
    unfold tput
    split
    · simp [hab]
    · split
      next h =>
        have hkb : ¬ k = b := fun hk => hab (h.trans hk)
        simp [hab, hkb]
      next =>
        rw [List.find?_cons, List.find?_cons, ih]

/-- Entries of other keys, in their order. -/
theorem filter_tput_other : (tput d t a v).filter (fun e => e.1 ≠ a) = t.filter (fun e => e.1 ≠ a) := by
  induction t with
  | nil => simp [tput, hv]
  | cons e t ih =>
    obtain ⟨k, w⟩ := e
    unfold tput
    split
    · simp
    · split
      next h => simp [h]
      next => rw [List.filter_cons, List.filter_cons, ih]

end Find

/-! ### The descriptor cache -/

/-- What the cache's table takes for no descriptor. -/
def noDesc : Desc := { emptyDesc with age := 0, owner := 0x100 }

theorem ne_noDesc_of_age {d : Desc} (h : d.age ≠ 0) : d ≠ noDesc := fun e => h (by rw [e]; rfl)
theorem ne_noDesc_of_dirty {d : Desc} (h : d.dirty = true) : d ≠ noDesc := fun e => by rw [e] at h; exact nomatch h

section Cache
variable (s : State) (q : Nat) (d : Desc) (f : Desc → Desc)

theorem cachedDesc_of_cache_eq {s t : State} (h : t.qm.cache = s.qm.cache) (x : Nat) : cachedDesc t x = cachedDesc s x := by
  rw [cachedDesc, h, cachedDesc]

theorem cachedDesc_putCache_same (hd : d ≠ noDesc) : cachedDesc (putCache q d s) q = some d :=
  congrArg (Option.map Prod.snd) (find_tput_same hd s.qm.cache q)

theorem cachedDesc_putCache_other (hd : d ≠ noDesc) {x : Nat} (hx : x ≠ q) : cachedDesc (putCache q d s) x = cachedDesc s x :=
  congrArg (Option.map Prod.snd) (find_tput_other hd s.qm.cache q hx)

theorem descOf_of_cached {s : State} {q : Nat} {d : Desc} (h : cachedDesc s q = some d) : descOf s q = d := by
  rw [descOf, h, Option.getD_some]

theorem cached_descOf {s : State} {q : Nat} (h : (cachedDesc s q).isSome = true) : cachedDesc s q = some (descOf s q) := by
  obtain ⟨d, hd⟩ := Option.isSome_iff_exists.1 h
  rw [descOf_of_cached hd, hd]

theorem updateDesc_eq {s : State} {q : Nat} (h : (cachedDesc s q).isSome = true) :
    updateDesc q f s = (putCache q { f (descOf s q) with dirty := true } s).mapQm (fun m => { m with
      nonEmpty := tput false m.nonEmpty q (decide ((f (descOf s q)).count ≠ 0)) }) := by
  unfold updateDesc
  rw [cached_descOf h]

theorem updateDesc_rest : ∃ c n, updateDesc q f s = { s with qm := { s.qm with cache := c, nonEmpty := n } } := by
  unfold updateDesc
  split
  · exact ⟨_, _, rfl⟩
  · exact ⟨s.qm.cache, s.qm.nonEmpty, rfl⟩

theorem cachedDesc_updateDesc_same {s : State} {q : Nat} (h : (cachedDesc s q).isSome = true) :
    cachedDesc (updateDesc q f s) q = some { f (descOf s q) with dirty := true } := by
  rw [updateDesc_eq f h]
  exact cachedDesc_putCache_same s q _ (ne_noDesc_of_dirty rfl)

theorem cachedDesc_updateDesc_other {x : Nat} (hx : x ≠ q) : cachedDesc (updateDesc q f s) x = cachedDesc s x := by
  unfold updateDesc
  split
  · exact cachedDesc_putCache_other s q _ (ne_noDesc_of_dirty rfl) hx
  · rfl

theorem descOf_updateDesc_same {s : State} {q : Nat} (h : (cachedDesc s q).isSome = true) :
    descOf (updateDesc q f s) q = { f (descOf s q) with dirty := true } := descOf_of_cached (cachedDesc_updateDesc_same f h)

theorem descOf_updateDesc_other {x : Nat} (hx : x ≠ q) : descOf (updateDesc q f s) x = descOf s x := by
  rw [descOf, cachedDesc_updateDesc_other s q f hx, descOf]

theorem queueHas_updateDesc_same {s : State} {q : Nat} (h : (cachedDesc s q).isSome = true) :
    queueHas (updateDesc q f s) q = decide ((f (descOf s q)).count ≠ 0) := by
  rw [updateDesc_eq f h]
  exact tget_tput_same ..

theorem updateDesc_isSome (x : Nat) : (cachedDesc (updateDesc q f s) x).isSome = (cachedDesc s x).isSome := by
  by_cases hx : x = q
  · subst hx
    cases h : (cachedDesc s x).isSome with
    | true => rw [cachedDesc_updateDesc_same f h]; rfl
    | false =>
      have hn : cachedDesc s x = none := by simpa using h
      have : updateDesc x f s = s := by
        unfold updateDesc
        rw [hn]
      rw [this, h]
  · rw [cachedDesc_updateDesc_other s q f hx]

theorem updateDesc_reg (a : Nat) : (updateDesc q f s).reg a = s.reg a := by
  obtain ⟨_, _, h⟩ := updateDesc_rest s q f
  rw [h]
  rfl

theorem updateDesc_mem : (updateDesc q f s).mem = s.mem := by
  obtain ⟨_, _, h⟩ := updateDesc_rest s q f
  rw [h]

theorem updateDesc_freeHead : (updateDesc q f s).qm.freeHead = s.qm.freeHead := by
  obtain ⟨_, _, h⟩ := updateDesc_rest s q f
  rw [h]

theorem updateDesc_waiting : (updateDesc q f s).qm.waiting = s.qm.waiting := by
  obtain ⟨_, _, h⟩ := updateDesc_rest s q f
  rw [h]

end Cache

theorem freeCount_of_reg_eq {s t : State} (h : t.reg QM_FREE_CNT = s.reg QM_FREE_CNT) : freeCount t = freeCount s := fld_of_reg_eq h _

theorem freeCount_updateDesc (s : State) (q : Nat) (f : Desc → Desc) : freeCount (updateDesc q f s) = freeCount s :=
  freeCount_of_reg_eq (updateDesc_reg s q f _)

/-! ### Links between elements (R247) -/

theorem fst_of_eq {α β : Type} {p : α × β} {a : α} {b : β} (h : p = (a, b)) : p.1 = a := by rw [h]
theorem snd_of_eq {α β : Type} {p : α × β} {a : α} {b : β} (h : p = (a, b)) : p.2 = b := by rw [h]

section Links
variable (s : State) (i : Nat)

theorem readLink_tuple : readLink s i =
    (leNat (engRead 32 s (linkAddr s i) 4).data % 2 ^ 24, (engRead 32 s (linkAddr s i) 4).ecc, (engRead 32 s (linkAddr s i) 4).s) := by
  unfold readLink
  exact rfl

theorem readLink_value : (readLink s i).1 = leNat (engRead 32 s (linkAddr s i) 4).data % 2 ^ 24 := fst_of_eq (readLink_tuple s i)
theorem readLink_bad : (readLink s i).2.1 = (engRead 32 s (linkAddr s i) 4).ecc := fst_of_eq (snd_of_eq (readLink_tuple s i))
theorem readLink_state : (readLink s i).2.2 = (engRead 32 s (linkAddr s i) 4).s := snd_of_eq (snd_of_eq (readLink_tuple s i))

/-- Reading a link leaves memory and the queue manager. -/
theorem readLink_memAccess : MemAccess s (readLink s i).2.2 ∧ (readLink s i).2.2.mem = s.mem := by
  rw [readLink_state]
  exact engRead_memAccess ..

theorem writeLink_eq (n : Nat) : writeLink i n s = (engWrite 32 s (linkAddr s i) (leBytes 4 (n % 2 ^ 24))).2 := by
  delta writeLink
  exact memPut_eq ..

theorem writeLink_memAccess (n : Nat) : MemAccess s (writeLink i n s) := by
  rw [writeLink_eq]
  exact engWrite_memAccess ..

/-- A link written to DDR5 is there. -/
theorem num_writeLink {n : Nat} (h : placeOf s (linkAddr s i) 4 = .ddr) : (writeLink i n s).num (linkAddr s i) 4 = n % 2 ^ 24 := by
  have hlen : (leBytes 4 (n % 2 ^ 24)).length = 4 := leBytes_length ..
  have hw : writeLink i n s = ddrWrite s (linkAddr s i) (leBytes 4 (n % 2 ^ 24)) :=
    (writeLink_eq s i n).trans (snd_of_eq (engWrite_ddr 32 (by rw [hlen]; exact h)))
  rw [hw, num_of_mem_eq (ddrWrite_mem ..), State.num]
  have hb := bytes_setBytes (leBytes 4 (n % 2 ^ 24)) s (linkAddr s i)
  rw [hlen] at hb
  rw [hb, leNat_leBytes]
  exact Nat.mod_eq_of_lt (lt_of_lt_of_le (Nat.mod_lt _ (by decide)) (by decide))

end Links

/-! ### Uses of cached descriptors (R248) -/

/-- `t` is `s` after uses of cached descriptors: their ages, and the count of hits. -/
structure Touched (s t : State) : Prop where
  beside : BesideQm s t
  desc : ∀ x, ∃ a, cachedDesc t x = (cachedDesc s x).map (fun d => { d with age := a })
  qm : { t.qm with cache := s.qm.cache, uses := s.qm.uses } = s.qm

theorem BesideQm.refl (s : State) : BesideQm s s := ⟨rfl, fun _ _ => rfl⟩

theorem BesideQm.trans {s t u : State} (h : BesideQm s t) (k : BesideQm t u) : BesideQm s u :=
  ⟨(congrArg (fun x : State => { x with regs := s.regs, qm := s.qm }) k.rest).trans h.rest,
    fun a ha => (k.reg a ha).trans (h.reg a ha)⟩

namespace Touched
variable {s t u : State}

theorem refl (s : State) : Touched s s := ⟨.refl s, fun x => by
  cases h : cachedDesc s x with
  | none => exact ⟨0, rfl⟩
  | some d => exact ⟨d.age, rfl⟩, rfl⟩

theorem trans (h : Touched s t) (k : Touched t u) : Touched s u := by
  refine ⟨h.beside.trans k.beside, fun x => ?_, ?_⟩
  · obtain ⟨a, ha⟩ := h.desc x
    obtain ⟨b, hb⟩ := k.desc x
    refine ⟨b, ?_⟩
    rw [hb, ha, Option.map_map]
    rfl
  · exact (congrArg (fun m : Qm => { m with cache := s.qm.cache, uses := s.qm.uses }) k.qm).trans h.qm

theorem descOf_eq (h : Touched s t) (x : Nat) : ∃ a, descOf t x = { descOf s x with age := a } := by
  obtain ⟨a, ha⟩ := h.desc x
  cases hx : cachedDesc s x with
  | none =>
    rw [hx] at ha
    refine ⟨0, ?_⟩
    rw [descOf, ha, descOf, hx]
    rfl
  | some d =>
    rw [hx] at ha
    refine ⟨a, ?_⟩
    rw [descOf, ha, descOf, hx]
    rfl

theorem isSome_eq (h : Touched s t) (x : Nat) : (cachedDesc t x).isSome = (cachedDesc s x).isSome := by
  obtain ⟨a, ha⟩ := h.desc x
  rw [ha, Option.isSome_map]

theorem sameQueue (h : Touched s t) {x : Nat} (hu : descOf u x = descOf t x) : SameQueue x s u := by
  obtain ⟨a, ha⟩ := h.descOf_eq x
  rw [SameQueue, hu, ha]

theorem count_eq (h : Touched s t) (x : Nat) : (descOf t x).count = (descOf s x).count := by
  obtain ⟨a, ha⟩ := h.descOf_eq x
  rw [ha]

theorem head_eq (h : Touched s t) (x : Nat) : (descOf t x).head = (descOf s x).head := by
  obtain ⟨a, ha⟩ := h.descOf_eq x
  rw [ha]

theorem tail_eq (h : Touched s t) (x : Nat) : (descOf t x).tail = (descOf s x).tail := by
  obtain ⟨a, ha⟩ := h.descOf_eq x
  rw [ha]

theorem owner_eq (h : Touched s t) (x : Nat) : (descOf t x).owner = (descOf s x).owner := by
  obtain ⟨a, ha⟩ := h.descOf_eq x
  rw [ha]

theorem overLimit_eq (h : Touched s t) (x n : Nat) : overLimit (descOf t x) n = overLimit (descOf s x) n := by
  obtain ⟨a, ha⟩ := h.descOf_eq x
  rw [ha]
  rfl

theorem freeCount_eq (h : Touched s t) : freeCount t = freeCount s := freeCount_of_reg_eq (h.beside.reg _ (by decide))
theorem poolSize_eq (h : Touched s t) : poolSize t = poolSize s := fld_of_reg_eq (h.beside.reg _ (by decide)) _
theorem freeHead_eq (h : Touched s t) : t.qm.freeHead = s.qm.freeHead := (congrArg Qm.freeHead h.qm :)
theorem waiting_eq (h : Touched s t) : t.qm.waiting = s.qm.waiting := (congrArg Qm.waiting h.qm :)

theorem linkAddr_eq (h : Touched s t) (i : Nat) : linkAddr t i = linkAddr s i := by
  unfold linkAddr qmPool
  rw [h.beside.fld _ (by decide), h.beside.fld _ (by decide)]

theorem readLink_eq (h : Touched s t) (i : Nat) : (readLink t i).1 = (readLink s i).1 ∧ (readLink t i).2.1 = (readLink s i).2.1 := by
  obtain ⟨hdata, hecc⟩ := h.beside.engRead 32 (linkAddr s i) 4
  rw [readLink_value, readLink_value, readLink_bad, readLink_bad, h.linkAddr_eq, hdata, hecc]
  exact ⟨rfl, rfl⟩

end Touched

theorem touchDesc_cached {q : Nat} {s : State} (h : (cachedDesc s q).isSome = true) :
    ∃ t, touchDesc q s = (false, t) ∧ Touched s t := by
  have hd : { descOf s q with age := s.qm.uses + 1 } ≠ noDesc := ne_noDesc_of_age (Nat.succ_ne_zero _)
  have hp : Touched s (putCache q { descOf s q with age := s.qm.uses + 1 } s) := by
    refine ⟨⟨rfl, fun _ _ => rfl⟩, fun x => ?_, rfl⟩
    by_cases hx : x = q
    · subst hx
      refine ⟨s.qm.uses + 1, ?_⟩
      rw [cachedDesc_putCache_same _ _ _ hd, cached_descOf h]
      rfl
    · rw [cachedDesc_putCache_other _ _ _ hd hx]
      exact (Touched.refl s).desc x
  unfold touchDesc
  rw [cached_descOf h]
  exact ⟨_, rfl, ⟨⟨rfl, fun _ _ => rfl⟩, hp.desc, rfl⟩⟩

theorem touchAll_cached {l : List Nat} {s : State} (h : ∀ q ∈ l, (cachedDesc s q).isSome = true) :
    ∃ t, touchAll l s = (false, t) ∧ Touched s t := by
  unfold touchAll
  induction l generalizing s with
  | nil => exact ⟨s, rfl, .refl s⟩
  | cons q l ih =>
    obtain ⟨t, ht, k⟩ := touchDesc_cached (h q (List.mem_cons_self ..))
    obtain ⟨u, hu, k'⟩ := ih (s := t) fun x hx => (k.isSome_eq x).trans (h x (List.mem_cons_of_mem _ hx))
    refine ⟨u, ?_, k.trans k'⟩
    rw [List.foldl_cons, ← hu]
    dsimp only
    rw [ht]
    rfl

theorem countCache_cached {l : List Nat} {s : State} (h : ∀ q ∈ l, (cachedDesc s q).isSome = true) : Touched s (countCache l s) := by
  unfold countCache
  induction l generalizing s with
  | nil => exact .refl s
  | cons q l ih =>
    have hstep : Touched s (s.incSat QM_CACHE_HIT QM_CACHE_HIT_COUNT) := by
      have hq : (s.incSat QM_CACHE_HIT QM_CACHE_HIT_COUNT).qm = s.qm := by
        unfold State.incSat
        split <;> rfl
      refine ⟨⟨?_, fun a ha => incSat_reg_other _ _ _ _ ha⟩, fun x => ?_, by rw [hq]⟩
      · unfold State.incSat
        split <;> rfl
      · rw [cachedDesc_of_cache_eq (congrArg Qm.cache hq)]
        exact (Touched.refl s).desc x
    rw [List.foldl_cons, if_pos (h q (List.mem_cons_self ..))]
    exact hstep.trans (ih fun x hx => (hstep.isSome_eq x).trans (h x (List.mem_cons_of_mem _ hx)))

/-! ### The watch table (R257, R258) -/

/-- `u` is `s` but for the Sumac processors and registers below the map of the exchange. -/
structure ProcEvent (s u : State) : Prop where
  rest : { u with regs := s.regs, cpu := s.cpu } = s
  reg : ∀ a, 0x2000200000 ≤ a → u.reg a = s.reg a

namespace ProcEvent
variable {s u v : State}

theorem refl (s : State) : ProcEvent s s := ⟨rfl, fun _ _ => rfl⟩

theorem trans (h : ProcEvent s u) (k : ProcEvent u v) : ProcEvent s v :=
  ⟨(congrArg (fun x : State => { x with regs := s.regs, cpu := s.cpu }) k.rest).trans h.rest,
    fun a ha => (k.reg a ha).trans (h.reg a ha)⟩

theorem setProcSt {p : Nat} (hp : p < 96) (h : ProcEvent s u) (x : Nat) : ProcEvent s (setProcSt u p x) := by
  refine ⟨h.rest, fun a ha => (reg_setFld_other _ _ _ _ _ ?_).trans (h.reg a ha)⟩
  unfold procStat clove
  rw [if_neg (by omega)]
  simp only [SU_c_p_STAT]
  omega

theorem setProc (h : ProcEvent s u) (p : Nat) (c : Cpu) : ProcEvent s (u.setProc p c) := ⟨h.rest, h.reg⟩

end ProcEvent

theorem boundary_sumac {p : Nat} (hp : p < 96) (s : State) : ProcEvent s (boundary p s) := by
  have hne : p ≠ clove := by
    unfold clove
    omega
  unfold boundary
  split
  · exact .refl s
  · split
    · exact ((ProcEvent.refl s).setProc p _).setProcSt hp 3
    · have hsw : dispatchSwap p s = s := if_neg fun h => hne h.1
      dsimp only
      rw [hsw, if_neg fun h => hne h.1]
      exact .refl s

theorem evSet_sumac {p : Nat} (hp : p < 96) (b : Nat) (s : State) : ProcEvent s (evSet p b s) := by
  have h := (ProcEvent.refl s).setProc p ((s.proc p).setSp 12 (setBits ((s.proc p).sp 12) b 1 1))
  unfold evSet evWake
  split
  · dsimp only
    split
    · exact h
    · exact ((h.setProc p _).setProcSt hp 1).trans (boundary_sumac hp _)
  · exact h

theorem evWatch_event (w : Nat) (s : State) : ProcEvent s (evWatch w s) :=
  each_induction (P := ProcEvent s) (.refl s) fun u p hp h => by
    dsimp only
    split
    · exact h.trans (evSet_sumac (List.mem_range.1 hp) 5 u)
    · exact h

/-- `u` is `s` after events of the watch table: their pending bits, and what the processors make of them. -/
structure WatchOnly (s u : State) : Prop where
  rest : { u with regs := s.regs, cpu := s.cpu } = s
  reg : ∀ a, 0x2000200000 ≤ a → (a < 0x200044D000 ∨ 0x200044D200 ≤ a) → u.reg a = s.reg a

namespace WatchOnly
variable {s u v : State}

theorem refl (s : State) : WatchOnly s s := ⟨rfl, fun _ _ _ => rfl⟩

theorem trans (h : WatchOnly s u) (k : WatchOnly u v) : WatchOnly s v :=
  ⟨(congrArg (fun x : State => { x with regs := s.regs, cpu := s.cpu }) k.rest).trans h.rest,
    fun a ha hb => (k.reg a ha hb).trans (h.reg a ha hb)⟩

theorem qm_eq (h : WatchOnly s u) : u.qm = s.qm := (congrArg State.qm h.rest :)
theorem mem_eq (h : WatchOnly s u) : u.mem = s.mem := (congrArg State.mem h.rest :)

theorem cachedDesc_eq (h : WatchOnly s u) (x : Nat) : cachedDesc u x = cachedDesc s x :=
  cachedDesc_of_cache_eq (congrArg Qm.cache h.qm_eq) x

theorem config_eq (h : WatchOnly s u) {w : Nat} (hw : w < 4096) : u.reg (QM_W_w_CFG w) = s.reg (QM_W_w_CFG w) := by
  refine h.reg _ ?_ (.inl ?_) <;> simp only [QM_W_w_CFG] <;> omega

theorem watchLevel_eq (h : WatchOnly s u) {w : Nat} (hw : w < 4096) : watchLevel u w = watchLevel s w := by
  have hr := h.config_eq hw
  unfold watchLevel queueHas
  dsimp only
  rw [flag_of_reg_eq hr, flag_of_reg_eq hr, fld_of_reg_eq hr, h.qm_eq]

end WatchOnly

theorem evWatch_pend (w j : Nat) (s : State) : (evWatch w s).reg (QM_W_PEND_i j) = s.reg (QM_W_PEND_i j) :=
  (evWatch_event w s).reg _ (by simp only [QM_W_PEND_i]; omega)

/-- One entry of the watch table is looked at. -/
def watchStep (s : State) (w : Nat) : State :=
  if watchLevel s w && !s.flag (QM_W_PEND_i (w / 32)) ⟨w % 32, 1⟩ then
    evWatch w (s.setFld (QM_W_PEND_i (w / 32)) ⟨w % 32, 1⟩ 1)
  else s

theorem watchSettle_eq (s : State) : watchSettle s = (s.listed (QM_W_w_CFG 0) 4 4096).foldl watchStep s := rfl

theorem watchStep_only {w : Nat} (hw : w < 4096) (s : State) : WatchOnly s (watchStep s w) := by
  unfold watchStep
  split
  · have k := evWatch_event w (s.setFld (QM_W_PEND_i (w / 32)) ⟨w % 32, 1⟩ 1)
    refine ⟨(congrArg (fun x : State => { x with regs := s.regs }) k.rest :), fun a ha hb => (k.reg a ha).trans (reg_setFld_other _ _ _ _ _ ?_)⟩
    simp only [QM_W_PEND_i]
    omega
  · exact .refl s

/-- The pending bit of entry `w`. -/
def watchPend (s : State) (w : Nat) : Nat := s.fld (QM_W_PEND_i (w / 32)) ⟨w % 32, 1⟩

theorem watchStep_pend_same {w : Nat} (s : State) : watchPend (watchStep s w) w = if watchLevel s w then 1 else watchPend s w := by
  have hbit : w % 32 + 1 ≤ 32 := by omega
  unfold watchStep watchPend
  cases hl : watchLevel s w with
  | false => rfl
  | true =>
    cases hf : s.flag (QM_W_PEND_i (w / 32)) ⟨w % 32, 1⟩ with
    | true => exact (flag_eq_true_iff s _ rfl).1 hf
    | false => exact (fld_of_reg_eq (evWatch_pend w _ _) _).trans (fld_setFld_of_lt _ _ _ _ hbit (by decide : 1 < 2 ^ 1))

theorem watchStep_pend_other {w x : Nat} (s : State) (h : x ≠ w) : watchPend (watchStep s w) x = watchPend s x := by
  unfold watchStep watchPend
  split
  · refine (fld_of_reg_eq (evWatch_pend w _ _) _).trans ?_
    by_cases hd : x / 32 = w / 32
    · rw [hd]
      exact fld_setFld_ne _ _ _ _ _ (show w % 32 + 1 ≤ 32 by omega) (show w % 32 + 1 ≤ x % 32 ∨ x % 32 + 1 ≤ w % 32 by omega)
    · refine fld_setFld_other _ _ _ _ _ _ ?_
      simp only [QM_W_PEND_i]
      omega
  · rfl

theorem watchFold_only {l : List Nat} (hl : ∀ w ∈ l, w < 4096) (s : State) : WatchOnly s (l.foldl watchStep s) := by
  induction l generalizing s with
  | nil => exact .refl s
  | cons w l ih =>
    exact (watchStep_only (hl w (List.mem_cons_self ..)) s).trans (ih (fun x hx => hl x (List.mem_cons_of_mem _ hx)) _)

/-- R257: the pending bits after a look at the entries of `l`. -/
theorem watchFold_pend {l : List Nat} (hl : ∀ w ∈ l, w < 4096) (s : State) {x : Nat} (hx : x < 4096) :
    watchPend (l.foldl watchStep s) x = if x ∈ l ∧ watchLevel s x = true then 1 else watchPend s x := by
  induction l generalizing s with
  | nil => simp
  | cons w l ih =>
    have hlev : watchLevel (watchStep s w) x = watchLevel s x := (watchStep_only (hl w (List.mem_cons_self ..)) s).watchLevel_eq hx
    rw [List.foldl_cons, ih (fun y hy => hl y (List.mem_cons_of_mem _ hy)), hlev]
    by_cases hxw : x = w
    · subst hxw
      rw [watchStep_pend_same]
      by_cases hs : watchLevel s x = true <;> simp [hs]
    · rw [watchStep_pend_other s hxw]
      simp [hxw]

theorem watchSettle_only (s : State) : WatchOnly s (watchSettle s) :=
  watchFold_only (fun _ h => lt_of_mem_listed h) s

theorem regRowsAt_QM {a : Nat} (h : 0x2000448000 ≤ a) (h' : a < 0x2000450000) : regRowsAt a = regRowsQM := by
  unfold regRowsAt
  repeat rw [if_neg (by omega)]
  exact if_pos h'

theorem regRow_QM_W_w_CFG {w : Nat} (h : w < 4096) :
    regRow (QM_W_w_CFG w) = some (⟨0x2000449000, [(4096, 0x4)], 0x0, [], [⟨0, 20, .rw⟩, ⟨30, 2, .rw⟩]⟩, [w]) := by
  unfold regRow QM_W_w_CFG
  rw [regRowsAt_QM (by omega) (by omega)]
  unfold regRowsQM
  simp (disch := omega) only [findRow_past_one, findRow_at]

theorem regRow_QM_W_PEND_i {i : Nat} (h : i < 128) :
    regRow (QM_W_PEND_i i) = some (⟨0x200044D000, [(128, 0x4)], 0x0, [], [⟨0, 32, .w1c⟩]⟩, [i]) := by
  unfold regRow QM_W_PEND_i
  rw [regRowsAt_QM (by omega) (by omega)]
  unfold regRowsQM
  simp (disch := omega) only [findRow_past_one, findRow_past, findRow_at]

theorem resetValue_QM_W_w_CFG {w : Nat} (h : w < 4096) : resetValue (QM_W_w_CFG w) = 0 := by
  refine resetValue_of_regRow ?_ ?_ ?_ ?_ ?_ (regRow_QM_W_w_CFG h) <;>
    simp only [QM_W_w_CFG, IC_SRC_s_CFG, IC_SRC_s_MASK_HI, IC_EN_SET_i, MB_i_PERM] <;> omega

theorem mem_listed_of_watchLevel {s : State} {w : Nat} (hw : w < 4096) (h : watchLevel s w = true) :
    w ∈ s.listed (QM_W_w_CFG 0) 4 4096 := by
  have hne : s.reg (QM_W_w_CFG w) ≠ 0 := by
    intro h0
    unfold watchLevel at h
    dsimp only at h
    rw [flag_eq, State.fld, h0] at h
    exact nomatch h
  rw [State.reg, resetValue_QM_W_w_CFG hw] at hne
  obtain ⟨v, hv⟩ := mem_of_tget_ne hne
  exact mem_listed (by decide) hw (v := v) (by simpa [QM_W_w_CFG] using hv)

/-- R257: after a look at the table the bit of an entry whose level is high is set; every other bit stays. -/
theorem watchSettle_pend (s : State) {w : Nat} (hw : w < 4096) :
    watchPend (watchSettle s) w = if watchLevel s w then 1 else watchPend s w := by
  rw [watchSettle_eq, watchFold_pend (fun _ h => lt_of_mem_listed h) s hw]
  by_cases h : watchLevel s w = true
  · rw [if_pos ⟨mem_listed_of_watchLevel hw h, h⟩, if_pos h]
  · rw [if_neg fun k => h k.2, if_neg h]

/-! ### What a finished operation leaves (R252, R253) -/

theorem qmRecord_onlyRegs (op q st : Nat) (s : State) : OnlyRegs [QM_ERR, QM_ERR_Q] s (qmRecord op q st s) := by
  unfold qmRecord
  split
  · exact onlyRegs_refl _ s
  · dsimp only
    split
    · exact ((onlyRegs_refl _ s).setFlds (by simp) _).setFld (by simp) _ _
    · exact (onlyRegs_refl _ s).setFld (by simp) _ _

section Finish
variable (ag : Agent) (op q : Nat) (r : QmOut)

/-- The state before the result word is given. -/
def qmSettled : State := watchSettle (qmRecord op q r.status r.s)

theorem qmSettled_qm : (qmSettled op q r).qm = r.s.qm :=
  (watchSettle_only _).qm_eq.trans (congrArg State.qm (qmRecord_onlyRegs op q r.status r.s).1 :)

theorem qmFinish_mem : (qmFinish ag op q r).mem = r.s.mem :=
  (watchSettle_only _).mem_eq.trans (qmRecord_onlyRegs op q r.status r.s).mem_eq

theorem qmFinish_cachedDesc (x : Nat) : cachedDesc (qmFinish ag op q r) x = cachedDesc r.s x :=
  cachedDesc_of_cache_eq (congrArg Qm.cache (qmSettled_qm op q r)) x

theorem qmFinish_descOf (x : Nat) : descOf (qmFinish ag op q r) x = descOf r.s x := by
  rw [descOf, qmFinish_cachedDesc, descOf]

theorem qmFinish_queueHas (x : Nat) : queueHas (qmFinish ag op q r) x = queueHas r.s x :=
  (congrArg (fun m : Qm => tget false m.nonEmpty x) (qmSettled_qm op q r) :)

theorem qmFinish_freeHead : (qmFinish ag op q r).qm.freeHead = r.s.qm.freeHead := (congrArg Qm.freeHead (qmSettled_qm op q r) :)

theorem qmFinish_waiting : (qmFinish ag op q r).qm.waiting = r.s.qm.waiting := (congrArg Qm.waiting (qmSettled_qm op q r) :)

theorem qmFinish_result : qmResult ag (qmFinish ag op q r) = qmWord r.status r.value := tget_tput_same ..

theorem qmFinish_reg {a : Nat} (ha : 0x2000448000 ≤ a) (hb : a < 0x200044D000) :
    (qmFinish ag op q r).reg a = (qmRecord op q r.status r.s).reg a :=
  (watchSettle_only _).reg a (by omega) (.inl hb)

theorem qmFinish_freeCount : freeCount (qmFinish ag op q r) = freeCount r.s := by
  refine freeCount_of_reg_eq ((qmFinish_reg ag op q r (by decide) (by decide)).trans ?_)
  exact (qmRecord_onlyRegs op q r.status r.s).2 _ (by decide)

end Finish

/-! ### Doorbells with their descriptors in the cache -/

/-- What an operation comes to, its descriptors brought into the cache. -/
def qmOutcome (ag : Agent) (op q data : Nat) (t : State) : QmOut :=
  if qmCheck ag op q data t ≠ 0 then qmFail (qmCheck ag op q data t) t else qmAct op q data t

theorem qmEarly_ready {l : List Nat} {s : State} (h : QmReady l s) {op q : Nat} (hop : op < 10) (hq : op = 8 ∨ op = 9 → q = 0) :
    qmEarly op q true s = 0 := by
  obtain ⟨hen, hd, hp, -, -⟩ := h
  have h1 : s.flag QM_CTL QM_CTL_EN = true := (flag_eq_true_iff s _ rfl).2 hen
  have h2 := (flag_eq_false_iff ..).2 hd
  have h3 := (flag_eq_false_iff ..).2 hp
  unfold qmEarly
  rw [h1, h2, h3, if_neg (by decide), if_neg]
  simp only [Bool.not_true, Bool.false_or, Bool.or_eq_true, Bool.and_eq_true, decide_eq_true_eq, not_or, not_and, not_not, not_le]
  exact ⟨hop, hq⟩

theorem qmRun_cached {ag : Agent} {op q data : Nat} {s : State} (h : ∀ x ∈ qmQueues op q data, (cachedDesc s x).isSome = true) :
    ∃ t, Touched s t ∧ qmRun ag op q data s = qmOutcome ag op q data t := by
  obtain ⟨t, ht, k⟩ := touchAll_cached h
  refine ⟨t, k, ?_⟩
  unfold qmRun
  rw [ht]
  rfl

theorem doDoorbell_ready {ag : Agent} {op q data : Nat} {l : List Nat} {s : State} (h : QmReady l s) (hop : op < 10)
    (hq : op = 8 ∨ op = 9 → q = 0) (hl : ∀ x ∈ qmQueues op q data, x ∈ l) :
    ∃ t, Touched s t ∧ (∀ x ∈ l, (cachedDesc t x).isSome = true) ∧
      doDoorbell ag op q data s = qmFinish ag op q (qmOutcome ag op q data t) := by
  have hearly := qmEarly_ready h hop hq
  obtain ⟨-, -, -, hwait, hcache⟩ := h
  have hc (x : Nat) (hx : x ∈ qmQueues op q data) := hcache x (hl x hx)
  have k := countCache_cached hc
  obtain ⟨t, k', hrun⟩ := qmRun_cached (ag := ag) (s := countCache (qmQueues op q data) s) fun x hx => (k.isSome_eq x).trans (hc x hx)
  refine ⟨t, k.trans k', fun x hx => ((k.trans k').isSome_eq x).trans (hcache x hx), ?_⟩
  have hall : (qmQueues op q data).all (fun q => (cachedDesc s q).isSome) = true := List.all_eq_true.2 hc
  unfold doDoorbell
  dsimp only
  rw [hearly, if_neg (by decide), hwait, hall, hrun]
  rfl

theorem qmCheck_touched {ag : Agent} {op q data : Nat} {s t : State} (h : Touched s t) :
    qmCheck ag op q data t = qmCheck ag op q data s := by
  unfold qmCheck
  simp only [h.owner_eq, h.poolSize_eq]

end Sys2Proof.Machine
end

section

/-! SUPPORT. Operations of the queue manager: O45 and O46. -/

namespace Sys2Proof.Machine
open R

theorem not_busReg_qm {a : Nat} (h : 0x2000448000 ≤ a) (h' : a < 0x2000450000) : ¬ busReg a := by
  have h1 : DBG_FERR_CNT < 0x2000448000 := by decide
  have h2 : ¬ (0x2000448000 ≤ PM_DDR_STAT ∧ PM_DDR_STAT < 0x2000450000) := by decide
  unfold busReg
  rintro (h3 | ⟨-, h3⟩ | h3)
  · omega
  · omega
  · rw [h3] at h h'
    exact h2 ⟨h, h'⟩

theorem MemAccess.cachedDesc_eq {s u : State} (h : MemAccess s u) (x : Nat) : cachedDesc u x = cachedDesc s x :=
  cachedDesc_of_cache_eq (congrArg Qm.cache h.qm_eq) x

theorem MemAccess.descOf_eq {s u : State} (h : MemAccess s u) (x : Nat) : descOf u x = descOf s x := by
  rw [descOf, h.cachedDesc_eq, descOf]

theorem MemAccess.freeCount_eq {s u : State} (h : MemAccess s u) : freeCount u = freeCount s :=
  freeCount_of_reg_eq (h.reg _ (not_busReg_qm (by decide) (by decide)))

/-! ### One descriptor changes -/

/-- In `v` descriptor `q` is what `f` makes of it in `t`; the other descriptors and the free pool are those of `t`. -/
structure Updated (q : Nat) (f : Desc → Desc) (t v : State) : Prop where
  same : descOf v q = { f (descOf t q) with dirty := true }
  other : ∀ x, x ≠ q → cachedDesc v x = cachedDesc t x
  has : queueHas v q = decide ((f (descOf t q)).count ≠ 0)
  cached : ∀ x, (cachedDesc v x).isSome = (cachedDesc t x).isSome
  freeHead : v.qm.freeHead = t.qm.freeHead
  freeCount : freeCount v = freeCount t

theorem Updated.descOf_other {q : Nat} {f : Desc → Desc} {t v : State} (h : Updated q f t v) {x : Nat} (hx : x ≠ q) :
    descOf v x = descOf t x := by
  rw [descOf, h.other x hx, descOf]

theorem updated_updateDesc {q : Nat} {t u : State} (f : Desc → Desc) (h : MemAccess t u) (hc : (cachedDesc t q).isSome = true) :
    Updated q f t (updateDesc q f u) := by
  have hcu : (cachedDesc u q).isSome = true := by rw [h.cachedDesc_eq, hc]
  refine ⟨?_, fun x hx => ?_, ?_, fun x => ?_, ?_, ?_⟩
  · rw [descOf_updateDesc_same f hcu, h.descOf_eq]
  · rw [cachedDesc_updateDesc_other u q f hx, h.cachedDesc_eq]
  · rw [queueHas_updateDesc_same f hcu, h.descOf_eq]
  · rw [updateDesc_isSome, h.cachedDesc_eq]
  · rw [updateDesc_freeHead, h.qm_eq]
  · rw [freeCount_updateDesc, h.freeCount_eq]

/-! ### What the operations come to (R250) -/

section Outcomes
variable {q : Nat} {t : State}

/-- ENQT: the link of the old tail, then the descriptor. -/
theorem qmEnqTail_room (e : Nat) (h : overLimit (descOf t q) 1 = false) : ∃ u f, qmEnqTail q e t = qmDone 0 (updateDesc q f u) ∧
    MemAccess t u ∧ (0 < (descOf t q).count → u = writeLink (descOf t q).tail e t) ∧
    (f (descOf t q)).count = (descOf t q).count + 1 ∧ (f (descOf t q)).tail = e ∧
    (f (descOf t q)).head = if (descOf t q).count = 0 then e else (descOf t q).head := by
  unfold qmEnqTail
  dsimp only
  rw [h, if_neg (by decide)]
  split
  next h0 => exact ⟨t, _, rfl, .refl t, fun hp => absurd h0 hp.ne', by rw [h0], rfl, rfl⟩
  next h0 => exact ⟨_, _, rfl, writeLink_memAccess .., fun _ => rfl, rfl, rfl, rfl⟩

/-- ENQH: the link of the new head, then the descriptor. -/
theorem qmEnqHead_room (e : Nat) (h : overLimit (descOf t q) 1 = false) : ∃ u f, qmEnqHead q e t = qmDone 0 (updateDesc q f u) ∧
    MemAccess t u ∧ (0 < (descOf t q).count → u = writeLink e (descOf t q).head t) ∧
    (f (descOf t q)).count = (descOf t q).count + 1 ∧ (f (descOf t q)).head = e ∧
    (f (descOf t q)).tail = if (descOf t q).count = 0 then e else (descOf t q).tail := by
  unfold qmEnqHead
  dsimp only
  rw [h, if_neg (by decide)]
  split
  next h0 => exact ⟨t, _, rfl, .refl t, fun hp => absurd h0 hp.ne', by rw [h0], rfl, rfl⟩
  next h0 => exact ⟨_, _, rfl, writeLink_memAccess .., fun _ => rfl, rfl, rfl, rfl⟩

/-- The head leaves the queue, its link being good. -/
theorem takeHead_good (h : (descOf t q).count = 1 ∨ (readLink t (descOf t q).head).2.1 = false) :
    ∃ u f, takeHead q t = (some (descOf t q).head, updateDesc q f u) ∧ MemAccess t u ∧ u.mem = t.mem ∧
      (f (descOf t q)).count = (descOf t q).count - 1 ∧
      (1 < (descOf t q).count → (f (descOf t q)).head = (readLink t (descOf t q).head).1 ∧ (f (descOf t q)).tail = (descOf t q).tail) := by
  unfold takeHead
  extract_lets d l
  by_cases h1 : d.count ≤ 1
  · rw [if_pos h1]
    refine ⟨t, _, rfl, .refl t, rfl, ?_, fun h2 => absurd h1 (Nat.not_le.2 h2)⟩
    exact (Nat.sub_eq_zero_of_le h1).symm
  · have hl : l.2.1 = false := h.resolve_left (fun e => h1 (le_of_eq e))
    rw [if_neg h1, hl]
    obtain ⟨ha, hm⟩ := readLink_memAccess t d.head
    exact ⟨l.2.2, (fun x => { x with head := l.1, count := x.count - 1 }), rfl, ha, hm, rfl, fun _ => ⟨rfl, rfl⟩⟩

end Outcomes

/-- The checks of an operation pass. -/
theorem qmCheck_passes {ag : Agent} {op q data : Nat} {t : State} (h1 : ∀ x ∈ qmQueues op q data, (descOf t x).owner ≠ 0xFF)
    (h2 : ag ≠ .dap) (h3 : needsOwner op = true → qmOwns ag (descOf t q).owner = true)
    (h4 : op = 0 ∨ op = 1 ∨ op = 9 → bits data 0 24 < poolSize t) : qmCheck ag op q data t = 0 := by
  unfold qmCheck
  have hc : (qmQueues op q data).any (fun x => (descOf t x).owner = 0xFF) = false := by simpa using h1
  have hd : ((ag = .dap && qmWrites op) || (needsOwner op && !qmOwns ag (descOf t q).owner)) = false := by
    have : needsOwner op = false ∨ qmOwns ag (descOf t q).owner = true := by
      cases hn : needsOwner op with
      | false => exact .inl rfl
      | true => exact .inr (h3 hn)
    rcases this with h | h <;> simp [h, h2]
  have he : ((op = 0 || op = 1 || op = 9) && decide (poolSize t ≤ bits data 0 24)) = false := by
    by_cases ho : op = 0 ∨ op = 1 ∨ op = 9
    · simp [Nat.not_le.2 (h4 ho)]
    · simp only [not_or] at ho
      simp [ho]
  rw [hc, hd, he]
  rfl

theorem qmOutcome_of_check {ag : Agent} {op q data : Nat} {t : State} (h : qmCheck ag op q data t = 0) :
    qmOutcome ag op q data t = qmAct op q data t := if_neg (by simp [h])

theorem bits_element {e : Nat} (h : e < 16777216) : bits e 0 24 = e := by
  unfold bits
  omega

/-! ### Each operation from doorbell to result -/

/-- The doorbell operation has status OK, gives value `x` and comes to state `v`, `t` being the state with its descriptors in use. -/
structure Rung (ag : Agent) (op q data : Nat) (s t v : State) (x : Nat) : Prop where
  touched : Touched s t
  eq : doDoorbell ag op q data s = qmFinish ag op q (qmDone x v)

namespace Rung
variable {ag : Agent} {op q data x : Nat} {s t v : State} (h : Rung ag op q data s t v x)
include h

theorem result : qmResult ag (doDoorbell ag op q data s) = x + 2 ^ 31 := by
  rw [h.eq, qmFinish_result]
  unfold qmWord qmDone
  simp

theorem mem : (doDoorbell ag op q data s).mem = v.mem := by rw [h.eq, qmFinish_mem]; rfl
theorem desc (y : Nat) : descOf (doDoorbell ag op q data s) y = descOf v y := by rw [h.eq, qmFinish_descOf]; rfl
theorem has (y : Nat) : queueHas (doDoorbell ag op q data s) y = queueHas v y := by rw [h.eq, qmFinish_queueHas]; rfl
theorem freeCount : freeCount (doDoorbell ag op q data s) = Machine.freeCount v := by rw [h.eq, qmFinish_freeCount]; rfl
theorem freeHead : (doDoorbell ag op q data s).qm.freeHead = v.qm.freeHead := by rw [h.eq, qmFinish_freeHead]; rfl

theorem sameQueue {y : Nat} (hy : descOf v y = descOf t y) : SameQueue y s (doDoorbell ag op q data s) :=
  h.touched.sameQueue ((h.desc y).trans hy)

end Rung

theorem rung_of_act {ag : Agent} {op q data x : Nat} {s t v : State} (k : Touched s t) (hcheck : qmCheck ag op q data t = 0)
    (hdo : doDoorbell ag op q data s = qmFinish ag op q (qmOutcome ag op q data t)) (hact : qmAct op q data t = qmDone x v) :
    Rung ag op q data s t v x :=
  ⟨k, by rw [hdo, qmOutcome_of_check hcheck, hact]⟩

section Operations
variable {ag : Agent} {q d e : Nat} {s : State} (hag : ag ≠ .dap)
include hag

theorem rung_enqt (hr : QmReady [q] s) (ho : (descOf s q).owner ≠ 0xFF) (he : e < 16777216) (hp : e < poolSize s)
    (hl : overLimit (descOf s q) 1 = false) :
    ∃ t u f, Rung ag 0 q e s t (updateDesc q f u) 0 ∧ MemAccess t u ∧ Updated q f t (updateDesc q f u) ∧
      (0 < (descOf t q).count → u = writeLink (descOf t q).tail e t) ∧
      (f (descOf t q)).count = (descOf t q).count + 1 ∧ (f (descOf t q)).tail = e ∧
      (f (descOf t q)).head = if (descOf t q).count = 0 then e else (descOf t q).head := by
  obtain ⟨t, k, hc, hdo⟩ := doDoorbell_ready (ag := ag) (op := 0) (q := q) (data := e) hr (by decide) (by simp) (by simp [qmQueues])
  obtain ⟨u, f, hact, ha, hu, h1, h2, h3⟩ := qmEnqTail_room (t := t) (q := q) e ((k.overLimit_eq q 1).trans hl)
  refine ⟨t, u, f, rung_of_act k (qmCheck_passes ?_ hag nofun ?_) hdo ?_, ha, updated_updateDesc f ha (hc q (by simp)), hu, h1, h2, h3⟩
  · simpa [qmQueues, k.owner_eq] using ho
  · rw [bits_element he, k.poolSize_eq]
    exact fun _ => hp
  · have : qmAct 0 q e t = qmEnqTail q (bits e 0 24) t := rfl
    rw [this, bits_element he, hact]

theorem rung_enqh (hr : QmReady [q] s) (ho : (descOf s q).owner ≠ 0xFF) (he : e < 16777216) (hp : e < poolSize s)
    (hl : overLimit (descOf s q) 1 = false) :
    ∃ t u f, Rung ag 1 q e s t (updateDesc q f u) 0 ∧ MemAccess t u ∧ Updated q f t (updateDesc q f u) ∧
      (0 < (descOf t q).count → u = writeLink e (descOf t q).head t) ∧
      (f (descOf t q)).count = (descOf t q).count + 1 ∧ (f (descOf t q)).head = e ∧
      (f (descOf t q)).tail = if (descOf t q).count = 0 then e else (descOf t q).tail := by
  obtain ⟨t, k, hc, hdo⟩ := doDoorbell_ready (ag := ag) (op := 1) (q := q) (data := e) hr (by decide) (by simp) (by simp [qmQueues])
  obtain ⟨u, f, hact, ha, hu, h1, h2, h3⟩ := qmEnqHead_room (t := t) (q := q) e ((k.overLimit_eq q 1).trans hl)
  refine ⟨t, u, f, rung_of_act k (qmCheck_passes ?_ hag nofun ?_) hdo ?_, ha, updated_updateDesc f ha (hc q (by simp)), hu, h1, h2, h3⟩
  · simpa [qmQueues, k.owner_eq] using ho
  · rw [bits_element he, k.poolSize_eq]
    exact fun _ => hp
  · have : qmAct 1 q e t = qmEnqHead q (bits e 0 24) t := rfl
    rw [this, bits_element he, hact]

/-- The checks of an operation of the owner on queues that are not closed. -/
theorem qmCheck_owner {op data : Nat} {t : State} (k : Touched s t) (hq : ∀ x ∈ qmQueues op q data, (descOf s x).owner ≠ 0xFF)
    (hown : needsOwner op = true → qmOwns ag (descOf s q).owner = true) (hop : ¬ (op = 0 ∨ op = 1 ∨ op = 9)) :
    qmCheck ag op q data t = 0 := by
  rw [qmCheck_touched k]
  exact qmCheck_passes hq hag hown fun h => absurd h hop

theorem rung_deq (hr : QmReady [q] s) (ho : (descOf s q).owner ≠ 0xFF) (hown : qmOwns ag (descOf s q).owner = true)
    (hc0 : 0 < (descOf s q).count) (hl : (descOf s q).count = 1 ∨ (readLink s (descOf s q).head).2.1 = false) :
    ∃ t u f, Rung ag 2 q 0 s t (updateDesc q f u) (descOf s q).head ∧ MemAccess t u ∧ u.mem = t.mem ∧ Updated q f t (updateDesc q f u) ∧
      (f (descOf t q)).count = (descOf s q).count - 1 ∧
      (1 < (descOf s q).count → (f (descOf t q)).head = (readLink s (descOf s q).head).1 ∧ (f (descOf t q)).tail = (descOf s q).tail) := by
  obtain ⟨t, k, hc, hdo⟩ := doDoorbell_ready (ag := ag) (op := 2) (q := q) (data := 0) hr (by decide) (by simp) (by simp [qmQueues])
  have hcount := k.count_eq q
  have hhead := k.head_eq q
  obtain ⟨hval, hbad⟩ := k.readLink_eq (descOf s q).head
  obtain ⟨u, f, htake, ha, hm, h1, h2⟩ := takeHead_good (t := t) (q := q) (by rw [hcount, hhead, hbad]; exact hl)
  rw [hcount] at h1 h2
  rw [hhead, hval, k.tail_eq] at h2
  refine ⟨t, u, f, rung_of_act k (qmCheck_owner hag k ?_ (fun _ => hown) (by decide)) hdo ?_, ha, hm, updated_updateDesc f ha (hc q (by simp)), h1, h2⟩
  · simpa [qmQueues] using ho
  · have : qmAct 2 q 0 t = qmDeq q t := rfl
    rw [this, qmDeq, if_neg (by omega), htake, ← hhead]

theorem rung_peek (hr : QmReady [q] s) (ho : (descOf s q).owner ≠ 0xFF) (hown : qmOwns ag (descOf s q).owner = true)
    (hc0 : 0 < (descOf s q).count) : ∃ t, Rung ag 3 q 0 s t t (descOf s q).head := by
  obtain ⟨t, k, -, hdo⟩ := doDoorbell_ready (ag := ag) (op := 3) (q := q) (data := 0) hr (by decide) (by simp) (by simp [qmQueues])
  refine ⟨t, rung_of_act k (qmCheck_owner hag k ?_ (fun _ => hown) (by decide)) hdo ?_⟩
  · simpa [qmQueues] using ho
  · have : qmAct 3 q 0 t = qmPeek q t := rfl
    rw [this, qmPeek, k.count_eq, k.head_eq, if_neg (by omega)]

theorem rung_count (hr : QmReady [q] s) (ho : (descOf s q).owner ≠ 0xFF) :
    ∃ t, Rung ag 7 q 0 s t t (min (descOf s q).count 0xFFFFFF) := by
  obtain ⟨t, k, -, hdo⟩ := doDoorbell_ready (ag := ag) (op := 7) (q := q) (data := 0) hr (by decide) (by simp) (by simp [qmQueues])
  refine ⟨t, rung_of_act k (qmCheck_owner hag k ?_ nofun (by decide)) hdo ?_⟩
  · simpa [qmQueues] using ho
  · have : qmAct 7 q 0 t = qmDone (min (descOf t q).count 0xFFFFFF) t := rfl
    rw [this, k.count_eq]

omit hag in
theorem bits_moveData (hd : d < 1048576) (front : Bool) :
    bits (d + b2n front * 2147483648) 0 20 = d ∧ decide (bits (d + b2n front * 2147483648) 31 1 = 1) = front := by
  cases front
  · have h0 : b2n false = 0 := rfl
    rw [h0]
    unfold bits
    constructor
    · omega
    · rw [decide_eq_false_iff_not]
      omega
  · have h1 : b2n true = 1 := rfl
    rw [h1]
    unfold bits
    constructor
    · omega
    · rw [decide_eq_true_eq]
      omega

/-- MOVE between two queues: the head leaves one and enters the other. -/
theorem rung_move (hr : QmReady [q, d] s) (ho : (descOf s q).owner ≠ 0xFF) (hown : qmOwns ag (descOf s q).owner = true)
    (hd : d < 1048576) (hne : d ≠ q) (hod : (descOf s d).owner ≠ 0xFF) (hc0 : 0 < (descOf s q).count)
    (hl : (descOf s q).count = 1 ∨ (readLink s (descOf s q).head).2.1 = false) (hlim : overLimit (descOf s d) 1 = false) (front : Bool) :
    ∃ t v w f g, Rung ag 4 q (d + b2n front * 2147483648) s t w 0 ∧ Updated q f t v ∧ Updated d g v w ∧
      (f (descOf t q)).count = (descOf s q).count - 1 ∧ (g (descOf v d)).count = (descOf s d).count + 1 ∧
      (if front then (g (descOf v d)).head else (g (descOf v d)).tail) = (descOf s q).head := by
  obtain ⟨hb1, hb2⟩ := bits_moveData hd front
  have hqs : qmQueues 4 q (d + b2n front * 2147483648) = [q, d] := by rw [qmQueues, hb1]; rfl
  obtain ⟨t, k, hc, hdo⟩ := doDoorbell_ready (ag := ag) (op := 4) (q := q) (data := d + b2n front * 2147483648) hr (by decide)
    (by simp) (by rw [hqs]; exact fun _ h => h)
  have hcount := k.count_eq q
  have hhead := k.head_eq q
  obtain ⟨u, f, htake, ha, -, h1, -⟩ := takeHead_good (t := t) (q := q) (by rw [hcount, hhead, (k.readLink_eq _).2]; exact hl)
  rw [hcount] at h1
  have hv := updated_updateDesc f ha (hc q (by simp))
  have hvd : descOf (updateDesc q f u) d = descOf t d := hv.descOf_other hne
  have hlimv : overLimit (descOf (updateDesc q f u) d) 1 = false := by rw [hvd, k.overLimit_eq]; exact hlim
  have hcd : (cachedDesc (updateDesc q f u) d).isSome = true := (hv.cached d).trans (hc d (by simp))
  have hcheck : qmCheck ag 4 q (d + b2n front * 2147483648) t = 0 := by
    refine qmCheck_owner hag k ?_ (fun _ => hown) (by decide)
    rw [hqs]
    simpa using ⟨ho, hod⟩
  have hact : qmAct 4 q (d + b2n front * 2147483648) t =
      { (if front then qmEnqHead d (descOf s q).head (updateDesc q f u) else qmEnqTail d (descOf s q).head (updateDesc q f u)) with
        status := 0, value := 0 } := by
    have hm : qmAct 4 q (d + b2n front * 2147483648) t = qmMove q (bits (d + b2n front * 2147483648) 0 20)
      (decide (bits (d + b2n front * 2147483648) 31 1 = 1)) t := rfl
    rw [hm, hb1, hb2, qmMove, if_neg (by omega), if_neg hne, if_neg (by rw [k.overLimit_eq, hlim]; decide), if_neg (fun e => hne e.1), htake, hhead]
  cases front with
  | true =>
    obtain ⟨w, g, hg, hw, -, e1, e2, -⟩ := qmEnqHead_room (t := updateDesc q f u) (q := d) (descOf s q).head hlimv
    rw [if_pos rfl, hg] at hact
    rw [hvd, k.count_eq, ← hvd] at e1
    exact ⟨t, _, _, f, g, rung_of_act k hcheck hdo hact, hv, updated_updateDesc g hw hcd, h1, e1, e2⟩
  | false =>
    obtain ⟨w, g, hg, hw, -, e1, e2, -⟩ := qmEnqTail_room (t := updateDesc q f u) (q := d) (descOf s q).head hlimv
    rw [if_neg (by decide), hg] at hact
    rw [hvd, k.count_eq, ← hvd] at e1
    exact ⟨t, _, _, f, g, rung_of_act k hcheck hdo hact, hv, updated_updateDesc g hw hcd, h1, e1, e2⟩

/-- MOVE of the head of a queue to its own head. -/
theorem rung_move_self (hr : QmReady [q] s) (ho : (descOf s q).owner ≠ 0xFF) (hown : qmOwns ag (descOf s q).owner = true)
    (hq : q < 1048576) (hc0 : 0 < (descOf s q).count) (hlim : overLimit (descOf s q) 0 = false) :
    ∃ t, Rung ag 4 q (q + b2n true * 2147483648) s t t 0 := by
  obtain ⟨hb1, hb2⟩ := bits_moveData hq true
  have hqs : qmQueues 4 q (q + b2n true * 2147483648) = [q, q] := by rw [qmQueues, hb1]; rfl
  obtain ⟨t, k, -, hdo⟩ := doDoorbell_ready (ag := ag) (op := 4) (q := q) (data := q + b2n true * 2147483648) hr (by decide)
    (by simp) (by rw [hqs]; simp)
  refine ⟨t, rung_of_act k (qmCheck_owner hag k ?_ (fun _ => hown) (by decide)) hdo ?_⟩
  · rw [hqs]
    simpa using ho
  · have hm : qmAct 4 q (q + b2n true * 2147483648) t = qmMove q (bits (q + b2n true * 2147483648) 0 20)
      (decide (bits (q + b2n true * 2147483648) 31 1 = 1)) t := rfl
    have hcount := k.count_eq q
    rw [hm, hb1, hb2, qmMove, if_neg (by omega), if_pos rfl, if_neg (by rw [k.overLimit_eq, hlim]; decide), if_pos ⟨rfl, rfl⟩]

/-- SPLICE: the whole list of one queue goes to the end of the other. -/
theorem rung_splice (hr : QmReady [q, d] s) (ho : (descOf s q).owner ≠ 0xFF) (hown : qmOwns ag (descOf s q).owner = true)
    (hd : d < 1048576) (hne : d ≠ q) (hod : (descOf s d).owner ≠ 0xFF) (hc0 : 0 < (descOf s q).count)
    (hlim : overLimit (descOf s d) (descOf s q).count = false) :
    ∃ t v w f g, Rung ag 5 q d s t w 0 ∧ Updated d g t v ∧ Updated q f v w ∧ (f (descOf v q)).count = 0 ∧
      (g (descOf t d)).count = (descOf s d).count + (descOf s q).count ∧ (g (descOf t d)).tail = (descOf s q).tail ∧
      (g (descOf t d)).head = if (descOf s d).count = 0 then (descOf s q).head else (descOf s d).head := by
  have hb : bits d 0 20 = d := by
    unfold bits
    omega
  have hqs : qmQueues 5 q d = [q, d] := by rw [qmQueues, hb]; rfl
  obtain ⟨t, k, hc, hdo⟩ := doDoorbell_ready (ag := ag) (op := 5) (q := q) (data := d) hr (by decide)
    (by simp) (by rw [hqs]; exact fun _ h => h)
  have hcheck : qmCheck ag 5 q d t = 0 := by
    refine qmCheck_owner hag k ?_ (fun _ => hown) (by decide)
    rw [hqs]
    simpa using ⟨ho, hod⟩
  let u := if (descOf t d).count = 0 then t else writeLink (descOf t d).tail (descOf t q).head t
  have hu : MemAccess t u := by
    unfold u
    split
    · exact .refl t
    · exact writeLink_memAccess ..
  let g : Desc → Desc := fun x => { x with
    head := if x.count = 0 then (descOf t q).head else x.head, tail := (descOf t q).tail, count := x.count + (descOf t q).count }
  have hv := updated_updateDesc g hu (hc d (by simp))
  have hw := updated_updateDesc (q := q) (fun x => { x with count := 0 }) (.refl (updateDesc d g u)) ((hv.cached q).trans (hc q (by simp)))
  have hact : qmAct 5 q d t = qmDone 0 (updateDesc q (fun x => { x with count := 0 }) (updateDesc d g u)) := by
    have hm : qmAct 5 q d t = qmSplice q (bits d 0 20) t := rfl
    have h0 : ¬ ((descOf t q).count = 0 ∨ q = d) := by
      rw [k.count_eq]
      exact fun h => h.elim hc0.ne' fun e => hne e.symm
    rw [hm, hb, qmSplice, if_neg h0, if_neg (by rw [k.overLimit_eq, k.count_eq, hlim]; decide)]
  refine ⟨t, _, _, _, g, rung_of_act k hcheck hdo hact, hv, hw, rfl, ?_, k.tail_eq q, ?_⟩
  · exact congrArg₂ (· + ·) (k.count_eq d) (k.count_eq q)
  · show (if (descOf t d).count = 0 then (descOf t q).head else (descOf t d).head) = _
    rw [k.count_eq, k.head_eq, k.head_eq]

omit hag in
theorem freeCount_setFreeCount (s : State) {n : Nat} (h : n < 2 ^ 25) : freeCount (setFreeCount s n) = n :=
  fld_setFld_of_lt _ _ _ _ (by decide) h

/-- FLUSH: the queue's list goes to the free pool. -/
theorem rung_flush (hr : QmReady [q] s) (ho : (descOf s q).owner ≠ 0xFF) (hown : qmOwns ag (descOf s q).owner = true)
    (hc0 : 0 < (descOf s q).count) (hsum : freeCount s + (descOf s q).count ≤ 2 ^ 24) :
    ∃ t u v f, Rung ag 6 q 0 s t v 0 ∧ Updated q f u v ∧ (f (descOf u q)).count = 0 ∧ (∀ x, descOf u x = descOf t x) ∧
      freeCount v = freeCount s + (descOf s q).count := by
  obtain ⟨t, k, hc, hdo⟩ := doDoorbell_ready (ag := ag) (op := 6) (q := q) (data := 0) hr (by decide) (by simp) (by simp [qmQueues])
  let u0 := if freeCount t = 0 then t else writeLink (descOf t q).tail t.qm.freeHead t
  have hu0 : MemAccess t u0 := by
    unfold u0
    split
    · exact .refl t
    · exact writeLink_memAccess ..
  let u := (setFreeCount u0 (freeCount t + (descOf t q).count)).mapQm (fun m => { m with freeHead := (descOf t q).head })
  have hcu (x : Nat) : cachedDesc u x = cachedDesc t x := hu0.cachedDesc_eq x
  have hv := updated_updateDesc (q := q) (fun x => { x with count := 0 }) (.refl u) ((congrArg Option.isSome (hcu q)).trans (hc q (by simp)))
  have hact : qmAct 6 q 0 t = qmDone 0 (updateDesc q (fun x => { x with count := 0 }) u) := by
    have hm : qmAct 6 q 0 t = qmFlush q t := rfl
    have hcount := k.count_eq q
    rw [hm, qmFlush, if_neg (by omega)]
  refine ⟨t, u, _, _, rung_of_act k (qmCheck_owner hag k ?_ (fun _ => hown) (by decide)) hdo hact, hv, rfl, fun x => ?_, ?_⟩
  · simpa [qmQueues] using ho
  · rw [descOf, hcu, descOf]
  · refine hv.freeCount.trans ?_
    have hf : freeCount u = freeCount (setFreeCount u0 (freeCount t + (descOf t q).count)) := rfl
    rw [hf, k.freeCount_eq, k.count_eq]
    exact freeCount_setFreeCount u0 (by omega)

/-- `s` with `n` elements in the free pool, the first being `e`. -/
def withPool (s : State) (n e : Nat) : State := (setFreeCount s n).mapQm (fun m => { m with freeHead := e })

omit hag in
theorem withPool_descOf (s : State) (n e x : Nat) : descOf (withPool s n e) x = descOf s x := rfl

omit hag in
theorem withPool_freeCount (s : State) {n : Nat} (e : Nat) (h : n < 2 ^ 25) : freeCount (withPool s n e) = n := freeCount_setFreeCount s h

omit hag in
theorem qmAlloc_good {t : State} (h0 : 0 < freeCount t) (hl : freeCount t = 1 ∨ (readLink t t.qm.freeHead).2.1 = false) :
    ∃ u x, qmAlloc t = qmDone t.qm.freeHead (withPool u (freeCount t - 1) x) ∧ MemAccess t u ∧ u.mem = t.mem ∧
      (1 < freeCount t → x = (readLink t t.qm.freeHead).1) := by
  unfold qmAlloc
  rw [if_neg h0.ne']
  extract_lets e l
  by_cases h1 : freeCount t = 1
  · rw [if_pos h1, h1]
    exact ⟨t, e, rfl, .refl t, rfl, fun h => absurd h (lt_irrefl _)⟩
  · have hl2 : l.2.1 = false := hl.resolve_left h1
    rw [if_neg h1, hl2, if_neg (by decide)]
    obtain ⟨ha, hm⟩ := readLink_memAccess t e
    exact ⟨l.2.2, l.1, rfl, ha, hm, fun _ => rfl⟩

/-- ALLOC: the head of the free pool. -/
theorem rung_alloc (hr : QmReady [] s) (h0 : 0 < freeCount s) (hl : freeCount s = 1 ∨ (readLink s s.qm.freeHead).2.1 = false) :
    ∃ t v, Rung ag 8 0 0 s t v s.qm.freeHead ∧ (∀ x, descOf v x = descOf t x) ∧ v.mem = t.mem ∧ freeCount v = freeCount s - 1 ∧
      (1 < freeCount s → v.qm.freeHead = (readLink s s.qm.freeHead).1) := by
  obtain ⟨t, k, -, hdo⟩ := doDoorbell_ready (ag := ag) (op := 8) (q := 0) (data := 0) hr (by decide) (by simp) (by simp [qmQueues])
  have hcheck : qmCheck ag 8 0 0 t = 0 := qmCheck_owner hag k (by simp [qmQueues]) nofun (by decide)
  have hfc : freeCount s < 2 ^ 25 := fld_lt ..
  obtain ⟨hval, hbad⟩ := k.readLink_eq s.qm.freeHead
  have hgood := qmAlloc_good (t := t)
  rw [k.freeCount_eq, k.freeHead_eq, hval, hbad] at hgood
  obtain ⟨u, x, hact, ha, hm, hx⟩ := hgood h0 hl
  refine ⟨t, _, rung_of_act k hcheck hdo hact, fun y => ?_, hm, withPool_freeCount u x (by omega), hx⟩
  rw [withPool_descOf, ha.descOf_eq]

/-- FREE: the element becomes the head of the free pool. -/
theorem rung_free (hr : QmReady [] s) (he : e < 16777216) (hp : e < poolSize s) (hfc : freeCount s < 2 ^ 24) :
    ∃ t v, Rung ag 9 0 e s t v 0 ∧ (∀ x, descOf v x = descOf t x) ∧ freeCount v = freeCount s + 1 ∧ v.qm.freeHead = e := by
  obtain ⟨t, k, -, hdo⟩ := doDoorbell_ready (ag := ag) (op := 9) (q := 0) (data := e) hr (by decide) (by simp) (by simp [qmQueues])
  have hb := bits_element he
  have hcheck : qmCheck ag 9 0 e t = 0 := by
    refine qmCheck_passes (by simp [qmQueues]) hag nofun fun _ => ?_
    rw [hb, k.poolSize_eq]
    exact hp
  let u := if freeCount t = 0 then t else writeLink e t.qm.freeHead t
  have hu : MemAccess t u := by
    unfold u
    split
    · exact .refl t
    · exact writeLink_memAccess ..
  have hact : qmAct 9 0 e t = qmDone 0 (withPool u (freeCount t + 1) e) := by
    have hm : qmAct 9 0 e t = qmFree (bits e 0 24) t := rfl
    rw [hm, hb, qmFree]
    rfl
  refine ⟨t, withPool u (freeCount t + 1) e, rung_of_act k hcheck hdo hact, fun x => ?_, ?_, rfl⟩
  · rw [withPool_descOf, hu.descOf_eq]
  · rw [k.freeCount_eq]
    exact withPool_freeCount u e (by omega)

end Operations

/-- Settles O45. -/
theorem queueOperationsComplete : Obligations.QueueOperationsComplete := by
  intro ag q d e s a b l ho hag
  have hq := q.isLt
  have hd := d.isLt
  have he := e.isLt
  refine ⟨fun hr hp hlim => ⟨?_, ?_⟩, fun hr hown hc0 hl => ?_, fun hr hown hc0 => ?_, fun hr => ?_, fun hr hown hne hod hc0 hl hlim front => ?_,
    fun hr hown hc0 hlim => ?_, fun hr hown hne hod hc0 hlim => ?_, fun hr hown hc0 hsum => ?_, fun hr h0 hl => ?_, fun hr hp hfc => ?_⟩
  · obtain ⟨t, u, f, h, ha, hv, hlink, h1, h2, h3⟩ := rung_enqt hag hr ho he hp hlim
    have hcount := h.touched.count_eq q
    refine ⟨_, rfl, ?_, ?_, ?_, ?_, ?_, fun x hx => ?_, fun h0 hpl => ?_⟩
    · rw [h.desc, hv.same]; exact h1.trans (by rw [hcount])
    · rw [h.desc, hv.same]; exact h2
    · rw [h.desc, hv.same]; exact h3.trans (by rw [hcount, h.touched.head_eq])
    · rw [h.has, hv.has, h1]; simp
    · exact h.result.trans (Nat.zero_add _)
    · exact h.sameQueue (hv.descOf_other hx)
    · rw [num_of_mem_eq (h.mem.trans (updateDesc_mem ..)), hlink (by rw [hcount]; exact h0), h.touched.tail_eq,
        ← h.touched.linkAddr_eq, num_writeLink _ _ (by rw [h.touched.linkAddr_eq, h.touched.beside.placeOf]; exact hpl)]
      exact Nat.mod_eq_of_lt he
  · obtain ⟨t, u, f, h, ha, hv, hlink, h1, h2, h3⟩ := rung_enqh hag hr ho he hp hlim
    have hcount := h.touched.count_eq q
    refine ⟨_, rfl, ?_, ?_, ?_, ?_, ?_, fun x hx => ?_, fun h0 hpl => ?_⟩
    · rw [h.desc, hv.same]; exact h1.trans (by rw [hcount])
    · rw [h.desc, hv.same]; exact h2
    · rw [h.desc, hv.same]; exact h3.trans (by rw [hcount, h.touched.tail_eq])
    · rw [h.has, hv.has, h1]; simp
    · exact h.result.trans (Nat.zero_add _)
    · exact h.sameQueue (hv.descOf_other hx)
    · rw [num_of_mem_eq (h.mem.trans (updateDesc_mem ..)), hlink (by rw [hcount]; exact h0), h.touched.head_eq,
        ← h.touched.linkAddr_eq, num_writeLink _ _ (by rw [h.touched.linkAddr_eq, h.touched.beside.placeOf]; exact hpl)]
  · obtain ⟨t, u, f, h, ha, hm, hv, h1, h2⟩ := rung_deq hag hr ho hown hc0 hl
    refine ⟨_, rfl, h.result, ?_, fun h3 => ⟨?_, ?_⟩, ?_, fun x hx => h.sameQueue (hv.descOf_other hx), ?_⟩
    · rw [h.desc, hv.same]; exact h1
    · rw [h.desc, hv.same]; exact (h2 h3).1
    · rw [h.desc, hv.same]; exact (h2 h3).2
    · rw [h.has, hv.has, h1]
      have : (descOf s q).count - 1 ≠ 0 ↔ 1 < (descOf s q).count := by omega
      exact decide_eq_decide.2 this
    · exact (h.mem.trans (updateDesc_mem ..)).trans (hm.trans h.touched.beside.mem_eq)
  · obtain ⟨t, h⟩ := rung_peek hag hr ho hown hc0
    exact ⟨_, rfl, h.result, fun x => h.sameQueue rfl, h.mem.trans h.touched.beside.mem_eq⟩
  · obtain ⟨t, h⟩ := rung_count hag hr ho
    exact ⟨_, rfl, h.result, fun x => h.sameQueue rfl, h.mem.trans h.touched.beside.mem_eq⟩
  · have hne' : d.val ≠ q.val := fun h => hne (Fin.ext h)
    obtain ⟨t, v, w, f, g, h, hv, hw, h1, h2, h3⟩ := rung_move hag hr ho hown hd hne' hod hc0 hl hlim front
    refine ⟨_, rfl, h.result.trans (Nat.zero_add _), ?_, ?_, ?_, fun x hxq hxd => ?_⟩
    · rw [h.desc, hw.descOf_other hne'.symm, hv.same]; exact h1
    · rw [h.desc, hw.same]; exact h2
    · rw [h.desc, hw.same]; exact h3
    · exact h.sameQueue ((hw.descOf_other hxd).trans (hv.descOf_other hxq))
  · obtain ⟨t, h⟩ := rung_move_self hag hr ho hown hq hc0 hlim
    exact ⟨_, rfl, h.result.trans (Nat.zero_add _), fun x => h.sameQueue rfl, h.mem.trans h.touched.beside.mem_eq⟩
  · have hne' : d.val ≠ q.val := fun h => hne (Fin.ext h)
    obtain ⟨t, v, w, f, g, h, hv, hw, h1, h2, h3, h4⟩ := rung_splice hag hr ho hown hd hne' hod hc0 hlim
    refine ⟨_, rfl, h.result.trans (Nat.zero_add _), ?_, ?_, ?_, ?_, ?_, fun x hxq hxd => ?_⟩
    · rw [h.desc, hw.same]; exact h1
    · rw [h.desc, hw.descOf_other hne', hv.same]; exact h2
    · rw [h.desc, hw.descOf_other hne', hv.same]; exact h3
    · rw [h.desc, hw.descOf_other hne', hv.same]; exact h4
    · rw [h.has, hw.has, h1]; rfl
    · exact h.sameQueue ((hw.descOf_other hxq).trans (hv.descOf_other hxd))
  · obtain ⟨t, u, v, f, h, hv, h1, h2, h3⟩ := rung_flush hag hr ho hown hc0 hsum
    refine ⟨_, rfl, h.result.trans (Nat.zero_add _), ?_, ?_, h.freeCount.trans h3, fun x hx => ?_⟩
    · rw [h.desc, hv.same]; exact h1
    · rw [h.has, hv.has, h1]; rfl
    · exact h.sameQueue ((hv.descOf_other hx).trans (h2 x))
  · obtain ⟨t, v, h, h1, h2, h3, h4⟩ := rung_alloc hag hr h0 hl
    exact ⟨_, rfl, h.result, h.freeCount.trans h3, fun hc => h.freeHead.trans (h4 hc), fun x => h.sameQueue (h1 x),
      h.mem.trans (h2.trans h.touched.beside.mem_eq)⟩
  · obtain ⟨t, v, h, h1, h2, h3⟩ := rung_free hag hr he hp hfc
    exact ⟨_, rfl, h.result.trans (Nat.zero_add _), h.freeCount.trans h2, h.freeHead.trans h3, fun x => h.sameQueue (h1 x)⟩

end Sys2Proof.Machine
end

section

/-! SUPPORT. Refusals and waits of the queue manager: O46. -/

namespace Sys2Proof.Machine
open R

/-! ### What a refused operation leaves (R253) -/

theorem qmWord_fail {st : Nat} (h : st ≠ 0) (v : Nat) : qmWord st v = st * 2 ^ 24 := by
  unfold qmWord
  rw [if_neg h, if_neg h, Nat.zero_add, Nat.add_zero]

/-- A failed write: its bit, and the record of the first. -/
theorem qmRecord_write {op st : Nat} {f : Fld} (hw : qmWrites op = true) (hf : qmErrFld st = some f) (q : Nat) (s : State) :
    qmRecord op q st s = (if s.reg QM_ERR = 0 then s.setFlds QM_ERR_Q [(QM_ERR_Q_Q, q), (QM_ERR_Q_OP, op), (QM_ERR_Q_STATUS, st)]
      else s).setFld QM_ERR f 1 := by
  unfold qmRecord
  rw [hw, if_pos rfl, hf]

theorem qmRecord_sets {op st : Nat} {f : Fld} (hw : qmWrites op = true) (hf : qmErrFld st = some f) (hbit : f.w = 1) (hlo : f.lo < 32)
    (q : Nat) (s : State) : (qmRecord op q st s).fld QM_ERR f = 1 := by
  rw [qmRecord_write hw hf]
  exact fld_setFld_of_lt _ _ _ _ (by omega) (by rw [hbit]; decide)

theorem qmRecord_first {op st q : Nat} {f : Fld} {s : State} (hw : qmWrites op = true) (hf : qmErrFld st = some f)
    (hop : op < 16) (hst : st < 8) (hq : q < 1048576) (h : s.reg QM_ERR = 0) :
    (qmRecord op q st s).fld QM_ERR_Q QM_ERR_Q_Q = q ∧ (qmRecord op q st s).fld QM_ERR_Q QM_ERR_Q_OP = op ∧
      (qmRecord op q st s).fld QM_ERR_Q QM_ERR_Q_STATUS = st := by
  rw [qmRecord_write hw hf, if_pos h]
  simp only [fld_setFld_other _ QM_ERR QM_ERR_Q _ _ _ (by decide), State.setFlds]
  refine ⟨?_, ?_, fld_setFld_of_lt _ _ _ _ (by decide) hst⟩
  · rw [fld_setFld_ne _ _ _ _ _ (by decide) (by decide), fld_setFld_ne _ _ _ _ _ (by decide) (by decide)]
    exact fld_setFld_of_lt _ _ _ _ (by decide) hq
  · rw [fld_setFld_ne _ _ _ _ _ (by decide) (by decide)]
    exact fld_setFld_of_lt _ _ _ _ (by decide) hop

theorem qmRecord_later {op st : Nat} {f : Fld} {s : State} (hw : qmWrites op = true) (hf : qmErrFld st = some f) (q : Nat)
    (h : s.reg QM_ERR ≠ 0) : (qmRecord op q st s).reg QM_ERR_Q = s.reg QM_ERR_Q := by
  rw [qmRecord_write hw hf, if_neg h]
  exact reg_setFld_other _ _ _ _ _ (by decide)

/-- A refused operation: its status is the result, and memory, descriptors and the free pool stay. -/
structure Refused (ag : Agent) (op q st : Nat) (s v : State) : Prop where
  ex : ∃ t, Touched s t ∧ v = qmFinish ag op q (qmFail st t)

namespace Refused
variable {ag : Agent} {op q st : Nat} {s v : State} (h : Refused ag op q st s v)
include h

theorem result (h0 : st ≠ 0) : qmResult ag v = st * 2 ^ 24 := by
  obtain ⟨t, -, rfl⟩ := h.ex
  rw [qmFinish_result]
  exact qmWord_fail h0 _

theorem mem : v.mem = s.mem := by
  obtain ⟨t, k, rfl⟩ := h.ex
  exact (qmFinish_mem ..).trans k.beside.mem_eq

theorem sameQueue (x : Nat) : SameQueue x s v := by
  obtain ⟨t, k, rfl⟩ := h.ex
  exact k.sameQueue (qmFinish_descOf ..)

theorem freeCount : freeCount v = Machine.freeCount s := by
  obtain ⟨t, k, rfl⟩ := h.ex
  exact (qmFinish_freeCount ..).trans k.freeCount_eq

/-- The error record of a refused write. -/
theorem record {f : Fld} (hw : qmWrites op = true) (hf : qmErrFld st = some f) (hbit : f.w = 1) (hlo : f.lo < 32) (hop : op < 16)
    (hst : st < 8) (hq : q < 1048576) : v.fld QM_ERR f = 1 ∧
    (s.reg QM_ERR = 0 → v.fld QM_ERR_Q QM_ERR_Q_Q = q ∧ v.fld QM_ERR_Q QM_ERR_Q_OP = op ∧ v.fld QM_ERR_Q QM_ERR_Q_STATUS = st) ∧
    (s.reg QM_ERR ≠ 0 → v.reg QM_ERR_Q = s.reg QM_ERR_Q) := by
  obtain ⟨t, k, rfl⟩ := h.ex
  have hE : t.reg QM_ERR = s.reg QM_ERR := k.beside.reg _ (by decide)
  have hQ : t.reg QM_ERR_Q = s.reg QM_ERR_Q := k.beside.reg _ (by decide)
  have r1 : (qmFinish ag op q (qmFail st t)).reg QM_ERR = (qmRecord op q st t).reg QM_ERR := qmFinish_reg _ _ _ _ (by decide) (by decide)
  have r2 : (qmFinish ag op q (qmFail st t)).reg QM_ERR_Q = (qmRecord op q st t).reg QM_ERR_Q := qmFinish_reg _ _ _ _ (by decide) (by decide)
  refine ⟨?_, fun h0 => ?_, fun h0 => ?_⟩
  · rw [fld_of_reg_eq r1]
    exact qmRecord_sets hw hf hbit hlo q t
  · rw [fld_of_reg_eq r2, fld_of_reg_eq r2, fld_of_reg_eq r2]
    exact qmRecord_first hw hf hop hst hq (hE.trans h0)
  · rw [r2, ← hQ]
    exact qmRecord_later hw hf q (by rw [hE]; exact h0)

/-- A refused read leaves no record. -/
theorem noRecord (hw : qmWrites op = false) : v.reg QM_ERR = s.reg QM_ERR ∧ v.reg QM_ERR_Q = s.reg QM_ERR_Q := by
  obtain ⟨t, k, rfl⟩ := h.ex
  have hrec : qmRecord op q st t = t := by
    unfold qmRecord
    rw [hw]
    rfl
  have hr (a : Nat) (h1 : 0x2000448000 ≤ a) (h2 : a < 0x200044D000) (h3 : a ≠ QM_CACHE_HIT) :
      (qmFinish ag op q (qmFail st t)).reg a = s.reg a := by
    rw [qmFinish_reg _ _ _ _ h1 h2]
    exact (congrArg (·.reg a) hrec).trans (k.beside.reg a h3)
  exact ⟨hr _ (by decide) (by decide) (by decide), hr _ (by decide) (by decide) (by decide)⟩

end Refused

/-- The status of a refused ENQT: the first check that fails. -/
def enqStatus (ag : Agent) (q e : Nat) (s : State) : Nat :=
  if (descOf s q).owner = 0xFF then 3 else if ag = .dap then 2 else if poolSize s ≤ e then 4
  else if overLimit (descOf s q) 1 then 5 else 0

/-- The status of a refused DEQ. -/
def deqStatus (ag : Agent) (q : Nat) (s : State) : Nat :=
  if (descOf s q).owner = 0xFF then 3 else if !qmOwns ag (descOf s q).owner then 2 else if (descOf s q).count = 0 then 1 else 0

/-- A refusal of ENQT sets the bit of its status. -/
theorem enqStatus_range {ag : Agent} {q e : Nat} {s : State} (h : enqStatus ag q e s ≠ 0) :
    2 ≤ enqStatus ag q e s ∧ enqStatus ag q e s < 6 ∧ qmErrFld (enqStatus ag q e s) = some ⟨enqStatus ag q e s - 2, 1⟩ := by
  unfold enqStatus at h ⊢
  by_cases h1 : (descOf s q).owner = 0xFF
  · rw [if_pos h1]
    decide
  · rw [if_neg h1] at h ⊢
    by_cases h2 : ag = .dap
    · rw [if_pos h2]
      decide
    · rw [if_neg h2] at h ⊢
      by_cases h3 : poolSize s ≤ e
      · rw [if_pos h3]
        decide
      · rw [if_neg h3] at h ⊢
        by_cases h4 : overLimit (descOf s q) 1 = true
        · rw [if_pos h4]
          decide
        · rw [if_neg h4] at h
          exact absurd rfl h

theorem refused_enqt {ag : Agent} {q e : Nat} {s : State} (hr : QmReady [q] s) (he : e < 16777216) (h : enqStatus ag q e s ≠ 0) :
    Refused ag 0 q (enqStatus ag q e s) s (doDoorbell ag 0 q e s) := by
  obtain ⟨t, k, hc, hdo⟩ := doDoorbell_ready (ag := ag) (op := 0) (q := q) (data := e) hr (by decide) (by simp) (by simp [qmQueues])
  refine ⟨t, k, hdo.trans (congrArg _ ?_)⟩
  have hact : qmAct 0 q e t = qmEnqTail q e t := by
    have : qmAct 0 q e t = qmEnqTail q (bits e 0 24) t := rfl
    rw [this, bits_element he]
  have hcheck : qmCheck ag 0 q e t =
      if (descOf s q).owner = 0xFF then 3 else if ag = .dap then 2 else if poolSize s ≤ e then 4 else 0 := by
    rw [qmCheck_touched k]
    unfold qmCheck
    rw [bits_element he]
    simp [qmQueues, needsOwner, qmWrites, qmClosed, qmDenied, qmBadIndex]
  unfold enqStatus at h ⊢
  unfold qmOutcome
  rw [hcheck]
  by_cases h1 : (descOf s q).owner = 0xFF
  · simp only [if_pos h1]
    rfl
  · by_cases h2 : ag = .dap
    · simp only [if_neg h1, if_pos h2]
      rfl
    · by_cases h3 : poolSize s ≤ e
      · simp only [if_neg h1, if_neg h2, if_pos h3]
        rfl
      · simp only [if_neg h1, if_neg h2, if_neg h3] at h ⊢
        by_cases h4 : overLimit (descOf s q) 1 = true
        · rw [if_pos h4, hact, qmEnqTail, k.overLimit_eq, if_pos h4]
          rfl
        · rw [if_neg h4] at h
          exact absurd rfl h

theorem refused_deq {ag : Agent} {q : Nat} {s : State} (hr : QmReady [q] s) (h : deqStatus ag q s ≠ 0) :
    Refused ag 2 q (deqStatus ag q s) s (doDoorbell ag 2 q 0 s) := by
  obtain ⟨t, k, hc, hdo⟩ := doDoorbell_ready (ag := ag) (op := 2) (q := q) (data := 0) hr (by decide) (by simp) (by simp [qmQueues])
  refine ⟨t, k, hdo.trans (congrArg _ ?_)⟩
  have hact : qmAct 2 q 0 t = qmDeq q t := rfl
  have hcheck : qmCheck ag 2 q 0 t =
      if (descOf s q).owner = 0xFF then 3 else if !qmOwns ag (descOf s q).owner then 2 else 0 := by
    rw [qmCheck_touched k]
    unfold qmCheck
    simp [qmQueues, needsOwner, qmWrites, qmClosed, qmDenied]
  unfold deqStatus at h ⊢
  unfold qmOutcome
  rw [hcheck]
  by_cases h1 : (descOf s q).owner = 0xFF
  · simp only [if_pos h1]
    rfl
  · by_cases h2 : (!qmOwns ag (descOf s q).owner) = true
    · simp only [if_neg h1, if_pos h2]
      rfl
    · simp only [if_neg h1, if_neg h2] at h ⊢
      by_cases h3 : (descOf s q).count = 0
      · rw [if_pos h3, hact, qmDeq, k.count_eq, if_pos h3]
        rfl
      · rw [if_neg h3] at h
        exact absurd rfl h

/-! ### Waiting for a descriptor (R255) -/

/-- An operation whose descriptor is not cached waits, the miss being counted. -/
theorem doDoorbell_waits {ag : Agent} {op q data : Nat} {s : State} (hearly : qmEarly op q true s = 0)
    (hmiss : (qmQueues op q data).all (fun x => (cachedDesc s x).isSome) = false) :
    doDoorbell ag op q data s = (countCache (qmQueues op q data) s).mapQm (fun m => { m with
      waiting := m.waiting ++ [{ ag := ag, op := op, q := q, data := data }] }) := by
  unfold doDoorbell
  dsimp only
  rw [hearly, if_neg (by decide), hmiss]
  rfl

theorem countCache_onlyRegs (l : List Nat) (s : State) : OnlyRegs [QM_CACHE_HIT, QM_CACHE_MISS] s (countCache l s) := by
  unfold countCache
  have step (u : State) (q : Nat) : OnlyRegs [QM_CACHE_HIT, QM_CACHE_MISS] u
      (if (cachedDesc u q).isSome then u.incSat QM_CACHE_HIT QM_CACHE_HIT_COUNT else u.incSat QM_CACHE_MISS QM_CACHE_MISS_COUNT) := by
    split
    · exact (onlyRegs_refl _ u).incSat (by simp) _
    · exact (onlyRegs_refl _ u).incSat (by simp) _
  induction l generalizing s with
  | nil => exact onlyRegs_refl _ s
  | cons q l ih => exact (step s q).trans (ih _)

/-- What every operation keeps: which descriptors are cached, and the operations that wait. -/
def KeepsCached (s t : State) : Prop := (∀ x, (cachedDesc t x).isSome = (cachedDesc s x).isSome) ∧ t.qm.waiting = s.qm.waiting

theorem KeepsCached.refl (s : State) : KeepsCached s s := ⟨fun _ => rfl, rfl⟩

theorem KeepsCached.trans {s t u : State} (h : KeepsCached s t) (k : KeepsCached t u) : KeepsCached s u :=
  ⟨fun x => (k.1 x).trans (h.1 x), k.2.trans h.2⟩

theorem KeepsCached.of_memAccess {s u : State} (h : MemAccess s u) : KeepsCached s u :=
  ⟨fun x => by rw [h.cachedDesc_eq], by rw [h.qm_eq]⟩

theorem keepsCached_updateDesc (q : Nat) (f : Desc → Desc) (s : State) : KeepsCached s (updateDesc q f s) :=
  ⟨updateDesc_isSome s q f, updateDesc_waiting s q f⟩

theorem keepsCached_closeQueue (q : Nat) (s : State) : KeepsCached s (closeQueue q s) := by
  unfold closeQueue
  exact KeepsCached.trans (t := s.setFld QM_ERR QM_ERR_ECC 1) ⟨fun _ => rfl, rfl⟩ (keepsCached_updateDesc ..)

theorem keepsCached_takeHead (q : Nat) (s : State) : KeepsCached s (takeHead q s).2 := by
  have hl : KeepsCached s (readLink s (descOf s q).head).2.2 := by
    obtain ⟨ha, -⟩ := readLink_memAccess s (descOf s q).head
    exact .of_memAccess ha
  unfold takeHead
  dsimp only
  revert hl
  generalize readLink s (descOf s q).head = l
  obtain ⟨n, ecc, v⟩ := l
  intro hl
  by_cases h1 : (descOf s q).count ≤ 1
  · rw [if_pos h1]
    exact keepsCached_updateDesc q _ s
  · rw [if_neg h1]
    cases ecc with
    | true => exact hl
    | false => exact hl.trans (keepsCached_updateDesc q _ v)

theorem keepsCached_qmDeq (q : Nat) (s : State) : KeepsCached s (qmDeq q s).s := by
  have ht := keepsCached_takeHead q s
  unfold qmDeq
  split
  · exact .refl s
  · split
    · next h =>
      rw [h] at ht
      exact ht
    · next h =>
      rw [h] at ht
      exact ht.trans (keepsCached_closeQueue q _)

theorem keepsCached_linked {c : Prop} [Decidable c] (i n : Nat) (s : State) : KeepsCached s (if c then s else writeLink i n s) := by
  split
  · exact .refl s
  · exact .of_memAccess (writeLink_memAccess ..)

theorem keepsCached_withPool (s : State) (n e : Nat) : KeepsCached s (withPool s n e) := ⟨fun _ => rfl, rfl⟩

theorem keepsCached_qmFlush (q : Nat) (s : State) : KeepsCached s (qmFlush q s).s := by
  unfold qmFlush
  extract_lets d s1 s2
  by_cases h : d.count = 0
  · rw [if_pos h]
    exact .refl s
  · rw [if_neg h]
    have h1 : KeepsCached s s1 := keepsCached_linked ..
    exact (h1.trans (keepsCached_withPool s1 (freeCount s + d.count) d.head)).trans (keepsCached_updateDesc ..)

theorem keepsCached_qmFree (e : Nat) (s : State) : KeepsCached s (qmFree e s).s := by
  unfold qmFree
  extract_lets s1
  have h1 : KeepsCached s s1 := keepsCached_linked ..
  exact h1.trans (keepsCached_withPool s1 (freeCount s + 1) e)

theorem keepsCached_enqTail (q e : Nat) (s : State) : KeepsCached s (qmEnqTail q e s).s := by
  unfold qmEnqTail
  extract_lets d
  split
  · exact .refl s
  · split
    · exact keepsCached_updateDesc ..
    · exact (KeepsCached.of_memAccess (writeLink_memAccess ..)).trans (keepsCached_updateDesc ..)

theorem keepsCached_enqHead (q e : Nat) (s : State) : KeepsCached s (qmEnqHead q e s).s := by
  unfold qmEnqHead
  extract_lets d
  split
  · exact .refl s
  · split
    · exact keepsCached_updateDesc ..
    · exact (KeepsCached.of_memAccess (writeLink_memAccess ..)).trans (keepsCached_updateDesc ..)

/-- The operations on one queue. -/
theorem keepsCached_qmAct {op q data : Nat} (hq : qmQueues op q data = [q]) (s : State) : KeepsCached s (qmAct op q data s).s := by
  have hop : op ≠ 4 ∧ op ≠ 5 ∧ op ≠ 8 := by
    unfold qmQueues at hq
    refine ⟨?_, ?_, ?_⟩ <;> rintro rfl <;> simp at hq
  unfold qmAct
  extract_lets e d
  split
  · exact keepsCached_enqTail ..
  · exact keepsCached_enqHead ..
  · exact keepsCached_qmDeq q s
  · unfold qmPeek
    split <;> exact .refl s
  · exact absurd rfl hop.1
  · exact absurd rfl hop.2.1
  · exact keepsCached_qmFlush q s
  · exact .refl s
  · exact absurd rfl hop.2.2
  · exact keepsCached_qmFree e s

theorem keepsCached_qmFinish (ag : Agent) (op q : Nat) (r : QmOut) : KeepsCached r.s (qmFinish ag op q r) :=
  ⟨fun x => by rw [qmFinish_cachedDesc], qmFinish_waiting ag op q r⟩

theorem keepsCached_touched {s t : State} (h : Touched s t) : KeepsCached s t := ⟨h.isSome_eq, h.waiting_eq⟩

theorem keepsCached_qmRun {ag : Agent} {op q data : Nat} {s : State} (hq : qmQueues op q data = [q])
    (hc : (cachedDesc s q).isSome = true) : KeepsCached s (qmRun ag op q data s).s := by
  obtain ⟨t, k, hrun⟩ := qmRun_cached (ag := ag) (op := op) (q := q) (data := data) (s := s) (by rw [hq]; simpa using hc)
  rw [hrun]
  refine (keepsCached_touched k).trans ?_
  unfold qmOutcome
  split
  · exact .refl t
  · exact keepsCached_qmAct hq t

/-! ### The fetch of a descriptor -/

section Fetch
variable (q : Nat) (s : State)

theorem readDesc_tuple : readDesc s q =
    (let w := fun (i : Nat) => leNat (((engRead 32 s (descAddr s q) 16).data.drop (4 * i)).take 4)
     decodeDesc (w 0) (w 1) (w 2) (w 3), (engRead 32 s (descAddr s q) 16).ecc, (engRead 32 s (descAddr s q) 16).s) := by
  delta readDesc
  exact rfl

theorem readDesc_state : (readDesc s q).2.2 = (engRead 32 s (descAddr s q) 16).s := snd_of_eq (snd_of_eq (readDesc_tuple q s))

theorem readDesc_memAccess : MemAccess s (readDesc s q).2.2 := by
  rw [readDesc_state]
  exact (engRead_memAccess ..).1

theorem writeDesc_memAccess (d : Desc) : MemAccess s (writeDesc q d s) := (engWrite_memAccess ..).freeNext

theorem makeRoom_waiting : (makeRoom q s).qm.waiting = s.qm.waiting := by
  unfold makeRoom
  split
  · rfl
  · split
    · rfl
    · next e _ =>
      dsimp only
      rw [mapQm_qm]
      dsimp only
      split
      · exact congrArg Qm.waiting (writeDesc_memAccess e.1 s e.2).qm_eq
      · rfl

/-- A fetched descriptor put into the cache, with the mark of its use. -/
def fetched (n : Nat) (d : Desc) : State :=
  (putCache q { d with dirty := false, age := n + 1 } s).mapQm (fun m => { m with uses := m.uses + 1 })

theorem fetched_cached (n : Nat) (d : Desc) : (cachedDesc (fetched q s n d) q).isSome = true := by
  have hd : { d with dirty := false, age := n + 1 } ≠ noDesc := ne_noDesc_of_age (Nat.succ_ne_zero _)
  have hp : cachedDesc (fetched q s n d) q = some { d with dirty := false, age := n + 1 } := cachedDesc_putCache_same s q _ hd
  rw [hp]
  rfl

theorem fetched_waiting (n : Nat) (d : Desc) : (fetched q s n d).qm.waiting = s.qm.waiting := rfl

theorem touchDesc_miss (h : cachedDesc s q = none) : touchDesc q s =
    if (readDesc (makeRoom q s) q).2.1 then (true, closeQueue q (fetched q (readDesc (makeRoom q s) q).2.2 s.qm.uses (readDesc (makeRoom q s) q).1))
    else (false, fetched q (readDesc (makeRoom q s) q).2.2 s.qm.uses (readDesc (makeRoom q s) q).1) := by
  delta touchDesc
  dsimp only
  rw [h]
  exact rfl

/-- A use of descriptor `q` leaves it in the cache, readable or not; what waits goes on waiting. -/
theorem touchDesc_brings : (cachedDesc (touchDesc q s).2 q).isSome = true ∧ (touchDesc q s).2.qm.waiting = s.qm.waiting := by
  cases hc : cachedDesc s q with
  | some d =>
    obtain ⟨t, ht, k⟩ := touchDesc_cached (q := q) (s := s) (by rw [hc]; rfl)
    rw [ht]
    exact ⟨(k.isSome_eq q).trans (by rw [hc]; rfl), k.waiting_eq⟩
  | none =>
    have hr := (congrArg Qm.waiting (readDesc_memAccess q (makeRoom q s)).qm_eq).trans (makeRoom_waiting q s)
    rw [touchDesc_miss q s hc]
    revert hr
    generalize readDesc (makeRoom q s) q = r
    intro hr
    by_cases hb : r.2.1 = true
    · rw [if_pos hb]
      obtain ⟨k1, k2⟩ := keepsCached_closeQueue q (fetched q r.2.2 s.qm.uses r.1)
      dsimp only
      exact ⟨(k1 q).trans (fetched_cached ..), k2.trans ((fetched_waiting ..).trans hr)⟩
    · rw [if_neg hb]
      dsimp only
      exact ⟨fetched_cached .., (fetched_waiting ..).trans hr⟩

/-- The state with its waiting operations taken off the list. -/
def noneWaiting (s : State) : State := s.mapQm (fun m => { m with waiting := [] })

theorem noneWaiting_waiting : (noneWaiting s).qm.waiting = [] := rfl
theorem noneWaiting_cached : cachedDesc (noneWaiting s) q = cachedDesc s q := rfl

/-- With nothing waiting, nothing is run. -/
theorem runAllWaiting_none (h : s.qm.waiting = []) : runAllWaiting s = noneWaiting s := by
  unfold runAllWaiting
  rw [h]
  rfl

variable {q s}

/-- An operation that needs one descriptor needs that of its own queue. -/
theorem queue_of_qmQueues {op x data : Nat} (h : qmQueues op x data = [q]) : x = q := by
  unfold qmQueues at h
  split at h
  · cases h
  · split at h
    · cases h
    · exact List.cons.inj h |>.1

/-- The one operation that waits, its descriptor cached, is carried out. -/
theorem runAllWaiting_one {w : QmWait} (h : s.qm.waiting = [w]) (hq : qmQueues w.op w.q w.data = [q])
    (hc : (cachedDesc s q).isSome = true) :
    (runAllWaiting s).qm.waiting = [] ∧ (cachedDesc (runAllWaiting s) q).isSome = true := by
  obtain rfl := queue_of_qmQueues hq
  have hcn : (cachedDesc (noneWaiting s) w.q).isSome = true := by
    rw [noneWaiting_cached]
    exact hc
  have hrun : runAllWaiting s = qmFinish w.ag w.op w.q (qmRun w.ag w.op w.q w.data (noneWaiting s)) := by
    have hall : ([w.q].all (fun x => (cachedDesc (noneWaiting s) x).isSome && !([] : List Nat).contains x)) = true := by
      rw [List.all_cons, hcn]
      rfl
    unfold runAllWaiting
    change runWaiting [] s.qm.waiting (noneWaiting s) = _
    rw [h, runWaiting, hq, if_pos hall, runWaiting]
  obtain ⟨k1, k2⟩ := (keepsCached_qmRun (ag := w.ag) hq hcn).trans (keepsCached_qmFinish w.ag w.op w.q _)
  rw [hrun]
  exact ⟨k2.trans (noneWaiting_waiting s), (k1 w.q).trans hcn⟩

/-- The fetch ends the wait of the one operation that waits for it. -/
theorem fetchDone_ends {w : QmWait} (h : s.qm.waiting = [w]) (hq : qmQueues w.op w.q w.data = [q]) :
    (doQmDescriptorFetchDone q s).qm.waiting = [] ∧ (cachedDesc (doQmDescriptorFetchDone q s) q).isSome = true := by
  obtain ⟨hc, hw⟩ := touchDesc_brings q s
  have hfind : s.qm.waiting.find? (fun w => (qmQueues w.op w.q w.data).contains q) = some w := by
    rw [h, List.find?_cons_of_pos]
    rw [hq]
    simp
  unfold doQmDescriptorFetchDone
  rw [hfind]
  dsimp only
  rw [h] at hw
  revert hc hw
  generalize touchDesc q s = r
  intro hc hw
  by_cases hb : r.1 = true
  · rw [if_pos hb]
    have herase : (r.2.mapQm (fun m => { m with waiting := m.waiting.erase w })).qm.waiting = [] := by
      rw [mapQm_qm]
      dsimp only
      rw [hw, List.erase_cons_head]
    obtain ⟨k1, k2⟩ := keepsCached_qmFinish w.ag w.op w.q (qmFail qmBadIndex (r.2.mapQm (fun m => { m with waiting := m.waiting.erase w })))
    rw [runAllWaiting_none _ (k2.trans herase), noneWaiting_cached]
    exact ⟨noneWaiting_waiting _, (k1 q).trans hc⟩
  · rw [if_neg hb]
    exact runAllWaiting_one hw hq hc

end Fetch

/-- An operation that a check before the descriptors stops. -/
theorem refused_early {ag : Agent} {op q st : Nat} {s v : State} (h : v = qmFinish ag op q (qmFail st s)) : Refused ag op q st s v :=
  ⟨s, .refl s, h⟩

theorem qmEarly_off {op q : Nat} {form : Bool} {s : State} (h : s.fld QM_CTL QM_CTL_EN = 0) : qmEarly op q form s = 6 := by
  unfold qmEarly
  rw [(flag_eq_false_iff ..).2 h]
  rfl

theorem qmEarly_on {op q : Nat} {form : Bool} {s : State} (h1 : s.fld QM_CTL QM_CTL_EN = 1) (h2 : s.fld QM_STAT QM_STAT_DESC_BUSY = 0)
    (h3 : s.fld QM_STAT QM_STAT_POOL_BUSY = 0) :
    qmEarly op q form s = if !form || 10 ≤ op || ((op = 8 || op = 9) && q ≠ 0) then 7 else 0 := by
  unfold qmEarly
  rw [flag_eq_true_of_fld_eq_one _ _ _ h1, (flag_eq_false_iff ..).2 h2, (flag_eq_false_iff ..).2 h3]
  rfl

/-- Settles O46: the first failing check decides, and a missing descriptor is waited for. -/
theorem queueChecksStopAtTheFirst : Obligations.QueueChecksStopAtTheFirst := by
  unfold Obligations.QueueChecksStopAtTheFirst
  intro ag q e op s a
  refine ⟨fun hr => ?_, fun hr => ?_, fun h => ?_, fun hr => ?_, fun h1 h2 h3 hc => ?_, fun w hw hq => ?_⟩
  · show enqStatus ag q e s ≠ 0 → ∃ t, Completes (.enqt ag q e) s t ∧ qmResult ag t = enqStatus ag q e s * 2 ^ 24 ∧ t.mem = s.mem ∧
      (∀ x, SameQueue x s t) ∧ freeCount t = freeCount s ∧ bits (t.reg QM_ERR).toNat (enqStatus ag q e s - 2) 1 = 1 ∧ _
    intro h
    have hf := refused_enqt hr e.isLt h
    obtain ⟨hlo, hhi, hfld⟩ := enqStatus_range h
    exact ⟨_, .of_eq rfl rfl, hf.result h, hf.mem, hf.sameQueue, hf.freeCount,
      hf.record rfl hfld rfl (by dsimp only; omega) (by decide) (by omega) q.isLt⟩
  · show deqStatus ag q s ≠ 0 → ∃ t, Completes (.deq ag q) s t ∧ qmResult ag t = deqStatus ag q s * 2 ^ 24 ∧ _
    intro h
    have hf := refused_deq hr h
    exact ⟨_, .of_eq rfl rfl, hf.result h, hf.mem, hf.sameQueue, hf.noRecord rfl⟩
  · have hf : Refused ag 9 0 6 s (doDoorbell ag 9 0 e s) := refused_early (by
      unfold doDoorbell
      dsimp only
      rw [qmEarly_off h, if_pos (by decide)])
    exact ⟨_, .of_eq rfl rfl, hf.result (by decide), hf.mem, hf.freeCount, (hf.record (f := QM_ERR_BUSY) rfl rfl rfl (by decide)
      (by decide) (by decide) (by decide)).1⟩
  · obtain ⟨h1, h2, h3, -⟩ := hr
    have hf : Refused ag op q 7 s (doQmIllegalOperation ag op q s) := refused_early (by
      unfold doQmIllegalOperation
      dsimp only
      rw [qmEarly_on h1 h2 h3]
      rfl)
    exact ⟨_, .of_eq rfl rfl, hf.result (by decide), hf.mem, hf.sameQueue, fun hw => (hf.record (f := QM_ERR_ILLEGAL) hw rfl rfl
      (by decide) (by omega) (by decide) q.isLt).1⟩
  · have hrun := doDoorbell_waits (ag := ag) (op := 2) (q := q) (data := 0) (s := s) ((qmEarly_on h1 h2 h3).trans rfl)
      (by simp [qmQueues, hc])
    have hk := countCache_onlyRegs (qmQueues 2 q 0) s
    have hq : (countCache (qmQueues 2 q 0) s).qm = s.qm := (congrArg State.qm hk.rest :)
    refine ⟨_, .of_eq rfl hrun, (congrArg State.mem hk.rest :), fun x => ?_, ?_⟩
    · show descOf (countCache (qmQueues 2 q 0) s) x = _
      unfold descOf
      rw [cachedDesc_of_cache_eq (congrArg Qm.cache hq)]
    · show (countCache (qmQueues 2 q 0) s).qm.waiting ++ _ = _
      rw [hq]
  · exact ⟨_, .of_eq rfl rfl, fetchDone_ends hw hq⟩

end Sys2Proof.Machine
end

section

/-! SUPPORT. Configuration of the queue manager: O47. -/

namespace Sys2Proof.Machine
open R

/-! ### The command bits of QM_CTL and their ends (R259, R260) -/

section Control
variable {s : State}

theorem qmEnabled_iff : s.flag QM_CTL QM_CTL_EN = true ↔ s.fld QM_CTL QM_CTL_EN = 1 := flag_eq_true_iff s QM_CTL rfl

/-- `u` after the end of the descriptors' initialisation. -/
def descEnded (u : State) : State := (u.setFld QM_STAT QM_STAT_DESC_BUSY 0).mapQm (fun m => { m with cache := [], nonEmpty := [] })

/-- `u` after the end of the pool's initialisation with `n` elements. -/
def poolEnded (n : Nat) (u : State) : State :=
  ((setFreeCount u n).setFld QM_STAT QM_STAT_POOL_BUSY 0).mapQm (fun m => { m with freeHead := 0 })

theorem initDescDone_eq (h : s.fld QM_STAT QM_STAT_DESC_BUSY = 1) : ∃ u, doInitDescDone s = descEnded u := by
  have hb := flag_eq_true_of_fld_eq_one _ _ _ h
  unfold doInitDescDone descEnded
  rw [hb]
  exact ⟨_, if_neg (by decide)⟩

theorem initPoolDone_eq (h : s.fld QM_STAT QM_STAT_POOL_BUSY = 1) : ∃ u, doInitPoolDone s = poolEnded (poolSize s) u := by
  have hb := flag_eq_true_of_fld_eq_one _ _ _ h
  unfold doInitPoolDone poolEnded
  rw [hb]
  exact ⟨_, if_neg (by decide)⟩

theorem mapQm_fld (s : State) (f : Qm → Qm) (a : Nat) (g : Fld) : (s.mapQm f).fld a g = s.fld a g := rfl

theorem descEnded_busy (u : State) : (descEnded u).fld QM_STAT QM_STAT_DESC_BUSY = 0 := by
  unfold descEnded
  rw [mapQm_fld]
  exact fld_setFld_of_lt u QM_STAT QM_STAT_DESC_BUSY 0 (by decide) (by decide)

theorem descEnded_queueHas (u : State) (x : Nat) : queueHas (descEnded u) x = false := rfl

theorem poolEnded_busy (n : Nat) (u : State) : (poolEnded n u).fld QM_STAT QM_STAT_POOL_BUSY = 0 := by
  unfold poolEnded
  rw [mapQm_fld]
  exact fld_setFld_of_lt (setFreeCount u n) QM_STAT QM_STAT_POOL_BUSY 0 (by decide) (by decide)

theorem poolEnded_freeCount {n : Nat} (hn : n < 2 ^ 25) (u : State) : freeCount (poolEnded n u) = n := by
  unfold poolEnded freeCount
  rw [mapQm_fld, fld_setFld_other _ _ _ _ _ _ (by decide)]
  exact freeCount_setFreeCount u hn

/-- One descriptor written back, and so clean. -/
def wroteBack (s : State) (e : Nat × Desc) : State :=
  (writeDesc e.1 e.2 s).mapQm (fun m => { m with
    cache := m.cache.map (fun x => if x.1 = e.1 then (x.1, { x.2 with dirty := false }) else x) })

theorem writeBackAll_eq (s : State) : writeBackAll s = (s.qm.cache.filter (fun e => e.2.dirty)).foldl wroteBack s := rfl

theorem wroteBack_cache (s : State) (e : Nat × Desc) : (wroteBack s e).qm.cache =
    s.qm.cache.map (fun x => if x.1 = e.1 then (x.1, { x.2 with dirty := false }) else x) := by
  unfold wroteBack
  rw [mapQm_qm, (writeDesc_memAccess e.1 s e.2).qm_eq]

/-- What is dirty after write-backs was dirty before, and is none of those written back. -/
theorem dirty_of_foldl_wroteBack {l : List (Nat × Desc)} {s : State} {x : Nat × Desc}
    (hx : x ∈ (l.foldl wroteBack s).qm.cache) (hd : x.2.dirty = true) : x ∈ s.qm.cache ∧ ∀ e ∈ l, x.1 ≠ e.1 := by
  induction l generalizing s with
  | nil => exact ⟨hx, fun _ h => nomatch h⟩
  | cons e l ih =>
    obtain ⟨hmem, hne⟩ := ih hx
    rw [wroteBack_cache, List.mem_map] at hmem
    obtain ⟨y, hy, rfl⟩ := hmem
    by_cases hk : y.1 = e.1
    · rw [if_pos hk] at hd
      exact nomatch hd
    · rw [if_neg hk] at hne ⊢
      exact ⟨hy, List.forall_mem_cons.2 ⟨hk, hne⟩⟩

theorem writeBackAll_clean : ∀ x ∈ (writeBackAll s).qm.cache, x.2.dirty = false := by
  intro x hx
  by_contra hd
  have hd : x.2.dirty = true := by simpa using hd
  rw [writeBackAll_eq] at hx
  obtain ⟨hmem, hne⟩ := dirty_of_foldl_wroteBack hx hd
  exact hne x (List.mem_filter.2 ⟨hmem, hd⟩) rfl

theorem writeBackDone_ends (h : s.fld QM_STAT QM_STAT_WB_BUSY = 1) :
    (doQmWriteBackDone s).fld QM_STAT QM_STAT_WB_BUSY = 0 ∧ (∀ x ∈ (doQmWriteBackDone s).qm.cache, x.2.dirty = false) ∧
      (s.fld QM_CTL QM_CTL_EN = 0 → (doQmWriteBackDone s).fld QM_STAT QM_STAT_EN_OUT = 0) := by
  have hclean := writeBackAll_clean (s := s)
  unfold doQmWriteBackDone
  rw [flag_eq_true_of_fld_eq_one _ _ _ h, if_neg (by decide)]
  dsimp only
  revert hclean
  generalize writeBackAll s = u
  intro hclean
  have hbusy := fld_setFld_of_lt u QM_STAT QM_STAT_WB_BUSY 0 (by decide) (by decide)
  by_cases hen : s.flag QM_CTL QM_CTL_EN = true
  · rw [if_pos hen]
    exact ⟨hbusy, hclean, fun h0 => absurd (h0.symm.trans (qmEnabled_iff.1 hen)) (by decide)⟩
  · rw [if_neg hen]
    exact ⟨(fld_setFld_ne _ _ _ _ _ (by decide) (by decide)).trans hbusy, hclean,
      fun _ => fld_setFld_of_lt _ _ _ _ (by decide) (by decide)⟩

end Control

/-! ### The configuration of the selected queue (R248, R251) -/

/-- The use of a cached queue changes no other descriptor, so no count of pinned ones. -/
theorem pinnedOthers_touchDesc {q : Nat} {s : State} (h : (cachedDesc s q).isSome = true) :
    pinnedOthers (touchDesc q s).2 q = pinnedOthers s q := by
  have key (u : State) : pinnedOthers u q =
      (((u.qm.cache.filter (fun e => e.1 ≠ q)).filter (fun e => e.1 % 2048 = q % 2048)).filter (fun e => e.2.pin)).length := by
    unfold pinnedOthers cacheSet
    rw [List.filter_filter, List.filter_filter, List.filter_filter]
    refine congrArg List.length (List.filter_congr fun e _ => ?_)
    cases e.2.pin <;> simp [Bool.and_comm]
  have hcache : (touchDesc q s).2.qm.cache = tput noDesc s.qm.cache q { descOf s q with age := s.qm.uses + 1 } := by
    unfold touchDesc
    rw [cached_descOf h]
    rfl
  rw [key, key, hcache, filter_tput_other (ne_noDesc_of_age (Nat.succ_ne_zero _))]

theorem qmGuard_writer {ag : Agent} (h : ag = .clove ∨ ag = .dap) (s : State) (f : State → State) : qmGuard ag s f = f s := by
  rcases h with rfl | rfl <;> rfl

theorem qmGuard_other {ag : Agent} (h1 : ag ≠ .clove) (h2 : ag ≠ .dap) (s : State) (f : State → State) :
    qmGuard ag s f = s.setFld QM_ERR QM_ERR_CFG_WRITER 1 := by
  unfold qmGuard qmWriter
  simp [h1, h2]

/-- A change of one cached descriptor after its use. -/
theorem updated_after_touch {q : Nat} {s t : State} (h : (cachedDesc s q).isSome = true) (k : Touched s t) (f : Desc → Desc) :
    descOf (updateDesc q f t) q = { f (descOf t q) with dirty := true } ∧ ∀ x, x ≠ q → SameQueue x s (updateDesc q f t) :=
  ⟨descOf_updateDesc_same f ((k.isSome_eq q).trans h), fun _ hx => k.sameQueue (descOf_updateDesc_other t q f hx)⟩

section Configure
variable {ag : Agent} {v : Word} {s : State} (hag : ag = .clove ∨ ag = .dap) (hc : (cachedDesc s (qmSel s)).isSome = true)
include hag

theorem qcfgWrite_badOwner (h : validOwner (bits v.toNat 0 8) = false) :
    doQmQcfgWrite ag v s = s.setFld QM_ERR QM_ERR_CFG_CODE 1 := by
  unfold doQmQcfgWrite
  rw [qmGuard_writer hag]
  dsimp only
  rw [h]
  rfl

include hc

theorem qcfgWrite_pinFull (h : validOwner (bits v.toNat 0 8) = true) (hp : bits v.toNat 8 1 = 1 ∧ 2 ≤ pinnedOthers s (qmSel s)) :
    ∃ t, Touched s t ∧ doQmQcfgWrite ag v s = t.setFld QM_ERR QM_ERR_PIN_FULL 1 := by
  obtain ⟨t, ht, k⟩ := touchDesc_cached hc
  have hpin := pinnedOthers_touchDesc hc
  rw [ht] at hpin
  refine ⟨t, k, ?_⟩
  unfold doQmQcfgWrite
  rw [qmGuard_writer hag]
  dsimp only
  rw [h, ht, if_neg (by decide), hpin, decide_eq_true hp.1, decide_eq_true hp.2]
  rfl

theorem qcfgWrite_done (h : validOwner (bits v.toNat 0 8) = true) (hp : ¬ (bits v.toNat 8 1 = 1 ∧ 2 ≤ pinnedOthers s (qmSel s))) :
    ∃ t, Touched s t ∧ doQmQcfgWrite ag v s =
      updateDesc (qmSel s) (fun d => { d with owner := bits v.toNat 0 8, pin := decide (bits v.toNat 8 1 = 1) }) t := by
  obtain ⟨t, ht, k⟩ := touchDesc_cached hc
  have hpin := pinnedOthers_touchDesc hc
  rw [ht] at hpin
  refine ⟨t, k, ?_⟩
  unfold doQmQcfgWrite
  rw [qmGuard_writer hag]
  dsimp only
  rw [h, ht, if_neg (by decide), hpin, if_neg (by simpa using hp)]

theorem qlimWrite_done : ∃ t, Touched s t ∧ doQmQlimWrite ag v s =
    updateDesc (qmSel s) (fun d => { d with limit := bits v.toNat 0 25 }) t := by
  obtain ⟨t, ht, k⟩ := touchDesc_cached hc
  refine ⟨t, k, ?_⟩
  unfold doQmQlimWrite
  rw [qmGuard_writer hag, ht]

end Configure

/-! ### The watch table (R257, R258) -/

theorem fieldsAt_watchCfg {w : Nat} (h : w < 4096) : fieldsAt (QM_W_w_CFG w) = [⟨0, 20, .rw⟩, ⟨30, 2, .rw⟩] :=
  fieldsAt_of_regRow (regRow_QM_W_w_CFG h)

theorem fieldsAt_watchPend {i : Nat} (h : i < 128) : fieldsAt (QM_W_PEND_i i) = [⟨0, 32, .w1c⟩] :=
  fieldsAt_of_regRow (regRow_QM_W_PEND_i h)

/-- A written field of a watch entry, after the look at the table. -/
theorem watchCfgWrite_fld {w : Nat} (hw : w < 4096) (v : Word) (s : State) (f : Fld)
    (hf : accOf f.lo f.w [⟨0, 20, .rw⟩, ⟨30, 2, .rw⟩] = some .rw) :
    (doWatchCfgWrite w v s).fld (QM_W_w_CFG w) f = bits v.toNat f.lo f.w := by
  unfold doWatchCfgWrite
  rw [fld_of_reg_eq ((watchSettle_only _).config_eq hw)]
  exact fld_writeByType s _ v f .rw (fieldsAt_watchCfg hw) (by decide) hf

/-- After a write of the table or of its pending bits the bit of a high level is set. -/
theorem watchSettle_high {w : Nat} (hw : w < 4096) (s : State) (h : watchLevel (watchSettle s) w = true) :
    watchPend (watchSettle s) w = 1 := by
  rw [(watchSettle_only s).watchLevel_eq hw] at h
  rw [watchSettle_pend s hw, if_pos h]

theorem watchLevel_pendWrite {i w : Nat} (hi : i < 128) (hw : w < 4096) (v : Word) (s : State) :
    watchLevel (s.writeByType (QM_W_PEND_i i) v) w = watchLevel s w := by
  have hreg : (s.writeByType (QM_W_PEND_i i) v).reg (QM_W_w_CFG w) = s.reg (QM_W_w_CFG w) :=
    reg_writeByType_other _ _ _ _ (by simp only [QM_W_PEND_i, QM_W_w_CFG]; omega)
  have hqm : (s.writeByType (QM_W_PEND_i i) v).qm = s.qm := by rw [writeByType_rest]
  unfold watchLevel queueHas
  dsimp only
  rw [fld_of_reg_eq hreg, flag_of_reg_eq hreg, flag_of_reg_eq hreg, hqm]

theorem watchPend_pendWrite {i j : Nat} (hi : i < 128) (hj : j < 32) (v : Word) (s : State) :
    watchPend (s.writeByType (QM_W_PEND_i i) v) (32 * i + j) =
      if bits v.toNat j 1 = 1 then 0 else watchPend s (32 * i + j) := by
  have e1 : (32 * i + j) / 32 = i := by omega
  have e2 : (32 * i + j) % 32 = j := by omega
  unfold watchPend
  rw [e1, e2, fld_writeByType s _ v ⟨j, 1⟩ .w1c (fieldsAt_watchPend hi) (by decide)
    (by simp [accOf, FieldRow.beside]; omega)]
  unfold Acc.write
  have h1 := bits_lt v.toNat j 1
  have h2 := fld_lt s (QM_W_PEND_i i) ⟨j, 1⟩
  dsimp only at h2 ⊢
  rcases (by omega : bits v.toNat j 1 = 0 ∨ bits v.toNat j 1 = 1) with h | h <;>
    rcases (by omega : s.fld (QM_W_PEND_i i) ⟨j, 1⟩ = 0 ∨ s.fld (QM_W_PEND_i i) ⟨j, 1⟩ = 1) with k | k <;>
    simp [h, k]

/-- Settles O47, by what each command leaves of the descriptors and the watch table. -/
theorem queueConfigurationCommandsComplete : Obligations.QueueConfigurationCommandsComplete := by
  unfold Obligations.QueueConfigurationCommandsComplete
  intro ag v w i s q o pinFull
  refine ⟨fun h => ?_, fun h => ?_, fun h => ?_, fun h => ?_, .of_eq rfl rfl, fun h => ?_, ?_, fun h => ?_, fun h1 h2 => ?_,
    fun hag hc => ⟨fun h => ?_, fun h hp => ?_, fun h hp => ?_, ?_⟩, ?_, ?_⟩
  · have hen := (flag_eq_false_iff s QM_CTL QM_CTL_EN).2 h
    exact ⟨.of_eq rfl (if_neg (by simp [hen])), .of_eq rfl (if_neg (by simp [hen]))⟩
  · exact ⟨.of_eq rfl (if_pos (qmEnabled_iff.2 h)), .of_eq rfl (if_pos (qmEnabled_iff.2 h))⟩
  · obtain ⟨u, hu⟩ := initDescDone_eq h
    exact ⟨_, .of_eq rfl hu, descEnded_busy u, rfl, descEnded_queueHas u⟩
  · obtain ⟨u, hu⟩ := initPoolDone_eq h
    exact ⟨_, .of_eq rfl hu, poolEnded_busy _ u, poolEnded_freeCount (fld_lt s QM_POOL_SIZE QM_POOL_SIZE_ELEMS) u, rfl⟩
  · exact ⟨_, .of_eq rfl rfl, writeBackDone_ends h⟩
  · refine ⟨_, .of_eq rfl rfl, ?_, ?_, ?_⟩
    · exact ((onlyRegs_refl _ s).setFld (by simp) _ _).setFld (by simp) _ _
    · exact (fld_setFld_other _ QM_STAT QM_CTL _ _ _ (by decide)).trans (fld_setFld_of_lt _ _ _ _ (by decide) (by decide))
    · exact fld_setFld_of_lt _ _ _ _ (by decide) (by decide)
  · refine ⟨(s.setFld QM_CTL QM_CTL_EN 0).setFld QM_STAT QM_STAT_WB_BUSY 1, .of_eq rfl (if_pos (qmEnabled_iff.2 h)), ?_, ?_, ?_, ?_⟩
    · exact ((onlyRegs_refl _ s).setFld (by simp) _ _).setFld (by simp) _ _
    · exact (fld_setFld_other _ QM_STAT QM_CTL _ _ _ (by decide)).trans (fld_setFld_of_lt _ _ _ _ (by decide) (by decide))
    · exact fld_setFld_of_lt _ _ _ _ (by decide) (by decide)
    · exact (fld_setFld_ne _ _ _ _ _ (by decide) (by decide)).trans (fld_setFld_other _ QM_CTL QM_STAT _ _ _ (by decide))
  · exact ⟨.of_eq rfl (qmGuard_other h1 h2 ..), .of_eq rfl (qmGuard_other h1 h2 ..)⟩
  · exact .of_eq rfl (qcfgWrite_badOwner hag h)
  · obtain ⟨t, k, e⟩ := qcfgWrite_pinFull hag hc h hp
    exact ⟨_, .of_eq rfl e, fld_setFld_of_lt _ _ _ _ (by decide) (by decide), fun x => k.sameQueue rfl⟩
  · obtain ⟨t, k, e⟩ := qcfgWrite_done hag hc h hp
    obtain ⟨hd, hx⟩ := updated_after_touch hc k (fun d => { d with owner := bits v.toNat 0 8, pin := decide (bits v.toNat 8 1 = 1) })
    refine ⟨_, .of_eq rfl e, ?_, ?_, ?_, ?_, hx⟩ <;> rw [hd]
    · exact k.count_eq _
    · exact k.head_eq _
  · obtain ⟨t, k, e⟩ := qlimWrite_done (v := v) hag hc
    obtain ⟨hd, hx⟩ := updated_after_touch hc k (fun d => { d with limit := bits v.toNat 0 25 })
    refine ⟨_, .of_eq rfl e, ?_, ?_, hx⟩ <;> rw [hd]
    exact k.count_eq _
  · exact ⟨_, .of_eq rfl rfl, watchCfgWrite_fld w.isLt v s QM_W_w_CFG_QUEUE rfl, watchCfgWrite_fld w.isLt v s QM_W_w_CFG_GROUP rfl,
      watchCfgWrite_fld w.isLt v s QM_W_w_CFG_EN rfl, watchSettle_high w.isLt _⟩
  · refine ⟨_, .of_eq rfl rfl, fun j => ?_⟩
    have hw : 32 * i.val + j.val < 4096 := by omega
    have e1 : (32 * i.val + j.val) / 32 = i := by omega
    have e2 : (32 * i.val + j.val) % 32 = j := by omega
    have key := watchSettle_pend (s.writeByType (QM_W_PEND_i i) v) hw
    rw [watchLevel_pendWrite i.isLt hw, watchPend_pendWrite i.isLt j.isLt] at key
    unfold watchPend at key
    rw [e1, e2] at key
    exact key

end Sys2Proof.Machine
end

section

/-! SUPPORT. The registers and the record of a DMA channel: what each part of a channel's work leaves of them. -/

namespace Sys2Proof.Machine
open R

/-! ### Memory writes of an engine -/

/-- Registers of the banks of some tile. -/
def bankReg (a : Nat) : Prop := a < 0x2000000000 ∧ 0xC10000 ≤ a % 0x1000000 ∧ a % 0x1000000 < 0xC10800

/-- Of the registers, only those of banks change. -/
structure BankRegs (s u : State) : Prop where
  reg : ∀ a, ¬ bankReg a → u.reg a = s.reg a

namespace BankRegs
variable {s u v : State}

theorem of_bankOnly {t b : Nat} (h : BankOnly t b s u) (ht : t < 256) (hb : b ≤ 8) : BankRegs s u := by
  refine ⟨fun a ha => h.reg a ?_ ?_⟩
  · rintro rfl
    refine ha ?_
    unfold bankReg bkEcc
    split <;> simp only [TL_t_BK_b_ECC, TL_t_CB_ECC] <;> omega
  · rintro rfl
    refine ha ?_
    unfold bankReg bkEccAddr
    split <;> simp only [TL_t_BK_b_ECCADDR, TL_t_CB_ECCADDR] <;> omega

theorem violation {t : Nat} (ht : t < 256) (s : State) (b code off : Nat) (write : Bool) :
    BankRegs s (violation s t b code off write) := by
  refine ⟨fun a ha => (violation_onlyRegs (s := s) (t := t) b code off write).2 a fun hmem => ha ?_⟩
  unfold bankReg
  simp only [List.mem_cons, List.not_mem_nil, or_false, TL_t_VIOL, TL_t_VIOL_CNT, TL_t_VIOL_ADDR] at hmem
  omega

theorem ownedWrite {t b : Nat} (ht : t < 256) (hb : b ≤ 8) (s : State) (code off : Nat) (l : List Byte) :
    BankRegs s (ownedWrite s t b code off l) := by
  unfold Machine.ownedWrite
  split
  · exact of_bankOnly (bankWrite_bankOnly ..) ht hb
  · exact violation ht ..

theorem ddrWrite (s : State) (a : Nat) (l : List Byte) : BankRegs s (ddrWrite s a l) := by
  refine ⟨fun b _ => ?_⟩
  unfold Machine.ddrWrite
  rw [reg_setBytes]
  refine each_induction (P := fun u => u.reg b = s.reg b) rfl fun u w _ h => ?_
  split
  · exact h
  · exact h

theorem memWrite (s : State) (a : Nat) (l : List Byte) : BankRegs s (memWrite s a l).2 := by
  unfold Machine.memWrite
  split
  · exact ddrWrite s a l
  next t b off hp =>
    obtain ⟨ht, hb⟩ := placeOf_bank hp
    dsimp only
    split
    · exact of_bankOnly (bankWrite_bankOnly ..) ht hb
    · exact ownedWrite ht hb ..
  · exact ⟨fun _ _ => rfl⟩

end BankRegs

/-- What a write of an engine leaves. -/
theorem dmaMemWrite_leaves {e : Nat} (he : e < 13) (a : Nat) (l : List Byte) (s : State) :
    BankRegs s (dmaMemWrite e a l s) ∧ (dmaMemWrite e a l s).dma = s.dma := by
  unfold dmaMemWrite
  dsimp only
  split
  · split
    next h =>
      have hb : a % 0x1000000 / 0x80000 ≤ 8 := by omega
      refine ⟨.ownedWrite (by omega) hb .., ?_⟩
      unfold ownedWrite
      split
      · exact (MemAccess.of_bankOnly (bankWrite_bankOnly ..) (by omega) hb).dma_eq
      · exact (violation_memAccess (by omega) ..).dma_eq
    · split
      · exact ⟨.of_bankOnly (bankWrite_bankOnly ..) (by omega) (by decide),
          (MemAccess.of_bankOnly (bankWrite_bankOnly ..) (by omega) (by decide)).dma_eq⟩
      · exact ⟨⟨fun _ _ => rfl⟩, rfl⟩
  · exact ⟨.memWrite .., (memWrite_memAccess ..).dma_eq⟩

/-! ### The registers of one channel -/

/-- Offset of STAT in a channel's group; the other offsets are those of R271. -/
def statOff : Nat := 0x24

/-- In `t` the channel's registers at the offsets outside `l`, and the fields of its STAT beside those of `fs`, are those of `s`. -/
structure ChanKeeps (e c : Nat) (l : List Nat) (fs : List Fld) (s t : State) : Prop where
  reg : ∀ k, k < 0x40 → k ≠ statOff → k ∉ l → t.reg (dmaBase e c + k) = s.reg (dmaBase e c + k)
  stat : ∀ f, (∀ g ∈ fs, g.lo + g.w ≤ f.lo ∨ f.lo + f.w ≤ g.lo) → t.fld (dmaStat e c) f = s.fld (dmaStat e c) f

namespace ChanKeeps
variable {e c : Nat} {l l' : List Nat} {fs fs' : List Fld} {s t u : State}

theorem refl (s : State) : ChanKeeps e c [] [] s s := ⟨fun _ _ _ _ => rfl, fun _ _ => rfl⟩

theorem trans (h : ChanKeeps e c l fs s t) (k : ChanKeeps e c l' fs' t u) : ChanKeeps e c (l ++ l') (fs ++ fs') s u := by
  refine ⟨fun a ha hs hl => ?_, fun f hf => ?_⟩
  · rw [List.mem_append, not_or] at hl
    exact (k.reg a ha hs hl.2).trans (h.reg a ha hs hl.1)
  · rw [List.forall_mem_append] at hf
    exact (k.stat f hf.2).trans (h.stat f hf.1)

theorem mono (h : ChanKeeps e c l fs s t) (hl : ∀ k ∈ l, k ∈ l') (hf : ∀ f ∈ fs, f ∈ fs') : ChanKeeps e c l' fs' s t :=
  ⟨fun a ha hs hn => h.reg a ha hs fun hm => hn (hl a hm), fun f hd => h.stat f fun g hg => hd g (hf g hg)⟩

/-- Nothing of the channel changes. -/
theorem of_regs (h : ∀ k, k < 0x40 → t.reg (dmaBase e c + k) = s.reg (dmaBase e c + k)) : ChanKeeps e c [] [] s t :=
  ⟨fun k hk _ _ => h k hk, fun f _ => fld_of_reg_eq (h statOff (by decide)) f⟩

theorem setReg (s : State) (k : Nat) (hk : k ≠ statOff) (v : Word) : ChanKeeps e c [k] [] s (s.setReg (dmaBase e c + k) v) := by
  refine ⟨fun a _ _ ha => reg_setReg_other _ _ _ _ ?_, fun f _ => fld_of_reg_eq (reg_setReg_other _ _ _ _ ?_) f⟩
  · have : a ≠ k := by simpa using ha
    omega
  · show dmaBase e c + statOff ≠ dmaBase e c + k
    omega

theorem setFld (s : State) (k : Nat) (hk : k ≠ statOff) (f : Fld) (x : Nat) :
    ChanKeeps e c [k] [] s (s.setFld (dmaBase e c + k) f x) := setReg s k hk _

theorem setStat (s : State) (f : Fld) (hf : f.lo + f.w ≤ 32) (x : Nat) : ChanKeeps e c [] [f] s (s.setFld (dmaStat e c) f x) := by
  refine ⟨fun a _ ha _ => reg_setFld_other _ _ _ _ _ ?_, fun g hg => fld_setFld_ne _ _ _ _ _ hf ?_⟩
  · show dmaBase e c + a ≠ dmaBase e c + statOff
    omega
  · exact hg f (List.mem_singleton_self f)

/-- The status of a channel whose STATE is not among what changes. -/
theorem state (h : ChanKeeps e c l fs s t) (hd : ∀ g ∈ fs, g.lo + g.w ≤ 0 ∨ 3 ≤ g.lo) : dmaState t e c = dmaState s e c :=
  h.stat _ hd

theorem fld (h : ChanKeeps e c l fs s t) (k : Nat) (hk : k < 0x40) (hs : k ≠ statOff) (hl : k ∉ l) (f : Fld) :
    t.fld (dmaBase e c + k) f = s.fld (dmaBase e c + k) f := fld_of_reg_eq (h.reg k hk hs hl) f

theorem flag (h : ChanKeeps e c l fs s t) (k : Nat) (hk : k < 0x40) (hs : k ≠ statOff) (hl : k ∉ l) (f : Fld) :
    t.flag (dmaBase e c + k) f = s.flag (dmaBase e c + k) f := flag_of_reg_eq (h.reg k hk hs hl) f

theorem shadowWords (h : ChanKeeps e c l fs s t) (hl : ∀ k ∈ l, 0x20 ≤ k) : shadowWords t e c = shadowWords s e c := by
  unfold Machine.shadowWords
  refine List.map_congr_left fun i hi => ?_
  rw [List.mem_range] at hi
  rw [h.reg (4 * i) (by omega) (by unfold statOff; omega) fun hm => by have := hl _ hm; omega]

end ChanKeeps

/-! ### The parts of a channel's work -/

section Parts
variable {e c : Nat} {s : State}

theorem dmaOf_of_dma_eq {t : State} (h : t.dma = s.dma) (e c : Nat) : t.dmaOf e c = s.dmaOf e c := by
  unfold State.dmaOf
  rw [h]

@[simp] theorem dmaOf_mapDma (f : DmaCh → DmaCh) : (s.mapDma e c f).dmaOf e c = f (s.dmaOf e c) := tget_tput_same ..

theorem mapDma_keeps (f : DmaCh → DmaCh) : ChanKeeps e c [] [] s (s.mapDma e c f) := .of_regs fun _ _ => rfl

theorem setDmaState_dma (e c st : Nat) (s : State) : (setDmaState e c st s).dma = s.dma := by
  unfold setDmaState
  dsimp only
  split
  · rfl
  · split <;> rfl

theorem setDmaState_mem (e c st : Nat) (s : State) : (setDmaState e c st s).mem = s.mem := by
  unfold setDmaState
  dsimp only
  split
  · rfl
  · split <;> rfl

variable (he : e < 13) (hc : c < dmaChannels e)
include hc

/-- The busy registers of the engines lie in no channel's group. -/
theorem busyReg_ne {k : Nat} (hk : k < 0x40) : (e < 12 → dmaBase e c + k ≠ DMA_t_BUSY e) ∧
    (¬ e < 12 → dmaBase e c + k ≠ TDMA_BUSY_LO ∧ dmaBase e c + k ≠ TDMA_BUSY_HI) := by
  unfold dmaChannels at hc
  refine ⟨fun h => ?_, fun h => ?_⟩
  · rw [if_pos h] at hc
    unfold dmaBase
    rw [if_pos h]
    simp only [DMA_t_CH_c_W0, DMA_t_BUSY]
    omega
  · rw [if_neg h] at hc
    unfold dmaBase
    rw [if_neg h]
    simp only [TDMA_CH_c_W0, TDMA_BUSY_LO, TDMA_BUSY_HI]
    omega

theorem not_bankReg {k : Nat} (hk : k < 0x40) : ¬ bankReg (dmaBase e c + k) := by
  unfold dmaChannels at hc
  unfold bankReg dmaBase
  split at hc
  next h =>
    rw [if_pos h]
    simp only [DMA_t_CH_c_W0]
    omega
  next h =>
    rw [if_neg h]
    simp only [TDMA_CH_c_W0]
    omega

theorem setDmaState_busy (st : Nat) (s : State) {k : Nat} (hk : k < 0x40) :
    (setDmaState e c st s).reg (dmaBase e c + k) = (s.setFld (dmaStat e c) DMA_t_CH_c_STAT_STATE st).reg (dmaBase e c + k) := by
  obtain ⟨h1, h2⟩ := busyReg_ne hc hk
  unfold setDmaState
  dsimp only
  split
  next h => exact reg_setFld_other _ _ _ _ _ (h1 h)
  next h =>
    split
    · exact reg_setFld_other _ _ _ _ _ (h2 h).1
    · exact reg_setFld_other _ _ _ _ _ (h2 h).2

theorem setDmaState_keeps (st : Nat) (s : State) : ChanKeeps e c [] [DMA_t_CH_c_STAT_STATE] s (setDmaState e c st s) := by
  have h : ChanKeeps e c [] [DMA_t_CH_c_STAT_STATE] s (s.setFld (dmaStat e c) DMA_t_CH_c_STAT_STATE st) := .setStat s _ (by decide) st
  exact ⟨fun k hk hs hl => (setDmaState_busy hc st s hk).trans (h.reg k hk hs hl),
    fun f hf => (fld_of_reg_eq (setDmaState_busy hc st s (k := statOff) (by decide)) f).trans (h.stat f hf)⟩

theorem dmaState_setDmaState {st : Nat} (hst : st < 8) (s : State) : dmaState (setDmaState e c st s) e c = st :=
  (fld_of_reg_eq (setDmaState_busy hc st s (k := statOff) (by decide)) _).trans (fld_setFld_of_lt _ _ _ _ (by decide) hst)

include he

theorem dmaWriteBack_leaves (st : Nat) (s : State) :
    ChanKeeps e c [] [] s (dmaWriteBack e c st s) ∧ (dmaWriteBack e c st s).dma = s.dma := by
  unfold dmaWriteBack
  split
  · obtain ⟨hr, hd⟩ := dmaMemWrite_leaves he (curAddr s e c + 0x13) [BitVec.ofNat 8 st] s
    exact ⟨.of_regs fun k hk => hr.reg _ (not_bankReg hc hk), hd⟩
  · exact ⟨.refl s, rfl⟩

/-- What an incomplete end of the active descriptor leaves. -/
theorem dmaIncomplete_leaves (extra : Nat) (s : State) : let t := dmaIncomplete e c extra s
    ChanKeeps e c [0x28] [DMA_t_CH_c_STAT_INCOMPLETE] s t ∧ t.dma = s.dma ∧ t.fld (dmaStat e c) DMA_t_CH_c_STAT_INCOMPLETE = 1 ∧
      t.reg (dmaRemain e c) = BitVec.ofNat 32 (dCount (s.dmaOf e c) - (s.dmaOf e c).moved) := by
  intro t
  let s1 := s.setFld (dmaStat e c) DMA_t_CH_c_STAT_INCOMPLETE 1
  let s2 := s1.setReg (dmaRemain e c) (BitVec.ofNat 32 (dCount (s.dmaOf e c) - (s.dmaOf e c).moved))
  have h1 : ChanKeeps e c [] [DMA_t_CH_c_STAT_INCOMPLETE] s s1 := .setStat s _ (by decide) 1
  have h2 : ChanKeeps e c [0x28] [] s1 s2 := .setReg s1 0x28 (by decide) _
  obtain ⟨h3, hd⟩ := dmaWriteBack_leaves he hc (2 + 4 * b2n (s.dmaOf e c).refused + extra) s2
  refine ⟨(h1.trans h2).trans h3, hd, ?_, (h3.reg 0x28 (by decide) (by decide) (by decide)).trans (reg_setReg_same ..)⟩
  exact (h3.stat _ (by decide)).trans ((h2.stat _ (by decide)).trans (fld_setFld_of_lt _ _ _ _ (by decide) (by decide)))

/-- STAT fields that an error sets. -/
def errorFlds : List Fld := [DMA_t_CH_c_STAT_INCOMPLETE, DMA_t_CH_c_STAT_ERR, DMA_t_CH_c_STAT_STATE]

/-- What an error of R277 leaves. -/
structure DmaFailed (e c code : Nat) (l : List Nat) (s t : State) : Prop where
  keeps : ChanKeeps e c l errorFlds s t
  state : dmaState t e c = 6
  err : t.fld (dmaStat e c) DMA_t_CH_c_STAT_ERR = code
  incomplete : t.fld (dmaStat e c) DMA_t_CH_c_STAT_INCOMPLETE = 1
  dma : t.dma = s.dma

theorem dmaError_fails {code : Nat} (hcode : code < 16) (s : State) : DmaFailed e c code [0x28] s (dmaError e c code s) := by
  obtain ⟨h1, hd, hi, -⟩ := dmaIncomplete_leaves he hc 8 s
  have h2 : ChanKeeps e c [] [DMA_t_CH_c_STAT_ERR] (dmaIncomplete e c 8 s)
      ((dmaIncomplete e c 8 s).setFld (dmaStat e c) DMA_t_CH_c_STAT_ERR code) := .setStat _ _ (by decide) code
  have h3 := setDmaState_keeps hc 6 ((dmaIncomplete e c 8 s).setFld (dmaStat e c) DMA_t_CH_c_STAT_ERR code)
  refine ⟨(h1.trans h2).trans h3, dmaState_setDmaState hc (by decide) _, ?_, ?_, (setDmaState_dma ..).trans hd⟩
  · exact (h3.stat _ (by decide)).trans (fld_setFld_of_lt _ _ _ _ (by decide) hcode)
  · exact (h3.stat _ (by decide)).trans ((h2.stat _ (by decide)).trans hi)

omit he in
theorem dmaFetchError_fails {code : Nat} (hcode : code < 16) (s : State) : DmaFailed e c code [] s (dmaFetchError e c code s) := by
  have h1 : ChanKeeps e c [] [DMA_t_CH_c_STAT_ERR] s (s.setFld (dmaStat e c) DMA_t_CH_c_STAT_ERR code) := .setStat _ _ (by decide) code
  have h2 : ChanKeeps e c [] [DMA_t_CH_c_STAT_INCOMPLETE] (s.setFld (dmaStat e c) DMA_t_CH_c_STAT_ERR code) _ := .setStat _ _ (by decide) 1
  have h3 := setDmaState_keeps hc 6 ((s.setFld (dmaStat e c) DMA_t_CH_c_STAT_ERR code).setFld (dmaStat e c) DMA_t_CH_c_STAT_INCOMPLETE 1)
  refine ⟨((h1.trans h2).trans h3).mono (by simp) (by decide), dmaState_setDmaState hc (by decide) _, ?_, ?_, setDmaState_dma ..⟩
  · exact (h3.stat _ (by decide)).trans ((h2.stat _ (by decide)).trans (fld_setFld_of_lt _ _ _ _ (by decide) hcode))
  · exact (h3.stat _ (by decide)).trans (fld_setFld_of_lt _ _ _ _ (by decide) (by decide))

end Parts

end Sys2Proof.Machine
end

section

/-! SUPPORT. The control bits of a DMA channel and the end of its descriptor: O48. -/

namespace Sys2Proof.Machine
open R

/-! ### A descriptor enters the active set (R267, R270) -/

/-- The record of a channel whose active set has just become `w`. -/
def DmaCh.with (d : DmaCh) (w : List Nat) : DmaCh := { d with w := w, moved := 0, refused := false }

/-- `t` is `s` with the words `w` in the active set of the channel, and the descriptor's address `a` in CUR if it came from memory. -/
structure Entered (e c : Nat) (w : List Nat) (mem : Option Nat) (s t : State) : Prop where
  keeps : ChanKeeps e c [0x28, 0x2C, 0x30] errorFlds s t
  chan : t.dmaOf e c = (s.dmaOf e c).with w
  cur : mem.getD 0 < 2 ^ 40 → curMem t e c = mem.isSome ∧ curAddr t e c = mem.getD 0
  bad : descBad e ((s.dmaOf e c).with w) = true → dmaState t e c = 6 ∧ t.fld (dmaStat e c) DMA_t_CH_c_STAT_ERR = 1
  good : descBad e ((s.dmaOf e c).with w) = false → t.mem = s.mem ∧
    t.reg (dmaRemain e c) = BitVec.ofNat 32 (dCount ((s.dmaOf e c).with w)) ∧
    dmaState t e c = if e < 12 ∧ s.fld (dmaCtl e c) DMA_t_CH_c_CTL_TICK = 1 then 3 else 2

section Enter
variable {e c : Nat} (he : e < 13) (hc : c < dmaChannels e)

/-- The state before the checks of R267. -/
def loaded (e c : Nat) (w : List Nat) (mem : Option Nat) (s : State) : State :=
  (((s.mapDma e c (fun _ => (s.dmaOf e c).with w)).setReg (dmaRemain e c) (BitVec.ofNat 32 (dCount ((s.dmaOf e c).with w)))).setReg
    (dmaCurLo e c) (BitVec.ofNat 32 (mem.getD 0))).setReg (dmaCurHi e c) (BitVec.ofNat 32 (mem.getD 0 / 2 ^ 32 + b2n mem.isSome * 2 ^ 31))

theorem enterActive_eq (e c : Nat) (w : List Nat) (mem : Option Nat) (s : State) : enterActive e c w mem s =
    if descBad e ((s.dmaOf e c).with w) then dmaError e c 1 (loaded e c w mem s)
    else setDmaState e c (if e < 12 && s.flag (dmaCtl e c) DMA_t_CH_c_CTL_TICK then 3 else 2) (loaded e c w mem s) := rfl

theorem loaded_keeps (w : List Nat) (mem : Option Nat) (s : State) : ChanKeeps e c [0x28, 0x2C, 0x30] [] s (loaded e c w mem s) := by
  have h1 : ChanKeeps e c [] [] s (s.mapDma e c (fun _ => (s.dmaOf e c).with w)) := mapDma_keeps _
  exact ((h1.trans (.setReg _ 0x28 (by decide) _)).trans (.setReg _ 0x2C (by decide) _)).trans (.setReg _ 0x30 (by decide) _)

theorem loaded_chan (e c : Nat) (w : List Nat) (mem : Option Nat) (s : State) :
    (loaded e c w mem s).dmaOf e c = (s.dmaOf e c).with w :=
  (dmaOf_of_dma_eq (t := loaded e c w mem s) (s := s.mapDma e c (fun _ => (s.dmaOf e c).with w)) rfl e c).trans (dmaOf_mapDma _)

theorem loaded_remain (e c : Nat) (w : List Nat) (mem : Option Nat) (s : State) :
    (loaded e c w mem s).reg (dmaRemain e c) = BitVec.ofNat 32 (dCount ((s.dmaOf e c).with w)) := by
  unfold loaded
  rw [reg_setReg_other _ _ _ _ (by simp only [dmaRemain, dmaCurHi]; omega),
    reg_setReg_other _ _ _ _ (by simp only [dmaRemain, dmaCurLo]; omega), reg_setReg_same]

/-- The two words of an address of 40 bits and its marker. -/
theorem address_words {a : Nat} (ha : a < 2 ^ 40) (b : Bool) (lo hi : Word) (h1 : lo = BitVec.ofNat 32 a)
    (h2 : hi = BitVec.ofNat 32 (a / 2 ^ 32 + b2n b * 2 ^ 31)) :
    lo.toNat + 2 ^ 32 * bits hi.toNat 0 8 = a ∧ bits hi.toNat 31 1 = b2n b := by
  subst h1 h2
  rw [BitVec.toNat_ofNat, BitVec.toNat_ofNat]
  unfold bits
  cases b <;> simp only [b2n, Bool.false_eq_true, if_true, if_false] <;> omega

theorem loaded_cur {w : List Nat} {mem : Option Nat} {s : State} (h : mem.getD 0 < 2 ^ 40) :
    curMem (loaded e c w mem s) e c = mem.isSome ∧ curAddr (loaded e c w mem s) e c = mem.getD 0 := by
  have hlo : (loaded e c w mem s).reg (dmaCurLo e c) = BitVec.ofNat 32 (mem.getD 0) := by
    unfold loaded
    rw [reg_setReg_other _ _ _ _ (by simp only [dmaCurLo, dmaCurHi]; omega), reg_setReg_same]
  have hhi : (loaded e c w mem s).reg (dmaCurHi e c) = BitVec.ofNat 32 (mem.getD 0 / 2 ^ 32 + b2n mem.isSome * 2 ^ 31) :=
    reg_setReg_same ..
  obtain ⟨h1, h2⟩ := address_words h mem.isSome _ _ hlo hhi
  refine ⟨?_, h1⟩
  unfold curMem
  rw [flag_eq]
  have h2 : (loaded e c w mem s).fld (dmaCurHi e c) DMA_t_CH_c_CUR_HI_MEM = b2n mem.isSome := h2
  rw [h2]
  cases mem.isSome <;> rfl

/-- The address registers after what keeps them. -/
theorem ChanKeeps.cur {l : List Nat} {fs : List Fld} {s t : State} (h : ChanKeeps e c l fs s t) (h1 : 0x2C ∉ l) (h2 : 0x30 ∉ l) :
    curMem t e c = curMem s e c ∧ curAddr t e c = curAddr s e c := by
  have hlo : t.reg (dmaCurLo e c) = s.reg (dmaCurLo e c) := h.reg 0x2C (by decide) (by decide) h1
  have hhi : t.reg (dmaCurHi e c) = s.reg (dmaCurHi e c) := h.reg 0x30 (by decide) (by decide) h2
  unfold curMem curAddr
  rw [hlo, flag_of_reg_eq hhi, fld_of_reg_eq hhi]
  exact ⟨rfl, rfl⟩

include hc in
theorem enterActive_good (w : List Nat) (mem : Option Nat) {s : State} (h : descBad e ((s.dmaOf e c).with w) = false) :
    Entered e c w mem s (enterActive e c w mem s) := by
  rw [enterActive_eq, h, if_neg (by decide)]
  have hk := setDmaState_keeps hc (if e < 12 && s.flag (dmaCtl e c) DMA_t_CH_c_CTL_TICK then 3 else 2) (loaded e c w mem s)
  have hl := loaded_keeps (e := e) (c := c) w mem s
  refine ⟨(hl.trans hk).mono (by simp) (by decide), ?_, fun hm => ?_, fun hb => absurd (h.symm.trans hb) (by decide), fun _ => ⟨?_, ?_, ?_⟩⟩
  · exact (dmaOf_of_dma_eq (setDmaState_dma ..) e c).trans (loaded_chan ..)
  · obtain ⟨h1, h2⟩ := hk.cur (by decide) (by decide)
    obtain ⟨h3, h4⟩ := loaded_cur (e := e) (c := c) (w := w) (s := s) hm
    exact ⟨h1.trans h3, h2.trans h4⟩
  · exact (setDmaState_mem ..).trans rfl
  · exact (hk.reg 0x28 (by decide) (by decide) (by decide)).trans (loaded_remain ..)
  · rw [dmaState_setDmaState hc (by split <;> decide)]
    have ht : s.flag (dmaCtl e c) DMA_t_CH_c_CTL_TICK = true ↔ s.fld (dmaCtl e c) DMA_t_CH_c_CTL_TICK = 1 := flag_eq_true_iff s _ rfl
    simp only [Bool.and_eq_true, decide_eq_true_eq, ht]

include he hc

theorem enterActive_bad (w : List Nat) (mem : Option Nat) {s : State} (h : descBad e ((s.dmaOf e c).with w) = true) :
    Entered e c w mem s (enterActive e c w mem s) := by
  rw [enterActive_eq, h, if_pos rfl]
  have hf := dmaError_fails he hc (code := 1) (by decide) (loaded e c w mem s)
  have hl := loaded_keeps (e := e) (c := c) w mem s
  refine ⟨(hl.trans hf.keeps).mono (by decide) (by decide), ?_, fun hm => ?_, fun _ => ⟨hf.state, hf.err⟩,
    fun hb => absurd (h.symm.trans hb) (by decide)⟩
  · exact (dmaOf_of_dma_eq hf.dma e c).trans (loaded_chan ..)
  · obtain ⟨h1, h2⟩ := hf.keeps.cur (by decide) (by decide)
    obtain ⟨h3, h4⟩ := loaded_cur (e := e) (c := c) (w := w) (s := s) hm
    exact ⟨h1.trans h3, h2.trans h4⟩

theorem enterActive_entered (w : List Nat) (mem : Option Nat) (s : State) : Entered e c w mem s (enterActive e c w mem s) := by
  cases h : descBad e ((s.dmaOf e c).with w) with
  | false => exact enterActive_good hc w mem h
  | true => exact enterActive_bad he hc w mem h

end Enter

/-! ### Arming, fetches and stops (R272, R273, R275) -/

/-- What ARM makes of a channel that has no descriptor (R272). -/
structure ShadowTaken (e c : Nat) (s t : State) : Prop where
  w : (t.dmaOf e c).w = shadowWords s e c
  moved : (t.dmaOf e c).moved = 0
  mem : curMem t e c = false
  arm : t.fld (dmaCtl e c) DMA_t_CH_c_CTL_ARM = 0
  good : descBad e (t.dmaOf e c) = false → dmaState t e c = if e < 12 ∧ s.fld (dmaCtl e c) DMA_t_CH_c_CTL_TICK = 1 then 3 else 2
  bad : descBad e (t.dmaOf e c) = true → dmaState t e c = 6 ∧ t.fld (dmaStat e c) DMA_t_CH_c_STAT_ERR = 1

section Act
variable {e c : Nat} {s : State} (hc : c < dmaChannels e)

theorem setArm_keeps (e c b : Nat) (s : State) : ChanKeeps e c [0x20] [DMA_t_CH_c_STAT_ARMED] s (setArm e c b s) :=
  (ChanKeeps.setFld s 0x20 (by decide) DMA_t_CH_c_CTL_ARM b).trans (.setStat _ _ (by decide) b)

theorem setArm_ctl (e c b : Nat) (s : State) : (setArm e c b s).reg (dmaCtl e c) = (s.setFld (dmaCtl e c) DMA_t_CH_c_CTL_ARM b).reg (dmaCtl e c) :=
  reg_setFld_other _ _ _ _ _ (by simp only [dmaCtl, dmaStat]; omega)

theorem setArm_arm {b : Nat} (hb : b < 2) (e c : Nat) (s : State) : (setArm e c b s).fld (dmaCtl e c) DMA_t_CH_c_CTL_ARM = b :=
  (fld_of_reg_eq (setArm_ctl ..) _).trans (fld_setFld_of_lt _ _ _ _ (by decide) hb)

theorem setArm_tick (e c b : Nat) (s : State) :
    (setArm e c b s).fld (dmaCtl e c) DMA_t_CH_c_CTL_TICK = s.fld (dmaCtl e c) DMA_t_CH_c_CTL_TICK :=
  (fld_of_reg_eq (setArm_ctl ..) _).trans (fld_setFld_ne _ _ _ _ _ (by decide) (by decide))

include hc in
theorem copyShadow_takes (he : e < 13) (s : State) : ShadowTaken e c s (copyShadow e c s) ∧
    ChanKeeps e c [0x20, 0x28, 0x2C, 0x30] (DMA_t_CH_c_STAT_ARMED :: errorFlds) s (copyShadow e c s) := by
  have ha := setArm_keeps e c 0 s
  have h := enterActive_entered he hc (shadowWords s e c) none (setArm e c 0 s)
  have hd : ((setArm e c 0 s).dmaOf e c).with (shadowWords s e c) = (copyShadow e c s).dmaOf e c := h.chan.symm
  refine ⟨⟨?_, ?_, (h.cur (by decide)).1, ?_, fun hb => ?_, fun hb => ?_⟩, (ha.trans h.keeps).mono (by decide) (by decide)⟩
  · rw [← hd]
    rfl
  · rw [← hd]
    rfl
  · exact (h.keeps.fld 0x20 (by decide) (by decide) (by decide) _).trans (setArm_arm (by decide) ..)
  · rw [← hd] at hb
    obtain ⟨-, -, hs⟩ := h.good hb
    rw [setArm_tick] at hs
    exact hs
  · rw [← hd] at hb
    exact h.bad hb

/-- What the start of a fetch leaves. -/
structure Fetching (e c a : Nat) (reread : Bool) (s t : State) : Prop where
  keeps : ChanKeeps e c [] [DMA_t_CH_c_STAT_STATE] s t
  state : dmaState t e c = 1
  fetch : (t.dmaOf e c).fetch = a
  rereads : (t.dmaOf e c).reread = reread

include hc in
theorem startFetch_fetching (a : Nat) (reread : Bool) (s : State) : Fetching e c a reread s (startFetch e c a reread s) := by
  have hm : ChanKeeps e c [] [] s (s.mapDma e c (fun d => { d with fetch := a, reread := reread })) := mapDma_keeps _
  have hd : (startFetch e c a reread s).dmaOf e c = { s.dmaOf e c with fetch := a, reread := reread } :=
    (dmaOf_of_dma_eq (setDmaState_dma ..) e c).trans (dmaOf_mapDma _)
  exact ⟨hm.trans (setDmaState_keeps hc ..), dmaState_setDmaState hc (by decide) _, by rw [hd], by rw [hd]⟩

/-- NEXT and STAT as a stop leaves them, before the state is set. -/
def stopWords (e c : Nat) (next : Option Nat) (s : State) : State :=
  ((s.setReg (dmaNextLo e c) (BitVec.ofNat 32 (next.getD 0))).setReg (dmaNextHi e c)
    (BitVec.ofNat 32 (next.getD 0 / 2 ^ 32 + b2n next.isSome * 2 ^ 31))).setFld (dmaStat e c) DMA_t_CH_c_STAT_STOPPED 1

theorem stopWords_keeps (e c : Nat) (next : Option Nat) (s : State) :
    ChanKeeps e c [0x34, 0x38] [DMA_t_CH_c_STAT_STOPPED] s (stopWords e c next s) :=
  ((ChanKeeps.setReg s 0x34 (by decide) _).trans (.setReg _ 0x38 (by decide) _)).trans (.setStat _ _ (by decide) 1)

theorem stopWords_lo (e c : Nat) (next : Option Nat) (s : State) :
    (stopWords e c next s).reg (dmaNextLo e c) = BitVec.ofNat 32 (next.getD 0) := by
  unfold stopWords
  rw [reg_setFld_other _ _ _ _ _ (by simp only [dmaNextLo, dmaStat]; omega),
    reg_setReg_other _ _ _ _ (by simp only [dmaNextLo, dmaNextHi]; omega), reg_setReg_same]

theorem stopWords_hi (e c : Nat) (next : Option Nat) (s : State) :
    (stopWords e c next s).reg (dmaNextHi e c) = BitVec.ofNat 32 (next.getD 0 / 2 ^ 32 + b2n next.isSome * 2 ^ 31) := by
  unfold stopWords
  rw [reg_setFld_other _ _ _ _ _ (by simp only [dmaNextHi, dmaStat]; omega), reg_setReg_same]

theorem stopWords_done (e c : Nat) (next : Option Nat) (s : State) : (stopWords e c next s).fld (dmaStat e c) DMA_t_CH_c_STAT_STOPPED = 1 :=
  fld_setFld_of_lt _ _ _ _ (by decide) (by decide)

theorem dmaStopNow_eq (e c : Nat) (next : Option Nat) (s : State) : dmaStopNow e c next s = setDmaState e c 0 ((stopWords e c next s).mapDma e c (fun d => { d with stop := false })) := rfl

/-- What a stop at a descriptor boundary leaves. -/
structure Stopped (e c : Nat) (next : Option Nat) (s t : State) : Prop where
  keeps : ChanKeeps e c [0x34, 0x38] [DMA_t_CH_c_STAT_STOPPED, DMA_t_CH_c_STAT_STATE] s t
  state : dmaState t e c = 0
  done : t.fld (dmaStat e c) DMA_t_CH_c_STAT_STOPPED = 1
  valid : t.fld (dmaNextHi e c) DMA_t_CH_c_NEXT_HI_VALID = b2n next.isSome
  next : nextAddr t e c = next.getD 0

include hc in
theorem dmaStopNow_stopped {next : Option Nat} (hn : next.getD 0 < 2 ^ 40) (s : State) : Stopped e c next s (dmaStopNow e c next s) := by
  have hm : ChanKeeps e c [] [] (stopWords e c next s) ((stopWords e c next s).mapDma e c (fun d => { d with stop := false })) :=
    mapDma_keeps _
  have hk := hm.trans (setDmaState_keeps hc 0 ((stopWords e c next s).mapDma e c (fun d => { d with stop := false })))
  rw [dmaStopNow_eq]
  obtain ⟨hnext, hvalid⟩ := address_words hn next.isSome _ _
    ((hk.reg 0x34 (by decide) (by decide) (by decide)).trans (stopWords_lo e c next s))
    ((hk.reg 0x38 (by decide) (by decide) (by decide)).trans (stopWords_hi e c next s))
  exact ⟨((stopWords_keeps e c next s).trans hk).mono (by simp) (by simp), dmaState_setDmaState hc (by decide) _,
    (hk.stat _ (by decide)).trans (stopWords_done ..), hvalid, hnext⟩

end Act

/-! ### A write of one control bit -/

section Row
variable {e c : Nat} {s : State}

/-- The state in which a command of the control register acts: the stored bits of CTL are written. -/
def ctlStored (e c i : Nat) (s : State) : State :=
  s.setReg (dmaCtl e c) (BitVec.ofNat 32 (dmaCtlStored e (s.reg (dmaCtl e c)).toNat
    (BitVec.ofNat 32 ((s.reg (dmaCtl e c)).toNat / 32 * 32 + 2 ^ i) : Word).toNat))

theorem ctlStored_keeps (e c i : Nat) (s : State) : ChanKeeps e c [0x20] [] s (ctlStored e c i s) := .setReg s 0x20 (by decide) _

/-- Of the written word the command bits are those of one command. -/
theorem ctlBit_bits {i j : Nat} (hi : i < 5) (hj : j < 5) (x : Word) :
    bits (BitVec.ofNat 32 (x.toNat / 32 * 32 + 2 ^ i) : Word).toNat j 1 = b2n (decide (i = j)) := by
  have hx := x.isLt
  rw [BitVec.toNat_ofNat]
  unfold bits
  interval_cases i <;> interval_cases j <;> simp [b2n] <;> omega

theorem ctlBit_tick {i : Nat} (hi : i < 5) (x : Word) :
    bits (BitVec.ofNat 32 (x.toNat / 32 * 32 + 2 ^ i) : Word).toNat 11 1 = bits x.toNat 11 1 := by
  have hx := x.isLt
  have hp : 2 ^ i < 2 ^ 5 := Nat.pow_lt_pow_right (by decide) hi
  revert hp
  generalize 2 ^ i = p
  intro hp
  rw [BitVec.toNat_ofNat]
  unfold bits
  omega

theorem bits_toNat_ofNat (n lo w : Nat) (h : lo + w ≤ 32) : bits (BitVec.ofNat 32 n : Word).toNat lo w = bits n lo w := by
  have := bits_bits n 0 32 lo w h
  rw [BitVec.toNat_ofNat, ← Nat.zero_add lo]
  simpa [bits] using this

/-- A command does not change whether the channel waits for the block tick. -/
theorem ctlStored_tick {i : Nat} (hi : i < 5) (he : e < 12) :
    (ctlStored e c i s).fld (dmaCtl e c) DMA_t_CH_c_CTL_TICK = s.fld (dmaCtl e c) DMA_t_CH_c_CTL_TICK := by
  unfold ctlStored
  rw [fld_setReg_same, bits_toNat_ofNat _ _ _ (by decide)]
  unfold dmaCtlStored
  dsimp only
  rw [if_pos he]
  refine (bits_setBits_above _ _ _ _ _ _ (by decide)).trans ((bits_setBits_same ..).trans ?_)
  rw [ctlBit_tick hi]
  exact Nat.mod_eq_of_lt (fld_lt s (dmaCtl e c) DMA_t_CH_c_CTL_TICK)

theorem ctlBit_eq {i : Nat} (hi : i < 5) : ctlBit e c i s =
    if i = 3 then doDmaReset e c (ctlStored e c i s)
    else
      let s2 := if i = 2 then doDmaStop e c (ctlStored e c i s) else ctlStored e c i s
      let s3 := if i = 0 then doArm e c s2 else if i = 1 then doGo e c s2 else s2
      if i = 4 then doAppend e c s3 else s3 := by
  have hb (j : Nat) (hj : j < 5) : bits (BitVec.ofNat 32 ((s.reg (dmaCtl e c)).toNat / 32 * 32 + 2 ^ i) : Word).toNat j 1 = 1 ↔ i = j := by
    rw [ctlBit_bits hi hj]
    by_cases h : i = j <;> simp [h, b2n]
  unfold ctlBit writeDmaCtl
  dsimp only
  simp only [decide_eq_true_eq, hb 3 (by decide), hb 2 (by decide), hb 0 (by decide), hb 1 (by decide), hb 4 (by decide)]
  rfl

theorem armRow_eq : doArmRow e c s = doArm e c (ctlStored e c 0 s) := ctlBit_eq (by decide)
theorem goRow_eq : doGoRow e c s = doGo e c (ctlStored e c 1 s) := ctlBit_eq (by decide)
theorem stopRow_eq : doStopRow e c s = doDmaStop e c (ctlStored e c 2 s) := ctlBit_eq (by decide)
theorem resetRow_eq : doResetRow e c s = doDmaReset e c (ctlStored e c 3 s) := ctlBit_eq (by decide)
theorem appendRow_eq : doAppendRow e c s = doAppend e c (ctlStored e c 4 s) := ctlBit_eq (by decide)

theorem ctlStored_state (i : Nat) : dmaState (ctlStored e c i s) e c = dmaState s e c := (ctlStored_keeps e c i s).state (by simp)

theorem ShadowTaken.of_keeps {l : List Nat} {fs : List Fld} {u t : State} (h : ShadowTaken e c u t) (k : ChanKeeps e c l fs s u)
    (hl : ∀ x ∈ l, 0x20 ≤ x) (ht : e < 12 → u.fld (dmaCtl e c) DMA_t_CH_c_CTL_TICK = s.fld (dmaCtl e c) DMA_t_CH_c_CTL_TICK) :
    ShadowTaken e c s t := by
  refine ⟨h.w.trans (k.shadowWords hl), h.moved, h.mem, h.arm, fun hb => (h.good hb).trans ?_, h.bad⟩
  by_cases he : e < 12
  · rw [ht he]
  · rw [if_neg fun x => he x.1, if_neg fun x => he x.1]

/-! ### The commands (R272 to R276) -/

variable (he : e < 13) (hc : c < dmaChannels e)

theorem armRow_busy (h0 : dmaState s e c ≠ 0) (h4 : dmaState s e c ≠ 4) : dmaState (doArmRow e c s) e c = dmaState s e c ∧
    (doArmRow e c s).fld (dmaCtl e c) DMA_t_CH_c_CTL_ARM = 1 ∧ (doArmRow e c s).dma = s.dma := by
  have hs : dmaState (ctlStored e c 0 s) e c = dmaState s e c := ctlStored_state 0
  have hrow : doArmRow e c s = setArm e c 1 (ctlStored e c 0 s) := by
    rw [armRow_eq]
    unfold doArm
    rw [hs, if_neg (not_or.2 ⟨h0, h4⟩)]
  rw [hrow]
  exact ⟨((setArm_keeps e c 1 _).state (by decide)).trans hs, setArm_arm (by decide) .., rfl⟩

include hc in
theorem armRow_takes (he : e < 13) (h : dmaState s e c = 0 ∨ dmaState s e c = 4) : ShadowTaken e c s (doArmRow e c s) := by
  have hs : dmaState (ctlStored e c 0 s) e c = dmaState s e c := ctlStored_state 0
  have hrow : doArmRow e c s = copyShadow e c (setArm e c 1 (ctlStored e c 0 s)) := by
    rw [armRow_eq]
    unfold doArm
    rw [hs, if_pos h]
  rw [hrow]
  refine (copyShadow_takes hc he _).1.of_keeps ((ctlStored_keeps e c 0 s).trans (setArm_keeps e c 1 _)) (by decide) fun h12 => ?_
  rw [setArm_tick, ctlStored_tick (by decide) h12]

theorem ctlStored_next (i : Nat) : nextAddr (ctlStored e c i s) e c = nextAddr s e c ∧
    (ctlStored e c i s).flag (dmaNextHi e c) DMA_t_CH_c_NEXT_HI_VALID = s.flag (dmaNextHi e c) DMA_t_CH_c_NEXT_HI_VALID := by
  have k := ctlStored_keeps e c i s
  have h1 : (ctlStored e c i s).reg (dmaNextLo e c) = s.reg (dmaNextLo e c) := k.reg 0x34 (by decide) (by decide) (by decide)
  have h2 : (ctlStored e c i s).reg (dmaNextHi e c) = s.reg (dmaNextHi e c) := k.reg 0x38 (by decide) (by decide) (by decide)
  unfold nextAddr
  rw [h1, fld_of_reg_eq h2, flag_of_reg_eq h2]
  exact ⟨rfl, rfl⟩

include hc in
theorem goRow_fetches (h : dmaState s e c = 0 ∨ dmaState s e c = 4) (hv : s.fld (dmaNextHi e c) DMA_t_CH_c_NEXT_HI_VALID = 1) :
    Fetching e c (nextAddr s e c) false (ctlStored e c 1 s) (doGoRow e c s) := by
  obtain ⟨hn, hvalid⟩ := ctlStored_next (e := e) (c := c) (s := s) 1
  have hrow : doGoRow e c s = startFetch e c (nextAddr s e c) false (ctlStored e c 1 s) := by
    rw [goRow_eq]
    unfold doGo
    rw [ctlStored_state, hvalid, flag_eq_true_of_fld_eq_one _ _ _ hv, hn]
    exact if_pos (by simpa using h)
  rw [hrow]
  exact startFetch_fetching hc ..

theorem goRow_ignored (h : (dmaState s e c ≠ 0 ∧ dmaState s e c ≠ 4) ∨ s.fld (dmaNextHi e c) DMA_t_CH_c_NEXT_HI_VALID = 0) :
    doGoRow e c s = ctlStored e c 1 s := by
  obtain ⟨-, hvalid⟩ := ctlStored_next (e := e) (c := c) (s := s) 1
  rw [goRow_eq]
  unfold doGo
  rw [ctlStored_state, hvalid]
  refine if_neg ?_
  rcases h with h | h
  · simp [h.1, h.2]
  · simp [(flag_eq_false_iff ..).2 h]

theorem stopRow_waits (h : dmaState s e c = 2 ∨ dmaState s e c = 3 ∨ dmaState s e c = 5) :
    doStopRow e c s = (ctlStored e c 2 s).mapDma e c (fun d => { d with stop := true }) := by
  rw [stopRow_eq]
  unfold doDmaStop
  rw [ctlStored_state]
  rcases h with h | h | h <;> rw [h] <;> rfl

theorem stopRow_parked (h : dmaState s e c = 4) : doStopRow e c s = dmaStopNow e c none (ctlStored e c 2 s) := by
  rw [stopRow_eq]
  unfold doDmaStop
  rw [ctlStored_state, h]
  rfl

theorem stopRow_idle (h : dmaState s e c = 0) : doStopRow e c s = ctlStored e c 2 s := by
  rw [stopRow_eq]
  unfold doDmaStop
  rw [ctlStored_state, h]
  rfl

include he hc

/-- What RESET leaves (R276). -/
theorem resetRow_leaves : let t := doResetRow e c s
    dmaState t e c = 0 ∧ t.fld (dmaStat e c) DMA_t_CH_c_STAT_ERR = 0 ∧ t.fld (dmaStat e c) DMA_t_CH_c_STAT_APP_PEND = 0 ∧
      t.fld (dmaCtl e c) DMA_t_CH_c_CTL_ARM = 0 ∧
      (dmaState s e c = 2 ∨ dmaState s e c = 3 ∨ dmaState s e c = 5 → t.fld (dmaStat e c) DMA_t_CH_c_STAT_INCOMPLETE = 1 ∧
        t.reg (dmaRemain e c) = BitVec.ofNat 32 (dCount (s.dmaOf e c) - (s.dmaOf e c).moved)) ∧
      shadowWords t e c = shadowWords s e c := by
  intro t
  let s1 := ctlStored e c 3 s
  let s2 := if dmaState s1 e c = 2 ∨ dmaState s1 e c = 3 ∨ dmaState s1 e c = 5 then dmaIncomplete e c 0 s1 else s1
  let s3 := (setArm e c 0 s2).setFlds (dmaStat e c) [(DMA_t_CH_c_STAT_APP_PEND, 0), (DMA_t_CH_c_STAT_ERR, 0)]
  let s4 := s3.mapDma e c (fun d => { d with stop := false, loss := 0 })
  have ht : t = setDmaState e c 0 s4 := resetRow_eq
  obtain ⟨ki, -, hinc, hrem⟩ := dmaIncomplete_leaves he hc 0 s1
  have k1 : ChanKeeps e c [0x20] [] s s1 := ctlStored_keeps e c 3 s
  have k2 : ChanKeeps e c [0x28] [DMA_t_CH_c_STAT_INCOMPLETE] s1 s2 := by
    unfold s2
    split
    · exact ki
    · exact (ChanKeeps.refl s1).mono (by simp) (by simp)
  have k3 : ChanKeeps e c [0x20] [DMA_t_CH_c_STAT_ARMED] s2 (setArm e c 0 s2) := setArm_keeps e c 0 s2
  have k4 : ChanKeeps e c [] [DMA_t_CH_c_STAT_APP_PEND, DMA_t_CH_c_STAT_ERR] (setArm e c 0 s2) s3 :=
    (ChanKeeps.setStat _ DMA_t_CH_c_STAT_APP_PEND (by decide) 0).trans (.setStat _ DMA_t_CH_c_STAT_ERR (by decide) 0)
  have k5 : ChanKeeps e c [] [] s3 s4 := mapDma_keeps _
  have k6 : ChanKeeps e c [] [DMA_t_CH_c_STAT_STATE] s4 t := by
    rw [ht]
    exact setDmaState_keeps hc 0 s4
  have k56 := k5.trans k6
  refine ⟨?_, ?_, ?_, ?_, fun h => ⟨?_, ?_⟩, ((((k1.trans k2).trans k3).trans k4).trans k56).shadowWords (by decide)⟩
  · rw [ht]
    exact dmaState_setDmaState hc (by decide) s4
  · exact (k56.stat _ (by decide)).trans (fld_setFld_of_lt _ _ _ _ (by decide) (by decide))
  · refine (k56.stat _ (by decide)).trans ((fld_setFld_ne _ _ _ _ _ (by decide) (by decide)).trans ?_)
    exact fld_setFld_of_lt _ _ _ _ (by decide) (by decide)
  · exact ((k4.trans k56).fld 0x20 (by decide) (by decide) (by decide) _).trans (setArm_arm (by decide) e c s2)
  · have e2 : s2 = dmaIncomplete e c 0 s1 := if_pos (by rw [ctlStored_state]; exact h)
    refine (((k3.trans k4).trans k56).stat _ (by decide)).trans ?_
    rw [e2]
    exact hinc
  · have e2 : s2 = dmaIncomplete e c 0 s1 := if_pos (by rw [ctlStored_state]; exact h)
    refine (((k3.trans k4).trans k56).reg 0x28 (by decide) (by decide) (by decide)).trans ?_
    rw [e2]
    exact hrem

end Row

end Sys2Proof.Machine
end

section

/-! SUPPORT. Appending, time-outs and completion of a DMA channel's descriptor: O48. -/

namespace Sys2Proof.Machine
open R

section Commands
variable {e c : Nat} {s : State}

/-! ### APPEND and the time-out (R274, R277) -/

theorem appendRow_rereads (hc : c < dmaChannels e) (h : dmaState s e c = 4) (hm : curMem s e c = true) :
    Fetching e c (curAddr s e c) true (ctlStored e c 4 s) (doAppendRow e c s) := by
  obtain ⟨h1, h2⟩ := (ctlStored_keeps e c 4 s).cur (by decide) (by decide)
  have hrow : doAppendRow e c s = startFetch e c (curAddr s e c) true (ctlStored e c 4 s) := by
    rw [appendRow_eq]
    unfold doAppend
    rw [ctlStored_state, h1, h2]
    exact if_pos ⟨h, hm⟩
  rw [hrow]
  exact startFetch_fetching hc ..

theorem appendRow_remembers (h : dmaState s e c ≠ 4 ∨ curMem s e c = false) : dmaState (doAppendRow e c s) e c = dmaState s e c ∧
    (doAppendRow e c s).fld (dmaStat e c) DMA_t_CH_c_STAT_APP_PEND = 1 := by
  obtain ⟨h1, -⟩ := (ctlStored_keeps e c 4 s).cur (by decide) (by decide)
  have hrow : doAppendRow e c s = (ctlStored e c 4 s).setFld (dmaStat e c) DMA_t_CH_c_STAT_APP_PEND 1 := by
    rw [appendRow_eq]
    unfold doAppend
    rw [ctlStored_state, h1]
    refine if_neg ?_
    rcases h with h | h <;> simp [h]
  rw [hrow]
  refine ⟨?_, fld_setFld_of_lt _ _ _ _ (by decide) (by decide)⟩
  exact ((ChanKeeps.setStat _ DMA_t_CH_c_STAT_APP_PEND (by decide) 1).state (by decide)).trans (ctlStored_state 4)

theorem timeout_fails (he : e < 13) (hc : c < dmaChannels e) (h : dmaState s e c = 1 ∨ dmaState s e c = 2 ∨ dmaState s e c = 5) :
    ∃ l, DmaFailed e c 4 l s (doDmaTimeout e c s) := by
  unfold doDmaTimeout
  rcases h with h | h | h <;> rw [h]
  · exact ⟨_, dmaFetchError_fails hc (by decide) s⟩
  · exact ⟨_, dmaError_fails he hc (by decide) s⟩
  · exact ⟨_, dmaError_fails he hc (by decide) s⟩

/-! ### The end of a descriptor (R271, R273, R275) -/

/-- The channel with its descriptor counted as done and its STATUS written back. -/
def countedDone (e c : Nat) (s : State) : State :=
  let d := s.dmaOf e c
  let s1 := s.setFld (dmaStat e c) DMA_t_CH_c_STAT_DONE_CNT (s.fld (dmaStat e c) DMA_t_CH_c_STAT_DONE_CNT + 1)
  let s2 := if dInt d then s1.setFld (dmaStat e c) DMA_t_CH_c_STAT_DONE 1 else s1
  dmaWriteBack e c (1 + 4 * b2n d.refused) s2

theorem descriptorComplete_eq (h : dmaState s e c = 5) : doDescriptorComplete e c s =
    if (s.dmaOf e c).stop then
      dmaStopNow e c (if dEoc (s.dmaOf e c) then none else some (dLink (s.dmaOf e c))) (countedDone e c s)
    else if !dEoc (s.dmaOf e c) then startFetch e c (dLink (s.dmaOf e c)) false (countedDone e c s)
    else dmaAtEoc e c (countedDone e c s) := by
  unfold doDescriptorComplete
  exact if_neg (not_not.2 h)

/-- STAT fields that what follows a completion can change. -/
def afterFlds : List Fld := [DMA_t_CH_c_STAT_STOPPED, DMA_t_CH_c_STAT_APP_PEND, DMA_t_CH_c_STAT_ARMED] ++ errorFlds

theorem countedDone_leaves (he : e < 13) (hc : c < dmaChannels e) (s : State) : let t := countedDone e c s
    ChanKeeps e c [] [DMA_t_CH_c_STAT_DONE_CNT, DMA_t_CH_c_STAT_DONE] s t ∧
      t.fld (dmaStat e c) DMA_t_CH_c_STAT_DONE_CNT = (s.fld (dmaStat e c) DMA_t_CH_c_STAT_DONE_CNT + 1) % 256 ∧
      t.fld (dmaStat e c) DMA_t_CH_c_STAT_DONE = if dInt (s.dmaOf e c) then 1 else s.fld (dmaStat e c) DMA_t_CH_c_STAT_DONE := by
  intro t
  let s1 := s.setFld (dmaStat e c) DMA_t_CH_c_STAT_DONE_CNT (s.fld (dmaStat e c) DMA_t_CH_c_STAT_DONE_CNT + 1)
  let s2 := if dInt (s.dmaOf e c) then s1.setFld (dmaStat e c) DMA_t_CH_c_STAT_DONE 1 else s1
  have k1 : ChanKeeps e c [] [DMA_t_CH_c_STAT_DONE_CNT] s s1 := .setStat s _ (by decide) _
  have k2 : ChanKeeps e c [] [DMA_t_CH_c_STAT_DONE] s1 s2 := by
    unfold s2
    split
    · exact .setStat s1 _ (by decide) 1
    · exact (ChanKeeps.refl s1).mono (by simp) (by simp)
  have k3 : ChanKeeps e c [] [] s2 t := (dmaWriteBack_leaves he hc _ s2).1
  refine ⟨(k1.trans k2).trans k3, ?_, (k3.stat _ (by decide)).trans ?_⟩
  · exact (k3.stat _ (by decide)).trans ((k2.stat _ (by decide)).trans (fld_setFld_same _ _ _ _ (by decide)))
  · unfold s2
    cases dInt (s.dmaOf e c) with
    | true => exact fld_setFld_of_lt _ _ _ _ (by decide) (by decide)
    | false => exact k1.stat _ (by decide)

section AtEoc
variable {u : State} (hc : c < dmaChannels e)
include hc

/-- At the end of a chain with an APPEND remembered, the completed descriptor is read again. -/
theorem atEoc_rereads (hm : curMem u e c = true) (ha : u.fld (dmaStat e c) DMA_t_CH_c_STAT_APP_PEND = 1) :
    ChanKeeps e c [] afterFlds u (dmaAtEoc e c u) ∧ dmaState (dmaAtEoc e c u) e c = 1 ∧ ((dmaAtEoc e c u).dmaOf e c).reread = true ∧
      (dmaAtEoc e c u).fld (dmaStat e c) DMA_t_CH_c_STAT_APP_PEND = 0 := by
  have heq : dmaAtEoc e c u = startFetch e c (curAddr u e c) true (u.setFld (dmaStat e c) DMA_t_CH_c_STAT_APP_PEND 0) := by
    unfold dmaAtEoc
    rw [hm, flag_eq_true_of_fld_eq_one _ _ _ ha]
    rfl
  have hf := startFetch_fetching hc (curAddr u e c) true (u.setFld (dmaStat e c) DMA_t_CH_c_STAT_APP_PEND 0)
  rw [heq]
  exact ⟨((ChanKeeps.setStat u _ (by decide) 0).trans hf.keeps).mono (by simp) (by decide), hf.state, hf.rereads,
    (hf.keeps.stat _ (by decide)).trans (fld_setFld_of_lt _ _ _ _ (by decide) (by decide))⟩

omit hc in
theorem atEoc_noLink (h : u.fld (dmaStat e c) DMA_t_CH_c_STAT_APP_PEND = 0 ∨ curMem u e c = false) : dmaAtEoc e c u =
    if u.fld (dmaCtl e c) DMA_t_CH_c_CTL_ARM = 1 then copyShadow e c u else setDmaState e c 4 u := by
  have hif : dmaAtEoc e c u = dmaNoLink e c u := by
    unfold dmaAtEoc
    refine if_neg ?_
    rcases h with h | h
    · simp [(flag_eq_false_iff u (dmaStat e c) DMA_t_CH_c_STAT_APP_PEND).2 h]
    · simp [h]
  rw [hif]
  unfold dmaNoLink
  have harm : u.flag (dmaCtl e c) DMA_t_CH_c_CTL_ARM = true ↔ u.fld (dmaCtl e c) DMA_t_CH_c_CTL_ARM = 1 := flag_eq_true_iff u _ rfl
  simp only [harm]

theorem atEoc_keeps (he : e < 13) (u : State) : ∃ l, ChanKeeps e c l afterFlds u (dmaAtEoc e c u) := by
  by_cases h : curMem u e c = true ∧ u.fld (dmaStat e c) DMA_t_CH_c_STAT_APP_PEND = 1
  · exact ⟨_, (atEoc_rereads hc h.1 h.2).1⟩
  · have h0 : u.fld (dmaStat e c) DMA_t_CH_c_STAT_APP_PEND = 0 ∨ curMem u e c = false := by
      have := fld_lt u (dmaStat e c) DMA_t_CH_c_STAT_APP_PEND
      have hw : DMA_t_CH_c_STAT_APP_PEND.w = 1 := rfl
      rw [hw] at this
      by_cases hm : curMem u e c = true
      · have hne : u.fld (dmaStat e c) DMA_t_CH_c_STAT_APP_PEND ≠ 1 := fun x => h ⟨hm, x⟩
        exact .inl (by omega)
      · exact .inr (by simpa using hm)
    rw [atEoc_noLink h0]
    split
    · exact ⟨_, (copyShadow_takes hc he u).2.mono (fun _ h => h) (by decide)⟩
    · exact ⟨_, (setDmaState_keeps hc 4 u).mono (fun _ h => h) (by decide)⟩

end AtEoc

theorem dLink_lt (d : DmaCh) : dLink d < 2 ^ 40 := by
  have h1 : dWord d 6 < 2 ^ 32 := Nat.mod_lt _ (by decide)
  have h2 := bits_lt (dWord d 7) 0 8
  unfold dLink
  omega

/-- The address that a stopped channel keeps. -/
theorem stopLink_lt (d : DmaCh) : (if dEoc d then none else some (dLink d)).getD 0 < 2 ^ 40 := by
  by_cases h : dEoc d = true
  · rw [if_pos h, Option.getD_none]
    decide
  · rw [if_neg h, Option.getD_some]
    exact dLink_lt d

theorem stopLink_isSome (d : DmaCh) : (if dEoc d then none else some (dLink d)).isSome = !dEoc d := by
  cases dEoc d <;> rfl

theorem stopLink_address {d : DmaCh} (h : dEoc d = false) : (if dEoc d then none else some (dLink d)).getD 0 = dLink d := by
  rw [h, if_neg (by decide), Option.getD_some]

/-- What follows a completed descriptor leaves of STAT. -/
theorem descriptorComplete_keeps (he : e < 13) (hc : c < dmaChannels e) (h : dmaState s e c = 5) :
    ∃ l, ChanKeeps e c l afterFlds (countedDone e c s) (doDescriptorComplete e c s) := by
  rw [descriptorComplete_eq h]
  split
  · exact ⟨_, (dmaStopNow_stopped hc (stopLink_lt _) _).keeps.mono (fun _ h => h) (by decide)⟩
  · split
    · exact ⟨_, (startFetch_fetching hc ..).keeps.mono (fun _ h => h) (by decide)⟩
    · exact atEoc_keeps hc he _

section Completed
variable (he : e < 13) (hc : c < dmaChannels e) (h : dmaState s e c = 5)
include h

theorem completed_stops (hst : (s.dmaOf e c).stop = true) : doDescriptorComplete e c s =
    dmaStopNow e c (if dEoc (s.dmaOf e c) then none else some (dLink (s.dmaOf e c))) (countedDone e c s) :=
  (descriptorComplete_eq h).trans (if_pos hst)

theorem completed_links (hst : (s.dmaOf e c).stop = false) (hl : dEoc (s.dmaOf e c) = false) :
    doDescriptorComplete e c s = startFetch e c (dLink (s.dmaOf e c)) false (countedDone e c s) :=
  (descriptorComplete_eq h).trans ((if_neg (by rw [hst]; decide)).trans (if_pos (by rw [hl]; decide)))

theorem completed_atEoc (hst : (s.dmaOf e c).stop = false) (hl : dEoc (s.dmaOf e c) = true) :
    doDescriptorComplete e c s = dmaAtEoc e c (countedDone e c s) :=
  (descriptorComplete_eq h).trans ((if_neg (by rw [hst]; decide)).trans (if_neg (by rw [hl]; decide)))

include he hc

theorem completed_counts :
    (doDescriptorComplete e c s).fld (dmaStat e c) DMA_t_CH_c_STAT_DONE_CNT = (s.fld (dmaStat e c) DMA_t_CH_c_STAT_DONE_CNT + 1) % 256 ∧
    (doDescriptorComplete e c s).fld (dmaStat e c) DMA_t_CH_c_STAT_DONE =
      if dInt (s.dmaOf e c) then 1 else s.fld (dmaStat e c) DMA_t_CH_c_STAT_DONE := by
  obtain ⟨-, hcnt, hdone⟩ := countedDone_leaves he hc s
  obtain ⟨l, ka⟩ := descriptorComplete_keeps he hc h
  exact ⟨(ka.stat _ (by decide)).trans hcnt, (ka.stat _ (by decide)).trans hdone⟩

/-- At the end of a chain with an APPEND remembered, the completed descriptor is read again. -/
theorem completed_rereads (hst : (s.dmaOf e c).stop = false) (hl : dEoc (s.dmaOf e c) = true)
    (ha : s.fld (dmaStat e c) DMA_t_CH_c_STAT_APP_PEND = 1) (hm : curMem s e c = true) :
    dmaState (doDescriptorComplete e c s) e c = 1 ∧ ((doDescriptorComplete e c s).dmaOf e c).reread = true ∧
      (doDescriptorComplete e c s).fld (dmaStat e c) DMA_t_CH_c_STAT_APP_PEND = 0 := by
  obtain ⟨k, -, -⟩ := countedDone_leaves he hc s
  obtain ⟨hcm, -⟩ := k.cur (by decide) (by decide)
  rw [completed_atEoc h hst hl]
  exact (atEoc_rereads hc (hcm.trans hm) ((k.stat _ (by decide)).trans ha)).2

/-- Without a link and without an APPEND to act on, an armed channel takes the shadow set and any other parks. -/
theorem completed_noLink (hst : (s.dmaOf e c).stop = false) (hl : dEoc (s.dmaOf e c) = true)
    (hno : s.fld (dmaStat e c) DMA_t_CH_c_STAT_APP_PEND = 0 ∨ curMem s e c = false) :
    (s.fld (dmaCtl e c) DMA_t_CH_c_CTL_ARM = 1 → ShadowTaken e c s (doDescriptorComplete e c s)) ∧
    (s.fld (dmaCtl e c) DMA_t_CH_c_CTL_ARM ≠ 1 → dmaState (doDescriptorComplete e c s) e c = 4) := by
  obtain ⟨k, -, -⟩ := countedDone_leaves he hc s
  obtain ⟨hcm, -⟩ := k.cur (by decide) (by decide)
  have happ := k.stat DMA_t_CH_c_STAT_APP_PEND (by decide)
  have harm : (countedDone e c s).fld (dmaCtl e c) DMA_t_CH_c_CTL_ARM = s.fld (dmaCtl e c) DMA_t_CH_c_CTL_ARM :=
    k.fld 0x20 (by decide) (by decide) (by decide) _
  rw [← happ, ← hcm] at hno
  have hrest := (completed_atEoc h hst hl).trans (atEoc_noLink hno)
  rw [harm] at hrest
  refine ⟨fun h1 => ?_, fun h1 => ?_⟩
  · rw [if_pos h1] at hrest
    rw [hrest]
    exact (copyShadow_takes hc he _).1.of_keeps k (by simp) fun _ => k.fld 0x20 (by decide) (by decide) (by decide) _
  · rw [if_neg h1] at hrest
    rw [hrest]
    exact dmaState_setDmaState hc (by decide) _

end Completed

end Commands

theorem onChannel_of_lt {e c : Nat} (h : c < dmaChannels e) (f : Nat → Nat → State → State) (s : State) : onChannel e c f s = f e c s :=
  if_pos h

/-- Settles O48, by what each control bit, the time-out and the completion leave of the channel. -/
theorem dmaControlCommandsComplete : Obligations.DmaControlCommandsComplete := by
  unfold Obligations.DmaControlCommandsComplete
  intro e c s hc st d run taken
  have he := e.isLt
  have htaken {t : State} (h : ShadowTaken e c s t) : taken t := ⟨h.w, h.moved, h.mem, h.arm, h.good, h.bad⟩
  have hreg (i : Nat) : (ctlStored e c i s).dma = s.dma := rfl
  refine ⟨fun h => ?_, fun h0 h4 => ?_, fun h hv => ?_, fun h => ?_, fun h => ?_, fun h => ?_, fun h => ?_, ?_, fun h hm => ?_, fun h => ?_,
    fun h => ?_, fun h => ?_⟩
  · exact ⟨_, .of_eq rfl (onChannel_of_lt hc doArmRow s), htaken (armRow_takes hc he h)⟩
  · exact ⟨_, .of_eq rfl (onChannel_of_lt hc doArmRow s), armRow_busy h0 h4⟩
  · have hf := goRow_fetches hc h hv
    exact ⟨_, .of_eq rfl (onChannel_of_lt hc doGoRow s), hf.state, hf.fetch, hf.rereads⟩
  · exact ⟨_, .of_eq rfl ((onChannel_of_lt hc doGoRow s).trans (goRow_ignored h)), ctlStored_state 1, hreg 1⟩
  · refine ⟨_, .of_eq rfl ((onChannel_of_lt hc doStopRow s).trans (stopRow_waits h)), ctlStored_state 2, ?_⟩
    rw [dmaOf_mapDma]
  · have hs := dmaStopNow_stopped hc (next := none) (by decide) (ctlStored e c 2 s)
    exact ⟨_, .of_eq rfl ((onChannel_of_lt hc doStopRow s).trans (stopRow_parked h)), hs.state, hs.done, hs.valid⟩
  · exact ⟨_, .of_eq rfl ((onChannel_of_lt hc doStopRow s).trans (stopRow_idle h)), (onlyRegs_refl _ s).setReg (by simp) _⟩
  · exact ⟨_, .of_eq rfl (onChannel_of_lt hc doResetRow s), resetRow_leaves he hc⟩
  · have hf := appendRow_rereads hc h hm
    exact ⟨_, .of_eq rfl (onChannel_of_lt hc doAppendRow s), hf.state, hf.rereads, hf.fetch⟩
  · exact ⟨_, .of_eq rfl (onChannel_of_lt hc doAppendRow s), appendRow_remembers h⟩
  · obtain ⟨l, hf⟩ := timeout_fails he hc h
    exact ⟨_, .of_eq rfl (onChannel_of_lt hc doDmaTimeout s), hf.state, hf.err, hf.incomplete⟩
  · obtain ⟨hcnt, hdone⟩ := completed_counts he hc h
    refine ⟨_, .of_eq rfl (onChannel_of_lt hc doDescriptorComplete s), hcnt, hdone,
      fun hst => ?_, fun hst hl => ?_, fun hst hl ha hm => completed_rereads he hc h hst hl ha hm, fun hst hl hno => ?_⟩
    · have hs := dmaStopNow_stopped hc (stopLink_lt d) (countedDone e c s)
      rw [completed_stops h hst]
      exact ⟨hs.state, hs.done, hs.valid.trans (congrArg b2n (stopLink_isSome d)), fun hl => hs.next.trans (stopLink_address hl)⟩
    · have hf := startFetch_fetching hc (dLink d) false (countedDone e c s)
      rw [completed_links h hst hl]
      exact ⟨hf.state, hf.fetch⟩
    · obtain ⟨htake, hpark⟩ := completed_noLink he hc h hst hl hno
      by_cases h1 : s.fld (dmaCtl e c) DMA_t_CH_c_CTL_ARM = 1
      · rw [if_pos h1]
        exact htaken (htake h1)
      · rw [if_neg h1]
        exact hpark h1

end Sys2Proof.Machine
end

section

/-! SUPPORT. DDR5 accesses of an engine, its fetches and its burst slots: O49. -/

namespace Sys2Proof.Machine
open R

/-! ### Little-endian bytes -/

theorem leBytes_leNat (l : List Byte) : leBytes l.length (leNat l) = l := by
  induction l with
  | nil => rfl
  | cons b l ih =>
    have hb := b.isLt
    have h1 : BitVec.ofNat 8 (b.toNat + 256 * leNat l) = b := BitVec.eq_of_toNat_eq (by rw [BitVec.toNat_ofNat]; omega)
    have h2 : (b.toNat + 256 * leNat l) / 256 = leNat l := by omega
    rw [List.length_cons, leNat, leBytes, h1, h2, ih]

/-- Bytes cut into numbers and put together again. -/
theorem flatMap_leBytes_chunks (w : Nat) {n : Nat} {l : List Byte} (h : l.length = n * w) :
    (chunks w n l).flatMap (leBytes w) = l := by
  induction n generalizing l with
  | zero =>
    rw [Nat.zero_mul, List.length_eq_zero_iff] at h
    rw [h]
    rfl
  | succ n ih =>
    rw [Nat.succ_mul] at h
    have htake : (l.take w).length = w := by rw [List.length_take]; omega
    have hfirst : leBytes w (leNat (l.take w)) = l.take w := by
      have := leBytes_leNat (l.take w)
      rwa [htake] at this
    rw [chunks, List.flatMap_cons, hfirst, ih (by rw [List.length_drop]; omega), List.take_append_drop]

theorem chunks_length (w n : Nat) (l : List Byte) : (chunks w n l).length = n := by
  induction n generalizing l with
  | zero => rfl
  | succ n ih => rw [chunks, List.length_cons, ih]

/-! ### Good DDR5 (R431, R432) -/

section Ddr
variable {s : State} {a n : Nat} (h : GoodDdr s a n)
include h

theorem GoodDdr.not_gone (x : Nat) : ddrGone s x = false := by
  obtain ⟨-, -, -, h0, h1, -⟩ := h
  have hlost : chLost s (ddrHome s x) = false := by
    have hhome : ddrHome s x = 0 ∨ ddrHome s x = 1 := by
      unfold ddrHome
      split
      · split <;> simp
      · omega
    rcases hhome with e | e <;> rw [e] <;> assumption
  unfold ddrGone
  rw [hlost, Bool.false_and]

theorem GoodDdr.not_fails {w : Nat} (hw : w ∈ wordsOf a n) : ddrFails s w = false := by
  have hgone := h.not_gone w
  obtain ⟨-, -, -, h0, h1, hmark⟩ := h
  have hlost : chLost s (ddrHome s w) = false := by
    have hhome : ddrHome s w = 0 ∨ ddrHome s w = 1 := by
      unfold ddrHome
      split
      · split <;> simp
      · omega
    rcases hhome with e | e <;> rw [e] <;> assumption
  unfold ddrFails
  rw [hlost, Bool.false_and, Bool.or_false, decide_eq_false (hmark w hw)]

theorem GoodDdr.counts_nothing : s.each (wordsOf a n) ddrCount = s :=
  each_induction (P := fun u => u = s) rfl fun u w hw hu => by
    subst hu
    unfold ddrCount
    rw [h.not_fails hw]
    rfl

theorem GoodDdr.reads_byte (x : Nat) (l : List Byte) : ddrByte (l, s) x = (l ++ [s.byte x], s) := by
  unfold ddrByte
  dsimp only
  rw [h.not_gone x]
  rfl

/-- A read of good DDR5 gives its bytes and changes nothing. -/
theorem GoodDdr.ddrRead : ddrRead s a n = { data := s.bytes a n, err := false, ecc := false, s := s } := by
  have hfold (m b : Nat) (l : List Byte) : ((List.range m).map (b + ·)).foldl ddrByte (l, s) = (l ++ s.bytes b m, s) := by
    induction m generalizing b l with
    | zero => rw [State.bytes, List.append_nil]; rfl
    | succ m ih =>
      rw [List.range_succ_eq_map, List.map_cons, List.foldl_cons, List.map_map]
      have hshift : (b + ·) ∘ Nat.succ = ((b + 1) + ·) := funext fun i => by simp only [Function.comp_apply]; omega
      rw [hshift, Nat.add_zero, h.reads_byte, ih, List.append_assoc]
      rfl
  have hbad : (wordsOf a n).any (fun w => ddrGone s w || (ddrFails s w && !ddrMirror s)) = false := by
    rw [List.any_eq_false]
    intro w hw
    rw [h.not_gone w, h.not_fails hw]
    simp
  unfold Machine.ddrRead
  rw [h.counts_nothing, hfold, hbad, List.nil_append]

theorem GoodDdr.busRead (ag : Agent) : busRead ag false s a n = { data := s.bytes a n, err := false, ecc := false, s := s } := by
  have hraw : busReadRaw ag s a n = { data := s.bytes a n, err := false, ecc := false, s := s } := by
    unfold busReadRaw
    rw [if_pos h.1, if_pos ⟨h.2.1, h.2.2.1⟩, h.ddrRead]
  unfold Machine.busRead
  rw [hraw]
  rfl

theorem GoodDdr.busWrite (ag : Agent) {l : List Byte} (hl : l.length = n) : busWrite ag s a l = (false, ddrWrite s a l) := by
  have hraw : busWriteRaw ag s a l = (false, ddrWrite s a l) := by
    unfold busWriteRaw
    rw [hl, if_pos h.1, if_pos ⟨h.2.1, h.2.2.1⟩]
  unfold Machine.busWrite
  rw [hraw]
  rfl

/-! ### Accesses of an engine to good DDR5 -/

/-- An address of DDR5 is no place that an engine is kept from, no doorbell and no bank. -/
theorem GoodDdr.reach (hn : 0 < n) (e : Nat) (write : Bool) : dmaReach e a n write = true ∧ isDoorbell a = false ∧
    bankRefuses s e a = false ∧ busHeld s a = false := by
  have ha := h.1
  have hown : ownWindow e a = false := by
    unfold ownWindow tileBase
    by_cases h1 : 0x1000000000 + e * 0x1000000 ≤ a
    · omega
    · rw [decide_eq_false h1, Bool.and_false, Bool.false_and]
  refine ⟨?_, ?_, ?_, ?_⟩
  · unfold dmaReach
    rw [hown, decide_eq_false (show ¬ 0x2000000000 ≤ a by omega)]
    rfl
  · unfold isDoorbell
    rw [decide_eq_false (show ¬ 0x3000000000 ≤ a by omega), Bool.false_and]
  · unfold bankRefuses dmaBank
    rw [if_neg (by omega)]
  · unfold busHeld
    rw [decide_eq_false (show ¬ 0x1000000000 ≤ a by omega)]
    rfl

/-- A run within a page reads the bytes of good DDR5. -/
theorem GoodDdr.dmaReadRun (hn : 0 < n) (hp : a % 4096 + n ≤ 4096) (e : Nat) (word : Bool) :
    dmaReadRun e word s a n = { data := s.bytes a n, code := 0, refused := false, s := s } := by
  obtain ⟨hreach, hdoor, hbank, -⟩ := h.reach hn e false
  have hpage : toPage a n = n := by unfold toPage; omega
  have hone : dmaRead1 e word s a n = { data := s.bytes a n, code := 0, refused := false, s := s } := by
    unfold dmaRead1
    rw [hreach, hdoor, hbank, h.busRead]
    rfl
  unfold Machine.dmaReadRun
  dsimp only
  rw [hpage, hone]
  exact if_pos (.inl rfl)

/-- A run within a page writes its bytes to good DDR5. -/
theorem GoodDdr.dmaWriteRun (hn : 0 < n) (hp : a % 4096 + n ≤ 4096) (e : Nat) (word : Bool) {l : List Byte} (hl : l.length = n) :
    dmaWriteRun e word s a l = { data := [], code := 0, refused := false, s := ddrWrite s a l } := by
  obtain ⟨hreach, hdoor, hbank, -⟩ := h.reach hn e true
  have hpage : toPage a n = n := by unfold toPage; omega
  have hone : dmaWrite1 e word s a l = { data := [], code := 0, refused := false, s := ddrWrite s a l } := by
    unfold dmaWrite1
    rw [hl, hreach, hdoor, hbank, h.busWrite _ hl]
    rfl
  unfold Machine.dmaWriteRun
  dsimp only
  rw [hl, hpage, List.take_of_length_le (le_of_eq hl), hone]
  exact if_pos (.inl rfl)

end Ddr

/-! ### A descriptor fetch (R267) -/

/-- A fetch of good DDR5 brings the eight words into the active set. -/
theorem fetchDone_enters {e c : Nat} {s : State} (hst : dmaState s e c = 1) (hre : (s.dmaOf e c).reread = false)
    (hal : (s.dmaOf e c).fetch % 32 = 0) (hg : GoodDdr s (s.dmaOf e c).fetch 32) :
    doDmaDescriptorFetchDone e c s = enterActive e c (chunks 4 8 (s.bytes (s.dmaOf e c).fetch 32)) (some (s.dmaOf e c).fetch) s := by
  obtain ⟨-, -, -, hheld⟩ := hg.reach (by decide) e false
  have hrun := hg.dmaReadRun (by decide) (by omega) e false
  unfold doDmaDescriptorFetchDone
  dsimp only
  rw [if_neg (by rw [hst, hheld]; decide), hre]
  simp only [Bool.false_eq_true, if_false, hrun, ne_eq, not_true_eq_false]

/-! ### A burst slot (R263, R268, R279) -/

section Burst
variable {e c k : Nat} {s : State}

/-- A channel about to move its `k` words of 32 bits in one run, both sides incrementing within a page of good DDR5. -/
structure WordBurst (e c k : Nat) (s : State) : Prop where
  smode : dSmode (s.dmaOf e c) = 0
  dmode : dDmode (s.dmaOf e c) = 0
  sw : dSw (s.dmaOf e c) = 3
  dw : dDw (s.dmaOf e c) = 3
  moved : (s.dmaOf e c).moved = 0
  count : dCount (s.dmaOf e c) = k
  pos : 0 < k
  len : 4 * k ≤ 128
  srcPage : dSrc (s.dmaOf e c) % 4096 + 4 * k ≤ 4096
  dstPage : dDst (s.dmaOf e c) % 4096 + 4 * k ≤ 4096
  srcAligned : dSrc (s.dmaOf e c) % 4 = 0
  dstAligned : dDst (s.dmaOf e c) % 4 = 0
  src : GoodDdr s (dSrc (s.dmaOf e c)) (4 * k)
  dst : GoodDdr s (dDst (s.dmaOf e c)) (4 * k)

theorem sideRun_words (e : Nat) {a : Nat} (hk : 0 < k) (h1 : 4 * k ≤ 128) (h2 : a % 4096 + 4 * k ≤ 4096) : k ≤ sideRun e 0 3 a := by
  unfold sideRun dmaBytes
  simp only [Nat.reduceEqDiff, if_false, if_true]
  split <;> omega

theorem dmaConvert_words (just v : Nat) : dmaConvert just (dmaBits 3) (dmaBits 3) v = v := if_pos rfl

theorem sideAddr_first (b w off : Nat) : sideAddr b 0 w 0 off = b := if_pos rfl

theorem aligned_words {a : Nat} (h : a % 4 = 0) : misaligned 3 a = false := by
  unfold misaligned dmaBytes
  simp [h]

/-- What the run of a burst takes next. -/
theorem WordBurst.next (h : WordBurst e c k s) : dmaNext e c s =
    { src := dSrc (s.dmaOf e c), dst := dDst (s.dmaOf e c), k := k, noTable := false, bad := false, s := s } := by
  have h1 := sideRun_words e h.pos h.len h.srcPage
  have h2 := sideRun_words e h.pos h.len h.dstPage
  have hbad : (misaligned 3 (dSrc (s.dmaOf e c)) || misaligned 3 (dDst (s.dmaOf e c))) = false := by
    rw [aligned_words h.srcAligned, aligned_words h.dstAligned]
    rfl
  have hmin : min (k - 0) (min (sideRun e 0 3 (dSrc (s.dmaOf e c))) (sideRun e 0 3 (dDst (s.dmaOf e c)))) = k :=
    Nat.min_eq_left (Nat.le_min.2 ⟨h1, h2⟩)
  unfold dmaNext
  dsimp only
  rw [h.smode, h.dmode, h.sw, h.dw, h.moved, h.count, sideAddr_first, sideAddr_first, hbad]
  simp only [show ¬ ((0 : Nat) = 2 ∨ (0 : Nat) = 2) by decide, if_false, hmin, Option.isNone_some]

/-- The burst: the words are read, and written to their place. -/
theorem WordBurst.run (h : WordBurst e c k s) :
    dmaRun e c k s = (k, dmaMoved e c k false (ddrWrite s (dDst (s.dmaOf e c)) (s.bytes (dSrc (s.dmaOf e c)) (4 * k)))) := by
  obtain ⟨n, rfl⟩ : ∃ n, k = n + 1 := ⟨k - 1, by have := h.pos; omega⟩
  have hread : readSide e 0 3 (dSrc (s.dmaOf e c)) (n + 1) s =
      { data := s.bytes (dSrc (s.dmaOf e c)) (4 * (n + 1)), code := 0, refused := false, s := s } := by
    unfold readSide
    rw [if_neg (by decide), Nat.mul_comm (n + 1)]
    exact h.src.dmaReadRun (by omega) h.srcPage e false
  have hwords : (chunks 4 (n + 1) (s.bytes (dSrc (s.dmaOf e c)) (4 * (n + 1)))).flatMap (leBytes 4) = s.bytes (dSrc (s.dmaOf e c)) (4 * (n + 1)) :=
    flatMap_leBytes_chunks 4 (by rw [bytes_length, Nat.mul_comm])
  have hwrite : writeSide e 0 3 (dDst (s.dmaOf e c)) (chunks 4 (n + 1) (s.bytes (dSrc (s.dmaOf e c)) (4 * (n + 1)))) s =
      { data := [], code := 0, refused := false, s := ddrWrite s (dDst (s.dmaOf e c)) (s.bytes (dSrc (s.dmaOf e c)) (4 * (n + 1))) } := by
    have hlen := chunks_length 4 (n + 1) (s.bytes (dSrc (s.dmaOf e c)) (4 * (n + 1)))
    generalize chunks 4 (n + 1) (s.bytes (dSrc (s.dmaOf e c)) (4 * (n + 1))) = vs at hwords hlen ⊢
    cases vs with
    | nil => exact nomatch hlen
    | cons v vs =>
      unfold writeSide
      rw [if_neg (by decide), show dmaBytes 3 = 4 from rfl, hwords]
      exact h.dst.dmaWriteRun (by omega) h.dstPage e false (bytes_length ..)
  have hconv : (chunks (dmaBytes 3) (n + 1) (s.bytes (dSrc (s.dmaOf e c)) (4 * (n + 1)))).map
      (dmaConvert (dJust (s.dmaOf e c)) (dmaBits 3) (dmaBits 3)) = chunks 4 (n + 1) (s.bytes (dSrc (s.dmaOf e c)) (4 * (n + 1))) := by
    rw [show dmaBytes 3 = 4 from rfl]
    exact (List.map_congr_left fun v _ => dmaConvert_words _ v).trans (List.map_id _)
  unfold dmaRun
  dsimp only
  rw [h.next, h.smode, h.dmode, h.sw, h.dw]
  dsimp only
  rw [Nat.min_self, hread]
  dsimp only
  rw [hconv, hwrite]
  rfl

/-- `s` with other records of the DMA channels and other last winners. -/
def withDma (s : State) (d : List (Nat × DmaCh)) (l : List (Nat × Nat)) : State := { s with dma := d, dmaLast := l }

theorem withDma_ddr {d : List (Nat × DmaCh)} {l : List (Nat × Nat)} {a n : Nat} (h : GoodDdr s a n) : GoodDdr (withDma s d l) a n := h

theorem withDma_mem (s : State) (d : List (Nat × DmaCh)) (l : List (Nat × Nat)) : (withDma s d l).mem = s.mem := rfl

/-- The arbitration's count for one ready channel: the winner's losses return to 0 (R279). -/
def countLoss (e c : Nat) (s : State) (j : Nat) : State :=
  s.mapDma e j (fun d => { d with loss := if j = c then 0 else d.loss + 1 })

/-- The state in which the winner `c` among `l` bursts. -/
def granted (e c : Nat) (l : List Nat) (s : State) : State :=
  ({ s with dmaLast := tput 0 s.dmaLast (16 * e + dmaRank s e c) (c + 1) } : State).each l (countLoss e c)

theorem dmaOf_mapDma_other {j : Nat} (h : j ≠ c) (f : DmaCh → DmaCh) : (s.mapDma e c f).dmaOf e j = s.dmaOf e j :=
  tget_tput_other _ _ _ _ _ _ (by omega)

theorem granted_eq (e c : Nat) (l : List Nat) (s : State) : ∃ d x, granted e c l s = withDma s d x :=
  each_induction (P := fun u => ∃ d x, u = withDma s d x) ⟨_, _, rfl⟩ fun u j _ hu => by
    obtain ⟨d, x, rfl⟩ := hu
    exact ⟨_, _, rfl⟩

/-- Each ready channel's losses after the arbitration. -/
theorem granted_chan {l : List Nat} (hl : l.Nodup) (e c : Nat) (s : State) {j : Nat} (hj : j ∈ l) :
    (granted e c l s).dmaOf e j = { s.dmaOf e j with loss := if j = c then 0 else (s.dmaOf e j).loss + 1 } := by
  have key (l : List Nat) (hl : l.Nodup) (u : State) : (j ∉ l → (u.each l (countLoss e c)).dmaOf e j = u.dmaOf e j) ∧
      (j ∈ l → (u.each l (countLoss e c)).dmaOf e j = { u.dmaOf e j with loss := if j = c then 0 else (u.dmaOf e j).loss + 1 }) := by
    induction l generalizing u with
    | nil => exact ⟨fun _ => rfl, fun h => nomatch h⟩
    | cons x l ih =>
      obtain ⟨hx, hl⟩ := List.nodup_cons.1 hl
      obtain ⟨hout, hin⟩ := ih hl (countLoss e c u x)
      refine ⟨fun h => ?_, fun h => ?_⟩
      · rw [List.mem_cons, not_or] at h
        exact (hout h.2).trans (dmaOf_mapDma_other h.1 _)
      · rcases List.mem_cons.1 h with rfl | h
        · exact (hout hx).trans (dmaOf_mapDma _)
        · have hne : j ≠ x := fun e => hx (e ▸ h)
          have hu : (countLoss e c u x).dmaOf e j = u.dmaOf e j := dmaOf_mapDma_other hne _
          exact (hin h).trans (by rw [hu])
  exact (key l hl _).2 hj

theorem dmaBurst_eq {lines : List Nat} (hw : dmaWinner s e ((List.range (dmaChannels e)).filter (dmaReady s e lines)) = some c)
    (hq : dmaReq s e c = 0) : doDmaBurst e lines s =
      (dmaRun e c (dCount (s.dmaOf e c)) (granted e c ((List.range (dmaChannels e)).filter (dmaReady s e lines)) s)).2 := by
  unfold doDmaBurst
  dsimp only
  rw [hw]
  exact if_pos hq

/-- The winner is one of the ready channels. -/
theorem mem_of_dmaWinner {l : List Nat} (h : dmaWinner s e l = some c) : c ∈ l := by
  have key {last : Nat} {l : List Nat} (h : dmaPick last l = some c) : c ∈ l := by
    unfold dmaPick at h
    split at h
    next hf =>
      cases h
      exact List.mem_of_find?_eq_some hf
    · exact List.mem_of_head? h
  exact List.mem_of_mem_filter (key h)

/-- What the end of a burst of all its elements leaves of the channel. -/
theorem dmaMoved_drains (hc : c < dmaChannels e) (h0 : (s.dmaOf e c).moved = 0) (hk : dCount (s.dmaOf e c) = k) :
    let t := dmaMoved e c k false s
    t.mem = s.mem ∧ (t.dmaOf e c).moved = k ∧ dmaState t e c = 5 ∧ t.reg (dmaRemain e c) = 0 ∧ (t.dmaOf e c).loss = (s.dmaOf e c).loss ∧
      ∀ j, j ≠ c → t.dmaOf e j = s.dmaOf e j := by
  intro t
  let s1 := s.mapDma e c (fun d => { d with moved := d.moved + k, refused := d.refused || false })
  have h1 : s1.dmaOf e c = { s.dmaOf e c with moved := (s.dmaOf e c).moved + k, refused := (s.dmaOf e c).refused || false } := dmaOf_mapDma _
  have hmoved : (s1.dmaOf e c).moved = k := by
    rw [h1, h0]
    exact Nat.zero_add k
  have hcount : dCount (s1.dmaOf e c) = k := by
    rw [h1]
    exact hk
  have ht : t = setDmaState e c 5 (s1.setReg (dmaRemain e c) 0) := by
    have hrem : BitVec.ofNat 32 (dCount (s1.dmaOf e c) - (s1.dmaOf e c).moved) = 0 := by
      rw [hmoved, hcount, Nat.sub_self]
      rfl
    show dmaMoved e c k false s = _
    unfold dmaMoved
    simp only [Bool.false_eq_true, if_false]
    rw [if_pos (by rw [hmoved, hcount]), hrem]
  have hdma : t.dma = s1.dma := by
    rw [ht, setDmaState_dma]
    rfl
  have hchan (j : Nat) : t.dmaOf e j = s1.dmaOf e j := dmaOf_of_dma_eq hdma e j
  refine ⟨?_, ?_, ?_, ?_, ?_, fun j hj => (hchan j).trans (dmaOf_mapDma_other hj _)⟩
  · rw [ht, setDmaState_mem]
    rfl
  · rw [hchan, hmoved]
  · rw [ht]
    exact dmaState_setDmaState hc (by decide) _
  · rw [ht]
    exact ((setDmaState_keeps hc 5 _).reg 0x28 (by decide) (by decide) (by decide)).trans (reg_setReg_same ..)
  · rw [hchan, h1]

end Burst

/-- Settles O49: a fetch and a burst slot move exactly the bytes that the descriptor names. -/
theorem dmaFetchesAndBurstsMoveData : Obligations.DmaFetchesAndBurstsMoveData := by
  unfold Obligations.DmaFetchesAndBurstsMoveData
  intro e s
  refine ⟨fun c hc => ?_, fun lines c k => ?_⟩
  · intro d hst hre hal hg
    have h := enterActive_entered e.isLt hc (chunks 4 8 (s.bytes d.fetch 32)) (some d.fetch) s
    have hlt : (some d.fetch).getD 0 < 2 ^ 40 := by
      have := hg.1
      rw [Option.getD_some]
      omega
    obtain ⟨hmem, haddr⟩ := h.cur hlt
    have hchan := h.chan
    refine ⟨_, .of_eq rfl ((onChannel_of_lt hc doDmaDescriptorFetchDone s).trans (fetchDone_enters hst hre hal hg)), ?_, ?_, hmem, haddr,
      fun hb => h.bad (hchan ▸ hb), fun hb => ?_⟩
    · rw [hchan]
      rfl
    · rw [hchan]
      rfl
    · obtain ⟨hm, hr, hs⟩ := h.good (hchan ▸ hb)
      rw [← hchan] at hr
      exact ⟨hm, hr, hs⟩
  · intro ready d hw hq h1 h2 h3 h4 h5 h6 h7 h8 h9 h10 h11 h12 h13 h14
    have hmem := mem_of_dmaWinner hw
    have hc : c < dmaChannels e := List.mem_range.1 (List.mem_of_mem_filter hmem)
    have hnodup : ready.Nodup := List.nodup_range.filter _
    obtain ⟨x, y, hu⟩ := granted_eq e c ready s
    have hchan := granted_chan hnodup e c s hmem
    rw [if_pos rfl] at hchan
    have hburst : WordBurst e c k (granted e c ready s) := by
      refine ⟨?_, ?_, ?_, ?_, ?_, ?_, h7, h8, ?_, ?_, ?_, ?_, ?_, ?_⟩ <;> rw [hchan]
      · exact h1
      · exact h2
      · exact h3
      · exact h4
      · exact h5
      · exact h6
      · exact h9
      · exact h10
      · exact h11
      · exact h12
      · rw [hu]
        exact withDma_ddr h13
      · rw [hu]
        exact withDma_ddr h14
    have hgmem : (granted e c ready s).mem = s.mem := by rw [hu, withDma_mem]
    have hbytes : (granted e c ready s).bytes (dSrc d) (4 * k) = s.bytes (dSrc d) (4 * k) := bytes_of_mem_eq hgmem _ _
    have hrun := (dmaBurst_eq hw hq).trans (congrArg (fun n => (dmaRun e c n (granted e c ready s)).2) h6)
    have hsrc : dSrc ((granted e c ready s).dmaOf e c) = dSrc d := by rw [hchan]; rfl
    have hdst : dDst ((granted e c ready s).dmaOf e c) = dDst d := by rw [hchan]; rfl
    rw [hburst.run, hsrc, hdst, hbytes] at hrun
    have hwdma : (ddrWrite (granted e c ready s) (dDst d) (s.bytes (dSrc d) (4 * k))).dma = (granted e c ready s).dma :=
      (ddrWrite_memAccess ..).dma_eq
    have hwchan (j : Nat) := dmaOf_of_dma_eq hwdma e j
    obtain ⟨tmem, tmoved, tstate, trem, tloss, tothers⟩ := dmaMoved_drains (k := k)
      (s := ddrWrite (granted e c ready s) (dDst d) (s.bytes (dSrc d) (4 * k))) hc
      (by rw [hwchan]; exact hburst.moved) (by rw [hwchan]; exact hburst.count)
    have hmem : (dmaMoved e c k false (ddrWrite (granted e c ready s) (dDst d) (s.bytes (dSrc d) (4 * k)))).mem =
        (s.setBytes (dDst d) (s.bytes (dSrc d) (4 * k))).mem :=
      tmem.trans ((ddrWrite_mem ..).trans (setBytes_mem_congr hgmem _ _))
    refine ⟨_, .of_eq rfl hrun, fun i hi => ?_, fun a ha => ?_, tmoved, tstate, trem, ?_, fun j hj hne => ?_⟩
    · rw [byte_of_mem_eq hmem, byte_setBytes_inside _ _ _ _ (by rw [bytes_length]; exact hi), bytes_getElem]
    · rw [byte_of_mem_eq hmem]
      exact byte_setBytes_other _ _ _ _ (by rw [bytes_length]; exact ha)
    · rw [tloss, hwchan, hchan]
    · rw [tothers j hne, hwchan, granted_chan hnodup e c s hj, if_neg hne]

end Sys2Proof.Machine
end

section

/-! SUPPORT. Arithmetic of the stack processors on cells as bit vectors: O51. -/

namespace Sys2Proof.Machine

section Cells
variable {w : Nat}

/-- An exact result does not fit a signed cell. -/
def cellOut (w : Nat) (i : Int) : Bool := decide (i < -(2 : Int) ^ (w - 1) ∨ (2 : Int) ^ (w - 1) ≤ i)

/-- The cell nearest to an exact result. -/
def cellSat (w : Nat) (i : Int) : BitVec w := BitVec.ofInt w (max (-(2 : Int) ^ (w - 1)) (min ((2 : Int) ^ (w - 1) - 1) i))

/-- An outcome from the result cell, the new C and what is raised. -/
def cellOutcome (r : BitVec w) (c : Option Bool) (ov dz : Bool) : AluOut := { r := r.toNat, c := c.map b2n, ov := ov, dz := dz }

theorem unsext_eq (w : Nat) (i : Int) : unsext w i = (BitVec.ofInt w i).toNat := by
  rw [BitVec.toNat_ofInt]
  rfl

theorem unsext_congr {w : Nat} {i j : Int} (h : i % (2 : Int) ^ w = j % (2 : Int) ^ w) : unsext w i = unsext w j := by
  unfold unsext
  push_cast
  rw [h]

theorem unsext_natCast (w n : Nat) : unsext w (n : Int) = n % 2 ^ w := by
  unfold unsext
  rw [← Int.natCast_mod, Int.toNat_natCast]

theorem not_fitsS (w : Nat) (i : Int) : (!fitsS w i) = cellOut w i := by
  unfold cellOut
  by_cases h : i < -(2 : Int) ^ (w - 1) ∨ (2 : Int) ^ (w - 1) ≤ i
  · rw [fitsS_of_not_mem (h.imp_right fun h => by omega), decide_eq_true h]
    rfl
  · rw [not_or] at h
    rw [fitsS_of_mem (by omega) (by omega), decide_eq_false (by omega)]
    rfl

theorem aluFit_eq (w : Nat) (i : Int) : aluFit w false i = cellOutcome (BitVec.ofInt w i) none (cellOut w i) false := by
  unfold aluFit cellOutcome
  rw [not_fitsS, unsext_eq]
  rfl

theorem aluFit_sat (w : Nat) (i : Int) : aluFit w true i = cellOutcome (cellSat w i) none (cellOut w i) false := by
  unfold aluFit cellOutcome cellSat
  rw [not_fitsS, if_pos rfl, satS_eq_clamp, unsext_eq]
  rfl

variable (hw : 0 < w) (x y : BitVec w)
include hw

theorem two_pow_cell : 2 ^ w = 2 * 2 ^ (w - 1) := by
  obtain ⟨n, rfl⟩ : ∃ n, w = n + 1 := ⟨w - 1, by omega⟩
  rw [Nat.add_sub_cancel, Nat.pow_succ, Nat.mul_comm]

theorem sext_toNat : sext w x.toNat = x.toInt := by
  have h2 := two_pow_cell hw
  have hx := x.isLt
  unfold sext
  rw [BitVec.toInt_eq_toNat_cond, Nat.mod_eq_of_lt hx]
  split <;> split <;> omega

omit hw in
/-- A cell and its signed value differ by a multiple of 2^w. -/
theorem toInt_emod : x.toInt % (2 : Int) ^ w = (x.toNat : Int) % (2 : Int) ^ w := by
  rw [BitVec.toInt_eq_toNat_cond]
  split
  · rfl
  · push_cast
    rw [Int.sub_emod_right]

omit hw in
theorem sub_toInt_emod : ((x.toNat : Int) - y.toNat) % (2 : Int) ^ w = (x.toInt - y.toInt) % (2 : Int) ^ w := by
  rw [Int.sub_emod, ← toInt_emod, ← toInt_emod, ← Int.sub_emod]

theorem two_pow_int : (2 : Int) ^ w = 2 * (2 : Int) ^ (w - 1) := by exact_mod_cast two_pow_cell hw

omit hw in
theorem ofInt_sub_toInt : BitVec.ofInt w (x.toInt - y.toInt) = x - y := BitVec.eq_of_toInt_eq (by simp)

omit hw in
theorem ofInt_mul_toInt : BitVec.ofInt w (x.toInt * y.toInt) = x * y := BitVec.eq_of_toInt_eq (by simp)

omit hw in
theorem ofInt_neg_toInt : BitVec.ofInt w (-x.toInt) = -x := BitVec.eq_of_toInt_eq (by rw [BitVec.toInt_ofInt, BitVec.toInt_neg])

theorem toNat_ofInt_min : (BitVec.ofInt w (-(2 : Int) ^ (w - 1))).toNat = 2 ^ (w - 1) := by
  have h2 := two_pow_int hw
  have hpos : 0 < (2 : Int) ^ (w - 1) := by positivity
  rw [← unsext_eq, unsext_congr (j := (2 : Int) ^ (w - 1))]
  · exact_mod_cast (unsext_natCast w (2 ^ (w - 1))).trans (Nat.mod_eq_of_lt (by have := two_pow_cell hw; have := Nat.two_pow_pos (w - 1); omega))
  · rw [show -(2 : Int) ^ (w - 1) = (2 : Int) ^ (w - 1) - (2 : Int) ^ w by omega, Int.sub_emod_right]

theorem toNat_ofInt_max : (BitVec.ofInt w ((2 : Int) ^ (w - 1) - 1)).toNat = 2 ^ (w - 1) - 1 := by
  have hpos := Nat.two_pow_pos (w - 1)
  have hcast : (2 : Int) ^ (w - 1) - 1 = ((2 ^ (w - 1) - 1 : Nat) : Int) := by push_cast [hpos]; rfl
  rw [← unsext_eq, hcast, unsext_natCast]
  exact Nat.mod_eq_of_lt (by have := two_pow_cell hw; omega)

theorem cellSat_low {i : Int} (h : i < -(2 : Int) ^ (w - 1)) : (cellSat w i).toNat = 2 ^ (w - 1) := by
  have hpos : 0 < (2 : Int) ^ (w - 1) := by positivity
  unfold cellSat
  rw [max_eq_left (by omega), toNat_ofInt_min hw]

theorem cellSat_high {i : Int} (h : (2 : Int) ^ (w - 1) ≤ i) : (cellSat w i).toNat = 2 ^ (w - 1) - 1 := by
  have hpos : 0 < (2 : Int) ^ (w - 1) := by positivity
  unfold cellSat
  rw [min_eq_left (by omega), max_eq_right (by omega), toNat_ofInt_max hw]

theorem toNat_ite_one (p : Prop) [Decidable p] : (if p then (1 : BitVec w) else 0).toNat = b2n (decide p) := by
  by_cases h : p
  · rw [if_pos h, decide_eq_true h]
    exact BitVec.toNat_one hw
  · rw [if_neg h, decide_eq_false h]
    rfl

/-! ### The outcomes of R310 -/

theorem aluAdd_eq (cin : Nat) (v : Bool) : aluAdd w false cin v x.toNat y.toNat =
    cellOutcome (BitVec.ofNat w (x.toNat + y.toNat + cin)) (some (decide (2 ^ w ≤ x.toNat + y.toNat + cin)))
      (v && cellOut w (x.toInt + y.toInt + cin)) false := by
  unfold aluAdd cellOutcome
  simp only [Bool.false_eq_true, if_false, sext_toNat hw, not_fitsS, Option.map_some]
  have hr : unsext w ((x.toNat : Int) + y.toNat + cin) = (BitVec.ofNat w (x.toNat + y.toNat + cin)).toNat := by
    rw [BitVec.toNat_ofNat]
    exact_mod_cast unsext_natCast w (x.toNat + y.toNat + cin)
  have hc : decide ((x.toNat : Int) + y.toNat + cin < 0 ∨ ((2 ^ w : Nat) : Int) ≤ (x.toNat : Int) + y.toNat + cin) =
      decide (2 ^ w ≤ x.toNat + y.toNat + cin) := decide_eq_decide.2 (by omega)
  rw [hr, hc]

theorem aluSub_eq (cin : Nat) (v : Bool) : aluAdd w true cin v x.toNat y.toNat =
    cellOutcome (BitVec.ofInt w (x.toInt - y.toInt - cin)) (some (decide (x.toNat < y.toNat + cin)))
      (v && cellOut w (x.toInt - y.toInt - cin)) false := by
  have hx := x.isLt
  unfold aluAdd cellOutcome
  simp only [if_true, sext_toNat hw, not_fitsS, Option.map_some, ← unsext_eq]
  have hr : unsext w ((x.toNat : Int) - y.toNat - cin) = unsext w (x.toInt - y.toInt - cin) :=
    unsext_congr (by rw [Int.sub_emod, sub_toInt_emod, ← Int.sub_emod])
  have hc : decide ((x.toNat : Int) - y.toNat - cin < 0 ∨ ((2 ^ w : Nat) : Int) ≤ (x.toNat : Int) - y.toNat - cin) =
      decide (x.toNat < y.toNat + cin) := decide_eq_decide.2 (by omega)
  rw [hr, hc]

omit hw in
theorem aluAddUs_eq : aluFitU w ((x.toNat : Int) + y.toNat) =
    cellOutcome (if 2 ^ w ≤ x.toNat + y.toNat then BitVec.allOnes w else x + y) none (decide (2 ^ w ≤ x.toNat + y.toNat)) false := by
  have hpos := Nat.two_pow_pos w
  unfold aluFitU satU cellOutcome
  rw [if_neg (by omega)]
  by_cases h : 2 ^ w ≤ x.toNat + y.toNat
  · have hcast : ((2 ^ w : Nat) : Int) - 1 = ((2 ^ w - 1 : Nat) : Int) := by push_cast [hpos]; rfl
    rw [if_pos (by omega), if_pos h, decide_eq_true h, decide_eq_true (by omega), hcast, unsext_natCast, BitVec.toNat_allOnes,
      Nat.mod_eq_of_lt (by omega)]
    rfl
  · have hr : unsext w ((x.toNat : Int) + y.toNat) = (x + y).toNat := by
      rw [BitVec.toNat_add]
      exact_mod_cast unsext_natCast w (x.toNat + y.toNat)
    rw [if_neg (by omega), if_neg h, decide_eq_false h, decide_eq_false (not_not.2 rfl), hr]
    rfl

omit hw in
theorem aluSubUs_eq : aluFitU w ((x.toNat : Int) - y.toNat) =
    cellOutcome (if x.toNat < y.toNat then 0 else x - y) none (decide (x.toNat < y.toNat)) false := by
  have hx := x.isLt
  unfold aluFitU satU cellOutcome
  by_cases h : x.toNat < y.toNat
  · rw [if_pos (by omega), if_pos h, decide_eq_true h, decide_eq_true (by omega)]
    unfold unsext
    simp
  · have hr : unsext w ((x.toNat : Int) - y.toNat) = (x - y).toNat := by
      rw [unsext_congr (sub_toInt_emod x y), unsext_eq, ofInt_sub_toInt]
    rw [if_neg (by omega), if_neg (by omega), if_neg h, decide_eq_false h, decide_eq_false (not_not.2 rfl), hr]
    rfl

theorem aluMul_eq : aluMul w x.toNat y.toNat = cellOutcome (x * y) none (cellOut w (x.toInt * y.toInt)) false := by
  unfold aluMul cellOutcome
  rw [sext_toNat hw, sext_toNat hw, not_fitsS, unsext_eq, ofInt_mul_toInt]
  rfl

theorem aluMulH_eq : aluMulH w x.toNat y.toNat = cellOutcome (BitVec.ofInt w (x.toInt * y.toInt / (2 : Int) ^ w)) none false false := by
  unfold aluMulH aluPlain cellOutcome
  rw [sext_toNat hw, sext_toNat hw, Int.fdiv_eq_ediv_of_nonneg _ (Int.natCast_nonneg _), unsext_eq]
  push_cast
  rfl

omit hw in
theorem aluMulHU_eq : aluMulHU w x.toNat y.toNat = cellOutcome (BitVec.ofNat w (x.toNat * y.toNat / 2 ^ w)) none false false := by
  unfold aluMulHU aluPlain cellOutcome
  rw [BitVec.toNat_ofNat]
  rfl

/-- What a signed division by 0 gives. -/
def divZero (w : Nat) (i : Int) : BitVec w := if i < 0 then BitVec.ofInt w (-(2 : Int) ^ (w - 1)) else BitVec.ofInt w ((2 : Int) ^ (w - 1) - 1)

theorem toNat_divZero (i : Int) : (divZero w i).toNat = if i < 0 then 2 ^ (w - 1) else 2 ^ (w - 1) - 1 := by
  unfold divZero
  split
  · exact toNat_ofInt_min hw
  · exact toNat_ofInt_max hw

theorem aluDiv_eq : aluDiv w false x.toNat y.toNat =
    cellOutcome (if y.toNat = 0 then divZero w x.toInt else BitVec.ofInt w (x.toInt.tdiv y.toInt)) none
      (decide (y.toNat ≠ 0) && cellOut w (x.toInt.tdiv y.toInt)) (decide (y.toNat = 0)) := by
  unfold aluDiv
  rw [sext_toNat hw, sext_toNat hw]
  by_cases h : y.toNat = 0
  · rw [if_pos h, if_pos h, decide_eq_true h, decide_eq_false (not_not.2 h)]
    unfold cellOutcome
    rw [toNat_divZero hw]
    rfl
  · rw [if_neg h, if_neg h, decide_eq_false h, decide_eq_true h, aluFit_eq, Bool.true_and]

theorem aluDivs_eq : aluDiv w true x.toNat y.toNat =
    cellOutcome (if y.toNat = 0 then divZero w x.toInt else cellSat w (x.toInt.tdiv y.toInt)) none
      (decide (y.toNat ≠ 0) && cellOut w (x.toInt.tdiv y.toInt)) (decide (y.toNat = 0)) := by
  unfold aluDiv
  rw [sext_toNat hw, sext_toNat hw]
  by_cases h : y.toNat = 0
  · rw [if_pos h, if_pos h, decide_eq_true h, decide_eq_false (not_not.2 h)]
    unfold cellOutcome
    rw [toNat_divZero hw]
    rfl
  · rw [if_neg h, if_neg h, decide_eq_false h, decide_eq_true h, aluFit_sat, Bool.true_and]

omit hw in
theorem aluDivU_eq : aluDivU w x.toNat y.toNat =
    cellOutcome (if y.toNat = 0 then BitVec.allOnes w else x / y) none false (decide (y.toNat = 0)) := by
  unfold aluDivU cellOutcome aluPlain
  by_cases h : y.toNat = 0
  · rw [if_pos h, if_pos h, decide_eq_true h, BitVec.toNat_allOnes]
    rfl
  · rw [if_neg h, if_neg h, decide_eq_false h, BitVec.toNat_udiv]
    rfl

theorem aluMod_eq : aluMod w x.toNat y.toNat =
    cellOutcome (if y.toNat = 0 then x else BitVec.ofInt w (x.toInt.tmod y.toInt)) none false (decide (y.toNat = 0)) := by
  unfold aluMod cellOutcome aluPlain
  by_cases h : y.toNat = 0
  · rw [if_pos h, if_pos h, decide_eq_true h]
    rfl
  · rw [if_neg h, if_neg h, decide_eq_false h, sext_toNat hw, sext_toNat hw, unsext_eq]
    rfl

omit hw in
theorem aluModU_eq : aluModU w x.toNat y.toNat = cellOutcome (if y.toNat = 0 then x else x % y) none false (decide (y.toNat = 0)) := by
  unfold aluModU cellOutcome aluPlain
  by_cases h : y.toNat = 0
  · rw [if_pos h, if_pos h, decide_eq_true h]
    rfl
  · rw [if_neg h, if_neg h, decide_eq_false h, BitVec.toNat_umod]
    rfl

/-! ### Shifts -/

/-- A signed value shifted out of the cell is beyond its range, on the side of its sign. -/
theorem shifted_out {n : Nat} (h : w ≤ n) : (0 < x.toInt → (2 : Int) ^ (w - 1) ≤ x.toInt * 2 ^ n) ∧
    (x.toInt < 0 → x.toInt * 2 ^ n < -(2 : Int) ^ (w - 1)) := by
  have h2 := two_pow_int hw
  have hpos : 0 < (2 : Int) ^ (w - 1) := by positivity
  have hle : (2 : Int) ^ w ≤ 2 ^ n := pow_le_pow_right₀ (by norm_num) h
  refine ⟨fun hx => ?_, fun hx => ?_⟩
  · nlinarith
  · nlinarith

omit hw in
theorem toInt_eq_zero_iff : x.toInt = 0 ↔ x.toNat = 0 := by
  have hx := x.isLt
  rw [BitVec.toInt_eq_toNat_cond]
  split <;> omega

theorem aluShl_eq : aluShl w x.toNat y.toNat =
    cellOutcome (x <<< (y.toNat % 256)) none (cellOut w (x.toInt * 2 ^ (y.toNat % 256))) false := by
  unfold aluShl shAmt
  generalize y.toNat % 256 = n
  have hmod : (x <<< n).toNat = x.toNat * 2 ^ n % 2 ^ w := by rw [BitVec.toNat_shiftLeft, Nat.shiftLeft_eq]
  by_cases h : w ≤ n
  · obtain ⟨hp, hn⟩ := shifted_out hw x h
    have hzero : x.toNat * 2 ^ n % 2 ^ w = 0 := Nat.mod_eq_zero_of_dvd (Dvd.dvd.mul_left (pow_dvd_pow 2 h) _)
    have hov : decide (x.toNat ≠ 0) = cellOut w (x.toInt * 2 ^ n) := by
      have hpos : 0 < (2 : Int) ^ (w - 1) := by positivity
      unfold cellOut
      rw [decide_eq_decide, ne_eq, ← toInt_eq_zero_iff]
      by_cases h0 : x.toInt = 0
      · rw [h0, Int.zero_mul]
        omega
      · rcases lt_or_gt_of_ne h0 with hx | hx
        · exact ⟨fun _ => .inl (hn hx), fun _ => h0⟩
        · exact ⟨fun _ => .inr (hp hx), fun _ => h0⟩
    unfold cellOutcome
    rw [if_pos h, hmod, hzero, hov]
    rfl
  · have hr : BitVec.ofInt w (x.toInt * 2 ^ n) = x <<< n := by
      refine BitVec.eq_of_toNat_eq ?_
      rw [hmod, ← unsext_eq, unsext_congr (j := ((x.toNat * 2 ^ n : Nat) : Int)), unsext_natCast]
      push_cast
      rw [Int.mul_emod, toInt_emod, ← Int.mul_emod]
    rw [if_neg h, sext_toNat hw, ← hr]
    push_cast
    exact aluFit_eq w _

theorem aluShls_eq : aluShls w x.toNat y.toNat =
    cellOutcome (cellSat w (x.toInt * 2 ^ (y.toNat % 256))) none (cellOut w (x.toInt * 2 ^ (y.toNat % 256))) false := by
  unfold aluShls shAmt
  generalize y.toNat % 256 = n
  rw [sext_toNat hw]
  by_cases h : w ≤ n
  · obtain ⟨hp, hn⟩ := shifted_out hw x h
    have hpos : 0 < (2 : Int) ^ (w - 1) := by positivity
    rw [if_pos h]
    unfold cellOutcome cellOut
    by_cases h0 : x.toInt = 0
    · rw [if_pos ((toInt_eq_zero_iff x).1 h0), h0, Int.zero_mul, decide_eq_false (by omega)]
      unfold cellSat aluPlain
      rw [min_eq_right (by omega), max_eq_right (by omega)]
      simp
    · rw [if_neg (fun e => h0 ((toInt_eq_zero_iff x).2 e))]
      rcases lt_or_gt_of_ne h0 with hx | hx
      · rw [if_pos hx, decide_eq_true (.inl (hn hx)), cellSat_low hw (hn hx)]
        rfl
      · rw [if_neg (by omega), decide_eq_true (.inr (hp hx)), cellSat_high hw (hp hx)]
        rfl
  · rw [if_neg h]
    push_cast
    exact aluFit_sat w _

omit hw in
theorem aluLsr_eq : aluLsr w x.toNat y.toNat = cellOutcome (x >>> (y.toNat % 256)) none false false := by
  have hx := x.isLt
  unfold aluLsr shAmt aluPlain cellOutcome
  generalize y.toNat % 256 = n
  rw [BitVec.toNat_ushiftRight, Nat.shiftRight_eq_div_pow]
  by_cases h : w ≤ n
  · rw [if_pos h, Nat.div_eq_of_lt (hx.trans_le (Nat.pow_le_pow_right (by decide) h))]
    rfl
  · rw [if_neg h]
    rfl

theorem aluAsr_eq : aluAsr w x.toNat y.toNat = cellOutcome (x.sshiftRight (y.toNat % 256)) none false false := by
  unfold aluAsr shAmt aluPlain cellOutcome
  generalize y.toNat % 256 = n
  rw [sext_toNat hw, Int.fdiv_eq_ediv_of_nonneg _ (Int.natCast_nonneg _)]
  have hshift : x.toInt / ((2 ^ min n w : Nat) : Int) = (x.sshiftRight n).toInt := by
    rw [BitVec.toInt_sshiftRight, Int.shiftRight_eq_div_pow]
    by_cases h : n ≤ w
    · rw [Nat.min_eq_left h]
    · have h2 := two_pow_cell hw
      have hlo := BitVec.le_toInt x
      have hhi := BitVec.toInt_lt (x := x)
      have hpow : 2 ^ w ≤ 2 ^ n := Nat.pow_le_pow_right (by decide) (by omega)
      have hcast : ((2 ^ (w - 1) : Nat) : Int) = (2 : Int) ^ (w - 1) := by push_cast; rfl
      rw [Nat.min_eq_right (by omega)]
      rcases lt_or_ge x.toInt 0 with hx | hx
      · rw [Int.ediv_eq_neg_one_of_neg_of_le hx (by omega), Int.ediv_eq_neg_one_of_neg_of_le hx (by omega)]
      · rw [Int.ediv_eq_zero_of_lt hx (by omega), Int.ediv_eq_zero_of_lt hx (by omega)]
  rw [hshift, unsext_eq, BitVec.ofInt_toInt]
  rfl

end Cells

end Sys2Proof.Machine
end

section

/-! SUPPORT. Dispatch of an instruction on Clove and Sumac; arithmetic instructions: O51. -/

namespace Sys2Proof.Machine
open R

/-! ### One processor changes -/

section Proc
variable {p : Nat} {s t u : State}

@[simp] theorem proc_setProc_same (s : State) (p : Nat) (c : Cpu) : (s.setProc p c).proc p = c := tget_tput_same ..

theorem proc_setProc_other (s : State) (c : Cpu) {q : Nat} (h : q ≠ p) : (s.setProc p c).proc q = s.proc q :=
  tget_tput_other _ _ _ _ _ _ h

theorem onlyProc_refl (p : Nat) (s : State) : OnlyProc p s s := ⟨rfl, fun _ _ => rfl⟩

theorem OnlyProc.setProc (h : OnlyProc p s t) (c : Cpu) : OnlyProc p s (t.setProc p c) :=
  ⟨h.1, fun q hq => (proc_setProc_other t c hq).trans (h.2 q hq)⟩

theorem OnlyProc.freeNext (h : OnlyProc p s t) : OnlyProc p s t.freeNext := ⟨h.1, h.2⟩

theorem OnlyProc.rest {p : Nat} {s t : State} (h : OnlyProc p s t) : { t with cpu := s.cpu, freeCtr := s.freeCtr } = s := h.1

theorem OnlyProc.reg_eq (h : OnlyProc p s t) : t.reg = s.reg := by
  have hr : t.regs = s.regs := (congrArg State.regs h.1 :)
  have hs : t.phase = s.phase := (congrArg State.phase h.1 :)
  funext a
  unfold State.reg
  rw [hr]

theorem OnlyProc.fld_eq (h : OnlyProc p s t) (a : Nat) (f : Fld) : t.fld a f = s.fld a f := fld_of_reg_eq (congrFun h.reg_eq a) f
theorem OnlyProc.flag_eq (h : OnlyProc p s t) (a : Nat) (f : Fld) : t.flag a f = s.flag a f := flag_of_reg_eq (congrFun h.reg_eq a) f
theorem OnlyProc.pres_eq (h : OnlyProc p s t) (k : Nat) : pres t k = pres s k := by
  have hi : t.icPres = s.icPres := (congrArg State.icPres h.1 :)
  unfold pres
  rw [hi]

end Proc

/-! ### Dispatch (R305, R307, R334) -/

section Dispatch
variable {p op form imm : Nat} {s : State}

/-- Facts about a processor that is about to dispatch. -/
structure Poised (p op form : Nat) (s : State) : Prop where
  can : canDispatch s p = true
  halt : (s.proc p).haltReq = false
  step : (s.proc p).stepping = false
  swap : p = clove → s.flag MC_CV_STAT MC_CV_STAT_SWAP_PEND = false
  inject : p = clove → s.ctl.inject = false
  pres : p = clove → pres s 48 = 0
  parity : parityOk (dtEntry s p op) = true
  valid : dtValid (dtEntry s p op) = true
  formed : dtForm (dtEntry s p op) = form
  fetch : (fetchAt s p (s.proc p).pc (insLen p form)).1 = 0
  low : dtIn (dtEntry s p op) ≤ (s.proc p).os.length
  high : (s.proc p).os.length - dtIn (dtEntry s p op) + dtOut (dtEntry s p op) ≤ osCap p
  fits : (s.proc p).os.length ≤ osCap p

theorem poised_of_ready (h : CpuReady p op form s) : Poised p op form s := by
  obtain ⟨h1, h2, h3, h4, h5, h6, h7, h8, h9, h10, h11⟩ := h
  exact ⟨h1, h2, h3, fun hp => (flag_eq_false_iff ..).2 (h4 hp).1, fun hp => (h4 hp).2.1, fun hp => (h4 hp).2.2, h5, h6, h7, h8, h9, h10, h11⟩

theorem Poised.running (h : Poised p op form s) : procSt s p = 1 ∧ atBoundary s p = true ∧ (p = clove → s.ctl.mchk = 0) ∧
    procClock s p = true := by
  have hc := h.can
  unfold canDispatch at hc
  simp only [Bool.and_eq_true, Bool.or_eq_true, decide_eq_true_eq] at hc
  obtain ⟨⟨⟨h1, h2⟩, h3⟩, h4⟩ := hc
  exact ⟨h1, h2, fun hp => h3.resolve_left (not_not.2 hp), h4⟩

theorem Poised.noSwap (h : Poised p op form s) : dispatchSwap p s = s := by
  unfold dispatchSwap
  refine if_neg fun hp => ?_
  rw [h.swap hp.1] at hp
  exact absurd hp.2 (by decide)

/-- Nothing follows an instruction that leaves no halt, step, swap or presentation to act on. -/
theorem Poised.boundary_eq (h : Poised p op form s) {u : State} (hu : OnlyProc p s u) (h1 : (u.proc p).haltReq = false)
    (h2 : (u.proc p).stepping = false) : boundary p u = u := by
  unfold boundary
  split
  · rfl
  · have hswap : dispatchSwap p u = u := by
      unfold dispatchSwap
      refine if_neg fun hp => ?_
      rw [hu.flag_eq, h.swap hp.1] at hp
      exact absurd hp.2 (by decide)
    have hacc : ¬ (p = clove ∧ cloveAccepts u = true) := by
      rintro ⟨hp, ha⟩
      unfold cloveAccepts at ha
      rw [hu.pres_eq, h.pres hp] at ha
      simp at ha
    rw [if_neg (by rw [h1, h2]; decide)]
    dsimp only
    rw [hswap, if_neg hacc]

/-- The state in which an instruction acts: PC holds the address of the next one. -/
def advanced (p form : Nat) (s : State) : State := s.mapProc p (fun c => { c with pc := cpuNext p form s })

theorem advanced_proc (p form : Nat) (s : State) : (advanced p form s).proc p = { s.proc p with pc := cpuNext p form s } := proc_setProc_same ..

theorem advanced_only (p form : Nat) (s : State) : OnlyProc p s (advanced p form s) := (onlyProc_refl p s).setProc _

/-- The cycles that the instruction takes are counted. -/
def counted (p n : Nat) (s : State) : State := s.mapProc p (fun c => { c with cyc := c.cyc + n })

theorem counted_proc (p n : Nat) (s : State) : (counted p n s).proc p = { s.proc p with cyc := (s.proc p).cyc + n } := proc_setProc_same ..

/-- An instruction that passes its checks acts. -/
theorem Poised.acts (h : Poised p op form s) (hpre : preTrap s p op imm = none) (hisa : isaHas p op = true) (hop : op < 0xF0) :
    ∃ n, cpuIns p op imm s = boundary p (counted p n (insAct p op imm (s.proc p).pc (advanced p form s))) := by
  obtain ⟨-, -, hmchk, -⟩ := h.running
  have hgo : insGo p op imm (s.proc p).pc (dtEntry s p op) s =
      boundary p (counted p (insCost p op (decide ((((insAct p op imm (s.proc p).pc (advanced p form s)).proc p).pc ≠ cpuNext p form s))))
        (insAct p op imm (s.proc p).pc (advanced p form s))) := by
    have hknown : (isaHas p op && decide (op < 0xF0)) = true := by rw [hisa, decide_eq_true hop]; rfl
    have hinject : ¬ (p = clove ∧ s.ctl.inject = true ∧ (true && writesStack op) = true) := fun hp => by
      rw [h.inject hp.1] at hp
      exact absurd hp.2.1 (by decide)
    have hrun : ¬ (p = clove ∧ s.ctl.mchk ≠ 0) := fun hp => hp.2 (hmchk hp.1)
    unfold insGo
    dsimp only
    rw [hknown, h.formed, if_neg hinject, if_neg hrun, if_pos rfl]
    rfl
  refine ⟨_, Eq.trans ?_ hgo⟩
  unfold cpuIns
  rw [h.can, if_pos rfl, h.noSwap]
  unfold insDispatch
  dsimp only
  rw [h.formed, h.fetch, h.parity, h.valid, if_neg (by decide), if_neg (by decide), if_neg (by decide), if_neg (by decide),
    if_neg (Nat.not_lt.2 h.low), if_neg (Nat.not_lt.2 h.high), hpre]

/-- An instruction that changes its own processor alone. -/
theorem Poised.acts_alone (h : Poised p op form s) (hpre : preTrap s p op imm = none) (hisa : isaHas p op = true) (hop : op < 0xF0)
    {u : State} (hact : insAct p op imm (s.proc p).pc (advanced p form s) = u) (hu : OnlyProc p s u)
    (h1 : (u.proc p).haltReq = (s.proc p).haltReq) (h2 : (u.proc p).stepping = (s.proc p).stepping) :
    ∃ t n, cpuIns p op imm s = t ∧ OnlyProc p s t ∧ t.proc p = { u.proc p with cyc := n } := by
  obtain ⟨n, hn⟩ := h.acts hpre hisa hop
  rw [hact] at hn
  have hb : boundary p (counted p n u) = counted p n u :=
    h.boundary_eq (hu.setProc _) (by rw [counted_proc]; exact h1.trans h.halt) (by rw [counted_proc]; exact h2.trans h.step)
  exact ⟨_, _, hn.trans hb, hu.setProc _, counted_proc ..⟩

end Dispatch

end Sys2Proof.Machine
end

section

/-! SUPPORT. The arithmetic instructions of Clove and Sumac: O51. -/

namespace Sys2Proof.Machine
open R

/-! ### Stacks and STATUS (R306, R310) -/

theorem foldl_osPush {cap : Nat} (l os : List Nat) (h : l.length + os.length ≤ cap) : l.foldl (osPush cap) os = l.reverse ++ os := by
  induction l generalizing os with
  | nil => rfl
  | cons v l ih =>
    rw [List.length_cons] at h
    have hpush : osPush cap os v = v :: os := if_pos (by omega)
    rw [List.foldl_cons, hpush, ih _ (by rw [List.length_cons]; omega), List.reverse_cons, List.append_assoc]
    rfl

/-- Cells that fit replace the top ones. -/
theorem replace_os (c : Cpu) {cap n : Nat} {vs : List Nat} (h : vs.length + (c.os.drop n).length ≤ cap) :
    c.replace cap n vs = { c with os := vs ++ c.os.drop n } := by
  unfold Cpu.replace
  rw [foldl_osPush _ _ (by rw [List.length_reverse]; exact h), List.reverse_reverse]

theorem setSt_stBit (c : Cpu) (i v j : Nat) : (c.setSt i v).stBit j = if j = i then v % 2 else c.stBit j := by
  unfold Cpu.stBit Cpu.setSt
  split
  next h =>
    rw [h]
    exact bits_setBits_same ..
  next h =>
    rcases Nat.lt_or_gt_of_ne h with hlt | hgt
    · exact bits_setBits_below _ _ _ _ _ _ (by omega)
    · exact bits_setBits_above _ _ _ _ _ _ (by omega)

theorem uFlags_rest (c : Cpu) (f : Nat) (o : AluOut) : uFlags c f o = { c with status := (uFlags c f o).status } := by
  unfold uFlags
  cases o.c <;> dsimp only <;> split <;> split <;> (try split) <;> rfl

/-- A flag that is raised on a condition. -/
theorem raise_stBit (c : Cpu) (k : Nat) (b : Bool) (i : Nat) :
    (if b = true then c.setSt k 1 else c).stBit i = if i = k then (if b = true then 1 else c.stBit k) else c.stBit i := by
  cases b with
  | true => exact setSt_stBit c k 1 i
  | false =>
    by_cases h : i = k
    · rw [if_pos h, h]
      rfl
    · rw [if_neg h]
      rfl

/-- The carry after an operation that may give a new one. -/
def newCarry (b : Option Bool) (c : Cpu) : Nat := match b with | some b => b2n b | none => c.stBit 0

theorem carry_stBit (c : Cpu) (b : Option Bool) (i : Nat) :
    (match b.map b2n with | some v => c.setSt 0 v | none => c).stBit i = if i = 0 then newCarry b c else c.stBit i := by
  cases b with
  | some b =>
    refine (setSt_stBit c 0 (b2n b) i).trans ?_
    cases b <;> rfl
  | none =>
    by_cases h : i = 0
    · rw [if_pos h, h]
      rfl
    · rw [if_neg h]
      rfl

/-- Every flag by its rule. -/
theorem uFlags_stBit (c : Cpu) (r : Nat) (b : Option Bool) (ov dz : Bool) (i : Nat) :
    (uFlags c 7 { r := r, c := b.map b2n, ov := ov, dz := dz }).stBit i =
      if i = 2 then (if dz = true then 1 else c.stBit 2) else if i = 1 then (if ov = true then 1 else c.stBit 1)
      else if i = 0 then newCarry b c else c.stBit i := by
  have h : uFlags c 7 { r := r, c := b.map b2n, ov := ov, dz := dz } =
      (if dz = true then (if ov = true then (match b.map b2n with | some v => c.setSt 0 v | none => c).setSt 1 1
        else (match b.map b2n with | some v => c.setSt 0 v | none => c)).setSt 2 1
      else (if ov = true then (match b.map b2n with | some v => c.setSt 0 v | none => c).setSt 1 1
        else (match b.map b2n with | some v => c.setSt 0 v | none => c))) := by
    have hbits : bits 7 0 1 = 1 ∧ bits 7 1 1 = 1 ∧ bits 7 2 1 = 1 := ⟨rfl, rfl, rfl⟩
    unfold uFlags
    simp only [hbits, true_and, if_true] <;> rfl
  rw [h, raise_stBit, raise_stBit, raise_stBit, carry_stBit, carry_stBit, carry_stBit]
  rfl

/-! ### Arithmetic instructions -/

section Alu
variable {p op : Nat} {s : State} {r : List Nat}

theorem arith_range (h : aluIs op = true) : 0x10 ≤ op ∧ op ≤ 0x33 := by
  unfold aluIs at h
  simp only [Bool.or_eq_true, Bool.and_eq_true, decide_eq_true_eq] at h
  omega

theorem arith_has (h : aluIs op = true) : isaHas p op = true := by
  unfold isaHas
  simp [h]

theorem arith_pre (h : aluIs op = true) (imm : Nat) : preTrap s p op imm = none := by
  obtain ⟨h1, h2⟩ := arith_range h
  unfold preTrap
  dsimp only
  rw [if_neg (by omega), if_neg (by omega), if_neg (by omega)]

theorem arith_acts (h : aluIs op = true) (imm pc : Nat) (hdz : dzTraps p op (s.proc p) = false) :
    insAct p op imm pc s = s.setProc p (insAlu p op (s.proc p)) := by
  obtain ⟨h1, h2⟩ := arith_range h
  unfold insAct
  dsimp only
  rw [if_neg (by omega), if_neg (by omega), if_neg (by omega), if_neg (by omega), if_neg (by omega), if_pos h, hdz]
  rfl

/-- Only the operands decide about a division by 0. -/
theorem aluOp_dz (w op x y c c' : Nat) : (aluOp w op x y c).dz = (aluOp w op x y c').dz := by
  unfold aluOp
  split <;> rfl

/-- An arithmetic instruction whose outcome is known: the result cell on the rest of the stack, and its flags. -/
theorem Poised.arith (h : Poised p op 0 s) (hop : aluIs op = true) {w : Nat} {x : BitVec w} {b : Option Bool} {ov dz : Bool}
    (hout : aluOp (cellW p) op ((s.proc p).cell 1) ((s.proc p).cell 0) ((s.proc p).stBit 0) = cellOutcome x b ov dz)
    (hdz : dz = true → (s.proc p).stBit 3 = 0) (hos : (s.proc p).os.drop (if aluUnary op then 1 else 2) = r)
    (hlen : r.length + 1 ≤ osCap p) :
    ∃ t, cpuIns p op 0 s = t ∧ OnlyProc p s t ∧ (t.proc p).os = x.toNat :: r ∧ (t.proc p).rs = (s.proc p).rs ∧
      (t.proc p).pc = cpuNext p 0 s ∧ (t.proc p).stBit 0 = newCarry b (s.proc p) ∧
      (t.proc p).stBit 1 = (if ov = true then 1 else (s.proc p).stBit 1) ∧
      (t.proc p).stBit 2 = (if dz = true then 1 else (s.proc p).stBit 2) ∧
      ∀ i, 3 ≤ i → (t.proc p).stBit i = (s.proc p).stBit i := by
  obtain ⟨h1, h2⟩ := arith_range hop
  let c1 : Cpu := { s.proc p with pc := cpuNext p 0 s }
  have hadv : (advanced p 0 s).proc p = c1 := advanced_proc p 0 s
  have hout : aluOp (cellW p) op (c1.cell 1) (c1.cell 0) (c1.stBit 0) = cellOutcome x b ov dz := hout
  have htrap : dzTraps p op ((advanced p 0 s).proc p) = false := by
    rw [hadv]
    unfold dzTraps
    rw [aluOp_dz _ _ _ _ _ (c1.stBit 0), hout]
    cases hd : dz with
    | false => simp [cellOutcome]
    | true =>
      have : c1.stBit 3 = 0 := hdz hd
      simp [this]
  have hrep : c1.replace (osCap p) (if aluUnary op then 1 else 2) [x.toNat] = { c1 with os := x.toNat :: r } := by
    have hos : c1.os.drop (if aluUnary op then 1 else 2) = r := hos
    rw [replace_os _ (by rw [hos]; simp only [List.length_singleton]; omega), hos]
    rfl
  have hins : insAlu p op c1 = uFlags { c1 with os := x.toNat :: r } 7 (cellOutcome x b ov dz) := by
    unfold insAlu
    dsimp only
    rw [hout]
    exact congrArg (fun c => uFlags c 7 (cellOutcome x b ov dz)) hrep
  have hrest := uFlags_rest { c1 with os := x.toNat :: r } 7 (cellOutcome x b ov dz)
  have hact := arith_acts (s := advanced p 0 s) hop 0 (s.proc p).pc htrap
  rw [hadv, hins] at hact
  have hstate : ((advanced p 0 s).setProc p (uFlags { c1 with os := x.toNat :: r } 7 (cellOutcome x b ov dz))).proc p = _ := proc_setProc_same ..
  obtain ⟨t, n, ht, honly, hproc⟩ := h.acts_alone (arith_pre hop 0) (arith_has hop) (by omega) hact ((advanced_only p 0 s).setProc _)
    (by rw [hstate, hrest]) (by rw [hstate, hrest])
  rw [hstate] at hproc
  have hst (i : Nat) : (t.proc p).stBit i = (uFlags { c1 with os := x.toNat :: r } 7 (cellOutcome x b ov dz)).stBit i := by
    rw [hproc]
    rfl
  have hflag (i : Nat) := (hst i).trans (uFlags_stBit { c1 with os := x.toNat :: r } x.toNat b ov dz i)
  rw [hrest] at hproc
  refine ⟨t, ht, honly, by rw [hproc], by rw [hproc], by rw [hproc], hflag 0, hflag 1, hflag 2, fun i hi => (hflag i).trans ?_⟩
  rw [if_neg (by omega), if_neg (by omega), if_neg (by omega)]
  rfl

end Alu

end Sys2Proof.Machine
end

section

/-! SUPPORT. Every arithmetic opcode at every pair of cells: O51. -/

namespace Sys2Proof.Machine
open R

theorem cellW_pos (p : Nat) : 0 < cellW p := by
  unfold cellW
  split <;> decide

/-- A row of R308: the command, its opcode, the result, the new C, and whether OV and DZ are set. -/
abbrev StackRow (w : Nat) := Instr × Nat × BitVec w × Option Bool × Bool × Bool

/-- What a row says of its command. -/
def RowHolds (p : Nat) (s : State) (r : List Nat) {w : Nat} (e : StackRow w) : Prop :=
  CpuReady p e.2.1 0 s → (e.2.2.2.2.2 = true → (s.proc p).stBit 3 = 0) →
    ∃ t, Completes e.1 s t ∧ OnlyProc p s t ∧ (t.proc p).os = e.2.2.1.toNat :: r ∧ (t.proc p).rs = (s.proc p).rs ∧
      (t.proc p).pc = cpuNext p 0 s ∧ (t.proc p).stBit 0 = newCarry e.2.2.2.1 (s.proc p) ∧
      (t.proc p).stBit 1 = (if e.2.2.2.2.1 then 1 else (s.proc p).stBit 1) ∧
      (t.proc p).stBit 2 = (if e.2.2.2.2.2 then 1 else (s.proc p).stBit 2) ∧
      ∀ i, 3 ≤ i → (t.proc p).stBit i = (s.proc p).stBit i

section Rows
variable {p : Nat} {s : State} {r : List Nat} {i : Instr} {op w : Nat} {b : Option Bool} {ov dz : Bool} {R : BitVec w}

/-- A row of two operands. -/
theorem rowHolds_two {x y : Nat} (hos : (s.proc p).os = y :: x :: r) (hx : Completes i s (cpuIns p op 0 s)) (hop : aluIs op = true)
    (hun : aluUnary op = false) (hout : aluOp (cellW p) op x y ((s.proc p).stBit 0) = cellOutcome R b ov dz) :
    RowHolds p s r (i, op, R, b, ov, dz) := by
  intro hready hdz
  have h := poised_of_ready hready
  have hlen := h.fits
  rw [hos, List.length_cons, List.length_cons] at hlen
  have hcells : (s.proc p).cell 1 = x ∧ (s.proc p).cell 0 = y := by
    unfold Cpu.cell
    rw [hos]
    exact ⟨rfl, rfl⟩
  rw [← hcells.1, ← hcells.2] at hout
  obtain ⟨t, ht, hrest⟩ := h.arith (r := r) hop hout hdz (by rw [hun, hos]; rfl) (by omega)
  exact ⟨t, hx.of_eq ht, hrest⟩

/-- A row of one operand. -/
theorem rowHolds_one {x : Nat} (hos : (s.proc p).os = x :: r) (hx : Completes i s (cpuIns p op 0 s)) (hop : aluIs op = true)
    (hun : aluUnary op = true) (hout : ∀ z, aluOp (cellW p) op z x ((s.proc p).stBit 0) = cellOutcome R b ov dz) :
    RowHolds p s r (i, op, R, b, ov, dz) := by
  intro hready hdz
  have h := poised_of_ready hready
  have hlen := h.fits
  rw [hos, List.length_cons] at hlen
  have hcell : (s.proc p).cell 0 = x := by
    unfold Cpu.cell
    rw [hos]
    rfl
  rw [← hcell] at hout
  obtain ⟨t, ht, hrest⟩ := h.arith (r := r) hop (hout _) hdz (by rw [hun, hos]; rfl) hlen
  exact ⟨t, hx.of_eq ht, hrest⟩

end Rows

section Outcomes
variable {w : Nat} (hw : 0 < w) (x y : BitVec w) (c : Nat)

theorem outcome_plain (R : BitVec w) {n : Nat} (h : n = R.toNat) : aluPlain n = cellOutcome R none false false := by
  rw [h]
  rfl

theorem add_outcome (h : 0 < w) : aluOp w 0x10 x.toNat y.toNat c =
    cellOutcome (x + y) (some (decide (2 ^ w ≤ x.toNat + y.toNat))) (cellOut w (x.toInt + y.toInt)) false := by
  have e : BitVec.ofNat w (x.toNat + y.toNat + 0) = x + y := BitVec.eq_of_toNat_eq (by rw [BitVec.toNat_add, BitVec.toNat_ofNat]; rfl)
  refine (aluAdd_eq h x y 0 true).trans ?_
  rw [e, Bool.true_and]
  simp only [Nat.add_zero, Nat.cast_zero, Int.add_zero]

theorem sub_outcome (h : 0 < w) : aluOp w 0x14 x.toNat y.toNat c =
    cellOutcome (x - y) (some (decide (x.toNat < y.toNat))) (cellOut w (x.toInt - y.toInt)) false := by
  refine (aluSub_eq h x y 0 true).trans ?_
  simp only [Nat.add_zero, Nat.cast_zero, Int.sub_zero, Bool.true_and, ofInt_sub_toInt]

/-- The magnitude of a signed cell. -/
theorem magnitude_eq (i : Int) : (if i < 0 then -i else i) = (i.natAbs : Int) := by
  split <;> omega

theorem adds_outcome (h : 0 < w) : aluOp w 0x11 x.toNat y.toNat c =
    cellOutcome (cellSat w (x.toInt + y.toInt)) none (cellOut w (x.toInt + y.toInt)) false := by
  rw [← sext_toNat h x, ← sext_toNat h y]
  exact aluFit_sat w _

theorem subs_outcome (h : 0 < w) : aluOp w 0x15 x.toNat y.toNat c =
    cellOutcome (cellSat w (x.toInt - y.toInt)) none (cellOut w (x.toInt - y.toInt)) false := by
  rw [← sext_toNat h x, ← sext_toNat h y]
  exact aluFit_sat w _

theorem addc_outcome (h : 0 < w) : aluOp w 0x13 x.toNat y.toNat c =
    cellOutcome (BitVec.ofNat w (x.toNat + y.toNat + c)) (some (decide (2 ^ w ≤ x.toNat + y.toNat + c))) false false := aluAdd_eq h x y c false

theorem subb_outcome (h : 0 < w) : aluOp w 0x17 x.toNat y.toNat c =
    cellOutcome (BitVec.ofInt w (x.toInt - y.toInt - c)) (some (decide (x.toNat < y.toNat + c))) false false := aluSub_eq h x y c false

theorem neg_outcome (h : 0 < w) (z : Nat) : aluOp w 0x18 z x.toNat c = cellOutcome (-x) none (cellOut w (-x.toInt)) false := by
  rw [← ofInt_neg_toInt, ← sext_toNat h x]
  exact aluFit_eq w _

theorem negs_outcome (h : 0 < w) (z : Nat) : aluOp w 0x19 z x.toNat c =
    cellOutcome (cellSat w (-x.toInt)) none (cellOut w (-x.toInt)) false := by
  rw [← sext_toNat h x]
  exact aluFit_sat w _

theorem abs_outcome (h : 0 < w) (z : Nat) : aluOp w 0x1A z x.toNat c =
    cellOutcome (BitVec.ofNat w x.toInt.natAbs) none (cellOut w x.toInt.natAbs) false := by
  rw [← BitVec.ofInt_natCast, ← magnitude_eq, ← sext_toNat h x]
  exact aluFit_eq w _

theorem abss_outcome (h : 0 < w) (z : Nat) : aluOp w 0x1B z x.toNat c =
    cellOutcome (cellSat w x.toInt.natAbs) none (cellOut w x.toInt.natAbs) false := by
  rw [← magnitude_eq, ← sext_toNat h x]
  exact aluFit_sat w _

theorem eq_outcome (h : 0 < w) : aluOp w 0x30 x.toNat y.toNat c = cellOutcome (if x = y then (1 : BitVec w) else 0) none false false := by
  refine outcome_plain _ ?_
  rw [toNat_ite_one h]
  exact congrArg b2n (decide_eq_decide.2 BitVec.toNat_inj)

theorem lt_outcome (h : 0 < w) : aluOp w 0x31 x.toNat y.toNat c =
    cellOutcome (if x.toInt < y.toInt then (1 : BitVec w) else 0) none false false := by
  refine outcome_plain _ ?_
  rw [toNat_ite_one h, sext_toNat h, sext_toNat h]

theorem ltu_outcome (h : 0 < w) : aluOp w 0x32 x.toNat y.toNat c =
    cellOutcome (if x.toNat < y.toNat then (1 : BitVec w) else 0) none false false :=
  outcome_plain _ (toNat_ite_one h _).symm

theorem zeq_outcome (h : 0 < w) (z : Nat) : aluOp w 0x33 z x.toNat c = cellOutcome (if x.toNat = 0 then (1 : BitVec w) else 0) none false false :=
  outcome_plain _ (toNat_ite_one h _).symm

end Outcomes

/-- Settles O51, one outcome for each opcode. -/
theorem stackArithmeticComplete : Obligations.StackArithmeticComplete := by
  unfold Obligations.StackArithmeticComplete
  intro p s r w ci top out sat done
  have hw : 0 < w := cellW_pos p
  have hdone (e : StackRow w) (h : RowHolds p s r e) : done e := h
  have cons {a : StackRow w} {l : List (StackRow w)} (h1 : done a) (h2 : ∀ e ∈ l, done e) : ∀ e ∈ a :: l, done e :=
    List.forall_mem_cons.2 ⟨h1, h2⟩
  have nil : ∀ e ∈ ([] : List (StackRow w)), done e := fun _ h => nomatch h
  refine ⟨fun x y hos => ?_, fun x hos => ?_⟩
  · intro a b X Y n
    have row {i : Instr} {op : Nat} {R : BitVec w} {c : Option Bool} {ov dz : Bool} (hout : aluOp w op a b ci = cellOutcome R c ov dz)
        (hx : Completes i s (cpuIns p op 0 s)) (hop : (aluIs op && !aluUnary op) = true) : done (i, op, R, c, ov, dz) := by
      rw [Bool.and_eq_true, Bool.not_eq_true'] at hop
      exact hdone _ (rowHolds_two hos hx hop.1 hop.2 hout)
    exact cons (row (i := .adds p) (op := 0x11) (adds_outcome x y ci hw) rfl rfl) <|
      cons (row (i := .subs p) (op := 0x15) (subs_outcome x y ci hw) rfl rfl) <|
      cons (row (i := .add p) (op := 0x10) (add_outcome x y ci hw) rfl rfl) <|
      cons (row (i := .sub p) (op := 0x14) (sub_outcome x y ci hw) rfl rfl) <|
      cons (row (i := .addc p) (op := 0x13) (addc_outcome x y ci hw) rfl rfl) <|
      cons (row (i := .subb p) (op := 0x17) (subb_outcome x y ci hw) rfl rfl) <|
      cons (row (i := .addus p) (op := 0x12) (aluAddUs_eq x y) rfl rfl) <|
      cons (row (i := .subus p) (op := 0x16) (aluSubUs_eq x y) rfl rfl) <|
      cons (row (i := .mul p) (op := 0x1C) (aluMul_eq hw x y) rfl rfl) <|
      cons (row (i := .mulh p) (op := 0x1D) (aluMulH_eq hw x y) rfl rfl) <|
      cons (row (i := .mulhu p) (op := 0x1E) (aluMulHU_eq x y) rfl rfl) <|
      cons (row (i := .div p) (op := 0x20) (aluDiv_eq hw x y) rfl rfl) <|
      cons (row (i := .divs p) (op := 0x21) (aluDivs_eq hw x y) rfl rfl) <|
      cons (row (i := .divu p) (op := 0x22) (aluDivU_eq x y) rfl rfl) <|
      cons (row (i := .mod p) (op := 0x23) (aluMod_eq hw x y) rfl rfl) <|
      cons (row (i := .modu p) (op := 0x24) (aluModU_eq x y) rfl rfl) <|
      cons (row (i := .opAnd p) (op := 0x28) (outcome_plain (x &&& y) rfl) rfl rfl) <|
      cons (row (i := .opOr p) (op := 0x29) (outcome_plain (x ||| y) rfl) rfl rfl) <|
      cons (row (i := .opXor p) (op := 0x2A) (outcome_plain (x ^^^ y) rfl) rfl rfl) <|
      cons (row (i := .shl p) (op := 0x2C) (aluShl_eq hw x y) rfl rfl) <|
      cons (row (i := .shls p) (op := 0x2D) (aluShls_eq hw x y) rfl rfl) <|
      cons (row (i := .lsr p) (op := 0x2E) (aluLsr_eq x y) rfl rfl) <|
      cons (row (i := .asr p) (op := 0x2F) (aluAsr_eq hw x y) rfl rfl) <|
      cons (row (i := .eq p) (op := 0x30) (eq_outcome x y ci hw) rfl rfl) <|
      cons (row (i := .lt p) (op := 0x31) (lt_outcome x y ci hw) rfl rfl) <|
      cons (row (i := .ltu p) (op := 0x32) (ltu_outcome x y ci hw) rfl rfl) nil
  · intro X
    have row {i : Instr} {op : Nat} {R : BitVec w} {c : Option Bool} {ov dz : Bool} (hout : ∀ z, aluOp w op z x.toNat ci = cellOutcome R c ov dz)
        (hx : Completes i s (cpuIns p op 0 s)) (hop : (aluIs op && aluUnary op) = true) : done (i, op, R, c, ov, dz) := by
      rw [Bool.and_eq_true] at hop
      exact hdone _ (rowHolds_one hos hx hop.1 hop.2 hout)
    exact cons (row (i := .neg p) (op := 0x18) (neg_outcome x ci hw) rfl rfl) <|
      cons (row (i := .negs p) (op := 0x19) (negs_outcome x ci hw) rfl rfl) <|
      cons (row (i := .abs p) (op := 0x1A) (abs_outcome x ci hw) rfl rfl) <|
      cons (row (i := .abss p) (op := 0x1B) (abss_outcome x ci hw) rfl rfl) <|
      cons (row (i := .opNot p) (op := 0x2B) (fun _ => outcome_plain (~~~x) BitVec.toNat_not.symm) rfl rfl) <|
      cons (row (i := .zeq p) (op := 0x33) (zeq_outcome x ci hw) rfl rfl) nil

end Sys2Proof.Machine
end

section

/-! SUPPORT. Literals, stack moves, the return stack and flow of Clove and Sumac: O52. -/

namespace Sys2Proof.Machine
open R

/-! ### Operands on the stack -/

theorem cell_eq {c : Cpu} {l : List Nat} (h : c.os = l) (i : Nat) : c.cell i = l.getD i 0 := by
  unfold Cpu.cell
  rw [h]

/-- New cells on what lies below the operands. -/
theorem replace_top {c : Cpu} {cap : Nat} {ins outs r : List Nat} (h : c.os = ins ++ r) (hl : outs.length + r.length ≤ cap) :
    c.replace cap ins.length outs = { c with os := outs ++ r } := by
  have hdrop : c.os.drop ins.length = r := by
    rw [h]
    exact List.drop_left
  rw [replace_os _ (by rw [hdrop]; exact hl), hdrop]

/-- One cell more. -/
theorem replace_push (c : Cpu) {cap : Nat} {v : Nat} {os : List Nat} (h : c.os = os) (hl : os.length < cap) :
    c.replace cap 0 [v] = { c with os := v :: os } :=
  replace_top (ins := []) h (by rw [List.length_singleton]; omega)

theorem rsPush_of_lt {c : Cpu} {cap : Nat} (e : Nat × Nat) (h : c.rs.length < cap) : c.rsPush cap e = { c with rs := e :: c.rs } := if_pos h

theorem rsPush_of_le {c : Cpu} {cap : Nat} (e : Nat × Nat) (h : cap ≤ c.rs.length) :
    c.rsPush cap e = { c.setSt 4 1 with rs := e :: c.rs.take (cap - 1) } := if_neg (Nat.not_lt.2 h)

theorem sext_byte {i : Nat} (h : i < 256) : sext 8 i = if i < 128 then (i : Int) else (i : Int) - 256 := by
  unfold sext
  rw [Nat.mod_eq_of_lt (show i < 2 ^ 8 from h)]
  rfl

/-! ### What each instruction leaves of its processor -/

section Effects
variable {p imm op : Nat} {c : Cpu} {r : List Nat} {x y z : Nat}

theorem insLit8_eq (h : imm < 256) (hl : c.os.length < osCap p) :
    insLit8 p imm c = { c with os := [if p = 96 ∧ 128 ≤ imm then 65280 + imm else imm] ++ c.os } := by
  have hv : (if p = clove then unsext 16 (sext 8 imm) else imm % 256) = if p = 96 ∧ 128 ≤ imm then 65280 + imm else imm := by
    unfold unsext
    rw [sext_byte h]
    unfold clove
    split_ifs <;> omega
  unfold insLit8
  rw [hv]
  exact replace_push c rfl hl

theorem insLit_eq (h : imm < 65536) (hl : (if p = 96 then [imm] else [imm / 256, imm % 256]).length + c.os.length ≤ osCap p) :
    insLit p imm c = { c with os := (if p = 96 then [imm] else [imm / 256, imm % 256]) ++ c.os } := by
  have hv : addrCells p imm = if p = 96 then [imm] else [imm / 256, imm % 256] := by
    unfold addrCells
    rw [Nat.mod_eq_of_lt h, Nat.mod_eq_of_lt (by omega : imm / 256 < 256)]
    rfl
  unfold insLit
  rw [hv]
  exact replace_top (ins := []) rfl hl

theorem relTarget_eq (h : imm < 256) {n : Nat} (hn : c.pc = n) :
    relTarget p imm c = (((n : Int) + (if imm < 128 then (imm : Int) else (imm : Int) - 256)) % ((2 : Int) ^ pcW p)).toNat := by
  unfold relTarget unsext
  rw [sext_byte h, hn, Nat.cast_pow]
  rfl

theorem absTarget_eq (h : imm < 65536) {n : Nat} (hn : c.pc = n) :
    absTarget p imm c = if p = 96 then n / 65536 * 65536 + imm else imm % 4096 := by
  unfold absTarget
  rw [hn, Nat.mod_eq_of_lt h]
  rfl

theorem pairTarget_eq (h : c.os = x :: y :: r) : pairTarget p c = if p = 96 then x % 256 * 65536 + y else (y + 256 * x) % 4096 := by
  unfold pairTarget
  rw [cell_eq h, cell_eq h]
  rfl

end Effects

/-! ### Instructions that pass their checks -/

section Moves
variable {p op form imm : Nat} {s : State} {r : List Nat}

theorem preTrap_none (h : op ∉ [0x08, 0x09, 0x44, 0x46, 0x0A, 0x45, 0x5B]) : preTrap s p op imm = none := by
  simp only [List.mem_cons, List.not_mem_nil, or_false, not_or] at h
  unfold preTrap
  dsimp only
  rw [if_neg (by omega), if_neg (by omega), if_neg (by omega)]

theorem not_rsFull (h : (s.proc p).rs.length < rsCap p) : rsFull s p = false := by
  unfold rsFull
  rw [decide_eq_false (Nat.not_le.2 h)]
  rfl

theorem preTrap_push (h : op = 0x09 ∨ op = 0x44 ∨ op = 0x46) (hf : rsFull s p = false) : preTrap s p op imm = none := by
  unfold preTrap
  dsimp only
  rw [hf, if_neg (by omega), if_neg (by simp), if_neg (by omega)]

theorem preTrap_pop (h : op = 0x0A ∨ op = 0x45 ∨ op = 0x5B) (hr : (s.proc p).rs ≠ []) : preTrap s p op imm = none := by
  unfold preTrap
  dsimp only
  rw [if_neg (by omega), if_neg (by omega), if_neg (by simpa using fun _ => hr)]

/-- The processor with what an instruction may move: stacks, STATUS and PC. -/
def movedTo (c : Cpu) (os : List Nat) (rs : List (Nat × Nat)) (st pc : Nat) : Cpu := { c with os := os, rs := rs, status := st, pc := pc }

/-- An instruction that moves cells, entries and PC of its own processor. -/
theorem Poised.moves (h : Poised p op form s) (hpre : preTrap s p op imm = none) (hisa : isaHas p op = true) (hop : op < 0xF0)
    {u : State} {os : List Nat} {rs : List (Nat × Nat)} {st pc : Nat}
    (hact : insAct p op imm (s.proc p).pc (advanced p form s) = u) (hu : OnlyProc p s u)
    (hc : u.proc p = movedTo (s.proc p) os rs st pc) :
    ∃ t, cpuIns p op imm s = t ∧ OnlyProc p s t ∧ (t.proc p).os = os ∧ (t.proc p).rs = rs ∧ (t.proc p).status = st ∧
      (t.proc p).pc = pc := by
  obtain ⟨t, n, ht, honly, hproc⟩ := h.acts_alone hpre hisa hop hact hu (by rw [hc]; rfl) (by rw [hc]; rfl)
  rw [hc] at hproc
  exact ⟨t, ht, honly, by rw [hproc]; rfl, by rw [hproc]; rfl, by rw [hproc]; rfl, by rw [hproc]; rfl⟩

/-- The same where the instruction only puts a new processor. -/
theorem Poised.puts (h : Poised p op form s) (hpre : preTrap s p op imm = none) (hisa : isaHas p op = true) (hop : op < 0xF0)
    {c : Cpu} {os : List Nat} {rs : List (Nat × Nat)} {st pc : Nat}
    (hact : insAct p op imm (s.proc p).pc (advanced p form s) = (advanced p form s).setProc p c)
    (hc : c = movedTo (s.proc p) os rs st pc) :
    ∃ t, cpuIns p op imm s = t ∧ OnlyProc p s t ∧ (t.proc p).os = os ∧ (t.proc p).rs = rs ∧ (t.proc p).status = st ∧
      (t.proc p).pc = pc :=
  h.moves hpre hisa hop hact ((advanced_only p form s).setProc c) ((proc_setProc_same ..).trans hc)

end Moves

/-! ### Traps before an effect -/

section PreTrap
variable {p op form imm : Nat} {s : State}

/-- An instruction that raises a trap before it has an effect. -/
theorem Poised.traps (h : Poised p op form s) {code : Nat} (hpre : preTrap s p op imm = some code) :
    cpuIns p op imm s = procTrap p code 0 (s.proc p).pc s := by
  unfold cpuIns
  rw [h.can, if_pos rfl, h.noSwap]
  unfold insDispatch
  dsimp only
  rw [h.formed, h.fetch, h.parity, h.valid, if_neg (by decide), if_neg (by decide), if_neg (by decide), if_neg (by decide),
    if_neg (Nat.not_lt.2 h.low), if_neg (Nat.not_lt.2 h.high), hpre]

end PreTrap

theorem sp_setSp_same (c : Cpu) (n v : Nat) : (c.setSp n v).sp n = v := tget_tput_same ..
theorem sp_setSp_other (c : Cpu) {n m : Nat} (v : Nat) (h : m ≠ n) : (c.setSp n v).sp m = c.sp m := tget_tput_other _ _ _ _ _ _ h

/-- A trap of Clove outside a trap handler. -/
theorem cloveTrap_trapped (code arg pc : Nat) {s : State} (h : (s.proc 96).stBit 6 = 0) :
    Trapped 96 code arg pc s (cloveTrap code arg pc s) := by
  have hne : ¬ (s.proc clove).stBit 6 = 1 := fun e => by
    rw [show (s.proc clove).stBit 6 = 0 from h] at e
    exact absurd e (by decide)
  unfold cloveTrap
  dsimp only
  rw [if_neg hne]
  generalize hc : (Config.trapCause code ((s.proc clove).stBit 5) arg).toNat = w
  unfold setProcSt
  have hproc (u : State) (a v : Nat) (f : Fld) (b : Nat) (x : Word) : ((u.setReg b x).setFld a f v).proc clove = u.proc clove := rfl
  unfold Trapped
  rw [if_pos (show (96 : Nat) = clove from rfl)]
  have h1 := hproc (s.setProc clove
    { (((((s.proc clove).setSp 11 (pc % 65536)).setSp 12 (pc / 65536)).setSp 13 w).setSt 5 0).setSt 6 1 with
      pc := (s.proc clove).sp 9 + 65536 * (s.proc clove).sp 10, win := none, u := none }) (procStat clove) 1 ⟨0, 3⟩ CV_TRAP
      (BitVec.ofNat 32 (pc + code * 2 ^ 24))
  rw [proc_setProc_same] at h1
  refine ⟨(congrArg Cpu.os h1 :), (congrArg Cpu.rs h1 :), (congrArg Cpu.pc h1 :), ?_, ?_, ?_, ?_, ?_⟩
  · refine (congrArg (Cpu.stBit · 5) h1 :).trans ?_
    refine (setSt_stBit _ 6 1 5).trans ?_
    exact setSt_stBit _ 5 0 5
  · refine (congrArg (Cpu.stBit · 6) h1 :).trans ?_
    exact setSt_stBit _ 6 1 6
  · refine (congrArg (Cpu.sp · 11) h1 :).trans ?_
    refine (sp_setSp_other _ w (by decide)).trans ((sp_setSp_other _ _ (by decide)).trans (sp_setSp_same ..))
  · refine (congrArg (Cpu.sp · 12) h1 :).trans ?_
    refine (sp_setSp_other _ w (by decide)).trans (sp_setSp_same ..)
  · refine (reg_setReg_other _ _ _ _ (by decide)).trans (reg_setReg_same ..)

/-- A trap of a Sumac processor. -/
theorem sumacTrap_trapped {p : Nat} (code arg pc : Nat) {s : State} (h : p ≠ 96) : Trapped p code arg pc s (sumacTrap p code arg pc s) := by
  have hstat : procStat p = SU_c_p_STAT (p / 8) (p % 8) := if_neg h
  have h1 : (sumacTrap p code arg pc s).proc p =
      { s.proc p with pc := pc, win := none, u := none, waitEv := none, stepping := false } := proc_setProc_same ..
  unfold Trapped
  rw [if_neg (show ¬ p = clove from h)]
  refine ⟨(congrArg Cpu.os h1 :), (congrArg Cpu.rs h1 :), ?_, ?_⟩
  · exact fld_setFld_of_lt _ _ _ _ (by decide) (by decide)
  · refine (reg_setReg_other _ _ _ _ ?_).trans (reg_setReg_same ..)
    rw [hstat]
    simp only [SU_c_p_STAT, SU_c_p_TRAP]
    omega

/-- A trap of a processor that is not Clove in a trap handler. -/
theorem procTrap_trapped {p : Nat} (code arg pc : Nat) {s : State} (h : p ≠ 96 ∨ (s.proc p).stBit 6 = 0) :
    Trapped p code arg pc s (procTrap p code arg pc s) := by
  unfold procTrap
  by_cases hp : p = 96
  · subst hp
    rw [if_pos (show (96 : Nat) = clove from rfl)]
    exact cloveTrap_trapped code arg pc (h.resolve_left (not_not.2 rfl))
  · rw [if_neg (show ¬ p = clove from hp)]
    exact sumacTrap_trapped code arg pc hp

end Sys2Proof.Machine
end

section

/-! SUPPORT. Every literal, stack move, branch, jump, call and return: O52. -/

namespace Sys2Proof.Machine
open R

/-- A row of R308 and R309: the command, its opcode and form, the cells that it takes, those that it leaves, and the next PC. -/
abbrev MoveRow := Instr × Nat × Nat × List Nat × List Nat × Nat

/-- What a row says of its command. -/
def MoveHolds (p : Nat) (s : State) (r : List Nat) (e : MoveRow) : Prop :=
  CpuReady p e.2.1 e.2.2.1 s → (s.proc p).os = e.2.2.2.1 ++ r → e.2.2.2.2.1.length + r.length ≤ osCap p →
    ∃ t, Completes e.1 s t ∧ OnlyProc p s t ∧ (t.proc p).os = e.2.2.2.2.1 ++ r ∧ (t.proc p).rs = (s.proc p).rs ∧
      (t.proc p).status = (s.proc p).status ∧ (t.proc p).pc = e.2.2.2.2.2

section Rows
variable {p : Nat} {s : State} {r : List Nat} {i : Instr} {op form imm : Nat} {ins outs : List Nat} {pc' : Nat}

/-- A command that puts its processor with new cells and a new PC. -/
theorem moveHolds_put (f : Cpu → Cpu) (hx : Completes i s (cpuIns p op imm s)) (hop : op ∉ [0x08, 0x09, 0x44, 0x46, 0x0A, 0x45, 0x5B])
    (hisa : (isaHas p op && decide (op < 0xF0)) = true) (hact : ∀ pc t, insAct p op imm pc t = t.setProc p (f (t.proc p)))
    (hf : ∀ c : Cpu, c.os = ins ++ r → c.pc = cpuNext p form s → outs.length + r.length ≤ osCap p →
      f c = { c with os := outs ++ r, pc := pc' }) :
    MoveHolds p s r (i, op, form, ins, outs, pc') := by
  intro hready hos hlen
  rw [Bool.and_eq_true, decide_eq_true_eq] at hisa
  have hput := hact (s.proc p).pc (advanced p form s)
  rw [advanced_proc] at hput
  obtain ⟨t, ht, hrest⟩ := (poised_of_ready hready).puts (preTrap_none hop) hisa.1 hisa.2 hput
    ((hf { s.proc p with pc := cpuNext p form s } hos rfl hlen).trans (rfl : _ = movedTo (s.proc p) (outs ++ r) (s.proc p).rs (s.proc p).status pc'))
  exact ⟨t, hx.of_eq ht, hrest⟩

theorem moveHolds_nop (hx : Completes i s (cpuIns p 0x00 0 s)) : MoveHolds p s r (i, 0x00, 0, [], [], cpuNext p 0 s) := by
  intro hready hos _
  obtain ⟨t, ht, hrest⟩ := (poised_of_ready hready).moves (op := 0x00) (imm := 0) (os := [] ++ r) (preTrap_none (by decide)) rfl (by decide) rfl
    (advanced_only p 0 s) ((advanced_proc p 0 s).trans (by rw [← hos]; rfl))
  exact ⟨t, hx.of_eq ht, hrest⟩

/-- A stack move of known cells. -/
theorem moveHolds_cells {vs : Cpu → List Nat} (hx : Completes i s (cpuIns p op imm s)) (hform : form = 0)
    (hop : op ∉ [0x08, 0x09, 0x44, 0x46, 0x0A, 0x45, 0x5B])
    (hisa : (isaHas p op && decide (op < 0xF0)) = true)
    (hact : ∀ pc t, insAct p op imm pc t = t.setProc p ((t.proc p).replace (osCap p) ins.length (vs (t.proc p))))
    (hvs : ∀ c : Cpu, c.os = ins ++ r → vs c = outs) : MoveHolds p s r (i, op, form, ins, outs, cpuNext p 0 s) := by
  subst hform
  refine moveHolds_put (fun c => c.replace (osCap p) ins.length (vs c)) hx hop hisa hact fun c hos hpc hlen => ?_
  rw [hvs c hos, replace_top hos hlen, ← hpc]

end Rows

section Flow
variable {p : Nat} {s : State} {r : List Nat} {x y : Nat}

theorem moveHolds_lit8 {p : Fin 97} {i : Fin 256} :
    MoveHolds p s r (.lit8 p i, 0x01, 1, [], [if p.val = 96 ∧ 128 ≤ i.val then 65280 + i.val else i.val], cpuNext p 1 s) := by
  refine moveHolds_put (insLit8 p i) rfl (by decide) rfl (fun _ _ => rfl) fun c hos hpc hlen => ?_
  have hos : c.os = r := hos
  rw [List.length_singleton] at hlen
  rw [insLit8_eq i.isLt (by rw [hos]; omega), hos, ← hpc]

theorem moveHolds_lit {p : Fin 97} {v : Fin 65536} :
    MoveHolds p s r (.lit p v, 0x02, 2, [], (if p.val = 96 then [v.val] else [v.val / 256, v.val % 256]), cpuNext p 2 s) := by
  refine moveHolds_put (insLit p v) rfl (by decide) rfl (fun _ _ => rfl) fun c hos hpc hlen => ?_
  have hos : c.os = r := hos
  rw [insLit_eq v.isLt (by rw [hos]; exact hlen), hos, ← hpc]

/-- The target of a branch taken to offset `i`. -/
def branchTo (p i : Nat) (s : State) : Nat :=
  (((cpuNext p 1 s : Int) + (if i < 128 then (i : Int) else (i : Int) - 256)) % ((2 : Int) ^ pcW p)).toNat

theorem moveHolds_br {p : Fin 97} {i : Fin 256} : MoveHolds p s r (.br p i, 0x40, 1, [], [], branchTo p i s) := by
  refine moveHolds_put (fun c => { c with pc := relTarget p i c }) rfl (by decide) rfl (fun _ _ => rfl) fun c hos hpc hlen => ?_
  rw [relTarget_eq i.isLt hpc, ← hos]
  rfl

theorem moveHolds_bz {p : Fin 97} {i : Fin 256} :
    MoveHolds p s r (.bz p i, 0x41, 1, [x], [], if x = 0 then branchTo p i s else cpuNext p 1 s) := by
  refine moveHolds_put (insFlow p 0x41 i) rfl (by decide) rfl (fun _ _ => rfl) fun c hos hpc hlen => ?_
  have hx : c.cell 0 = x := cell_eq hos 0
  show { c.replace (osCap p) 1 [] with pc := if c.cell 0 = 0 then relTarget p i c else c.pc } = _
  rw [hx, relTarget_eq i.isLt hpc, hpc]
  exact congrArg (fun d : Cpu => { d with pc := if x = 0 then branchTo p i s else cpuNext p 1 s }) (replace_top hos hlen)

theorem moveHolds_bnz {p : Fin 97} {i : Fin 256} :
    MoveHolds p s r (.bnz p i, 0x42, 1, [x], [], if x ≠ 0 then branchTo p i s else cpuNext p 1 s) := by
  refine moveHolds_put (insFlow p 0x42 i) rfl (by decide) rfl (fun _ _ => rfl) fun c hos hpc hlen => ?_
  have hx : c.cell 0 = x := cell_eq hos 0
  show { c.replace (osCap p) 1 [] with pc := if c.cell 0 ≠ 0 then relTarget p i c else c.pc } = _
  rw [hx, relTarget_eq i.isLt hpc, hpc]
  exact congrArg (fun d : Cpu => { d with pc := if x ≠ 0 then branchTo p i s else cpuNext p 1 s }) (replace_top hos hlen)

/-- The target of a jump or call to `v`, and that of one to the address on the stack. -/
def jumpTo (p v : Nat) (s : State) : Nat := if p = 96 then cpuNext p 2 s / 65536 * 65536 + v else v % 4096
def pairTo (p x y : Nat) : Nat := if p = 96 then x % 256 * 65536 + y else (y + 256 * x) % 4096

theorem moveHolds_jmp {p : Fin 97} {v : Fin 65536} : MoveHolds p s r (.jmp p v, 0x43, 2, [], [], jumpTo p v s) := by
  refine moveHolds_put (insFlow p 0x43 v) rfl (by decide) rfl (fun _ _ => rfl) fun c hos hpc hlen => ?_
  show { c with pc := absTarget p v c } = _
  rw [absTarget_eq v.isLt hpc, ← hos]
  rfl

theorem moveHolds_jmps {p : Fin 97} : MoveHolds p s r (.jmps p, 0x48, 0, [x, y], [], pairTo p x y) := by
  refine moveHolds_put (insFlow p 0x48 0) rfl (by decide) rfl (fun _ _ => rfl) fun c hos hpc hlen => ?_
  show { c.replace (osCap p) 2 [] with pc := pairTarget p c } = _
  rw [pairTarget_eq hos]
  exact congrArg (fun d : Cpu => { d with pc := pairTo p x y }) (replace_top hos hlen)

end Flow

/-! ### The return stack -/

section Return
variable {p : Nat} {s : State} {r : List Nat} {x y a ie : Nat} {l : List (Nat × Nat)}

theorem pick_moves {i : Nat} (hready : CpuReady p 0x08 1 s) (hfull : (s.proc p).os.length < osCap p) (h : i < (s.proc p).os.length) :
    ∃ t, cpuIns p 0x08 i s = t ∧ OnlyProc p s t ∧ (t.proc p).os = (s.proc p).os[i] :: (s.proc p).os ∧ (t.proc p).pc = cpuNext p 1 s := by
  have hpre : preTrap s p 0x08 i = none := by
    unfold preTrap
    dsimp only
    rw [if_neg (by omega), if_neg (by omega), if_neg (by omega)]
  let c : Cpu := { s.proc p with pc := cpuNext p 1 s }
  have hcell : c.cell i = (s.proc p).os[i] := by
    rw [cell_eq (c := c) rfl]
    exact (List.getElem_eq_getD 0).symm
  have hmove : insMove p 0x08 i c = movedTo (s.proc p) ((s.proc p).os[i] :: (s.proc p).os) (s.proc p).rs (s.proc p).status (cpuNext p 1 s) := by
    show c.replace (osCap p) 0 [c.cell i] = _
    rw [hcell]
    exact replace_push c rfl hfull
  have hact : insAct p 0x08 i (s.proc p).pc (advanced p 1 s) = (advanced p 1 s).setProc p (insMove p 0x08 i ((advanced p 1 s).proc p)) := rfl
  rw [advanced_proc] at hact
  obtain ⟨t, ht, honly, hos, -, -, hpc⟩ := (poised_of_ready hready).puts hpre rfl (by decide) hact hmove
  exact ⟨t, ht, honly, hos, hpc⟩

theorem tor_moves (hready : CpuReady p 0x09 0 s) (hos : (s.proc p).os = x :: r) (hrs : (s.proc p).rs.length < rsCap p) :
    ∃ t, cpuIns p 0x09 0 s = t ∧ OnlyProc p s t ∧ (t.proc p).os = r ∧ (t.proc p).rs = (x, 0) :: (s.proc p).rs ∧
      (t.proc p).pc = cpuNext p 0 s := by
  have h := poised_of_ready hready
  have hlen := h.fits
  rw [hos, List.length_cons] at hlen
  let c : Cpu := { s.proc p with pc := cpuNext p 0 s }
  have hc : c.os = [x] ++ r := hos
  have hret (any : Nat) : insRet p 0x09 any c = movedTo (s.proc p) r ((x, 0) :: (s.proc p).rs) (s.proc p).status (cpuNext p 0 s) := by
    show (c.replace (osCap p) [x].length []).rsPush (rsCap p) (c.cell 0, 0) = _
    rw [replace_top hc (by rw [List.length_nil]; omega), cell_eq hc]
    exact rsPush_of_lt _ hrs
  have hact : insAct p 0x09 0 (s.proc p).pc (advanced p 0 s) =
      ((advanced p 0 s).setProc p (insRet p 0x09 ((advanced p 0 s).free .unstated) ((advanced p 0 s).proc p))).freeNext := rfl
  rw [advanced_proc, hret] at hact
  obtain ⟨t, ht, honly, h1, h2, -, h3⟩ := h.moves (preTrap_push (.inl rfl) (not_rsFull hrs)) rfl (by decide) hact
    ((advanced_only p 0 s).setProc _).freeNext (proc_setProc_same ..)
  exact ⟨t, ht, honly, h1, h2, h3⟩

theorem fromr_moves (hrs : (s.proc p).rs = (a, ie) :: l) (hready : CpuReady p 0x0A 0 s) (hfull : (s.proc p).os.length < osCap p) :
    ∃ t, cpuIns p 0x0A 0 s = t ∧ OnlyProc p s t ∧ (t.proc p).os = a % 2 ^ cellW p :: (s.proc p).os ∧ (t.proc p).rs = l ∧
      (t.proc p).pc = cpuNext p 0 s := by
  let c : Cpu := { s.proc p with pc := cpuNext p 0 s }
  have hc : c.rs = (a, ie) :: l := hrs
  have hret (any : Nat) : insRet p 0x0A any c =
      movedTo (s.proc p) (a % 2 ^ cellW p :: (s.proc p).os) l (s.proc p).status (cpuNext p 0 s) := by
    show { c.replace (osCap p) 0 [(topEntry c).1 % 2 ^ cellW p] with rs := c.rs.drop 1 } = _
    have htop : topEntry c = (a, ie) := by
      unfold topEntry
      rw [hc]
      rfl
    rw [htop, hc]
    exact congrArg (fun d : Cpu => { d with rs := l }) (replace_push c rfl hfull)
  have hact : insAct p 0x0A 0 (s.proc p).pc (advanced p 0 s) =
      ((advanced p 0 s).setProc p (insRet p 0x0A ((advanced p 0 s).free .unstated) ((advanced p 0 s).proc p))).freeNext := rfl
  rw [advanced_proc, hret] at hact
  obtain ⟨t, ht, honly, h1, h2, -, h3⟩ := (poised_of_ready hready).moves (preTrap_pop (.inl rfl) (by rw [hrs]; exact List.cons_ne_nil _ _)) rfl
    (by decide) hact ((advanced_only p 0 s).setProc _).freeNext (proc_setProc_same ..)
  exact ⟨t, ht, honly, h1, h2, h3⟩

theorem rfetch_moves (hrs : (s.proc p).rs = (a, ie) :: l) (hready : CpuReady p 0x0B 0 s) (hfull : (s.proc p).os.length < osCap p) :
    ∃ t, cpuIns p 0x0B 0 s = t ∧ OnlyProc p s t ∧ (t.proc p).os = a % 2 ^ cellW p :: (s.proc p).os ∧ (t.proc p).rs = (s.proc p).rs ∧
      (t.proc p).pc = cpuNext p 0 s := by
  let c : Cpu := { s.proc p with pc := cpuNext p 0 s }
  have hc : c.rs = (a, ie) :: l := hrs
  have hret (any : Nat) : insRet p 0x0B any c =
      movedTo (s.proc p) (a % 2 ^ cellW p :: (s.proc p).os) (s.proc p).rs (s.proc p).status (cpuNext p 0 s) := by
    have hcell : (if c.rs.isEmpty then any % 2 ^ cellW p else (topEntry c).1 % 2 ^ cellW p) = a % 2 ^ cellW p := by
      unfold topEntry
      rw [hc]
      rfl
    show c.replace (osCap p) 0 [if c.rs.isEmpty then any % 2 ^ cellW p else (topEntry c).1 % 2 ^ cellW p] = _
    rw [hcell]
    exact replace_push c rfl hfull
  have hact : insAct p 0x0B 0 (s.proc p).pc (advanced p 0 s) =
      ((advanced p 0 s).setProc p (insRet p 0x0B ((advanced p 0 s).free .unstated) ((advanced p 0 s).proc p))).freeNext := rfl
  rw [advanced_proc, hret] at hact
  obtain ⟨t, ht, honly, h1, h2, -, h3⟩ := (poised_of_ready hready).moves (preTrap_none (by decide)) rfl (by decide) hact
    ((advanced_only p 0 s).setProc _).freeNext (proc_setProc_same ..)
  exact ⟨t, ht, honly, h1, h2, h3⟩

theorem ret_moves (hrs : (s.proc p).rs = (a, ie) :: l) (hready : CpuReady p 0x45 0 s) :
    ∃ t, cpuIns p 0x45 0 s = t ∧ OnlyProc p s t ∧ (t.proc p).os = (s.proc p).os ∧ (t.proc p).rs = l ∧ (t.proc p).pc = a := by
  let c : Cpu := { s.proc p with pc := cpuNext p 0 s }
  have hc : c.rs = (a, ie) :: l := hrs
  have hflow : insFlow p 0x45 0 c = movedTo (s.proc p) (s.proc p).os l (s.proc p).status a := by
    show { c with pc := (topEntry c).1, rs := c.rs.drop 1 } = _
    unfold topEntry
    rw [hc]
    rfl
  have hact : insAct p 0x45 0 (s.proc p).pc (advanced p 0 s) = (advanced p 0 s).setProc p (insFlow p 0x45 0 ((advanced p 0 s).proc p)) := rfl
  rw [advanced_proc] at hact
  obtain ⟨t, ht, honly, h1, h2, -, h3⟩ := (poised_of_ready hready).puts
    (preTrap_pop (.inr (.inl rfl)) (by rw [hrs]; exact List.cons_ne_nil _ _)) rfl (by decide) hact hflow
  exact ⟨t, ht, honly, h1, h2, h3⟩

/-- What CALL leaves of its processor. -/
theorem insFlow_call {v : Nat} (hv : v < 65536) (c : Cpu) (hpc : c.pc = cpuNext p 2 s) :
    insFlow p 0x44 v c = { c.rsPush (rsCap p) (cpuNext p 2 s % 2 ^ pcW p, 0) with pc := jumpTo p v s } := by
  show { c.rsPush (rsCap p) (c.pc % 2 ^ pcW p, 0) with pc := absTarget p v c } = _
  rw [absTarget_eq hv hpc, hpc]
  rfl

theorem call_act {v : Nat} (hv : v < 65536) : insAct p 0x44 v (s.proc p).pc (advanced p 2 s) = (advanced p 2 s).setProc p
    { ({ s.proc p with pc := cpuNext p 2 s } : Cpu).rsPush (rsCap p) (cpuNext p 2 s % 2 ^ pcW p, 0) with pc := jumpTo p v s } := by
  have hact : insAct p 0x44 v (s.proc p).pc (advanced p 2 s) = (advanced p 2 s).setProc p (insFlow p 0x44 v ((advanced p 2 s).proc p)) := rfl
  rwa [advanced_proc, insFlow_call hv _ rfl] at hact

theorem call_moves {v : Nat} (hv : v < 65536) (hready : CpuReady p 0x44 2 s) (hrs : (s.proc p).rs.length < rsCap p) :
    ∃ t, cpuIns p 0x44 v s = t ∧ OnlyProc p s t ∧ (t.proc p).os = (s.proc p).os ∧ (t.proc p).pc = jumpTo p v s ∧
      (t.proc p).rs = (cpuNext p 2 s % 2 ^ pcW p, 0) :: (s.proc p).rs := by
  have hact := call_act (p := p) (s := s) hv
  rw [rsPush_of_lt (c := { s.proc p with pc := cpuNext p 2 s }) _ hrs] at hact
  obtain ⟨t, ht, honly, h1, h2, -, h3⟩ := (poised_of_ready hready).puts (preTrap_push (.inr (.inl rfl)) (not_rsFull hrs)) rfl (by decide) hact
    (rfl : _ = movedTo (s.proc p) (s.proc p).os ((cpuNext p 2 s % 2 ^ pcW p, 0) :: (s.proc p).rs) (s.proc p).status (jumpTo p v s))
  exact ⟨t, ht, honly, h1, h3, h2⟩

theorem calls_moves (hready : CpuReady p 0x46 0 s) (hos : (s.proc p).os = x :: y :: r) (hrs : (s.proc p).rs.length < rsCap p) :
    ∃ t, cpuIns p 0x46 0 s = t ∧ OnlyProc p s t ∧ (t.proc p).os = r ∧ (t.proc p).pc = pairTo p x y ∧
      (t.proc p).rs = (cpuNext p 0 s % 2 ^ pcW p, 0) :: (s.proc p).rs := by
  have h := poised_of_ready hready
  have hlen := h.fits
  rw [hos, List.length_cons, List.length_cons] at hlen
  let c : Cpu := { s.proc p with pc := cpuNext p 0 s }
  have hc : c.os = [x, y] ++ r := hos
  have hflow : insFlow p 0x46 0 c =
      movedTo (s.proc p) r ((cpuNext p 0 s % 2 ^ pcW p, 0) :: (s.proc p).rs) (s.proc p).status (pairTo p x y) := by
    show { (c.replace (osCap p) [x, y].length []).rsPush (rsCap p) (callEntry p c) with pc := pairTarget p c } = _
    rw [replace_top hc (by rw [List.length_nil]; omega), pairTarget_eq hc]
    exact congrArg (fun d : Cpu => { d with pc := pairTo p x y }) (rsPush_of_lt (c := { c with os := r }) (callEntry p c) hrs)
  have hact : insAct p 0x46 0 (s.proc p).pc (advanced p 0 s) = (advanced p 0 s).setProc p (insFlow p 0x46 0 ((advanced p 0 s).proc p)) := rfl
  rw [advanced_proc] at hact
  obtain ⟨t, ht, honly, h1, h2, -, h3⟩ := h.puts (preTrap_push (.inr (.inr rfl)) (not_rsFull hrs)) rfl (by decide) hact hflow
  exact ⟨t, ht, honly, h1, h3, h2⟩

/-- A call at full depth, with RSWRAP. -/
theorem call_wraps {v : Nat} (hv : v < 65536) (hready : CpuReady p 0x44 2 s) (hrs : rsCap p ≤ (s.proc p).rs.length) (hwrap : rsWrap s p = true) :
    ∃ t, cpuIns p 0x44 v s = t ∧ (t.proc p).rs = (cpuNext p 2 s % 2 ^ pcW p, 0) :: (s.proc p).rs.take (rsCap p - 1) ∧
      (t.proc p).stBit 4 = 1 := by
  have hact := call_act (p := p) (s := s) hv
  rw [rsPush_of_le (c := { s.proc p with pc := cpuNext p 2 s }) _ hrs] at hact
  have hfull : rsFull s p = false := by
    unfold rsFull
    rw [hwrap, Bool.not_true, Bool.and_false]
  obtain ⟨t, ht, -, -, h1, h2, -⟩ := (poised_of_ready hready).puts (preTrap_push (.inr (.inl rfl)) hfull) rfl (by decide) hact
    (rfl : _ = movedTo (s.proc p) (s.proc p).os ((cpuNext p 2 s % 2 ^ pcW p, 0) :: (s.proc p).rs.take (rsCap p - 1))
      ((s.proc p).setSt 4 1).status (jumpTo p v s))
  refine ⟨t, ht, h1, ?_⟩
  unfold Cpu.stBit
  rw [h2]
  exact setSt_stBit (s.proc p) 4 1 4

theorem vjmp_moves {i : Nat} (hready : CpuReady 96 0x47 1 s) :
    ∃ t, cpuIns 96 0x47 i s = t ∧ OnlyProc 96 s t ∧ (t.proc 96).os = (s.proc 96).os ∧
      (t.proc 96).pc = s.num (cvMem (0x20000 + 2 * i)) 2 + 65536 * (s.num (cvMem (0x20000 + 2 * i + 1)) 2 % 256) := by
  have hact : insAct 96 0x47 i (s.proc 96).pc (advanced 96 1 s) =
      (advanced 96 1 s).setProc 96 { (advanced 96 1 s).proc 96 with pc := vectorOf (advanced 96 1 s) i } := rfl
  have hvec : vectorOf (advanced 96 1 s) i =
      s.num (cvMem (0x20000 + 2 * i)) 2 + 65536 * (s.num (cvMem (0x20000 + 2 * i + 1)) 2 % 256) := by
    rw [show 0x20000 + 2 * i + 1 = 0x20001 + 2 * i by omega]
    rfl
  rw [advanced_proc, hvec] at hact
  obtain ⟨t, ht, honly, h1, -, -, h3⟩ := (poised_of_ready hready).puts (preTrap_none (by decide)) rfl (by decide) hact
    (rfl : _ = movedTo (s.proc 96) (s.proc 96).os (s.proc 96).rs (s.proc 96).status _)
  exact ⟨t, ht, honly, h1, h3⟩

/-- A call at full depth, without RSWRAP. -/
theorem call_traps {v : Nat} (hready : CpuReady p 0x44 2 s) (hrs : rsCap p ≤ (s.proc p).rs.length) (hwrap : rsWrap s p = false)
    (h : p ≠ 96 ∨ (s.proc p).stBit 6 = 0) : ∃ t, cpuIns p 0x44 v s = t ∧ Trapped p 3 0 (s.proc p).pc s t := by
  have hpre : preTrap s p 0x44 v = some 3 := by
    unfold preTrap rsFull
    dsimp only
    rw [hwrap, decide_eq_true hrs]
    rfl
  exact ⟨_, (poised_of_ready hready).traps hpre, procTrap_trapped 3 0 _ h⟩

/-- A return with an empty return stack. -/
theorem ret_traps (hready : CpuReady p 0x45 0 s) (hrs : (s.proc p).rs = []) (h : p ≠ 96 ∨ (s.proc p).stBit 6 = 0) :
    ∃ t, cpuIns p 0x45 0 s = t ∧ Trapped p 4 0 (s.proc p).pc s t := by
  have hpre : preTrap s p 0x45 0 = some 4 := by
    unfold preTrap
    dsimp only
    rw [hrs, if_neg (by omega), if_neg (by omega)]
    rfl
  exact ⟨_, (poised_of_ready hready).traps hpre, procTrap_trapped 4 0 _ h⟩

end Return

/-- What a command is carried out as, from what the processor does. -/
theorem completes_of_exists {i : Instr} {s u : State} {P : State → Prop} (hx : Completes i s u) (h : ∃ t, u = t ∧ P t) :
    ∃ t, Completes i s t ∧ P t := by
  obtain ⟨t, ht, hP⟩ := h
  exact ⟨t, hx.of_eq ht, hP⟩

/-- Settles O52: the stack moves and branches row by row, then the return stack. -/
theorem stackMovesAndFlowComplete : Obligations.StackMovesAndFlowComplete := by
  unfold Obligations.StackMovesAndFlowComplete
  intro p i v s r x y z c clv rel abs pair
  have cons {a : MoveRow} {l : List MoveRow} (h1 : MoveHolds p s r a) (h2 : ∀ e ∈ l, MoveHolds p s r e) :
      ∀ e ∈ a :: l, MoveHolds p s r e := List.forall_mem_cons.2 ⟨h1, h2⟩
  have nil : ∀ e ∈ ([] : List MoveRow), MoveHolds p s r e := fun _ h => nomatch h
  have cell {c : Cpu} {os : List Nat} (h : c.os = os) (k : Nat) : c.cell k = os.getD k 0 := cell_eq h k
  refine ⟨?_, fun h hf hi => completes_of_exists rfl (pick_moves h hf hi), fun h hos hrs => completes_of_exists rfl (tor_moves h hos hrs),
    fun a ie l hrs => ⟨fun h hf => completes_of_exists rfl (fromr_moves hrs h hf), fun h hf => completes_of_exists rfl (rfetch_moves hrs h hf),
      fun h => completes_of_exists rfl (ret_moves hrs h)⟩,
    fun hrs => ⟨fun h => completes_of_exists rfl (call_moves v.isLt h hrs), fun h hos => completes_of_exists rfl (calls_moves h hos hrs)⟩,
    fun h => completes_of_exists rfl (vjmp_moves h), fun h hrs hw => completes_of_exists rfl (call_wraps v.isLt h hrs hw),
    fun h hrs hw ht => completes_of_exists rfl (call_traps h hrs hw ht.symm), fun h hrs ht => completes_of_exists rfl (ret_traps h hrs ht.symm)⟩
  exact cons (moveHolds_nop rfl) <| cons moveHolds_lit8 <| cons moveHolds_lit <|
    cons (moveHolds_cells (vs := fun c => [c.cell 0, c.cell 0]) rfl rfl (by decide) rfl (fun _ _ => rfl) fun c h => by rw [cell h]; rfl) <|
    cons (moveHolds_cells (vs := fun _ => []) rfl rfl (by decide) rfl (fun _ _ => rfl) fun _ _ => rfl) <|
    cons (moveHolds_cells (vs := fun c => [c.cell 1, c.cell 0]) rfl rfl (by decide) rfl (fun _ _ => rfl) fun c h => by
      rw [cell h, cell h]; rfl) <|
    cons (moveHolds_cells (vs := fun c => [c.cell 1, c.cell 0, c.cell 1]) rfl rfl (by decide) rfl (fun _ _ => rfl) fun c h => by
      rw [cell h, cell h]; rfl) <|
    cons (moveHolds_cells (vs := fun c => [c.cell 2, c.cell 0, c.cell 1]) rfl rfl (by decide) rfl (fun _ _ => rfl) fun c h => by
      rw [cell h, cell h, cell h]; rfl) <|
    cons moveHolds_br <| cons moveHolds_bz <| cons moveHolds_bnz <| cons moveHolds_jmp <| cons moveHolds_jmps nil

end Sys2Proof.Machine
end

section

/-! SUPPORT. Instructions that end at an idle boundary; loads and stores of Clove and Sumac: O53. -/

namespace Sys2Proof.Machine
open R

/-! ### An idle boundary -/

/-- Nothing waits for processor `p` at its next boundary. -/
structure Idle (p : Nat) (u : State) : Prop where
  halt : (u.proc p).haltReq = false
  step : (u.proc p).stepping = false
  swap : p = clove → u.flag MC_CV_STAT MC_CV_STAT_SWAP_PEND = false
  pres : p = clove → Machine.pres u 48 = 0

theorem boundary_idle {p : Nat} {u : State} (h : Idle p u) : boundary p u = u := by
  unfold boundary
  split
  · rfl
  · have hswap : dispatchSwap p u = u := by
      unfold dispatchSwap
      refine if_neg fun hp => ?_
      rw [h.swap hp.1] at hp
      exact absurd hp.2 (by decide)
    have hacc : ¬ (p = clove ∧ cloveAccepts u = true) := by
      rintro ⟨hp, ha⟩
      unfold cloveAccepts at ha
      rw [h.pres hp] at ha
      simp at ha
    rw [if_neg (by rw [h.halt, h.step]; decide)]
    dsimp only
    rw [hswap, if_neg hacc]

theorem Poised.idle {p op form : Nat} {s : State} (h : Poised p op form s) : Idle p s := ⟨h.halt, h.step, h.swap, h.pres⟩

section Idle
variable {p op form imm : Nat} {s t u : State}

/-- Idleness concerns two flags of the processor, a pending swap and a held presentation. -/
theorem Idle.of_eq (h : Idle p s) (h1 : (u.proc p).haltReq = (s.proc p).haltReq) (h2 : (u.proc p).stepping = (s.proc p).stepping)
    (h3 : p = clove → u.reg MC_CV_STAT = s.reg MC_CV_STAT) (h4 : u.icPres = s.icPres) : Idle p u :=
  ⟨h1.trans h.halt, h2.trans h.step, fun hp => (flag_of_reg_eq (h3 hp) _).trans (h.swap hp),
    fun hp => (pres_of_icPres_eq h4 48).trans (h.pres hp)⟩

theorem Idle.counted (h : Idle p u) (n : Nat) : Idle p (counted p n u) :=
  h.of_eq (by rw [counted_proc]) (by rw [counted_proc]) (fun _ => rfl) rfl

/-- An instruction that ends at an idle boundary only counts its cycles. -/
theorem Poised.acts_idle (h : Poised p op form s) (hpre : preTrap s p op imm = none) (hisa : isaHas p op = true) (hop : op < 0xF0)
    (hact : insAct p op imm (s.proc p).pc (advanced p form s) = u) (hu : Idle p u) : ∃ n, cpuIns p op imm s = Machine.counted p n u := by
  obtain ⟨n, hn⟩ := h.acts hpre hisa hop
  rw [hact, boundary_idle (hu.counted n)] at hn
  exact ⟨n, hn⟩

end Idle

/-! ### Where a data address leads -/

section Data
variable {p : Nat} {s v : State}

/-- The state of a load or store: PC is back at the instruction. -/
def rewound (p form : Nat) (s : State) : State := (advanced p form s).mapProc p (fun c => { c with pc := (s.proc p).pc })

theorem rewound_only (p form : Nat) (s : State) : OnlyProc p s (rewound p form s) := (advanced_only p form s).setProc _

theorem rewound_proc (p form : Nat) (s : State) : (rewound p form s).proc p = s.proc p := by
  have h : (rewound p form s).proc p = { (advanced p form s).proc p with pc := (s.proc p).pc } := proc_setProc_same ..
  rw [h, advanced_proc]

theorem OnlyProc.regs_eq (h : OnlyProc p s v) : v.regs = s.regs := (congrArg State.regs h.1 :)
theorem OnlyProc.mem_eq (h : OnlyProc p s v) : v.mem = s.mem := (congrArg State.mem h.1 :)
theorem OnlyProc.icPres_eq (h : OnlyProc p s v) : v.icPres = s.icPres := (congrArg State.icPres h.1 :)
theorem OnlyProc.idle (h : OnlyProc p s v) (hi : Idle p s) (h1 : (v.proc p).haltReq = (s.proc p).haltReq)
    (h2 : (v.proc p).stepping = (s.proc p).stepping) : Idle p v :=
  hi.of_eq h1 h2 (fun _ => congrFun h.reg_eq _) h.icPres_eq

theorem OnlyProc.trans {t : State} (h1 : OnlyProc p s v) (h2 : OnlyProc p v t) : OnlyProc p s t :=
  ⟨(congrArg (fun u : State => { u with cpu := s.cpu, freeCtr := s.freeCtr }) h2.1 :).trans h1.1,
    fun q hq => (h2.2 q hq).trans (h1.2 q hq)⟩

theorem extRead_cpu (v : State) (c : List (Nat × Cpu)) (n a : Nat) : extRead { v with cpu := c, freeCtr := n } a = extRead v a := rfl

theorem OnlyProc.extRead_eq (h : OnlyProc p s v) (a : Nat) : extRead v a = extRead s a :=
  (extRead_cpu v s.cpu s.freeCtr a).symm.trans (congrArg (extRead · a) h.1)

theorem OnlyProc.extRef_eq (h : OnlyProc p s v) (a : Nat) (w : Bool) : extRef v a w = extRef s a w := by
  unfold extRef
  rw [h.extRead_eq]

theorem OnlyProc.dataRef_eq (h : OnlyProc p s v) (hsp : (v.proc p).sp = (s.proc p).sp) (a : Nat) (w : Bool) :
    dataRef v p a w = dataRef s p a w := by
  unfold dataRef
  by_cases hp : p = clove
  · subst hp
    unfold cvRef
    dsimp only
    rw [if_pos rfl, if_pos rfl, hsp, h.extRef_eq, h.extRef_eq]
  · rw [if_neg hp, if_neg hp]
    unfold suRef pgReg
    rw [hsp]

theorem OnlyProc.num_eq (h : OnlyProc p s v) (a n : Nat) : v.num a n = s.num a n := num_of_mem_eq h.mem_eq a n

/-- The address operand of a load or store. -/
theorem addrOf_eq {a : Nat} (ha : a < 65536) {c : Cpu} {r : List Nat} (h : c.os = addrCells p a ++ r) : addrOf p c = a := by
  unfold addrOf
  unfold addrCells at h
  by_cases hp : p = clove
  · rw [if_pos hp] at h ⊢
    rw [cell_eq h]
    exact Nat.mod_eq_of_lt ha
  · rw [if_neg hp] at h ⊢
    rw [cell_eq h, cell_eq h]
    show a % 256 + 256 * (a / 256 % 256) = a
    omega

theorem addrCells_length (p a : Nat) : (addrCells p a).length = addrLen p := by
  unfold addrCells addrLen
  split <;> rfl

theorem addrLen_pos (p : Nat) : 0 < addrLen p := by
  unfold addrLen
  split <;> decide

theorem proc_of_cpu_eq {u w : State} (h : u.cpu = w.cpu) (p : Nat) : u.proc p = w.proc p := by
  unfold State.proc
  rw [h]

theorem setNum_cpu (u : State) (a n v : Nat) : (u.setNum a n v).cpu = u.cpu := (congrArg State.cpu (setBytes_rest (leBytes n v) u a) :)
theorem setNum_regs (u : State) (a n v : Nat) : (u.setNum a n v).regs = u.regs := (congrArg State.regs (setBytes_rest (leBytes n v) u a) :)
theorem setNum_icPres (u : State) (a n v : Nat) : (u.setNum a n v).icPres = u.icPres :=
  (congrArg State.icPres (setBytes_rest (leBytes n v) u a) :)

/-- The value of a store: the cell below the address. -/
theorem cell_addrLen {a x : Nat} {c : Cpu} {r : List Nat} (h : c.os = addrCells p a ++ x :: r) : c.cell (addrLen p) = x := by
  rw [cell_eq h, ← addrCells_length p a, List.getD_append_right _ _ _ _ (Nat.le_refl _), Nat.sub_self]
  rfl

end Data

/-! ### LD, LDINC, ST and STINC -/

section LoadStore
variable {p : Nat} {s : State} {r : List Nat} {a : Nat}

/-- The cells after a load. -/
theorem ldCells_eq (ha : a < 65536) (inc : Bool) (v : Nat) {c : Cpu} (hos : c.os = addrCells p a ++ r)
    (hl : (if inc then addrLen p else 0) + 1 + r.length ≤ osCap p) :
    ldCells p inc v c = { c with os := (if inc then addrCells p (a + 1) else []) ++ v :: r } := by
  unfold ldCells
  rw [addrOf_eq ha hos, ← addrCells_length p a, replace_top hos, List.append_assoc]
  · rfl
  · cases inc with
    | true => rw [if_pos rfl, List.length_append, addrCells_length]; exact hl
    | false => exact hl

/-- The cells after a store. -/
theorem stCells_eq (ha : a < 65536) (inc : Bool) {x : Nat} {c : Cpu} (hos : c.os = addrCells p a ++ x :: r)
    (hl : addrLen p + r.length ≤ osCap p) :
    stCells p inc c = { c with os := (if inc then addrCells p (a + 1) else []) ++ r } := by
  have hsplit : c.os = (addrCells p a ++ [x]) ++ r := by rw [hos, List.append_assoc]; rfl
  have hlen : addrLen p + 1 = (addrCells p a ++ [x]).length := by rw [List.length_append, addrCells_length]; rfl
  unfold stCells
  rw [addrOf_eq ha hos, hlen, replace_top hsplit]
  cases inc with
  | true => rw [if_pos rfl, addrCells_length]; exact hl
  | false => exact Nat.le_trans (Nat.add_le_add_right (Nat.zero_le _) _) hl

/-- What a read gives at once, or the access that it starts. -/
theorem readStart_ram {m : Nat} (h : dataRef s p a false = .ram m) : readStart s p a = .val (s.num m (partBytes p)) := by
  unfold readStart
  rw [h]

theorem readStart_fabric {f : Nat} (h : dataRef s p a false = .fabric f) (hl : latched p (s.proc p) f = none) :
    readStart s p a = .issue (f / 4 * 4) (partOf p f) := by
  unfold readStart
  rw [h]
  dsimp only
  rw [hl]

theorem writeStart_ram {m : Nat} (h : dataRef s p a true = .ram m) (v : Nat) : writeStart s p a v = .done (s.setNum m (partBytes p) v) := by
  unfold writeStart
  rw [h]

theorem insLoad_val {op pc next v : Nat} {inc : Bool} (h : readStart s p (addrOf p (s.proc p)) = .val v) :
    insLoad p op inc pc next s = s.setProc p { ldCells p inc v (s.proc p) with pc := next } := by
  unfold insLoad
  dsimp only
  rw [h]

theorem insLoad_issue {op pc next w part : Nat} {inc : Bool} (h : readStart s p (addrOf p (s.proc p)) = .issue w part) :
    insLoad p op inc pc next s =
      winIssue p { write := false, addr := w, data := 0, part := part, use := if inc then .ldInc else .ld, next := next } s := by
  unfold insLoad
  dsimp only
  rw [h]

theorem insStore_done {pc next : Nat} {inc : Bool} {s1 : State}
    (h : writeStart s p (addrOf p (s.proc p)) ((s.proc p).cell (addrLen p)) = .done s1) :
    insStore p inc pc next s = s1.mapProc p (fun c => { stCells p inc c with pc := next }) := by
  unfold insStore
  dsimp only
  rw [h]

/-- A load of local memory. -/
theorem load_moves {op : Nat} {inc : Bool} {m : Nat} (hop : op = 0x38 ∧ inc = false ∨ op = 0x3A ∧ inc = true) (ha : a < 65536)
    (href : dataRef s p a false = .ram m) (hos : (s.proc p).os = addrCells p a ++ r) (hready : CpuReady p op 0 s)
    (hl : (if inc then addrLen p else 0) + 1 + r.length ≤ osCap p) :
    ∃ t, cpuIns p op 0 s = t ∧ OnlyProc p s t ∧
      (t.proc p).os = (if inc then addrCells p (a + 1) else []) ++ s.num m (partBytes p) :: r ∧ (t.proc p).pc = cpuNext p 0 s := by
  have hact : insAct p op 0 (s.proc p).pc (advanced p 0 s) =
      insLoad p op inc (s.proc p).pc ((advanced p 0 s).proc p).pc (rewound p 0 s) := by
    rcases hop with ⟨rfl, rfl⟩ | ⟨rfl, rfl⟩ <;> rfl
  have hv := rewound_only p 0 s
  have hc := rewound_proc p 0 s
  have hread : readStart (rewound p 0 s) p (addrOf p ((rewound p 0 s).proc p)) = .val (s.num m (partBytes p)) := by
    rw [hc, addrOf_eq ha hos, ← hv.num_eq]
    exact readStart_ram ((hv.dataRef_eq (by rw [hc]) a false).trans href)
  rw [advanced_proc, insLoad_val hread, hc, ldCells_eq ha inc _ hos hl] at hact
  have hfacts : op ∉ [0x08, 0x09, 0x44, 0x46, 0x0A, 0x45, 0x5B] ∧ isaHas p op = true ∧ op < 0xF0 := by
    rcases hop with ⟨rfl, -⟩ | ⟨rfl, -⟩ <;> exact ⟨by decide, rfl, by decide⟩
  obtain ⟨t, ht, honly, h1, -, -, h2⟩ := (poised_of_ready hready).moves (preTrap_none hfacts.1) hfacts.2.1 hfacts.2.2 hact (hv.setProc _)
    ((proc_setProc_same ..).trans (rfl : _ = movedTo (s.proc p)
      ((if inc then addrCells p (a + 1) else []) ++ s.num m (partBytes p) :: r) (s.proc p).rs (s.proc p).status (cpuNext p 0 s)))
  exact ⟨t, ht, honly, h1, h2⟩

/-- A load through a fabric window begins an access. -/
theorem load_issues {f : Nat} (ha : a < 65536) (href : dataRef s p a false = .fabric f) (hlatch : latched p (s.proc p) f = none)
    (hos : (s.proc p).os = addrCells p a ++ r) (hready : CpuReady p 0x38 0 s) :
    ∃ t, cpuIns p 0x38 0 s = t ∧ ∃ w, OnlyProc p s t ∧ (t.proc p).win = some w ∧ w.write = false ∧ w.addr = f / 4 * 4 ∧
      w.part = partOf p f ∧ w.next = cpuNext p 0 s := by
  have h := poised_of_ready hready
  have hact : insAct p 0x38 0 (s.proc p).pc (advanced p 0 s) =
      insLoad p 0x38 false (s.proc p).pc ((advanced p 0 s).proc p).pc (rewound p 0 s) := rfl
  have hv := rewound_only p 0 s
  have hc := rewound_proc p 0 s
  have hread : readStart (rewound p 0 s) p (addrOf p ((rewound p 0 s).proc p)) = .issue (f / 4 * 4) (partOf p f) := by
    rw [hc, addrOf_eq ha hos]
    exact readStart_fabric ((hv.dataRef_eq (by rw [hc]) a false).trans href) (by rw [hc]; exact hlatch)
  rw [advanced_proc, insLoad_issue hread] at hact
  unfold winIssue State.mapProc at hact
  rw [hc] at hact
  obtain ⟨t, n, ht, honly, hproc⟩ := h.acts_alone (preTrap_none (by decide)) rfl (by decide) hact (hv.setProc _)
    (by rw [proc_setProc_same]) (by rw [proc_setProc_same])
  rw [proc_setProc_same] at hproc
  exact ⟨t, ht, _, honly, (congrArg Cpu.win hproc :), rfl, rfl, rfl, rfl⟩

theorem counted_mem (p n : Nat) (u : State) : (counted p n u).mem = u.mem := rfl

theorem cells_bytes (p : Nat) : 8 * partBytes p = cellW p := by
  unfold partBytes cellW
  split <;> rfl

/-- A store to local memory. -/
theorem store_moves {op : Nat} {m : Nat} (x : BitVec (cellW p)) (hop : op = 0x39 ∨ op = 0x3B) (ha : a < 65536)
    (href : dataRef s p a true = .ram m) (hos : (s.proc p).os = addrCells p a ++ x.toNat :: r) (hready : CpuReady p op 0 s) :
    ∃ t, cpuIns p op 0 s = t ∧ t.num m (partBytes p) = x.toNat ∧
      (t.proc p).os = (if op = 0x39 then r else addrCells p (a + 1) ++ r) ∧
      (t.proc p).pc = cpuNext p 0 s ∧ t.regs = s.regs ∧ ∀ b, b < m ∨ m + partBytes p ≤ b → t.byte b = s.byte b := by
  have h := poised_of_ready hready
  have hlen := h.fits
  rw [hos, List.length_append, addrCells_length, List.length_cons] at hlen
  have hv := rewound_only p 0 s
  have hc := rewound_proc p 0 s
  let v := (rewound p 0 s).setNum m (partBytes p) x.toNat
  have hproc : v.proc p = s.proc p := (proc_of_cpu_eq (setNum_cpu ..) p).trans hc
  have hwrite : writeStart (rewound p 0 s) p (addrOf p ((rewound p 0 s).proc p)) (((rewound p 0 s).proc p).cell (addrLen p)) = .done v := by
    rw [hc, addrOf_eq ha hos, cell_addrLen hos]
    exact writeStart_ram ((hv.dataRef_eq (by rw [hc]) a true).trans href) _
  have hfacts : op ∉ [0x08, 0x09, 0x44, 0x46, 0x0A, 0x45, 0x5B] ∧ isaHas p op = true ∧ op < 0xF0 := by
    rcases hop with rfl | rfl <;> exact ⟨by decide, rfl, by decide⟩
  have hact : insAct p op 0 (s.proc p).pc (advanced p 0 s) =
      v.setProc p { s.proc p with os := if op = 0x39 then r else addrCells p (a + 1) ++ r, pc := cpuNext p 0 s } := by
    have hins : insAct p op 0 (s.proc p).pc (advanced p 0 s) =
        insStore p (decide (op = 0x3B)) (s.proc p).pc ((advanced p 0 s).proc p).pc (rewound p 0 s) := by
      rcases hop with rfl | rfl <;> rfl
    rw [hins, insStore_done hwrite, advanced_proc]
    unfold State.mapProc
    dsimp only
    rw [hproc, stCells_eq ha _ hos (by omega)]
    rcases hop with rfl | rfl <;> rfl
  have hidle : Idle p (v.setProc p { s.proc p with os := if op = 0x39 then r else addrCells p (a + 1) ++ r, pc := cpuNext p 0 s }) :=
    h.idle.of_eq (by rw [proc_setProc_same]) (by rw [proc_setProc_same]) (fun _ => (reg_setBytes ..).trans (congrFun hv.reg_eq _))
      ((setNum_icPres ..).trans hv.icPres_eq)
  obtain ⟨n, hn⟩ := h.acts_idle (preTrap_none hfacts.1) hfacts.2.1 hfacts.2.2 hact hidle
  have hfinal := counted_proc p n (v.setProc p { s.proc p with os := if op = 0x39 then r else addrCells p (a + 1) ++ r, pc := cpuNext p 0 s })
  rw [proc_setProc_same] at hfinal
  refine ⟨_, hn, ?_, by rw [hfinal], by rw [hfinal], (setNum_regs ..).trans hv.regs_eq, fun b hb => ?_⟩
  · have hx : x.toNat < 256 ^ partBytes p := by
      refine Nat.lt_of_lt_of_eq x.isLt ?_
      rw [← cells_bytes, Nat.pow_mul]
    refine (num_of_mem_eq ((counted_mem ..).trans (setProc_mem ..)) _ _).trans ?_
    refine (num_setNum (rewound p 0 s) m (partBytes p) x.toNat).trans (Nat.mod_eq_of_lt hx)
  · refine (byte_of_mem_eq ((counted_mem ..).trans (setProc_mem ..)) _).trans ?_
    refine (byte_setBytes_other _ (rewound p 0 s) m b ?_).trans (byte_of_mem_eq hv.mem_eq b)
    rwa [leBytes_length]

end LoadStore

end Sys2Proof.Machine
end

section

/-! SUPPORT. Special registers, waits, traps and interrupt entry of Clove and Sumac: O53. -/

namespace Sys2Proof.Machine
open R

/-! ### Special registers -/

section Special
variable {p imm : Nat} {s : State} {r : List Nat} {x : Nat}

theorem noteSprRead_rest (p : Nat) (c : Cpu) (n : Nat) : noteSprRead p c n = { c with cycHi := (noteSprRead p c n).cycHi } := by
  unfold noteSprRead
  split <;> rfl

theorem readSpr_pc (p : Nat) (c : Cpu) (n pc : Nat) : readSpr p { c with pc := pc } n = readSpr p c n := rfl

theorem rds_moves (hready : CpuReady p 0x50 1 s) (hfull : (s.proc p).os.length < osCap p) :
    ∃ t, cpuIns p 0x50 imm s = t ∧ OnlyProc p s t ∧ (t.proc p).os = readSpr p (s.proc p) imm % 2 ^ cellW p :: (s.proc p).os ∧
      (t.proc p).pc = cpuNext p 1 s := by
  have hact : insAct p 0x50 imm (s.proc p).pc (advanced p 1 s) = (advanced p 1 s).setProc p (insRds p imm ((advanced p 1 s).proc p)) := rfl
  have hrds : insRds p imm { s.proc p with pc := cpuNext p 1 s } = { s.proc p with
      pc := cpuNext p 1 s, os := readSpr p (s.proc p) imm % 2 ^ cellW p :: (s.proc p).os,
      cycHi := (noteSprRead p { s.proc p with pc := cpuNext p 1 s } imm).cycHi } := by
    unfold insRds
    rw [noteSprRead_rest, readSpr_pc]
    exact replace_push _ rfl hfull
  rw [advanced_proc, hrds] at hact
  obtain ⟨t, n, ht, honly, hproc⟩ := (poised_of_ready hready).acts_alone (preTrap_none (by decide)) rfl (by decide) hact
    ((advanced_only p 1 s).setProc _) (by rw [proc_setProc_same]) (by rw [proc_setProc_same])
  rw [proc_setProc_same] at hproc
  exact ⟨t, ht, honly, by rw [hproc], by rw [hproc]⟩

/-- What a write of a special register leaves. -/
theorem writeSpr_rest (p : Nat) (c : Cpu) (n v : Nat) :
    writeSpr p c n v = { c with status := (writeSpr p c n v).status, spr := (writeSpr p c n v).spr } := by
  unfold writeSpr
  split
  · rfl
  · split <;> rfl

theorem sprW_zero (p : Nat) : sprW p 0 ≠ 0 := by
  unfold sprW
  split <;> decide

theorem writeSpr_status (p : Nat) (c : Cpu) (n v : Nat) :
    (writeSpr p c n v).status = if n = 0 then v % 2 ^ sprW p 0 else c.status := by
  unfold writeSpr
  by_cases hn : n = 0
  · subst hn
    rw [if_neg (sprW_zero p), if_pos rfl, if_pos rfl]
  · rw [if_neg hn, if_neg hn]
    split <;> rfl

theorem writeSpr_sp (p : Nat) (c : Cpu) (n v : Nat) {k : Nat} (hk : 0 < k) :
    (writeSpr p c n v).sp k = if k = n ∧ sprW p k ≠ 0 then v % 2 ^ sprW p k else c.sp k := by
  unfold writeSpr
  by_cases hw : sprW p n = 0
  · rw [if_pos hw, if_neg]
    rintro ⟨rfl, h⟩
    exact h hw
  · rw [if_neg hw]
    by_cases hn : n = 0
    · rw [if_pos hn, if_neg (by omega)]
      rfl
    · rw [if_neg hn]
      by_cases hkn : k = n
      · subst hkn
        rw [if_pos ⟨rfl, hw⟩]
        exact sp_setSp_same ..
      · rw [if_neg (fun h => hkn h.1)]
        exact sp_setSp_other _ _ hkn

theorem wrs_moves (hready : CpuReady p 0x51 1 s) (hos : (s.proc p).os = x :: r) :
    ∃ t, cpuIns p 0x51 imm s = t ∧ OnlyProc p s t ∧ (t.proc p).os = r ∧
      (t.proc p).status = (if imm = 0 then x % 2 ^ sprW p 0 else (s.proc p).status) ∧
      ∀ k, 0 < k → (t.proc p).sp k = if k = imm ∧ sprW p k ≠ 0 then x % 2 ^ sprW p k else (s.proc p).sp k := by
  have h := poised_of_ready hready
  have hlen := h.fits
  rw [hos, List.length_cons] at hlen
  let c : Cpu := { s.proc p with pc := cpuNext p 1 s, os := r }
  have hact : insAct p 0x51 imm (s.proc p).pc (advanced p 1 s) = (advanced p 1 s).setProc p (insWrs p imm ((advanced p 1 s).proc p)) := rfl
  have hwrs : insWrs p imm { s.proc p with pc := cpuNext p 1 s } = writeSpr p c imm x := by
    have hos : ({ s.proc p with pc := cpuNext p 1 s } : Cpu).os = [x] ++ r := hos
    have hrep : ({ s.proc p with pc := cpuNext p 1 s } : Cpu).replace (osCap p) 1 [] = c :=
      replace_top hos (by rw [List.length_nil]; omega)
    unfold insWrs
    rw [hrep, cell_eq hos]
    rfl
  have hrest := writeSpr_rest p c imm x
  rw [advanced_proc, hwrs] at hact
  obtain ⟨t, n, ht, honly, hproc⟩ := h.acts_alone (preTrap_none (by decide)) rfl (by decide) hact
    ((advanced_only p 1 s).setProc _) (by rw [proc_setProc_same, hrest]) (by rw [proc_setProc_same, hrest])
  rw [proc_setProc_same] at hproc
  refine ⟨t, ht, honly, ?_, ?_, fun k hk => ?_⟩
  · rw [hproc, hrest]
  · rw [hproc]
    exact writeSpr_status p c imm x
  · refine (congrArg (Cpu.sp · k) hproc :).trans ?_
    exact writeSpr_sp p c imm x hk

end Special

/-! ### Clove: EI, DI, WAIT, RETI and the entry -/

section Clove
variable {s : State}

theorem ei_moves (hready : CpuReady 96 0x58 0 s) : ∃ t, cpuIns 96 0x58 0 s = t ∧ OnlyProc 96 s t ∧ (t.proc 96).stBit 5 = 1 := by
  have hact : insAct 96 0x58 0 (s.proc 96).pc (advanced 96 0 s) = (advanced 96 0 s).setProc 96 (((advanced 96 0 s).proc 96).setSt 5 1) := rfl
  rw [advanced_proc] at hact
  obtain ⟨t, ht, honly, -, -, hst, -⟩ := (poised_of_ready hready).puts (preTrap_none (by decide)) rfl (by decide) hact
    (rfl : _ = movedTo (s.proc 96) (s.proc 96).os (s.proc 96).rs ((s.proc 96).setSt 5 1).status (cpuNext 96 0 s))
  refine ⟨t, ht, honly, ?_⟩
  unfold Cpu.stBit
  rw [hst]
  exact setSt_stBit (s.proc 96) 5 1 5

theorem di_moves (hready : CpuReady 96 0x59 0 s) : ∃ t, cpuIns 96 0x59 0 s = t ∧ OnlyProc 96 s t ∧ (t.proc 96).stBit 5 = 0 := by
  have hact : insAct 96 0x59 0 (s.proc 96).pc (advanced 96 0 s) = (advanced 96 0 s).setProc 96 (((advanced 96 0 s).proc 96).setSt 5 0) := rfl
  rw [advanced_proc] at hact
  obtain ⟨t, ht, honly, -, -, hst, -⟩ := (poised_of_ready hready).puts (preTrap_none (by decide)) rfl (by decide) hact
    (rfl : _ = movedTo (s.proc 96) (s.proc 96).os (s.proc 96).rs ((s.proc 96).setSt 5 0).status (cpuNext 96 0 s))
  refine ⟨t, ht, honly, ?_⟩
  unfold Cpu.stBit
  rw [hst]
  exact setSt_stBit (s.proc 96) 5 0 5

theorem proc_setFld (s : State) (a v p : Nat) (f : Fld) : (s.setFld a f v).proc p = s.proc p := rfl

/-- The state of a processor after it is set. -/
theorem procSt_setProcSt (s : State) (p : Nat) {v : Nat} (h : v < 8) : procSt (setProcSt s p v) p = v :=
  fld_setFld_of_lt _ _ _ _ (by decide) h

theorem wait_stops (hready : CpuReady 96 0x5A 0 s) :
    ∃ t, cpuIns 96 0x5A 0 s = t ∧ procSt t 96 = 2 ∧ (t.proc 96).pc = cpuNext 96 0 s := by
  have h := poised_of_ready hready
  have hpres : ¬ pres (advanced 96 0 s) 48 ≠ 0 := by
    rw [(advanced_only 96 0 s).pres_eq, h.pres rfl]
    decide
  have hact : insAct 96 0x5A 0 (s.proc 96).pc (advanced 96 0 s) = setProcSt (advanced 96 0 s) 96 2 := by
    have hins : insAct 96 0x5A 0 (s.proc 96).pc (advanced 96 0 s) =
        if pres (advanced 96 0 s) 48 ≠ 0 then advanced 96 0 s else setProcSt (advanced 96 0 s) 96 2 := rfl
    rw [hins, if_neg hpres]
  have hproc : (setProcSt (advanced 96 0 s) 96 2).proc 96 = { s.proc 96 with pc := cpuNext 96 0 s } := advanced_proc 96 0 s
  have hidle : Idle 96 (setProcSt (advanced 96 0 s) 96 2) := h.idle.of_eq (by rw [hproc]) (by rw [hproc])
    (fun _ => (reg_setFld_other _ _ _ _ _ (by decide)).trans (congrFun (advanced_only 96 0 s).reg_eq _))
    ((setFld_icPres ..).trans (advanced_only 96 0 s).icPres_eq)
  obtain ⟨n, hn⟩ := h.acts_idle (preTrap_none (by decide)) rfl (by decide) hact hidle
  have hfinal := counted_proc 96 n (setProcSt (advanced 96 0 s) 96 2)
  rw [hproc] at hfinal
  exact ⟨_, hn, procSt_setProcSt (advanced 96 0 s) 96 (by decide), by rw [hfinal]⟩

theorem reti_moves {adr ie : Nat} {l : List (Nat × Nat)} (hrs : (s.proc 96).rs = (adr, ie) :: l) (hready : CpuReady 96 0x5B 0 s) :
    ∃ t, cpuIns 96 0x5B 0 s = t ∧ OnlyProc 96 s t ∧ (t.proc 96).pc = adr ∧ (t.proc 96).rs = l ∧ (t.proc 96).stBit 5 = ie % 2 := by
  let c : Cpu := { s.proc 96 with pc := cpuNext 96 0 s }
  have hact : insAct 96 0x5B 0 (s.proc 96).pc (advanced 96 0 s) = (advanced 96 0 s).setProc 96
      { ((advanced 96 0 s).proc 96).setSt 5 (topEntry ((advanced 96 0 s).proc 96)).2 with
        pc := (topEntry ((advanced 96 0 s).proc 96)).1, rs := ((advanced 96 0 s).proc 96).rs.drop 1 } := rfl
  have hc : c.rs = (adr, ie) :: l := hrs
  have htop : topEntry c = (adr, ie) := by
    unfold topEntry
    rw [hc]
    rfl
  have hmove : ({ c.setSt 5 (topEntry c).2 with pc := (topEntry c).1, rs := c.rs.drop 1 } : Cpu) =
      movedTo (s.proc 96) (s.proc 96).os l ((s.proc 96).setSt 5 ie).status adr := by
    rw [htop, hc]
    rfl
  rw [advanced_proc] at hact
  obtain ⟨t, ht, honly, -, h1, hst, h2⟩ := (poised_of_ready hready).puts
    (preTrap_pop (.inr (.inr rfl)) (by rw [hrs]; exact List.cons_ne_nil _ _)) rfl (by decide) hact hmove
  refine ⟨t, ht, honly, h2, h1, ?_⟩
  unfold Cpu.stBit
  rw [hst]
  exact setSt_stBit (s.proc 96) 5 ie 5

theorem entry_moves (hacc : cloveAccepts s = true) (hrs : (s.proc 96).rs.length < 32) :
    ∃ t, doCloveInterruptEntry s = t ∧ OnlyProc 96 s t ∧ (t.proc 96).rs = ((s.proc 96).pc, 1) :: (s.proc 96).rs ∧
      (t.proc 96).stBit 5 = 0 ∧ (t.proc 96).pc = (s.proc 96).sp 7 + 65536 * (s.proc 96).sp 8 := by
  have hie : (s.proc 96).stBit 5 = 1 := by
    unfold cloveAccepts at hacc
    simp only [Bool.and_eq_true, decide_eq_true_eq] at hacc
    exact hacc.1.2
  have hfull : rsFull s clove = false := not_rsFull hrs
  have hentry : doCloveInterruptEntry s = s.setProc 96
      { (({ s.proc 96 with rs := ((s.proc 96).pc, 1) :: (s.proc 96).rs } : Cpu).setSt 5 0) with
        pc := (s.proc 96).sp 7 + 65536 * (s.proc 96).sp 8 } := by
    have hpush := rsPush_of_lt (c := s.proc 96) ((s.proc 96).pc, (s.proc 96).stBit 5) hrs
    rw [hie] at hpush
    unfold doCloveInterruptEntry cloveEntry
    rw [if_pos hacc]
    dsimp only
    rw [hfull, if_neg (by decide), show s.proc clove = s.proc 96 from rfl, hie, hpush]
    rfl
  have hproc := congrArg (State.proc · 96) hentry
  dsimp only at hproc
  rw [proc_setProc_same] at hproc
  refine ⟨_, rfl, ?_, by rw [hproc]; rfl, ?_, by rw [hproc]⟩
  · rw [hentry]
    exact (onlyProc_refl 96 s).setProc _
  · rw [hproc]
    exact setSt_stBit _ 5 0 5

end Clove

/-! ### Sumac: WAITEV and SIG -/

section Sumac
variable {q imm : Nat} {s : State}

/-- WAITEV of a Sumac processor. -/
theorem waitev_act (hq : q ≠ 96) (pc : Nat) (t : State) :
    insAct q 0x5A imm pc t = evWake q (setProcSt (t.mapProc q (fun c => { c with waitEv := some imm })) q 2) := by
  have hins : insAct q 0x5A imm pc t = insWait q imm t := rfl
  rw [hins]
  exact if_neg hq

/-- The processor that waits for events. -/
def waitsFor (q imm : Nat) (s : State) : State := setProcSt ((advanced q 1 s).mapProc q (fun c => { c with waitEv := some imm })) q 2

theorem waitsFor_proc (q imm : Nat) (s : State) :
    (waitsFor q imm s).proc q = { s.proc q with pc := cpuNext q 1 s, waitEv := some imm } := by
  have h : (waitsFor q imm s).proc q = { (advanced q 1 s).proc q with waitEv := some imm } :=
    (proc_setFld ..).trans (proc_setProc_same ..)
  rw [h, advanced_proc]

theorem waitev_waits (hq : q ≠ 96) (hready : CpuReady q 0x5A 1 s) (hev : evMatch (s.proc q) imm = 0) :
    ∃ t, cpuIns q 0x5A imm s = t ∧ procSt t q = 2 ∧ (t.proc q).waitEv = some imm := by
  have h := poised_of_ready hready
  have hproc := waitsFor_proc q imm s
  have hact : insAct q 0x5A imm (s.proc q).pc (advanced q 1 s) = waitsFor q imm s := by
    refine (waitev_act hq _ _).trans ?_
    show evWake q (waitsFor q imm s) = _
    unfold evWake
    rw [hproc]
    exact if_pos hev
  have hidle : Idle q (waitsFor q imm s) := h.idle.of_eq (by rw [hproc]) (by rw [hproc]) (fun e => absurd e hq) rfl
  obtain ⟨n, hn⟩ := h.acts_idle (preTrap_none (by decide)) rfl (by decide) hact hidle
  have hfinal := counted_proc q n (waitsFor q imm s)
  rw [hproc] at hfinal
  exact ⟨_, hn, procSt_setProcSt ((advanced q 1 s).mapProc q _) q (by decide), by rw [hfinal]⟩

theorem waitev_passes (hq : q ≠ 96) (hready : CpuReady q 0x5A 1 s) (hev : evMatch (s.proc q) imm ≠ 0) (hfull : (s.proc q).os.length < 16) :
    ∃ t, cpuIns q 0x5A imm s = t ∧ procSt t q = 1 ∧ (t.proc q).os = evMatch (s.proc q) imm :: (s.proc q).os ∧
      (t.proc q).sp 12 = (s.proc q).sp 12 - evMatch (s.proc q) imm := by
  have h := poised_of_ready hready
  have hproc := waitsFor_proc q imm s
  let c : Cpu := { s.proc q with pc := cpuNext q 1 s, waitEv := some imm }
  let v := evMatch (s.proc q) imm
  let c' : Cpu := { (({ c with os := v :: (s.proc q).os } : Cpu).setSp 12 ((s.proc q).sp 12 - v)) with waitEv := none }
  have hc' : (setProcSt ((waitsFor q imm s).setProc q c') q 1).proc q = c' := (proc_setFld ..).trans (proc_setProc_same ..)
  have hwoken : Idle q (setProcSt ((waitsFor q imm s).setProc q c') q 1) := by
    exact h.idle.of_eq (by rw [hc']; rfl) (by rw [hc']; rfl) (fun e => absurd e hq) rfl
  have hact : insAct q 0x5A imm (s.proc q).pc (advanced q 1 s) = setProcSt ((waitsFor q imm s).setProc q c') q 1 := by
    refine (waitev_act hq _ _).trans ?_
    show evWake q (waitsFor q imm s) = _
    have hmatch : evMatch c imm = v := rfl
    have hpush : c.replace 16 0 [v] = { c with os := v :: (s.proc q).os } := replace_push c rfl hfull
    unfold evWake
    rw [hproc]
    dsimp only
    rw [hmatch, if_neg hev, hpush]
    exact boundary_idle hwoken
  obtain ⟨n, hn⟩ := h.acts_idle (preTrap_none (by decide)) rfl (by decide) hact hwoken
  have hfinal := counted_proc q n (setProcSt ((waitsFor q imm s).setProc q c') q 1)
  rw [hc'] at hfinal
  refine ⟨_, hn, procSt_setProcSt ((waitsFor q imm s).setProc q c') q (by decide), by rw [hfinal]; rfl, ?_⟩
  refine (congrArg (Cpu.sp · 12) hfinal :).trans ?_
  exact sp_setSp_same ..

theorem sig_moves (hq : q ≠ 96) (hready : CpuReady q 0x5C 0 s) :
    ∃ t, cpuIns q 0x5C 0 s = t ∧ t.fld (SU_c_p_STAT (q / 8) (q % 8)) SU_c_p_STAT_SIG = 1 ∧ (t.proc q).pc = cpuNext q 0 s := by
  have h := poised_of_ready hready
  have hisa : isaHas q 0x5C = true := by
    unfold isaHas
    rw [if_neg (show ¬ q = clove from hq)]
    rfl
  have hact : insAct q 0x5C 0 (s.proc q).pc (advanced q 0 s) =
      (advanced q 0 s).setFld (SU_c_p_STAT (q / 8) (q % 8)) SU_c_p_STAT_SIG 1 := rfl
  have hproc : ((advanced q 0 s).setFld (SU_c_p_STAT (q / 8) (q % 8)) SU_c_p_STAT_SIG 1).proc q =
      { s.proc q with pc := cpuNext q 0 s } := (proc_setFld ..).trans (advanced_proc q 0 s)
  have hidle : Idle q ((advanced q 0 s).setFld (SU_c_p_STAT (q / 8) (q % 8)) SU_c_p_STAT_SIG 1) :=
    h.idle.of_eq (by rw [hproc]) (by rw [hproc]) (fun e => absurd e hq) rfl
  obtain ⟨n, hn⟩ := h.acts_idle (preTrap_none (by decide)) hisa (by decide) hact hidle
  have hfinal := counted_proc q n ((advanced q 0 s).setFld (SU_c_p_STAT (q / 8) (q % 8)) SU_c_p_STAT_SIG 1)
  rw [hproc] at hfinal
  exact ⟨_, hn, fld_setFld_of_lt (advanced q 0 s) _ _ _ (by decide) (by decide), by rw [hfinal]⟩

end Sumac

/-! ### Traps -/

section Traps
variable {p op form imm code arg pc : Nat} {s v t : State}

theorem Trapped.of_proc (h : Trapped p code arg pc v t) (hos : (v.proc p).os = (s.proc p).os) (hrs : (v.proc p).rs = (s.proc p).rs)
    (hsp : (v.proc p).sp = (s.proc p).sp) : Trapped p code arg pc s t := by
  unfold Trapped at h ⊢
  rwa [hos, hrs, hsp] at h

theorem Trapped.counted (h : Trapped p code arg pc s t) (n : Nat) : Trapped p code arg pc s (Machine.counted p n t) := by
  have hproc := counted_proc p n t
  have hreg (a : Nat) : (Machine.counted p n t).reg a = t.reg a := rfl
  have hst : procSt (Machine.counted p n t) p = procSt t p := rfl
  unfold Trapped Cpu.stBit Cpu.sp at h ⊢
  rwa [hproc, hreg, hreg, hst]

/-- What a trap keeps of its processor. -/
theorem procTrap_keeps (h : p ≠ 96 ∨ (v.proc p).stBit 6 = 0) :
    ((procTrap p code arg pc v).proc p).haltReq = (v.proc p).haltReq ∧
    (((procTrap p code arg pc v).proc p).stepping = (v.proc p).stepping ∨ ((procTrap p code arg pc v).proc p).stepping = false) ∧
    ∀ i, i ≠ 5 → i ≠ 6 → ((procTrap p code arg pc v).proc p).stBit i = (v.proc p).stBit i := by
  unfold procTrap
  by_cases hp : p = 96
  · subst hp
    rw [if_pos (show (96 : Nat) = clove from rfl)]
    have h6 : (v.proc clove).stBit 6 = 0 := h.resolve_left (not_not.2 rfl)
    unfold cloveTrap
    dsimp only
    rw [if_neg (by rw [h6]; decide)]
    generalize (Config.trapCause code ((v.proc clove).stBit 5) arg).toNat = w
    have hproc (u : State) (a n : Nat) (f : Fld) (b : Nat) (x : Word) : ((u.setReg b x).setFld a f n).proc clove = u.proc clove := rfl
    unfold setProcSt
    rw [show (96 : Nat) = clove from rfl, hproc, proc_setProc_same]
    refine ⟨rfl, .inl rfl, fun i h5 h6 => ?_⟩
    refine (setSt_stBit _ 6 1 i).trans ?_
    rw [if_neg h6]
    refine (setSt_stBit _ 5 0 i).trans ?_
    rw [if_neg h5]
    rfl
  · rw [if_neg (show ¬ p = clove from hp)]
    have hproc : (sumacTrap p code arg pc v).proc p =
        { v.proc p with pc := pc, win := none, u := none, waitEv := none, stepping := false } := proc_setProc_same ..
    rw [hproc]
    exact ⟨rfl, .inr rfl, fun _ _ _ => rfl⟩

theorem procTrap_idle (hv : Idle p v) (h : p ≠ 96 ∨ (v.proc p).stBit 6 = 0) : Idle p (procTrap p code arg pc v) := by
  obtain ⟨h1, h2, -⟩ := procTrap_keeps (code := code) (arg := arg) (pc := pc) h
  have hreg : p = clove → (procTrap p code arg pc v).reg MC_CV_STAT = v.reg MC_CV_STAT ∧ (procTrap p code arg pc v).icPres = v.icPres := by
    intro hp
    unfold procTrap
    rw [if_pos hp]
    have h6 : (v.proc clove).stBit 6 = 0 := hp ▸ h.resolve_left (not_not.2 hp)
    unfold cloveTrap
    dsimp only
    rw [if_neg (by rw [h6]; decide)]
    exact ⟨(reg_setFld_other _ _ _ _ _ (by decide)).trans (reg_setReg_other _ _ _ _ (by decide)), rfl⟩
  refine ⟨h1.trans hv.halt, ?_, fun hp => ?_, fun hp => ?_⟩
  · rcases h2 with h2 | h2
    · exact h2.trans hv.step
    · exact h2
  · exact (flag_of_reg_eq (hreg hp).1 _).trans (hv.swap hp)
  · exact (pres_of_icPres_eq (hreg hp).2 48).trans (hv.pres hp)

/-- An instruction that acts as a trap. -/
theorem Poised.acts_trap (h : Poised p op form s) (hpre : preTrap s p op imm = none) (hisa : isaHas p op = true) (hop : op < 0xF0)
    (hact : insAct p op imm (s.proc p).pc (advanced p form s) = procTrap p code arg pc v) (hv : Idle p v)
    (h6 : p ≠ 96 ∨ (v.proc p).stBit 6 = 0) : ∃ n, cpuIns p op imm s = Machine.counted p n (procTrap p code arg pc v) ∧
      Trapped p code arg pc v (Machine.counted p n (procTrap p code arg pc v)) := by
  obtain ⟨n, hn⟩ := h.acts_idle hpre hisa hop hact (procTrap_idle hv h6)
  exact ⟨n, hn, (procTrap_trapped code arg pc h6).counted n⟩

theorem brk_halts (hready : CpuReady p 0x5D 0 s) (hheld : dbgHeld s p = true) :
    ∃ t, cpuIns p 0x5D 0 s = t ∧ procSt t p = 3 ∧ (t.proc p).os = (s.proc p).os := by
  have h := poised_of_ready hready
  have hheld : dbgHeld (advanced p 0 s) p = true := hheld
  let u := setProcSt ((advanced p 0 s).mapProc p (fun c => { c with haltReq := false, stepping := false })) p 3
  have hact : insAct p 0x5D 0 (s.proc p).pc (advanced p 0 s) = u := if_pos hheld
  have hproc : u.proc p = { s.proc p with pc := cpuNext p 0 s, haltReq := false, stepping := false } := by
    refine (proc_setFld ..).trans ((proc_setProc_same ..).trans ?_)
    rw [advanced_proc]
  have hidle : Idle p u := h.idle.of_eq (by rw [hproc, h.halt]) (by rw [hproc, h.step])
    (fun hp => reg_setFld_other _ _ _ _ _ (by rw [hp]; decide)) rfl
  obtain ⟨n, hn⟩ := h.acts_idle (preTrap_none (by decide)) rfl (by decide) hact hidle
  have hfinal := counted_proc p n u
  rw [hproc] at hfinal
  exact ⟨_, hn, procSt_setProcSt ((advanced p 0 s).mapProc p _) p (by decide), by rw [hfinal]⟩

theorem brk_traps (h6 : p ≠ 96 ∨ (s.proc p).stBit 6 = 0) (hready : CpuReady p 0x5D 0 s) (hheld : dbgHeld s p = false) :
    ∃ t, cpuIns p 0x5D 0 s = t ∧ Trapped p 10 0 (s.proc p).pc s t := by
  have h := poised_of_ready hready
  have hheld : ¬ dbgHeld (advanced p 0 s) p = true := fun e => absurd (hheld.symm.trans e) (by decide)
  have hc := rewound_proc p 0 s
  have hact : insAct p 0x5D 0 (s.proc p).pc (advanced p 0 s) = procTrap p 10 0 (s.proc p).pc (rewound p 0 s) := if_neg hheld
  obtain ⟨n, hn, ht⟩ := h.acts_trap (preTrap_none (by decide)) rfl (by decide) hact
    ((rewound_only p 0 s).idle h.idle (by rw [hc]) (by rw [hc])) (by rw [hc]; exact h6)
  exact ⟨_, hn, ht.of_proc (by rw [hc]) (by rw [hc]) (by rw [hc])⟩

theorem trap_traps {n : Nat} (hn : n < 256) (h6 : p ≠ 96 ∨ (s.proc p).stBit 6 = 0) (hready : CpuReady p 0x5E 1 s) :
    ∃ t, cpuIns p 0x5E n s = t ∧ Trapped p 7 n (s.proc p).pc s t := by
  have h := poised_of_ready hready
  have hc := advanced_proc p 1 s
  have hact : insAct p 0x5E n (s.proc p).pc (advanced p 1 s) = procTrap p 7 (n % 256) (s.proc p).pc (advanced p 1 s) := rfl
  rw [Nat.mod_eq_of_lt hn] at hact
  obtain ⟨k, hk, ht⟩ := h.acts_trap (preTrap_none (by decide)) rfl (by decide) hact
    ((advanced_only p 1 s).idle h.idle (by rw [hc]) (by rw [hc])) (by rw [hc]; exact h6)
  exact ⟨_, hk, ht.of_proc (by rw [hc]) (by rw [hc]) (by rw [hc]; rfl)⟩

/-- Facts before a dispatch that fails. -/
theorem dispatch_eq (hcan : canDispatch s p = true) (hswap : p = 96 → s.fld MC_CV_STAT MC_CV_STAT_SWAP_PEND = 0) :
    dispatchSwap p s = s ∧ cpuIns p op imm s = insDispatch p op imm s := by
  have hnone : dispatchSwap p s = s := by
    unfold dispatchSwap
    refine if_neg fun hp => ?_
    rw [(flag_eq_false_iff ..).2 (hswap hp.1)] at hp
    exact absurd hp.2 (by decide)
  refine ⟨hnone, ?_⟩
  unfold cpuIns
  rw [hcan, if_pos rfl, hnone]

theorem illegal_traps (h6 : p ≠ 96 ∨ (s.proc p).stBit 6 = 0) (hcan : canDispatch s p = true)
    (hswap : p = 96 → s.fld MC_CV_STAT MC_CV_STAT_SWAP_PEND = 0) (hvalid : dtValid (dtEntry s p op) = false)
    (hparity : parityOk (dtEntry s p op) = true) (hfetch : (fetchAt s p (s.proc p).pc (insLen p (dtForm (dtEntry s p op)))).1 = 0) :
    ∃ t, doIllegalOpcode p op s = t ∧ Trapped p 5 0 (s.proc p).pc s t := by
  obtain ⟨hnone, hins⟩ := dispatch_eq (op := op) (imm := 0) hcan hswap
  have heq : doIllegalOpcode p op s = procTrap p 5 0 (s.proc p).pc s := by
    unfold doIllegalOpcode
    rw [hnone, hvalid, Bool.and_false, if_neg (by decide), hins]
    unfold insDispatch
    dsimp only
    rw [hfetch, hparity, hvalid, if_neg (by decide), if_neg (by decide), if_neg (by decide), if_pos (by decide)]
  exact ⟨_, heq, procTrap_trapped 5 0 _ h6⟩

theorem underflow_traps (h6 : p ≠ 96 ∨ (s.proc p).stBit 6 = 0) (hcan : canDispatch s p = true)
    (hswap : p = 96 → s.fld MC_CV_STAT MC_CV_STAT_SWAP_PEND = 0) (hvalid : dtValid (dtEntry s p op) = true)
    (hparity : parityOk (dtEntry s p op) = true) (hfetch : (fetchAt s p (s.proc p).pc (insLen p (dtForm (dtEntry s p op)))).1 = 0)
    (hlow : (s.proc p).os.length < dtIn (dtEntry s p op)) :
    ∃ t, cpuIns p op imm s = t ∧ Trapped p 2 0 (s.proc p).pc s t := by
  obtain ⟨-, hins⟩ := dispatch_eq (op := op) (imm := imm) hcan hswap
  have heq : cpuIns p op imm s = procTrap p 2 0 (s.proc p).pc s := by
    rw [hins]
    unfold insDispatch
    dsimp only
    rw [hfetch, hparity, hvalid, if_neg (by decide), if_neg (by decide), if_neg (by decide), if_neg (by decide), if_pos hlow]
  exact ⟨_, heq, procTrap_trapped 2 0 _ h6⟩

/-- A division by 0 that traps. -/
theorem div_traps {y : Nat} {r : List Nat} (h6 : p ≠ 96 ∨ (s.proc p).stBit 6 = 0) (hready : CpuReady p 0x20 0 s)
    (hos : (s.proc p).os = 0 :: y :: r) (hdz : (s.proc p).stBit 3 = 1) :
    ∃ t, cpuIns p 0x20 0 s = t ∧ (t.proc p).stBit 2 = 1 ∧ (t.proc p).os.length = r.length + 1 ∧ (p ≠ 96 → procSt t p = 4) ∧
      (p = 96 → (t.proc p).pc = (s.proc p).sp 9 + 65536 * (s.proc p).sp 10) := by
  have h := poised_of_ready hready
  have hlen := h.fits
  rw [hos, List.length_cons, List.length_cons] at hlen
  let c : Cpu := { s.proc p with pc := cpuNext p 0 s }
  have hcos : c.os = [0, y] ++ r := hos
  have hcell : c.cell 0 = 0 ∧ c.cell 1 = y := ⟨cell_eq hcos 0, cell_eq hcos 1⟩
  have hout (k : Nat) : ∃ x, aluOp (cellW p) 0x20 (c.cell 1) (c.cell 0) k = { r := x, c := none, ov := false, dz := true } := by
    rw [hcell.1]
    exact ⟨_, (if_pos rfl : aluDiv (cellW p) false (c.cell 1) 0 = _)⟩
  obtain ⟨x, hx⟩ := hout (c.stBit 0)
  have hins : insAlu p 0x20 c = uFlags { c with os := x :: r } 7 { r := x, c := none, ov := false, dz := true } := by
    unfold insAlu
    dsimp only
    rw [hx]
    exact congrArg (fun d => uFlags d 7 { r := x, c := none, ov := false, dz := true })
      (replace_top (outs := [x]) hcos (by rw [List.length_singleton]; omega))
  have htraps : dzTraps p 0x20 c = true := by
    obtain ⟨x', hx'⟩ := hout 0
    unfold dzTraps
    rw [hx', show c.stBit 3 = 1 from hdz]
    rfl
  let v := (advanced p 0 s).setProc p (insAlu p 0x20 c)
  have hvproc : v.proc p = uFlags { c with os := x :: r } 7 { r := x, c := none, ov := false, dz := true } :=
    (proc_setProc_same ..).trans hins
  have hrest := uFlags_rest { c with os := x :: r } 7 { r := x, c := none, ov := false, dz := true }
  have hflag := uFlags_stBit { c with os := x :: r } x none false true
  have hv6 : p ≠ 96 ∨ (v.proc p).stBit 6 = 0 := h6.imp id fun e => by
    rw [hvproc]
    exact (hflag 6).trans e
  have hact : insAct p 0x20 0 (s.proc p).pc (advanced p 0 s) = procTrap p 6 0 (s.proc p).pc v := by
    have hgo : insAct p 0x20 0 (s.proc p).pc (advanced p 0 s) =
        if dzTraps p 0x20 ((advanced p 0 s).proc p) then
          procTrap p 6 0 (s.proc p).pc ((advanced p 0 s).setProc p (insAlu p 0x20 ((advanced p 0 s).proc p)))
        else (advanced p 0 s).setProc p (insAlu p 0x20 ((advanced p 0 s).proc p)) := rfl
    rw [hgo, advanced_proc, htraps]
    exact if_pos rfl
  have hidle : Idle p v := ((advanced_only p 0 s).setProc _).idle h.idle (by rw [hvproc, hrest]) (by rw [hvproc, hrest])
  obtain ⟨n, hn, ht⟩ := h.acts_trap (preTrap_none (by decide)) rfl (by decide) hact hidle hv6
  obtain ⟨-, -, hkeeps⟩ := procTrap_keeps (code := 6) (arg := 0) (pc := (s.proc p).pc) hv6
  have hfinal := counted_proc p n (procTrap p 6 0 (s.proc p).pc v)
  obtain ⟨htos, -, htrap⟩ := ht
  refine ⟨_, hn, ?_, ?_, fun hp => ?_, fun hp => ?_⟩
  · have h2 := hkeeps 2 (by decide) (by decide)
    rw [hvproc] at h2
    refine (congrArg (Cpu.stBit · 2) hfinal :).trans (h2.trans (hflag 2))
  · rw [htos, hvproc, hrest]
    rfl
  · rw [if_neg (show ¬ p = clove from hp)] at htrap
    exact htrap.1
  · rw [if_pos (show p = clove from hp), hvproc, hrest] at htrap
    exact htrap.1

end Traps

end Sys2Proof.Machine
end

section

/-! SUPPORT. A dispatching microword, window accesses and line fills: O53. -/

namespace Sys2Proof.Machine
open R

/-! ### One dispatching microword (R330 to R334) -/

section Customer
variable {p : Nat} {s : State}

/-- A microword that only pushes its literal, or nothing, and dispatches. -/
structure PushOnly (m : MicroWord) : Prop where
  wait : m.wait = 0
  ns : m.ns = 2
  alu : m.alu = 0
  asel : m.asel = 8
  dst : m.dst = 0
  ostk : m.ostk ≤ 1
  rstk : m.rstk = 0
  mem : m.mem = 0
  sprw : m.sprw = 0
  flg : m.flg = 0
  misc : m.misc = 0

theorem uFlags_none (c : Cpu) (o : AluOut) : uFlags c 0 o = c := by
  unfold uFlags
  have h : bits 0 0 1 = 0 ∧ bits 0 1 1 = 0 ∧ bits 0 2 1 = 0 := ⟨rfl, rfl, rfl⟩
  cases o.c <;> simp [h]

/-- The cells after such a microword. -/
theorem uOstk_push {m : MicroWord} (h : PushOnly m) (c : Cpu) (hfull : c.os.length < osCap p) :
    uOstk p c m.ostk m.lit = { c with os := if m.ostk = 1 then m.lit :: c.os else c.os } := by
  have hcases : m.ostk = 0 ∨ m.ostk = 1 := by
    have := h.ostk
    omega
  rcases hcases with e | e <;> rw [e]
  · rfl
  · exact replace_push c rfl hfull

theorem uMisc_zero (c : Cpu) (u : Micro) (r : Nat) : uMisc p c u 0 r = c := by
  unfold uMisc
  split <;> rfl

theorem uMem_none {m : MicroWord} (h : m.mem = 0) (a : Nat) (u : Micro) (t : State) : uMem p m a u t = (u, t) := by
  unfold uMem
  rw [h, if_neg (by decide), if_neg (by decide)]

theorem uNext_dispatch {m : MicroWord} (h : m.ns = 2) (u : Micro) (b : Bool) : uNext p m u b = (none, false) := by
  unfold uNext
  rw [h]
  rfl

/-- The ALU passes the literal on. -/
theorem uAlu_literal {m : MicroWord} (h1 : m.alu = 0) (h2 : m.asel = 8) (c : Cpu) (u : Micro) (w b k any : Nat) :
    uAlu w m.alu (uSel p c u m m.asel) b k any = aluPlain m.lit := by
  rw [h1, h2]
  rfl

/-- The actions of such a microword. -/
theorem uAct_push {m : MicroWord} (h : PushOnly m) (u : Micro) (b : Bool) :
    ∃ n u', uAct p m u b s = uEnd p u' (s.freeNext.setProc p { uOstk p (s.proc p) m.ostk m.lit with cyc := n }) := by
  obtain ⟨-, hns, halu, hasel, hdst, -, hrstk, hmem, hsprw, hflg, hmisc⟩ := h
  unfold uAct
  extract_lets any s0 cp w o top r u0 um um1 u1 c1 c2 c3 u2 c4 s1 s2 keep trapped nx s3
  have ho : o = aluPlain m.lit := uAlu_literal halu hasel ..
  have hr : r = m.lit := by
    have hcond : ¬ (m.rstk = 4 ∨ m.rstk = 5) := by omega
    exact (if_neg hcond).trans (by rw [ho]; rfl)
  have hum : um.2 = s0 := congrArg Prod.snd (uMem_none hmem ..)
  have hc2 : c2 = uOstk p (s.proc p) m.ostk m.lit := by
    show uDst p (uRstk p (uOstk p (um.2.proc p) m.ostk r) m.rstk r) m.dst r = _
    rw [hdst, hrstk, hr, hum]
    rfl
  have hc3 : c3 = c2 := (if_neg (by omega)).trans (if_neg (by omega))
  have hc4 : c4 = uOstk p (s.proc p) m.ostk m.lit := by
    show uMisc p (uFlags c3 m.flg o) u2 m.misc r = _
    rw [hmisc, hflg, uFlags_none, uMisc_zero, hc3, hc2]
  have hs2 : s2 = s1 := if_neg (by omega)
  have hs1 : s1 = s0.setProc p { c4 with cyc := c4.cyc + 1 } := by
    show um.2.setProc p _ = _
    rw [hum]
  have hmisc' : ¬ (1 ≤ m.misc ∧ m.misc ≤ 10) := by omega
  rw [if_neg hmisc']
  have hnx : nx = (none, false) := uNext_dispatch hns ..
  have hs3 : s3 = s2 := if_neg (by rw [hnx]; simp)
  rw [hnx, hs3, hs2, hs1, hc4]
  exact ⟨_, _, rfl⟩

/-- A customer opcode whose microcode is one such microword. -/
theorem customer_pushes {k : Nat} (hk : k < 16) {m : MicroWord} (hready : CpuReady p (0xF0 + k) 0 s)
    (hbad : mwBad s p (bits (dtEntry s p (0xF0 + k)) 0 11) = none) (hm : microWord s p (bits (dtEntry s p (0xF0 + k)) 0 11) = m)
    (h : PushOnly m) (hfull : (s.proc p).os.length < osCap p) :
    ∃ t, cpuIns p (0xF0 + k) 0 s = t ∧ (t.proc p).u = none ∧ (t.proc p).pc = cpuNext p 0 s ∧
      (t.proc p).os = (if m.ostk = 1 then m.lit :: (s.proc p).os else (s.proc p).os) ∧ (t.proc p).rs = (s.proc p).rs ∧ t.mem = s.mem := by
  have hpoised := poised_of_ready hready
  obtain ⟨hst, -, hmchk, -⟩ := hpoised.running
  let e := dtEntry s p (0xF0 + k)
  let c : Cpu := { s.proc p with pc := cpuNext p 0 s }
  let u : Micro := { upc := bits e 0 11, cnt := c.sp 32, mdr := c.sp 33, urs := [], waiting := false, zero := false, rdy := true, ferr := false,
                     op := 0xF0 + k, imm := 0, os0 := c.os, rs0 := c.rs, pc0 := (s.proc p).pc, popIe := 0, wrote := false }
  let v := (advanced p 0 s).setProc p { c with u := some u }
  have hvproc : v.proc p = { c with u := some u } := proc_setProc_same ..
  have hvonly : OnlyProc p s v := (advanced_only p 0 s).setProc _
  have hstep : uStep p u v = (false, uAct p m u (uCond v p u m) v) := by
    have hmw : microWord v p u.upc = m := hm
    have hbad : mwBad v p u.upc = none := hbad
    unfold uStep
    rw [hbad]
    dsimp only
    rw [hmw, if_neg (by rw [h.wait]; simp)]
  obtain ⟨n, u', hact⟩ := uAct_push (p := p) (s := v) h u (uCond v p u m)
  have hvos : (v.proc p).os.length < osCap p := by rw [hvproc]; exact hfull
  rw [uOstk_push h _ hvos, hvproc] at hact
  let w := uAct p m u (uCond v p u m) v
  have hwproc : w.proc p = { c.endRun u' with os := if m.ostk = 1 then m.lit :: c.os else c.os, cyc := n } := by
    show (uAct p m u (uCond v p u m) v).proc p = _
    rw [hact]
    refine (proc_setProc_same ..).trans ?_
    rw [proc_setProc_same]
    rfl
  have hwonly : OnlyProc p s w := by
    show OnlyProc p s (uAct p m u (uCond v p u m) v)
    rw [hact]
    exact (hvonly.freeNext.setProc _).setProc _
  have hrun : uRun p uFuel v = w := by
    have hend : ∀ j, uRun p j w = w := fun j => by
      cases j with
      | zero => rfl
      | succ j =>
        unfold uRun
        rw [hwproc]
        rfl
    have hgo : ¬ (procSt v p ≠ 1 ∨ (p = clove ∧ v.ctl.mchk ≠ 0)) := by
      rintro (h1 | ⟨h1, h2⟩)
      · exact h1 hst
      · exact h2 (hmchk h1)
    show uRun p (4095 + 1) v = w
    unfold uRun
    rw [hvproc]
    dsimp only
    rw [if_neg hgo, hstep]
    exact hend 4095
  have hidle : Idle p w := hwonly.idle hpoised.idle (by rw [hwproc]; rfl) (by rw [hwproc]; rfl)
  have hgo : cpuIns p (0xF0 + k) 0 s = w := by
    have hknown : (isaHas p (0xF0 + k) && decide (0xF0 + k < 0xF0)) = false := by
      rw [decide_eq_false (by omega), Bool.and_false]
    have hinject : ¬ (p = clove ∧ s.ctl.inject = true ∧ (false && writesStack (0xF0 + k)) = true) := fun e => Bool.false_ne_true e.2.2
    have hrunning : ¬ (p = clove ∧ s.ctl.mchk ≠ 0) := fun e => e.2 (hmchk e.1)
    have hpre : preTrap s p (0xF0 + k) 0 = none := by
      unfold preTrap
      dsimp only
      rw [if_neg (by omega), if_neg (by omega), if_neg (by omega)]
    unfold cpuIns
    rw [hpoised.can, if_pos rfl, hpoised.noSwap]
    unfold insDispatch
    dsimp only
    rw [hpoised.formed, hpoised.fetch, hpoised.parity, hpoised.valid, if_neg (by decide), if_neg (by decide), if_neg (by decide),
      if_neg (by decide), if_neg (Nat.not_lt.2 hpoised.low), if_neg (Nat.not_lt.2 hpoised.high), hpre]
    unfold insGo
    dsimp only
    rw [hknown, hpoised.formed, if_neg hinject, if_neg hrunning, if_neg (by decide)]
    have hstart : uStart p (bits e 0 11) (0xF0 + k) 0 (s.proc p).pc (advanced p 0 s) = boundary p (uRun p uFuel v) := by
      unfold uStart
      rw [advanced_proc]
    refine hstart.trans ?_
    rw [hrun]
    exact boundary_idle hidle
  exact ⟨w, hgo, by rw [hwproc]; rfl, by rw [hwproc]; rfl, by rw [hwproc], by rw [hwproc]; rfl, hwonly.mem_eq⟩

end Customer

/-! ### Window accesses (R304, R336) -/

section Window
variable {p : Nat} {s : State} {r : List Nat} {a : Nat}

/-- The bridge does not hold an access to DDR5. -/
theorem not_busHeld {a : Nat} (h : a < 0x1000000000) : busHeld s a = false := by
  unfold busHeld
  rw [decide_eq_false (Nat.not_le.2 h)]
  rfl

/-- A load from good DDR5 ends with its part on the stack. -/
theorem load_completes {w : WinAcc} (hp : p ≠ 96) (ha : a < 65536) (hwin : (s.proc p).win = some w) (hwrite : w.write = false) (huse : w.use = .ld)
    (hgood : GoodDdr s w.addr 4) (hos : (s.proc p).os = addrCells p a ++ r) (hhalt : (s.proc p).haltReq = false)
    (hstep : (s.proc p).stepping = false) (hfull : r.length < osCap p) :
    ∃ t, doWindowAccessComplete p s = t ∧ OnlyProc p s t ∧ (t.proc p).os = partVal p w.part (s.num w.addr 4) :: r ∧
      (t.proc p).pc = w.next ∧ (t.proc p).win = none ∧ (t.proc p).latch = some (w.addr, s.num w.addr 4) := by
  let x := partVal p w.part (s.num w.addr 4)
  let c : Cpu := { s.proc p with win := none, latch := some (w.addr, s.num w.addr 4) }
  let c' : Cpu := { c with os := x :: r, pc := w.next }
  have hcells : ldCells p false x c = { c with os := x :: r } :=
    ldCells_eq ha false x hos (by rw [if_neg (by decide)]; omega)
  have hidle : Idle p (s.setProc p c') := by
    have hproc : (s.setProc p c').proc p = c' := proc_setProc_same ..
    exact ⟨by rw [hproc]; exact hhalt, by rw [hproc]; exact hstep, fun e => absurd e hp, fun e => absurd e hp⟩
  have hdone : doWindowAccessComplete p s = s.setProc p c' := by
    have hheld : heldCycles p s = s := if_neg hp
    have hacc : winAccess p w s = (s.num w.addr 4, false, s) := by
      unfold winAccess
      rw [hwrite, if_neg (by decide)]
      dsimp only
      rw [hgood.busRead]
      rfl
    have haddr : w.addr < 0x1000000000 := by
      have := hgood.1
      omega
    unfold doWindowAccessComplete
    rw [hwin]
    dsimp only
    rw [not_busHeld haddr, if_neg (by decide), hheld, hacc]
    unfold winDone
    dsimp only
    rw [hwin]
    dsimp only
    rw [huse, hwrite]
    refine Eq.trans ?_ (boundary_idle hidle)
    exact congrArg (fun d : Cpu => boundary p (s.setProc p { d with pc := w.next })) hcells
  have hproc : (s.setProc p c').proc p = c' := proc_setProc_same ..
  exact ⟨_, hdone, (onlyProc_refl p s).setProc _, by rw [hproc], by rw [hproc], by rw [hproc], by rw [hproc]⟩

/-- A Sumac processor that waits for its window access at the limit. -/
theorem waitLimit_traps {w : WinAcc} (hp : p ≠ 96) (hu : (s.proc p).u = none) (hwin : (s.proc p).win = some w) :
    ∃ t, doMicrowordWaitLimit p s = t ∧ procSt t p = 4 ∧ t.fld (SU_c_p_TRAP (p / 8) (p % 8)) SU_c_p_TRAP_CAUSE = 8 := by
  have heq : doMicrowordWaitLimit p s =
      sumacTrap p 8 0 (s.proc p).pc (winAbandoned p w (s.mapProc p (fun c => { c with win := none }))) := by
    unfold doMicrowordWaitLimit
    rw [hu, hwin]
    exact if_neg hp
  generalize winAbandoned p w (s.mapProc p (fun c => { c with win := none })) = v at heq
  obtain ⟨-, -, htrap⟩ := sumacTrap_trapped 8 0 (s.proc p).pc (s := v) hp
  rw [if_neg (show ¬ p = clove from hp)] at htrap
  refine ⟨_, heq, htrap.1, ?_⟩
  unfold State.fld
  rw [htrap.2, BitVec.toNat_ofNat]
  have hlt : (s.proc p).pc % 4096 < 4096 := Nat.mod_lt _ (by decide)
  generalize (s.proc p).pc % 4096 = n at hlt
  show (n + 8 * 4096 + 0 % 256 * 65536) % 2 ^ 32 / 2 ^ 12 % 2 ^ 4 = 8
  omega

end Window

/-! ### Line fills (R323) -/

section LineFill
variable {s : State} {l : XipWait}

theorem lineFill_traps (hwait : s.ctl.xipWait = some l) (hmicro : l.micro = false) (hmchk : s.ctl.mchk = 0)
    (h6 : (s.proc 96).stBit 6 = 0) :
    ∃ t, doXipLineFill true s = t ∧ t.ctl.xipWait = none ∧ Trapped 96 9 0 (s.proc 96).pc s t := by
  let v := s.mapCtl (fun c => { c with xipWait := none })
  have heq : doXipLineFill true s = procTrap 96 9 0 (s.proc 96).pc v := by
    unfold doXipLineFill
    rw [hwait]
    dsimp only
    rw [hmicro]
    exact (if_neg (not_not.2 hmchk)).trans ((if_neg (by decide)).trans (if_pos rfl))
  refine ⟨_, heq, ?_, (procTrap_trapped 9 0 _ (.inr h6) : Trapped 96 9 0 (s.proc 96).pc v _).of_proc rfl rfl rfl⟩
  have h6 : (v.proc clove).stBit 6 = 0 := h6
  unfold procTrap
  rw [if_pos (show (96 : Nat) = clove from rfl)]
  unfold cloveTrap
  dsimp only
  rw [if_neg (by rw [h6]; decide)]
  rfl

/-- A filled line enters one of the ways of its set. -/
theorem xipFill_enters (s : State) (line : Nat) : ∃ way, way < 4 ∧ xipFill line s = s.freeNext.mapCtl (fun c =>
    { c with xip := tput (0, []) c.xip (4 * (line % 256) + way) (line + 1, flashLine s line) }) := by
  cases h : (List.range 4).find? (fun w => (tget (0, []) s.ctl.xip (4 * (line % 256) + w)).1 = 0) with
  | some w =>
    refine ⟨w, List.mem_range.1 (List.mem_of_find?_eq_some h), ?_⟩
    unfold xipFill
    dsimp only
    rw [h]
  | none =>
    refine ⟨s.free .unstated % 4, Nat.mod_lt _ (by decide), ?_⟩
    unfold xipFill
    dsimp only
    rw [h]

/-- A filled line is found in its set. -/
theorem xipWay_xipFill (s : State) (line : Nat) : (xipWay (xipFill line s) line).isSome = true := by
  obtain ⟨way, hlt, heq⟩ := xipFill_enters s line
  rw [heq]
  unfold xipWay
  rw [List.find?_isSome]
  refine ⟨way, List.mem_range.2 hlt, ?_⟩
  rw [decide_eq_true_eq]
  show (tget (0, []) (tput (0, []) s.ctl.xip (4 * (line % 256) + way) (line + 1, flashLine s line)) (4 * (line % 256) + way)).1 = line + 1
  rw [tget_tput_same]

theorem lineFill_resumes (hwait : s.ctl.xipWait = some l) (hmicro : l.micro = true) (hmchk : s.ctl.mchk = 0) :
    ∃ t, doXipLineFill false s = t ∧ t.ctl.xipWait = none ∧ (xipWay t l.line).isSome = true ∧
      ∀ u, (s.proc 96).u = some u → ∃ u', (t.proc 96).u = some u' ∧ u'.rdy = true ∧ u'.ferr = false := by
  let v := xipFill l.line (s.mapCtl (fun c => { c with xipWait := none }))
  have heq : ∃ n, doXipLineFill false s = v.mapProc clove (fun c => { c with u := c.u.map (fun u =>
      { u with mdr := n, rdy := true, ferr := false }) }) := by
    unfold doXipLineFill
    rw [hwait]
    dsimp only
    rw [hmicro]
    exact ⟨_, (if_neg (not_not.2 hmchk)).trans (if_pos rfl)⟩
  obtain ⟨n, hn⟩ := heq
  have hvproc : v.proc clove = s.proc 96 := rfl
  refine ⟨_, hn, rfl, xipWay_xipFill (s.mapCtl (fun c => { c with xipWait := none })) l.line, fun u hu => ?_⟩
  refine ⟨{ u with mdr := n, rdy := true, ferr := false }, ?_, rfl, rfl⟩
  refine (congrArg Cpu.u (proc_setProc_same v clove _) :).trans ?_
  dsimp only
  rw [hvproc, hu]
  rfl

end LineFill

/-- Settles O53, clause by clause. -/
theorem stackMemoryAndTrapCommandsComplete : Obligations.StackMemoryAndTrapCommandsComplete := by
  unfold Obligations.StackMemoryAndTrapCommandsComplete
  intro p q n a s r x c ac ac'
  have hq : q.val ≠ 96 := by omega
  have hlen (l : List Nat) (h : (addrCells p a ++ l).length ≤ osCap p) : addrLen p + l.length ≤ osCap p := by
    rwa [List.length_append, addrCells_length] at h
  have hpos := addrLen_pos p
  refine ⟨fun m href hos => ⟨fun h => ?_, fun h hl => ?_⟩, fun m href hos cmd op hcmd h => ?_, fun f href hlatch hos h => ?_,
    fun w hwin hwrite huse _ hgood hos hhalt hstep hp hfull => ?_, fun h hf => completes_of_exists rfl (rds_moves h hf),
    fun h hos => completes_of_exists rfl (wrs_moves h hos), fun h => completes_of_exists rfl (ei_moves h),
    fun h => completes_of_exists rfl (di_moves h), fun h => completes_of_exists rfl (wait_stops h),
    fun adr ie l hrs h => completes_of_exists rfl (reti_moves hrs h), fun h hrs => completes_of_exists rfl (entry_moves h hrs),
    fun h hev => completes_of_exists rfl (waitev_waits hq h hev), fun h hev hf => completes_of_exists rfl (waitev_passes hq h hev hf),
    fun h => completes_of_exists rfl (sig_moves hq h), fun h hh => completes_of_exists rfl (brk_halts h hh), fun h6 => ?_,
    fun k h => ?_, fun w hu hwin => completes_of_exists rfl (waitLimit_traps hq hu hwin),
    fun l hw hmic hm h6 => completes_of_exists rfl (lineFill_traps hw hmic hm h6),
    fun l hw hmic hm => completes_of_exists rfl (lineFill_resumes hw hmic hm)⟩
  · have hfits := hlen r (hos ▸ (poised_of_ready h).fits)
    exact completes_of_exists rfl (load_moves (inc := false) (.inl ⟨rfl, rfl⟩) a.isLt href hos h (by rw [if_neg (by decide)]; omega))
  · have hl : (addrCells p (a.val + 1)).length + 1 + r.length ≤ osCap p := hl
    rw [addrCells_length] at hl
    exact completes_of_exists rfl (load_moves (inc := true) (.inr ⟨rfl, rfl⟩) a.isLt href hos h (by rw [if_pos rfl]; exact hl))
  · have hop : op = 0x39 ∨ op = 0x3B := hcmd.imp (congrArg Prod.snd) (congrArg Prod.snd)
    have hx : Completes cmd s (cpuIns p op 0 s) := by
      rcases hcmd with e | e
      · obtain ⟨rfl, rfl⟩ := Prod.mk.inj e
        rfl
      · obtain ⟨rfl, rfl⟩ := Prod.mk.inj e
        rfl
    exact completes_of_exists hx (store_moves x hop a.isLt href hos h)
  · obtain ⟨t, ht, hrest⟩ := load_issues a.isLt href hlatch hos h
    obtain ⟨w, hw⟩ := hrest
    exact ⟨t, w, Completes.of_eq rfl ht, hw⟩
  · exact completes_of_exists rfl (load_completes hp a.isLt hwin hwrite huse hgood hos hhalt hstep hfull)
  · exact ⟨fun h hh => completes_of_exists rfl (brk_traps h6 h hh), fun h => completes_of_exists rfl (trap_traps n.isLt h6 h),
      fun hcan hswap hv hpar hfetch => completes_of_exists rfl (illegal_traps h6 hcan hswap hv hpar hfetch),
      fun e he hcan hswap hv hpar hfetch hlow => completes_of_exists rfl (underflow_traps h6 hcan hswap (he ▸ hv) (he ▸ hpar) (he ▸ hfetch) (he ▸ hlow)),
      fun h y hos hdz => completes_of_exists rfl (div_traps h6 h hos hdz)⟩
  · intro u hbad m hm hwait hns halu hasel hdst hostk hrstk hmem hsprw hflg _ hmisc hfull
    exact completes_of_exists rfl (customer_pushes k.isLt h hbad hm ⟨hwait, hns, halu, hasel, hdst, hostk, hrstk, hmem, hsprw, hflg, hmisc⟩ hfull)

end Sys2Proof.Machine
end

section

/-! SUPPORT. Control of the Sumac processors, the decode tables and the control stores: O54. -/

namespace Sys2Proof.Machine
open R

/-! ### Rows of the register table with two dimensions -/

section Rows
variable {b n st m st' x a : Nat} {co : List Nat} {fs : List FieldRow} {rs : List RegRow}

theorem findRow_at_two {i j : Nat} (hi : i < n) (hj : j < m) (hst : 0 < st') (hfit : m * st' ≤ st) :
    findRow (⟨b, [(n, st), (m, st')], x, co, fs⟩ :: rs) (b + i * st + j * st') = some (⟨b, [(n, st), (m, st')], x, co, fs⟩, [i, j]) := by
  have hlt : j * st' < st := Nat.lt_of_lt_of_le (Nat.mul_lt_mul_of_pos_right hj hst) hfit
  have hpos : 0 < st := by omega
  have hrel : b + i * st + j * st' - b = i * st + j * st' := by omega
  have hdiv : (i * st + j * st') / st = i := by
    rw [Nat.add_comm, Nat.add_mul_div_right _ _ hpos, Nat.div_eq_of_lt hlt, Nat.zero_add]
  have hmod : (i * st + j * st') % st = j * st' := by
    rw [Nat.add_comm, Nat.add_mul_mod_self_right, Nat.mod_eq_of_lt hlt]
  have hdims : matchDims [(n, st), (m, st')] (i * st + j * st') = some [i, j] := by
    simp [matchDims, hdiv, hmod, hi, hj, Nat.mul_div_cancel _ hst]
  unfold findRow
  rw [if_pos (by rw [Nat.add_assoc]; exact Nat.le_add_right _ _), hrel, hdims]

end Rows

theorem fieldsAt_SU_c_p_CTL {c p : Nat} (hc : c < 12) (hp : p < 8) : fieldsAt (SU_c_p_CTL c p) = [⟨0, 3, .wo⟩, ⟨3, 1, .rw⟩] := by
  refine fieldsAt_of_regRow (r := ⟨0x2000001100, [(12, 0x1000), (8, 0x20)], 0x0, [], [⟨0, 3, .wo⟩, ⟨3, 1, .rw⟩]⟩) (ix := [c, p]) ?_
  unfold regRow SU_c_p_CTL regRowsAt
  rw [if_neg (by omega), if_pos (by omega)]
  unfold regRowsSU
  simp (disch := omega) only [findRow_past_one, findRow_between, findRow_at_two]

theorem fieldsAt_CV_FPU_u_ADDR {u : Nat} (h : u < 16) : fieldsAt (CV_FPU_u_ADDR u) = [⟨0, 24, .rw⟩, ⟨31, 1, .rw⟩] := by
  refine fieldsAt_of_regRow (r := ⟨0x2000468100, [(16, 0x8)], 0x0, [], [⟨0, 24, .rw⟩, ⟨31, 1, .rw⟩]⟩) (ix := [u]) ?_
  have hrows : regRowsAt (CV_FPU_u_ADDR u) = regRowsCV := by
    unfold regRowsAt CV_FPU_u_ADDR
    repeat rw [if_neg (by omega)]
    exact if_pos (by omega)
  unfold regRow
  rw [hrows]
  unfold regRowsCV CV_FPU_u_ADDR
  simp (disch := omega) only [findRow_past_one, findRow_at]

theorem fieldsAt_CV_FPU_u_DATA {u : Nat} (h : u < 16) : fieldsAt (CV_FPU_u_DATA u) = [⟨0, 16, .rw⟩] := by
  refine fieldsAt_of_regRow (r := ⟨0x2000468104, [(16, 0x8)], 0x0, [], [⟨0, 16, .rw⟩]⟩) (ix := [u]) ?_
  have hrows : regRowsAt (CV_FPU_u_DATA u) = regRowsCV := by
    unfold regRowsAt CV_FPU_u_DATA
    repeat rw [if_neg (by omega)]
    exact if_pos (by omega)
  unfold regRow
  rw [hrows]
  unfold regRowsCV CV_FPU_u_DATA
  simp (disch := omega) only [findRow_past_one, findRow_between, findRow_at]

theorem fieldsAt_MC_ROMP_m_MATCH {m : Nat} (h : m < 32) : fieldsAt (MC_ROMP_m_MATCH m) = [⟨0, 30, .rw⟩, ⟨31, 1, .rw⟩] := by
  refine fieldsAt_of_regRow (r := ⟨0x2000300200, [(32, 0x4)], 0x0, [], [⟨0, 30, .rw⟩, ⟨31, 1, .rw⟩]⟩) (ix := [m]) ?_
  have hrows : regRowsAt (MC_ROMP_m_MATCH m) = regRowsMC := by
    unfold regRowsAt MC_ROMP_m_MATCH
    repeat rw [if_neg (by omega)]
    exact if_pos (by omega)
  unfold regRow
  rw [hrows]
  unfold regRowsMC MC_ROMP_m_MATCH
  simp (disch := omega) only [findRow_past, findRow_past_one, findRow_at]

/-! ### Start, halt and reset of a Sumac processor (R325) -/

theorem cloveOrDap_of {ag : Agent} (h : ag = .clove ∨ ag = .dap) : cloveOrDap ag = true := by
  rcases h with rfl | rfl <;> rfl

theorem cloveOrDap_of_not {ag : Agent} (h : ¬ (ag = .clove ∨ ag = .dap)) : cloveOrDap ag = false := by
  unfold cloveOrDap
  simpa using h

section Sumac
variable {q : Nat} {s t : State} {ag : Agent}

theorem writeByType_proc (s : State) (a : Nat) (v : Word) (p : Nat) : (s.writeByType a v).proc p = s.proc p :=
  proc_of_cpu_eq (congrArg State.cpu (writeByType_rest s a v) :) p

theorem procStat_of_ne (hq : q ≠ 96) : procStat q = SU_c_p_STAT (q / 8) (q % 8) := if_neg hq
theorem rsWrap_of_ne (hq : q ≠ 96) (s : State) : rsWrap s q = s.flag (SU_c_p_CTL (q / 8) (q % 8)) SU_c_p_CTL_RSWRAP := if_neg hq

/-- The control register, after a write of one of its command bits, still says whether pushes wrap. -/
def ctlWritten (q b : Nat) (s : State) : State := s.writeByType (SU_c_p_CTL (q / 8) (q % 8)) (suCtlBit s q b)

theorem suCtlBit_bits (s : State) (q : Nat) {b : Nat} (hb : b < 3) :
    bits (suCtlBit s q b).toNat 0 1 = b2n (b = 0) ∧ bits (suCtlBit s q b).toNat 1 1 = b2n (b = 1) ∧
    bits (suCtlBit s q b).toNat 2 1 = b2n (b = 2) ∧ bits (suCtlBit s q b).toNat 3 1 = b2n (rsWrap s q) := by
  unfold suCtlBit
  obtain rfl | rfl | rfl : b = 0 ∨ b = 1 ∨ b = 2 := by omega
  all_goals cases rsWrap s q <;> exact ⟨rfl, rfl, rfl, rfl⟩

theorem rsWrap_ctlWritten (hq : q < 96) {b : Nat} (hb : b < 3) : rsWrap (ctlWritten q b s) q = rsWrap s q := by
  have hne : q ≠ 96 := by omega
  obtain ⟨-, -, -, hbit⟩ := suCtlBit_bits s q hb
  have h := fld_writeByType s (SU_c_p_CTL (q / 8) (q % 8)) (suCtlBit s q b) SU_c_p_CTL_RSWRAP .rw
    (fieldsAt_SU_c_p_CTL (by omega) (by omega)) (by decide) (by decide)
  have h : (ctlWritten q b s).fld (SU_c_p_CTL (q / 8) (q % 8)) SU_c_p_CTL_RSWRAP = b2n (rsWrap s q) := h.trans hbit
  rw [rsWrap_of_ne hne (ctlWritten q b s), flag_eq, h]
  cases rsWrap s q <;> rfl

theorem CTL_ne_STAT (c p : Nat) : SU_c_p_STAT c p ≠ SU_c_p_CTL c p := by
  simp only [SU_c_p_STAT, SU_c_p_CTL]
  omega

theorem procSt_ctlWritten (hq : q ≠ 96) (b : Nat) : procSt (ctlWritten q b s) q = procSt s q := by
  unfold procSt
  rw [procStat_of_ne hq]
  exact fld_writeByType_other _ _ _ _ _ (CTL_ne_STAT _ _)

theorem rsWrap_setProcSt (hq : q ≠ 96) (v : Nat) : rsWrap (setProcSt s q v) q = rsWrap s q := by
  rw [rsWrap_of_ne hq, rsWrap_of_ne hq]
  unfold setProcSt
  rw [procStat_of_ne hq]
  exact flag_of_reg_eq (reg_setFld_other _ _ _ _ _ (CTL_ne_STAT _ _).symm) _

/-- A write of one command bit of the control register does what that bit says. -/
theorem writeSuCtl_start (hag : ag = .clove ∨ ag = .dap) : doSumacStart ag q s = sumacStart q (ctlWritten q 0 s) := by
  obtain ⟨h0, h1, h2, -⟩ := suCtlBit_bits s q (b := 0) (by decide)
  unfold doSumacStart writeSuCtl
  rw [cloveOrDap_of hag, h0, h1, h2]
  rfl

theorem writeSuCtl_halt (hag : ag = .clove ∨ ag = .dap) : doSumacHalt ag q s = sumacHalt q (ctlWritten q 1 s) := by
  obtain ⟨h0, h1, h2, -⟩ := suCtlBit_bits s q (b := 1) (by decide)
  unfold doSumacHalt writeSuCtl
  rw [cloveOrDap_of hag, h0, h1, h2]
  rfl

theorem writeSuCtl_reset (hag : ag = .clove ∨ ag = .dap) : doSumacReset ag q s = sumacReset q (ctlWritten q 2 s) := by
  obtain ⟨h0, h1, h2, -⟩ := suCtlBit_bits s q (b := 2) (by decide)
  unfold doSumacReset writeSuCtl
  rw [cloveOrDap_of hag, h0, h1, h2]
  rfl

theorem start_from_reset (hq : q < 96) (hag : ag = .clove ∨ ag = .dap) (hst : procSt s q = 0) :
    ∃ t, doSumacStart ag q s = t ∧ procSt t q = 1 ∧ (t.proc q).pc = 0 ∧ rsWrap t q = rsWrap s q := by
  have hne : q ≠ 96 := by omega
  let v := (ctlWritten q 0 s).mapProc q (fun c => { c with pc := 0 })
  have heq : sumacStart q (ctlWritten q 0 s) = setProcSt v q 1 := by
    unfold sumacStart
    rw [if_pos ((procSt_ctlWritten hne 0).trans hst)]
  have hproc : v.proc q = { (ctlWritten q 0 s).proc q with pc := 0 } := proc_setProc_same ..
  refine ⟨_, (writeSuCtl_start hag).trans heq, procSt_setProcSt v q (by decide), (congrArg Cpu.pc ((proc_setFld ..).trans hproc) :), ?_⟩
  have hv : rsWrap v q = rsWrap (ctlWritten q 0 s) q := rfl
  rw [rsWrap_setProcSt hne, hv, rsWrap_ctlWritten hq (by decide)]

theorem start_from_halted (hq : q < 96) (hag : ag = .clove ∨ ag = .dap) (hst : procSt s q = 3) :
    ∃ t, doSumacStart ag q s = t ∧ procSt t q = 1 ∧ t.proc q = s.proc q ∧ rsWrap t q = rsWrap s q := by
  have hne : q ≠ 96 := by omega
  have hst : procSt (ctlWritten q 0 s) q = 3 := (procSt_ctlWritten hne 0).trans hst
  have heq : sumacStart q (ctlWritten q 0 s) = setProcSt (ctlWritten q 0 s) q 1 := by
    unfold sumacStart
    rw [hst, if_neg (by decide), if_pos rfl]
  refine ⟨_, (writeSuCtl_start hag).trans heq, procSt_setProcSt _ q (by decide), (proc_setFld ..).trans (writeByType_proc ..), ?_⟩
  rw [rsWrap_setProcSt hne, rsWrap_ctlWritten hq (by decide)]

/-- A processor asked to halt. -/
def haltAsked (q : Nat) (s : State) : State := (ctlWritten q 1 s).mapProc q (fun c => { c with haltReq := true })

theorem haltAsked_proc : (haltAsked q s).proc q = { s.proc q with haltReq := true } := by
  have h : (haltAsked q s).proc q = { (ctlWritten q 1 s).proc q with haltReq := true } := proc_setProc_same ..
  rw [h, show (ctlWritten q 1 s).proc q = s.proc q from writeByType_proc ..]

theorem haltAsked_atBoundary (hq : q ≠ 96) : atBoundary (haltAsked q s) q = atBoundary s q := by
  unfold atBoundary
  rw [haltAsked_proc, decide_eq_true (show q ≠ clove from hq)]
  rfl

theorem halt_eq (hq : q ≠ 96) (hag : ag = .clove ∨ ag = .dap) (hst : procSt s q = 1) : doSumacHalt ag q s = boundary q (haltAsked q s) := by
  rw [writeSuCtl_halt hag]
  unfold sumacHalt
  rw [if_pos (.inl ((procSt_ctlWritten hq 1).trans hst))]
  rfl

theorem procSt_haltAsked (hq : q ≠ 96) (hst : procSt s q = 1) : procSt (haltAsked q s) q = 1 := (procSt_ctlWritten hq 1).trans hst

theorem halt_at_boundary (hq : q ≠ 96) (hag : ag = .clove ∨ ag = .dap) (hst : procSt s q = 1) (hb : atBoundary s q = true) :
    ∃ t, doSumacHalt ag q s = t ∧ procSt t q = 3 ∧ (t.proc q).pc = (s.proc q).pc := by
  let v := (haltAsked q s).mapProc q (fun c => { c with haltReq := false, stepping := false })
  have heq : boundary q (haltAsked q s) = setProcSt v q 3 := by
    unfold boundary
    rw [procSt_haltAsked hq hst, haltAsked_atBoundary hq, hb, haltAsked_proc, if_neg (by decide)]
    rfl
  have hproc : v.proc q = { (haltAsked q s).proc q with haltReq := false, stepping := false } := proc_setProc_same ..
  refine ⟨_, (halt_eq hq hag hst).trans heq, procSt_setProcSt v q (by decide), ?_⟩
  rw [setProcSt, proc_setFld, hproc, haltAsked_proc]

theorem halt_off_boundary (hq : q ≠ 96) (hag : ag = .clove ∨ ag = .dap) (hst : procSt s q = 1) (hb : atBoundary s q = false) :
    ∃ t, doSumacHalt ag q s = t ∧ procSt t q = 1 ∧ (t.proc q).haltReq = true := by
  have heq : boundary q (haltAsked q s) = haltAsked q s := by
    unfold boundary
    refine if_pos (.inr ?_)
    rw [haltAsked_atBoundary hq, hb]
    decide
  refine ⟨_, (halt_eq hq hag hst).trans heq, procSt_haltAsked hq hst, ?_⟩
  rw [haltAsked_proc]

theorem reset_resets (hag : ag = .clove ∨ ag = .dap) :
    ∃ t, doSumacReset ag q s = t ∧ procSt t q = 0 ∧ t.proc q = Cpu.reset ∧ t.mem = s.mem := by
  refine ⟨_, writeSuCtl_reset hag, procSt_setProcSt ((ctlWritten q 2 s).setProc q Cpu.reset) q (by decide), ?_, ?_⟩
  · exact (proc_setFld ..).trans (proc_setProc_same ..)
  · exact (writeByType_mem s (SU_c_p_CTL (q / 8) (q % 8)) (suCtlBit s q 2) :)

/-- An event of a processor that does not wait for one. -/
theorem evSet_eq {b : Nat} (h : (s.proc q).waitEv = none) :
    evSet q b s = s.setProc q ((s.proc q).setSp 12 (setBits ((s.proc q).sp 12) b 1 1)) := by
  have hproc : (s.mapProc q (fun c => c.setSp 12 (setBits (c.sp 12) b 1 1))).proc q =
      (s.proc q).setSp 12 (setBits ((s.proc q).sp 12) b 1 1) := proc_setProc_same ..
  unfold evSet evWake
  rw [hproc, show ((s.proc q).setSp 12 (setBits ((s.proc q).sp 12) b 1 1)).waitEv = none from h]
  rfl

theorem evSet_sets {b : Nat} (h : (s.proc q).waitEv = none) : bits (((evSet q b s).proc q).sp 12) b 1 = 1 := by
  rw [evSet_eq h, proc_setProc_same, sp_setSp_same, bits_setBits_same]
  rfl

theorem doorbell_sets (hag : ag = .clove ∨ ag = .dap) (h : (s.proc q).waitEv = none) :
    ∃ t, doSumacDoorbell ag q s = t ∧ bits ((t.proc q).sp 12) 3 1 = 1 ∧ t.mem = s.mem := by
  let v := s.writeByType (SU_c_p_DOORBELL (q / 8) (q % 8)) 1
  have hv : (v.proc q).waitEv = none := (congrArg Cpu.waitEv (writeByType_proc ..) :).trans h
  have heq : doSumacDoorbell ag q s = evSet q 3 v := by
    unfold doSumacDoorbell writeSuDoorbell
    rw [cloveOrDap_of hag]
    rfl
  refine ⟨_, heq, evSet_sets hv, ?_⟩
  rw [evSet_eq hv, setProc_mem]
  exact writeByType_mem ..

theorem timer_sets (hne : (s.proc q).sp 13 + 256 * (s.proc q).sp 14 ≠ 0) (h : (s.proc q).waitEv = none) :
    ∃ t, doSumacTimerExpiry q s = t ∧ OnlyProc q s t ∧ bits ((t.proc q).sp 12) 2 1 = 1 := by
  have heq : doSumacTimerExpiry q s = evSet q 2 s := if_neg hne
  refine ⟨_, heq, ?_, evSet_sets h⟩
  rw [evSet_eq h]
  exact (onlyProc_refl q s).setProc _

end Sumac

/-! ### Decode tables and control stores (R316 to R318, R327 to R329) -/

section Stores
variable {s t : State} {ag : Agent} {u e w g key : Nat} {v : Word}

theorem ucodeGet_ucodePut_same (s : State) (key v : Nat) : ucodeGet (ucodePut s key v) key = withParity v := tget_tput_same ..

theorem ucodeGet_ucodePut_other (s : State) (v : Nat) {key k : Nat} (h : k ≠ key) : ucodeGet (ucodePut s key v) k = ucodeGet s k :=
  tget_tput_other _ _ _ _ _ _ h

/-- A put changes one group or entry, and no register. -/
theorem ucodePut_puts (s : State) (key v : Nat) : (ucodePut s key v).regs = s.regs ∧ ucodeGet (ucodePut s key v) key = withParity v ∧
    ∀ k, k ≠ key → ucodeGet (ucodePut s key v) k = ucodeGet s k :=
  ⟨rfl, ucodeGet_ucodePut_same s key v, fun _ hk => ucodeGet_ucodePut_other s v hk⟩

/-- Four flags packed into a number. -/
def packed (a b c d : Bool) : Nat := b2n a + b2n b * 2 + b2n c * 4 + b2n d * 8

theorem packed_bits (a b c d : Bool) : bits (packed a b c d) 0 1 = b2n a ∧ bits (packed a b c d) 1 1 = b2n b ∧
    bits (packed a b c d) 2 1 = b2n c ∧ bits (packed a b c d) 3 1 = b2n d ∧ packed a b c d < 2 ^ 32 := by
  cases a <;> cases b <;> cases c <;> cases d <;> exact ⟨rfl, rfl, rfl, rfl, by decide⟩

theorem dtRefused_packed : dtRefused s u e v.toNat = packed (dtLocked s u) (decide (bits v.toNat 11 2 = 3 ∨ storeWords u ≤ bits v.toNat 0 11))
    (if 0xF0 ≤ e then !custOpen s u || !decide (custFirst u ≤ bits v.toNat 0 11 ∧ bits v.toNat 0 11 < storeWords u)
      else decide (custFirst u ≤ bits v.toNat 0 11 ∧ bits v.toNat 0 11 < storeWords u))
    (decide (u < 12) && clusterBusy s u) := rfl

/-- A bit that is added to a register by a mask is set in it. -/
theorem bits_or_mask (x : Word) {r i : Nat} (hr : r < 2 ^ 32) (h : bits r i 1 = 1) : bits (x ||| BitVec.ofNat 32 r).toNat i 1 = 1 := by
  have hle : bits x.toNat i 1 < 2 := bits_lt x.toNat i 1
  rw [BitVec.toNat_or, BitVec.toNat_ofNat, Nat.mod_eq_of_lt hr, bits_or_one, h]
  omega

theorem decodeTable_stores (hag : ag = .clove ∨ ag = .dap) (hr : dtRefused s u e v.toNat = 0)
    (hlock : u = 12 → s.fld MC_CV_CTL MC_CV_CTL_LOCK = 0) :
    doDecodeTableWrite ag u e v s = ucodePut s (if u = 12 then dtClove (loadBank s) e else dtSumac u e) (dtKeep v.toNat) := by
  have hfree : ¬ (u = 12 ∧ s.flag MC_CV_CTL MC_CV_CTL_LOCK = true) := fun h => by
    rw [(flag_eq_false_iff ..).2 (hlock h.1)] at h
    exact absurd h.2 (by decide)
  unfold doDecodeTableWrite
  rw [cloveOrDap_of hag]
  dsimp only
  rw [hr, if_neg (by decide), if_neg (by decide), if_neg hfree]

theorem decodeTable_refuses (hag : ag = .clove ∨ ag = .dap) (hr : dtRefused s u e v.toNat ≠ 0) :
    ∃ t, doDecodeTableWrite ag u e v s = t ∧ OnlyRegs [dtErrReg u] s t ∧
      (dtLocked s u = true → bits (t.reg (dtErrReg u)).toNat 0 1 = 1) ∧
      (bits v.toNat 11 2 = 3 → bits (t.reg (dtErrReg u)).toNat 1 1 = 1) ∧
      (u < 12 → clusterBusy s u = true → bits (t.reg (dtErrReg u)).toNat 3 1 = 1) := by
  have heq : doDecodeTableWrite ag u e v s =
      s.setReg (dtErrReg u) (s.reg (dtErrReg u) ||| BitVec.ofNat 32 (dtRefused s u e v.toNat)) := by
    unfold doDecodeTableWrite
    rw [cloveOrDap_of hag, if_neg (by decide)]
    dsimp only
    rw [if_pos hr]
  refine ⟨_, heq, (onlyRegs_refl _ s).setReg (List.mem_singleton_self _) _, ?_⟩
  rw [reg_setReg_same, dtRefused_packed]
  obtain ⟨h0, h1, -, h3, hlt⟩ := packed_bits (dtLocked s u) (decide (bits v.toNat 11 2 = 3 ∨ storeWords u ≤ bits v.toNat 0 11))
    (if 0xF0 ≤ e then !custOpen s u || !decide (custFirst u ≤ bits v.toNat 0 11 ∧ bits v.toNat 0 11 < storeWords u)
      else decide (custFirst u ≤ bits v.toNat 0 11 ∧ bits v.toNat 0 11 < storeWords u))
    (decide (u < 12) && clusterBusy s u)
  refine ⟨fun h => bits_or_mask _ hlt ?_, fun h => bits_or_mask _ hlt ?_, fun hu h => bits_or_mask _ hlt ?_⟩
  · rw [h0, h]
    rfl
  · rw [h1, decide_eq_true (.inl h)]
    rfl
  · rw [h3, decide_eq_true hu, h]
    rfl

theorem dtLock_locks (hag : ag = .clove ∨ ag = .dap) :
    ∃ t, doDtLock ag u s = t ∧ dtLocked t u = true ∧ custOpen t u = false := by
  by_cases hu : u = 12
  · have heq : doDtLock ag u s = (s.setFld CV_CTL CV_CTL_DT_LOCK 1).setFld CV_CTL CV_CTL_CUST_OPEN 0 := by
      unfold doDtLock
      rw [cloveOrDap_of hag, if_neg (by decide), if_pos hu]
    refine ⟨_, heq, ?_, ?_⟩
    · unfold dtLocked
      rw [if_pos hu]
      exact flag_eq_true_of_fld_eq_one _ _ _
        ((fld_setFld_ne _ _ _ _ _ (by decide) (by decide)).trans (fld_setFld_of_lt _ _ _ _ (by decide) (by decide)))
    · unfold custOpen
      rw [if_pos hu]
      exact (flag_eq_false_iff ..).2 (fld_setFld_of_lt _ _ _ _ (by decide) (by decide))
  · have heq : doDtLock ag u s = (s.setFld (SU_c_CTL u) SU_c_CTL_DT_LOCK 1).setFld (SU_c_CTL u) SU_c_CTL_CUST_OPEN 0 := by
      unfold doDtLock
      rw [cloveOrDap_of hag, if_neg (by decide), if_neg hu]
    refine ⟨_, heq, ?_, ?_⟩
    · unfold dtLocked
      rw [if_neg hu]
      exact flag_eq_true_of_fld_eq_one _ _ _
        ((fld_setFld_ne _ _ _ _ _ (by decide) (by decide)).trans (fld_setFld_of_lt _ _ _ _ (by decide) (by decide)))
    · unfold custOpen
      rw [if_neg hu]
      exact (flag_eq_false_iff ..).2 (fld_setFld_of_lt _ _ _ _ (by decide) (by decide))

theorem custOpen_refused (h : dtLocked s u = true) : doCustOpen ag u s = s := by
  unfold doCustOpen
  rw [h, Bool.or_true]
  rfl

theorem custOpen_opens (hag : ag = .clove ∨ ag = .dap) (h : dtLocked s u = false) :
    ∃ t, doCustOpen ag u s = t ∧ custOpen t u = true := by
  have hgo : ¬ (!cloveOrDap ag || dtLocked s u) = true := by
    rw [cloveOrDap_of hag, h]
    decide
  refine ⟨_, if_neg hgo, ?_⟩
  unfold custOpen
  by_cases hu : u = 12
  · rw [if_pos hu, if_pos hu]
    exact flag_eq_true_of_fld_eq_one _ _ _ (fld_setFld_of_lt _ _ _ _ (by decide) (by decide))
  · rw [if_neg hu, if_neg hu]
    exact flag_eq_true_of_fld_eq_one _ _ _ (fld_setFld_of_lt _ _ _ _ (by decide) (by decide))

theorem controlStore_stores (hag : ag = .clove ∨ ag = .dap) (hw : w < storeWords u) (hr : csRefused s u w = 0)
    (hkey : (if u = 12 then csClove (loadBank s) w g else csSumac u w g) = key) (hg : groupW key ≠ 0) :
    doControlStoreWrite ag u w g v s = ucodePut s key (v.toNat % 2 ^ groupW key) := by
  unfold doControlStoreWrite
  rw [cloveOrDap_of hag, decide_eq_false (Nat.not_le.2 hw), if_neg (by decide)]
  dsimp only
  rw [hr, if_neg (by decide), hkey, if_neg hg]

theorem controlStore_refuses (hag : ag = .clove ∨ ag = .dap) (hw : w < storeWords u) (hr : csRefused s u w ≠ 0) :
    doControlStoreWrite ag u w g v s = mcErr (csRefused s u w) s := by
  unfold doControlStoreWrite
  rw [cloveOrDap_of hag, decide_eq_false (Nat.not_le.2 hw), if_neg (by decide)]
  exact if_pos hr

theorem mcErr_only (b : Nat) (s : State) : OnlyRegs [MC_ERR] s (mcErr b s) := (onlyRegs_refl _ s).setReg (List.mem_singleton_self _) _
theorem mcErr_reg (b : Nat) (s : State) : (mcErr b s).reg MC_ERR = s.reg MC_ERR ||| BitVec.ofNat 32 b := reg_setReg_same ..

theorem bankSwap_requests (hag : ag = .clove ∨ ag = .dap) (h : s.fld MC_CV_CTL MC_CV_CTL_LOCK = 0) :
    ∃ t, doBankSwapRequest ag s = t ∧ OnlyRegs [MC_CV_CTL, MC_CV_STAT] s t ∧ t.fld MC_CV_STAT MC_CV_STAT_SWAP_PEND = 1 ∧
      activeBank t = activeBank s := by
  have heq : doBankSwapRequest ag s = (s.setFld MC_CV_CTL MC_CV_CTL_SWAP 1).setFld MC_CV_STAT MC_CV_STAT_SWAP_PEND 1 := by
    unfold doBankSwapRequest
    rw [cloveOrDap_of hag, if_neg (by decide), (flag_eq_false_iff ..).2 h, if_neg (by decide)]
  refine ⟨_, heq, ((onlyRegs_refl _ s).setFld (by decide) _ _).setFld (by decide) _ _, fld_setFld_of_lt _ _ _ _ (by decide) (by decide), ?_⟩
  exact (fld_setFld_ne _ _ _ _ _ (by decide) (by decide)).trans (fld_of_reg_eq (reg_setFld_other _ _ _ _ _ (by decide)) _)

theorem bankSwap_refused (hag : ag = .clove ∨ ag = .dap) (h : s.fld MC_CV_CTL MC_CV_CTL_LOCK = 1) :
    ∃ t, doBankSwapRequest ag s = t ∧ OnlyRegs [MC_ERR] s t ∧ t.fld MC_ERR MC_ERR_WR_LOCKED = 1 := by
  have heq : doBankSwapRequest ag s = mcErr 1 s := by
    unfold doBankSwapRequest
    rw [cloveOrDap_of hag, if_neg (by decide), flag_eq_true_of_fld_eq_one _ _ _ h, if_pos rfl]
  refine ⟨_, heq, mcErr_only 1 s, ?_⟩
  unfold State.fld
  rw [mcErr_reg]
  exact bits_or_mask _ (by decide) rfl

theorem storeLock_locks (hag : ag = .clove ∨ ag = .dap) : ∃ t, doControlStoreLock ag u s = t ∧ bits (csRefused t u w) 0 1 = 1 := by
  have hbit (t : State) (h : (if u = 12 then t.flag MC_CV_CTL MC_CV_CTL_LOCK else t.flag (MC_SU_c_CTL u) MC_SU_c_CTL_LOCK) = true) :
      bits (csRefused t u w) 0 1 = 1 := by
    unfold csRefused
    rw [h]
    obtain ⟨h0, -⟩ := packed_bits true (decide (u < 12) && clusterBusy t u) (decide (custFirst u ≤ w) && !custOpen t u) false
    exact h0
  have hgo : ¬ (!cloveOrDap ag) = true := by
    rw [cloveOrDap_of hag]
    decide
  refine ⟨_, if_neg hgo, hbit _ ?_⟩
  by_cases hu : u = 12
  · rw [if_pos hu, if_pos hu]
    exact flag_eq_true_of_fld_eq_one _ _ _ (fld_setFld_of_lt _ _ _ _ (by decide) (by decide))
  · rw [if_neg hu, if_neg hu]
    exact flag_eq_true_of_fld_eq_one _ _ _ (fld_setFld_of_lt _ _ _ _ (by decide) (by decide))

end Stores

end Sys2Proof.Machine
end

section

/-! SUPPORT. Patches, memories and the boot copy of the processors: O54. -/

namespace Sys2Proof.Machine
open R

section Control
variable {s t : State} {ag : Agent} {v : Word}

/-! ### Fetch replacements, the cache, injection and ROM patches (R299, R322 to R324, R339) -/

theorem patchUnit_addr {u : Nat} (hu : u < 16) (hag : ag = .clove ∨ ag = .dap) :
    ∃ t, doPatchUnitWrite ag u false v s = t ∧ OnlyRegs [CV_FPU_u_ADDR u] s t ∧
      t.fld (CV_FPU_u_ADDR u) CV_FPU_u_ADDR_ADDR = bits v.toNat 0 24 ∧ t.fld (CV_FPU_u_ADDR u) CV_FPU_u_ADDR_EN = bits v.toNat 31 1 := by
  have heq : doPatchUnitWrite ag u false v s = s.writeByType (CV_FPU_u_ADDR u) v := if_pos (cloveOrDap_of hag)
  exact ⟨_, heq, (onlyRegs_refl _ s).writeByType (List.mem_singleton_self _) v,
    fld_writeByType _ _ _ _ .rw (fieldsAt_CV_FPU_u_ADDR hu) (by decide) (by decide),
    fld_writeByType _ _ _ _ .rw (fieldsAt_CV_FPU_u_ADDR hu) (by decide) (by decide)⟩

theorem patchUnit_data {u : Nat} (hu : u < 16) (hag : ag = .clove ∨ ag = .dap) :
    ∃ t, doPatchUnitWrite ag u true v s = t ∧ OnlyRegs [CV_FPU_u_DATA u] s t ∧
      t.fld (CV_FPU_u_DATA u) CV_FPU_u_DATA_DATA = bits v.toNat 0 16 := by
  have heq : doPatchUnitWrite ag u true v s = s.writeByType (CV_FPU_u_DATA u) v := if_pos (cloveOrDap_of hag)
  exact ⟨_, heq, (onlyRegs_refl _ s).writeByType (List.mem_singleton_self _) v,
    fld_writeByType _ _ _ _ .rw (fieldsAt_CV_FPU_u_DATA hu) (by decide) (by decide)⟩

theorem xipInv_empties (hag : ag = .clove ∨ ag = .dap) :
    ∃ t, doXipInv ag s = t ∧ t.ctl = { s.ctl with xip := [] } ∧ ∀ l, xipWay t l = none := by
  have heq : doXipInv ag s = (s.setFld CV_CTL CV_CTL_XIP_INV 1).mapCtl (fun c => { c with xip := [] }) := if_pos (cloveOrDap_of hag)
  refine ⟨_, heq, rfl, fun l => ?_⟩
  unfold xipWay
  rw [List.find?_eq_none]
  intro w _
  rw [decide_eq_true_eq]
  exact (Nat.succ_ne_zero l).symm

theorem inject_arms : ∃ t, doLockstepInject .dap s = t ∧ t.ctl = { s.ctl with inject := true } ∧ t.cpu = s.cpu := ⟨_, if_pos rfl, rfl, rfl⟩

theorem inject_refused (h : ag ≠ .dap) : doLockstepInject ag s = s := if_neg h

theorem rompLock_locks (hag : ag = .clove ∨ ag = .dap) :
    ∃ t, doRompLock ag s = t ∧ OnlyRegs [MC_ROMP_CTL] s t ∧ t.fld MC_ROMP_CTL MC_ROMP_CTL_LOCK = 1 :=
  ⟨_, if_pos (cloveOrDap_of hag), (onlyRegs_refl _ s).setFld (List.mem_singleton_self _) _ _,
    fld_setFld_of_lt _ _ _ _ (by decide) (by decide)⟩

/-- ROM code runs and the patches are not locked. -/
def patchable (s : State) : Prop := (s.proc 96).pc < 0xC400 ∧ s.fld MC_ROMP_CTL MC_ROMP_CTL_LOCK = 0

theorem patchable_iff (s : State) : patchable s ↔ (s.flag MC_ROMP_CTL MC_ROMP_CTL_LOCK || !fromRom s .clove) = false := by
  unfold patchable fromRom
  rw [Bool.or_eq_false_iff, flag_eq_false_iff, Bool.not_eq_false', Bool.and_eq_true, decide_eq_true_eq, decide_eq_true_eq]
  exact ⟨fun h => ⟨h.2, rfl, h.1⟩, fun h => ⟨h.2.2, h.1⟩⟩

theorem patchable_of_not (h : ¬ patchable s) : (s.flag MC_ROMP_CTL MC_ROMP_CTL_LOCK || !fromRom s .clove) = true := by
  rwa [patchable_iff, Bool.not_eq_false] at h

theorem romPatch_stores {m : Nat} (hm : m < 32) (h : patchable s) (hrom : bits v.toNat 0 16 + bits v.toNat 16 4 ≤ 0xBFFF)
    (hram : bits v.toNat 20 10 + bits v.toNat 16 4 ≤ 1023) :
    ∃ t, doRomPatchMatchWrite .clove m v s = t ∧ OnlyRegs [MC_ROMP_m_MATCH m] s t ∧
      t.fld (MC_ROMP_m_MATCH m) MC_ROMP_m_MATCH_ADDR = bits v.toNat 0 16 ∧
      t.fld (MC_ROMP_m_MATCH m) MC_ROMP_m_MATCH_PADDR = bits v.toNat 20 10 := by
  have heq : doRomPatchMatchWrite .clove m v s = s.writeByType (MC_ROMP_m_MATCH m) v := by
    unfold doRomPatchMatchWrite
    rw [cloveOrDap_of (.inl rfl), if_neg (by decide)]
    dsimp only
    rw [(patchable_iff s).1 h, decide_eq_false (by omega)]
    rfl
  exact ⟨_, heq, (onlyRegs_refl _ s).writeByType (List.mem_singleton_self _) v,
    fld_writeByType _ _ _ _ .rw (fieldsAt_MC_ROMP_m_MATCH hm) (by decide) (by decide),
    fld_writeByType _ _ _ _ .rw (fieldsAt_MC_ROMP_m_MATCH hm) (by decide) (by decide)⟩

theorem romPatch_refused {m : Nat} (h : ¬ patchable s) :
    ∃ t, doRomPatchMatchWrite .clove m v s = t ∧ OnlyRegs [MC_ERR] s t ∧ bits (t.reg MC_ERR).toNat 3 1 = 1 := by
  have heq : ∃ b : Bool, doRomPatchMatchWrite .clove m v s = mcErr (b2n true * 8 + b2n b * 16) s := by
    unfold doRomPatchMatchWrite
    rw [cloveOrDap_of (.inl rfl), if_neg (by decide)]
    dsimp only
    rw [patchable_of_not h]
    exact ⟨_, rfl⟩
  obtain ⟨b, hb⟩ := heq
  refine ⟨_, hb, mcErr_only _ s, ?_⟩
  rw [mcErr_reg]
  cases b <;> exact bits_or_mask _ (by decide) rfl

theorem patchRam_stores {w d : Nat} (h : patchable s) (hd : d < 65536) :
    ∃ t, doPatchRamWrite w d s = t ∧ t.num (cvMem (0xC000 + w)) 2 = d ∧ t.regs = s.regs := by
  have heq : doPatchRamWrite w d s = s.setNum (cvMem (0xC000 + w)) 2 d := by
    unfold doPatchRamWrite
    rw [(patchable_iff s).1 h]
    rfl
  exact ⟨_, heq, (num_setNum ..).trans (Nat.mod_eq_of_lt hd), setNum_regs ..⟩

theorem patchRam_refused {w d : Nat} (h : ¬ patchable s) :
    ∃ t, doPatchRamWrite w d s = t ∧ t.mem = s.mem ∧ bits (t.reg MC_ERR).toNat 3 1 = 1 := by
  have heq : doPatchRamWrite w d s = mcErr 8 s := by
    unfold doPatchRamWrite
    rw [patchable_of_not h]
    rfl
  refine ⟨_, heq, (mcErr_only 8 s).mem_eq, ?_⟩
  rw [mcErr_reg]
  exact bits_or_mask _ (by decide) rfl

/-! ### Memories and the boot copy (R325, R327) -/

theorem memoryWrite_stores {q off : Nat} (h : procSt s q = 0 ∨ procSt s q = 3 ∨ procSt s q = 4) :
    ∃ t, doSumacMemoryWrite q off v s = t ∧ t.num (suProg q + off / 4 * 4) 4 = v.toNat ∧ t.regs = s.regs ∧
      ∀ a, a < suProg q + off / 4 * 4 ∨ suProg q + off / 4 * 4 + 4 ≤ a → t.byte a = s.byte a := by
  have heq : doSumacMemoryWrite q off v s = s.setNum (suProg q + off / 4 * 4) 4 v.toNat := if_pos h
  refine ⟨_, heq, (num_setNum ..).trans (Nat.mod_eq_of_lt v.isLt), setNum_regs .., fun a ha => byte_setBytes_other _ s _ a ?_⟩
  rwa [leBytes_length]

theorem memoryWrite_discarded {q off : Nat} (h : procSt s q = 1 ∨ procSt s q = 2) :
    doSumacMemoryWrite q off v s = s.setFld (SU_c_p_STAT (q / 8) (q % 8)) SU_c_p_STAT_LOAD_DISCARD 1 :=
  if_neg (by omega)

/-- A dropped key reads as the default. -/
theorem tget_tdrop {α : Type} (d : α) {p : Nat → Bool} (l : List (Nat × α)) {k : Nat} (h : p k = true) : tget d (tdrop p l) k = d := by
  induction l with
  | nil => rfl
  | cons e l ih =>
    unfold tdrop at ih ⊢
    rw [List.filter_cons]
    split
    next he =>
      have hne : ¬ k = e.1 := fun hk => by
        rw [← hk, h] at he
        exact absurd he (by decide)
      unfold tget
      rw [if_neg hne, ih]
      exact ite_self d
    next => exact ih

theorem microcodeCopy_boots (h : s.phase = 1) :
    ∃ t, doMicrocodeCopyDone s = t ∧ t.phase = 2 ∧ procSt t 96 = 1 ∧ t.proc 96 = Cpu.reset ∧ activeBank t = 0 ∧
      ∀ k, k < 8192 → ucodeGet t k = romImage k (groupW k) := by
  let s1 := s.mapCtl (fun c => { c with
    ucode := tdrop (fun k => decide (k < 8192 ∨ (65536 ≤ k ∧ k < 65792))) c.ucode
    romBanks := 0 :: c.romBanks.filter (fun b => b ≠ 0) })
  let s2 := (s1.setFld MC_CV_STAT MC_CV_STAT_BANK 0).setFld MC_CV_STAT MC_CV_STAT_UPC 0
  let s3 : State := { s2.setProc clove Cpu.reset with phase := 2 }
  have heq : doMicrocodeCopyDone s = setProcSt s3 clove 1 := if_neg (not_not.2 h)
  refine ⟨_, heq, rfl, procSt_setProcSt s3 clove (by decide), ?_, ?_, fun k hk => ?_⟩
  · exact (proc_setProc_same s2 clove Cpu.reset :)
  · have hbank : s2.fld MC_CV_STAT MC_CV_STAT_BANK = 0 :=
      (fld_setFld_ne _ _ _ _ _ (by decide) (by decide)).trans (fld_setFld_of_lt _ _ _ _ (by decide) (by decide))
    exact (fld_of_reg_eq (reg_setFld_other s3 _ _ _ _ (by decide)) _).trans hbank
  · have hget : ucodeGet (setProcSt s3 clove 1) k =
        tget (ucodeDefault (0 :: s.ctl.romBanks.filter (fun b => b ≠ 0)) k)
          (tdrop (fun k => decide (k < 8192 ∨ (65536 ≤ k ∧ k < 65792))) s.ctl.ucode) k := rfl
    rw [hget, tget_tdrop _ _ (decide_eq_true (.inl hk))]
    have hbank : k / 8192 = 0 := Nat.div_eq_of_lt hk
    unfold ucodeDefault
    rw [if_pos (by omega), hbank, if_pos ⟨by omega, by simp⟩, Nat.mod_eq_of_lt hk]

end Control

/-- Settles O54, command by command. -/
theorem processorControlCommandsComplete : Obligations.ProcessorControlCommandsComplete := by
  unfold Obligations.ProcessorControlCommandsComplete
  intro ag q u e v off w g pu m pw d s st may
  have hq : q.val ≠ 96 := by omega
  refine ⟨fun hno => ?_, fun hag => ⟨fun h => completes_of_exists rfl (start_from_reset q.isLt hag h),
    fun h => completes_of_exists rfl (start_from_halted q.isLt hag h), fun h hb => completes_of_exists rfl (halt_at_boundary hq hag h hb),
    fun h hb => completes_of_exists rfl (halt_off_boundary hq hag h hb), completes_of_exists rfl (reset_resets hag),
    fun h => completes_of_exists rfl (doorbell_sets hag h),
    ⟨fun hr hl => ⟨_, .of_eq rfl (decodeTable_stores hag hr hl), ucodePut_puts ..⟩,
      fun hr => completes_of_exists rfl (decodeTable_refuses hag hr)⟩,
    completes_of_exists rfl (dtLock_locks hag), fun h => .of_eq rfl (custOpen_refused h),
    fun h => completes_of_exists rfl (custOpen_opens hag h), completes_of_exists rfl (patchUnit_addr pu.isLt hag),
    completes_of_exists rfl (patchUnit_data pu.isLt hag), completes_of_exists rfl (xipInv_empties hag),
    fun hw => ⟨fun hr hg => ⟨_, .of_eq rfl (controlStore_stores hag hw hr rfl hg), ucodePut_puts ..⟩,
      fun hr => ⟨_, .of_eq rfl (controlStore_refuses hag hw hr), mcErr_only _ s, mcErr_reg _ s⟩⟩,
    fun h => completes_of_exists rfl (bankSwap_requests hag h), fun h => completes_of_exists rfl (bankSwap_refused hag h),
    completes_of_exists rfl (storeLock_locks hag), completes_of_exists rfl (rompLock_locks hag)⟩,
    fun h => completes_of_exists rfl (memoryWrite_stores h), fun h => .of_eq rfl (memoryWrite_discarded h),
    fun hne h => completes_of_exists rfl (timer_sets hne h), completes_of_exists rfl inject_arms, fun h => .of_eq rfl (inject_refused h),
    fun h => completes_of_exists rfl (microcodeCopy_boots h), fun h h1 h2 => completes_of_exists rfl (romPatch_stores m.isLt h h1 h2),
    fun h => completes_of_exists rfl (romPatch_refused h), fun h => completes_of_exists rfl (patchRam_stores h d.isLt),
    fun h => completes_of_exists rfl (patchRam_refused h)⟩
  have hno := cloveOrDap_of_not hno
  have hneg : (!cloveOrDap ag) = true := by rw [hno]; rfl
  exact ⟨.of_eq rfl (if_pos hneg), .of_eq rfl (if_pos hneg), .of_eq rfl (if_pos hneg), .of_eq rfl (if_pos hneg),
    .of_eq rfl (if_pos (by rw [hno]; rfl)), .of_eq rfl (if_pos hneg)⟩

end Sys2Proof.Machine
end

section

/-! SUPPORT. The handshake of the mailbox pairs and the SPI target: O55. -/

namespace Sys2Proof.Machine
open R

/-! ### The flags of a pair -/

section Pair
variable {i j : Nat} {s t : State} {f g : Fld} {b : Bool}

theorem mbFlag_mbSet_same (i : Nat) (f : Fld) (b : Bool) (s : State) (hw : f.w = 1) (hf : f.lo + f.w ≤ 32) : mbFlag (mbSet i f b s) i f = b := by
  have h : (mbSet i f b s).fld (MB_i_STAT i) f = b2n b := fld_setFld_of_lt _ _ _ _ hf (by rw [hw]; cases b <;> decide)
  unfold mbFlag
  rw [flag_eq, h]
  cases b <;> rfl

theorem mbFlag_mbSet_ne (i : Nat) (f g : Fld) (b : Bool) (s : State) (hf : f.lo + f.w ≤ 32) (hg : f.lo + f.w ≤ g.lo ∨ g.lo + g.w ≤ f.lo) :
    mbFlag (mbSet i f b s) i g = mbFlag s i g := by
  unfold mbFlag
  rw [flag_eq, flag_eq]
  unfold mbSet
  rw [fld_setFld_ne _ _ _ _ _ hf hg]

theorem mbFlag_of_reg_eq (h : t.reg (MB_i_STAT i) = s.reg (MB_i_STAT i)) (f : Fld) : mbFlag t i f = mbFlag s i f := flag_of_reg_eq h f

theorem mbSet_only {l : List Nat} (h : OnlyRegs l s t) (hi : MB_i_STAT i ∈ l) (f : Fld) (b : Bool) : OnlyRegs l s (mbSet i f b t) :=
  h.setFld hi f _

theorem mbSet_mem (i : Nat) (f : Fld) (b : Bool) (s : State) : (mbSet i f b s).mem = s.mem := rfl
theorem mbSet_fw (i : Nat) (f : Fld) (b : Bool) (s : State) : (mbSet i f b s).fw = s.fw := rfl
theorem mbSet_reg_other (i : Nat) (f : Fld) (b : Bool) (s : State) {a : Nat} (h : a ≠ MB_i_STAT i) : (mbSet i f b s).reg a = s.reg a :=
  reg_setFld_other _ _ _ _ _ h

theorem STAT_ne_DOORBELL (i : Nat) : MB_i_STAT i ≠ MB_i_DOORBELL i := by
  simp only [MB_i_STAT, MB_i_DOORBELL]
  omega
theorem STAT_ne_CNT (i : Nat) : MB_i_STAT i ≠ MB_i_CNT i := by
  simp only [MB_i_STAT, MB_i_CNT]
  omega
theorem CNT_ne_DOORBELL (i : Nat) : MB_i_CNT i ≠ MB_i_DOORBELL i := by
  simp only [MB_i_CNT, MB_i_DOORBELL]
  omega
theorem STAT_ne_POST (i : Nat) : MB_i_STAT i ≠ MB_i_POST i := by
  simp only [MB_i_STAT, MB_i_POST]
  omega

/-- The state after the doorbell word is written, before the bit acts. -/
def rung (i : Nat) (v : Word) (s : State) : State := s.writeByType (MB_i_DOORBELL i) v

theorem mbFlag_rung (i : Nat) (v : Word) (s : State) (f : Fld) : mbFlag (rung i v s) i f = mbFlag s i f :=
  mbFlag_of_reg_eq (reg_writeByType_other _ _ _ _ (STAT_ne_DOORBELL i)) f

theorem rung_only {l : List Nat} (i : Nat) (v : Word) (s : State) (h : MB_i_DOORBELL i ∈ l) : OnlyRegs l s (rung i v s) :=
  (onlyRegs_refl l s).writeByType h v

theorem rung_fw (i : Nat) (v : Word) (s : State) : (rung i v s).fw = s.fw := (congrArg State.fw (writeByType_rest s _ v) :)
theorem rung_mem (i : Nat) (v : Word) (s : State) : (rung i v s).mem = s.mem := writeByType_mem ..

theorem doRing_eq (h : mbOff s i = false) : doRing i s = mbRing i (rung i 1 s) := by
  unfold doRing writeDoorbell
  rw [h]
  rfl

theorem doAck_eq (h : mbOff s i = false) : doAck i s = mbAck i (rung i 2 s) := by
  unfold doAck writeDoorbell
  rw [h]
  rfl

theorem doAbort_eq (h : mbOff s i = false) : doAbort i s = mbAbort i (rung i 4 s) := by
  unfold doAbort writeDoorbell
  rw [h]
  rfl

end Pair

/-! ### The edge of an SPI pair's doorbell -/

/-- `t` keeps what a mailbox shows: memory and the registers of the block. -/
def KeepsMail (s t : State) : Prop := t.mem = s.mem ∧ ∀ a, 0x20003C0000 ≤ a → a < 0x2000400000 → t.reg a = s.reg a

theorem keepsMail_refl (s : State) : KeepsMail s s := ⟨rfl, fun _ _ _ => rfl⟩

theorem KeepsMail.trans {s t u : State} (h1 : KeepsMail s t) (h2 : KeepsMail t u) : KeepsMail s u :=
  ⟨h2.1.trans h1.1, fun a hl hh => (h2.2 a hl hh).trans (h1.2 a hl hh)⟩

theorem keepsMail_setReg (s : State) {b : Nat} (v : Word) (h : 0x2000400000 ≤ b) : KeepsMail s (s.setReg b v) :=
  ⟨rfl, fun a _ ha => reg_setReg_other _ _ _ _ (by omega)⟩

theorem keepsMail_wakeRequest (s : State) : KeepsMail s (wakeRequest s) := by
  unfold wakeRequest
  split
  · exact ⟨rfl, fun _ _ _ => rfl⟩
  · split <;> exact ⟨rfl, fun _ _ _ => rfl⟩

theorem keepsMail_raiseEvent (s : State) (n : Nat) : KeepsMail s (raiseEvent s n) := by
  unfold raiseEvent
  split
  · refine keepsMail_setReg s _ ?_
    simp only [IC_PEND_SET_i]
    omega
  · exact keepsMail_refl s

theorem keepsMail_latchEdge (e : Nat) (rising : Bool) (s : State) : KeepsMail s (latchEdge e rising s) := by
  unfold latchEdge
  dsimp only
  split
  · have hwake : KeepsMail s (if srcWake s (549 + e) then wakeRequest s else s) := by
      split
      · exact keepsMail_wakeRequest s
      · exact keepsMail_refl s
    split
    · refine hwake.trans (keepsMail_setReg _ _ ?_)
      simp only [IC_EDGE_e_CFG]
      omega
    · exact hwake.trans (keepsMail_raiseEvent _ _)
  · exact keepsMail_refl s

theorem keepsMail_raiseDoorbell (i : Nat) (s : State) : KeepsMail s (raiseDoorbell i s) := by
  unfold raiseDoorbell
  split
  · exact keepsMail_refl s
  · exact (keepsMail_latchEdge _ _ _).trans (keepsMail_latchEdge _ _ _)

section Keeps
variable {s t : State} {i : Nat}

theorem KeepsMail.stat (h : KeepsMail s t) (hi : i < 18) : t.reg (MB_i_STAT i) = s.reg (MB_i_STAT i) :=
  h.2 _ (by simp only [MB_i_STAT]; omega) (by simp only [MB_i_STAT]; omega)

theorem KeepsMail.cnt (h : KeepsMail s t) (hi : i < 18) : t.reg (MB_i_CNT i) = s.reg (MB_i_CNT i) :=
  h.2 _ (by simp only [MB_i_CNT]; omega) (by simp only [MB_i_CNT]; omega)

end Keeps

/-! ### RING, ACK, ABORT, TAKE and POST (R345, R346) -/

section Handshake
variable {i : Nat} {s : State} {ag : Agent}

theorem request_stores {w : Nat} {v : Word} (hoff : mbOff s i = false) (hb : mbFlag s i MB_i_STAT_REQ_BUSY = false) :
    ∃ t, doRequestWrite i w v s = t ∧ t.regs = s.regs ∧ t.num (mbRequest i + 4 * w) 4 = v.toNat ∧
      ∀ c, c < mbRequest i + 4 * w ∨ mbRequest i + 4 * w + 4 ≤ c → t.byte c = s.byte c := by
  have heq : doRequestWrite i w v s = s.setNum (mbRequest i + 4 * w) 4 v.toNat := by
    unfold doRequestWrite hostRequest
    rw [hoff, hb]
    rfl
  refine ⟨_, heq, setNum_regs .., (num_setNum ..).trans (Nat.mod_eq_of_lt v.isLt), fun c hc => byte_setBytes_other _ s _ c ?_⟩
  rwa [leBytes_length]

theorem request_busy {w : Nat} {v : Word} (hoff : mbOff s i = false) (hb : mbFlag s i MB_i_STAT_REQ_BUSY = true) :
    doRequestWrite i w v s = s.setFld (MB_i_STAT i) MB_i_STAT_WR_BUSY 1 := by
  unfold doRequestWrite hostRequest
  rw [hoff, hb]
  rfl

/-- The request is pending, busy and counted. -/
def requested (i : Nat) (s : State) : State :=
  (mbSet i MB_i_STAT_REQ_BUSY true (mbSet i MB_i_STAT_REQ_PEND true s)).incSat (MB_i_CNT i) MB_i_CNT_RINGS

theorem requested_flag (i : Nat) (s : State) (f : Fld) :
    mbFlag (requested i s) i f = mbFlag (mbSet i MB_i_STAT_REQ_BUSY true (mbSet i MB_i_STAT_REQ_PEND true s)) i f :=
  mbFlag_of_reg_eq (incSat_reg_other _ _ _ _ (STAT_ne_CNT i)) f

theorem ring_requests (hi : i < 18) (hoff : mbOff s i = false) (hb : mbFlag s i MB_i_STAT_REQ_BUSY = false) :
    ∃ t, doRing i s = t ∧ mbFlag t i MB_i_STAT_REQ_PEND = true ∧ mbFlag t i MB_i_STAT_REQ_BUSY = true ∧
      mbFlag t i MB_i_STAT_RPL_VALID = mbFlag s i MB_i_STAT_RPL_VALID ∧ t.mem = s.mem ∧
      t.fld (MB_i_CNT i) MB_i_CNT_RINGS = min 65535 (s.fld (MB_i_CNT i) MB_i_CNT_RINGS + 1) ∧
      (i < 16 → OnlyRegs [MB_i_DOORBELL i, MB_i_STAT i, MB_i_CNT i] s t) := by
  let u := requested i (rung i 1 s)
  have heq : doRing i s = raiseDoorbell i u := by
    rw [doRing_eq hoff]
    unfold mbRing
    rw [mbFlag_rung, hb]
    rfl
  have hkeep := keepsMail_raiseDoorbell i u
  have hflag (f : Fld) : mbFlag (raiseDoorbell i u) i f =
      mbFlag (mbSet i MB_i_STAT_REQ_BUSY true (mbSet i MB_i_STAT_REQ_PEND true (rung i 1 s))) i f :=
    (mbFlag_of_reg_eq (hkeep.stat hi) f).trans (requested_flag i _ f)
  refine ⟨_, heq, ?_, ?_, ?_, ?_, ?_, fun h16 => ?_⟩
  · rw [hflag, mbFlag_mbSet_ne _ _ _ _ _ (by decide) (by decide)]
    exact mbFlag_mbSet_same _ _ _ _ rfl (by decide)
  · rw [hflag]
    exact mbFlag_mbSet_same _ _ _ _ rfl (by decide)
  · rw [hflag, mbFlag_mbSet_ne _ _ _ _ _ (by decide) (by decide), mbFlag_mbSet_ne _ _ _ _ _ (by decide) (by decide), mbFlag_rung]
  · exact hkeep.1.trans ((incSat_mem ..).trans (rung_mem ..))
  · rw [fld_of_reg_eq (hkeep.cnt hi)]
    refine (fld_incSat_same _ _ _ (by decide)).trans ?_
    have hcnt : (mbSet i MB_i_STAT_REQ_BUSY true (mbSet i MB_i_STAT_REQ_PEND true (rung i 1 s))).fld (MB_i_CNT i) MB_i_CNT_RINGS =
        s.fld (MB_i_CNT i) MB_i_CNT_RINGS := by
      refine fld_of_reg_eq ?_ _
      rw [mbSet_reg_other _ _ _ _ (STAT_ne_CNT i).symm, mbSet_reg_other _ _ _ _ (STAT_ne_CNT i).symm]
      exact reg_writeByType_other _ _ _ _ (CNT_ne_DOORBELL i)
    rw [hcnt]
    rfl
  · have hraise : raiseDoorbell i u = u := if_pos h16
    rw [hraise]
    exact (mbSet_only (mbSet_only (rung_only i 1 s (by simp)) (by simp) _ _) (by simp) _ _).incSat (by simp) _

theorem ring_ignored (hoff : mbOff s i = false) (hb : mbFlag s i MB_i_STAT_REQ_BUSY = true) :
    ∃ t, doRing i s = t ∧ OnlyRegs [MB_i_DOORBELL i, MB_i_STAT i] s t ∧ mbFlag t i MB_i_STAT_RING_IGN = true ∧
      mbFlag t i MB_i_STAT_REQ_PEND = mbFlag s i MB_i_STAT_REQ_PEND := by
  have heq : doRing i s = mbSet i MB_i_STAT_RING_IGN true (rung i 1 s) := by
    rw [doRing_eq hoff]
    unfold mbRing
    rw [mbFlag_rung, hb]
    rfl
  refine ⟨_, heq, mbSet_only (rung_only i 1 s (by simp)) (by simp) _ _, mbFlag_mbSet_same _ _ _ _ rfl (by decide), ?_⟩
  rw [mbFlag_mbSet_ne _ _ _ _ _ (by decide) (by decide), mbFlag_rung]

theorem ack_frees (hoff : mbOff s i = false) (hw : tget [] s.fw.waitPost i = []) :
    ∃ t, doAck i s = t ∧ OnlyRegs [MB_i_DOORBELL i, MB_i_STAT i] s t ∧ mbFlag t i MB_i_STAT_RPL_VALID = false ∧
      mbFlag t i MB_i_STAT_REQ_BUSY = mbFlag s i MB_i_STAT_REQ_BUSY := by
  have heq : doAck i s = mbSet i MB_i_STAT_RPL_VALID false (rung i 2 s) := by
    rw [doAck_eq hoff]
    unfold mbAck postWaiting
    rw [mbSet_fw, rung_fw, hw]
  refine ⟨_, heq, mbSet_only (rung_only i 2 s (by simp)) (by simp) _ _, mbFlag_mbSet_same _ _ _ _ rfl (by decide), ?_⟩
  rw [mbFlag_mbSet_ne _ _ _ _ _ (by decide) (by decide), mbFlag_rung]

/-- A post while the reply mailbox is free. -/
theorem mbPost_posts (h : mbFlag s i MB_i_STAT_RPL_VALID = false) :
    mbPost i s = mbSet i MB_i_STAT_RPL_VALID true (mbSet i MB_i_STAT_REQ_BUSY false s) ∧
    mbFlag (mbPost i s) i MB_i_STAT_RPL_VALID = true ∧ mbFlag (mbPost i s) i MB_i_STAT_REQ_BUSY = false := by
  have heq : mbPost i s = mbSet i MB_i_STAT_RPL_VALID true (mbSet i MB_i_STAT_REQ_BUSY false s) := by
    unfold mbPost
    rw [h]
    rfl
  rw [heq]
  refine ⟨rfl, mbFlag_mbSet_same _ _ _ _ rfl (by decide), ?_⟩
  rw [mbFlag_mbSet_ne _ _ _ _ _ (by decide) (by decide)]
  exact mbFlag_mbSet_same _ _ _ _ rfl (by decide)

/-- A reply that waits is written and posted. -/
theorem postWaiting_posts {b : List Byte} (hw : tget [] s.fw.waitPost i = b) (hb : b ≠ []) :
    postWaiting i s = mbPost i (({ s with fw := { s.fw with waitPost := tput [] s.fw.waitPost i [] } } : State).setBytes (mbReply i) b) := by
  unfold postWaiting
  rw [hw]
  cases b with
  | nil => exact absurd rfl hb
  | cons x b => rfl

theorem ack_posts {b : List Byte} (hoff : mbOff s i = false) (hw : tget [] s.fw.waitPost i = b) (hb : b ≠ []) :
    ∃ t, doAck i s = t ∧ t.bytes (mbReply i) b.length = b ∧ mbFlag t i MB_i_STAT_RPL_VALID = true ∧
      mbFlag t i MB_i_STAT_REQ_BUSY = false ∧ tget [] t.fw.waitPost i = [] := by
  let u := mbSet i MB_i_STAT_RPL_VALID false (rung i 2 s)
  let v := ({ u with fw := { u.fw with waitPost := tput [] u.fw.waitPost i [] } } : State).setBytes (mbReply i) b
  have hufw : u.fw = s.fw := rung_fw i 2 s
  have heq : doAck i s = mbPost i v := by
    rw [doAck_eq hoff]
    exact postWaiting_posts ((congrArg (fun f : Fw => tget [] f.waitPost i) hufw).trans hw) hb
  have hvalid : mbFlag v i MB_i_STAT_RPL_VALID = false :=
    (mbFlag_of_reg_eq (reg_setBytes ..) _).trans (mbFlag_mbSet_same i MB_i_STAT_RPL_VALID false (rung i 2 s) rfl (by decide))
  obtain ⟨hpost, h1, h2⟩ := mbPost_posts hvalid
  have hmem : (mbPost i v).mem = v.mem := by
    rw [hpost]
    rfl
  refine ⟨_, heq, (bytes_of_mem_eq hmem ..).trans (bytes_setBytes b _ _), h1, h2, ?_⟩
  have hfw : (mbPost i v).fw = { u.fw with waitPost := tput [] u.fw.waitPost i [] } := by
    rw [hpost, mbSet_fw, mbSet_fw]
    exact setBytes_fw ..
  rw [hfw]
  exact tget_tput_same ..

theorem abort_withdraws (hoff : mbOff s i = false) (hp : mbFlag s i MB_i_STAT_REQ_PEND = true) :
    ∃ t, doAbort i s = t ∧ OnlyRegs [MB_i_DOORBELL i, MB_i_STAT i, MB_i_CNT i] s t ∧ mbFlag t i MB_i_STAT_REQ_PEND = false ∧
      mbFlag t i MB_i_STAT_REQ_BUSY = false ∧
      t.fld (MB_i_CNT i) MB_i_CNT_ABORT_CNT = min 255 (s.fld (MB_i_CNT i) MB_i_CNT_ABORT_CNT + 1) := by
  let u := mbSet i MB_i_STAT_REQ_BUSY false (mbSet i MB_i_STAT_REQ_PEND false (rung i 4 s))
  have heq : doAbort i s = u.incSat (MB_i_CNT i) MB_i_CNT_ABORT_CNT := by
    rw [doAbort_eq hoff]
    unfold mbAbort
    rw [mbFlag_rung, hp]
    rfl
  have hflag (f : Fld) : mbFlag (u.incSat (MB_i_CNT i) MB_i_CNT_ABORT_CNT) i f = mbFlag u i f :=
    mbFlag_of_reg_eq (incSat_reg_other _ _ _ _ (STAT_ne_CNT i)) f
  refine ⟨_, heq, (mbSet_only (mbSet_only (rung_only i 4 s (by simp)) (by simp) _ _) (by simp) _ _).incSat (by simp) _, ?_, ?_, ?_⟩
  · rw [hflag]
    exact (mbFlag_mbSet_ne _ _ _ _ _ (by decide) (by decide)).trans (mbFlag_mbSet_same _ _ _ _ rfl (by decide))
  · rw [hflag]
    exact mbFlag_mbSet_same _ _ _ _ rfl (by decide)
  · refine (fld_incSat_same _ _ _ (by decide)).trans ?_
    have hcnt : u.fld (MB_i_CNT i) MB_i_CNT_ABORT_CNT = s.fld (MB_i_CNT i) MB_i_CNT_ABORT_CNT := by
      refine fld_of_reg_eq ?_ _
      rw [mbSet_reg_other _ _ _ _ (STAT_ne_CNT i).symm, mbSet_reg_other _ _ _ _ (STAT_ne_CNT i).symm]
      exact reg_writeByType_other _ _ _ _ (CNT_ne_DOORBELL i)
    rw [hcnt]
    rfl

theorem abort_ignored (hoff : mbOff s i = false) (hp : mbFlag s i MB_i_STAT_REQ_PEND = false) :
    ∃ t, doAbort i s = t ∧ OnlyRegs [MB_i_DOORBELL i] s t := by
  have heq : doAbort i s = rung i 4 s := by
    rw [doAbort_eq hoff]
    unfold mbAbort
    rw [mbFlag_rung, hp]
    rfl
  exact ⟨_, heq, rung_only i 4 s (by simp)⟩

/-- The state after the post word is written, before the bit acts. -/
def postWritten (i : Nat) (v : Word) (s : State) : State := s.writeByType (MB_i_POST i) v

theorem mbFlag_postWritten (i : Nat) (v : Word) (s : State) (f : Fld) : mbFlag (postWritten i v s) i f = mbFlag s i f :=
  mbFlag_of_reg_eq (reg_writeByType_other _ _ _ _ (STAT_ne_POST i)) f

theorem postWritten_only (i : Nat) (v : Word) (s : State) : OnlyRegs [MB_i_POST i, MB_i_STAT i] s (postWritten i v s) :=
  (onlyRegs_refl _ s).writeByType (by simp) v

theorem take_takes : ∃ t, doTake .clove i s = t ∧ OnlyRegs [MB_i_POST i, MB_i_STAT i] s t ∧ mbFlag t i MB_i_STAT_REQ_PEND = false ∧
    mbFlag t i MB_i_STAT_REQ_BUSY = mbFlag s i MB_i_STAT_REQ_BUSY := by
  have heq : doTake .clove i s = mbSet i MB_i_STAT_REQ_PEND false (postWritten i 1 s) := rfl
  refine ⟨_, heq, mbSet_only (postWritten_only i 1 s) (by simp) _ _, mbFlag_mbSet_same _ _ _ _ rfl (by decide), ?_⟩
  rw [mbFlag_mbSet_ne _ _ _ _ _ (by decide) (by decide), mbFlag_postWritten]

theorem post_posts (h : mbFlag s i MB_i_STAT_RPL_VALID = false) :
    ∃ t, doPost .clove i s = t ∧ OnlyRegs [MB_i_POST i, MB_i_STAT i] s t ∧ mbFlag t i MB_i_STAT_RPL_VALID = true ∧
      mbFlag t i MB_i_STAT_REQ_BUSY = false := by
  have heq : doPost .clove i s = mbPost i (postWritten i 2 s) := rfl
  obtain ⟨hpost, h1, h2⟩ := mbPost_posts (i := i) ((mbFlag_postWritten i 2 s _).trans h)
  refine ⟨_, heq, ?_, h1, h2⟩
  rw [hpost]
  exact mbSet_only (mbSet_only (postWritten_only i 2 s) (by simp) _ _) (by simp) _ _

theorem post_ignored (h : mbFlag s i MB_i_STAT_RPL_VALID = true) :
    ∃ t, doPost .clove i s = t ∧ OnlyRegs [MB_i_POST i, MB_i_STAT i] s t ∧ mbFlag t i MB_i_STAT_POST_IGN = true ∧
      mbFlag t i MB_i_STAT_REQ_BUSY = mbFlag s i MB_i_STAT_REQ_BUSY := by
  have heq : doPost .clove i s = mbSet i MB_i_STAT_POST_IGN true (postWritten i 2 s) := by
    have hgo : doPost .clove i s = mbPost i (postWritten i 2 s) := rfl
    rw [hgo]
    unfold mbPost
    rw [mbFlag_postWritten, h]
    rfl
  refine ⟨_, heq, mbSet_only (postWritten_only i 2 s) (by simp) _ _, mbFlag_mbSet_same _ _ _ _ rfl (by decide), ?_⟩
  rw [mbFlag_mbSet_ne _ _ _ _ _ (by decide) (by decide), mbFlag_postWritten]

end Handshake

/-! ### The SPI target (R343) -/

section Spi
variable {s : State}

theorem spi_ignored {l : List Byte} (h : domainOff s 26 = true ∨ ∀ x, l.head? = some x → x ≠ 2 ∧ x ≠ 3) :
    doSpiTransaction l s = { s with dev := { s.dev with spiOut := [] } } := by
  unfold doSpiTransaction
  dsimp only
  rcases h with h | h
  · rw [h]
    rfl
  · split
    · rfl
    · split
      next op a2 a1 a0 t =>
        obtain ⟨h2, h3⟩ := h op rfl
        rw [if_neg h2, if_neg h3]
        rfl
      next => rfl

/-- Bytes written below the end of pair 16's request mailbox. -/
theorem spiWrite_request (l : List Byte) {a n : Nat} (hn : l.length ≤ n) (ha : a + l.length ≤ 0x1000)
    (hb : mbFlag s 16 MB_i_STAT_REQ_BUSY = false) : spiWrite n a l s = s.setBytes (mbRequest 16 + a) l := by
  induction l generalizing s a n with
  | nil => cases n <;> rfl
  | cons b l ih =>
    rw [List.length_cons] at hn ha
    obtain ⟨n, rfl⟩ := Nat.exists_eq_succ_of_ne_zero (show n ≠ 0 by omega)
    have hreq : hostRequest (16 + a / 0x2000) (a % 0x1000) [b] s = s.setBytes (mbRequest 16 + a) [b] := by
      rw [Nat.div_eq_of_lt (by omega : a < 0x2000), Nat.mod_eq_of_lt (by omega : a < 0x1000)]
      have hoff : mbOff s 16 = false := by
        unfold mbOff
        simp
      unfold hostRequest
      rw [Nat.add_zero, hoff, hb]
      rfl
    have hb' : mbFlag (s.setBytes (mbRequest 16 + a) [b]) 16 MB_i_STAT_REQ_BUSY = false :=
      (mbFlag_of_reg_eq (reg_setBytes ..) _).trans hb
    have hstep : spiWrite (n + 1) a (b :: l) s = spiWrite n (a + 1) l (s.setBytes (mbRequest 16 + a) [b]) := by
      have hlow : a < 0x4000 ∧ a % 0x2000 < 0x1000 := by omega
      rw [spiWrite, if_pos hlow.1, if_pos hlow.2, hreq]
    rw [hstep, ih (by omega) (by omega) hb']
    rfl

/-- Bytes read below the end of pair 16's reply mailbox. -/
theorem spiRead_reply (s : State) (n : Nat) {a : Nat} (hl : 0x1000 ≤ a) (ha : a + n ≤ 0x2000) :
    spiRead n a none s = (s.bytes (mbReply 16 + (a - 0x1000)) n, s) := by
  induction n generalizing a with
  | zero => rfl
  | succ n ih =>
    have hcond : ¬ a % 0x2000 < 0x1000 := by omega
    have haddr : mbReply (16 + a / 0x2000) + a % 0x1000 = mbReply 16 + (a - 0x1000) := by
      rw [Nat.div_eq_of_lt (by omega : a < 0x2000), Nat.add_zero]
      omega
    unfold spiRead
    rw [if_pos (by omega), ih (by omega) (by omega)]
    dsimp only
    rw [if_neg hcond, haddr, show a + 1 - 0x1000 = a - 0x1000 + 1 by omega, ← Nat.add_assoc]
    rfl

theorem spi_writes {l : List Byte} (hd : domainOff s 26 = false) (hb : mbFlag s 16 MB_i_STAT_REQ_BUSY = false) (hl : l.length ≤ 4096) :
    ∃ t, doSpiTransaction ([2, 0, 0, 0] ++ l) s = t ∧ t.bytes (mbRequest 16) l.length = l ∧ t.regs = s.regs := by
  have heq : doSpiTransaction ([2, 0, 0, 0] ++ l) s = (spiWrite l.length 0 l s).mapDev (fun d => { d with spiOut := [] }) := by
    unfold doSpiTransaction
    rw [hd]
    rfl
  have hwrite := spiWrite_request (s := s) l (a := 0) (Nat.le_refl _) (by omega) hb
  rw [hwrite, Nat.add_zero] at heq
  have hmem (u : State) (f : Dev → Dev) : (u.mapDev f).mem = u.mem := rfl
  refine ⟨_, heq, (bytes_of_mem_eq (hmem ..) ..).trans (bytes_setBytes l s _), ?_⟩
  exact (congrArg State.regs (setBytes_rest l s (mbRequest 16)) :)

theorem spi_reads {n : Nat} (hd : domainOff s 26 = false) (hn : n ≤ 4096) :
    ∃ t, doSpiTransaction ([3, 0, 0x10, 0, 0] ++ zeros n) s = t ∧ t.dev.spiOut = s.bytes (mbReply 16) n ∧ t.regs = s.regs ∧ t.mem = s.mem := by
  have hread := spiRead_reply s n (a := 0x1000) (Nat.le_refl _) (by omega)
  have hlen : (0 :: zeros n : List Byte).length - 1 = n := by
    rw [List.length_cons, zeros, List.length_replicate, Nat.add_sub_cancel]
  have heq : doSpiTransaction ([3, 0, 0x10, 0, 0] ++ zeros n) s =
      (spiRead ((0 :: zeros n : List Byte).length - 1) 0x1000 none s).2.mapDev
        (fun d => { d with spiOut := (spiRead ((0 :: zeros n : List Byte).length - 1) 0x1000 none s).1 }) := by
    unfold doSpiTransaction
    rw [hd]
    rfl
  rw [hlen, hread] at heq
  exact ⟨_, heq, rfl, rfl, rfl⟩

theorem spi_rings (hd : domainOff s 26 = false) (hb : mbFlag s 16 MB_i_STAT_REQ_BUSY = false) :
    ∃ t, doSpiTransaction [2, 0, 0x40, 4, 1, 0, 0, 0] s = t ∧ mbFlag t 16 MB_i_STAT_REQ_PEND = true ∧ t.mem = s.mem := by
  have hoff : mbOff s 16 = false := by
    unfold mbOff
    simp
  have heq : doSpiTransaction [2, 0, 0x40, 4, 1, 0, 0, 0] s = (doRing 16 s).mapDev (fun d => { d with spiOut := [] }) := by
    unfold doSpiTransaction
    rw [hd]
    rfl
  obtain ⟨t, ht, hp, -, -, hm, -⟩ := ring_requests (i := 16) (by decide) hoff hb
  rw [ht] at heq
  exact ⟨_, heq, hp, hm⟩

end Spi

end Sys2Proof.Machine
end

section

/-! SUPPORT. Serving a Molalrik request and its reply; remote frames: O55. -/

namespace Sys2Proof.Machine
open R

/-! ### Only the reply differs -/

section Reply
variable {i : Nat} {s t u : State}

theorem onlyReply_refl (i : Nat) (s : State) : OnlyReply i s s := ⟨rfl, rfl, fun _ _ => rfl, fun _ _ => rfl⟩

theorem OnlyReply.rest (h : OnlyReply i s t) : { t with regs := s.regs, mem := s.mem, fw := s.fw, freeCtr := s.freeCtr } = s := h.1
theorem OnlyReply.fw_rest (h : OnlyReply i s t) : { t.fw with last := s.fw.last } = s.fw := h.2.1
theorem OnlyReply.reg_eq (h : OnlyReply i s t) {a : Nat} (ha : a ≠ MB_i_STAT i) : t.reg a = s.reg a := h.2.2.1 a ha
theorem OnlyReply.byte_eq (h : OnlyReply i s t) {c : Nat} (hc : c < mbReply i ∨ mbReply i + 4096 ≤ c) : t.byte c = s.byte c := h.2.2.2 c hc
theorem OnlyReply.fld_eq (h : OnlyReply i s t) {a : Nat} (ha : a ≠ MB_i_STAT i) (f : Fld) : t.fld a f = s.fld a f := fld_of_reg_eq (h.reg_eq ha) f
theorem OnlyReply.flag_eq (h : OnlyReply i s t) {a : Nat} (ha : a ≠ MB_i_STAT i) (f : Fld) : t.flag a f = s.flag a f := flag_of_reg_eq (h.reg_eq ha) f

theorem OnlyReply.trans (h1 : OnlyReply i s t) (h2 : OnlyReply i t u) : OnlyReply i s u := by
  obtain ⟨hr1, hf1, ha1, hb1⟩ := h1
  obtain ⟨hr2, hf2, ha2, hb2⟩ := h2
  refine ⟨?_, ?_, fun a ha => (ha2 a ha).trans (ha1 a ha), fun c hc => (hb2 c hc).trans (hb1 c hc)⟩
  · exact (congrArg (fun v : State => { v with regs := s.regs, mem := s.mem, fw := s.fw, freeCtr := s.freeCtr }) hr2 :).trans hr1
  · exact (congrArg (fun f : Fw => { f with last := s.fw.last }) hf2 :).trans hf1

theorem OnlyReply.freeNext (h : OnlyReply i s t) : OnlyReply i s t.freeNext := ⟨h.1, h.2.1, h.2.2.1, h.2.2.2⟩

theorem OnlyReply.mbSet (h : OnlyReply i s t) (f : Fld) (b : Bool) : OnlyReply i s (mbSet i f b t) :=
  ⟨h.1, h.2.1, fun _ ha => (mbSet_reg_other i f b t ha).trans (h.reg_eq ha), h.2.2.2⟩

theorem OnlyReply.setReply (h : OnlyReply i s t) {l : List Byte} (hl : l.length ≤ 4096) : OnlyReply i s (t.setBytes (mbReply i) l) := by
  obtain ⟨hr, hf, ha, hb⟩ := h
  have hrest := setBytes_rest l t (mbReply i)
  refine ⟨?_, ?_, fun a h => (reg_setBytes ..).trans (ha a h), fun c hc => (byte_setBytes_other l t _ c (by omega)).trans (hb c hc)⟩
  · rw [hrest]
    exact hr
  · rw [hrest]
    exact hf

theorem OnlyReply.setLast (h : OnlyReply i s t) (l : List (Nat × Nat × Nat × List Byte)) : OnlyReply i s (t.mapFw (fun f => { f with last := l })) :=
  ⟨h.1, h.2.1, h.2.2.1, h.2.2.2⟩

/-- The taking of a request by firmware. -/
theorem take_onlyReply (i : Nat) (s : State) : OnlyReply i s (take i s) := (onlyReply_refl i s).mbSet _ _

theorem take_flag (i : Nat) (s : State) (f : Fld)
    (hg : MB_i_STAT_REQ_PEND.lo + MB_i_STAT_REQ_PEND.w ≤ f.lo ∨ f.lo + f.w ≤ MB_i_STAT_REQ_PEND.lo := by decide) :
    mbFlag (take i s) i f = mbFlag s i f := mbFlag_mbSet_ne _ _ _ _ _ (by decide) hg

theorem take_pend (i : Nat) (s : State) : mbFlag (take i s) i MB_i_STAT_REQ_PEND = false := mbFlag_mbSet_same _ _ _ _ rfl (by decide)

end Reply

/-! ### A reply to a pair (R345, R347) -/

section Answer
variable {i : Nat} {s : State}

theorem message_length (code seq : Nat) (b : Bool) (st d : Nat) (l : List Byte) : (message code seq b st d l).length = 16 + l.length := by
  unfold message
  simp only [List.length_append, leBytes_length]

/-- A reply while the mailbox is free: written and posted. -/
theorem mailReply_posts {m : List Byte} (hv : mbFlag s i MB_i_STAT_RPL_VALID = false) (hl : m.length ≤ 4096) :
    OnlyReply i s (mailReply i m s) ∧ mbFlag (mailReply i m s) i MB_i_STAT_RPL_VALID = true ∧
    mbFlag (mailReply i m s) i MB_i_STAT_REQ_BUSY = false ∧
    mbFlag (mailReply i m s) i MB_i_STAT_REQ_PEND = mbFlag s i MB_i_STAT_REQ_PEND ∧
    (mailReply i m s).bytes (mbReply i) m.length = m := by
  have hwrite : cloveReply i 0 m s = s.setBytes (mbReply i) m := by
    unfold cloveReply
    rw [hv]
    rfl
  have heq : mailReply i m s = mbPost i (s.setBytes (mbReply i) m) := by
    unfold mailReply
    rw [hv, if_neg (by decide), hwrite]
  have hflag (f : Fld) : mbFlag (s.setBytes (mbReply i) m) i f = mbFlag s i f := mbFlag_of_reg_eq (reg_setBytes ..) f
  obtain ⟨hpost, h1, h2⟩ := mbPost_posts ((hflag _).trans hv)
  rw [heq]
  refine ⟨?_, h1, h2, ?_, ?_⟩
  · rw [hpost]
    exact (((onlyReply_refl i s).setReply hl).mbSet _ _).mbSet _ _
  · rw [hpost, mbFlag_mbSet_ne _ _ _ _ _ (by decide) (by decide), mbFlag_mbSet_ne _ _ _ _ _ (by decide) (by decide)]
    exact hflag _
  · rw [hpost]
    exact (bytes_of_mem_eq (mbSet_mem ..) ..).trans ((bytes_of_mem_eq (mbSet_mem ..) ..).trans (bytes_setBytes m s _))

/-- A pair's answer, written and posted. -/
theorem answer_posts (code seq : Nat) {x : CmdRes} (hi : i < 18) (hv : mbFlag x.s i MB_i_STAT_RPL_VALID = false)
    (hp : mbFlag x.s i MB_i_STAT_REQ_PEND = false) (hl : x.data.length ≤ 4080) :
    OnlyReply i x.s (answer i 0 code seq x) ∧ mbFlag (answer i 0 code seq x) i MB_i_STAT_REQ_PEND = false ∧
    mbFlag (answer i 0 code seq x) i MB_i_STAT_REQ_BUSY = false ∧ mbFlag (answer i 0 code seq x) i MB_i_STAT_RPL_VALID = true ∧
    (answer i 0 code seq x).bytes (mbReply i) (16 + x.data.length) = message code seq false x.status x.detail x.data := by
  let m := message code seq false x.status x.detail x.data
  have hm : m.length = 16 + x.data.length := message_length ..
  have hkept : ∃ v, answer i 0 code seq x = mailReply i m v ∧ OnlyReply i x.s v ∧ v.regs = x.s.regs := by
    unfold answer sendReply
    rw [if_pos (by omega : i < 256)]
    by_cases hst : x.status = 0
    · exact ⟨_, congrArg (mailReply i m) (if_pos hst), (onlyReply_refl i x.s).setLast _, rfl⟩
    · exact ⟨_, congrArg (mailReply i m) (if_neg hst), onlyReply_refl i x.s, rfl⟩
  obtain ⟨v, hv', hvonly, hvregs⟩ := hkept
  have hflag (f : Fld) : mbFlag v i f = mbFlag x.s i f := mbFlag_of_reg_eq (reg_of_regs_eq hvregs _) f
  obtain ⟨h1, h2, h3, h4, h5⟩ := mailReply_posts (m := m) ((hflag _).trans hv) (by omega)
  rw [hv']
  rw [hm] at h5
  exact ⟨hvonly.trans h1, h4.trans ((hflag _).trans hp), h3, h2, h5⟩

end Answer

/-! ### Serving (R350, R351, R356, R357) -/

section Serve
variable {i code flags : Nat} {p : List Byte} {s : State} {c : Cmd} {x : CmdRes}

/-- What a request's being asked says of it. -/
structure Pending (i code flags : Nat) (p : List Byte) (s : State) : Prop where
  ready : mailReady s i = true
  up : minimal s = false
  free : mbFlag s i MB_i_STAT_RPL_VALID = false
  hasCode : (mailRequest s i).code = code
  hasFlags : (mailRequest s i).flags = flags
  payload : (mailRequest s i).payload = p
  len : (mailRequest s i).len = p.length
  on : groupOn (mailRequest s i) s = true
  fresh : (tget (0, 0, []) s.fw.last i).2.2 = [] ∨ (tget (0, 0, []) s.fw.last i).1 ≠ code ∨
    (tget (0, 0, []) s.fw.last i).2.1 ≠ (mailRequest s i).seq

theorem pending_of_asked (h : Asked i code flags p s) : Pending i code flags p s := by
  obtain ⟨h1, h2, h3, h4, h5, h6, h7, h8, h9⟩ := h
  exact ⟨h1, h2, h3, h4, h5, h6, h7, h8, h9⟩

theorem Pending.room (h : Pending i code flags p s) : p.length ≤ 4080 := by
  have hp : (mailRequest s i).payload.length = min (mailRequest s i).len 4080 := bytes_length ..
  rw [h.payload, h.len] at hp
  omega

/-- A request that passes its checks runs. -/
theorem execute_runs {r : Req} (hon : groupOn r s = true) (hlocal : (r.remote && c.isLocal) = false) (hden : c.denied r s = false)
    (hmin : minimal s = false) (hrun : runCmd c r s = x) (hlen : x.data.length ≤ r.room) : execute c r s = x := by
  unfold execute
  rw [hon, hlocal, hden, hmin, if_neg (by decide), if_neg (by simp), hrun]
  exact if_neg (Nat.not_lt.2 hlen)

theorem minimal_of_reg_eq {t : State} (h : t.reg BT_STAT = s.reg BT_STAT) : minimal t = minimal s := flag_of_reg_eq h _

theorem STAT_mb_lt {i : Nat} (hi : i < 18) : MB_i_STAT i < 0x20003F0240 := by
  simp only [MB_i_STAT]
  omega

theorem groupOn_take (i : Nat) (s : State) : groupOn (mailRequest s i) (take i s) = groupOn (mailRequest s i) s := by
  have h : (take i s).fld (MB_i_PERM i) MB_i_PERM_GROUPS = s.fld (MB_i_PERM i) MB_i_PERM_GROUPS :=
    (take_onlyReply i s).fld_eq (by simp only [MB_i_PERM, MB_i_STAT]; omega) _
  unfold groupOn
  rw [show (mailRequest s i).who = i from rfl, h]

/-- The command that a request asks for is served. -/
theorem doCommand_serves (h : Pending i code flags p s) (hc : c.code = code) : doCommand c i s = serve c (mailRequest s i) (take i s) := by
  unfold doCommand
  rw [h.ready, if_neg (by decide)]
  exact if_pos (h.hasCode.trans hc.symm)

/-- A request of a pair executes its command. -/
theorem Pending.executes (h : Pending i code flags p s) (hi : i < 18) (hden : c.denied (mailRequest s i) (take i s) = false)
    (hrun : runCmd c (mailRequest s i) (take i s) = x) (hlen : x.data.length ≤ 4080) : execute c (mailRequest s i) (take i s) = x := by
  have hremote : (mailRequest s i).remote = false := decide_eq_false (by show ¬ 256 ≤ i; omega)
  refine execute_runs ((groupOn_take i s).trans h.on) (by rw [hremote]; rfl) hden ?_ hrun ?_
  · refine (minimal_of_reg_eq ((take_onlyReply i s).reg_eq ?_)).trans h.up
    have := STAT_mb_lt hi
    simp only [BT_STAT]
    omega
  · unfold Req.room
    rw [hremote]
    exact hlen

/-- A request whose code and number differ from the last one executed is not a repeat. -/
theorem Pending.not_repeated (h : Pending i code flags p s) : ¬ ((tget (0, 0, []) (take i s).fw.last i).2.2 ≠ [] ∧
    (tget (0, 0, []) (take i s).fw.last i).1 = (mailRequest s i).code ∧
    (tget (0, 0, []) (take i s).fw.last i).2.1 = (mailRequest s i).seq) := by
  rintro ⟨h1, h2, h3⟩
  rcases h.fresh with e | e | e
  · exact h1 e
  · exact e (h2.trans h.hasCode)
  · exact e h3

/-- A request that is answered at once; its command leaves the pair's status as it is. -/
theorem Pending.replies (h : Pending i code flags p s) (hi : i < 18) (hc : c.code = code)
    (hexec : execute c (mailRequest s i) (take i s) = x) (hjob : x.job = none)
    (hlen : x.data.length ≤ 4080) (hkeep : x.s.reg (MB_i_STAT i) = (take i s).reg (MB_i_STAT i)) :
    ∃ t, doCommand c i s = t ∧ OnlyReply i x.s t ∧ Replied i x.status x.detail x.data s t := by
  have heq : doCommand c i s = answer i 0 (mailRequest s i).code (mailRequest s i).seq x := by
    rw [doCommand_serves h hc]
    unfold serve
    have hnot := h.not_repeated
    dsimp only
    rw [show (mailRequest s i).who = i from rfl, if_neg hnot, hexec, hjob]
    rfl
  have hv : mbFlag x.s i MB_i_STAT_RPL_VALID = false := (mbFlag_of_reg_eq hkeep _).trans ((take_flag i s _).trans h.free)
  have hp : mbFlag x.s i MB_i_STAT_REQ_PEND = false := (mbFlag_of_reg_eq hkeep _).trans (take_pend i s)
  obtain ⟨h1, h2, h3, h4, h5⟩ := answer_posts (mailRequest s i).code (mailRequest s i).seq hi hv hp hlen
  exact ⟨_, heq, h1, h2, h3, h4, h5⟩

/-- A request that is refused: nothing but the reply changes. -/
theorem Pending.refused (h : Pending i code flags p s) (hi : i < 18) (hc : c.code = code) {status detail : Nat}
    (hexec : execute c (mailRequest s i) (take i s) = refuse status detail (take i s)) :
    ∃ t, doCommand c i s = t ∧ OnlyReply i s t ∧ Replied i status detail [] s t := by
  obtain ⟨t, ht, honly, hrep⟩ := h.replies hi hc hexec rfl (Nat.zero_le _) rfl
  exact ⟨t, ht, (take_onlyReply i s).trans honly, hrep⟩

/-- A request that is answered with data and no other effect. -/
theorem Pending.reads (h : Pending i code flags p s) (hi : i < 18) (hc : c.code = code) {d : List Byte} (hlen : d.length ≤ 4080)
    (hexec : execute c (mailRequest s i) (take i s) = okRes d (take i s)) :
    ∃ t, doCommand c i s = t ∧ OnlyReply i s t ∧ Replied i 0 0 d s t := by
  obtain ⟨t, ht, honly, hrep⟩ := h.replies hi hc hexec rfl hlen rfl
  exact ⟨t, ht, (take_onlyReply i s).trans honly, hrep⟩

/-- A command with fields only whose payload has the right length. -/
theorem Pending.runs (h : Pending i code flags p s) (hi : i < 18) (hk : c.kind = .plain) (hlenok : c.lenOk (mailRequest s i) = true)
    (hden : c.denied (mailRequest s i) (take i s) = false) (hrun : c.run (mailRequest s i) (take i s) = x) (hlen : x.data.length ≤ 4080) :
    execute c (mailRequest s i) (take i s) = x := by
  refine h.executes hi hden ?_ hlen
  have hremote : (mailRequest s i).remote = false := decide_eq_false (by show ¬ 256 ≤ i; omega)
  have hroom : (mailRequest s i).room = 4080 := by
    unfold Req.room
    rw [hremote]
    rfl
  unfold runCmd
  rw [hk]
  dsimp only
  rw [if_pos ⟨by rw [hroom, h.len]; exact h.room, hlenok⟩, hrun]

theorem Pending.field (h : Pending i code flags p s) (o n : Nat) : (mailRequest s i).f o n = le p o n := by
  unfold Req.f
  rw [h.payload]

theorem Pending.lenOk (h : Pending i code flags p s) {n : Nat} (hn : p.length = n) : fieldLen n (mailRequest s i) = true :=
  decide_eq_true (h.len.trans hn)

/-- A request whose reply follows at a block tick. -/
theorem Pending.defers (h : Pending i code flags p s) (hc : c.code = code) {j : JobKind} {u : State} (hj : j ≠ .reset)
    (hexec : execute c (mailRequest s i) (take i s) = waitRes j u) (hfw : u.fw = s.fw)
    (hkeep : u.reg (MB_i_STAT i) = (take i s).reg (MB_i_STAT i)) :
    ∃ t, doCommand c i s = t ∧ Deferred i j s t ∧ t.regs = u.regs := by
  have hready := h.ready
  unfold mailReady at hready
  simp only [Bool.and_eq_true] at hready
  have hbusy := hready.1.1.1.2
  have hflag (f : Fld) : mbFlag u i f = mbFlag (take i s) i f := mbFlag_of_reg_eq hkeep f
  let job : FwJob := ⟨i, 0, (mailRequest s i).code, (mailRequest s i).seq, j⟩
  have heq : doCommand c i s = u.mapFw (fun f => { f with jobs := f.jobs ++ [job] }) := by
    rw [doCommand_serves h hc]
    unfold serve
    have hnot := h.not_repeated
    dsimp only
    rw [show (mailRequest s i).who = i from rfl, if_neg hnot, hexec]
    cases j with
    | reset => exact absurd rfl hj
    | _ => rfl
  refine ⟨_, heq, ⟨(hflag _).trans (take_pend i s), (hflag _).trans ((take_flag i s _).trans hbusy),
    (hflag _).trans ((take_flag i s _).trans h.free), ?_⟩, rfl⟩
  exact congrArg (fun f : Fw => f.jobs ++ [job]) hfw

end Serve

/-! ### The checks of a command's fields -/

theorem checked_ok {l : List (Nat × Bool)} {s : State} {r : CmdRes} (h : ∀ e ∈ l, e.2 = false) : checked l s r = r := by
  unfold checked
  rw [List.find?_eq_none.2 (fun e he => by rw [h e he]; decide)]


/-! ### Remote frames (R360, R361) -/

section Remote
variable {src : Nat} {l : List Byte} {s : State}

/-- The key of a frame, its ciphertext, and the tag that it should bring. -/
def frameKey (s : State) (l : List Byte) : List Byte := tget [] s.fw.keys (le l 2 2)
def frameText (l : List Byte) : List Byte := (l.drop 16).take (l.length - 32)
def frameTag (s : State) (l : List Byte) : List Byte := gcmTag (frameKey s l) (slice l 4 12) (l.take 16) (frameText l)

/-- The request of an accepted frame, and its service. -/
def frameMessage (s : State) (l : List Byte) : List Byte := gcmCrypt (frameKey s l) (slice l 4 12) (frameText l)
def frameRequest (src : Nat) (l : List Byte) (s : State) : Req := remoteRequest src (le l 2 2) (frameMessage s l)
def frameAccepted (src : Nat) (l : List Byte) (s : State) : State :=
  s.mapFw (fun f => { f with counters := noteCounter (le l 2 2) src (le l 8 8) f.counters })

theorem remote_ignored (h : fwUp s = false ∨ minimal s = true ∨ l.length < 48 ∨ frameKey s l = [] ∨ frameTag s l ≠ l.drop (l.length - 16) ∨
    ∃ c, lastCounter s (le l 2 2) src = some c ∧ le l 8 8 ≤ c) : doRemoteFrame src l s = s := by
  unfold doRemoteFrame
  dsimp only
  by_cases h1 : (!fwUp s || minimal s || decide (l.length < 48) || decide (le l 0 1 ≠ 1) || decide (le l 1 1 ≠ 0)) = true
  · rw [if_pos h1]
  rw [if_neg h1]
  by_cases h2 : frameKey s l = [] ∨ frameTag s l ≠ l.drop (l.length - 16)
  · exact if_pos h2
  refine (if_neg h2).trans ?_
  simp only [Bool.or_eq_true, Bool.not_eq_true', decide_eq_true_eq, not_or] at h1 h2
  obtain ⟨⟨⟨⟨hup, hmin⟩, hlen⟩, -⟩, -⟩ := h1
  rcases h with e | e | e | e | e | ⟨c, hc, hle⟩
  · exact absurd e hup
  · exact absurd e hmin
  · exact absurd e hlen
  · exact absurd e h2.1
  · exact absurd e h2.2
  · rw [hc]
    exact if_pos (decide_eq_true hle)

/-- An accepted frame is served. -/
theorem remote_serves {c : Cmd} (hup : fwUp s = true) (hmin : minimal s = false) (hlen : 48 ≤ l.length) (h0 : le l 0 1 = 1) (h1 : le l 1 1 = 0)
    (hkey : frameKey s l ≠ []) (htag : frameTag s l = l.drop (l.length - 16))
    (hnew : ∀ c, lastCounter s (le l 2 2) src = some c → c < le l 8 8)
    (hm : le (frameMessage s l) 4 2 = (frameMessage s l).length - 16)
    (hfind : commands.find? (fun c => c.code = (frameRequest src l s).code) = some c) :
    doRemoteFrame src l s = serve c (frameRequest src l s) (frameAccepted src l s) := by
  unfold doRemoteFrame
  dsimp only
  rw [if_neg (by rw [hup, hmin, h0, h1, decide_eq_false (Nat.not_lt.2 hlen)]; decide)]
  refine (if_neg (show ¬ (frameKey s l = [] ∨ frameTag s l ≠ l.drop (l.length - 16)) from ?_)).trans ?_
  · rintro (e | e)
    · exact hkey e
    · exact e htag
  refine (if_neg ?_).trans ?_
  · cases hc : lastCounter s (le l 2 2) src with
    | none => exact Bool.false_ne_true
    | some d => exact fun e => absurd (of_decide_eq_true e) (Nat.not_le.2 (hnew d hc))
  refine (if_neg (not_not.2 hm)).trans ?_
  rw [show commands.find? (fun c => c.code = (remoteRequest src (le l 2 2) (gcmCrypt (tget [] s.fw.keys (le l 2 2)) (slice l 4 12)
    ((l.drop 16).take (l.length - 32)))).code) = some c from hfind]
  rfl

/-- The two bytes that begin a frame of this version. -/
theorem frame_version (h : le l 0 2 = 1) : le l 0 1 = 1 ∧ le l 1 1 = 0 := by
  cases l with
  | nil => exact absurd h (by decide)
  | cons a l =>
    cases l with
    | nil => exact ⟨h, rfl⟩
    | cons b l =>
      have e : a.toNat + 256 * (b.toNat + 256 * 0) = 1 := h
      have ha : le (a :: b :: l) 0 1 = a.toNat + 256 * 0 := rfl
      have hb : le (a :: b :: l) 1 1 = b.toNat + 256 * 0 := rfl
      omega

/-- The frame with the reply `m` to a sender. -/
def replyFrame (key : Nat) (m : List Byte) (s : State) : List Byte :=
  let own := leBytes 4 (ownMac s) ++ leBytes 8 ((s.fw.ownCtr + 1) % 2 ^ 64)
  let head := [1, 1] ++ leBytes 2 key ++ own
  let k := tget [] s.fw.keys key
  head ++ gcmCrypt k own m ++ gcmTag k own head (gcmCrypt k own m)

theorem remoteReply_sends (key mac : Nat) (m : List Byte) (s : State) : ∃ n, remoteReply key mac m s =
    { s.mapFw (fun f => { f with ownCtr := (s.fw.ownCtr + 1) % 2 ^ 64, sentRemote := [(mac, replyFrame key m s)] }) with net := n } := by
  obtain ⟨a, b, q, h⟩ := originate_net (28 + (replyFrame key m s).length) mac 7 (.other 0x88B5)
    (s.mapFw (fun f => { f with ownCtr := (s.fw.ownCtr + 1) % 2 ^ 64, sentRemote := [(mac, replyFrame key m s)] }))
  exact ⟨_, h⟩

/-- GET_STATUS of another device, answered in a frame. -/
theorem remote_status {r : Req} {u : State} {src : Nat} (hwho : r.who = 256 + src) (hcode : r.code = 2) (hlen : r.len = 0) (hmin : minimal u = false)
    (hlast : (tget (0, 0, []) u.fw.last r.who).2.2 = []) : ∃ n l, serve cmdGetStatus r u =
      { u.mapFw (fun f => { f with last := l, ownCtr := (u.fw.ownCtr + 1) % 2 ^ 64,
                                   sentRemote := [(src, replyFrame r.key (message 2 r.seq false 0 0 (statusBytes u)) u)] }) with net := n } := by
  have hremote : r.remote = true := decide_eq_true (by omega)
  have hroom : r.room = 1452 := by
    unfold Req.room
    exact if_pos hremote
  have hrun : runCmd cmdGetStatus r u = okRes (statusBytes u) u :=
    if_pos ⟨by omega, decide_eq_true hlen⟩
  have hon : groupOn r u = true := by
    unfold groupOn
    rw [hremote]
    rfl
  have hdata : (statusBytes u).length = 20 := by
    unfold statusBytes regBytes
    simp only [List.length_append, leBytes_length]
    rfl
  have hexec : execute cmdGetStatus r u = okRes (statusBytes u) u :=
    execute_runs hon (Bool.and_false _) rfl hmin hrun (by
      rw [hroom]
      exact hdata.trans_le (by decide))
  have hserve : serve cmdGetStatus r u = answer r.who r.key r.code r.seq (okRes (statusBytes u) u) := by
    unfold serve
    dsimp only
    rw [if_neg (fun e => e.1 hlast), hexec]
    rfl
  have hbig : ¬ 256 + src < 256 := by omega
  rw [hserve]
  unfold answer sendReply
  rw [hwho, hcode, if_neg hbig, Nat.add_sub_cancel_left]
  obtain ⟨n, h⟩ := remoteReply_sends r.key src (message 2 r.seq false 0 0 (statusBytes u)) (u.mapFw (fun f => { f with
    last := tput (0, 0, []) f.last (256 + src) (2, r.seq, message 2 r.seq true 0 0 (statusBytes u)) }))
  exact ⟨n, _, h⟩

end Remote

end Sys2Proof.Machine
end

section

/-! SUPPORT. The mailbox handshake: O55. -/

namespace Sys2Proof.Machine
open R

/-- An accepted frame with GET_STATUS is answered under its key with the next own counter. -/
theorem remote_answers {src : Nat} {l : List Byte} {s : State} (hup : fwUp s = true) (hmin : minimal s = false) (hlen : 48 ≤ l.length)
    (hver : le l 0 2 = 1) (hkey : frameKey s l ≠ []) (htag : frameTag s l = l.drop (l.length - 16))
    (hnew : ∀ c, lastCounter s (le l 2 2) src = some c → c < le l 8 8) (hcode : le (frameMessage s l) 0 2 = 2)
    (hfields : le (frameMessage s l) 4 2 = 0) (hsize : (frameMessage s l).length = 16)
    (hlast : (tget (0, 0, []) s.fw.last (256 + src)).2.2 = []) : ∃ t, doRemoteFrame src l s = t ∧
      t.fw.counters = noteCounter (le l 2 2) src (le l 8 8) s.fw.counters ∧ t.fw.ownCtr = (s.fw.ownCtr + 1) % 2 ^ 64 ∧
      t.regs = s.regs ∧ t.mem = s.mem ∧
      t.fw.sentRemote = [(src, replyFrame (le l 2 2) (message 2 (le (frameMessage s l) 2 2) false 0 0 (statusBytes s)) s)] := by
  obtain ⟨h0, h1⟩ := frame_version hver
  have hserve : doRemoteFrame src l s = serve cmdGetStatus (frameRequest src l s) (frameAccepted src l s) := by
    refine remote_serves hup hmin hlen h0 h1 hkey htag hnew (hfields.trans (by rw [hsize])) ?_
    rw [show (frameRequest src l s).code = 2 from hcode]
    rfl
  obtain ⟨n, k, h⟩ := remote_status (r := frameRequest src l s) (u := frameAccepted src l s) rfl hcode hfields hmin hlast
  exact ⟨_, hserve.trans h, rfl, rfl, rfl, rfl, rfl⟩

/-- Settles O55, operation by operation. -/
theorem mailboxHandshakeCompletes : Obligations.MailboxHandshakeCompletes := by
  unfold Obligations.MailboxHandshakeCompletes
  intro ag i w v s st
  refine ⟨fun hoff => ⟨.of_eq rfl (if_pos hoff), .of_eq rfl (if_pos hoff), .of_eq rfl (if_pos hoff), .of_eq rfl (if_pos hoff)⟩,
    fun hoff => ⟨fun h => completes_of_exists rfl (request_stores hoff h), fun h => .of_eq rfl (request_busy hoff h),
      fun h => completes_of_exists rfl (ring_requests i.isLt hoff h), fun h => completes_of_exists rfl (ring_ignored hoff h),
      fun h => completes_of_exists rfl (ack_frees hoff h), fun b h hb => completes_of_exists rfl (ack_posts hoff h hb),
      fun h => completes_of_exists rfl (abort_withdraws hoff h), fun h => completes_of_exists rfl (abort_ignored hoff h)⟩,
    fun h => ⟨.of_eq rfl (if_pos h), .of_eq rfl (if_pos h)⟩, completes_of_exists rfl take_takes,
    fun h => completes_of_exists rfl (post_posts h), fun h => completes_of_exists rfl (post_ignored h),
    fun l h => .of_eq rfl (spi_ignored h), fun l hd hb hl => completes_of_exists rfl (spi_writes hd hb hl),
    fun n hd => completes_of_exists rfl (spi_reads hd (by omega)), fun hd hb => completes_of_exists rfl (spi_rings hd hb),
    fun src l => ⟨fun h => .of_eq rfl (remote_ignored h), fun hup hmin hlen hver hkey htag hnew hcode hfields hsize hlast => ?_⟩⟩
  obtain ⟨t, ht, h1, h2, h3, h4, h5⟩ := remote_answers hup hmin hlen hver hkey htag hnew hcode hfields hsize hlast
  refine ⟨t, .of_eq rfl ht, h1, h2, h3, h4, ?_⟩
  rw [h5, h2]
  rfl

end Sys2Proof.Machine
end

section

/-! SUPPORT. Writes of control registers by an agent of the fabric (R441). -/

namespace Sys2Proof.Machine
open R

section Fabric
variable {ag : Agent} {s : State} {a : Nat} {v : Word}

theorem touched_word (h : a % 4 = 0) : touched a 4 = [(a, true)] := by
  have hn : (a + 4 + 3) / 4 - a / 4 = 1 := by omega
  have ha : 4 * (a / 4 + 0) = a := by omega
  unfold touched
  rw [hn]
  simp only [List.range_one, List.map_cons, List.map_nil, ha]
  rw [decide_eq_true (by omega)]

theorem word_of_bytes (v : Word) : BitVec.ofNat 32 (leNat ((leBytes 4 v.toNat).take 4)) = v := by
  rw [List.take_of_length_le (Nat.le_of_eq (leBytes_length 4 _)), leNat_leBytes]
  refine BitVec.eq_of_toNat_eq ?_
  rw [BitVec.toNat_ofNat]
  omega

theorem ctlWrite_word (h4 : a % 4 = 0) (hoff : blockOff s a = false) : ctlWrite ag s a (leBytes 4 v.toNat) = (false, regWrite ag a v s) := by
  unfold ctlWrite
  rw [hoff, leBytes_length, touched_word h4]
  simp only [List.foldl_cons, List.foldl_nil, Bool.false_eq_true, if_false, if_true, Nat.sub_self, List.drop_zero]
  rw [word_of_bytes]

/-- A write of an aligned word of a control block that answers. -/
theorem busWrite_control (hc : isControl a = true) (hhigh : 0x1000000000 ≤ a) (h4 : a % 4 = 0) (hoff : blockOff s a = false) :
    busWrite ag s a (leBytes 4 v.toNat) = (false, regWrite ag a v s) := by
  have hraw : busWriteRaw ag s a (leBytes 4 v.toNat) = (false, regWrite ag a v s) := by
    unfold busWriteRaw
    dsimp only
    rw [leBytes_length, if_neg (by omega), if_pos hc, ctlWrite_word h4 hoff]
  unfold busWrite
  rw [hraw]
  rfl

/-- Firmware's write of a register of the device control blocks. -/
theorem fwWrite_block (hlo : 0x2000000000 ≤ a) (hhi : a < 0x200046E000) (h4 : a % 4 = 0) (hoff : blockOff s a = false) :
    fwWrite a v s = writeBlock .clove a v s := by
  have hc : isControl a = true := by
    unfold isControl
    rw [decide_eq_true hlo, decide_eq_true hhi]
    rfl
  unfold fwWrite
  rw [busWrite_control hc (by omega) h4 hoff]
  exact if_neg (by omega)

/-- The blocks of the exchange, and all behind it but the drive and security blocks, answer in every clock state. -/
theorem blockOff_on (hlo : SX_ID ≤ a) (hd : a < DRV_ID ∨ SF_ID ≤ a) (hs : a < SEC_ID ∨ CK_ID ≤ a) : blockOff s a = false := by
  have h : 0x2000200000 ≤ a := hlo
  unfold blockOff
  dsimp only
  rw [if_neg (by omega), if_neg (by omega), if_neg (by omega), if_neg (by omega), if_neg (by omega)]

theorem blockOff_drv (hlo : DRV_ID ≤ a) (hhi : a < SF_ID) : blockOff s a = domainOff s 45 := by
  have h : 0x2000458000 ≤ a := hlo
  unfold blockOff
  dsimp only
  rw [if_neg (by omega), if_neg (by omega), if_neg (by omega), if_pos ⟨hlo, hhi⟩]

/-! ### The blocks (R441) -/

theorem not_below (x : Nat) {y : Nat} (h : x ≤ y) (ha : y ≤ a) : ¬ a < x := Nat.not_lt.2 (h.trans ha)

theorem writeBlock_sx (hlo : SX_ID ≤ a) (hhi : a < BB_ID) : writeBlock ag a v s = writeSx ag (a - SX_ID) v s := by
  unfold writeBlock
  rw [if_neg (not_below SX_ID (by decide) hlo), if_pos hhi]

theorem writeBlock_mb (hlo : mbRequest 0 ≤ a) (hhi : a < DBG_ID) : writeBlock ag a v s = writeMb ag (a - mbRequest 0) v s := by
  unfold writeBlock
  rw [if_neg (not_below SX_ID (by decide) hlo), if_neg (not_below BB_ID (by decide) hlo), if_neg (not_below MC_ID (by decide) hlo),
    if_neg (not_below FL_ID (by decide) hlo), if_neg (not_below (mbRequest 0) (by decide) hlo), if_pos hhi]

theorem writeBlock_drv (hlo : DRV_ID ≤ a) (hhi : a < SF_ID) : writeBlock ag a v s = writeDrv (a - DRV_ID) v s := by
  unfold writeBlock
  rw [if_neg (not_below SX_ID (by decide) hlo), if_neg (not_below BB_ID (by decide) hlo), if_neg (not_below MC_ID (by decide) hlo),
    if_neg (not_below FL_ID (by decide) hlo), if_neg (not_below (mbRequest 0) (by decide) hlo), if_neg (not_below DBG_ID (by decide) hlo),
    if_neg (not_below IC_ID (by decide) hlo), if_neg (not_below QM_ID (by decide) hlo), if_neg (not_below MS_ID (by decide) hlo),
    if_neg (not_below DRV_ID (by decide) hlo), if_pos hhi]

theorem writeBlock_net (hlo : NET_ID ≤ a) (hhi : a < SNS_ID) : writeBlock ag a v s = writeNet (a - NET_ID) v s := by
  unfold writeBlock
  rw [if_neg (not_below SX_ID (by decide) hlo), if_neg (not_below BB_ID (by decide) hlo), if_neg (not_below MC_ID (by decide) hlo),
    if_neg (not_below FL_ID (by decide) hlo), if_neg (not_below (mbRequest 0) (by decide) hlo), if_neg (not_below DBG_ID (by decide) hlo),
    if_neg (not_below IC_ID (by decide) hlo), if_neg (not_below QM_ID (by decide) hlo), if_neg (not_below MS_ID (by decide) hlo),
    if_neg (not_below DRV_ID (by decide) hlo), if_neg (not_below SF_ID (by decide) hlo), if_neg (not_below TDMA_ID (by decide) hlo),
    if_neg (not_below AN_ID (by decide) hlo), if_neg (not_below NET_ID (by decide) hlo), if_pos hhi]

theorem writeBlock_system (h : BT_ID ≤ a) : writeBlock ag a v s = writeSystem ag a v s := by
  unfold writeBlock
  rw [if_neg (not_below SX_ID (by decide) h), if_neg (not_below BB_ID (by decide) h), if_neg (not_below MC_ID (by decide) h),
    if_neg (not_below FL_ID (by decide) h), if_neg (not_below (mbRequest 0) (by decide) h), if_neg (not_below DBG_ID (by decide) h),
    if_neg (not_below IC_ID (by decide) h), if_neg (not_below QM_ID (by decide) h), if_neg (not_below MS_ID (by decide) h),
    if_neg (not_below DRV_ID (by decide) h), if_neg (not_below SF_ID (by decide) h), if_neg (not_below TDMA_ID (by decide) h),
    if_neg (not_below AN_ID (by decide) h), if_neg (not_below NET_ID (by decide) h), if_neg (not_below SNS_ID (by decide) h),
    if_neg (not_below CV_ID (by decide) h), if_neg (not_below BT_ID (by decide) h)]

theorem writeBlock_fl {f r : Nat} (hf : f < 3072) (hr : r < 14) : writeBlock ag (FL_f_CTL f + 4 * r) v s = doFlowFieldWrite f r v s := by
  have hx : (FL_f_CTL f + 4 * r - FL_f_CTL 0) / 0x40 = f := by simp only [FL_f_CTL]; omega
  have hy : (FL_f_CTL f + 4 * r) % 0x40 = 4 * r := by simp only [FL_f_CTL]; omega
  have hlo : FL_ID ≤ FL_f_CTL f + 4 * r := by simp only [FL_f_CTL, FL_ID]; omega
  have hin : FL_f_CTL 0 ≤ FL_f_CTL f + 4 * r ∧ (FL_f_CTL f + 4 * r) % 0x40 < 0x38 ∧ (FL_f_CTL f + 4 * r - FL_f_CTL 0) / 0x40 < 3072 :=
    ⟨by simp only [FL_f_CTL]; omega, by omega, by omega⟩
  unfold writeBlock
  rw [if_neg (not_below SX_ID (by decide) hlo), if_neg (not_below BB_ID (by decide) hlo), if_neg (not_below MC_ID (by decide) hlo),
    if_neg (not_below FL_ID (by decide) hlo), if_pos (by simp only [FL_f_CTL, mbRequest]; omega),
    if_pos hin, hx, hy, Nat.mul_div_cancel_left r (by decide)]

theorem writeBlock_flHead (hlo : FL_ID ≤ a) (hhi : a < FL_f_CTL 0) : writeBlock ag a v s = s.writeByType a v := by
  unfold writeBlock
  rw [if_neg (not_below SX_ID (by decide) hlo), if_neg (not_below BB_ID (by decide) hlo), if_neg (not_below MC_ID (by decide) hlo),
    if_neg (not_below FL_ID (by decide) hlo), if_pos (hhi.trans (by decide)), if_neg (by omega)]

/-! ### Firmware's writes, block by block -/

theorem fwWrite_on (hlo : SX_ID ≤ a) (hhi : a < 0x200046E000) (h4 : a % 4 = 0) (hd : a < DRV_ID ∨ SF_ID ≤ a) (hs : a < SEC_ID ∨ CK_ID ≤ a) :
    fwWrite a v s = writeBlock .clove a v s :=
  fwWrite_block ((by decide : 0x2000000000 ≤ SX_ID).trans hlo) hhi h4 (blockOff_on hlo hd hs)

theorem fwWrite_sx (hlo : SX_ID ≤ a) (hhi : a < BB_ID) (h4 : a % 4 = 0) : fwWrite a v s = writeSx .clove (a - SX_ID) v s := by
  rw [fwWrite_on ((by decide : SX_ID ≤ SX_ID).trans hlo) (hhi.trans (by decide)) h4 (.inl (hhi.trans_le (by decide))) (.inl (hhi.trans_le (by decide))), writeBlock_sx hlo hhi]

theorem fwWrite_flHead (hlo : FL_ID ≤ a) (hhi : a < FL_f_CTL 0) (h4 : a % 4 = 0) : fwWrite a v s = s.writeByType a v := by
  rw [fwWrite_on ((by decide : SX_ID ≤ FL_ID).trans hlo) (hhi.trans (by decide)) h4 (.inl (hhi.trans_le (by decide))) (.inl (hhi.trans_le (by decide))), writeBlock_flHead hlo hhi]

theorem fwWrite_mb (hlo : mbRequest 0 ≤ a) (hhi : a < DBG_ID) (h4 : a % 4 = 0) : fwWrite a v s = writeMb .clove (a - mbRequest 0) v s := by
  rw [fwWrite_on ((by decide : SX_ID ≤ mbRequest 0).trans hlo) (hhi.trans (by decide)) h4 (.inl (hhi.trans_le (by decide))) (.inl (hhi.trans_le (by decide))), writeBlock_mb hlo hhi]

theorem fwWrite_net (hlo : NET_ID ≤ a) (hhi : a < SNS_ID) (h4 : a % 4 = 0) : fwWrite a v s = writeNet (a - NET_ID) v s := by
  rw [fwWrite_on ((by decide : SX_ID ≤ NET_ID).trans hlo) (hhi.trans (by decide)) h4 (.inr ((by decide : SF_ID ≤ NET_ID).trans hlo)) (.inl (hhi.trans_le (by decide))), writeBlock_net hlo hhi]

theorem fwWrite_bt (hlo : BT_ID ≤ a) (hhi : a < SEC_ID) (h4 : a % 4 = 0) : fwWrite a v s = writeSystem .clove a v s := by
  rw [fwWrite_on ((by decide : SX_ID ≤ BT_ID).trans hlo) (hhi.trans (by decide)) h4 (.inr ((by decide : SF_ID ≤ BT_ID).trans hlo)) (.inl hhi),
    writeBlock_system hlo]

theorem fwWrite_drv (hlo : DRV_ID ≤ a) (hhi : a < SF_ID) (h4 : a % 4 = 0) (hoff : domainOff s 45 = false) :
    fwWrite a v s = writeDrv (a - DRV_ID) v s := by
  rw [fwWrite_block ((by decide : 0x2000000000 ≤ DRV_ID).trans hlo) (hhi.trans (by decide)) h4 ((blockOff_drv hlo hhi).trans hoff),
    writeBlock_drv hlo hhi]

theorem fwWrite_fl {f r : Nat} (hf : f < 3072) (hr : r < 14) : fwWrite (FL_f_CTL f + 4 * r) v s = doFlowFieldWrite f r v s := by
  rw [fwWrite_on (by simp only [FL_f_CTL, SX_ID]; omega) (by simp only [FL_f_CTL]; omega) (by simp only [FL_f_CTL]; omega)
    (.inl (by simp only [FL_f_CTL, DRV_ID]; omega)) (.inl (by simp only [FL_f_CTL, SEC_ID]; omega)), writeBlock_fl hf hr]

end Fabric

end Sys2Proof.Machine
end

section

/-! SUPPORT. The Molalrik commands of the group System: O56. -/

namespace Sys2Proof.Machine
open R

section
variable {i code flags : Nat} {p : List Byte} {s : State}

/-! ### What the taking of a request leaves -/

theorem ne_stat (hi : i < 18) {a : Nat} (h : a < 0x20003F0000 ∨ 0x20003F0240 ≤ a) : a ≠ MB_i_STAT i := by
  simp only [MB_i_STAT]
  omega

theorem perm_ne_stat (i k : Nat) : MB_i_PERM k ≠ MB_i_STAT i := by
  simp only [MB_i_PERM, MB_i_STAT]
  omega

theorem regBytes_of_reg_eq {t : State} {a : Nat} (h : t.reg a = s.reg a) : regBytes t a = regBytes s a := by
  unfold regBytes
  rw [h]

theorem take_reg (s : State) {a : Nat} (h : a ≠ MB_i_STAT i) : (take i s).reg a = s.reg a := (take_onlyReply i s).reg_eq h
theorem take_fld (s : State) {a : Nat} (h : a ≠ MB_i_STAT i) (f : Fld) : (take i s).fld a f = s.fld a f := fld_of_reg_eq (take_reg s h) f
theorem take_flag_other (s : State) {a : Nat} (h : a ≠ MB_i_STAT i) (f : Fld) : (take i s).flag a f = s.flag a f := flag_of_reg_eq (take_reg s h) f

theorem take_regBytes (s : State) {a : Nat} (h : a ≠ MB_i_STAT i) : regBytes (take i s) a = regBytes s a := regBytes_of_reg_eq (take_reg s h)

theorem regBytes_length (s : State) (a : Nat) : (regBytes s a).length = 4 := leBytes_length ..

theorem Pending.take_up (h : Pending i code flags p s) (hi : i < 18) : minimal (take i s) = false :=
  (minimal_of_reg_eq (take_reg s (ne_stat hi (by decide)))).trans h.up

/-! ### GET_VERSION and GET_STATUS -/

theorem version_reads (h : Pending i 1 flags p s) (hi : i < 18) (hp : p.length = 0) :
    ∃ t, doCommand cmdGetVersion i s = t ∧ OnlyReply i s t ∧ Replied i 0 0 ([1, 0, 4, 0] ++ leBytes 4 s.fw.fwBuild ++
      regBytes s MC_ROM_VER ++ leBytes 4 s.fw.patchVer ++ regBytes s CV_DT_VER ++ regBytes s (SU_c_DT_VER 0) ++ [0, 1, 0, 0]) s t := by
  have hbytes : versionBytes (take i s) = [1, 0, 4, 0] ++ leBytes 4 s.fw.fwBuild ++
      regBytes s MC_ROM_VER ++ leBytes 4 s.fw.patchVer ++ regBytes s CV_DT_VER ++ regBytes s (SU_c_DT_VER 0) ++ [0, 1, 0, 0] := by
    unfold versionBytes
    rw [h.take_up hi, if_neg (by decide), take_regBytes s (ne_stat hi (by decide)), take_regBytes s (ne_stat hi (by decide)),
      take_regBytes s (ne_stat hi (by decide))]
    rfl
  have hrun : cmdGetVersion.run (mailRequest s i) (take i s) = okRes (versionBytes (take i s)) (take i s) := by
    show okRes (versionBytes (take i s)) (if minimal (take i s) = true then (take i s).freeNext else take i s) = _
    rw [h.take_up hi, if_neg (by decide)]
  have hlen : (versionBytes (take i s)).length ≤ 4080 := by
    rw [hbytes]
    simp only [List.length_append, leBytes_length, regBytes_length]
    decide
  obtain ⟨t, ht, honly, hrep⟩ := h.reads hi rfl hlen (h.runs hi rfl (h.lenOk hp) rfl hrun hlen)
  rw [hbytes] at hrep
  exact ⟨t, ht, honly, hrep⟩

theorem status_reads (h : Pending i 2 flags p s) (hi : i < 18) (hp : p.length = 0) :
    ∃ t, doCommand cmdGetStatus i s = t ∧ OnlyReply i s t ∧
      Replied i 0 0 ([0] ++ leBytes 1 (roleCode s) ++ [0, 0] ++ regBytes s BT_CAUSE ++ leBytes 8 s.frame ++ leBytes 4 (epochNow s)) s t := by
  have hbytes : statusBytes (take i s) =
      [0] ++ leBytes 1 (roleCode s) ++ [0, 0] ++ regBytes s BT_CAUSE ++ leBytes 8 s.frame ++ leBytes 4 (epochNow s) := by
    unfold statusBytes
    rw [h.take_up hi, take_regBytes s (ne_stat hi (by decide))]
    rfl
  have hlen : (statusBytes (take i s)).length ≤ 4080 := by
    rw [hbytes]
    simp only [List.length_append, leBytes_length, regBytes_length]
    decide
  obtain ⟨t, ht, honly, hrep⟩ := h.reads hi rfl hlen (h.runs (c := cmdGetStatus) hi rfl (h.lenOk hp) rfl rfl hlen)
  rw [hbytes] at hrep
  exact ⟨t, ht, honly, hrep⟩

/-! ### SET_MB_PERM -/

theorem fieldsAt_MB_i_PERM {k : Nat} (h : k < 18) : fieldsAt (MB_i_PERM k) = [⟨0, 10, .rw⟩, ⟨15, 1, .ro⟩] := by
  have hall : ∀ k : Fin 18, fieldsAt (MB_i_PERM k) = [⟨0, 10, .rw⟩, ⟨15, 1, .ro⟩] := by decide
  exact hall ⟨k, h⟩

theorem fwWrite_perm {k : Nat} {v : Word} (h : k < 18) : fwWrite (MB_i_PERM k) v s = s.writeByType (MB_i_PERM k) v := by
  have ho : MB_i_PERM k - mbRequest 0 = 0x3000C + k * 0x20 := by simp only [MB_i_PERM, mbRequest]; omega
  rw [fwWrite_mb (by simp only [MB_i_PERM, mbRequest]; omega) (by simp only [MB_i_PERM, DBG_ID]; omega) (by simp only [MB_i_PERM]; omega), ho]
  unfold writeMb
  dsimp only
  have hj : (0x3000C + k * 0x20 - 0x30000) / 0x20 = k := by omega
  have hr : (0x3000C + k * 0x20) % 0x20 = 0xC := by omega
  rw [if_neg (by unfold hostHides; simp), if_neg (by omega), if_pos (by omega), hr, hj]
  rfl

/-- The bits of a written number. -/
theorem bits_ofNat {v : Nat} (hv : v < 2 ^ 32) (lo w : Nat) : bits (BitVec.ofNat 32 v).toNat lo w = bits v lo w := by
  rw [BitVec.toNat_ofNat, Nat.mod_eq_of_lt hv]

theorem leNat_lt (l : List Byte) : leNat l < 2 ^ (8 * l.length) := by
  induction l with
  | nil => exact Nat.one_pos
  | cons b l ih =>
    have hb := b.isLt
    have hpow : 2 ^ (8 * (b :: l).length) = 256 * 2 ^ (8 * l.length) := by
      rw [List.length_cons, Nat.mul_add, Nat.pow_add, Nat.mul_comm]
    rw [hpow, leNat]
    omega

theorem le_lt (l : List Byte) (o n : Nat) : le l o n < 2 ^ (8 * n) := by
  have hlen : (slice l o n).length = n := by
    unfold slice
    simp only [List.length_append, List.length_take, zeros, List.length_replicate]
    omega
  have h := leNat_lt (slice l o n)
  rwa [hlen] at h

theorem perm_refuses (h : Pending i 3 flags p s) (hi : i < 18) (hp : p.length = 4)
    (hno : i ≠ 0 ∧ i ≠ 16 ∨ le p 0 1 = 0 ∨ le p 0 1 = 16) :
    ∃ t, doCommand cmdSetMbPerm i s = t ∧ OnlyReply i s t ∧ Replied i 5 0 [] s t := by
  refine h.refused hi rfl ?_
  by_cases hden : i ≠ 0 ∧ i ≠ 16
  · have hd : cmdSetMbPerm.denied (mailRequest s i) (take i s) = true := by
      show (i ≠ 0 && i ≠ 16) = true
      simp [hden]
    unfold execute
    rw [hd]
    simp only [Bool.or_true, if_true]
    rfl
  · have hd : cmdSetMbPerm.denied (mailRequest s i) (take i s) = false := by
      show (i ≠ 0 && i ≠ 16) = false
      simpa using hden
    refine h.runs hi rfl (h.lenOk hp) hd ?_ (Nat.zero_le _)
    show runSetMbPerm _ _ = _
    unfold runSetMbPerm
    rw [h.field]
    exact if_pos (hno.resolve_left hden)

theorem perm_sets (h : Pending i 3 flags p s) (hi : i < 18) (hp : p.length = 4) (hw : i = 0 ∨ i = 16) (h0 : le p 0 1 ≠ 0) (h16 : le p 0 1 ≠ 16)
    (hk : le p 0 1 < 18) (hg : le p 2 2 < 1024) : ∃ t, doCommand cmdSetMbPerm i s = t ∧
      Replied i 0 0 [] s t ∧ t.fld (MB_i_PERM (le p 0 1)) MB_i_PERM_GROUPS = le p 2 2 := by
  let u := (take i s).writeByType (MB_i_PERM (le p 0 1)) (BitVec.ofNat 32 (le p 2 2))
  have hd : cmdSetMbPerm.denied (mailRequest s i) (take i s) = false := by
    show (i ≠ 0 && i ≠ 16) = false
    rcases hw with rfl | rfl <;> rfl
  have hrun : cmdSetMbPerm.run (mailRequest s i) (take i s) = okRes [] u := by
    show runSetMbPerm _ _ = _
    unfold runSetMbPerm
    rw [h.field, h.field, if_neg (not_or.2 ⟨h0, h16⟩), checked_ok, fwWrite_perm hk]
    intro e he
    simp only [List.mem_cons, List.not_mem_nil, or_false] at he
    rcases he with rfl | rfl <;> exact decide_eq_false (by omega)
  have hkeep : u.reg (MB_i_STAT i) = (take i s).reg (MB_i_STAT i) := reg_writeByType_other _ _ _ _ (perm_ne_stat i _).symm
  obtain ⟨t, ht, honly, hrep⟩ := h.replies hi rfl (h.runs hi rfl (h.lenOk hp) hd hrun (Nat.zero_le _)) rfl (Nat.zero_le _) hkeep
  refine ⟨t, ht, hrep, (honly.fld_eq (perm_ne_stat i _) _).trans ?_⟩
  refine (fld_writeByType _ _ _ MB_i_PERM_GROUPS .rw (fieldsAt_MB_i_PERM hk) (by decide) (by decide)).trans ?_
  show bits (BitVec.ofNat 32 (le p 2 2)).toNat 0 10 = le p 2 2
  rw [bits_ofNat (by omega)]
  unfold bits
  omega

/-! ### RESET -/

theorem fwWrite_btCtl (s : State) (v : Word) : fwWrite BT_CTL v s = writeBtCtl .clove v s := by
  rw [fwWrite_bt (by decide) (by decide) (by decide)]
  rfl

/-- What a commit of the rollback counter keeps. -/
theorem commitConfirmed_keeps (s : State) : (commitConfirmed s).rstReq = s.rstReq ∧ (commitConfirmed s).fw = s.fw ∧
    ∀ a, a ≠ BT_CTL → (commitConfirmed s).reg a = s.reg a := by
  have hcommit (u : State) : (commitRb u).rstReq = u.rstReq ∧ (commitRb u).fw = u.fw ∧ (commitRb u).regs = u.regs := by
    unfold commitRb
    by_cases hc : (inRun u && !u.flag BT_STAT BT_STAT_KIND) = true
    · rw [if_pos hc]
      exact ⟨rfl, rfl, rfl⟩
    · rw [if_neg hc]
      exact ⟨rfl, rfl, rfl⟩
  unfold commitConfirmed
  dsimp only
  by_cases hodd : (s.free .unstated) % 2 = 1
  · rw [if_pos hodd, fwWrite_btCtl]
    obtain ⟨h1, h2, h3⟩ := hcommit (s.freeNext.writeByType BT_CTL 2)
    have hw : writeBtCtl .clove 2 s.freeNext = commitRb (s.freeNext.writeByType BT_CTL 2) := rfl
    rw [hw]
    have hrest := writeByType_rest s.freeNext BT_CTL 2
    refine ⟨h1.trans (congrArg State.rstReq hrest :), h2.trans (congrArg State.fw hrest :), fun a ha => ?_⟩
    exact (reg_of_regs_eq h3 a).trans (reg_writeByType_other _ _ _ _ ha)
  · rw [if_neg hodd]
    exact ⟨rfl, rfl, fun _ _ => rfl⟩

/-- The request of a reset by firmware. -/
theorem reset_requested (s : State) : (busWrite .clove s PM_RST_CTL [1, 0, 0, 0]).2 =
    { s.writeByType PM_RST_CTL 1 with rstReq := (s.writeByType PM_RST_CTL 1).rstReq ++ [5] } := by
  have h : (busWrite .clove s PM_RST_CTL [1, 0, 0, 0]).2 = fwWrite PM_RST_CTL 1 s := rfl
  rw [h, fwWrite_on (by decide) (by decide) (by decide) (by decide) (by decide), writeBlock_system (by decide)]
  rfl

theorem reset_runs (h : Pending i 4 flags [0] s) (hi : i < 18) :
    ∃ t, doCommand cmdReset i s = t ∧ Replied i 0 0 [] s t ∧ t.rstReq = s.rstReq ++ [5] := by
  let x : CmdRes := { okRes [] (commitConfirmed (take i s)) with job := some .reset }
  let u := answer i 0 (mailRequest s i).code (mailRequest s i).seq x
  obtain ⟨hrst, hfw, hregs⟩ := commitConfirmed_keeps (take i s)
  have hzero : le [0] 0 1 = 0 := rfl
  have hrun : cmdReset.run (mailRequest s i) (take i s) = x := by
    show runReset _ _ = _
    unfold runReset
    rw [h.field, hzero, checked_ok]
    intro e he
    rw [List.mem_singleton.1 he]
    rfl
  have hexec := h.runs (c := cmdReset) hi rfl (h.lenOk rfl) rfl hrun (Nat.zero_le _)
  have hkeep : x.s.reg (MB_i_STAT i) = (take i s).reg (MB_i_STAT i) := hregs _ (ne_stat hi (by decide)).symm
  have hv : mbFlag x.s i MB_i_STAT_RPL_VALID = false := (mbFlag_of_reg_eq hkeep _).trans ((take_flag i s _).trans h.free)
  have hp : mbFlag x.s i MB_i_STAT_REQ_PEND = false := (mbFlag_of_reg_eq hkeep _).trans (take_pend i s)
  obtain ⟨honly, h2, h3, h4, h5⟩ := answer_posts (mailRequest s i).code (mailRequest s i).seq hi hv hp (Nat.zero_le _ : x.data.length ≤ 4080)
  have hwait : tget [] u.fw.waitPost i = [] := by
    have hready := h.ready
    unfold mailReady at hready
    simp only [Bool.and_eq_true, decide_eq_true_eq] at hready
    have hsame : u.fw.waitPost = s.fw.waitPost := (congrArg Fw.waitPost honly.fw_rest).trans (congrArg Fw.waitPost hfw)
    rw [hsame]
    exact hready.1.2
  have heq : doCommand cmdReset i s = (busWrite .clove u PM_RST_CTL [1, 0, 0, 0]).2 := by
    rw [doCommand_serves h rfl]
    unfold serve
    have hnot := h.not_repeated
    dsimp only
    rw [show (mailRequest s i).who = i from rfl, if_neg hnot, hexec]
    exact if_neg (fun e => e.2 hwait)
  rw [heq, reset_requested]
  have hreg : (u.writeByType PM_RST_CTL 1).reg (MB_i_STAT i) = u.reg (MB_i_STAT i) :=
    reg_writeByType_other _ _ _ _ (ne_stat hi (by decide)).symm
  have hflag (f : Fld) : mbFlag (u.writeByType PM_RST_CTL 1) i f = mbFlag u i f := mbFlag_of_reg_eq hreg f
  refine ⟨_, rfl, ⟨(hflag _).trans h2, (hflag _).trans h3, (hflag _).trans h4, ?_⟩, ?_⟩
  · exact (bytes_of_mem_eq (writeByType_mem u PM_RST_CTL 1) _ _).trans h5
  · have e1 : (u.writeByType PM_RST_CTL 1).rstReq = u.rstReq := (congrArg State.rstReq (writeByType_rest u PM_RST_CTL 1) :)
    have e2 : u.rstReq = s.rstReq := (congrArg State.rstReq honly.rest :).trans hrst
    exact congrArg (· ++ [5]) (e1.trans e2)

/-! ### HUB_CFG -/

theorem hub_sets (h : Pending i 6 flags p s) (hi : i < 18) (hp : p.length = 2) (h0 : le p 0 1 ≤ 1) : ∃ t, doCommand cmdHubCfg i s = t ∧
    Replied i 0 0 (leBytes 1 (roleCode t) ++ leBytes 4 (epochNow t)) s t ∧ t.net = { s.net with
      hubEligible := le p 0 1 = 1, hubPrio := le p 1 1, hubRole := if le p 0 1 = 1 then s.net.hubRole else 0 } := by
  let u := (take i s).mapNet (fun n => { n with
    hubEligible := le p 0 1 = 1, hubPrio := le p 1 1, hubRole := if le p 0 1 = 1 then n.hubRole else 0 })
  have hrun : cmdHubCfg.run (mailRequest s i) (take i s) = okRes (leBytes 1 (roleCode u) ++ leBytes 4 (epochNow u)) u := by
    show runHubCfg _ _ = _
    unfold runHubCfg
    rw [h.field, h.field, checked_ok]
    intro e he
    rw [List.mem_singleton.1 he]
    exact decide_eq_false (by omega)
  have hlen : (leBytes 1 (roleCode u) ++ leBytes 4 (epochNow u)).length ≤ 4080 := by
    simp only [List.length_append, leBytes_length]
    decide
  obtain ⟨t, ht, honly, hrep⟩ := h.replies hi rfl (h.runs hi rfl (h.lenOk hp) rfl hrun hlen) rfl hlen rfl
  have hnet : t.net = u.net := (congrArg State.net honly.rest :)
  refine ⟨t, ht, ?_, hnet⟩
  unfold roleCode epochNow
  rw [hnet]
  exact hrep

/-! ### SX_RESTART -/

theorem filterMap_tput {α β : Type} [DecidableEq α] {d : α} {a : Nat} {v : α} {f : Nat × α → Option β} (hf : ∀ e, e.1 ≤ a → f e = none) :
    ∀ l : List (Nat × α), (tput d l a v).filterMap f = l.filterMap f
  | [] => by
    unfold tput
    by_cases hv : v = d
    · rw [if_pos hv]
    · rw [if_neg hv, List.filterMap_cons_none (hf _ (Nat.le_refl a))]
  | (k, w) :: t => by
    have hdrop : ∀ l : List (Nat × α), (l.dropWhile (fun e => decide (e.1 ≤ a))).filterMap f = l.filterMap f := by
      intro l
      induction l with
      | nil => rfl
      | cons e l ih =>
        by_cases he : e.1 ≤ a
        · rw [List.dropWhile_cons_of_pos (by simpa using he), ih, List.filterMap_cons_none (hf e he)]
        · rw [List.dropWhile_cons_of_neg (by simpa using he)]
    unfold tput
    by_cases h1 : a < k
    · rw [if_pos h1]
      by_cases hv : v = d
      · rw [if_pos hv]
      · rw [if_neg hv, List.filterMap_cons_none (hf _ (Nat.le_refl a))]
    · rw [if_neg h1]
      by_cases h2 : a = k
      · rw [if_pos h2, List.filterMap_cons_none (hf (k, w) (by omega : k ≤ a))]
        by_cases hv : v = d
        · rw [if_pos hv, hdrop]
        · rw [if_neg hv, List.filterMap_cons_none (hf _ (Nat.le_refl a))]
      · rw [if_neg h2, List.filterMap_cons, List.filterMap_cons, filterMap_tput hf t]

/-- A write below a run of registers changes none that are listed of it. -/
theorem listed_setReg (s : State) {a : Nat} (v : Word) {base : Nat} (stride n : Nat) (h : a < base) :
    (s.setReg a v).listed base stride n = s.listed base stride n := by
  unfold State.listed State.setReg
  exact filterMap_tput (fun e he => if_neg (by omega)) _

end

end Sys2Proof.Machine
end

section

/-! SUPPORT. SX_RESTART and the Molalrik commands of the group Routing: O56. -/

namespace Sys2Proof.Machine
open R

section
variable {i code flags : Nat} {p : List Byte} {s : State}

/-! ### Writes of the exchange by firmware -/

theorem fwWrite_sxCtl (v : Word) (s : State) : fwWrite SX_CTL v s = writeSxCtl v s := by
  rw [fwWrite_sx (by decide) (by decide) (by decide)]
  rfl

theorem fwWrite_planeCtl (v : Word) (s : State) : fwWrite SX_PLANE_CTL v s = doPlaneSelectWrite .clove v s := by
  rw [fwWrite_sx (by decide) (by decide) (by decide)]
  rfl

theorem fwWrite_tpCfg (v : Word) (s : State) {k : Nat} (h : k < 12) : fwWrite (SX_TP_t_CFG k) v s = doTpCfgWrite .clove k v s := by
  have ho : SX_TP_t_CFG k - SX_ID = 0x100 + k * 0x10 := by simp only [SX_TP_t_CFG, SX_ID]; omega
  rw [fwWrite_sx (by simp only [SX_TP_t_CFG, SX_ID]; omega) (by simp only [SX_TP_t_CFG, BB_ID]; omega) (by simp only [SX_TP_t_CFG]; omega), ho]
  have ht : (0x100 + k * 0x10 - 0x100) / 0x10 = k := by omega
  unfold writeSx
  dsimp only
  rw [if_neg (by omega), if_neg (by omega), if_neg (by omega), if_neg (by omega), if_neg (by omega), if_pos (by omega), if_pos (by omega), ht]

theorem fwWrite_shadow (v : Word) (s : State) {o : Nat} (h4 : o % 4 = 0) (hin : inShadow o = true) :
    fwWrite (SX_ID + o) v s = writeShadow o v s := by
  have hrange := hin
  simp only [inShadow, Bool.or_eq_true, Bool.and_eq_true, decide_eq_true_eq] at hrange
  have ho : SX_ID + o - SX_ID = o := Nat.add_sub_cancel_left ..
  rw [fwWrite_sx (Nat.le_add_right _ _) (by simp only [SX_ID, BB_ID]; omega) (by simp only [SX_ID]; omega), ho]
  unfold writeSx
  dsimp only
  rw [if_neg (by omega), if_neg (by omega), if_neg (by omega), if_neg (by omega), if_neg (by omega), if_neg (by omega), if_pos hin]
  unfold doShadowMapWrite
  rw [sxGuard_of_writer rfl, if_pos (by simp [hin, h4])]

/-! ### SX_RESTART and SPARE_CFG -/

theorem holdoverPlaying_take (hi : i < 18) : holdoverPlaying (take i s) = holdoverPlaying s := by
  have hpl (c : Nat) : (take i s).flag (MS_PL_c_STAT c) MS_PL_c_STAT_PLAYING = s.flag (MS_PL_c_STAT c) MS_PL_c_STAT_PLAYING :=
    take_flag_other s (by simp only [MS_PL_c_STAT, MB_i_STAT]; omega) _
  have hcfg (k : Nat) (f : Fld) : (take i s).fld (MS_HS_k_CFG k) f = s.fld (MS_HS_k_CFG k) f :=
    take_fld s (by simp only [MS_HS_k_CFG, MB_i_STAT]; omega) _
  have hen (k : Nat) : (take i s).flag (MS_HS_k_CFG k) MS_HS_k_CFG_EN = s.flag (MS_HS_k_CFG k) MS_HS_k_CFG_EN :=
    take_flag_other s (by simp only [MS_HS_k_CFG, MB_i_STAT]; omega) _
  have hlist : (take i s).listed (MS_HS_k_CFG 0) 8 256 = s.listed (MS_HS_k_CFG 0) 8 256 :=
    listed_setReg s _ 8 256 (by simp only [MS_HS_k_CFG, MB_i_STAT]; omega)
  unfold holdoverPlaying
  rw [hlist]
  simp only [hpl, hcfg, hen]
  rfl

theorem OnlyRegs.mono {l m : List Nat} {s t : State} (h : OnlyRegs l s t) (hl : ∀ a ∈ l, a ∈ m) : OnlyRegs m s t :=
  ⟨h.1, fun a ha => h.2 a (fun hin => ha (hl a hin))⟩

theorem fieldsAt_SX_CTL : fieldsAt SX_CTL = [⟨0, 1, .rw⟩, ⟨4, 5, .rw⟩, ⟨12, 4, .rw⟩] := by decide

/-- The state of a write of SX_CTL before RUN takes effect. -/
def sxFieldsSet (v : Word) (s : State) : State := (s.writeByType SX_CTL v).setFld SX_CTL SX_CTL_RUN (s.fld SX_CTL SX_CTL_RUN)

theorem sxFieldsSet_run (v : Word) (s : State) : (sxFieldsSet v s).fld SX_CTL SX_CTL_RUN = s.fld SX_CTL SX_CTL_RUN :=
  fld_setFld_of_lt _ _ _ _ (by decide) (fld_lt ..)

theorem sxFieldsSet_only (v : Word) (s : State) : OnlyRegs [SX_CTL] s (sxFieldsSet v s) :=
  ((onlyRegs_refl _ s).writeByType (by simp) v).setFld (by simp) _ _

/-- A write of SX_CTL that leaves RUN as it is. -/
theorem writeSxCtl_same {v : Word} (h : bits v.toNat 0 1 = s.fld SX_CTL SX_CTL_RUN) : writeSxCtl v s = sxFieldsSet v s := by
  show (if bits v.toNat 0 1 = 1 then startRun (sxFieldsSet v s) else if s.fld SX_CTL SX_CTL_RUN = 1 then stopRun (sxFieldsSet v s)
    else sxFieldsSet v s) = _
  rw [h]
  by_cases h1 : s.fld SX_CTL SX_CTL_RUN = 1
  · rw [if_pos h1]
    unfold startRun
    exact if_pos (flag_eq_true_of_fld_eq_one _ _ _ ((sxFieldsSet_run v s).trans h1))
  · rw [if_neg h1, if_neg h1]

theorem stopRun_stops (s : State) : OnlyRegs [SX_CTL, SX_MAP_CTL, SX_MAP_STAT, SX_STAT] s (stopRun s) ∧
    (stopRun s).fld SX_CTL SX_CTL_RUN = 0 ∧ (stopRun s).fld SX_STAT SX_STAT_RUNNING = s.fld SX_STAT SX_STAT_RUNNING := by
  refine ⟨?_, ?_, ?_⟩
  · exact ((((onlyRegs_refl _ s).setFld (by simp) _ _).setFld (by simp) _ _).setFld (by simp) _ _).setFld (by simp) _ _
  · simp (disch := decide) only [stopRun, withdrawSwap, fld_setFld_other, fld_setFld_of_lt]
  · simp (disch := decide) only [stopRun, withdrawSwap, fld_setFld_other, fld_setFld_ne]

/-- A write of SX_CTL with RUN 0. -/
theorem writeSxCtl_stops {v : Word} (h : bits v.toNat 0 1 = 0) : OnlyRegs [SX_CTL, SX_MAP_CTL, SX_MAP_STAT, SX_STAT] s (writeSxCtl v s) ∧
    (writeSxCtl v s).fld SX_CTL SX_CTL_RUN = 0 ∧ (writeSxCtl v s).fld SX_STAT SX_STAT_RUNNING = s.fld SX_STAT SX_STAT_RUNNING := by
  have honly := sxFieldsSet_only v s
  have hrun : (sxFieldsSet v s).fld SX_STAT SX_STAT_RUNNING = s.fld SX_STAT SX_STAT_RUNNING := fld_of_reg_eq (honly.2 _ (by decide)) _
  by_cases h1 : s.fld SX_CTL SX_CTL_RUN = 1
  · have heq : writeSxCtl v s = stopRun (sxFieldsSet v s) := by
      unfold writeSxCtl
      dsimp only
      rw [h, if_neg (by decide), if_pos h1]
      rfl
    obtain ⟨h2, h3, h4⟩ := stopRun_stops (sxFieldsSet v s)
    rw [heq]
    exact ⟨(honly.mono (by simp)).trans h2, h3, h4.trans hrun⟩
  · have h0 : s.fld SX_CTL SX_CTL_RUN = 0 := by
      have := fld_lt s SX_CTL SX_CTL_RUN
      simp only [SX_CTL_RUN] at this h1 ⊢
      omega
    rw [writeSxCtl_same (h.trans h0.symm)]
    exact ⟨honly.mono (by simp), (sxFieldsSet_run v s).trans h0, hrun⟩

theorem restart_busy (h : Pending i 5 flags p s) (hi : i < 18) (hp : p.length = 3) (h0 : le p 0 1 ≤ 1) (h1 : le p 1 1 ≤ 3) (h2 : le p 2 1 = 0)
    (hplay : holdoverPlaying s = true) : ∃ t, doCommand cmdSxRestart i s = t ∧ OnlyReply i s t ∧ Replied i 4 0 [] s t := by
  refine h.refused hi rfl (h.runs hi rfl (h.lenOk hp) rfl ?_ (Nat.zero_le _))
  show runSxRestart _ _ = _
  unfold runSxRestart
  rw [h.field, h.field, h.field, checked_ok, if_pos ⟨h2, (holdoverPlaying_take hi).trans hplay⟩]
  · rfl
  · intro e he
    simp only [List.mem_cons, List.not_mem_nil, or_false] at he
    rcases he with rfl | rfl | rfl <;> exact decide_eq_false (by omega)

theorem restart_defers (h : Pending i 5 flags p s) (hi : i < 18) (hp : p.length = 3) (h0 : le p 0 1 ≤ 1) (h1 : le p 1 1 ≤ 3) (h2 : le p 2 1 ≤ 1)
    (hplay : holdoverPlaying s = false ∨ le p 2 1 = 1) : ∃ t, doCommand cmdSxRestart i s = t ∧
      Deferred i (.sxStop (le p 0 1 + 2 * le p 1 1)) s t ∧
      t.fld SX_CTL SX_CTL_RUN = 0 ∧ t.fld SX_STAT SX_STAT_RUNNING = s.fld SX_STAT SX_STAT_RUNNING := by
  let u := writeSxCtl (sxCtlWord (take i s) 0) (take i s)
  have hbit : bits (sxCtlWord (take i s) 0).toNat 0 1 = 0 := by
    unfold sxCtlWord
    rw [bits_ofNat (setBits_lt _ _ _ _ 32 ((take i s).reg _).isLt (by decide)), bits_setBits_same]
    rfl
  obtain ⟨honly, hrun, hrunning⟩ := writeSxCtl_stops (s := take i s) hbit
  have hexec : execute cmdSxRestart (mailRequest s i) (take i s) = waitRes (.sxStop (le p 0 1 + 2 * le p 1 1)) u := by
    refine h.runs hi rfl (h.lenOk hp) rfl ?_ (Nat.zero_le _)
    show runSxRestart _ _ = _
    unfold runSxRestart
    rw [h.field, h.field, h.field, checked_ok, if_neg, fwWrite_sxCtl]
    · rintro ⟨e1, e2⟩
      rw [holdoverPlaying_take hi] at e2
      rcases hplay with e | e
      · exact absurd (e.symm.trans e2) (by decide)
      · omega
    · intro e he
      simp only [List.mem_cons, List.not_mem_nil, or_false] at he
      rcases he with rfl | rfl | rfl <;> exact decide_eq_false (by omega)
  have hstat : MB_i_STAT i ∉ [SX_CTL, SX_MAP_CTL, SX_MAP_STAT, SX_STAT] := by
    simp only [List.mem_cons, List.not_mem_nil, or_false, not_or]
    exact ⟨(ne_stat hi (by decide)).symm, (ne_stat hi (by decide)).symm, (ne_stat hi (by decide)).symm, (ne_stat hi (by decide)).symm⟩
  obtain ⟨t, ht, hdef, hregs⟩ := h.defers rfl (by simp) hexec ((congrArg State.fw honly.rest :)) (honly.2 _ hstat)
  refine ⟨t, ht, hdef, (fld_of_reg_eq (reg_of_regs_eq hregs _) _).trans hrun, (fld_of_reg_eq (reg_of_regs_eq hregs _) _).trans (hrunning.trans ?_)⟩
  exact take_fld s (ne_stat hi (by decide)) _

theorem spare_sets (h : Pending i 0x1006 flags p s) (hi : i < 18) (hp : p.length = 2) (h0 : le p 0 1 < 12) (h1 : le p 1 1 ≤ 1) :
    ∃ t, doCommand cmdSpareCfg i s = t ∧ Replied i 0 0 [] s t ∧
      t.fld SX_CTL SX_CTL_SPARE_TILE = le p 0 1 ∧ t.fld SX_CTL SX_CTL_SPARE_EN = le p 1 1 ∧ t.fld SX_CTL SX_CTL_RUN = s.fld SX_CTL SX_CTL_RUN := by
  let n := setBits ((take i s).reg SX_CTL).toNat 4 5 (le p 0 1 + 16 * le p 1 1)
  have hn : n < 2 ^ 32 := setBits_lt _ _ _ _ 32 ((take i s).reg _).isLt (by decide)
  have hbit : bits (BitVec.ofNat 32 n).toNat 0 1 = (take i s).fld SX_CTL SX_CTL_RUN := by
    rw [bits_ofNat hn]
    exact bits_setBits_below _ _ _ _ _ _ (by decide)
  have hspare : bits (BitVec.ofNat 32 n).toNat 4 5 = le p 0 1 + 16 * le p 1 1 := by
    rw [bits_ofNat hn, bits_setBits_same]
    omega
  let u := sxFieldsSet (BitVec.ofNat 32 n) (take i s)
  have hrun : cmdSpareCfg.run (mailRequest s i) (take i s) = okRes [] u := by
    show runSpareCfg _ _ = _
    unfold runSpareCfg
    rw [h.field, h.field, checked_ok, fwWrite_sxCtl, writeSxCtl_same hbit]
    intro e he
    simp only [List.mem_cons, List.not_mem_nil, or_false] at he
    rcases he with rfl | rfl <;> exact decide_eq_false (by omega)
  have hstat : MB_i_STAT i ∉ [SX_CTL] := fun e => ne_stat hi (by decide) (List.mem_singleton.1 e).symm
  obtain ⟨t, ht, honly, hrep⟩ := h.replies hi rfl (h.runs hi rfl (h.lenOk hp) rfl hrun (Nat.zero_le _)) rfl (Nat.zero_le _)
    ((sxFieldsSet_only _ _).2 _ hstat)
  have hfld (f : Fld) : t.fld SX_CTL f = u.fld SX_CTL f := honly.fld_eq (ne_stat hi (by decide)) f
  have hset (f : Fld) (hf : accOf f.lo f.w [⟨0, 1, .rw⟩, ⟨4, 5, .rw⟩, ⟨12, 4, .rw⟩] = some .rw) (hfit : f.lo + f.w ≤ 32) (hlo : 1 ≤ f.lo) :
      u.fld SX_CTL f = bits (BitVec.ofNat 32 n).toNat f.lo f.w := by
    refine (fld_setFld_ne _ _ _ _ _ (by decide) (by simp only [SX_CTL_RUN]; omega)).trans ?_
    exact fld_writeByType _ _ _ f .rw fieldsAt_SX_CTL (by decide) hf
  refine ⟨t, ht, hrep, ?_, ?_, ?_⟩
  · rw [hfld, hset _ (by decide) (by decide) (by decide)]
    show bits (BitVec.ofNat 32 n).toNat 4 4 = le p 0 1
    unfold bits at hspare ⊢
    omega
  · rw [hfld, hset _ (by decide) (by decide) (by decide)]
    show bits (BitVec.ofNat 32 n).toNat 8 1 = le p 1 1
    unfold bits at hspare ⊢
    omega
  · rw [hfld]
    exact (sxFieldsSet_run _ _).trans (take_fld s (ne_stat hi (by decide)) _)

/-! ### PLANE_SEL and TP_CFG -/

theorem planeSel_sets (h : Pending i 0x1005 flags p s) (hi : i < 18) (hp : p.length = 3) (h0 : le p 0 1 ≤ 1) (h1 : le p 1 1 ≤ 1) (h2 : le p 2 1 ≤ 1) :
    ∃ t, doCommand cmdPlaneSel i s = t ∧ Replied i 0 0 (regBytes t SX_PLANE_STAT) s t ∧ t.fld SX_PLANE_CTL SX_PLANE_CTL_SEL = le p 0 1 ∧
      t.fld SX_PLANE_CTL SX_PLANE_CTL_COMPARE_EN = le p 1 1 ∧ t.fld SX_PLANE_CTL SX_PLANE_CTL_AUTO_EN = le p 2 1 := by
  let n := le p 0 1 + 2 * le p 1 1 + 4 * le p 2 1
  let w := (take i s).writeByType SX_PLANE_CTL (BitVec.ofNat 32 n)
  let u : State := { w with sx := { w.sx with selWritten := true } }
  have hrun : cmdPlaneSel.run (mailRequest s i) (take i s) = okRes (regBytes u SX_PLANE_STAT) u := by
    show runPlaneSel _ _ = _
    unfold runPlaneSel
    rw [h.field, h.field, h.field, checked_ok, fwWrite_planeCtl]
    · rfl
    · intro e he
      simp only [List.mem_cons, List.not_mem_nil, or_false] at he
      rcases he with rfl | rfl | rfl <;> exact decide_eq_false (by omega)
  have hlen : (regBytes u SX_PLANE_STAT).length ≤ 4080 := by
    rw [regBytes_length]
    decide
  obtain ⟨t, ht, honly, hrep⟩ := h.replies hi rfl (h.runs hi rfl (h.lenOk hp) rfl hrun hlen) rfl hlen
    (reg_writeByType_other _ _ _ _ (ne_stat hi (by decide)).symm)
  have hfld (f : Fld) (hf : accOf f.lo f.w [⟨0, 3, .rw⟩] = some .rw) : t.fld SX_PLANE_CTL f = bits n f.lo f.w := by
    refine (honly.fld_eq (ne_stat hi (by decide)) f).trans ?_
    refine (fld_writeByType _ _ _ f .rw fieldsAt_SX_PLANE_CTL (by decide) hf).trans ?_
    exact bits_ofNat (by omega) _ _
  refine ⟨t, ht, ?_, (hfld _ (by decide)).trans ?_, (hfld _ (by decide)).trans ?_, (hfld _ (by decide)).trans ?_⟩
  · rw [regBytes_of_reg_eq (honly.reg_eq (ne_stat hi (by decide)))]
    exact hrep
  · show n / 2 ^ 0 % 2 ^ 1 = _
    omega
  · show n / 2 ^ 1 % 2 ^ 1 = _
    omega
  · show n / 2 ^ 2 % 2 ^ 1 = _
    omega

theorem tpCfg_sets (h : Pending i 0x1004 flags p s) (hi : i < 18) (hp : p.length = 6) (h0 : le p 0 1 < 12) (hcopy : copying s = false)
    (hr : le p 2 2 * blockN s ≤ 16384) (ht' : le p 4 2 * blockN s ≤ 16384) (h2 : le p 2 2 ≤ 1024) (h4 : le p 4 2 ≤ 1024) :
    ∃ t, doCommand cmdTpCfg i s = t ∧ Replied i 0 0 [] s t ∧
      t.fld (SX_TP_t_CFG (le p 0 1)) SX_TP_t_CFG_RXCH = le p 2 2 ∧ t.fld (SX_TP_t_CFG (le p 0 1)) SX_TP_t_CFG_TXCH = le p 4 2 := by
  let n := le p 2 2 + 65536 * le p 4 2
  let a := SX_TP_t_CFG (le p 0 1)
  let u := (take i s).writeByType a (BitVec.ofNat 32 n)
  have hblock : blockN (take i s) = blockN s := by
    unfold blockN
    rw [take_fld s (ne_stat hi (by decide))]
  have hidle : copying (take i s) = false := (take_flag_other s (ne_stat hi (by decide)) _).trans hcopy
  have hgood {m : Nat} (h1 : m * blockN s ≤ 16384) (h2 : m ≤ 1024) : countBad (take i s) m = false := by
    unfold countBad
    rw [hblock, decide_eq_false (Nat.not_lt.2 h1), decide_eq_false (Nat.not_lt.2 h2)]
    rfl
  have hwrite : doTpCfgWrite .clove (le p 0 1) (BitVec.ofNat 32 n) (take i s) = u :=
    (sxGuard_of_writer rfl _ _).trans (if_neg (by rw [show (take i s).flag SX_MAP_STAT SX_MAP_STAT_COPYING = false from hidle]; decide))
  have hrun : cmdTpCfg.run (mailRequest s i) (take i s) = okRes [] u := by
    show runTpCfg _ _ = _
    unfold runTpCfg
    rw [h.field, h.field, h.field, checked_ok, hidle, if_neg (by decide), fwWrite_tpCfg _ _ h0, hwrite]
    intro e he
    simp only [List.mem_cons, List.not_mem_nil, or_false] at he
    rcases he with rfl | rfl | rfl
    · exact decide_eq_false (by omega)
    · exact hgood hr h2
    · exact hgood ht' h4
  have hne : a ≠ MB_i_STAT i := by
    simp only [a, SX_TP_t_CFG, MB_i_STAT]
    omega
  obtain ⟨t, ht, honly, hrep⟩ := h.replies hi rfl (h.runs hi rfl (h.lenOk hp) rfl hrun (Nat.zero_le _)) rfl (Nat.zero_le _)
    (reg_writeByType_other _ _ _ _ hne.symm)
  have hfld (f : Fld) (hf : accOf f.lo f.w [⟨0, 11, .rw⟩, ⟨16, 11, .rw⟩] = some .rw) : t.fld a f = bits n f.lo f.w := by
    refine (honly.fld_eq hne f).trans ((fld_writeByType _ _ _ f .rw (fieldsAt_SX_TP_t_CFG ⟨_, h0⟩) (by decide) hf).trans ?_)
    exact bits_ofNat (by omega) _ _
  refine ⟨t, ht, hrep, (hfld _ (by decide)).trans ?_, (hfld _ (by decide)).trans ?_⟩
  · show n / 2 ^ 0 % 2 ^ 11 = _
    omega
  · show n / 2 ^ 16 % 2 ^ 11 = _
    omega

/-! ### MAP_WRITE and MAP_READ -/

theorem writeShadow_words {o : Nat} (h4 : o % 4 = 0) (hlo : 0x10000 ≤ o) (hhi : o < 0x18000) (hcopy : copying s = false) (v : Word) :
    fwWrite (SX_ID + o) v s = { s with sx := { s.sx with prodShadow := tput 0 s.sx.prodShadow ((o - 0x10000) / 4) (prodMask v) } } := by
  have hin : inShadow o = true := by
    simp [inShadow, hlo, hhi]
  rw [fwWrite_shadow v s h4 hin]
  exact writeShadow_producer ((flag_eq_false_iff ..).1 hcopy) v hhi

/-- Words written to the producer map by firmware: each reads back, and the words below them keep their values. -/
theorem fwWriteWords_map : ∀ (l : List Word) {o : Nat} {s : State}, o % 4 = 0 → 0x10000 ≤ o → o + 4 * l.length ≤ 0x18000 → copying s = false →
    (fwWriteWords (SX_ID + o) l s).regs = s.regs ∧
    (∀ q, q % 4 = 0 → 0x10000 ≤ q → q < o → readMap q (fwWriteWords (SX_ID + o) l s) = readMap q s) ∧
    ∀ k w, l[k]? = some w → readMap (o + 4 * k) (fwWriteWords (SX_ID + o) l s) = w &&& 0x801F1FFF#32
  | [], _, _, _, _, _, _ => ⟨rfl, fun _ _ _ _ => rfl, fun k w h => absurd h (by simp)⟩
  | w :: l, o, s, h4, hlo, hhi, hcopy => by
    rw [List.length_cons] at hhi
    have hfirst := writeShadow_words h4 hlo (by omega) hcopy w
    have hstep : fwWriteWords (SX_ID + o) (w :: l) s = fwWriteWords (SX_ID + (o + 4)) l (fwWrite (SX_ID + o) w s) := by
      rw [fwWriteWords, Nat.add_assoc]
    obtain ⟨h1, h2, h3⟩ := fwWriteWords_map l (s := fwWrite (SX_ID + o) w s) (o := o + 4) (by omega) (by omega) (by omega) (by rw [hfirst]; exact hcopy)
    rw [hstep]
    refine ⟨h1.trans (by rw [hfirst]), fun q hq hq1 hq2 => ?_, fun k v hk => ?_⟩
    · rw [h2 q hq hq1 (by omega), hfirst]
      exact readMap_producer_other _ hlo hq1 h4 hq (by omega)
    · cases k with
      | zero =>
        have hv : w = v := by simpa using hk
        subst hv
        rw [Nat.mul_zero, Nat.add_zero, h2 o h4 hlo (by omega), hfirst]
        simp only [readMap, if_pos (show o < 0x18000 by omega), tget_tput_same]
        rfl
      | succ k =>
        have ho : o + 4 * (k + 1) = o + 4 + 4 * k := by omega
        rw [ho]
        exact h3 k v (by simpa using hk)

theorem shadowRegion_producer {o n : Nat} (h4 : o % 4 = 0) (hlo : 0x10000 ≤ o) (hhi : o + 4 * n ≤ 0x18000) : shadowRegion o n = some 0x8000 := by
  unfold shadowRegion
  rw [if_neg (by omega), if_pos ⟨hlo, hhi⟩]

theorem words_getElem {r : Req} {o n k : Nat} (h : k < n) : (r.words o n)[k]? = some (BitVec.ofNat 32 (r.f (o + 4 * k) 4)) := by
  unfold Req.words
  simp [h]

section MapWrite
variable {n : Nat} (hp : p.length = 8 + 4 * n) (hn : le p 4 2 = n) (h0 : 0 < n) (h1 : n ≤ 1018)
  (h4 : le p 0 4 % 4 = 0) (hlo : 0x10000 ≤ le p 0 4) (hhi : le p 0 4 + 4 * n ≤ 0x18000)
include hp hn h0 h1 h4 hlo hhi

theorem mapWrite_executes (h : Pending i 0x1001 flags p s) (hi : i < 18) {x : CmdRes} (hlen : x.data.length ≤ 4080)
    (hx : (if copying (take i s) then refuse stBusy 0 (take i s)
      else okRes [] (fwWriteWords (SX_ID + le p 0 4) ((mailRequest s i).words 8 n) (take i s))) = x) :
    execute cmdMapWrite (mailRequest s i) (take i s) = x := by
  refine h.runs hi rfl ?_ rfl ?_ hlen
  · show (decide (8 ≤ (mailRequest s i).len) && decide ((mailRequest s i).len = 8 + 4 * (mailRequest s i).f 4 2)) = true
    rw [h.len, h.field, hn, decide_eq_true (by omega), decide_eq_true hp]
    rfl
  · show runMapWrite _ _ = _
    unfold runMapWrite
    dsimp only
    rw [h.field, h.field, hn, checked_ok, hx]
    intro e he
    simp only [List.mem_cons, List.not_mem_nil, or_false] at he
    rcases he with rfl | rfl
    · exact decide_eq_false (by omega)
    · rw [shadowRegion_producer h4 hlo hhi]
      rfl

theorem mapWrite_busy (h : Pending i 0x1001 flags p s) (hi : i < 18) (hcopy : copying s = true) :
    ∃ t, doCommand cmdMapWrite i s = t ∧ OnlyReply i s t ∧ Replied i 4 0 [] s t := by
  refine h.refused hi rfl (mapWrite_executes hp hn h0 h1 h4 hlo hhi h hi (Nat.zero_le _) ?_)
  rw [show copying (take i s) = true from (take_flag_other s (ne_stat hi (by decide)) _).trans hcopy]
  rfl

theorem mapWrite_writes (h : Pending i 0x1001 flags p s) (hi : i < 18) (hcopy : copying s = false) :
    ∃ t, doCommand cmdMapWrite i s = t ∧ Replied i 0 0 [] s t ∧
      ∀ k, k < n → readMap (le p 0 4 + 4 * k) t = BitVec.ofNat 32 (le p (8 + 4 * k) 4) &&& 0x801F1FFF#32 := by
  have hidle : copying (take i s) = false := (take_flag_other s (ne_stat hi (by decide)) _).trans hcopy
  have hlen : ((mailRequest s i).words 8 n).length = n := by
    unfold Req.words
    simp
  obtain ⟨hregs, -, hread⟩ := fwWriteWords_map ((mailRequest s i).words 8 n) h4 hlo (by rw [hlen]; exact hhi) hidle
  obtain ⟨t, ht, honly, hrep⟩ := h.replies hi rfl (mapWrite_executes hp hn h0 h1 h4 hlo hhi h hi
    (x := okRes [] (fwWriteWords (SX_ID + le p 0 4) ((mailRequest s i).words 8 n) (take i s))) (Nat.zero_le _)
    (by rw [hidle]; rfl)) rfl (Nat.zero_le _) (reg_of_regs_eq hregs _)
  have hsx : t.sx = (fwWriteWords (SX_ID + le p 0 4) ((mailRequest s i).words 8 n) (take i s)).sx := (congrArg State.sx honly.rest :)
  refine ⟨t, ht, hrep, fun k hk => ?_⟩
  have hr := hread k _ (words_getElem hk)
  rw [h.field] at hr
  rw [← hr]
  unfold readMap
  rw [hsx]

end MapWrite

theorem mapRead_reads (h : Pending i 0x1003 flags p s) (hi : i < 18) (hp : p.length = 8) (h0 : 0 < le p 4 2) (h1 : le p 4 2 ≤ 1018) {d : Nat}
    (hd : shadowRegion (le p 0 4) (le p 4 2) = some d) (h6 : le p 6 1 ≤ 1) : ∃ t, doCommand cmdMapRead i s = t ∧ OnlyReply i s t ∧
      Replied i 0 0 ((List.range (le p 4 2)).flatMap (fun k => leBytes 4 (readMap (le p 0 4 + d * le p 6 1 + 4 * k) s).toNat)) s t := by
  have hlen : ((List.range (le p 4 2)).flatMap (fun k => leBytes 4 (readMap (le p 0 4 + d * le p 6 1 + 4 * k) s).toNat)).length ≤ 4080 := by
    simp only [List.length_flatMap, leBytes_length, List.map_const', List.sum_replicate, List.length_range, smul_eq_mul]
    omega
  refine h.reads hi rfl hlen (h.runs hi rfl (h.lenOk hp) rfl ?_ hlen)
  have ho : (if le p 6 1 = 1 then (some d).getD 0 else 0) = d * le p 6 1 := by
    rcases Nat.le_one_iff_eq_zero_or_eq_one.1 h6 with e | e
    · rw [e, if_neg (by decide), Nat.mul_zero]
    · rw [e, if_pos rfl, Nat.mul_one]
      rfl
  show runMapRead _ _ = _
  unfold runMapRead
  dsimp only
  rw [h.field, h.field, h.field, hd, ho, checked_ok]
  · rfl
  · intro e he
    simp only [List.mem_cons, List.not_mem_nil, or_false] at he
    rcases he with rfl | rfl | rfl
    · exact decide_eq_false (by omega)
    · rfl
    · exact decide_eq_false (by omega)

end

end Sys2Proof.Machine
end

section

/-! SUPPORT. The Molalrik commands of the group Zones: O56. -/

namespace Sys2Proof.Machine
open R

section
variable {i code flags : Nat} {p : List Byte} {s : State}

/-! ### The zone table -/

theorem find?_filter_key {α : Type} {l : List (Nat × α)} {q : Nat × α → Bool} {z : Nat} (h : ∀ e : Nat × α, e.1 = z → q e = true) :
    (l.filter q).find? (fun e => e.1 = z) = l.find? (fun e => e.1 = z) := by
  rw [List.find?_filter]
  congr 1
  funext e
  by_cases he : e.1 = z
  · simp [he, h e he]
  · simp [he]

theorem find?_filter_none {α : Type} {l : List (Nat × α)} {q : Nat × α → Bool} {z : Nat} (h : ∀ e : Nat × α, e.1 = z → q e = false) :
    (l.filter q).find? (fun e => e.1 = z) = none := by
  rw [List.find?_eq_none]
  intro e he hz
  have hq := (List.mem_filter.1 he).2
  rw [h e (of_decide_eq_true hz)] at hq
  exact absurd hq (by decide)

theorem zoneOf_setZone_same (z : Nat) (x : Zone) (s : State) : zoneOf (setZone z x s) z = some x := by
  have hlist : (setZone z x s).fw.zones = s.fw.zones.filter (fun e => e.1 < z) ++ (z, x) :: s.fw.zones.filter (fun e => z < e.1) := rfl
  unfold zoneOf
  rw [hlist, List.find?_append, find?_filter_none (fun e he => decide_eq_false (by omega)), List.find?_cons_of_pos (by simp)]
  rfl

theorem zoneOf_setZone_other {z w : Nat} (x : Zone) (s : State) (h : w ≠ z) : zoneOf (setZone z x s) w = zoneOf s w := by
  have hlist : (setZone z x s).fw.zones = s.fw.zones.filter (fun e => e.1 < z) ++ (z, x) :: s.fw.zones.filter (fun e => z < e.1) := rfl
  unfold zoneOf
  rw [hlist, List.find?_append, List.find?_cons_of_neg (by simpa using h.symm)]
  rcases Nat.lt_or_gt_of_ne h with hlt | hgt
  · rw [find?_filter_key (fun e he => decide_eq_true (by omega)), find?_filter_none (q := fun e => decide (z < e.1)) (fun e he => decide_eq_false (by omega)),
      Option.or_none]
  · rw [find?_filter_none (q := fun e => decide (e.1 < z)) (fun e he => decide_eq_false (by omega)), Option.none_or,
      find?_filter_key (fun e he => decide_eq_true (by omega))]

theorem zoneOf_of_zones_eq {t : State} (h : t.fw.zones = s.fw.zones) (z : Nat) : zoneOf t z = zoneOf s z := by
  unfold zoneOf
  rw [h]

theorem OnlyReply.zoneOf_eq {t : State} (h : OnlyReply i s t) (z : Nat) : zoneOf t z = zoneOf s z :=
  zoneOf_of_zones_eq (congrArg Fw.zones h.fw_rest :) z

/-! ### The commands -/

theorem zoneSet_sets (h : Pending i 0x2001 flags p s) (hi : i < 18) (hp : p.length = 3 + le p 2 1) (h0 : le p 0 2 < 16384) (h2 : le p 2 1 ≤ 64)
    (hd : ∀ k, k < le p 2 1 → le p (3 + k) 1 < 64) : ∃ t, doCommand cmdZoneSet i s = t ∧ Replied i 0 0 [] s t ∧
      (zoneOf t (le p 0 2)).map Zone.drvs = some ((List.range (le p 2 1)).map (fun k => le p (3 + k) 1)) ∧
      ∀ z, z ≠ le p 0 2 → zoneOf t z = zoneOf s z := by
  let x : Zone := { (zoneOf (take i s) (le p 0 2)).getD Zone.none with drvs := (List.range (le p 2 1)).map (fun k => le p (3 + k) 1) }
  have hlenok : cmdZoneSet.lenOk (mailRequest s i) = true := by
    show (decide (3 ≤ (mailRequest s i).len) && decide ((mailRequest s i).len = 3 + (mailRequest s i).f 2 1)) = true
    rw [h.len, h.field, decide_eq_true (by omega), decide_eq_true hp]
    rfl
  have hrun : cmdZoneSet.run (mailRequest s i) (take i s) = okRes [] (setZone (le p 0 2) x (take i s)) := by
    show runZoneSet _ _ = _
    unfold runZoneSet zoneDrvs
    simp only [h.field]
    rw [checked_ok]
    intro e he
    rcases List.mem_append.1 he with he | he
    · simp only [List.mem_cons, List.not_mem_nil, or_false] at he
      rcases he with rfl | rfl <;> exact decide_eq_false (by omega)
    · obtain ⟨k, hk, rfl⟩ := List.mem_map.1 he
      have := hd k (List.mem_range.1 hk)
      exact decide_eq_false (by omega)
  obtain ⟨t, ht, honly, hrep⟩ := h.replies hi rfl (h.runs hi rfl hlenok rfl hrun (Nat.zero_le _)) rfl (Nat.zero_le _) rfl
  refine ⟨t, ht, hrep, ?_, fun z hz => (honly.zoneOf_eq z).trans (zoneOf_setZone_other _ _ hz)⟩
  rw [honly.zoneOf_eq]
  exact congrArg (Option.map Zone.drvs) (zoneOf_setZone_same _ _ _)

theorem withZone_some {r : Req} {z : Zone} {f : Zone → CmdRes} (h : zoneOf s (r.f 0 2) = some z) : withZone r s f = f z := by
  unfold withZone
  rw [h]

theorem withZone_none {r : Req} {f : Zone → CmdRes} (h : zoneOf s (r.f 0 2) = none) : withZone r s f = refuse stNotFound 0 s := by
  unfold withZone
  rw [h]

section Known
variable {z : Zone} (hz : zoneOf s (le p 0 2) = some z)
include hz

theorem Pending.zone (h : Pending i code flags p s) : zoneOf (take i s) ((mailRequest s i).f 0 2) = some z := by
  rw [h.field]
  exact hz

theorem zoneGet_reads (h : Pending i 0x2002 flags p s) (hi : i < 18) (hp : p.length = 2) (hlen : z.drvs.length ≤ 64) :
    ∃ t, doCommand cmdZoneGet i s = t ∧ OnlyReply i s t ∧
      Replied i 0 0 (leBytes 2 (le p 0 2) ++ leBytes 1 z.drvs.length ++ z.drvs.flatMap (leBytes 1)) s t := by
  have hbytes : (leBytes 2 (le p 0 2) ++ leBytes 1 z.drvs.length ++ z.drvs.flatMap (leBytes 1)).length ≤ 4080 := by
    simp only [List.length_append, List.length_flatMap, leBytes_length, List.map_const', List.sum_replicate, smul_eq_mul]
    omega
  refine h.reads hi rfl hbytes (h.runs hi rfl (h.lenOk hp) rfl ?_ hbytes)
  show runZoneGet _ _ = _
  unfold runZoneGet
  rw [withZone_some (h.zone hz), h.field]

theorem zoneGain_sets (h : Pending i 0x2003 flags p s) (hi : i < 18) (hp : p.length = 6) :
    ∃ t, doCommand cmdZoneGain i s = t ∧ Replied i 0 0 [] s t ∧
      zoneOf t (le p 0 2) = some { z with gain := sext 16 (le p 2 2), ramp := le p 4 2 } := by
  have hrun : cmdZoneGain.run (mailRequest s i) (take i s) =
      okRes [] (setZone (le p 0 2) { z with gain := sext 16 (le p 2 2), ramp := le p 4 2 } (take i s)) := by
    show runZoneGain _ _ = _
    unfold runZoneGain
    rw [withZone_some (h.zone hz), h.field, h.field, h.field]
  obtain ⟨t, ht, honly, hrep⟩ := h.replies hi rfl (h.runs hi rfl (h.lenOk hp) rfl hrun (Nat.zero_le _)) rfl (Nat.zero_le _) rfl
  exact ⟨t, ht, hrep, (honly.zoneOf_eq _).trans (zoneOf_setZone_same ..)⟩

theorem zoneMute_sets (h : Pending i 0x2004 flags p s) (hi : i < 18) (hp : p.length = 3) (h2 : le p 2 1 ≤ 1) :
    ∃ t, doCommand cmdZoneMute i s = t ∧ Replied i 0 0 [] s t ∧ zoneOf t (le p 0 2) = some { z with mute := le p 2 1 = 1 } := by
  have hrun : cmdZoneMute.run (mailRequest s i) (take i s) = okRes [] (setZone (le p 0 2) { z with mute := le p 2 1 = 1 } (take i s)) := by
    show runZoneMute _ _ = _
    unfold runZoneMute
    rw [withZone_some (h.zone hz), h.field, h.field, checked_ok]
    intro e he
    rw [List.mem_singleton.1 he]
    exact decide_eq_false (by omega)
  obtain ⟨t, ht, honly, hrep⟩ := h.replies hi rfl (h.runs hi rfl (h.lenOk hp) rfl hrun (Nat.zero_le _)) rfl (Nat.zero_le _) rfl
  exact ⟨t, ht, hrep, (honly.zoneOf_eq _).trans (zoneOf_setZone_same ..)⟩

end Known

section Unknown
variable (hz : zoneOf s (le p 0 2) = none)
include hz

theorem Pending.noZone (h : Pending i code flags p s) : zoneOf (take i s) ((mailRequest s i).f 0 2) = none := by
  rw [h.field]
  exact hz

theorem zoneGet_unknown (h : Pending i 0x2002 flags p s) (hi : i < 18) (hp : p.length = 2) :
    ∃ t, doCommand cmdZoneGet i s = t ∧ OnlyReply i s t ∧ Replied i 6 0 [] s t :=
  h.refused hi rfl (h.runs (c := cmdZoneGet) hi rfl (h.lenOk hp) rfl (withZone_none (h.noZone hz)) (Nat.zero_le _))

theorem zoneGain_unknown (h : Pending i 0x2003 flags p s) (hi : i < 18) (hp : p.length = 6) :
    ∃ t, doCommand cmdZoneGain i s = t ∧ OnlyReply i s t ∧ Replied i 6 0 [] s t :=
  h.refused hi rfl (h.runs (c := cmdZoneGain) hi rfl (h.lenOk hp) rfl (withZone_none (h.noZone hz)) (Nat.zero_le _))

theorem zoneMute_unknown (h : Pending i 0x2004 flags p s) (hi : i < 18) (hp : p.length = 3) :
    ∃ t, doCommand cmdZoneMute i s = t ∧ OnlyReply i s t ∧ Replied i 6 0 [] s t :=
  h.refused hi rfl (h.runs (c := cmdZoneMute) hi rfl (h.lenOk hp) rfl (withZone_none (h.noZone hz)) (Nat.zero_le _))

end Unknown

/-! ### PAIR_SET -/

theorem fieldsAt_DRV_n_PAIR {n : Nat} (h : n < 64) : fieldsAt (DRV_n_PAIR n) = [⟨0, 6, .rw⟩, ⟨8, 8, .rw⟩] := by
  have hall : ∀ n : Fin 64, fieldsAt (DRV_n_PAIR n) = [⟨0, 6, .rw⟩, ⟨8, 8, .rw⟩] := by decide
  exact hall ⟨n, h⟩

theorem domainOff_take (hi : i < 18) (d : Nat) : domainOff (take i s) d = domainOff s d := by
  have hgate : ∀ d, (take i s).reg (if d < 32 then CK_GATE_LO else CK_GATE_HI) = s.reg (if d < 32 then CK_GATE_LO else CK_GATE_HI) := by
    intro d
    by_cases hd : d < 32
    · rw [if_pos hd]
      exact take_reg s (ne_stat hi (by decide))
    · rw [if_neg hd]
      exact take_reg s (ne_stat hi (by decide))
  unfold domainOff clockOn
  rw [hgate, take_flag_other s (ne_stat hi (by decide))]

theorem pair_sets (h : Pending i 0x2005 flags p s) (hi : i < 18) (hp : p.length = 5) (hon : domainOff s 45 = false) (h0 : le p 0 1 < 64)
    (h1 : le p 1 1 < 64) (h2 : le p 2 1 ≤ 1) (h3 : le p 3 1 ≤ 7) (h4 : le p 4 1 ≤ 15) (hother : le p 2 1 = 1 → le p 1 1 ≠ le p 0 1) :
    ∃ t, doCommand cmdPairSet i s = t ∧ Replied i 0 0 [] s t ∧
      t.fld (DRV_n_PAIR (le p 0 1)) DRV_n_PAIR_PARTNER = le p 1 1 ∧ t.fld (DRV_n_PAIR (le p 0 1)) DRV_n_PAIR_AUTO = le p 2 1 ∧
      t.fld (DRV_n_PAIR (le p 0 1)) DRV_n_PAIR_TRIG = le p 3 1 ∧ t.fld (DRV_n_PAIR (le p 0 1)) DRV_n_PAIR_GAIN_STEP = le p 4 1 := by
  let n := le p 1 1 + 256 * le p 2 1 + 512 * le p 3 1 + 4096 * le p 4 1
  let a := DRV_n_PAIR (le p 0 1)
  let u := (take i s).writeByType a (BitVec.ofNat 32 n)
  have hwrite : fwWrite a (BitVec.ofNat 32 n) (take i s) = u := by
    have ho : a - DRV_ID = 0x1014 + le p 0 1 * 0x80 := by simp only [a, DRV_n_PAIR, DRV_ID]; omega
    have ha : DRV_ID + (0x1014 + le p 0 1 * 0x80) = a := by simp only [a, DRV_n_PAIR, DRV_ID]; omega
    rw [fwWrite_drv (by simp only [a, DRV_n_PAIR, DRV_ID]; omega) (by simp only [a, DRV_n_PAIR, SF_ID]; omega)
      (by simp only [a, DRV_n_PAIR]; omega) ((domainOff_take hi 45).trans hon), ho]
    unfold writeDrv
    rw [if_neg (by omega), if_neg (by omega), ha]
  have hrun : cmdPairSet.run (mailRequest s i) (take i s) = okRes [] u := by
    show runPairSet _ _ = _
    unfold runPairSet
    simp only [h.field]
    rw [checked_ok, hwrite]
    intro e he
    simp only [List.mem_cons, List.not_mem_nil, or_false] at he
    rcases he with rfl | rfl | rfl | rfl | rfl | rfl
    · exact decide_eq_false (by omega)
    · exact decide_eq_false (by omega)
    · exact decide_eq_false (by omega)
    · exact decide_eq_false (by omega)
    · exact decide_eq_false (by omega)
    · exact decide_eq_false (fun e => hother e.1 e.2)
  have hne : a ≠ MB_i_STAT i := by
    simp only [a, DRV_n_PAIR, MB_i_STAT]
    omega
  obtain ⟨t, ht, honly, hrep⟩ := h.replies hi rfl (h.runs hi rfl (h.lenOk hp) rfl hrun (Nat.zero_le _)) rfl (Nat.zero_le _)
    (reg_writeByType_other _ _ _ _ hne.symm)
  have hfld (f : Fld) (hf : accOf f.lo f.w [⟨0, 6, .rw⟩, ⟨8, 8, .rw⟩] = some .rw) : t.fld a f = bits n f.lo f.w := by
    refine (honly.fld_eq hne f).trans ((fld_writeByType _ _ _ f .rw (fieldsAt_DRV_n_PAIR h0) (by decide) hf).trans ?_)
    exact bits_ofNat (by omega) _ _
  refine ⟨t, ht, hrep, (hfld _ (by decide)).trans ?_, (hfld _ (by decide)).trans ?_, (hfld _ (by decide)).trans ?_, (hfld _ (by decide)).trans ?_⟩
  · show n / 2 ^ 0 % 2 ^ 6 = _
    omega
  · show n / 2 ^ 8 % 2 ^ 1 = _
    omega
  · show n / 2 ^ 9 % 2 ^ 3 = _
    omega
  · show n / 2 ^ 12 % 2 ^ 4 = _
    omega

end

end Sys2Proof.Machine
end

section

/-! SUPPORT. FLOW_SET, FLOW_EN and FLOW_STAT: O56. -/

namespace Sys2Proof.Machine
open R

section
variable {i code flags f : Nat} {p : List Byte} {s : State}

/-! ### A register after a write by its access types -/

theorem writeByType_reg_congr {t : State} {a : Nat} (h : t.reg a = s.reg a) (v : Word) : (t.writeByType a v).reg a = (s.writeByType a v).reg a := by
  unfold State.writeByType
  split
  · rw [reg_setReg_same, reg_setReg_same, h]
  · exact h

theorem written_congr {t : State} {a : Nat} (h : t.reg a = s.reg a) (v : Nat) : written t a v = written s a v := writeByType_reg_congr h _

/-! ### Fields of a context -/

theorem fl_ne_stat (hi : i < 18) (hf : f < 3072) {k : Nat} (hk : k < 14) : FL_f_CTL f + 4 * k ≠ MB_i_STAT i := by
  simp only [FL_f_CTL, MB_i_STAT]
  omega

theorem flStat_eq (f : Nat) : FL_f_STAT f = FL_f_CTL f + 4 * 11 := by
  simp only [FL_f_STAT, FL_f_CTL]
  omega

/-- Fields of an idle context, written by firmware at rising addresses. -/
theorem fwWriteWords_fields (hf : f < 3072) : ∀ (l : List Word) {r : Nat} {s : State}, 0 < r → r + l.length ≤ 11 → flEn s f = false →
    flActive s f = false →
    (∀ a, (∀ k, k < l.length → a ≠ FL_f_CTL f + 4 * (r + k)) → (fwWriteWords (FL_f_CTL f + 4 * r) l s).reg a = s.reg a) ∧
    ∀ k w, l[k]? = some w → (fwWriteWords (FL_f_CTL f + 4 * r) l s).reg (FL_f_CTL f + 4 * (r + k)) = written s (FL_f_CTL f + 4 * (r + k)) w.toNat
  | [], _, _, _, _, _, _ => ⟨fun _ _ => rfl, fun k w h => absurd h (by simp)⟩
  | w :: l, r, s, hr, hlen, hen, hact => by
    rw [List.length_cons] at hlen
    have hfirst : fwWrite (FL_f_CTL f + 4 * r) w s = s.writeByType (FL_f_CTL f + 4 * r) w := by
      rw [fwWrite_fl hf (by omega)]
      unfold doFlowFieldWrite
      rw [if_neg (by omega), if_pos (by omega), hen, hact]
      rfl
    have hstep : fwWriteWords (FL_f_CTL f + 4 * r) (w :: l) s =
        fwWriteWords (FL_f_CTL f + 4 * (r + 1)) l (s.writeByType (FL_f_CTL f + 4 * r) w) := by
      rw [fwWriteWords, hfirst]
      rfl
    have hother (a : Nat) (ha : a ≠ FL_f_CTL f + 4 * r) : (s.writeByType (FL_f_CTL f + 4 * r) w).reg a = s.reg a :=
      reg_writeByType_other _ _ _ _ ha
    obtain ⟨h1, h2⟩ := fwWriteWords_fields hf l (r := r + 1) (s := s.writeByType (FL_f_CTL f + 4 * r) w) (by omega) (by omega)
      ((flag_of_reg_eq (hother _ (by omega)) _).trans hen) ((flag_of_reg_eq (hother _ (by rw [flStat_eq]; omega)) _).trans hact)
    rw [hstep]
    refine ⟨fun a ha => ?_, fun k v hk => ?_⟩
    · rw [h1 a (fun k hk => by have := ha (k + 1) (by rw [List.length_cons]; omega); omega)]
      exact hother a (by have := ha 0 (by rw [List.length_cons]; omega); omega)
    · cases k with
      | zero =>
        have hv : w = v := by simpa using hk
        subst hv
        rw [Nat.add_zero, h1 _ (fun k _ => by omega)]
        unfold written
        rw [BitVec.ofNat_toNat, BitVec.setWidth_eq]
        rfl
      | succ k =>
        have ho : r + (k + 1) = r + 1 + k := by omega
        rw [ho, h2 k v (by simpa using hk)]
        exact written_congr (hother _ (by omega)) _

/-- A write of an idle context's control register with EN 0. -/
theorem writeFlowCtl_idle (hen : flEn s f = false) (hact : flActive s f = false) {v : Word} (hv : (v &&& 0x007F071F).toNat % 2 = 0) :
    ∃ w : Word, writeFlowCtl f v s =
      ((s.setReg (FL_f_CTL f) w).setFld (FL_f_CTL f) FL_f_CTL_EN 0).mapFlow f (fun x => { x with stop := x.stop || x.on }) := by
  unfold writeFlowCtl
  dsimp only
  rw [hen, hact, if_pos hv]
  exact ⟨_, rfl⟩

theorem even_masked (w : Word) : ((w &&& 0xFFFFFFFE) &&& 0x007F071F).toNat % 2 = 0 := by
  have h : (w &&& 0xFFFFFFFE) &&& 0x007F071F = w &&& 0x007F071E := by
    rw [BitVec.and_assoc]
    rfl
  have h0 : (w &&& 0x007F071E).toNat.testBit 0 = false := by
    rw [BitVec.testBit_toNat, BitVec.getLsbD_and]
    exact Bool.and_false _
  rw [Nat.testBit_zero] at h0
  have := of_decide_eq_false h0
  rw [h]
  omega

theorem flow_checked (hf : le p 0 2 < 3072) (h : Pending i code flags p s) : badFlow (mailRequest s i) = (0, false) := by
  unfold badFlow
  rw [h.field, decide_eq_false (by omega)]

theorem flow_take (hi : i < 18) (hf : f < 3072) : flEn (take i s) f = flEn s f ∧ flActive (take i s) f = flActive s f := by
  constructor
  · exact take_flag_other s (fl_ne_stat hi hf (k := 0) (by decide)) _
  · exact take_flag_other s (by rw [flStat_eq]; exact fl_ne_stat hi hf (by decide)) _

theorem words_eq_cons {r : Req} {o : Nat} (n : Nat) : r.words o (n + 1) = BitVec.ofNat 32 (r.f o 4) :: r.words (o + 4) n := by
  unfold Req.words
  rw [List.range_succ_eq_map, List.map_cons, List.map_map]
  congr 1
  refine List.map_congr_left fun k _ => ?_
  show BitVec.ofNat 32 (r.f (o + 4 * (k + 1)) 4) = BitVec.ofNat 32 (r.f (o + 4 + 4 * k) 4)
  rw [show o + 4 * (k + 1) = o + 4 + 4 * k by omega]

theorem flowSet_busy (h : Pending i 0x4001 flags p s) (hi : i < 18) (hp : p.length = 48) (hf : le p 0 2 < 3072)
    (hbusy : flEn s (le p 0 2) = true ∨ flActive s (le p 0 2) = true) :
    ∃ t, doCommand cmdFlowSet i s = t ∧ OnlyReply i s t ∧ Replied i 4 0 [] s t := by
  refine h.refused hi rfl (h.runs hi rfl (h.lenOk hp) rfl ?_ (Nat.zero_le _))
  obtain ⟨h1, h2⟩ := flow_take (s := s) hi hf
  show runFlowSet _ _ = _
  unfold runFlowSet
  dsimp only
  rw [flow_checked hf h, h.field, checked_ok, h1, h2]
  · exact if_pos (by simpa using hbusy)
  · intro e he
    rw [List.mem_singleton.1 he]

theorem flowSet_sets (h : Pending i 0x4001 flags p s) (hi : i < 18) (hp : p.length = 48) (hf : le p 0 2 < 3072)
    (hen : flEn s (le p 0 2) = false) (hact : flActive s (le p 0 2) = false) : ∃ t, doCommand cmdFlowSet i s = t ∧ Replied i 0 0 [] s t ∧
      flEn t (le p 0 2) = false ∧ ∀ k, 0 < k → k < 11 →
        t.reg (FL_f_CTL (le p 0 2) + 4 * k) = written s (FL_f_CTL (le p 0 2) + 4 * k) (le p (4 + 4 * k) 4) := by
  obtain ⟨h1, h2⟩ := flow_take (s := s) hi hf
  let w := BitVec.ofNat 32 ((mailRequest s i).f 4 4) &&& 0xFFFFFFFE
  let l := (mailRequest s i).words 8 10
  let f := le p 0 2
  obtain ⟨c, hctl⟩ := writeFlowCtl_idle (h1.trans hen) (h2.trans hact) (even_masked (BitVec.ofNat 32 ((mailRequest s i).f 4 4)))
  let u1 := writeFlowCtl f w (take i s)
  let u := fwWriteWords (FL_f_CTL f + 4 * 1) l u1
  have hfirst : fwWriteWords (FL_f_CTL f) (w :: l) (take i s) = u := by
    rw [fwWriteWords]
    have := fwWrite_fl (v := w) (s := take i s) hf (r := 0) (by decide)
    rw [Nat.mul_zero, Nat.add_zero] at this
    rw [this]
    rfl
  have hreg1 (a : Nat) (ha : a ≠ FL_f_CTL f) : u1.reg a = (take i s).reg a := by
    show (writeFlowCtl f w (take i s)).reg a = _
    rw [hctl]
    exact (reg_setFld_other _ _ _ _ _ ha).trans (reg_setReg_other _ _ _ _ ha)
  have hen1 : flEn u1 f = false := by
    show flEn (writeFlowCtl f w (take i s)) f = false
    rw [hctl]
    exact (flag_eq_false_iff ..).2 (fld_setFld_of_lt _ _ _ _ (by decide) (by decide))
  have hact1 : flActive u1 f = false := (flag_of_reg_eq (hreg1 _ (by rw [flStat_eq]; omega)) _).trans (h2.trans hact)
  have hl : l.length = 10 := by simp [l, Req.words]
  obtain ⟨hother, hset⟩ := fwWriteWords_fields hf l (r := 1) (by decide) (by omega) hen1 hact1
  have hrun : cmdFlowSet.run (mailRequest s i) (take i s) = okRes [] u := by
    show runFlowSet _ _ = _
    unfold runFlowSet
    dsimp only
    rw [flow_checked hf h, h.field, checked_ok, h1, h2, hen, hact, words_eq_cons, ← hfirst]
    · rfl
    · intro e he
      rw [List.mem_singleton.1 he]
  have hkeep : u.reg (MB_i_STAT i) = (take i s).reg (MB_i_STAT i) := by
    rw [hother _ (fun k hk => (fl_ne_stat hi hf (by omega)).symm)]
    exact hreg1 _ (fl_ne_stat hi hf (k := 0) (by decide)).symm
  obtain ⟨t, ht, honly, hrep⟩ := h.replies hi rfl (h.runs hi rfl (h.lenOk hp) rfl hrun (Nat.zero_le _)) rfl (Nat.zero_le _) hkeep
  refine ⟨t, ht, hrep, ?_, fun k hk hk' => ?_⟩
  · refine (honly.flag_eq (fl_ne_stat hi hf (k := 0) (by decide)) _).trans ((flag_of_reg_eq ?_ _).trans hen1)
    exact hother _ (fun k _ => by omega)
  · refine (honly.reg_eq (fl_ne_stat hi hf (by omega))).trans ?_
    obtain ⟨j, rfl⟩ := Nat.exists_eq_add_of_le' hk
    have hj : l[j]? = some (BitVec.ofNat 32 ((mailRequest s i).f (8 + 4 * j) 4)) := words_getElem (by omega)
    have ho : j + 1 = 1 + j := by omega
    have hv : (BitVec.ofNat 32 ((mailRequest s i).f (8 + 4 * j) 4)).toNat = le p (4 + 4 * (1 + j)) 4 := by
      have hlt := le_lt p (8 + 4 * j) 4
      rw [h.field, BitVec.toNat_ofNat, Nat.mod_eq_of_lt hlt, show 8 + 4 * j = 4 + 4 * (1 + j) by omega]
    rw [ho]
    refine (hset j _ hj).trans ?_
    rw [hv]
    exact written_congr ((hreg1 _ (by show FL_f_CTL (le p 0 2) + _ ≠ FL_f_CTL (le p 0 2); omega)).trans (take_reg s (fl_ne_stat hi hf (by omega)))) _

end

end Sys2Proof.Machine
end

section

/-! SUPPORT. FLOW_EN, FLOW_STAT and reads of registers by firmware: O56. -/

namespace Sys2Proof.Machine
open R

section
variable {i code flags f : Nat} {p : List Byte} {s : State}

/-! ### FLOW_EN -/

/-- The control word with EN as `x`. -/
def enWord (x : Nat) (c : Word) : Word := BitVec.ofNat 32 (setBits c.toNat 0 1 x)

theorem enWord_toNat {x : Nat} (hx : x ≤ 1) (c : Word) : (enWord x c).toNat = c.toNat / 2 * 2 + x := by
  have hlt := setBits_lt c.toNat 0 1 x 32 c.isLt (by decide)
  unfold enWord
  rw [BitVec.toNat_ofNat, Nat.mod_eq_of_lt hlt]
  unfold setBits
  have hb : bits c.toNat 0 1 = c.toNat % 2 := by
    unfold bits
    omega
  omega

/-- The mask of the stored fields keeps the written word when it keeps the register. -/
theorem enWord_masked {x : Nat} (hx : x ≤ 1) {c : Word} (hc : c &&& 0x007F071F#32 = c) :
    ((enWord x c) &&& 0x007F071F).toNat = c.toNat / 2 * 2 + x := by
  have hn : c.toNat &&& 0x007F071F = c.toNat := by
    have h := congrArg BitVec.toNat hc
    rwa [BitVec.toNat_and] at h
  have hmask : (0x007F071F : Word).toNat = 0x007F071F := rfl
  rw [BitVec.toNat_and, hmask, enWord_toNat hx]
  have hdiv : (c.toNat / 2 * 2 + x &&& 0x007F071F) / 2 = c.toNat / 2 := by
    have h1 : (c.toNat / 2 * 2 + x) / 2 = c.toNat / 2 := by omega
    have h2 : (c.toNat &&& 0x007F071F) / 2 = c.toNat / 2 := congrArg (· / 2) hn
    rw [Nat.and_div_two, h1]
    rwa [Nat.and_div_two] at h2
  have hmod : (c.toNat / 2 * 2 + x &&& 0x007F071F) % 2 = x := by
    have h := Nat.and_mod_two_pow (a := c.toNat / 2 * 2 + x) (b := 0x007F071F) (n := 1)
    have h1 : (c.toNat / 2 * 2 + x) % 2 ^ 1 = x := by omega
    rw [h1] at h
    rcases Nat.le_one_iff_eq_zero_or_eq_one.1 hx with rfl | rfl
    · exact h
    · exact h
  omega

theorem writeFlowCtl_off {v : Word} (hv : v &&& 0x007F071F = v) (h0 : v.toNat % 2 = 0) (hsame : (s.reg (FL_f_CTL f)).toNat / 2 = v.toNat / 2) :
    ∃ w : Word, writeFlowCtl f v s =
      ((s.setReg (FL_f_CTL f) w).setFld (FL_f_CTL f) FL_f_CTL_EN 0).mapFlow f (fun x => { x with stop := x.stop || x.on }) := by
  have hheld : ((flEn s f || flActive s f) && decide ((s.reg (FL_f_CTL f)).toNat / 2 ≠ v.toNat / 2)) = false := by
    rw [decide_eq_false (not_not.2 hsame), Bool.and_false]
  unfold writeFlowCtl
  dsimp only
  rw [hv, hheld, if_pos h0]
  exact ⟨_, rfl⟩

theorem writeFlowCtl_on {v : Word} (hv : v &&& 0x007F071F = v) (h1 : v.toNat % 2 = 1) (hsame : (s.reg (FL_f_CTL f)).toNat / 2 = v.toNat / 2)
    (hen : flEn s f = false) :
    writeFlowCtl f v s =
      let s1 := s.setReg (FL_f_CTL f) (s.reg (FL_f_CTL f))
      let s2 := flowErrors (overlapBad s f) (idDupBad s f) (rangeBad s f) (jbBad s f) f s1
      if overlapBad s f || idDupBad s f || rangeBad s f || jbBad s f then s2 else s2.setFld (FL_f_CTL f) FL_f_CTL_EN 1 := by
  have hheld : ((flEn s f || flActive s f) && decide ((s.reg (FL_f_CTL f)).toNat / 2 ≠ v.toNat / 2)) = false := by
    rw [decide_eq_false (not_not.2 hsame), Bool.and_false]
  have hreads := reads_setReg_self s (FL_f_CTL f)
  have hval : BitVec.ofNat 32 (v.toNat / 2 * 2 + b2n false) = s.reg (FL_f_CTL f) := by
    have h0 : (s.reg (FL_f_CTL f)).toNat % 2 = 0 := by
      have := (flag_eq_false_iff ..).1 hen
      simpa [State.fld, bits, FL_f_CTL_EN] using this
    have hb : v.toNat / 2 * 2 + b2n false = (s.reg (FL_f_CTL f)).toNat := by
      have : b2n false = 0 := rfl
      omega
    rw [hb, BitVec.ofNat_toNat, BitVec.setWidth_eq]
  unfold writeFlowCtl
  dsimp only
  rw [hv, hheld, hen, if_neg (by omega)]
  simp only [Bool.false_eq_true, if_false, hval, overlapBad_of_reads hreads, idDupBad_of_reads hreads, rangeBad_of_reads hreads,
    jbBad_of_reads hreads rfl]
  rfl

theorem fwWrite_flCtl (hf : f < 3072) (v : Word) (s : State) : fwWrite (FL_f_CTL f) v s = writeFlowCtl f v s := by
  have h := fwWrite_fl (v := v) (s := s) hf (r := 0) (by decide)
  rw [Nat.mul_zero, Nat.add_zero] at h
  rw [h]
  rfl

theorem fieldsAt_FL_ERR : fieldsAt FL_ERR = [⟨0, 5, .w1c⟩] := by decide

/-- The errors cleared before FLOW_EN writes the context. -/
def errorsCleared (s : State) : State := s.writeByType FL_ERR 0x1F

theorem errorsCleared_low (s : State) : (errorsCleared s).fld FL_ERR ⟨0, 5⟩ = 0 := by
  have h := fld_writeByType s FL_ERR 0x1F ⟨0, 5⟩ .w1c fieldsAt_FL_ERR (by decide) (by decide)
  refine h.trans ?_
  show s.fld FL_ERR ⟨0, 5⟩ &&& (2 ^ 5 - 1 - 31) = 0
  exact Nat.and_zero _

theorem errors_eq (s : State) : (s.reg FL_ERR).toNat % 32 = s.fld FL_ERR ⟨0, 5⟩ := by
  unfold State.fld bits
  rw [Nat.pow_zero, Nat.div_one]
  rfl

/-- What FLOW_EN comes to, given what the write of the context leaves. -/
theorem flowEn_executes (h : Pending i 0x4002 flags p s) (hi : i < 18) (hp : p.length = 3) (hf : le p 0 2 < 3072) (h2 : le p 2 1 ≤ 1) {u : State}
    (hu : writeFlowCtl (le p 0 2) (enWord (le p 2 1) ((errorsCleared (take i s)).reg (FL_f_CTL (le p 0 2)))) (errorsCleared (take i s)) = u) :
    execute cmdFlowEn (mailRequest s i) (take i s) =
      if u.fld FL_ERR ⟨0, 5⟩ ≠ 0 then refuse stHw (u.fld FL_ERR ⟨0, 5⟩) u else waitRes .flowEn u := by
  have hclear : fwWrite FL_ERR 0x1F (take i s) = errorsCleared (take i s) := fwWrite_flHead (by decide) (by decide) (by decide)
  refine h.runs hi rfl (h.lenOk hp) rfl ?_ ?_
  · show runFlowEn _ _ = _
    unfold runFlowEn
    dsimp only
    rw [flow_checked hf h, h.field, h.field, checked_ok, hclear, fwWrite_flCtl hf]
    · rw [← errors_eq, ← hu]
      rfl
    · intro e he
      simp only [List.mem_cons, List.not_mem_nil, or_false] at he
      rcases he with rfl | rfl
      · rfl
      · exact decide_eq_false (by omega)
  · by_cases he : u.fld FL_ERR ⟨0, 5⟩ ≠ 0
    · rw [if_pos he]
      exact Nat.zero_le _
    · rw [if_neg he]
      exact Nat.zero_le _

theorem flow_ne_err (f : Nat) : FL_f_CTL f ≠ FL_ERR := by
  simp only [FL_f_CTL, FL_ERR]
  omega

theorem flow_ne_errFlow (f : Nat) : FL_f_CTL f ≠ FL_ERR_FLOW := by
  simp only [FL_f_CTL, FL_ERR_FLOW]
  omega

theorem ctl_before (hf : f < 3072) (hi : i < 18) : (errorsCleared (take i s)).reg (FL_f_CTL f) = s.reg (FL_f_CTL f) :=
  (reg_writeByType_other _ _ _ _ (flow_ne_err _)).trans (take_reg s (fl_ne_stat hi hf (k := 0) (by decide)))

section FlowEn
variable (hf : le p 0 2 < 3072) (hmask : s.reg (FL_f_CTL (le p 0 2)) &&& 0x007F071F#32 = s.reg (FL_f_CTL (le p 0 2)))
include hf hmask

omit hf in
theorem enWord_kept {x : Nat} (hx : x ≤ 1) :
    (enWord x (s.reg (FL_f_CTL (le p 0 2)))) &&& 0x007F071F = enWord x (s.reg (FL_f_CTL (le p 0 2))) :=
  BitVec.eq_of_toNat_eq ((enWord_masked hx hmask).trans (enWord_toNat hx _).symm)

theorem flowEn_disables (h : Pending i 0x4002 flags p s) (hi : i < 18) (hp : p.length = 3) (h2 : le p 2 1 = 0) :
    ∃ t, doCommand cmdFlowEn i s = t ∧ Deferred i .flowEn s t ∧ flEn t (le p 0 2) = false := by
  let f := le p 0 2
  let e := errorsCleared (take i s)
  have hctl : e.reg (FL_f_CTL f) = s.reg (FL_f_CTL f) := ctl_before hf hi
  have hv := enWord_toNat (x := 0) (by decide) (s.reg (FL_f_CTL f))
  obtain ⟨w, hw⟩ := writeFlowCtl_off (s := e) (f := f) (enWord_kept hmask (x := 0) (by decide)) (by rw [hv]; omega) (by rw [hctl, hv]; omega)
  let u := ((e.setReg (FL_f_CTL f) w).setFld (FL_f_CTL f) FL_f_CTL_EN 0).mapFlow f (fun x => { x with stop := x.stop || x.on })
  have hreg (a : Nat) (ha : a ≠ FL_f_CTL f) : u.reg a = e.reg a := (reg_setFld_other _ _ _ _ _ ha).trans (reg_setReg_other _ _ _ _ ha)
  have hclean : u.fld FL_ERR ⟨0, 5⟩ = 0 := (fld_of_reg_eq (hreg _ (flow_ne_err _).symm) _).trans (errorsCleared_low _)
  have hexec := flowEn_executes h hi hp hf (by omega) (u := u) (by rw [hctl, h2]; exact hw)
  rw [hclean, if_neg (not_not.2 rfl)] at hexec
  have hfw : u.fw = s.fw := (congrArg State.fw (writeByType_rest (take i s) FL_ERR 0x1F) :)
  have hkeep : u.reg (MB_i_STAT i) = (take i s).reg (MB_i_STAT i) :=
    (hreg _ (fl_ne_stat hi hf (k := 0) (by decide)).symm).trans (reg_writeByType_other _ _ _ _ (ne_stat hi (by decide)).symm)
  obtain ⟨t, ht, hdef, hregs⟩ := h.defers rfl (by simp) hexec hfw hkeep
  refine ⟨t, ht, hdef, (flag_of_reg_eq (reg_of_regs_eq hregs _) _).trans ?_⟩
  exact (flag_eq_false_iff ..).2 (fld_setFld_of_lt _ _ _ _ (by decide) (by decide))

theorem flowEn_refused (h : Pending i 0x4002 flags p s) (hi : i < 18) (hp : p.length = 3) (h2 : le p 2 1 = 1) (hen : flEn s (le p 0 2) = false)
    (hbad : rangeBad s (le p 0 2) = true) : ∃ t, doCommand cmdFlowEn i s = t ∧ flEn t (le p 0 2) = false ∧
      Replied i 12 ((t.reg FL_ERR).toNat % 32) [] s t ∧ t.fld FL_ERR FL_ERR_RANGE = 1 := by
  let f := le p 0 2
  let e := errorsCleared (take i s)
  have hctl : e.reg (FL_f_CTL f) = s.reg (FL_f_CTL f) := ctl_before hf hi
  have hv := enWord_toNat (x := 1) (by decide) (s.reg (FL_f_CTL f))
  have hrange : rangeBad e f = true := by
    have hreads (a : Nat) (h1 : a ≠ FL_ERR) (h2 : a ≠ MB_i_STAT i) : e.reg a = s.reg a :=
      (reg_writeByType_other _ _ _ _ h1).trans (take_reg s h2)
    have hcfg : e.reg SX_CFG = s.reg SX_CFG := hreads _ (by decide) (ne_stat hi (by decide))
    have hch : e.reg (FL_f_CH f) = s.reg (FL_f_CH f) :=
      hreads _ (by simp only [FL_f_CH, FL_ERR]; omega) (ne_stat hi (by simp only [FL_f_CH, f]; omega))
    have hofs : e.reg (FL_f_OFS f) = s.reg (FL_f_OFS f) :=
      hreads _ (by simp only [FL_f_OFS, FL_ERR]; omega) (ne_stat hi (by simp only [FL_f_OFS, f]; omega))
    have heq : rangeBad e f = rangeBad s f := by
      unfold rangeBad flP blockN flChn flWidth flTx flAes flOfs fsHz State.flag State.fld
      rw [hctl, hcfg, hch, hofs]
    exact heq.trans hbad
  have hsame := writeFlowCtl_on (s := e) (f := f) (enWord_kept hmask (x := 1) (by decide)) (by rw [hv]; omega) (by rw [hctl, hv]; omega)
    ((flag_of_reg_eq hctl _).trans hen)
  have hreads := reads_setReg_self e (FL_f_CTL f)
  let u := flowErrors (overlapBad e f) (idDupBad e f) (rangeBad e f) (jbBad e f) f (e.setReg (FL_f_CTL f) (e.reg (FL_f_CTL f)))
  have hw : writeFlowCtl f (enWord 1 (s.reg (FL_f_CTL f))) e = u :=
    hsame.trans (if_pos (by rw [hrange]; simp))
  have honlyu := flowErrors_onlyRegs (overlapBad e f) (idDupBad e f) (rangeBad e f) (jbBad e f) f (e.setReg (FL_f_CTL f) (e.reg (FL_f_CTL f)))
  have hbit : u.fld FL_ERR FL_ERR_RANGE = 1 :=
    (flowErrors_bits (overlapBad e f) (idDupBad e f) (rangeBad e f) (jbBad e f) f (e.setReg (FL_f_CTL f) (e.reg (FL_f_CTL f)))).2.2.1 hrange
  have hreg (a : Nat) (h1 : a ≠ FL_ERR) (h2 : a ≠ FL_ERR_FLOW) : u.reg a = e.reg a :=
    (honlyu.2 a (by simp [h1, h2])).trans (congrFun hreads a)
  have herr : u.fld FL_ERR ⟨0, 5⟩ ≠ 0 := by
    intro h0
    have hr : (u.reg FL_ERR).toNat / 2 ^ 2 % 2 ^ 1 = 1 := hbit
    have hz : (u.reg FL_ERR).toNat / 2 ^ 0 % 2 ^ 5 = 0 := h0
    omega
  have hexec := flowEn_executes h hi hp hf (by omega) (u := u) (by rw [hctl, h2]; exact hw)
  rw [if_pos herr] at hexec
  have hkeep : u.reg (MB_i_STAT i) = (take i s).reg (MB_i_STAT i) :=
    (hreg _ (ne_stat hi (by decide)).symm (ne_stat hi (by decide)).symm).trans (reg_writeByType_other _ _ _ _ (ne_stat hi (by decide)).symm)
  obtain ⟨t, ht, honly, hrep⟩ := h.replies hi rfl hexec rfl (Nat.zero_le _) hkeep
  refine ⟨t, ht, ?_, ?_, (honly.fld_eq (ne_stat hi (by decide)) _).trans hbit⟩
  · refine (honly.flag_eq (fl_ne_stat hi hf (k := 0) (by decide)) _).trans ((flag_of_reg_eq ?_ _).trans hen)
    exact (hreg _ (flow_ne_err _) (flow_ne_errFlow _)).trans hctl
  · rw [errors_eq, honly.fld_eq (ne_stat hi (by decide))]
    exact hrep

end FlowEn

/-! ### Reads of registers -/

theorem ctlRead_word {ag : Agent} {a : Nat} (h4 : a % 4 = 0) (hoff : blockOff s a = false) :
    ctlRead ag s a 4 = okFetch (leBytes 4 (regRead ag a s).1.toNat) (regRead ag a s).2 := by
  unfold ctlRead
  rw [hoff, touched_word h4]
  rfl

/-- A read of an aligned word of a control block that answers. -/
theorem busRead_control {ag : Agent} {a : Nat} (hc : isControl a = true) (hhigh : 0x1000000000 ≤ a) (h4 : a % 4 = 0) (hoff : blockOff s a = false) :
    busRead ag false s a 4 = okFetch (leBytes 4 (regRead ag a s).1.toNat) (regRead ag a s).2 := by
  have hraw : busReadRaw ag s a 4 = okFetch (leBytes 4 (regRead ag a s).1.toNat) (regRead ag a s).2 := by
    unfold busReadRaw
    rw [if_neg (by omega), if_pos hc, ctlRead_word h4 hoff]
  unfold busRead
  rw [hraw]
  rfl

theorem fwRead_block {a : Nat} (hlo : 0x2000000000 ≤ a) (hhi : a < 0x200046E000) (h4 : a % 4 = 0) (hoff : blockOff s a = false) :
    fwRead a s = readBlock .clove a s := by
  have hc : isControl a = true := by
    unfold isControl
    rw [decide_eq_true hlo, decide_eq_true hhi]
    rfl
  have hreg : regRead .clove a s = readBlock .clove a s := if_neg (by omega)
  unfold fwRead
  rw [busRead_control hc (by omega) h4 hoff, hreg]
  refine Prod.ext ?_ rfl
  show BitVec.ofNat 32 (leNat (leBytes 4 (readBlock .clove a s).1.toNat)) = _
  rw [leNat_leBytes]
  refine BitVec.eq_of_toNat_eq ?_
  have := (readBlock .clove a s).1.isLt
  rw [BitVec.toNat_ofNat]
  omega

/-- A register that has a row reads as it is, and only itself clears. -/
theorem readByType_of_row {a : Nat} {r : RegRow × List Nat} (h : regRow a = some r) : (s.readByType a).1 = s.reg a ∧
    (∀ b, b ≠ a → (s.readByType a).2.reg b = s.reg b) ∧ (s.readByType a).2 = { s with regs := (s.readByType a).2.regs } := by
  unfold State.readByType
  rw [h]
  exact ⟨rfl, fun b hb => reg_setReg_other _ _ _ _ hb, rfl⟩

end

end Sys2Proof.Machine
end

section

/-! SUPPORT. FLOW_STAT, PORT_CFG, RING_CFG, PTP_CFG and GCL_SET: O56. -/

namespace Sys2Proof.Machine
open R

section
variable {i code flags f : Nat} {p : List Byte} {s : State}

/-! ### FLOW_STAT -/

theorem readBlock_fl {ag : Agent} {a : Nat} (hlo : FL_ID ≤ a) (hhi : a < mbRequest 0) : readBlock ag a s = s.readByType a := by
  have below (x : Nat) (hx : x < FL_ID) : ¬ a = x := fun e => absurd (hlo.trans_eq e) (Nat.not_le.2 hx)
  have above (x : Nat) (hx : mbRequest 0 ≤ x) : ¬ a = x := fun e => absurd (hhi.trans_le hx) (Nat.not_lt.2 (Nat.le_of_eq e.symm))
  unfold readBlock
  rw [if_neg (below SX_FRAME_LO (by decide)), if_neg (above AN_START_LO (by decide)), if_neg (above SF_UPD_LO (by decide)),
    if_neg (above NET_TIME_NS (by decide)), if_neg, if_neg (below SX_BLOCK_LO (by decide)), if_neg (not_below SX_ID (by decide) hlo), if_neg,
    if_neg, if_neg (not_below MC_ID (by decide) hlo), if_neg (not_below FL_ID (by decide) hlo), if_pos hhi]
  · exact fun e => absurd e.2 (not_below MC_ID (by decide) hlo)
  · exact fun e => absurd e.2 (not_below (SX_ID + 0x5A000) (by decide) hlo)
  · rintro (e | e | e | e | e)
    · exact below SX_FRAME_HI (by decide) e
    · exact above AN_START_HI (by decide) e
    · exact above SF_UPD_HI (by decide) e
    · exact above NET_TIME_S_LO (by decide) e
    · exact above NET_TIME_S_HI (by decide) e

theorem regRow_FL_f_STAT (hf : f < 3072) :
    regRow (FL_f_STAT f) = some (⟨0x200039002C, [(3072, 0x40)], 0x0, [], [⟨0, 1, .ro⟩, ⟨1, 5, .w1c⟩]⟩, [f]) := by
  have hb : FL_f_STAT f = 0x200039002C + f * 0x40 := by simp only [FL_f_STAT]
  unfold regRow
  rw [hb, regRowsAt_FL (by omega) (by omega)]
  unfold regRowsFL
  simp (disch := omega) only [findRow_past_one, findRow_between, findRow_at]

theorem regRow_FL_f_CNT (hf : f < 3072) :
    regRow (FL_f_CNT f) = some (⟨0x2000390030, [(3072, 0x40)], 0x0, [], [⟨0, 32, .rc⟩]⟩, [f]) := by
  have hb : FL_f_CNT f = 0x2000390030 + f * 0x40 := by simp only [FL_f_CNT]
  unfold regRow
  rw [hb, regRowsAt_FL (by omega) (by omega)]
  unfold regRowsFL
  simp (disch := omega) only [findRow_past_one, findRow_between, findRow_at]

theorem regRow_FL_f_SEQ (hf : f < 3072) :
    regRow (FL_f_SEQ f) = some (⟨0x2000390034, [(3072, 0x40)], 0x0, [], [⟨0, 16, .ro⟩]⟩, [f]) := by
  have hb : FL_f_SEQ f = 0x2000390034 + f * 0x40 := by simp only [FL_f_SEQ]
  unfold regRow
  rw [hb, regRowsAt_FL (by omega) (by omega)]
  unfold regRowsFL
  simp (disch := omega) only [findRow_past_one, findRow_between, findRow_at]

/-- A read of a stream register by firmware. -/
theorem fwRead_fl {a : Nat} (hlo : FL_ID ≤ a) (hhi : a < mbRequest 0) (h4 : a % 4 = 0) {r : RegRow × List Nat} (hr : regRow a = some r) (s : State) :
    (fwRead a s).1 = s.reg a ∧ ∀ b, b ≠ a → (fwRead a s).2.reg b = s.reg b := by
  rw [fwRead_block ((by decide : 0x2000000000 ≤ FL_ID).trans hlo) (hhi.trans (by decide)) h4
    (blockOff_on ((by decide : SX_ID ≤ FL_ID).trans hlo) (.inl (hhi.trans (by decide))) (.inl (hhi.trans (by decide)))), readBlock_fl hlo hhi]
  obtain ⟨h1, h2, -⟩ := readByType_of_row (s := s) hr
  exact ⟨h1, h2⟩

theorem flowStat_reads (h : Pending i 0x4003 flags p s) (hi : i < 18) (hp : p.length = 2) (hf : le p 0 2 < 3072) :
    ∃ t, doCommand cmdFlowStat i s = t ∧
      Replied i 0 0 (regBytes s (FL_f_STAT (le p 0 2)) ++ regBytes s (FL_f_CNT (le p 0 2)) ++ regBytes s (FL_f_SEQ (le p 0 2))) s t := by
  let f := le p 0 2
  let a := fwRead (FL_f_STAT f) (take i s)
  let b := fwRead (FL_f_CNT f) a.2
  let c := fwRead (FL_f_SEQ f) b.2
  have hne1 : FL_f_CNT f ≠ FL_f_STAT f := by simp only [FL_f_CNT, FL_f_STAT]; omega
  have hne2 : FL_f_SEQ f ≠ FL_f_STAT f := by simp only [FL_f_SEQ, FL_f_STAT]; omega
  have hne3 : FL_f_SEQ f ≠ FL_f_CNT f := by simp only [FL_f_SEQ, FL_f_CNT]; omega
  have hm1 : FL_f_STAT f ≠ MB_i_STAT i := ne_stat hi (by simp only [FL_f_STAT, f]; omega)
  have hm2 : FL_f_CNT f ≠ MB_i_STAT i := ne_stat hi (by simp only [FL_f_CNT, f]; omega)
  have hm3 : FL_f_SEQ f ≠ MB_i_STAT i := ne_stat hi (by simp only [FL_f_SEQ, f]; omega)
  obtain ⟨ha1, ha2⟩ := fwRead_fl (by simp only [FL_f_STAT, FL_ID]; omega) (by simp only [FL_f_STAT, mbRequest]; omega)
    (by simp only [FL_f_STAT]; omega) (regRow_FL_f_STAT hf) (take i s)
  obtain ⟨hb1, hb2⟩ := fwRead_fl (by simp only [FL_f_CNT, FL_ID]; omega) (by simp only [FL_f_CNT, mbRequest]; omega)
    (by simp only [FL_f_CNT]; omega) (regRow_FL_f_CNT hf) a.2
  obtain ⟨hc1, hc2⟩ := fwRead_fl (by simp only [FL_f_SEQ, FL_ID]; omega) (by simp only [FL_f_SEQ, mbRequest]; omega)
    (by simp only [FL_f_SEQ]; omega) (regRow_FL_f_SEQ hf) b.2
  have hdata : leBytes 4 a.1.toNat ++ leBytes 4 b.1.toNat ++ leBytes 4 c.1.toNat = regBytes s (FL_f_STAT f) ++ regBytes s (FL_f_CNT f) ++ regBytes s (FL_f_SEQ f) := by
    have e1 : a.1 = s.reg (FL_f_STAT f) := ha1.trans (take_reg s hm1)
    have e2 : b.1 = s.reg (FL_f_CNT f) := hb1.trans ((ha2 _ hne1).trans (take_reg s hm2))
    have e3 : c.1 = s.reg (FL_f_SEQ f) := hc1.trans ((hb2 _ hne3).trans ((ha2 _ hne2).trans (take_reg s hm3)))
    rw [e1, e2, e3]
    rfl
  have hrun : cmdFlowStat.run (mailRequest s i) (take i s) =
      okRes (regBytes s (FL_f_STAT f) ++ regBytes s (FL_f_CNT f) ++ regBytes s (FL_f_SEQ f)) c.2 := by
    show runFlowStat _ _ = _
    unfold runFlowStat
    dsimp only
    rw [flow_checked hf h, h.field, checked_ok, ← hdata]
    intro e he
    rw [List.mem_singleton.1 he]
  have hlen : (regBytes s (FL_f_STAT f) ++ regBytes s (FL_f_CNT f) ++ regBytes s (FL_f_SEQ f)).length ≤ 4080 := by
    simp only [List.length_append, regBytes_length]
    decide
  have hkeep : c.2.reg (MB_i_STAT i) = (take i s).reg (MB_i_STAT i) := (hc2 _ hm3.symm).trans ((hb2 _ hm2.symm).trans (ha2 _ hm1.symm))
  obtain ⟨t, ht, -, hrep⟩ := h.replies hi rfl (h.runs hi rfl (h.lenOk hp) rfl hrun hlen) rfl hlen hkeep
  exact ⟨t, ht, hrep⟩

/-! ### RING_CFG and PTP_CFG -/

theorem fwWrite_netCtl (v : Word) (s : State) : fwWrite NET_CTL v s = doRingEnableWrite v s := by
  rw [fwWrite_net (by decide) (by decide) (by decide)]
  rfl

theorem fwWrite_isoTime (v : Word) (s : State) : fwWrite NET_ISO_TIME v s = writeIsoTime v s := by
  rw [fwWrite_net (by decide) (by decide) (by decide)]
  rfl

theorem fwWrite_ptpCtl (v : Word) (s : State) : fwWrite NET_PTP_CTL v s = writePtpCtl v s := by
  rw [fwWrite_net (by decide) (by decide) (by decide)]
  rfl

theorem fieldsAt_NET_ISO_TIME : fieldsAt NET_ISO_TIME = [⟨0, 16, .rw⟩] := by decide
theorem fieldsAt_NET_PTP_CTL : fieldsAt NET_PTP_CTL = [⟨0, 2, .rw⟩, ⟨8, 8, .rw⟩] := by decide

theorem ring_sets (h : Pending i 0x4005 flags p s) (hi : i < 18) (hp : p.length = 6) (h0 : le p 0 1 ≤ 1) (h1 : le p 1 1 ≤ 1) (h2 : le p 2 1 ≤ 1)
    (hlo : 100 ≤ le p 4 2) (hhi : le p 4 2 ≤ 20000) : ∃ t, doCommand cmdRingCfg i s = t ∧ Replied i 0 0 [] s t ∧
      t.fld NET_CTL NET_CTL_RING_A_EN = le p 0 1 ∧ t.fld NET_CTL NET_CTL_RING_B_EN = le p 1 1 ∧ t.fld NET_CTL NET_CTL_PRP_EN = le p 2 1 ∧
      t.fld NET_ISO_TIME NET_ISO_TIME_US = le p 4 2 := by
  let n := le p 0 1 + 2 * le p 1 1 + 4 * le p 2 1
  let w := (take i s).writeByType NET_CTL (BitVec.ofNat 32 n)
  let u := (checkIsolation w).writeByType NET_ISO_TIME (BitVec.ofNat 32 (le p 4 2))
  have htime : bits (BitVec.ofNat 32 (le p 4 2)).toNat 0 16 = le p 4 2 := by
    rw [bits_ofNat (by omega)]
    unfold bits
    omega
  have hrun : cmdRingCfg.run (mailRequest s i) (take i s) = okRes [] u := by
    show runRingCfg _ _ = _
    unfold runRingCfg
    simp only [h.field]
    rw [checked_ok, fwWrite_netCtl, fwWrite_isoTime]
    · have hw : writeIsoTime (BitVec.ofNat 32 (le p 4 2)) (doRingEnableWrite (BitVec.ofNat 32 n) (take i s)) = u := by
        unfold writeIsoTime
        rw [htime, if_neg (by omega)]
        rfl
      rw [← hw]
    · intro e he
      simp only [List.mem_cons, List.not_mem_nil, or_false] at he
      rcases he with rfl | rfl | rfl | rfl <;> exact decide_eq_false (by omega)
  have hreg (a : Nat) (h1 : a ≠ NET_RING_STAT) (h2 : a ≠ NET_PTP_STAT) (h3 : a ≠ NET_DCO_FREQ) (h4 : a ≠ NET_ISO_TIME) : u.reg a = w.reg a :=
    (reg_writeByType_other _ _ _ _ h4).trans (checkIsolation_reg w h1 h2 h3)
  have hkeep : u.reg (MB_i_STAT i) = (take i s).reg (MB_i_STAT i) :=
    (hreg _ (ne_stat hi (by decide)).symm (ne_stat hi (by decide)).symm (ne_stat hi (by decide)).symm (ne_stat hi (by decide)).symm).trans
      (reg_writeByType_other _ _ _ _ (ne_stat hi (by decide)).symm)
  obtain ⟨t, ht, honly, hrep⟩ := h.replies hi rfl (h.runs hi rfl (h.lenOk hp) rfl hrun (Nat.zero_le _)) rfl (Nat.zero_le _) hkeep
  have hfld (f : Fld) (hf : accOf f.lo f.w [⟨0, 3, .rw⟩] = some .rw) : t.fld NET_CTL f = bits n f.lo f.w := by
    refine (honly.fld_eq (ne_stat hi (by decide)) f).trans ?_
    refine (fld_of_reg_eq (hreg NET_CTL (by decide) (by decide) (by decide) (by decide)) f).trans ?_
    exact (fld_writeByType _ _ _ f .rw fieldsAt_NET_CTL (by decide) hf).trans (bits_ofNat (by omega) _ _)
  refine ⟨t, ht, hrep, (hfld _ (by decide)).trans ?_, (hfld _ (by decide)).trans ?_, (hfld _ (by decide)).trans ?_, ?_⟩
  · show n / 2 ^ 0 % 2 ^ 1 = _
    omega
  · show n / 2 ^ 1 % 2 ^ 1 = _
    omega
  · show n / 2 ^ 2 % 2 ^ 1 = _
    omega
  · refine (honly.fld_eq (ne_stat hi (by decide)) _).trans ?_
    exact (fld_writeByType _ _ _ NET_ISO_TIME_US .rw fieldsAt_NET_ISO_TIME (by decide) (by decide)).trans htime

theorem ptp_sets (h : Pending i 0x4006 flags p s) (hi : i < 18) (hp : p.length = 2) (h0 : le p 0 1 ≤ 2) :
    ∃ t, doCommand cmdPtpCfg i s = t ∧ Replied i 0 0 [] s t ∧
      t.fld NET_PTP_CTL NET_PTP_CTL_PROFILE = le p 0 1 ∧ t.fld NET_PTP_CTL NET_PTP_CTL_DOMAIN = le p 1 1 := by
  let n := le p 0 1 + 256 * le p 1 1
  have h1 := le_lt p 1 1
  let u := (take i s).writeByType NET_PTP_CTL (BitVec.ofNat 32 n)
  have hrun : cmdPtpCfg.run (mailRequest s i) (take i s) = okRes [] u := by
    show runPtpCfg _ _ = _
    unfold runPtpCfg
    simp only [h.field]
    rw [checked_ok, fwWrite_ptpCtl]
    · have hw : writePtpCtl (BitVec.ofNat 32 n) (take i s) = u := by
        unfold writePtpCtl
        rw [bits_ofNat (by omega)]
        exact if_neg (by show ¬ n / 2 ^ 0 % 2 ^ 2 = 3; omega)
      rw [← hw]
    · intro e he
      rw [List.mem_singleton.1 he]
      exact decide_eq_false (by omega)
  obtain ⟨t, ht, honly, hrep⟩ := h.replies hi rfl (h.runs hi rfl (h.lenOk hp) rfl hrun (Nat.zero_le _)) rfl (Nat.zero_le _)
    (reg_writeByType_other _ _ _ _ (ne_stat hi (by decide)).symm)
  have hfld (f : Fld) (hf : accOf f.lo f.w [⟨0, 2, .rw⟩, ⟨8, 8, .rw⟩] = some .rw) : t.fld NET_PTP_CTL f = bits n f.lo f.w := by
    refine (honly.fld_eq (ne_stat hi (by decide)) f).trans ?_
    exact (fld_writeByType _ _ _ f .rw fieldsAt_NET_PTP_CTL (by decide) hf).trans (bits_ofNat (by omega) _ _)
  refine ⟨t, ht, hrep, (hfld _ (by decide)).trans ?_, (hfld _ (by decide)).trans ?_⟩
  · show n / 2 ^ 0 % 2 ^ 2 = _
    omega
  · show n / 2 ^ 8 % 2 ^ 8 = _
    omega

/-! ### PORT_CFG -/

theorem fieldsAt_NET_PORT_p_CFG {q : Nat} (h : q < 4) : fieldsAt (NET_PORT_p_CFG q) = [⟨0, 5, .rw⟩] := by
  have hall : ∀ q : Fin 4, fieldsAt (NET_PORT_p_CFG q) = [⟨0, 5, .rw⟩] := by decide
  exact hall ⟨q, h⟩

theorem fieldsAt_NET_PORT_p_DLY {q : Nat} (h : q < 4) : fieldsAt (NET_PORT_p_DLY q) = [⟨0, 32, .rw⟩] := by
  have hall : ∀ q : Fin 4, fieldsAt (NET_PORT_p_DLY q) = [⟨0, 32, .rw⟩] := by decide
  exact hall ⟨q, h⟩

section Port
variable {q : Nat} (hq : q < 4)
include hq

theorem fwWrite_portCfg (v : Word) (s : State) : fwWrite (NET_PORT_p_CFG q) v s = writePortCfg q v s := by
  have ho : NET_PORT_p_CFG q - NET_ID = 0x100 + q * 0x40 := by simp only [NET_PORT_p_CFG, NET_ID]; omega
  have hp : (0x100 + q * 0x40 - 0x100) / 0x40 = q := by omega
  rw [fwWrite_net (by simp only [NET_PORT_p_CFG, NET_ID]; omega) (by simp only [NET_PORT_p_CFG, SNS_ID]; omega)
    (by simp only [NET_PORT_p_CFG]; omega), ho]
  unfold writeNet
  dsimp only
  rw [if_neg (by omega), if_neg (by omega), if_neg (by omega), if_neg (by omega), if_pos (by omega), hp]

/-- A register of a port that the write takes as its access types say. -/
theorem fwWrite_port {k : Nat} (hk : k < 0x40) (h4 : k % 4 = 0) (h0 : k ≠ 0) (h14 : k ≠ 0x14) (h18 : k ≠ 0x18) (v : Word) (s : State) :
    fwWrite (0x2000464100 + q * 0x40 + k) v s = s.writeByType (0x2000464100 + q * 0x40 + k) v := by
  have ho : 0x2000464100 + q * 0x40 + k - NET_ID = 0x100 + q * 0x40 + k := by simp only [NET_ID]; omega
  have ha : NET_ID + (0x100 + q * 0x40 + k) = 0x2000464100 + q * 0x40 + k := by simp only [NET_ID]; omega
  rw [fwWrite_net (by simp only [NET_ID]; omega) (by simp only [SNS_ID]; omega) (by omega), ho]
  unfold writeNet
  dsimp only
  rw [if_neg (by omega), if_neg (by omega), if_neg (by omega), if_neg (by omega), if_neg (by omega), if_neg (by omega), if_neg (by omega), ha]

omit hq in
/-- What the write of a port's rate touches beside the rate. -/
theorem writePortCfg_reg (v : Word) (s : State) {a : Nat} (h0 : ∀ r, a ≠ NET_PORT_p_STAT r) (h1 : a ≠ NET_RING_STAT) (h2 : a ≠ NET_PTP_STAT)
    (h3 : a ≠ NET_DCO_FREQ) : (writePortCfg q v s).reg a = (s.writeByType (NET_PORT_p_CFG q) v).reg a := by
  have hdown (u : State) : (doLinkDown q u).reg a = u.reg a := by
    by_cases hl : (!u.flag (NET_PORT_p_STAT q) NET_PORT_p_STAT_LINK) = true
    · unfold doLinkDown
      rw [if_pos hl]
    · have hlink : u.fld (NET_PORT_p_STAT q) NET_PORT_p_STAT_LINK = 1 := by
        rw [Bool.not_eq_true', Bool.not_eq_false] at hl
        exact (flag_eq_true_iff u _ rfl).1 hl
      have hd := doLinkDown_linked hlink
      dsimp only at hd
      rw [hd, checkIsolation_reg _ h1 h2 h3]
      refine (setMismatch_reg _ _ (h0 _) (h0 _)).trans ?_
      exact (reg_setFld_other _ _ _ _ _ h1).trans ((reg_setFld_other _ _ _ _ _ (h0 _)).trans (reg_setFld_other _ _ _ _ _ (h0 _)))
  unfold writePortCfg
  dsimp only
  by_cases hr : portRate (s.writeByType (NET_PORT_p_CFG q) v) q = 3
  · rw [if_pos hr]
    exact hdown _
  · rw [if_neg hr]
    exact setMismatch_reg _ _ (h0 _) (h0 _)

end Port

theorem port_sets (h : Pending i 0x4004 flags p s) (hi : i < 18) (hp : p.length = 8) (h0 : le p 0 1 < 4) (h1 : le p 1 1 < 4) (h2 : le p 2 1 < 4)
    (h3 : le p 3 1 < 2) : ∃ t, doCommand cmdPortCfg i s = t ∧ Replied i 0 0 [] s t ∧
      t.fld (NET_PORT_p_CFG (le p 0 1)) NET_PORT_p_CFG_RATE = le p 1 1 ∧ t.fld (NET_PORT_p_CFG (le p 0 1)) NET_PORT_p_CFG_FEC = le p 2 1 ∧
      t.fld (NET_PORT_p_CFG (le p 0 1)) NET_PORT_p_CFG_AN = le p 3 1 ∧
      t.fld (NET_PORT_p_DLY (le p 0 1)) NET_PORT_p_DLY_TX = le p 4 2 ∧ t.fld (NET_PORT_p_DLY (le p 0 1)) NET_PORT_p_DLY_RX = le p 6 2 := by
  have hrx := le_lt p 6 2
  have htx := le_lt p 4 2
  let q := le p 0 1
  let n := le p 1 1 + 4 * le p 2 1 + 16 * le p 3 1
  let m := le p 4 2 + 65536 * le p 6 2
  let w := writePortCfg q (BitVec.ofNat 32 n) (take i s)
  let u := w.writeByType (NET_PORT_p_DLY q) (BitVec.ofNat 32 m)
  have hdly : NET_PORT_p_DLY q = 0x2000464100 + q * 0x40 + 8 := by simp only [NET_PORT_p_DLY]; omega
  have hwrite : fwWrite (NET_PORT_p_DLY q) (BitVec.ofNat 32 m) w = u := by
    have := fwWrite_port h0 (k := 8) (by decide) (by decide) (by decide) (by decide) (by decide) (BitVec.ofNat 32 m) w
    rw [← hdly] at this
    exact this
  have hrun : cmdPortCfg.run (mailRequest s i) (take i s) = okRes [] u := by
    show runPortCfg _ _ = _
    unfold runPortCfg
    dsimp only
    simp only [h.field]
    rw [checked_ok, fwWrite_portCfg h0, hwrite]
    intro e he
    simp only [List.mem_cons, List.not_mem_nil, or_false] at he
    rcases he with rfl | rfl | rfl | rfl <;> exact decide_eq_false (by omega)
  have hcfg : u.reg (NET_PORT_p_CFG q) = ((take i s).writeByType (NET_PORT_p_CFG q) (BitVec.ofNat 32 n)).reg (NET_PORT_p_CFG q) := by
    refine (reg_writeByType_other _ _ _ _ (by simp only [NET_PORT_p_CFG, NET_PORT_p_DLY]; omega)).trans (writePortCfg_reg _ _ ?_ ?_ ?_ ?_)
    · intro r
      simp only [NET_PORT_p_CFG, NET_PORT_p_STAT]
      omega
    · simp only [NET_PORT_p_CFG, NET_RING_STAT]
      omega
    · simp only [NET_PORT_p_CFG, NET_PTP_STAT]
      omega
    · simp only [NET_PORT_p_CFG, NET_DCO_FREQ]
      omega
  have hkeep : u.reg (MB_i_STAT i) = (take i s).reg (MB_i_STAT i) := by
    refine (reg_writeByType_other _ _ _ _ (ne_stat hi (by simp only [NET_PORT_p_DLY]; omega)).symm).trans
      ((writePortCfg_reg _ _ ?_ (ne_stat hi (by decide)).symm (ne_stat hi (by decide)).symm (ne_stat hi (by decide)).symm).trans
        (reg_writeByType_other _ _ _ _ (ne_stat hi (by simp only [NET_PORT_p_CFG]; omega)).symm))
    exact fun r => (ne_stat hi (by simp only [NET_PORT_p_STAT]; omega)).symm
  obtain ⟨t, ht, honly, hrep⟩ := h.replies hi rfl (h.runs hi rfl (h.lenOk hp) rfl hrun (Nat.zero_le _)) rfl (Nat.zero_le _) hkeep
  have hfld (f : Fld) (hf : accOf f.lo f.w [⟨0, 5, .rw⟩] = some .rw) : t.fld (NET_PORT_p_CFG q) f = bits n f.lo f.w := by
    refine (honly.fld_eq (ne_stat hi (by simp only [NET_PORT_p_CFG]; omega)) f).trans ((fld_of_reg_eq hcfg f).trans ?_)
    exact (fld_writeByType _ _ _ f .rw (fieldsAt_NET_PORT_p_CFG h0) (by decide) hf).trans (bits_ofNat (by omega) _ _)
  have hdel (f : Fld) (hf : accOf f.lo f.w [⟨0, 32, .rw⟩] = some .rw) : t.fld (NET_PORT_p_DLY q) f = bits m f.lo f.w := by
    refine (honly.fld_eq (ne_stat hi (by simp only [NET_PORT_p_DLY]; omega)) f).trans ?_
    exact (fld_writeByType _ _ _ f .rw (fieldsAt_NET_PORT_p_DLY h0) (by decide) hf).trans (bits_ofNat (by omega) _ _)
  refine ⟨t, ht, hrep, (hfld _ (by decide)).trans ?_, (hfld _ (by decide)).trans ?_, (hfld _ (by decide)).trans ?_,
    (hdel _ (by decide)).trans ?_, (hdel _ (by decide)).trans ?_⟩
  · show n / 2 ^ 0 % 2 ^ 2 = _
    omega
  · show n / 2 ^ 2 % 2 ^ 2 = _
    omega
  · show n / 2 ^ 4 % 2 ^ 1 = _
    omega
  · show m / 2 ^ 0 % 2 ^ 16 = _
    omega
  · show m / 2 ^ 16 % 2 ^ 16 = _
    omega

end

end Sys2Proof.Machine
end

section

/-! SUPPORT. GCL_SET, and the Molalrik commands of System, Routing, Zones and Streams together: O56. -/

namespace Sys2Proof.Machine
open R

section
variable {i flags q : Nat} {p : List Byte} {s : State}

theorem writeByType_fw (s : State) (a : Nat) (v : Word) : (s.writeByType a v).fw = s.fw := (congrArg State.fw (writeByType_rest s a v) :)

/-- Words written at rising addresses whose registers follow their access types. -/
theorem fwWriteWords_typed : ∀ (l : List Word) {a : Nat} {s : State},
    (∀ k, k < l.length → ∀ v u, fwWrite (a + 4 * k) v u = u.writeByType (a + 4 * k) v) →
    (∀ b, (∀ k, k < l.length → b ≠ a + 4 * k) → (fwWriteWords a l s).reg b = s.reg b) ∧
    (∀ k w, l[k]? = some w → (fwWriteWords a l s).reg (a + 4 * k) = written s (a + 4 * k) w.toNat) ∧ (fwWriteWords a l s).fw = s.fw
  | [], _, _, _ => ⟨fun _ _ => rfl, fun k w h => absurd h (by simp), rfl⟩
  | w :: l, a, s, hok => by
    have hfirst : fwWrite a w s = s.writeByType a w := hok 0 (by simp) w s
    have hnext (k : Nat) : a + 4 + 4 * k = a + 4 * (k + 1) := by omega
    obtain ⟨h1, h2, h3⟩ := fwWriteWords_typed l (a := a + 4) (s := s.writeByType a w) (fun k hk v u => by
      rw [hnext]
      exact hok (k + 1) (by simpa using hk) v u)
    have hother (b : Nat) (hb : b ≠ a) : (s.writeByType a w).reg b = s.reg b := reg_writeByType_other _ _ _ _ hb
    rw [fwWriteWords, hfirst]
    refine ⟨fun b hb => ?_, fun k v hk => ?_, h3.trans (writeByType_fw ..)⟩
    · rw [h1 b (fun k hk => hnext k ▸ hb (k + 1) (by simpa using hk))]
      exact hother b (hb 0 (by simp))
    · cases k with
      | zero =>
        have hv : w = v := by simpa using hk
        subst hv
        rw [Nat.mul_zero, Nat.add_zero, h1 _ (fun k _ => by omega)]
        unfold written
        rw [BitVec.ofNat_toNat, BitVec.setWidth_eq]
        rfl
      | succ k =>
        rw [← hnext, h2 k v (by simpa using hk)]
        exact written_congr (hother _ (by omega)) _

theorem fieldsAt_NET_PORT_p_GCL_CTL (h : q < 4) : fieldsAt (NET_PORT_p_GCL_CTL q) = [⟨0, 1, .rw⟩, ⟨1, 1, .w1s⟩, ⟨8, 7, .rw⟩] := by
  have hall : ∀ q : Fin 4, fieldsAt (NET_PORT_p_GCL_CTL q) = [⟨0, 1, .rw⟩, ⟨1, 1, .w1s⟩, ⟨8, 7, .rw⟩] := by decide
  exact hall ⟨q, h⟩

theorem gcl_word (q k : Nat) : NET_GCL_p_k q 0 + 4 * k = NET_GCL_p_k q k := by
  simp only [NET_GCL_p_k]
  omega

theorem fwWrite_gcl (hq : q < 4) {k : Nat} (hk : k < 64) (v : Word) (s : State) :
    fwWrite (NET_GCL_p_k q 0 + 4 * k) v s = s.writeByType (NET_GCL_p_k q 0 + 4 * k) v := by
  have ho : NET_GCL_p_k q 0 + 4 * k - NET_ID = 0x800 + q * 0x100 + 4 * k := by simp only [NET_GCL_p_k, NET_ID]; omega
  have ha : NET_ID + (0x800 + q * 0x100 + 4 * k) = NET_GCL_p_k q 0 + 4 * k := by simp only [NET_GCL_p_k, NET_ID]; omega
  rw [fwWrite_net (by simp only [NET_GCL_p_k, NET_ID]; omega) (by simp only [NET_GCL_p_k, SNS_ID]; omega)
    (by simp only [NET_GCL_p_k]; omega), ho]
  unfold writeNet
  dsimp only
  rw [if_neg (by omega), if_neg (by omega), if_neg (by omega), if_neg (by omega), if_neg (by omega), if_neg (by omega), if_neg (by omega), ha]

/-- The gate list of a port as GCL_SET writes it. -/
def gclListed (q : Nat) (l : List Word) (s : State) : State := fwWriteWords (NET_GCL_p_k q 0) l (s.writeByType (NET_PORT_p_STAT q) 0x20)

def gclRequested (q n cyc base : Nat) (s : State) : State :=
  ((s.writeByType (NET_PORT_p_GCL_CYC q) (BitVec.ofNat 32 cyc)).writeByType (NET_PORT_p_GCL_BASE q) (BitVec.ofNat 32 base)).writeByType
    (NET_PORT_p_GCL_CTL q) (BitVec.ofNat 32 (3 + 256 * n))

theorem gcl_requests (hq : q < 4) {n cyc base : Nat} {l : List Word} :
    fwWrite (NET_PORT_p_GCL_CTL q) (BitVec.ofNat 32 (3 + 256 * n)) (fwWrite (NET_PORT_p_GCL_BASE q) (BitVec.ofNat 32 base)
      (fwWrite (NET_PORT_p_GCL_CYC q) (BitVec.ofNat 32 cyc) (fwWriteWords (NET_GCL_p_k q 0) l (fwWrite (NET_PORT_p_STAT q) 0x20 s)))) =
      gclRequested q n cyc base (gclListed q l s) := by
  have hctl : NET_PORT_p_GCL_CTL q = 0x2000464100 + q * 0x40 + 0x20 := by simp only [NET_PORT_p_GCL_CTL]; omega
  have hbase : NET_PORT_p_GCL_BASE q = 0x2000464100 + q * 0x40 + 0x28 := by simp only [NET_PORT_p_GCL_BASE]; omega
  have hcyc : NET_PORT_p_GCL_CYC q = 0x2000464100 + q * 0x40 + 0x24 := by simp only [NET_PORT_p_GCL_CYC]; omega
  have hstat : NET_PORT_p_STAT q = 0x2000464100 + q * 0x40 + 4 := by simp only [NET_PORT_p_STAT]; omega
  unfold gclRequested gclListed
  rw [hctl, hbase, hcyc, hstat, fwWrite_port hq (by decide) (by decide) (by decide) (by decide) (by decide),
    fwWrite_port hq (by decide) (by decide) (by decide) (by decide) (by decide),
    fwWrite_port hq (by decide) (by decide) (by decide) (by decide) (by decide),
    fwWrite_port hq (by decide) (by decide) (by decide) (by decide) (by decide)]

theorem gcl_defers (h : Pending i 0x4007 flags p s) (hi : i < 18) (hp : p.length = 12 + 4 * le p 1 1) (hq : le p 0 1 < 4) (hn : le p 1 1 ≤ 64) :
    ∃ t, doCommand cmdGclSet i s = t ∧
      Deferred i (.gcl (le p 0 1)) s t ∧ t.fld (NET_PORT_p_GCL_CTL (le p 0 1)) NET_PORT_p_GCL_CTL_SWAP_REQ = 1 ∧
      t.fld (NET_PORT_p_GCL_CTL (le p 0 1)) NET_PORT_p_GCL_CTL_LEN = le p 1 1 ∧
      t.reg (NET_PORT_p_GCL_CYC (le p 0 1)) = written s (NET_PORT_p_GCL_CYC (le p 0 1)) (le p 4 4) ∧
      t.reg (NET_PORT_p_GCL_BASE (le p 0 1)) = written s (NET_PORT_p_GCL_BASE (le p 0 1)) (le p 8 4) ∧
      ∀ k, k < le p 1 1 → t.reg (NET_GCL_p_k (le p 0 1) k) = written s (NET_GCL_p_k (le p 0 1) k) (le p (12 + 4 * k) 4) := by
  generalize hqd : le p 0 1 = q at hq
  generalize hnd : le p 1 1 = n at hp hn
  let l := (mailRequest s i).words 12 n
  let v := (take i s).writeByType (NET_PORT_p_STAT q) 0x20
  let w := gclListed q l (take i s)
  let u := gclRequested q n (le p 4 4) (le p 8 4) w
  have hlen : l.length = n := by simp [l, Req.words]
  obtain ⟨hother, hset, hfw⟩ := fwWriteWords_typed l (a := NET_GCL_p_k q 0) (s := v) (fun k hk x y => fwWrite_gcl hq (by omega) x y)
  have hexec : execute cmdGclSet (mailRequest s i) (take i s) = waitRes (.gcl q) u := by
    refine h.runs hi rfl ?_ rfl ?_ (Nat.zero_le _)
    · show (decide (12 ≤ (mailRequest s i).len) && decide ((mailRequest s i).len = 12 + 4 * (mailRequest s i).f 1 1)) = true
      rw [h.len, h.field, hnd, decide_eq_true (by omega), decide_eq_true hp]
      rfl
    · show runGclSet _ _ = _
      unfold runGclSet
      dsimp only
      simp only [h.field]
      rw [hqd, hnd, checked_ok, gcl_requests hq]
      intro e he
      simp only [List.mem_cons, List.not_mem_nil, or_false] at he
      rcases he with rfl | rfl <;> exact decide_eq_false (by omega)
  have hreg (a : Nat) (h1 : a ≠ NET_PORT_p_GCL_CTL q) (h2 : a ≠ NET_PORT_p_GCL_BASE q) (h3 : a ≠ NET_PORT_p_GCL_CYC q) : u.reg a = w.reg a :=
    (reg_writeByType_other _ _ _ _ h1).trans ((reg_writeByType_other _ _ _ _ h2).trans (reg_writeByType_other _ _ _ _ h3))
  -- the registers of the port lie before the list and are not its state register
  have hbefore (a : Nat) (h1 : a < 0x2000464800) (h2 : a ≠ NET_PORT_p_STAT q) : w.reg a = (take i s).reg a :=
    (hother a (fun k _ => by simp only [NET_GCL_p_k]; omega)).trans (reg_writeByType_other _ _ _ _ h2)
  have hufw : u.fw = s.fw := by
    refine (writeByType_fw ..).trans ((writeByType_fw ..).trans ((writeByType_fw ..).trans (hfw.trans (writeByType_fw ..))))
  have hkeep : u.reg (MB_i_STAT i) = (take i s).reg (MB_i_STAT i) := by
    refine (hreg _ ?_ ?_ ?_).trans (hbefore _ (by simp only [MB_i_STAT]; omega) ?_)
    · exact (ne_stat hi (by simp only [NET_PORT_p_GCL_CTL]; omega)).symm
    · exact (ne_stat hi (by simp only [NET_PORT_p_GCL_BASE]; omega)).symm
    · exact (ne_stat hi (by simp only [NET_PORT_p_GCL_CYC]; omega)).symm
    · exact (ne_stat hi (by simp only [NET_PORT_p_STAT]; omega)).symm
  obtain ⟨t, ht, hdef, hregs⟩ := h.defers rfl (by simp) hexec hufw hkeep
  let z := (w.writeByType (NET_PORT_p_GCL_CYC q) (BitVec.ofNat 32 (le p 4 4))).writeByType (NET_PORT_p_GCL_BASE q) (BitVec.ofNat 32 (le p 8 4))
  have hctl (g : Fld) (c : Acc) (hc : accOf g.lo g.w [⟨0, 1, .rw⟩, ⟨1, 1, .w1s⟩, ⟨8, 7, .rw⟩] = some c) :=
    fld_writeByType z (NET_PORT_p_GCL_CTL q) (BitVec.ofNat 32 (3 + 256 * n)) g c (fieldsAt_NET_PORT_p_GCL_CTL hq) (by decide) hc
  refine ⟨t, ht, hdef, ?_, ?_, ?_, ?_, fun k hk => ?_⟩
  · refine (fld_of_reg_eq (reg_of_regs_eq hregs _) _).trans ?_
    refine (hctl NET_PORT_p_GCL_CTL_SWAP_REQ .w1s (by decide)).trans ?_
    have hb : bits (BitVec.ofNat 32 (3 + 256 * n)).toNat 1 1 = 1 := by
      rw [bits_ofNat (by omega)]
      unfold bits
      omega
    show z.fld (NET_PORT_p_GCL_CTL q) NET_PORT_p_GCL_CTL_SWAP_REQ ||| bits (BitVec.ofNat 32 (3 + 256 * n)).toNat 1 1 = 1
    have hold : z.fld (NET_PORT_p_GCL_CTL q) NET_PORT_p_GCL_CTL_SWAP_REQ < 2 := fld_lt ..
    rw [hb]
    rcases Nat.le_one_iff_eq_zero_or_eq_one.1 (Nat.le_of_lt_succ hold) with e | e <;> rw [e] <;> rfl
  · refine (fld_of_reg_eq (reg_of_regs_eq hregs _) _).trans ?_
    refine (hctl NET_PORT_p_GCL_CTL_LEN .rw (by decide)).trans ?_
    show bits (BitVec.ofNat 32 (3 + 256 * n)).toNat 8 7 = n
    rw [bits_ofNat (by omega)]
    unfold bits
    omega
  · refine (reg_of_regs_eq hregs _).trans ?_
    refine (reg_writeByType_other _ _ _ _ (by simp only [NET_PORT_p_GCL_CYC, NET_PORT_p_GCL_CTL]; omega)).trans ?_
    refine (reg_writeByType_other _ _ _ _ (by simp only [NET_PORT_p_GCL_CYC, NET_PORT_p_GCL_BASE]; omega)).trans ?_
    refine written_congr (t := w) ((hbefore _ (by simp only [NET_PORT_p_GCL_CYC]; omega) (by simp only [NET_PORT_p_GCL_CYC, NET_PORT_p_STAT]; omega)).trans ?_) _
    exact take_reg s (ne_stat hi (by simp only [NET_PORT_p_GCL_CYC]; omega))
  · refine (reg_of_regs_eq hregs _).trans ?_
    refine (reg_writeByType_other _ _ _ _ (by simp only [NET_PORT_p_GCL_BASE, NET_PORT_p_GCL_CTL]; omega)).trans ?_
    refine written_congr (t := w.writeByType (NET_PORT_p_GCL_CYC q) (BitVec.ofNat 32 (le p 4 4))) ?_ _
    refine (reg_writeByType_other _ _ _ _ (by simp only [NET_PORT_p_GCL_CYC, NET_PORT_p_GCL_BASE]; omega)).trans ?_
    refine (hbefore _ (by simp only [NET_PORT_p_GCL_BASE]; omega) (by simp only [NET_PORT_p_GCL_BASE, NET_PORT_p_STAT]; omega)).trans ?_
    exact take_reg s (ne_stat hi (by simp only [NET_PORT_p_GCL_BASE]; omega))
  · refine (reg_of_regs_eq hregs _).trans ((hreg _ ?_ ?_ ?_).trans ?_)
    · simp only [NET_GCL_p_k, NET_PORT_p_GCL_CTL]
      omega
    · simp only [NET_GCL_p_k, NET_PORT_p_GCL_BASE]
      omega
    · simp only [NET_GCL_p_k, NET_PORT_p_GCL_CYC]
      omega
    · have hw := hset k _ (words_getElem hk)
      have hlt := le_lt p (12 + 4 * k) 4
      rw [h.field, BitVec.toNat_ofNat, Nat.mod_eq_of_lt hlt, gcl_word] at hw
      refine hw.trans (written_congr ((reg_writeByType_other _ _ _ _ ?_).trans (take_reg s (ne_stat hi ?_))) _)
      · simp only [NET_GCL_p_k, NET_PORT_p_STAT]
        omega
      · simp only [NET_GCL_p_k]
        omega

end

/-- Settles O56, command by command. -/
theorem molalrikControlCommandsComplete : Obligations.MolalrikControlCommandsComplete := by
  unfold Obligations.MolalrikControlCommandsComplete
  intro i p s f
  have hi := i.isLt
  refine ⟨fun h => ?_, fun h => ?_, fun hp h => ?_, fun h => ?_, fun hp h h0 h1 h2 => ?_, fun hp h h0 => ?_,
    fun n hp hn h0 h1 h4 hlo hhi h => ?_, fun hp h h0 h1 d hd h6 => ?_, fun hp h h0 hc hr ht h2 h4 => ?_, fun hp h h0 h1 h2 => ?_,
    fun hp h h0 h1 => ?_, fun hp h h0 h2 hd => ?_, fun z hp h hz hl => ?_, fun z hp h hz => ?_, fun z hp h hz h2 => ?_, fun hz => ?_,
    fun hp h hon h0 h1 h2 h3 h4 ho => ?_, fun hp h hf => ?_, fun hp h hf hm => ?_, fun hp h hf => ?_, fun hp h h0 h1 h2 h3 => ?_,
    fun hp h h0 h1 h2 hlo hhi => ?_, fun hp h h0 => ?_, fun hp h h0 h1 => ?_⟩
  · exact completes_of_exists rfl (version_reads (pending_of_asked h) hi rfl)
  · exact completes_of_exists rfl (status_reads (pending_of_asked h) hi rfl)
  · exact ⟨fun hno => completes_of_exists rfl (perm_refuses (pending_of_asked h) hi hp hno),
      fun hw h0 h16 hk hg => completes_of_exists rfl (perm_sets (pending_of_asked h) hi hp hw h0 h16 hk hg)⟩
  · exact completes_of_exists rfl (reset_runs (pending_of_asked h) hi)
  · exact ⟨fun hplay hz => completes_of_exists rfl (restart_busy (pending_of_asked h) hi hp h0 h1 hz hplay),
      fun hplay => completes_of_exists rfl (restart_defers (pending_of_asked h) hi hp h0 h1 h2 hplay)⟩
  · exact completes_of_exists rfl (hub_sets (pending_of_asked h) hi hp h0)
  · exact ⟨fun hc => completes_of_exists rfl (mapWrite_busy hp hn h0 h1 h4 hlo hhi (pending_of_asked h) hi hc),
      fun hc => completes_of_exists rfl (mapWrite_writes hp hn h0 h1 h4 hlo hhi (pending_of_asked h) hi hc)⟩
  · exact completes_of_exists rfl (mapRead_reads (pending_of_asked h) hi hp h0 h1 hd h6)
  · exact completes_of_exists rfl (tpCfg_sets (pending_of_asked h) hi hp h0 hc hr ht h2 h4)
  · exact completes_of_exists rfl (planeSel_sets (pending_of_asked h) hi hp h0 h1 h2)
  · exact completes_of_exists rfl (spare_sets (pending_of_asked h) hi hp h0 h1)
  · exact completes_of_exists rfl (zoneSet_sets (pending_of_asked h) hi hp h0 h2 hd)
  · exact completes_of_exists rfl (zoneGet_reads hz (pending_of_asked h) hi hp hl)
  · exact completes_of_exists rfl (zoneGain_sets hz (pending_of_asked h) hi hp)
  · exact completes_of_exists rfl (zoneMute_sets hz (pending_of_asked h) hi hp h2)
  · exact ⟨fun hp h => completes_of_exists rfl (zoneGet_unknown hz (pending_of_asked h) hi hp),
      fun hp h => completes_of_exists rfl (zoneGain_unknown hz (pending_of_asked h) hi hp),
      fun hp h => completes_of_exists rfl (zoneMute_unknown hz (pending_of_asked h) hi hp)⟩
  · exact completes_of_exists rfl (pair_sets (pending_of_asked h) hi hp hon h0 h1 h2 h3 h4 ho)
  · exact ⟨fun hb => completes_of_exists rfl (flowSet_busy (pending_of_asked h) hi hp hf hb),
      fun he ha => completes_of_exists rfl (flowSet_sets (pending_of_asked h) hi hp hf he ha)⟩
  · exact ⟨fun h2 => completes_of_exists rfl (flowEn_disables hf hm (pending_of_asked h) hi hp h2),
      fun h2 he hb => completes_of_exists rfl (flowEn_refused hf hm (pending_of_asked h) hi hp h2 he hb)⟩
  · exact completes_of_exists rfl (flowStat_reads (pending_of_asked h) hi hp hf)
  · exact completes_of_exists rfl (port_sets (pending_of_asked h) hi hp h0 h1 h2 h3)
  · exact completes_of_exists rfl (ring_sets (pending_of_asked h) hi hp h0 h1 h2 hlo hhi)
  · exact completes_of_exists rfl (ptp_sets (pending_of_asked h) hi hp h0)
  · exact completes_of_exists rfl (gcl_defers (pending_of_asked h) hi hp h0 h1)

end Sys2Proof.Machine
end

section

/-! SUPPORT. A request whose data come in chunks (R354): O57. -/

namespace Sys2Proof.Machine
open R

section
variable {i code off : Nat} {p b : List Byte} {s : State} {c : Cmd} {x : CmdRes}

/-! ### Fields of a payload with two leading words -/

theorem slice_of_length {l m : List Byte} {k : Nat} (h : l.length = k) : slice (l ++ m) 0 k = l := by
  unfold slice
  dsimp only
  rw [List.drop_zero, List.take_append_of_le_length (Nat.le_of_eq h.symm), List.take_of_length_le (Nat.le_of_eq h), h, Nat.sub_self]
  exact List.append_nil l

theorem slice_append {l m : List Byte} (o k : Nat) : slice (l ++ m) (l.length + o) k = slice m o k := by
  unfold slice
  dsimp only
  rw [← List.drop_drop, List.drop_left]

/-- A payload that begins with an offset and a length. -/
def twoWords (a c : Nat) (p : List Byte) : List Byte := leBytes 4 a ++ leBytes 4 c ++ p

theorem twoWords_length (a c : Nat) (p : List Byte) : (twoWords a c p).length = 8 + p.length := by
  unfold twoWords
  rw [List.length_append, List.length_append, leBytes_length, leBytes_length]

theorem twoWords_drop (a c : Nat) (p : List Byte) : (twoWords a c p).drop 8 = p :=
  List.drop_left' (by rw [List.length_append, leBytes_length, leBytes_length])

theorem twoWords_first {a : Nat} (c : Nat) (p : List Byte) (h : a < 2 ^ 32) : le (twoWords a c p) 0 4 = a := by
  unfold le twoWords
  rw [List.append_assoc, slice_of_length (leBytes_length ..), leNat_leBytes]
  omega

theorem twoWords_second (a : Nat) {c : Nat} (p : List Byte) (h : c < 2 ^ 32) : le (twoWords a c p) 4 4 = c := by
  have hs := slice_append (l := leBytes 4 a) (m := leBytes 4 c ++ p) 0 4
  rw [leBytes_length] at hs
  unfold le twoWords
  rw [List.append_assoc, hs, slice_of_length (leBytes_length ..), leNat_leBytes]
  omega

theorem flags_chunk (h : (mailRequest s i).flags = 4) : flagBulk (mailRequest s i) = false ∧ flagChunk (mailRequest s i) = true := by
  unfold flagBulk flagChunk
  rw [h]
  exact ⟨rfl, rfl⟩

/-! ### A chunk of data in -/

/-- The state in which a command with data in runs: the request taken and its partial data done with. -/
def clean (i : Nat) (s : State) : State := setPartial i Partial.none (take i s)

/-- A command with data in is about to be served with the data `b`. -/
structure PendingIn (i code : Nat) (b : List Byte) (off : Nat) (s : State) : Prop where
  inside : off ≤ b.length
  room : b.length ≤ 0x4000000
  earlier : off ≠ 0 → partialOf s i = { code := code, total := b.length, data := b.take off }
  pending : Pending i code 4 (twoWords off b.length (b.drop off)) s

theorem pendingIn_of_asked (h : AskedIn i code b s) : ∃ off, PendingIn i code b off s := by
  obtain ⟨off, h1, h2, h3, h4⟩ := h
  exact ⟨off, h1, h2, h3, pending_of_asked h4⟩

theorem PendingIn.runs (h : PendingIn i code b off s) (hi : i < 18) (hk : c.kind = .dataIn)
    (hden : c.denied (mailRequest s i) (take i s) = false) (hlen : x.data.length ≤ 4080)
    (hrun : ∀ q : Req, q.payload = b → q.len = b.length → c.run q (clean i s) = x) : execute c (mailRequest s i) (take i s) = x := by
  have hb := h.room
  have ho := h.inside
  obtain ⟨hbulk, hchunk⟩ := flags_chunk h.pending.hasFlags
  refine h.pending.executes hi hden ?_ hlen
  have hfirst : (mailRequest s i).f 0 4 = off := (h.pending.field 0 4).trans (twoWords_first _ _ (by omega))
  have hsecond : (mailRequest s i).f 4 4 = b.length := (h.pending.field 4 4).trans (twoWords_second _ _ (by omega))
  have hdrop : (mailRequest s i).payload.drop 8 = b.drop off := by rw [h.pending.payload, twoWords_drop]
  have hpart : (if off = 0 then { code := (mailRequest s i).code, total := b.length, data := [] } else partialOf (take i s) i) =
      ({ code := code, total := b.length, data := b.take off } : Partial) := by
    by_cases h0 : off = 0
    · rw [if_pos h0, h.pending.hasCode, h0, List.take_zero]
    · rw [if_neg h0]
      exact h.earlier h0
  have htake : (b.take off).length = off := List.length_take_of_le ho
  unfold runCmd
  rw [hk]
  dsimp only
  rw [hbulk, hchunk, if_neg (by decide), if_pos rfl]
  unfold chunkIn
  dsimp only
  rw [hfirst, hsecond, hdrop, show (mailRequest s i).who = i from rfl, hpart]
  dsimp only
  rw [List.take_append_drop, h.pending.hasCode, htake, h.pending.len, twoWords_length, if_neg (by omega), if_neg (by omega),
    if_neg (by rintro (e | e) <;> exact e rfl), if_neg (by rintro (e | e); exacts [e rfl, absurd e (Nat.lt_irrefl _)]), if_pos rfl]
  exact hrun _ rfl rfl

end

end Sys2Proof.Machine
end

section

/-! SUPPORT. What follows a command leaves DDR5 and the memories of the tiles as the command left them: O57. -/

namespace Sys2Proof.Machine
open R

/-- `t` has the bytes of `s` below the fabric's tiles. -/
structure LowKept (s t : State) : Prop where
  byte : ∀ c, c < 0x1000000000 → t.byte c = s.byte c

namespace LowKept
variable {s t u : State}

theorem refl (s : State) : LowKept s s := ⟨fun _ _ => rfl⟩

theorem trans (h : LowKept s t) (k : LowKept t u) : LowKept s u :=
  ⟨fun c hc => (k.byte c hc).trans (h.byte c hc)⟩

theorem of_mem (h : t.mem = s.mem) : LowKept s t := ⟨fun c _ => byte_of_mem_eq h c⟩

theorem of_beside (h : Beside s t) : LowKept s t := ⟨fun c hc => h.byte c (by unfold afterByte; omega)⟩

theorem setNum (h : LowKept s t) {a : Nat} (ha : 0x1000000000 ≤ a) (n v : Nat) : LowKept s (t.setNum a n v) :=
  ⟨fun c hc => (byte_setBytes_other _ t a c (.inl (by omega))).trans (h.byte c hc)⟩

/-- A change of registers, processors or the processors' control state. -/
theorem setFld (h : LowKept s t) (a : Nat) (f : Fld) (x : Nat) : LowKept s (t.setFld a f x) := ⟨h.byte⟩
theorem setReg (h : LowKept s t) (a : Nat) (v : Word) : LowKept s (t.setReg a v) := ⟨h.byte⟩
theorem setProc (h : LowKept s t) (p : Nat) (c : Cpu) : LowKept s (t.setProc p c) := ⟨h.byte⟩
theorem mapProc (h : LowKept s t) (p : Nat) (f : Cpu → Cpu) : LowKept s (t.mapProc p f) := ⟨h.byte⟩
theorem mapCtl (h : LowKept s t) (f : Ctl → Ctl) : LowKept s (t.mapCtl f) := ⟨h.byte⟩
theorem setProcSt (h : LowKept s t) (p x : Nat) : LowKept s (setProcSt t p x) := ⟨h.byte⟩
theorem freeNext (h : LowKept s t) : LowKept s t.freeNext := ⟨h.byte⟩

theorem incSat (h : LowKept s t) (a : Nat) (f : Fld) : LowKept s (t.incSat a f) := by
  unfold State.incSat
  split
  · exact h.setFld ..
  · exact h

theorem each {α : Type} {l : List α} {f : State → α → State} (h : ∀ z a, LowKept z (f z a)) (s : State) : LowKept s (s.each l f) :=
  each_induction (P := LowKept s) (.refl s) fun z a _ hz => hz.trans (h z a)

/-! ### Traps, machine checks and boundaries -/

theorem nutmeg (source code : Nat) (args : List Nat) (s : State) : LowKept s (nutmeg source code args s) := .of_beside (beside_nutmeg ..)

theorem machineCheck (cause pc : Nat) (s : State) : LowKept s (machineCheck cause pc s) := by
  unfold Machine.machineCheck
  split
  · exact .refl s
  · exact LowKept.trans (t := { (s.mapCtl (fun c => { c with mchk := cause })) with rstReq := s.rstReq ++ [6] }) (.of_mem rfl) (nutmeg ..)

theorem cloveTrap (code arg pc : Nat) (s : State) : LowKept s (cloveTrap code arg pc s) := by
  unfold Machine.cloveTrap
  dsimp only
  split
  · exact machineCheck ..
  · exact (((LowKept.refl s).setProc ..).setReg ..).setProcSt ..

theorem procTrap (p code arg pc : Nat) (s : State) : LowKept s (procTrap p code arg pc s) := by
  unfold Machine.procTrap
  split
  · exact cloveTrap ..
  · exact (((LowKept.refl s).mapProc ..).setReg ..).setProcSt ..

theorem boundary (p : Nat) (s : State) : LowKept s (boundary p s) := by
  have hswap : LowKept s (dispatchSwap p s) := by
    unfold dispatchSwap
    split
    · exact ((LowKept.refl s).setFld ..).setFld ..
    · exact .refl s
  unfold Machine.boundary
  dsimp only
  split
  · exact .refl s
  · split
    · exact ((LowKept.refl s).mapProc ..).setProcSt ..
    · split
      · refine hswap.trans ?_
        unfold cloveEntry
        dsimp only
        split
        · exact cloveTrap ..
        · exact (LowKept.refl _).setProc ..
      · exact hswap

theorem parityFail (u : Nat) (table : Bool) (addr group pc : Nat) (s : State) : LowKept s (parityFail u table addr group pc s) := by
  unfold Machine.parityFail
  extract_lets s0 s1
  have h1 : LowKept s s1 := by
    show LowKept s (if s.flag MC_PERR MC_PERR_VALID then s else _)
    split
    · exact .refl s
    · exact ((LowKept.refl s).setReg ..).trans (nutmeg ..)
  split
  · exact h1.trans (machineCheck ..)
  · refine (h1.trans (each (fun z p => ?_) s1)).setFld ..
    split
    · exact (LowKept.refl z).setProcSt ..
    · exact .refl z

theorem lsMismatch (kind pc : Nat) (s : State) : LowKept s (lsMismatch kind pc s) := by
  unfold Machine.lsMismatch
  dsimp only
  split
  · exact ((LowKept.refl s).mapCtl ..).trans (machineCheck ..)
  · exact (((((LowKept.refl s).mapCtl ..).incSat ..).setFld ..).setReg ..).trans (nutmeg ..)

/-! ### Microcode -/

/-- A processor's own memory does not lie below the tiles. -/
theorem dataRef_ram {p a m : Nat} {write : Bool} (h : dataRef s p a write = .ram m) : 0x1000000000 ≤ m := by
  have hcv (w : Nat) : 0x1000000000 ≤ cvMem w := by
    unfold cvMem
    omega
  have hext (w : Nat) (hw : extRef s w write = .ram m) : 0x1000000000 ≤ m := by
    unfold extRef at hw
    split at hw
    · cases hw
      exact hcv _
    · split at hw
      · split at hw <;> cases hw
      · split at hw <;> cases hw
  unfold dataRef at h
  split at h
  · unfold cvRef at h
    dsimp only at h
    split at h
    · cases h
      exact hcv _
    · split at h
      · exact hext _ h
      · split at h
        · exact hext _ h
        · split at h <;> cases h
  · unfold suRef at h
    split at h
    · cases h
      unfold suData
      omega
    · split at h
      · cases h
      · split at h <;> cases h

theorem patchRam (w v : Nat) (s : State) : LowKept s (doPatchRamWrite w v s) := by
  unfold doPatchRamWrite mcErr
  split
  · exact (LowKept.refl s).setReg ..
  · exact (LowKept.refl s).setNum (by unfold cvMem; omega) ..

theorem writeDone {p a v : Nat} (h : writeStart s p a v = .done t) : LowKept s t := by
  unfold writeStart at h
  split at h
  next k hk =>
    cases h
    exact (LowKept.refl s).setNum (dataRef_ram hk) ..
  next =>
    cases h
    exact patchRam ..
  next =>
    split at h <;> cases h
    exact (LowKept.refl s).mapProc ..
  next => cases h

theorem writeIssued {p a v w d : Nat} (h : writeStart s p a v = .issue w d t) : LowKept s t := by
  unfold writeStart at h
  split at h
  next => cases h
  next => cases h
  next =>
    split at h <;> cases h
    exact (LowKept.refl s).mapProc ..
  next => cases h

theorem uMem (p : Nat) (m : MicroWord) (a : Nat) (u : Micro) (s : State) : LowKept s (uMem p m a u s).2 := by
  unfold Machine.uMem
  split
  · split
    · exact .refl s
    · exact ⟨fun _ _ => rfl⟩
    · exact ⟨fun _ _ => rfl⟩
    · exact .refl s
  · split
    · split
      next t ht => exact writeDone ht
      next t ht => exact ⟨(writeIssued ht).byte⟩
      next => exact .refl s
    · exact .refl s

theorem noteUpc (p : Nat) (u : Micro) (s : State) : LowKept s (noteUpc p u s) := by
  unfold Machine.noteUpc
  split
  · exact ((LowKept.refl s).setFld ..).setFld ..
  · exact .refl s

theorem uAct (p : Nat) (m : MicroWord) (u : Micro) (c : Bool) (s : State) : LowKept s (uAct p m u c s) := by
  unfold Machine.uAct
  extract_lets any s0 cp w o top r u0 um um1 u1 c1 c2 c3 u2 c4 s1 s2 keep s3 nx s4
  have hum : LowKept s um.2 := (LowKept.refl s).freeNext.trans (uMem ..)
  have h2 : LowKept s s2 := by
    show LowKept s (if p ≠ clove ∧ m.misc = 20 then s1.setFld _ _ 1 else s1)
    split
    · exact (hum.setProc ..).setFld ..
    · exact hum.setProc ..
  split
  · exact (h2.mapProc ..).trans (procTrap ..)
  · have h4 : LowKept s s4 := by
      show LowKept s (if nx.2 ∧ p = clove then s2.setFld _ _ 1 else s2)
      split
      · exact h2.setFld ..
      · exact h2
    split
    · exact (h4.mapProc ..).trans (noteUpc ..)
    · exact h4.mapProc ..

theorem uStep (p : Nat) (u : Micro) (s : State) : LowKept s (uStep p u s).2 := by
  unfold Machine.uStep
  split
  · exact parityFail ..
  · dsimp only
    split
    · exact ((LowKept.refl s).mapProc ..).trans (noteUpc ..)
    · exact uAct ..

theorem uRun (p n : Nat) (s : State) : LowKept s (uRun p n s) := by
  induction n generalizing s with
  | zero => exact .refl s
  | succ n ih =>
    unfold Machine.uRun
    split
    · exact .refl s
    · split
      · exact .refl s
      · dsimp only
        split
        · exact uStep ..
        · exact (uStep ..).trans (ih _)

theorem uPoll (s : State) (p : Nat) : LowKept s (uPoll s p) := by
  unfold Machine.uPoll
  dsimp only
  split
  · exact (uRun ..).trans (boundary ..)
  · split
    · exact (uRun ..).trans (lsMismatch ..)
    · exact uRun ..

/-! ### What follows a command -/

theorem settled (a t : State) : LowKept t (settled a t) := by
  have hpoll : LowKept t (t.each (microRunning t) Machine.uPoll) := each (fun z p => uPoll z p) t
  have hsteps (z : State) : LowKept z (endSteps z) := each (fun y p => boundary p y) z
  have hrest (z : State) : LowKept z { icEnd (fwNotes a (dogSettle z)) with pending := a.pending } :=
    .of_beside (beside_trans (beside_trans (beside_trans (beside_dogSettle z) (beside_fwNotes a _)) (beside_icEnd _))
      (beside_of_mem rfl (fun _ _ => rfl)))
  exact (hpoll.trans (hsteps _)).trans (hrest _)

end LowKept

/-- Two states that a command's end makes one have the same bytes below the tiles. -/
theorem low_of_settled_eq {a t u : State} (h : settled a t = settled a u) {c : Nat} (hc : c < 0x1000000000) : t.byte c = u.byte c :=
  ((LowKept.settled a t).byte c hc).symm.trans ((congrArg (fun z : State => z.byte c) h).trans ((LowKept.settled a u).byte c hc))

end Sys2Proof.Machine
end

section

/-! SUPPORT. AN_REF into a region whose halves the mirror homes on two channels, one of them with its clock stopped: O57 fails. -/

namespace Sys2Proof.Machine
open R

variable {i : Nat}

/-- A write to DDR5 whose home channel has no clock is logged and does nothing else (R389, R446). -/
theorem busWrite_stopped {ag : Agent} {s : State} {a : Nat} {l : List Byte} (ha : a + l.length ≤ 0x1000000000) (hclk : ddrClock s a = false) :
    OnlyRegs [DBG_FERR, DBG_FERR_ADDR_LO, DBG_FERR_ADDR_HI, DBG_FERR_CNT] s (busWrite ag s a l).2 := by
  have hraw : busWriteRaw ag s a l = (true, s) := by
    unfold busWriteRaw
    dsimp only
    rw [if_pos ha, hclk]
    exact if_neg (fun e => absurd e.2 (by decide))
  unfold busWrite
  rw [hraw]
  exact logFabric_onlyRegs ..

theorem ddrClock_congr {s t : State} (hcap : t.ddrCap = s.ddrCap) (h1 : t.reg PM_DDR_CFG = s.reg PM_DDR_CFG) (h2 : t.reg CK_GATE_LO = s.reg CK_GATE_LO)
    (h3 : t.reg CK_GATE_HI = s.reg CK_GATE_HI) (a : Nat) : ddrClock t a = ddrClock s a := by
  have hmirror : ddrMirror t = ddrMirror s := flag_of_reg_eq h1 _
  have hclock (d : Nat) : clockOn t d = clockOn s d := by
    unfold clockOn
    split
    · rw [h2]
    · rw [h3]
  have hhome : ddrHome t a = ddrHome s a := by
    unfold ddrHome
    rw [hmirror, hcap]
  unfold ddrClock
  rw [hhome, hclock, hclock]

/-! ### The request -/

/-- The data of AN_REF: each byte 1. -/
def refData : List Byte := List.replicate 0x1212000 1

theorem refData_length : refData.length = 0x1212000 := List.length_replicate ..

theorem refData_first : refData[0]? = some 1 := List.getElem?_replicate_of_lt (by decide)

/-- The mirror is on, the region of R200 ends 2 MiB below the half of the mirrored memory, and the PHY of channel 1 has no clock. -/
def refMemory : State := tSet tFw [(AN_MEM_LO, AN_MEM_LO_ADDR, 0x7FF), (PM_DDR_CFG, PM_DDR_CFG_MIRROR, 1), (CK_GATE_LO, ⟨29, 1⟩, 1)]

/-- All the data are brought, and the last, empty chunk asks for their use. -/
def refAsked : State :=
  tAt (refMemory.mapFw (fun f => { f with partials := [(5, { code := 0x5005, total := 0x1212000, data := refData })] })) 5 0x5005 4
    (leBytes 4 0x1212000 ++ leBytes 4 0x1212000)

theorem refAsked_asked : AskedIn 5 0x5005 refData refAsked := by
  refine ⟨0x1212000, Nat.le_of_eq refData_length.symm, by rw [refData_length]; omega, fun _ => ?_, ?_⟩
  · rw [refData_length, List.take_of_length_le (Nat.le_of_eq refData_length)]
    rfl
  · rw [refData_length, List.drop_of_length_le (Nat.le_of_eq refData_length), List.append_nil, ← tAsked_iff]
    decide +kernel

theorem refAsked_good : GoodDdr refAsked (anMemReg refAsked) 0x2424000 := by
  have hmarks : refAsked.ecc = [] := by
    unfold refAsked tAt
    rw [setBytes_rest]
    rfl
  refine ⟨by decide +kernel, by decide +kernel, by decide +kernel, by decide +kernel, by decide +kernel, fun w _ => ?_⟩
  rw [eccMark, hmarks]
  exact Nat.zero_ne_add_one 1

/-- The second half of the region, and the summaries behind it, have channel 1 as home. -/
theorem refAsked_stopped : ddrClock refAsked (anMemReg refAsked + 0x1200000) = false ∧ ddrClock refAsked (anMemReg refAsked + 0x2412000) = false := by
  decide +kernel

theorem refAsked_region : anMemReg refAsked = 0xFFE00000 := by decide +kernel

theorem refAsked_idle : refAsked.flag AN_RUN_STAT AN_RUN_STAT_RUNNING = false := by decide +kernel

theorem refAsked_empty : refAsked.byte 0x101000000 = 0 := by
  have hl : (leBytes 2 0x5005 ++ leBytes 2 0x77 ++ leBytes 2 (leBytes 4 0x1212000 ++ leBytes 4 0x1212000).length ++ leBytes 2 4
      ++ zeros 8 ++ (leBytes 4 0x1212000 ++ leBytes 4 0x1212000)).length = 24 := rfl
  unfold refAsked tAt
  rw [byte_setBytes_other _ _ _ _ (Or.inl (by simp only [mbRequest]; omega))]
  rfl

/-! ### What AN_REF leaves of it -/

/-- AN_REF with both places of its data behind a stopped clock writes no byte of DDR5 below the mailboxes. -/
theorem anRef_unwritten {b : List Byte} {off : Nat} {s : State} (h : PendingIn i 0x5005 b off s) (hi : i < 18) (hb : b.length = 0x1212000)
    (hidle : s.flag AN_RUN_STAT AN_RUN_STAT_RUNNING = false) (hbase : anMemReg s + 0x2424000 ≤ 0x1000000000)
    (hclk : ddrClock s (anMemReg s + 0x1200000) = false ∧ ddrClock s (anMemReg s + 0x2412000) = false) {c : Nat} (hc : c < mbReply i) :
    (doCommand cmdAnRef i s).byte c = s.byte c := by
  have hreg {a : Nat} (ha : a < 0x20003F0000 ∨ 0x20003F0240 ≤ a) : (clean i s).reg a = s.reg a := take_reg s (ne_stat hi ha)
  have hbaseEq : anMemReg (clean i s) = anMemReg s := by
    unfold anMemReg
    rw [fld_of_reg_eq (hreg (by decide)), fld_of_reg_eq (hreg (by decide))]
  have hcap : (clean i s).ddrCap = s.ddrCap := by
    unfold clean
    exact (congrArg State.ddrCap (take_onlyReply i s).rest :)
  have hstop (a : Nat) : ddrClock (clean i s) a = ddrClock s a :=
    ddrClock_congr hcap (hreg (by decide)) (hreg (by decide)) (hreg (by decide)) a
  have hfirst := busWrite_stopped (ag := .clove) (l := b.take 0x1200000) (s := clean i s) (a := anMemReg s + 0x1200000)
    (by rw [List.length_take]; omega) ((hstop _).trans hclk.1)
  obtain ⟨u, hu⟩ : ∃ u, u = (busWrite .clove (clean i s) (anMemReg s + 0x1200000) (b.take 0x1200000)).2 := ⟨_, rfl⟩
  rw [← hu] at hfirst
  have hcapU : u.ddrCap = (clean i s).ddrCap := (congrArg State.ddrCap hfirst.rest :)
  have hsecond := busWrite_stopped (ag := .clove) (l := (b.drop 0x1200000).take 0x12000) (s := u) (a := anMemReg s + 0x2412000)
    (by rw [List.length_take]; omega)
    ((ddrClock_congr hcapU (hfirst.2 _ (by decide)) (hfirst.2 _ (by decide)) (hfirst.2 _ (by decide)) _).trans ((hstop _).trans hclk.2))
  obtain ⟨v, hv⟩ : ∃ v, v = (busWrite .clove u (anMemReg s + 0x2412000) ((b.drop 0x1200000).take 0x12000)).2 := ⟨_, rfl⟩
  rw [← hv] at hsecond
  have hexec : execute cmdAnRef (mailRequest s i) (take i s) = okRes [] v := by
    refine h.runs (c := cmdAnRef) hi rfl rfl (Nat.zero_le _) fun q hq hl => ?_
    have hidle' : (clean i s).flag AN_RUN_STAT AN_RUN_STAT_RUNNING = false := (flag_of_reg_eq (hreg (by decide)) _).trans hidle
    show runAnRef q (clean i s) = _
    unfold runAnRef refBytes
    rw [hl, hb, hq, hidle', hbaseEq, ← hu]
    dsimp only
    rw [← hv]
    rfl
  have hoff : MB_i_STAT i ∉ [DBG_FERR, DBG_FERR_ADDR_LO, DBG_FERR_ADDR_HI, DBG_FERR_CNT] := by
    simp only [List.mem_cons, List.not_mem_nil, or_false, MB_i_STAT, DBG_FERR, DBG_FERR_ADDR_LO, DBG_FERR_ADDR_HI, DBG_FERR_CNT]
    omega
  obtain ⟨t, ht, honly, -⟩ := h.pending.replies hi rfl hexec rfl (Nat.zero_le _) ((hsecond.2 _ hoff).trans (hfirst.2 _ hoff))
  rw [ht, honly.byte_eq (Or.inl hc)]
  show v.byte c = _
  rw [byte_of_mem_eq hsecond.mem_eq, byte_of_mem_eq hfirst.mem_eq]
  exact (take_onlyReply i s).byte_eq (Or.inl hc)

/-- Refutes O57: of an AN_REF whose two places are home on a channel with a stopped clock, which a healthy start of the region does not
    rule out with the mirror on, the reply is OK and the bytes are not written. -/
theorem not_molalrikServiceCommandsComplete : ¬ Obligations.MolalrikServiceCommandsComplete := by
  unfold Obligations.MolalrikServiceCommandsComplete
  intro h
  obtain ⟨-, -, -, -, -, -, -, -, -, -, -, -, hRef, -⟩ := h 5 [] refData refAsked
  obtain ⟨t, ht, -, hbytes, -⟩ := hRef refAsked_asked refData_length refAsked_idle refAsked_good
  obtain ⟨off, hp⟩ := pendingIn_of_asked refAsked_asked
  have hfirst : (t.bytes (anMemReg refAsked + 0x1200000) 0x1200000)[0]? = some 1 := by
    rw [hbytes, List.getElem?_take_of_lt (by decide)]
    exact refData_first
  have hone : t.byte 0x101000000 = 1 := by
    rw [List.getElem?_eq_getElem (by rw [bytes_length]; decide), bytes_getElem, refAsked_region] at hfirst
    exact Option.some.inj hfirst
  have hsame : settled refAsked t = settled refAsked (doCommand cmdAnRef 5 refAsked) := (Host.Outcome.next.inj ht).symm
  have hzero : t.byte 0x101000000 = 0 := by
    rw [low_of_settled_eq hsame (by decide), anRef_unwritten hp (by decide) refData_length refAsked_idle (by rw [refAsked_region]; decide)
      refAsked_stopped (by decide), refAsked_empty]
  rw [hone] at hzero
  exact absurd hzero (by decide)

end Sys2Proof.Machine
end

section

/-! SUPPORT. The drives, their mirror and the halves of the recorder (R225, R226, R243), and O42. -/

namespace Sys2Proof.Machine
open R

variable {p r i : Nat} {a : Nat} {s t : State} {o : StoreOp}

/-! ### The mirror -/

theorem inMirror_of_reg_eq (h : t.reg MS_STAT = s.reg MS_STAT) (p : Nat) : inMirror t p = inMirror s p := by
  unfold inMirror
  rw [fld_of_reg_eq h]

theorem setMirror_fld (s : State) (x y : Bool) :
    (setMirror s x y).fld MS_STAT MS_STAT_MIRROR = (if x && y then 0 else if x then 1 else if y then 2 else 3) :=
  fld_setFld_of_lt _ _ _ _ (by decide) (by cases x <;> cases y <;> decide)

theorem inMirror_setMirror_zero (s : State) (x y : Bool) : inMirror (setMirror s x y) 0 = x := by
  unfold inMirror
  rw [setMirror_fld]
  cases x <;> cases y <;> rfl

theorem inMirror_setMirror_one (s : State) (x y : Bool) : inMirror (setMirror s x y) 1 = y := by
  unfold inMirror
  rw [setMirror_fld]
  cases x <;> cases y <;> rfl

theorem setMirror_reg_other (s : State) (x y : Bool) (h : a ≠ MS_STAT) : (setMirror s x y).reg a = s.reg a := reg_setFld_other _ _ _ _ _ h

theorem not_inMirror_of_three (h : s.fld MS_STAT MS_STAT_MIRROR = 3) (p : Nat) : inMirror s p = false := by
  unfold inMirror
  rw [h]
  rfl

theorem some_inMirror (h : s.fld MS_STAT MS_STAT_MIRROR ≠ 3) : inMirror s 0 = true ∨ inMirror s 1 = true := by
  have hlt : s.fld MS_STAT MS_STAT_MIRROR < 2 ^ 2 := fld_lt ..
  unfold inMirror
  generalize s.fld MS_STAT MS_STAT_MIRROR = m at h hlt
  obtain rfl | rfl | rfl : m = 0 ∨ m = 1 ∨ m = 2 := by omega
  · exact .inl rfl
  · exact .inl rfl
  · exact .inr rfl

/-! ### A recorder's half -/

/-- What a switch of halves needs of the state. -/
theorem recSegment_congr (hst : t.store.segs = s.store.segs ∧ t.store.ops = s.store.ops ∧ t.store.total = s.store.total)
    (hcfg : t.reg (MS_REC_s_CFG r) = s.reg (MS_REC_s_CFG r)) : recSegment t r = recSegment s r := by
  obtain ⟨hsegs, hops, htotal⟩ := hst
  unfold recSegment freeSeg ringSegs
  rw [hsegs, hops, htotal, fld_of_reg_eq hcfg]

theorem writeHalf_reg_other {half first : Nat} (h : a ≠ MS_REC_s_STAT r) : (writeHalf r half first s).reg a = s.reg a := by
  unfold writeHalf
  dsimp only
  split
  · exact reg_setFld_other _ _ _ _ _ h
  · split
    · exact (reg_setFld_other _ _ _ _ _ h).trans (reg_setFld_other _ _ _ _ _ h)
    · rfl

theorem doRecordHalfFull_reg_other (h : a ≠ MS_REC_s_STAT r) : (doRecordHalfFull r s).reg a = s.reg a := by
  unfold doRecordHalfFull
  dsimp only
  split
  · rfl
  · split
    · exact reg_setFld_other _ _ _ _ _ h
    · exact (writeHalf_reg_other h).trans (reg_setFld_other _ _ _ _ _ h)

theorem writeHalf_kept (r half first : Nat) (s : State) : (writeHalf r half first s).mem = s.mem ∧
    ((writeHalf r half first s).recOf r).pos = (s.recOf r).pos ∧
    (writeHalf r half first s).fld (MS_REC_s_STAT r) MS_REC_s_STAT_HALF = s.fld (MS_REC_s_STAT r) MS_REC_s_STAT_HALF := by
  have hdrop (t : State) : (t.setFld (MS_REC_s_STAT r) MS_REC_s_STAT_DROP 1).fld (MS_REC_s_STAT r) MS_REC_s_STAT_HALF =
      t.fld (MS_REC_s_STAT r) MS_REC_s_STAT_HALF := fld_setFld_ne _ _ _ _ _ (by decide) (by decide)
  have hpos (t : State) (x : Recorder) : ((t.setRec r x).recOf r).pos = x.pos := congrArg Recorder.pos (tget_tput_same ..)
  unfold writeHalf
  dsimp only
  split
  · exact ⟨rfl, hpos _ _, hdrop s⟩
  · split
    · exact ⟨rfl, hpos _ _, (hdrop _).trans (fld_setFld_ne _ _ _ _ _ (by decide) (by decide))⟩
    · exact ⟨rfl, rfl, rfl⟩

/-- Without a drive in the mirror a half is dropped. -/
theorem writeHalf_drops {half first : Nat} (h : ∀ p, inMirror s p = false) : (writeHalf r half first s).store.ops = s.store.ops ∧
    (writeHalf r half first s).fld (MS_REC_s_STAT r) MS_REC_s_STAT_DROP = 1 := by
  unfold writeHalf
  dsimp only
  rw [h 0, h 1, if_pos (by decide)]
  exact ⟨rfl, fld_setFld_of_lt _ _ _ _ (by decide) (by decide)⟩

/-- With a drive and a segment a half becomes a write of the segment's data. -/
theorem writeHalf_writes {half first g : Nat} (h : inMirror s 0 = true ∨ inMirror s 1 = true) (hg : recSegment s r = some g) :
    ∃ o, (writeHalf r half first s).store.ops = s.store.ops ++ [o] ∧ o.seg = g ∧ o.hdr.area = 4 ∧ o.hdr.owner = r ∧ o.hdr.first = first ∧
      o.hdr.count = 1044480 ∧ o.src = recBuf s r half := by
  have hno : (!inMirror s 0 && !inMirror s 1) = false := by
    rcases h with h | h <;> rw [h]
    · rfl
    · exact Bool.and_false _
  unfold writeHalf
  dsimp only
  rw [hno, if_neg Bool.false_ne_true, hg]
  exact ⟨_, rfl, rfl, rfl, rfl, rfl, rfl, rfl⟩

/-- The state at the moment a full half is handed over. -/
def halfSwitched (r : Nat) (s : State) : State :=
  (s.setFld (MS_REC_s_STAT r) MS_REC_s_STAT_HALF (1 - s.fld (MS_REC_s_STAT r) MS_REC_s_STAT_HALF)).setRec r
    { s.recOf r with pos := 0, other := some (s.recOf r).first }

theorem doRecordHalfFull_eq (hpos : 348160 ≤ (s.recOf r).pos) (hother : (s.recOf r).other = none) :
    doRecordHalfFull r s = writeHalf r (s.fld (MS_REC_s_STAT r) MS_REC_s_STAT_HALF) (s.recOf r).first (halfSwitched r s) := by
  unfold doRecordHalfFull
  dsimp only
  refine (if_neg (Nat.not_lt.2 hpos)).trans ?_
  rw [hother]
  rfl

theorem halfSwitched_reg_other (h : a ≠ MS_REC_s_STAT r) : (halfSwitched r s).reg a = s.reg a := reg_setFld_other _ _ _ _ _ h

theorem recBuf_halfSwitched (half : Nat) : recBuf (halfSwitched r s) r half = recBuf s r half := by
  unfold recBuf
  rw [fld_of_reg_eq (halfSwitched_reg_other (by simp only [MS_REC_s_STAT, MS_REC_s_BUF_LO]; omega)),
    fld_of_reg_eq (halfSwitched_reg_other (by simp only [MS_REC_s_STAT, MS_REC_s_BUF_HI]; omega))]

theorem ms_stat_ne_rec (r : Nat) : MS_STAT ≠ MS_REC_s_STAT r := by
  simp only [MS_STAT, MS_REC_s_STAT]
  omega

theorem recordHalfFull_switches (hpos : 348160 ≤ (s.recOf r).pos) (hother : (s.recOf r).other = none) :
    ((doRecordHalfFull r s).recOf r).pos = 0 ∧ (doRecordHalfFull r s).mem = s.mem ∧
      (doRecordHalfFull r s).fld (MS_REC_s_STAT r) MS_REC_s_STAT_HALF = 1 - s.fld (MS_REC_s_STAT r) MS_REC_s_STAT_HALF ∧
      (s.fld MS_STAT MS_STAT_MIRROR = 3 → (doRecordHalfFull r s).store.ops = s.store.ops ∧
        (doRecordHalfFull r s).fld (MS_REC_s_STAT r) MS_REC_s_STAT_DROP = 1) ∧
      (s.fld MS_STAT MS_STAT_MIRROR ≠ 3 → ∀ g, recSegment s r = some g → ∃ o, (doRecordHalfFull r s).store.ops = s.store.ops ++ [o] ∧
        o.seg = g ∧ o.hdr.area = 4 ∧ o.hdr.owner = r ∧ o.hdr.first = (s.recOf r).first ∧ o.hdr.count = 1044480 ∧
        o.src = recBuf s r (s.fld (MS_REC_s_STAT r) MS_REC_s_STAT_HALF)) := by
  have hmirror (p : Nat) : inMirror (halfSwitched r s) p = inMirror s p :=
    inMirror_of_reg_eq (halfSwitched_reg_other (ms_stat_ne_rec r)) p
  have hsegment : recSegment (halfSwitched r s) r = recSegment s r :=
    recSegment_congr ⟨rfl, rfl, rfl⟩ (halfSwitched_reg_other (by simp only [MS_REC_s_STAT, MS_REC_s_CFG]; omega))
  rw [doRecordHalfFull_eq hpos hother]
  obtain ⟨hmem, hp, hhalf⟩ := writeHalf_kept r (s.fld (MS_REC_s_STAT r) MS_REC_s_STAT_HALF) (s.recOf r).first (halfSwitched r s)
  refine ⟨hp.trans (congrArg Recorder.pos (tget_tput_same ..)), hmem,
    hhalf.trans (fld_setFld_of_lt _ _ _ _ (by decide) (by show _ < 2; omega)), fun h => ?_, fun h g hg => ?_⟩
  · exact writeHalf_drops fun p => (hmirror p).trans (not_inMirror_of_three h p)
  · rw [← recBuf_halfSwitched]
    refine writeHalf_writes ?_ (hsegment.trans hg)
    rw [hmirror, hmirror]
    exact some_inMirror h

/-! ### Completed writes -/

theorem finishOp_reg_other (h : ∀ r, a ≠ MS_REC_s_STAT r) (s : State) (o : StoreOp) : (finishOp o s).reg a = s.reg a := by
  have hdata : ((s.mapStore (fun x => { x with ops := x.ops.erase o })).setBytes (segBase o.seg + 4096) (s.bytes o.src o.hdr.count)).reg a =
      s.reg a := reg_setBytes ..
  unfold finishOp
  dsimp only
  split
  · exact hdata
  · exact (doRecordHalfFull_reg_other (h _)).trans hdata

theorem finishOps_reg_other (h : ∀ r, a ≠ MS_REC_s_STAT r) (s : State) : (finishOps s).reg a = s.reg a :=
  foldl_keeps (fun z : State => z.reg a) (fun z o => finishOp_reg_other h z o) _ _

/-- SEALED, DIRTY_A and DIRTY_B of a segment that is sealed (R226, R228). -/
theorem sealed_flags (x y z : Bool) : let fl := b2n x ||| (2 ||| (if y then 0 else 4) ||| (if z then 0 else 8))
    bits fl 1 1 = 1 ∧ bits fl 2 1 = b2n (!y) ∧ bits fl 3 1 = b2n (!z) := by
  revert x y z
  decide

/-- The only write under way, its last command completed: its segment holds the data, sealed (R225, R226). -/
theorem finishOps_seals (hops : s.store.ops = [o]) (hstream : o.stream = none) (hA : o.leftA = 0) (hB : o.leftB = 0) :
    (finishOps s).store.ops = [] ∧ (∀ i, i < o.hdr.count → (finishOps s).byte (segBase o.seg + 4096 + i) = s.byte (o.src + i)) ∧
      (tget Seg.free (finishOps s).store.segs o.seg).seq = s.store.seq + 1 ∧
      bits (tget Seg.free (finishOps s).store.segs o.seg).flags 1 1 = 1 ∧
      bits (tget Seg.free (finishOps s).store.segs o.seg).flags 2 1 = b2n (!inMirror s 0) ∧
      bits (tget Seg.free (finishOps s).store.segs o.seg).flags 3 1 = b2n (!inMirror s 1) := by
  have hone : finishOps s = finishOp o s := by
    unfold finishOps
    rw [hops, List.filter_cons, hA, hB]
    rfl
  rw [hone]
  unfold finishOp
  dsimp only
  rw [hstream]
  dsimp only
  obtain ⟨z, hz⟩ : ∃ z, z = (s.mapStore (fun x => { x with ops := x.ops.erase o })).setBytes (segBase o.seg + 4096)
    (s.bytes o.src o.hdr.count) := ⟨_, rfl⟩
  rw [← hz]
  have hstore : z.store = { s.store with ops := s.store.ops.erase o } := by
    rw [hz, setBytes_rest]
    rfl
  have hmirror (p : Nat) : inMirror z p = inMirror s p := inMirror_of_reg_eq (by rw [hz, reg_setBytes]; rfl) p
  have hhdr (h : Seg) : tget Seg.free (sealSeg o.seg h z).store.segs o.seg =
      { h with flags := h.flags ||| (2 ||| (if inMirror s 0 then 0 else 4) ||| (if inMirror s 1 then 0 else 8)), seq := s.store.seq + 1 } := by
    refine (tget_tput_same ..).trans ?_
    rw [hmirror, hmirror, hstore]
  rw [hhdr]
  refine ⟨?_, fun i hi => ?_, rfl, ?_⟩
  · show z.store.ops = []
    rw [hstore, hops]
    exact List.erase_cons_head o []
  · show z.byte _ = _
    rw [hz, byte_setBytes_inside _ _ _ _ (by rw [bytes_length]; exact hi), bytes_getElem]
  · exact sealed_flags _ _ _

/-! ### Failed reads, time-outs and the return of a drive -/

theorem mapStore_reg (f : Store → Store) (s : State) (a : Nat) : (s.mapStore f).reg a = s.reg a := rfl

theorem incSat_store (s : State) (a : Nat) (f : Fld) : (s.incSat a f).store = s.store := by
  unfold State.incSat
  split <;> rfl

theorem readDone_fails (hretry : s.store.retry = none) (hother : inMirror s (1 - p) = true) : (readDone p false s).store.retry = some p ∧
    (readDone p false s).fld (NV_p_ERRCNT p) NV_p_ERRCNT_READ_ERR = min 65535 (s.fld (NV_p_ERRCNT p) NV_p_ERRCNT_READ_ERR + 1) := by
  unfold readDone
  rw [hretry]
  dsimp only
  rw [if_neg Bool.false_ne_true, hother, if_pos rfl]
  exact ⟨rfl, fld_incSat_same _ _ _ (by decide)⟩

theorem readDone_repairs {q : Nat} (hretry : s.store.retry = some q) (hq : q ≠ p) : (readDone p true s).store.retry = none ∧
    (readDone p true s).fld (NV_p_ERRCNT q) NV_p_ERRCNT_REPAIRED = min 65535 (s.fld (NV_p_ERRCNT q) NV_p_ERRCNT_REPAIRED + 1) := by
  unfold readDone
  rw [hretry]
  dsimp only
  rw [if_neg hq, if_pos rfl, incSat_store]
  exact ⟨rfl, fld_incSat_same _ _ _ (by decide)⟩

/-- What a time-out leaves of a register that no recorder's status is. -/
theorem doNvmeTimeout_reg (h : ∀ r, a ≠ MS_REC_s_STAT r) (p : Nat) (s : State) : (doNvmeTimeout p s).reg a =
    (setMirror (s.setFld (NV_p_STAT p) NV_p_STAT_FAILED 1) (inMirror s 0 && p ≠ 0) (inMirror s 1 && p ≠ 1)).reg a := by
  unfold doNvmeTimeout
  dsimp only
  split
  · exact (finishOps_reg_other h _).trans rfl
  · refine (foldl_keeps (fun z : State => z.reg a) (fun z o => ?_) _ _).trans rfl
    split
    · exact reg_setFld_other _ _ _ _ _ (h _)
    · rfl

theorem nv_stat_ne_rec (p r : Nat) : NV_p_STAT p ≠ MS_REC_s_STAT r := by
  simp only [NV_p_STAT, MS_REC_s_STAT]
  omega

theorem doNvmeTimeout_fails (p : Fin 2) (s : State) : (doNvmeTimeout p s).fld (NV_p_STAT p) NV_p_STAT_FAILED = 1 ∧
    inMirror (doNvmeTimeout p s) p = false ∧ inMirror (doNvmeTimeout p s) (1 - p.val) = inMirror s (1 - p.val) := by
  rw [inMirror_of_reg_eq (doNvmeTimeout_reg ms_stat_ne_rec p s), inMirror_of_reg_eq (doNvmeTimeout_reg ms_stat_ne_rec p s),
    fld_of_reg_eq (doNvmeTimeout_reg (nv_stat_ne_rec p) p s),
    fld_of_reg_eq (setMirror_reg_other _ _ _ (by simp only [NV_p_STAT, MS_STAT]; omega))]
  refine ⟨fld_setFld_of_lt _ _ _ _ (by decide) (by decide), ?_⟩
  match p with
  | 0 => exact ⟨(inMirror_setMirror_zero ..).trans (Bool.and_false _), (inMirror_setMirror_one ..).trans (Bool.and_true _)⟩
  | 1 => exact ⟨(inMirror_setMirror_one ..).trans (Bool.and_false _), (inMirror_setMirror_zero ..).trans (Bool.and_true _)⟩

/-- Bit 2 or 3 of a segment's flags, by the drive. -/
theorem dirty_set (p : Fin 2) (x : Nat) : bits (x ||| (if p.val = 0 then 4 else 8)) (2 + p.val) 1 = 1 := by
  rw [bits_one_eq_testBit, Nat.testBit_or]
  match p with
  | 0 => exact congrArg Bool.toNat (Bool.or_true _)
  | 1 => exact congrArg Bool.toNat (Bool.or_true _)

theorem dirty_cleared (p : Fin 2) (x : Nat) : bits (x &&& (if p.val = 0 then 11 else 7)) (2 + p.val) 1 = 0 := by
  rw [bits_one_eq_testBit, Nat.testBit_and]
  match p with
  | 0 => exact congrArg Bool.toNat (Bool.and_false _)
  | 1 => exact congrArg Bool.toNat (Bool.and_false _)

theorem doDriveReturn_marks (p : Fin 2) (h : inMirror s p = false) : (doDriveReturn p false s).fld MS_STAT MS_STAT_RESYNC = 1 ∧
    ∀ e ∈ (doDriveReturn p false s).store.segs, bits e.2.flags (2 + p.val) 1 = 1 := by
  unfold doDriveReturn
  rw [h]
  refine ⟨fld_setFld_of_lt _ _ _ _ (by decide) (by decide), fun e he => ?_⟩
  obtain ⟨x, -, rfl⟩ := List.mem_map.1 (show e ∈ s.store.segs.map _ from he)
  exact dirty_set p _

theorem doResyncDone_mirrors (p : Fin 2) (hrun : s.fld MS_STAT MS_STAT_RESYNC = 1) (h : inMirror s p = false) :
    (doResyncDone p s).fld MS_STAT MS_STAT_RESYNC = 0 ∧ inMirror (doResyncDone p s) p = true ∧
      inMirror (doResyncDone p s) (1 - p.val) = inMirror s (1 - p.val) ∧
      ∀ e ∈ (doResyncDone p s).store.segs, bits e.2.flags (2 + p.val) 1 = 0 := by
  unfold doResyncDone
  rw [h, flag_eq_true_of_fld_eq_one _ _ _ hrun, if_neg (by decide)]
  dsimp only
  obtain ⟨z, hz⟩ : ∃ z, z = setMirror (s.setFld MS_STAT MS_STAT_RESYNC 0) (inMirror s 0 || p.val = 0) (inMirror s 1 || p.val = 1) := ⟨_, rfl⟩
  rw [← hz, inMirror_of_reg_eq (mapStore_reg ..), inMirror_of_reg_eq (mapStore_reg ..), fld_of_reg_eq (mapStore_reg ..)]
  have hstore : z.store = s.store := by rw [hz]; rfl
  refine ⟨?_, ?_, ?_, fun e he => ?_⟩
  · rw [hz]
    exact (fld_setFld_ne _ _ _ _ _ (by decide) (by decide)).trans (fld_setFld_of_lt _ _ _ _ (by decide) (by decide))
  · rw [hz]
    match p with
    | 0 => exact (inMirror_setMirror_zero ..).trans (Bool.or_true _)
    | 1 => exact (inMirror_setMirror_one ..).trans (Bool.or_true _)
  · rw [hz]
    match p with
    | 0 => exact (inMirror_setMirror_one ..).trans (Bool.or_false _)
    | 1 => exact (inMirror_setMirror_zero ..).trans (Bool.or_false _)
  · obtain ⟨x, -, rfl⟩ := List.mem_map.1 (show e ∈ z.store.segs.map _ from he)
    exact dirty_cleared p _

/-! ### Completions -/

/-- A completion of a command, seen by the drive's queue. -/
def posted (p : Nat) (s : State) : State := { s with nvPosted := tput 0 s.nvPosted (2 * p + 1) 1 }

/-- The oldest write with one command of drive `p` completed. -/
def oneDone (p : Fin 2) (o : StoreOp) : StoreOp :=
  { o with leftA := if p = 0 then o.leftA - 1 else o.leftA, leftB := if p = 1 then o.leftB - 1 else o.leftB }

theorem opStep_one (p : Fin 2) (hA : p = 0 → 0 < o.leftA) (hB : p = 1 → 0 < o.leftB) : opStep p [o] = [oneDone p o] := by
  match p with
  | 0 => exact if_pos ⟨rfl, hA rfl⟩
  | 1 => exact (if_neg fun e => absurd e.1 (by decide)).trans (if_pos ⟨rfl, hB rfl⟩)

theorem finishOps_none (h : ∀ x ∈ s.store.ops, 0 < x.leftA) : finishOps s = s := by
  unfold finishOps
  rw [List.filter_eq_nil_iff.2 fun x hx => ?_]
  · rfl
  · have := h x hx
    simp only [Bool.and_eq_true, decide_eq_true_eq]
    omega

/-- Settles O42. -/
theorem storeCommandsComplete : Obligations.StoreCommandsComplete := by
  unfold Obligations.StoreCommandsComplete
  intro p intact r s
  dsimp only
  refine ⟨rfl, ?_, ?_, ?_, ?_, ⟨_, rfl, doNvmeTimeout_fails p s⟩, ?_, ?_, fun h => ⟨_, rfl, doDriveReturn_marks p h⟩,
    fun h h' => ⟨_, rfl, doResyncDone_mirrors p h h'⟩, ?_, ?_, fun h h' => ⟨_, rfl, recordHalfFull_switches h h'⟩⟩
  · intro o hops hstream hA hB
    have hstep := opStep_one (o := o) p (fun e => by rw [hA, if_pos e]; decide) (fun e => by rw [hB, if_pos e]; decide)
    have hzero : (oneDone p o).leftA = 0 ∧ (oneDone p o).leftB = 0 := by
      unfold oneDone
      dsimp only
      rw [hA, hB]
      constructor <;> split <;> rfl
    obtain ⟨z, hz⟩ : ∃ z, z = (posted p s).mapStore (fun x => { x with ops := opStep p x.ops }) := ⟨_, rfl⟩
    have hzops : z.store.ops = [oneDone p o] := by rw [hz, ← hstep, ← hops]; rfl
    have hseal := finishOps_seals hzops hstream hzero.1 hzero.2
    refine ⟨finishOps z, by rw [hz]; rfl, ?_⟩
    rw [hz] at hseal ⊢
    exact hseal
  · intro o hops hA hB
    have hstep := opStep_one (o := o) p (fun _ => by omega) (fun _ => by omega)
    obtain ⟨z, hz⟩ : ∃ z, z = (posted p s).mapStore (fun x => { x with ops := opStep p x.ops }) := ⟨_, rfl⟩
    have hzops : z.store.ops = [oneDone p o] := by rw [hz, ← hstep, ← hops]; rfl
    have hnone : finishOps z = z := by
      refine finishOps_none fun x hx => ?_
      rw [hzops, List.mem_singleton] at hx
      rw [hx]
      unfold oneDone
      dsimp only
      split <;> omega
    refine ⟨z, Completes.of_eq (t := finishOps z) (by rw [hz]; rfl) hnone, by rw [hz]; rfl, ?_⟩
    rw [hzops]
    unfold oneDone
    rw [hA, hB]
  · intro hretry hother
    exact ⟨_, rfl, readDone_fails (s := posted p s) hretry hother⟩
  · intro hretry
    exact ⟨_, rfl, readDone_repairs (s := posted p s) hretry (by omega)⟩
  · intro h
    refine Completes.of_eq (t := doDriveReturn p intact s) rfl ?_
    unfold doDriveReturn
    rw [h, if_pos rfl]
  · intro h
    refine Completes.of_eq (t := doDriveReturn p true s) rfl ?_
    unfold doDriveReturn
    rw [h, if_neg Bool.false_ne_true]
    exact if_pos rfl
  · intro h
    exact Completes.of_eq (t := doRecordHalfFull r s) rfl (if_pos h)
  · intro h hother
    obtain ⟨x, hx⟩ := Option.isSome_iff_exists.1 hother
    refine Completes.of_eq (t := doRecordHalfFull r s) rfl ?_
    unfold doRecordHalfFull
    dsimp only
    refine (if_neg (Nat.not_lt.2 h)).trans ?_
    rw [hx]

end Sys2Proof.Machine
end

section

/-! SUPPORT. Requests and runs of Anise (R194 to R198), updates and trims of Saffron (R218 to R222), and O41. -/

namespace Sys2Proof.Machine
open R

variable {s t : State} {u : Nat}

/-! ### Anise: requests -/

theorem anErrIf_onlyRegs {l : List Nat} (h : OnlyRegs l s t) (hl : AN_ERR ∈ l) (c : Bool) (f : Fld) : OnlyRegs l s (anErrIf c f t) := by
  unfold anErrIf
  split
  · exact h.setFld hl f 1
  · exact h

theorem anErrIf_set {c : Bool} (h : c = true) {f : Fld} (hf : f.lo + f.w ≤ 32) (hw : 0 < f.w) : (anErrIf c f s).fld AN_ERR f = 1 := by
  unfold anErrIf
  rw [if_pos h]
  exact fld_setFld_of_lt _ _ _ _ hf (Nat.one_lt_two_pow (by omega))

theorem anErrIf_beside {f g : Fld} (c : Bool) (hf : f.lo + f.w ≤ 32) (hg : f.lo + f.w ≤ g.lo ∨ g.lo + g.w ≤ f.lo) :
    (anErrIf c f s).fld AN_ERR g = s.fld AN_ERR g := by
  unfold anErrIf
  split
  · exact fld_setFld_ne _ _ _ _ _ hf hg
  · rfl

theorem doAnStart_busy (h : anBusy s = true) : doAnStart s = s := by
  unfold doAnStart
  exact if_pos h

theorem doAnStart_starts (hb : anBusy s = false) (hm : anMode s ≠ 0) (hc : codeDup s = false) (hr : anMemBad s = false) (hw : winBad s = false) :
    doAnStart s = (s.setFld AN_RUN_STAT AN_RUN_STAT_WAITING 1).mapAn (fun a => { a with startAt := s.frame, stopReq := false }) := by
  unfold doAnStart
  rw [hb, hc, hr, hw, decide_eq_false hm]
  rfl

theorem doAnStart_waits (hb : anBusy s = false) (hm : anMode s ≠ 0) (hc : codeDup s = false) (hr : anMemBad s = false) (hw : winBad s = false) :
    OnlyRegs [AN_RUN_STAT] { s with an := (doAnStart s).an } (doAnStart s) ∧ (doAnStart s).fld AN_RUN_STAT AN_RUN_STAT_WAITING = 1 ∧
      (doAnStart s).an.startAt = s.frame := by
  rw [doAnStart_starts hb hm hc hr hw]
  exact ⟨⟨rfl, fun a ha => reg_setFld_other _ _ _ _ _ (List.ne_of_not_mem_cons ha)⟩, fld_setFld_of_lt _ _ _ _ (by decide) (by decide), rfl⟩

/-- A start that a check refuses sets the bit of each failing check. -/
theorem doAnStart_refused (hb : anBusy s = false) (h : anMode s = 0 ∨ codeDup s = true ∨ anMemBad s = true ∨ winBad s = true) :
    OnlyRegs [AN_ERR] s (doAnStart s) ∧ (anMode s = 0 → (doAnStart s).fld AN_ERR AN_ERR_MODE_OFF = 1) ∧
      (codeDup s = true → (doAnStart s).fld AN_ERR AN_ERR_CODE_DUP = 1) ∧ (anMemBad s = true → (doAnStart s).fld AN_ERR AN_ERR_MEM_RANGE = 1) ∧
      (winBad s = true → (doAnStart s).fld AN_ERR AN_ERR_WIN_RANGE = 1) := by
  have heq : doAnStart s = anErrIf (winBad s) AN_ERR_WIN_RANGE (anErrIf (anMemBad s) AN_ERR_MEM_RANGE (anErrIf (codeDup s) AN_ERR_CODE_DUP
      (anErrIf (decide (anMode s = 0)) AN_ERR_MODE_OFF s))) := by
    have hsome : (decide (anMode s = 0) || codeDup s || anMemBad s || winBad s) = true := by
      simp only [Bool.or_eq_true, decide_eq_true_eq, or_assoc]
      exact h
    unfold doAnStart
    rw [hb, if_neg Bool.false_ne_true]
    exact if_pos hsome
  rw [heq]
  refine ⟨?_, fun e => ?_, fun e => ?_, fun e => ?_, fun e => anErrIf_set e (by decide) (by decide)⟩
  · exact anErrIf_onlyRegs (anErrIf_onlyRegs (anErrIf_onlyRegs (anErrIf_onlyRegs (onlyRegs_refl _ s) (by decide) _ _) (by decide) _ _)
      (by decide) _ _) (by decide) _ _
  · rw [anErrIf_beside _ (by decide) (by decide), anErrIf_beside _ (by decide) (by decide), anErrIf_beside _ (by decide) (by decide)]
    exact anErrIf_set (decide_eq_true e) (by decide) (by decide)
  · rw [anErrIf_beside _ (by decide) (by decide), anErrIf_beside _ (by decide) (by decide)]
    exact anErrIf_set e (by decide) (by decide)
  · rw [anErrIf_beside _ (by decide) (by decide)]
    exact anErrIf_set e (by decide) (by decide)

theorem doAnStop_stops (s : State) : (doAnStop s).fld AN_RUN_STAT AN_RUN_STAT_WAITING = 0 ∧ (doAnStop s).an.stopReq = s.an.run.isSome ∧
    (doAnStop s).an.run = s.an.run :=
  ⟨fld_setFld_of_lt s _ _ _ (by decide) (by decide), rfl, rfl⟩

/-! ### Anise: runs -/

theorem mapAn_reg (f : Anise → Anise) (s : State) (a : Nat) : (s.mapAn f).reg a = s.reg a := rfl

theorem beginRun_begins (s : State) : (beginRun s).an.run = some (takeRun s) ∧ (beginRun s).fld AN_RUN_STAT AN_RUN_STAT_RUNNING = 1 ∧
    (beginRun s).fld AN_RUN_STAT AN_RUN_STAT_WAITING = 0 ∧ (beginRun s).reg AN_START_LO = BitVec.ofNat 32 s.frame := by
  unfold beginRun
  dsimp only
  rw [fld_of_reg_eq (mapAn_reg ..), fld_of_reg_eq (mapAn_reg ..), mapAn_reg, fld_setReg_other _ _ _ _ _ (by decide),
    fld_setReg_other _ _ _ _ _ (by decide), fld_setReg_other _ _ _ _ _ (by decide), fld_setReg_other _ _ _ _ _ (by decide),
    reg_setReg_other _ _ _ _ (by decide)]
  refine ⟨rfl, ?_, ?_, reg_setReg_same _ _ _⟩
  · exact (fld_setFld_ne _ _ _ _ _ (by decide) (by decide)).trans (fld_setFld_of_lt _ _ _ _ (by decide) (by decide))
  · refine (fld_setFld_ne _ _ _ _ _ (by decide) (by decide)).trans ?_
    exact (fld_setFld_ne _ _ _ _ _ (by decide) (by decide)).trans (fld_setFld_of_lt _ _ _ _ (by decide) (by decide))

theorem doAnRunBegin_begins (hw : s.fld AN_RUN_STAT AN_RUN_STAT_WAITING = 1) (hf : s.frame % codeLen = 0) (hs : s.an.startAt + 4096 ≤ s.frame) :
    doAnRunBegin s = beginRun s := by
  unfold doAnRunBegin
  rw [flag_eq_true_of_fld_eq_one _ _ _ hw]
  exact if_pos (by rw [decide_eq_true hf, decide_eq_true hs]; rfl)

/-- A run that ends at a boundary and is not followed by another. -/
theorem doAnRunEnd_ends {r : AnRun} (hr : s.an.run = some r) (hf : s.frame % codeLen = 0) (hfirst : r.first < s.frame)
    (hend : s.an.stopReq = true ∨ ((s.frame - r.first) / codeLen = r.periods ∧ s.fld AN_RUN_CTL AN_RUN_CTL_CONT = 0)) :
    ∃ d, (doAnRunEnd s).an.proc = some d ∧ d.num = r.num ∧ d.acc = r.acc ∧ d.periods = (s.frame - r.first) / codeLen ∧
      (d.truncated = true ↔ (s.frame - r.first) / codeLen ≠ r.periods) ∧ (doAnRunEnd s).an.run = none ∧
      (doAnRunEnd s).fld AN_RUN_STAT AN_RUN_STAT_RUNNING = 0 ∧ (doAnRunEnd s).fld AN_RUN_STAT AN_RUN_STAT_PROCESSING = 1 := by
  obtain ⟨whole, hwhole⟩ : ∃ w, w = decide ((s.frame - r.first) / codeLen = r.periods) := ⟨_, rfl⟩
  have hgo : ¬ (s.frame % codeLen ≠ 0 || s.frame ≤ r.first || !(whole || s.an.stopReq)) = true := by
    have hor : (whole || s.an.stopReq) = true := by
      rcases hend with h | ⟨h, -⟩
      · rw [h, Bool.or_true]
      · rw [hwhole, decide_eq_true h, Bool.true_or]
    rw [hor, decide_eq_false (not_not.2 hf), decide_eq_false (Nat.not_le.2 hfirst)]
    decide
  have hlast : ¬ (whole && s.flag AN_RUN_CTL AN_RUN_CTL_CONT && !s.an.stopReq) = true := by
    rcases hend with h | ⟨-, h⟩
    · rw [h, Bool.not_true, Bool.and_false]
      decide
    · rw [(flag_eq_false_iff _ _ _).2 h, Bool.and_false, Bool.false_and]
      decide
  unfold doAnRunEnd
  rw [hr]
  dsimp only
  rw [← hwhole, if_neg hgo, if_neg hlast]
  refine ⟨_, rfl, rfl, rfl, rfl, ?_, rfl, ?_, ?_⟩
  · rw [hwhole]
    simp only [Bool.not_eq_true', decide_eq_false_iff_not, ne_eq]
  · exact (fld_setFld_ne _ _ _ _ _ (by decide) (by decide)).trans (fld_setFld_of_lt _ _ _ _ (by decide) (by decide))
  · exact fld_setFld_of_lt _ _ _ _ (by decide) (by decide)

theorem doAnProcessingDone_done (h : s.an.proc.isSome = true) : (doAnProcessingDone s).an.proc = none ∧
    (doAnProcessingDone s).fld AN_RUN_STAT AN_RUN_STAT_PROCESSING = 0 ∧ (doAnProcessingDone s).fld AN_RUN_STAT AN_RUN_STAT_DONE = 1 := by
  obtain ⟨r, hr⟩ := Option.isSome_iff_exists.1 h
  unfold doAnProcessingDone
  rw [hr]
  dsimp only
  generalize (if r.refcap then _ else _ : State) = z
  refine ⟨rfl, ?_, fld_setFld_of_lt _ _ _ _ (by decide) (by decide)⟩
  exact (fld_setFld_ne _ _ _ _ _ (by decide) (by decide)).trans (fld_setFld_of_lt _ _ _ _ (by decide) (by decide))

/-! ### Saffron -/

theorem setSfEn_refused (he : s.fld SF_CTL SF_CTL_EN = 0) (hm : ddrLimit s < sfMem s + 0x100000) :
    setSfEn 1 s = s.setFld SF_ERR SF_ERR_MEM_RANGE 1 := by
  unfold setSfEn
  exact if_pos ⟨rfl, by rw [(flag_eq_false_iff _ _ _).2 he]; decide, hm⟩

theorem setSfEn_enables (hm : sfMem s + 0x100000 ≤ ddrLimit s) : setSfEn 1 s = s.setFld SF_CTL SF_CTL_EN 1 := by
  unfold setSfEn
  exact if_neg fun h => absurd h.2.2 (Nat.not_lt.2 hm)

theorem fieldsAt_SF_Z_z_LIM {z : Nat} (h : z < 256) : fieldsAt (SF_Z_z_LIM z) = [⟨0, 32, .rw⟩] := by
  refine fieldsAt_of_regRow (r := ⟨0x200045D014, [(256, 0x20)], 0x0, [], [⟨0, 32, .rw⟩]⟩) (ix := [z]) ?_
  have hrows : regRowsAt (SF_Z_z_LIM z) = regRowsSF := by
    unfold regRowsAt SF_Z_z_LIM
    repeat rw [if_neg (by omega)]
    exact if_pos (by omega)
  unfold regRow
  rw [hrows]
  unfold regRowsSF SF_Z_z_LIM
  simp (disch := omega) only [findRow_past_one, findRow_between, findRow_at]

theorem sfLimit_written (z : Fin 256) (v : Word) (s : State) : (s.writeByType (SF_Z_z_LIM z) v).reg (SF_Z_z_LIM z) = v := by
  have h : ((s.writeByType (SF_Z_z_LIM z) v).fld (SF_Z_z_LIM z) ⟨0, 32⟩) = bits v.toNat 0 32 :=
    fld_writeByType s _ v ⟨0, 32⟩ .rw (fieldsAt_SF_Z_z_LIM z.isLt) (by decide) (by decide)
  refine BitVec.eq_of_toNat_eq ?_
  rwa [State.fld, bits_word, bits_word] at h

theorem takeZone_kept (s : State) (z : Nat) : ((takeZone s z).mem, (takeZone s z).sf.seq) = (s.mem, s.sf.seq) := by
  unfold takeZone
  dsimp only
  split <;> rfl

theorem levelReached_kept (s : State) (z : Nat) : ((levelReached s z).2.mem, (levelReached s z).2.sf.seq) = (s.mem, s.sf.seq) := by
  unfold levelReached
  split <;> rfl

theorem foldl_freeBand_kept (z k : Nat) (l : List Nat) (y : State) :
    let w := l.foldl (fun s m =>
      let s1 := s.mapSf (fun x => { x with avg := tput ⟨[]⟩ x.avg (32 * z + 8 * m + k) (freeBand s) })
      { s1 with freeCtr := s1.freeCtr + 42 }) y
    (w.mem, w.sf.seq) = (y.mem, y.sf.seq) := by
  induction l generalizing y with
  | nil => rfl
  | cons m l ih => exact (ih _).trans rfl

theorem takeBand_kept (z : Nat) (a : Bool × State) (k : Nat) : ((takeBand z a k).2.mem, (takeBand z a k).2.sf.seq) = (a.2.mem, a.2.sf.seq) := by
  unfold takeBand
  dsimp only
  split
  · exact (foldl_freeBand_kept z k _ _).trans (levelReached_kept ..)
  · exact levelReached_kept ..

theorem takeWindow_kept (s : State) (z : Nat) : ((takeWindow s z).mem, (takeWindow s z).sf.seq) = (s.mem, s.sf.seq) := by
  have h := foldl_keeps (fun a : Bool × State => (a.2.mem, a.2.sf.seq)) (fun a k => takeBand_kept z a k) (List.range 7) (false, s)
  unfold takeWindow
  dsimp only
  generalize List.foldl (takeBand z) (false, s) (List.range 7) = x at h
  exact h

/-- An update that is due (R218). -/
theorem doSfUpdate_updates (hf : s.frame % (fsHz s / 4) = 0) (he : s.fld SF_CTL SF_CTL_EN = 1) : (doSfUpdate s).mem = s.mem ∧
    (doSfUpdate s).sf.pend = some s.frame ∧ (doSfUpdate s).sf.seq = (s.sf.seq + 1) % 2 ^ 32 ∧
    (doSfUpdate s).fld SF_STAT SF_STAT_ACTIVE = 1 := by
  unfold doSfUpdate
  rw [if_neg (not_not.2 hf)]
  dsimp only
  obtain ⟨y, hy⟩ : ∃ y, y = s.mapSf (fun x => { x with past := (x.tap :: x.past).take 4, tap := [], held := [], ovl := [] }) := ⟨_, rfl⟩
  have hen : s.flag SF_CTL SF_CTL_EN = true := flag_eq_true_of_fld_eq_one _ _ _ he
  have hkept : (y.mem, y.sf.seq) = (s.mem, s.sf.seq) := by rw [hy]; rfl
  rw [← hy, hen, if_neg (by decide)]
  generalize (sfZones y ++ y.sf.cfg.map (·.1)).eraseDups = zs
  generalize List.filter (fun z => decide (zoneCfg y z ≠ _)) zs = fresh
  have htaken := (foldl_keeps (fun z : State => (z.mem, z.sf.seq)) takeZone_kept zs y).trans hkept
  generalize zs.foldl takeZone y = w at htaken
  generalize List.filter (fun z => analysed w z && _) zs = open'
  have hwin := (foldl_keeps (fun z : State => (z.mem, z.sf.seq)) takeWindow_kept open' w).trans htaken
  generalize List.foldl takeWindow w open' = x at hwin
  obtain ⟨hmem, hseq⟩ := Prod.mk.inj hwin
  refine ⟨hmem, rfl, ?_, fld_setFld_of_lt _ _ _ _ (by decide) (by decide)⟩
  show (x.sf.seq + 1) % 2 ^ 32 = _
  rw [hseq]

/-- The results of the update of frame `u` made visible. -/
def published (u q : Nat) (z : State) : State :=
  (((z.setReg SF_UPD_LO (BitVec.ofNat 32 u)).setReg SF_UPD_HI (BitVec.ofNat 32 (u / 2 ^ 32))).setFlds SF_STAT
    [(SF_STAT_UPD, 1), (SF_STAT_SEQ, q % 65536)]).mapSf (fun x => { x with pend := none })

theorem published_eq (hp : s.sf.pend = some u) : ∃ z, doSfResultsWritten s = published u s.sf.seq z := by
  unfold doSfResultsWritten
  rw [hp]
  dsimp only
  exact ⟨_, rfl⟩

theorem published_shows (u q : Nat) (z : State) : (published u q z).sf.pend = none ∧ (published u q z).fld SF_STAT SF_STAT_UPD = 1 ∧
    (published u q z).reg SF_UPD_LO = BitVec.ofNat 32 u := by
  have hreg (y : State) (f : Saffron → Saffron) (a : Nat) : (y.mapSf f).reg a = y.reg a := rfl
  unfold published
  rw [fld_of_reg_eq (hreg ..), hreg]
  refine ⟨rfl, ?_, ?_⟩
  · exact (fld_setFld_ne _ _ _ _ _ (by decide) (by decide)).trans (fld_setFld_of_lt _ _ _ _ (by decide) (by decide))
  · refine (reg_setFlds_other _ _ _ _ (by decide)).trans ?_
    exact (reg_setReg_other _ _ _ _ (by decide)).trans (reg_setReg_same _ _ _)

theorem doSfResults_publishes (hp : s.sf.pend = some u) (hl : s.fw.sfLoop = false) : (doSfResults s).sf.pend = none ∧
    (doSfResults s).fld SF_STAT SF_STAT_UPD = 1 ∧ (doSfResults s).reg SF_UPD_LO = BitVec.ofNat 32 u := by
  obtain ⟨z, hz⟩ := published_eq hp
  have heq : doSfResults s = published u s.sf.seq z := by
    rw [← hz]
    unfold doSfResults
    rw [hl, Bool.and_false]
    rfl
  rw [heq]
  exact published_shows u _ z

/-! ### Trims (R221) -/

theorem clampInt_eq {lo hi : Int} (h : lo ≤ hi) (x : Int) : clampInt lo hi x = max lo (min hi x) := by
  unfold clampInt
  split
  · omega
  · split <;> omega

/-- A step of at most `d` toward `w`. -/
theorem moveToward_closer (e w : Int) (d : Nat) : (moveToward e w d - w).natAbs = (e - w).natAbs - d ∧
    (e ≤ w → moveToward e w d ≤ w) ∧ (w ≤ e → w ≤ moveToward e w d) ∧ min e w ≤ moveToward e w d ∧ moveToward e w d ≤ max e w := by
  unfold moveToward
  split <;> omega

theorem trimZone_gain {z : Nat} (h : s.fld (SF_Z_z_LIM z) SF_Z_z_LIM_SLEW ≠ 0) :
    sext 8 ((trimZone s z).fld (SF_Z_z_TEFF z) SF_Z_z_TEFF_GAIN) = moveToward (sext 8 (s.fld (SF_Z_z_TEFF z) SF_Z_z_TEFF_GAIN))
      (max (-(s.fld (SF_Z_z_LIM z) SF_Z_z_LIM_GDN : Int)) (min (s.fld (SF_Z_z_LIM z) SF_Z_z_LIM_GUP : Int)
        (sext 8 (s.fld (SF_Z_z_TRIM z) SF_Z_z_TRIM_GAIN)))) (s.fld (SF_Z_z_LIM z) SF_Z_z_LIM_SLEW) := by
  unfold trimZone
  dsimp only
  rw [if_neg h, clampInt_eq (by omega)]
  obtain ⟨elo, ehi⟩ := sext_mem (w := 8) (by decide) (s.fld (SF_Z_z_TEFF z) SF_Z_z_TEFF_GAIN)
  obtain ⟨tlo, thi⟩ := sext_mem (w := 8) (by decide) (s.fld (SF_Z_z_TRIM z) SF_Z_z_TRIM_GAIN)
  generalize sext 8 (s.fld (SF_Z_z_TEFF z) SF_Z_z_TEFF_GAIN) = e at elo ehi ⊢
  generalize sext 8 (s.fld (SF_Z_z_TRIM z) SF_Z_z_TRIM_GAIN) = g at tlo thi ⊢
  obtain ⟨w, hw⟩ : ∃ w : Int, w = max (-(s.fld (SF_Z_z_LIM z) SF_Z_z_LIM_GDN : Int)) (min (s.fld (SF_Z_z_LIM z) SF_Z_z_LIM_GUP : Int) g) := ⟨_, rfl⟩
  obtain ⟨-, -, -, hlo, hhi⟩ := moveToward_closer e w (s.fld (SF_Z_z_LIM z) SF_Z_z_LIM_SLEW)
  rw [← hw]
  generalize moveToward e w (s.fld (SF_Z_z_LIM z) SF_Z_z_LIM_SLEW) = m at hlo hhi ⊢
  have hmem : -2 ^ (8 - 1) ≤ m ∧ m ≤ 2 ^ (8 - 1) - 1 := by omega
  rw [satS_of_mem hmem.1 hmem.2]
  refine (congrArg (sext 8) (fld_of_reg_eq (foldl_keeps (fun y : State => y.reg (SF_Z_z_TEFF z)) (fun y k => ?_) _ _) _)).trans ?_
  · exact reg_setFld_other _ _ _ _ _ (by simp only [SF_Z_z_TEFF, SF_Z_z_TEFF_EQ]; omega)
  · rw [fld_setFld_of_lt _ _ _ _ (by decide) (unsext_lt 8 m)]
    exact sext_unsext (by decide) hmem.1 hmem.2

/-- Settles O41. -/
theorem analyzerCommandsComplete : Obligations.AnalyzerCommandsComplete := by
  unfold Obligations.AnalyzerCommandsComplete
  intro s m z v
  dsimp only
  refine ⟨?_, ?_, fun h => Completes.of_eq (t := doAnStart s) rfl (doAnStart_busy h), fun hb hm hc hr hw => ⟨_, rfl, doAnStart_waits hb hm hc hr hw⟩,
    fun hb h => ⟨_, rfl, doAnStart_refused hb h⟩, ⟨_, rfl, doAnStop_stops s⟩, ?_, ?_, fun h => ⟨_, rfl, doAnProcessingDone_done h⟩,
    fun he hm => Completes.of_eq (t := setSfEn 1 s) rfl (setSfEn_refused he hm),
    fun hm => Completes.of_eq (t := setSfEn 1 s) rfl (setSfEn_enables hm), rfl, ?_, ?_,
    fun hf he => ⟨_, rfl, doSfUpdate_updates hf he⟩, fun u hp hl => ⟨_, rfl, doSfResults_publishes hp hl⟩, ?_, ?_⟩
  · intro h
    exact Completes.of_eq (t := doAnModeWrite m s) rfl (if_neg (by omega))
  · intro h
    exact Completes.of_eq (t := doAnModeWrite m s) rfl (if_pos h)
  · intro hw hf hs
    refine ⟨beginRun s, takeRun s, Completes.of_eq (t := doAnRunBegin s) rfl (doAnRunBegin_begins hw hf hs), ?_⟩
    obtain ⟨hrun, hrest⟩ := beginRun_begins s
    exact ⟨hrun, rfl, rfl, hrest⟩
  · intro r hr hf hfirst hend
    obtain ⟨d, hd⟩ := doAnRunEnd_ends hr hf hfirst hend
    exact ⟨_, d, rfl, hd⟩
  · intro h
    exact Completes.of_eq (t := doSfLimitWrite z v s) rfl (if_pos (flag_eq_true_of_fld_eq_one _ _ _ h))
  · intro h
    have heq : doSfLimitWrite z v s = s.writeByType (SF_Z_z_LIM z) v := by
      unfold doSfLimitWrite
      rw [(flag_eq_false_iff _ _ _).2 h]
      exact if_neg Bool.false_ne_true
    exact ⟨_, Completes.of_eq (t := doSfLimitWrite z v s) rfl heq, (onlyRegs_refl _ s).writeByType List.mem_cons_self _, sfLimit_written z v s⟩
  · intro h
    unfold trimZone
    dsimp only
    exact if_pos (by omega)
  · intro h
    rw [trimZone_gain (by omega)]
    obtain ⟨h1, h2, h3, -, -⟩ := moveToward_closer _ _ _
    exact ⟨h1, h2, h3⟩

end Sys2Proof.Machine
end

section

/-! SUPPORT. Accesses of control registers by every agent, the debug access port, and outbound time-outs (R11, R342, R410 to R414, R439, R447): O59. -/

namespace Sys2Proof.Machine
open R

variable {ag : Agent} {a : Nat} {v : Word} {s t : State}

/-! ### The blocks whose registers have no effect of their own -/

/-- The aligned words from SNS_ID up to CV_ID. -/
structure Plain (a : Nat) : Prop where
  lo : SNS_ID ≤ a
  hi : a < CV_ID
  aligned : a % 4 = 0

theorem Plain.blockOff (h : Plain a) (s : State) : blockOff s a = false := by
  have hlo : 0x2000465000 ≤ a := h.lo
  have hhi : a < 0x2000468000 := h.hi
  exact blockOff_on (by simp only [SX_ID]; omega) (.inr (by simp only [SF_ID]; omega)) (.inl (by simp only [SEC_ID]; omega))

theorem Plain.isControl (h : Plain a) : isControl a = true := by
  have hlo : 0x2000465000 ≤ a := h.lo
  have hhi : a < 0x2000468000 := h.hi
  unfold Machine.isControl
  rw [decide_eq_true (show 0x2000000000 ≤ a by omega), decide_eq_true (show a < 0x200046E000 by omega)]
  rfl

theorem Plain.high (h : Plain a) : 0x2000000000 ≤ a := (by decide : 0x2000000000 ≤ SNS_ID).trans h.lo

theorem Plain.writeBlock (h : Plain a) (v : Word) (s : State) : writeBlock ag a v s = s.writeByType a v := by
  have h0 := h.lo
  unfold Machine.writeBlock
  rw [if_neg (not_below SX_ID (by decide) h0), if_neg (not_below BB_ID (by decide) h0), if_neg (not_below MC_ID (by decide) h0),
    if_neg (not_below FL_ID (by decide) h0), if_neg (not_below (mbRequest 0) (by decide) h0), if_neg (not_below DBG_ID (by decide) h0),
    if_neg (not_below IC_ID (by decide) h0), if_neg (not_below QM_ID (by decide) h0), if_neg (not_below MS_ID (by decide) h0),
    if_neg (not_below DRV_ID (by decide) h0), if_neg (not_below SF_ID (by decide) h0), if_neg (not_below TDMA_ID (by decide) h0),
    if_neg (not_below AN_ID (by decide) h0), if_neg (not_below NET_ID (by decide) h0), if_neg (not_below SNS_ID (by decide) h0), if_pos h.hi]

theorem Plain.readBlock (h : Plain a) (s : State) : readBlock ag a s = s.readByType a := by
  have h0 := h.lo
  have below (x : Nat) (hx : x < SNS_ID) : ¬ a = x := fun e => absurd (h0.trans_eq e) (Nat.not_le.2 hx)
  have above (x : Nat) (hx : CV_ID ≤ x) : ¬ a = x := fun e => absurd (h.hi.trans_le hx) (Nat.not_lt.2 (Nat.le_of_eq e.symm))
  unfold Machine.readBlock
  rw [if_neg (below SX_FRAME_LO (by decide)), if_neg (below AN_START_LO (by decide)), if_neg (below SF_UPD_LO (by decide)),
    if_neg (below NET_TIME_NS (by decide)), if_neg, if_neg (below SX_BLOCK_LO (by decide)), if_neg (not_below SX_ID (by decide) h0), if_neg,
    if_neg, if_neg (not_below MC_ID (by decide) h0), if_neg (not_below FL_ID (by decide) h0), if_neg (not_below (mbRequest 0) (by decide) h0),
    if_neg (not_below DBG_ID (by decide) h0), if_neg (not_below IC_ID (by decide) h0), if_neg (not_below QM_ID (by decide) h0),
    if_neg (below QM_QCFG (by decide)), if_neg (below QM_QLIM (by decide)), if_neg (below QM_QSTAT (by decide)),
    if_neg (fun e => absurd h.hi (Nat.not_lt.2 e.1)), if_neg (above BT_STAT (by decide)), if_neg (above SEC_LCS (by decide)),
    if_neg (above SEC_SERIAL_LO (by decide)), if_neg (above SEC_SERIAL_HI (by decide)), if_neg (above (SEC_DBG_CHAL_k 0) (by decide)),
    if_neg (above WD_DEV_STAT (by decide)), if_neg (above WD_CV_STAT (by decide))]
  · exact fun e => absurd e.2 (not_below MC_ID (by decide) h0)
  · exact fun e => absurd e.2 (not_below (SX_ID + 0x5A000) (by decide) h0)
  · rintro (e | e | e | e | e)
    · exact below SX_FRAME_HI (by decide) e
    · exact below AN_START_HI (by decide) e
    · exact below SF_UPD_HI (by decide) e
    · exact below NET_TIME_S_LO (by decide) e
    · exact below NET_TIME_S_HI (by decide) e

theorem regWrite_block (h : 0x2000000000 ≤ a) : regWrite ag a v s = writeBlock ag a v s := if_neg (Nat.not_lt.2 h)
theorem regRead_block (h : 0x2000000000 ≤ a) : regRead ag a s = readBlock ag a s := if_neg (Nat.not_lt.2 h)

theorem Plain.busWrite (h : Plain a) (v : Word) (s : State) : busWrite ag s a (leBytes 4 v.toNat) = (false, s.writeByType a v) := by
  rw [busWrite_control h.isControl ((by decide : 0x1000000000 ≤ 0x2000000000).trans h.high) h.aligned (h.blockOff s), regWrite_block h.high, h.writeBlock]

/-- A read without side effect of a control word that answers. -/
theorem busRead_silent (hc : isControl a = true) (hhigh : 0x1000000000 ≤ a) (h4 : a % 4 = 0) (hoff : blockOff s a = false) :
    ∃ k, busRead ag true s a 4 = okFetch (leBytes 4 (regRead ag a s).1.toNat) { s with freeCtr := k } := by
  have hraw : busReadRaw ag s a 4 = okFetch (leBytes 4 (regRead ag a s).1.toNat) (regRead ag a s).2 := by
    unfold busReadRaw
    rw [if_neg (by omega), if_pos hc, ctlRead_word h4 hoff]
  refine ⟨(regRead ag a s).2.freeCtr, ?_⟩
  unfold Machine.busRead
  rw [hraw]
  rfl

theorem leNat_word (v : Word) : leNat (leBytes 4 v.toNat) = v.toNat := by
  have := v.isLt
  rw [leNat_leBytes]
  omega

/-! ### Register accesses (R11, R342, R439) -/

theorem doRegisterWrite_host (h : a < 0x20003C0000 ∨ 0x2000400000 ≤ a) : doRegisterWrite .host a v s = s ∧ doRcRead .host a s = s := by
  have hno : hostReach .host a = false := by
    unfold hostReach
    rcases h with h | h
    · rw [decide_eq_false (show ¬ mbRequest 0 ≤ a from Nat.not_le.2 h)]
      rfl
    · rw [decide_eq_false (show ¬ a < DBG_ID from Nat.not_lt.2 h), Bool.and_false]
      rfl
  unfold doRegisterWrite doRcRead
  rw [hno]
  exact ⟨rfl, rfl⟩

theorem hostReach_of_not_host (h : ag ≠ .host) (a : Nat) : hostReach ag a = true := by
  unfold hostReach
  rw [decide_eq_true h]
  rfl

theorem doRegisterWrite_plain (hag : ag ≠ .host) (h : Plain (a / 4 * 4)) : doRegisterWrite ag a v s = s.writeByType (a / 4 * 4) v := by
  unfold doRegisterWrite
  rw [hostReach_of_not_host hag, if_pos rfl, h.busWrite]

/-- RC_READ of a control word that answers. -/
theorem doRcRead_control (hr : hostReach ag a = true) (hc : isControl (a / 4 * 4) = true) (hhigh : 0x1000000000 ≤ a / 4 * 4)
    (hoff : blockOff s (a / 4 * 4) = false) : doRcRead ag a s = { (regRead ag (a / 4 * 4) s).2 with
      dev := { (regRead ag (a / 4 * 4) s).2.dev with lastRead := (regRead ag (a / 4 * 4) s).1 } } := by
  unfold doRcRead
  rw [hr, if_pos rfl, busRead_control hc hhigh (Nat.mul_mod_left _ _) hoff]
  unfold okFetch
  dsimp only
  rw [leNat_word, BitVec.ofNat_toNat]
  rfl

theorem readByType_dev (a : Nat) (s : State) : (s.readByType a).2.dev = s.dev := by
  unfold State.readByType
  split <;> rfl

theorem doRcRead_plain (hag : ag ≠ .host) (h : Plain (a / 4 * 4)) : doRcRead ag a s =
    { (s.readByType (a / 4 * 4)).2 with dev := { s.dev with lastRead := (s.readByType (a / 4 * 4)).1 } } := by
  rw [doRcRead_control (hostReach_of_not_host hag a) h.isControl ((by decide : 0x1000000000 ≤ 0x2000000000).trans h.high) (h.blockOff s),
    regRead_block h.high, h.readBlock, readByType_dev]

/-! ### Counters of a mailbox pair, read by the host -/

theorem regRow_MB_i_CNT {i : Nat} (h : i < 18) : regRow (MB_i_CNT i) = some (⟨0x20003F0010, [(18, 0x20)], 0x0, [], [⟨0, 24, .rc⟩]⟩, [i]) := by
  have hrows : regRowsAt (MB_i_CNT i) = regRowsMB := by
    unfold regRowsAt MB_i_CNT
    repeat rw [if_neg (by omega)]
    exact if_pos (by omega)
  unfold regRow
  rw [hrows]
  unfold regRowsMB MB_i_CNT
  simp (disch := omega) only [findRow_between, findRow_at]

theorem readBlock_mbCnt {i : Nat} (h : i < 16) (s : State) : readBlock .host (MB_i_CNT i) s = s.readByType (MB_i_CNT i) := by
  have ha : MB_i_CNT i = 0x20003F0010 + i * 0x20 := rfl
  have hhides : hostHides .host (0x30010 + i * 0x20) = false := by
    unfold hostHides
    rw [decide_eq_false (show ¬ 0x30010 + i * 0x20 < 0x24000 by omega), decide_eq_false (show ¬ 0x30200 ≤ 0x30010 + i * 0x20 by omega),
      decide_eq_false (show ¬ 0x33000 ≤ 0x30010 + i * 0x20 by omega)]
    simp
  have hmb : readMb .host (0x30010 + i * 0x20) s = s.readByType (mbRequest 0 + (0x30010 + i * 0x20)) := by
    unfold readMb
    rw [hhides, decide_eq_false (show ¬ 0x30010 + i * 0x20 < 0x20000 by omega)]
    simp only [Bool.and_false, Bool.false_and, Bool.or_false, Bool.false_eq_true, if_false]
    rw [if_neg (by omega), if_neg (by omega), if_neg (by omega), if_neg (by omega), if_neg (by omega)]
  have hlo : mbRequest 0 ≤ MB_i_CNT i := by simp only [mbRequest, MB_i_CNT]; omega
  have hhi : MB_i_CNT i < DBG_ID := by simp only [DBG_ID, MB_i_CNT]; omega
  have below (x : Nat) (hx : x < mbRequest 0) : ¬ MB_i_CNT i = x := fun e => absurd (hlo.trans_eq e) (Nat.not_le.2 hx)
  have above (x : Nat) (hx : DBG_ID ≤ x) : ¬ MB_i_CNT i = x := fun e => absurd (hhi.trans_le hx) (Nat.not_lt.2 (Nat.le_of_eq e.symm))
  unfold Machine.readBlock
  rw [if_neg (below SX_FRAME_LO (by decide)), if_neg (above AN_START_LO (by decide)), if_neg (above SF_UPD_LO (by decide)),
    if_neg (above NET_TIME_NS (by decide)), if_neg, if_neg (below SX_BLOCK_LO (by decide)), if_neg (not_below SX_ID (by decide) hlo), if_neg,
    if_neg, if_neg (not_below MC_ID (by decide) hlo), if_neg (not_below FL_ID (by decide) hlo), if_neg (not_below (mbRequest 0) (by decide) hlo),
    if_pos hhi, show MB_i_CNT i - mbRequest 0 = 0x30010 + i * 0x20 by simp only [mbRequest, MB_i_CNT]; omega, hmb,
    show mbRequest 0 + (0x30010 + i * 0x20) = MB_i_CNT i by simp only [mbRequest, MB_i_CNT]; omega]
  · exact fun e => absurd e.2 (not_below MC_ID (by decide) hlo)
  · exact fun e => absurd e.2 (not_below (SX_ID + 0x5A000) (by decide) hlo)
  · rintro (e | e | e | e | e)
    · exact below SX_FRAME_HI (by decide) e
    · exact above AN_START_HI (by decide) e
    · exact above SF_UPD_HI (by decide) e
    · exact above NET_TIME_S_LO (by decide) e
    · exact above NET_TIME_S_HI (by decide) e

theorem doRcRead_mbCnt {i : Nat} (hi : i < 16) (ha : a = MB_i_CNT i) : OnlyRegs [MB_i_CNT i] { s with dev := (doRcRead .host a s).dev } (doRcRead .host a s) ∧
    (doRcRead .host a s).dev.lastRead = s.reg (MB_i_CNT i) ∧ (doRcRead .host a s).fld (MB_i_CNT i) MB_i_CNT_RINGS = 0 ∧
    (doRcRead .host a s).fld (MB_i_CNT i) MB_i_CNT_ABORT_CNT = 0 := by
  have hval : MB_i_CNT i = 0x20003F0010 + i * 0x20 := rfl
  have hword : a / 4 * 4 = MB_i_CNT i := by omega
  have hhigh : 0x2000000000 ≤ MB_i_CNT i := by omega
  have hreach : hostReach .host a = true := by
    unfold hostReach mbRequest DBG_ID
    rw [decide_eq_true (show 0x20003C0000 + 0x2000 * 0 ≤ a by omega), decide_eq_true (show a < 0x2000400000 by omega), Bool.and_self, Bool.or_true]
  have hctl : isControl (MB_i_CNT i) = true := by
    unfold isControl
    rw [decide_eq_true hhigh, decide_eq_true (show MB_i_CNT i < 0x200046E000 by omega)]
    rfl
  have hoff : blockOff s (MB_i_CNT i) = false :=
    blockOff_on (by simp only [SX_ID]; omega) (.inl (by simp only [DRV_ID]; omega)) (.inl (by simp only [SEC_ID]; omega))
  have hread : regRead .host (MB_i_CNT i) s = s.readByType (MB_i_CNT i) := (regRead_block hhigh).trans (readBlock_mbCnt hi s)
  have hrow := regRow_MB_i_CNT (Nat.lt_trans hi (by decide : 16 < 18))
  rw [doRcRead_control hreach (by rw [hword]; exact hctl) (by rw [hword]; omega) (by rw [hword]; exact hoff), hword, hread]
  unfold State.readByType
  rw [hrow]
  dsimp only
  have hclear (f : Fld) (hf : f.lo + f.w ≤ 24) : bits (clearRc [⟨0, 24, .rc⟩] (s.reg (MB_i_CNT i)).toNat % 2 ^ 32) f.lo f.w = 0 := by
    have hset : clearRc [⟨0, 24, .rc⟩] (s.reg (MB_i_CNT i)).toNat = setBits (s.reg (MB_i_CNT i)).toNat 0 24 0 := rfl
    have hz := bits_setBits_same (s.reg (MB_i_CNT i)).toNat 0 24 0
    rw [hset, Nat.mod_eq_of_lt (setBits_lt _ _ _ _ 32 (s.reg (MB_i_CNT i)).isLt (by decide))]
    rw [← Nat.zero_add f.lo, ← bits_bits _ _ _ _ _ hf, hz]
    unfold bits
    rw [Nat.zero_mod, Nat.zero_div, Nat.zero_mod]
  refine ⟨⟨rfl, fun b hb => reg_setReg_other _ _ _ _ (List.ne_of_not_mem_cons hb)⟩, rfl, ?_, ?_⟩
  · refine (fld_setReg_same _ _ _ _).trans ?_
    rw [BitVec.toNat_ofNat]
    exact hclear _ (by decide)
  · refine (fld_setReg_same _ _ _ _).trans ?_
    rw [BitVec.toNat_ofNat]
    exact hclear _ (by decide)

/-! ### LO halves -/

theorem loHalf_frame (hag : ag ≠ .host) : (doLoHalfRead ag 0 s).dev.lastRead = BitVec.ofNat 32 s.frame ∧ (doLoHalfRead ag 0 s).regs = s.regs ∧
    tget 0 (doLoHalfRead ag 0 s).captured SX_FRAME_HI = BitVec.ofNat 32 (s.frame / 2 ^ 32) := by
  have hread : regRead ag SX_FRAME_LO s = readLo (sxFrameLo s) [(SX_FRAME_HI, sxFrameHi s)] s := (regRead_block (by decide)).trans (if_pos rfl)
  have heq : doLoHalfRead ag 0 s = _ := doRcRead_control (a := SX_FRAME_LO) (hostReach_of_not_host hag _) (by decide) (by decide)
    (blockOff_on (by decide) (.inl (by decide)) (.inl (by decide)))
  rw [heq, show SX_FRAME_LO / 4 * 4 = SX_FRAME_LO by decide, hread]
  exact ⟨rfl, rfl, tget_tput_same ..⟩

theorem loHalf_anStart (hag : ag ≠ .host) : (doLoHalfRead ag 2 s).dev.lastRead = s.reg AN_START_LO ∧ (doLoHalfRead ag 2 s).regs = s.regs ∧
    tget 0 (doLoHalfRead ag 2 s).captured AN_START_HI = s.reg AN_START_HI := by
  have hread : regRead ag AN_START_LO s = readLo (s.reg AN_START_LO) [(AN_START_HI, s.reg AN_START_HI)] s :=
    (regRead_block (by decide)).trans ((if_neg (by decide)).trans (if_pos rfl))
  have heq : doLoHalfRead ag 2 s = _ := doRcRead_control (a := AN_START_LO) (hostReach_of_not_host hag _) (by decide) (by decide)
    (blockOff_on (by decide) (.inr (by decide)) (.inl (by decide)))
  rw [heq, show AN_START_LO / 4 * 4 = AN_START_LO by decide, hread]
  exact ⟨rfl, rfl, tget_tput_same ..⟩

/-! ### The debug access port (R410 to R414) -/

variable {wr nse : Bool}

theorem doDapAccess_denied (h : dapMay s (a / 4 * 4) v wr nse = false) : doDapAccess a v wr nse s =
    { s.setFld DBG_ERR DBG_ERR_DENIED 1 with dev := { s.dev with dapStatus := 2, dapData := 0 } } := by
  unfold doDapAccess
  dsimp only
  rw [h]
  rfl

theorem Plain.not_doorbell (h : Plain a) : ¬ (0x3000000000 ≤ a ∧ a < 0x3010000000) := by
  have hhi : a < 0x2000468000 := h.hi
  omega

theorem doDapAccess_writes (h : dapMay s (a / 4 * 4) v true nse = true) (hp : Plain (a / 4 * 4)) : doDapAccess a v true nse s =
    { s.writeByType (a / 4 * 4) v with dev := { s.dev with dapStatus := 0, dapData := 0 } } := by
  have hdev : (s.writeByType (a / 4 * 4) v).dev = s.dev := (congrArg State.dev (writeByType_rest s _ v) :)
  unfold doDapAccess
  dsimp only
  rw [h, hp.busWrite, if_neg (by decide), if_pos rfl, if_neg hp.not_doorbell]
  unfold dapEnd State.mapDev
  rw [hdev]
  rfl

theorem doDapAccess_reads (h : dapMay s (a / 4 * 4) v false true = true) (hp : Plain (a / 4 * 4)) :
    (doDapAccess a v false true s).dev = { s.dev with dapStatus := 0, dapData := (s.readByType (a / 4 * 4)).1.toNat } ∧
    (doDapAccess a v false true s).regs = s.regs ∧ (doDapAccess a v false true s).mem = s.mem := by
  obtain ⟨k, hk⟩ := busRead_silent (ag := .dap) hp.isControl ((by decide : 0x1000000000 ≤ 0x2000000000).trans hp.high) hp.aligned (hp.blockOff s)
  rw [regRead_block hp.high, hp.readBlock] at hk
  unfold doDapAccess
  dsimp only
  rw [h, hk, if_neg (by decide), if_neg (by decide)]
  unfold okFetch dapEnd State.mapDev
  dsimp only
  rw [leNat_word]
  exact ⟨rfl, rfl, rfl⟩

theorem doDapAccess_doorbell (h : dapMay s (a / 4 * 4) v true nse = true) (hlo : 0x3000000000 ≤ a) (hhi : a < 0x3010000000) :
    (doDapAccess a v true nse s).dev.dapStatus = 2 ∧ (doDapAccess a v true nse s).fld DBG_ERR DBG_ERR_DENIED = 1 := by
  unfold doDapAccess
  dsimp only
  rw [h, if_neg (by decide), if_pos rfl, if_pos (by omega)]
  exact ⟨rfl, fld_setFld_of_lt _ _ _ _ (by decide) (by decide)⟩

/-! ### Outbound time-outs (R447) -/

theorem doOutboundTimeout_elsewhere (h : a < 0x4000000000 ∨ 0x5000000000 ≤ a) : doOutboundTimeout ag a wr s = s := by
  unfold doOutboundTimeout
  exact if_pos h

theorem doOutboundTimeout_store (hlo : 0x4000000000 ≤ a) (hhi : a < 0x5000000000) : doOutboundTimeout .store a wr s = logFabric 29 3 wr a s := by
  unfold doOutboundTimeout
  exact (if_neg (by omega)).trans rfl

theorem dmaState_setDmaState_trunk (s : State) : dmaState (setDmaState 12 0 6 s) 12 0 = 6 := by
  have heq : dmaState (setDmaState 12 0 6 s) 12 0 = ((s.setFld (dmaStat 12 0) DMA_t_CH_c_STAT_STATE 6).setFld TDMA_BUSY_LO ⟨0, 1⟩ 1).fld
      (dmaStat 12 0) DMA_t_CH_c_STAT_STATE := rfl
  rw [heq, fld_setFld_other _ _ _ _ _ _ (by decide)]
  exact fld_setFld_of_lt _ _ _ _ (by decide) (by decide)

theorem doOutboundTimeout_trunk (hlo : 0x4000000000 ≤ a) (hhi : a < 0x5000000000) (hst : dmaState s 12 0 = 2)
    (hsrc : dSrc (s.dmaOf 12 0) / 2 ^ 32 = a / 2 ^ 32) : dmaState (doOutboundTimeout .trunk a wr s) 12 0 = 6 := by
  have hfind : (List.range (dmaChannels 12)).find? (fun c => (dmaState s 12 c = 2 || dmaState s 12 c = 5) &&
      (dSrc (s.dmaOf 12 c) / 2 ^ 32 = a / 2 ^ 32 || dDst (s.dmaOf 12 c) / 2 ^ 32 = a / 2 ^ 32)) = some 0 := by
    have hrange : List.range (dmaChannels 12) = 0 :: (List.range 63).map Nat.succ := List.range_succ_eq_map
    rw [hrange]
    refine List.find?_cons_of_pos ?_
    rw [hst, hsrc, decide_eq_true rfl, decide_eq_true rfl]
    rfl
  unfold doOutboundTimeout
  dsimp only
  rw [if_neg (by omega), hfind]
  exact dmaState_setDmaState_trunk _

theorem ioUnitReady_sets {q : Nat} (h : (s.proc q).waitEv = none) : OnlyProc q s (doIoUnitReady q s) ∧ bits (((doIoUnitReady q s).proc q).sp 12) 4 1 = 1 := by
  have heq : doIoUnitReady q s = _ := evSet_eq (b := 4) h
  refine ⟨?_, evSet_sets h⟩
  rw [heq]
  exact ⟨rfl, fun p hp => proc_setProc_other _ _ hp⟩

end Sys2Proof.Machine
end

section

/-! SUPPORT. Freezing and stepping of the signal cores (R416 to R418): O59. -/

namespace Sys2Proof.Machine
open R

variable {n : Nat} {s t : State}

theorem doFreeze_idle (h : (s.core n).st = 0 ∨ (s.core n).st = 1 ∨ (s.core n).st = 5 ∨ (s.core n).st = 6) : doFreeze n s = s := by
  unfold doFreeze
  refine if_pos ?_
  simp only [Bool.or_eq_true, decide_eq_true_eq, or_assoc]
  exact h

theorem doFreeze_requests (h : (s.core n).st = 2 ∨ (s.core n).st = 3 ∨ (s.core n).st = 4 ∨ (s.core n).st = 7) :
    doFreeze n s = s.setCore n { s.core n with freezeReq := true } := by
  unfold doFreeze
  refine if_neg ?_
  simp only [Bool.or_eq_true, decide_eq_true_eq, or_assoc]
  omega

/-- A freeze of a core with no store on its way. -/
theorem freezeNow_plain (h : (s.core n).stores = []) : freezeNow n false s =
    s.setCore n { s.core n with stores := [], frozenFrom := (s.core n).st, st := 6, freezeReq := false, stepping := false } := by
  unfold freezeNow
  dsimp only
  rw [if_neg (by decide), if_neg (by decide), h]
  rfl

theorem doFreezeTaken_waits (h : (s.core n).freezeReq = false ∨ (s.core n).st = 6) : doFreezeTaken n s = s := by
  unfold doFreezeTaken
  refine if_neg ?_
  rcases h with h | h <;> simp [h]

theorem doFreezeTaken_freezes (hreq : (s.core n).freezeReq = true) (hst : (s.core n).st ≠ 6) (hhold : (s.core n).hold = [])
    (hwait : (s.core n).waitLock = false) (hlock : holdsLock s n = false) : doFreezeTaken n s = freezeNow n (s.core n).stepping s := by
  unfold doFreezeTaken
  refine if_pos ?_
  simp [hreq, hst, hhold, hwait, hlock]

theorem doFreezeLockBreak_idle (h : (s.core n).freezeReq = false ∨ holdsLock s n = false) : doFreezeLockBreak n s = s := by
  unfold doFreezeLockBreak
  refine if_neg ?_
  rcases h with h | h <;> simp [h]

theorem doFreezeLockBreak_breaks (hreq : (s.core n).freezeReq = true) (hlock : holdsLock s n = true) (hhold : (s.core n).hold = []) :
    doFreezeLockBreak n s = freezeNow n (s.core n).stepping (dropLock n s) := by
  unfold doFreezeLockBreak
  exact if_pos (by simp [hreq, hlock, hhold])

/-- What a broken lock leaves. -/
theorem dropLock_drops (h : holdsLock s n = true) : holdsLock (dropLock n s) n = false ∧ (dropLock n s).mem = s.mem ∧
    (∀ m, m ≠ n → (dropLock n s).core m = s.core m) ∧ ((dropLock n s).core n).stores = (s.core n).stores := by
  have hcores : (breakLock n s).cores = s.cores := by
    unfold breakLock State.incSat
    split <;> rfl
  have hcore (m : Nat) : (breakLock n s).core m = s.core m := core_of_cores_eq hcores m
  have hstores (c : Core) : (c.raise fLockBroken).stores = c.stores := by
    unfold Core.raise
    dsimp only
    rw [if_neg (by rintro ⟨h, -⟩; exact absurd h (by decide))]
    unfold Core.setCtl Core.put
    split <;> rfl
  have hfree : (breakLock n s).fld (TL_t_LOCK (n / 4)) TL_t_LOCK_HELD = 0 :=
    (fld_incSat_ne _ _ _ _ (by decide) (by decide)).trans (fld_setFld_of_lt _ _ _ _ (by decide) (by decide))
  rw [dropLock_of_held h]
  refine ⟨?_, incSat_mem .., fun m hm => (core_setCore_other _ _ hm).trans (hcore m), ?_⟩
  · have hno : lockHeld (breakLock n s) (n / 4) = false := (flag_eq_false_iff _ _ _).2 hfree
    show (lockHeld (breakLock n s) (n / 4) && _) = false
    rw [hno, Bool.false_and]
  · rw [State.mapCore, core_setCore_same, hcore]
    exact hstores _

/-! ### One bundle from FROZEN -/

theorem doBstep_idle (h : (s.core n).st ≠ 6 ∨ (s.core n).frozenFrom ≠ 2) : doBstep n s = s := by
  unfold doBstep
  refine if_neg ?_
  rcases h with h | h <;> simp [h]

theorem runBundle_al0_step (n : Nat) (s : State) (o : AluOp) : runBundle n true (al0Bundle o) s = runBundle n false (al0Bundle o) s := rfl

/-- A record of a hit touches registers alone. -/
theorem recordHit_cores (n cause action pc addr : Nat) (s : State) : (recordHit n cause action pc addr s).cores = s.cores ∧
    (recordHit n cause action pc addr s).mem = s.mem := by
  unfold recordHit
  split
  · exact ⟨rfl, rfl⟩
  · rw [setFlds_rest]
    exact ⟨rfl, rfl⟩

/-- A stepped core that holds no lock and has no store on its way is frozen again. -/
theorem freezeNow_step (hlock : holdsLock s n = false) (hstores : (s.core n).stores = []) :
    ((freezeNow n true s).core n) = { s.core n with stores := [], frozenFrom := (s.core n).st, st := 6, freezeReq := false, stepping := false } ∧
      (freezeNow n true s).mem = s.mem := by
  have hdrop : (if true = true then dropLock n s else s) = s := by
    unfold dropLock
    rw [hlock]
    rfl
  obtain ⟨hcores, hmem⟩ := recordHit_cores n 7 0 (s.core n).pc 0
    (s.setCore n { s.core n with stores := [], frozenFrom := (s.core n).st, st := 6, freezeReq := false, stepping := false })
  unfold freezeNow
  dsimp only
  rw [hdrop, hstores, if_pos rfl]
  exact ⟨(core_of_cores_eq hcores n).trans (core_setCore_same ..), hmem⟩

theorem doBstep_steps {o : AluOp} (hst : (s.core n).st = 6) (hfrom : (s.core n).frozenFrom = 2) (hon : coreOn s n = true) (hgap : (s.core n).gap = .none)
    (hflight : (s.core n).flight = []) (hstores : (s.core n).stores = []) (hwait : (s.core n).waitLock = false) (hpc : (s.core n).pc < 4096)
    (hrep : (s.core n).repLeft = 0) (hbr : (s.core n).br = none) (hloop : (s.core n).sfld sLoopact = 0) (hlock : lockHeld s (n / 4) = false)
    (hmarks : fetchMarks s n (s.core n).pc = [0, 0, 0, 0]) (hdec : decodeBundle (fetchBundle s n (s.core n).pc) = .ok (al0Bundle o))
    (hbp : ∀ k : Fin 4, s.flag (DBG_SC_n_BP_k n k) DBG_SC_n_BP_k_EN = false) :
    ((doBstep n s).core n).st = 6 ∧ ((doBstep n s).core n).pc = (s.core n).pc + 1 ∧ ((doBstep n s).core n).r = (s.core n).r ∧
      ((doBstep n s).core n).flight = (aluResults (s.core n) o).map (mkFlight (s.core n).cyc 4 (s.core n).pc) ∧ (doBstep n s).mem = s.mem := by
  let c : Core := { s.core n with st := 2, frozenFrom := 0, freezeReq := true }
  let u := ((s.setCore n c).setCore n c).setCore n c
  have hcore : u.core n = c := core_setCore_same ..
  have hnolock (z : State) (h : z.regs = s.regs) : holdsLock z n = false := by
    have hheld : lockHeld z (n / 4) = false := (flag_of_reg_eq (reg_of_regs_eq h _) _).trans hlock
    unfold holdsLock
    rw [hheld, Bool.false_and]
  have hland : land n (s.core n).cyc (s.setCore n c) = (u, none) := by
    have h := land_nothing (n := n) (s := s.setCore n c) (by rw [core_setCore_same]; exact hflight) (by rw [core_setCore_same]; exact hstores)
      (s.core n).cyc
    rwa [core_setCore_same] at h
  have hissue : issueBundle n true true u = u.setCore n (issued c ((aluResults c o).map (mkFlight c.cyc 4 c.pc))) := by
    rw [issueBundle_runs (b := al0Bundle o) (by rw [hcore]; exact hpc) (by rw [hcore]; exact hmarks) (by rw [hcore]; exact hdec)
      (fun _ => bundleFault_al0 ..) rfl, runBundle_al0_step]
    have h := runBundle_al0 (n := n) (s := u) o (by rw [hcore]; exact hrep) (by rw [hcore]; exact hbr) (by rw [hcore]; exact hloop)
      (hnolock u rfl) hbp
    rwa [hcore] at h
  obtain ⟨d, hd⟩ : ∃ d, d = issued c ((aluResults c o).map (mkFlight c.cyc 4 c.pc)) := ⟨_, rfl⟩
  obtain ⟨z, hz⟩ : ∃ z, z = u.setCore n d := ⟨_, rfl⟩
  have hzcore : z.core n = d := by rw [hz, core_setCore_same]
  have hzstores : (z.core n).stores = [] := by
    rw [hzcore, hd]
    show (s.core n).stores ++ [] = []
    rw [hstores]
    rfl
  have hstep : doBstep n s = freezeNow n true z := by
    unfold doBstep
    dsimp only
    rw [hst, hfrom, hon, if_pos (by rfl), hland]
    dsimp only
    rw [hlock]
    refine (congrArg (fun y : State => let c1 := y.core n
      if c1.waitLock then y.setCore n { c1 with waitLock := false, st := 6, frozenFrom := 2, freezeReq := false }
      else if c1.hold.isEmpty then (match c1.gap with | .fault _ _ _ _ => y | _ => freezeNow n true y)
      else y.setCore n { c1 with freezeReq := true, stepping := true }) (hissue.trans (by rw [hz, hd]) : _ = z)).trans ?_
    dsimp only
    rw [hzcore, hd]
    have hw : (issued c ((aluResults c o).map (mkFlight c.cyc 4 c.pc))).waitLock = false := hwait
    have hg : (issued c ((aluResults c o).map (mkFlight c.cyc 4 c.pc))).gap = .none := hgap
    rw [hw, hg]
    rfl
  obtain ⟨hfinal, hmem⟩ := freezeNow_step (hnolock z (by rw [hz]; rfl)) hzstores
  rw [hstep, hfinal, hmem, hzcore, hd, hz]
  refine ⟨rfl, rfl, rfl, ?_, rfl⟩
  show (s.core n).flight ++ _ = _
  rw [hflight]
  rfl

end Sys2Proof.Machine
end

section

/-! SUPPORT. Halting, resuming and stepping of Clove and Sumac (R315, R420): O59. -/

namespace Sys2Proof.Machine
open R

variable {ag : Agent} {b : Nat} {s t y : State}

/-! ### DBG_CV_CTL -/

theorem cvDbgBit_bits (s : State) (h1 : 1 ≤ b) (h3 : b ≤ 3) : bits (cvDbgBit s b).toNat 0 1 = s.fld DBG_CV_CTL DBG_CV_CTL_HOLD ∧
    bits (cvDbgBit s b).toNat 1 1 = b2n (b = 1) ∧ bits (cvDbgBit s b).toNat 2 1 = b2n (b = 2) ∧ bits (cvDbgBit s b).toNat 3 1 = b2n (b = 3) := by
  have hhold : s.fld DBG_CV_CTL DBG_CV_CTL_HOLD < 2 := fld_lt s DBG_CV_CTL DBG_CV_CTL_HOLD
  unfold cvDbgBit
  generalize s.fld DBG_CV_CTL DBG_CV_CTL_HOLD = h at hhold ⊢
  obtain rfl | rfl : h = 0 ∨ h = 1 := by omega
  all_goals
    obtain rfl | rfl | rfl : b = 1 ∨ b = 2 ∨ b = 3 := by omega
    all_goals decide

/-- DBG_CV_CTL after a write of one command bit. -/
def cvDbgWritten (b : Nat) (s : State) : State := s.writeByType DBG_CV_CTL (cvDbgBit s b)

theorem cvDbgWritten_reg {a : Nat} (b : Nat) (s : State) (h : a ≠ DBG_CV_CTL) : (cvDbgWritten b s).reg a = s.reg a := reg_writeByType_other _ _ _ _ h

theorem cvDbgWritten_proc (b : Nat) (s : State) (p : Nat) : (cvDbgWritten b s).proc p = s.proc p := writeByType_proc ..

theorem cvDbgWritten_ctl (b : Nat) (s : State) : (cvDbgWritten b s).ctl = s.ctl := (congrArg State.ctl (writeByType_rest s DBG_CV_CTL (cvDbgBit s b)) :)

theorem cvDbgWritten_hold (s : State) (h1 : 1 ≤ b) (h3 : b ≤ 3) :
    (cvDbgWritten b s).fld DBG_CV_CTL DBG_CV_CTL_HOLD = s.fld DBG_CV_CTL DBG_CV_CTL_HOLD :=
  (fld_writeByType s DBG_CV_CTL (cvDbgBit s b) DBG_CV_CTL_HOLD .rw (fs := [⟨0, 1, .rw⟩, ⟨1, 3, .wo⟩]) (by decide) (by decide) (by decide)).trans
    (cvDbgBit_bits s h1 h3).1

theorem cvDbgWritten_st (b : Nat) (s : State) : procSt (cvDbgWritten b s) 96 = procSt s 96 := fld_of_reg_eq (cvDbgWritten_reg b s (by decide)) _

theorem doCloveDebugHalt_eq (hag : ag = .clove ∨ ag = .dap) (s : State) : doCloveDebugHalt ag s = cloveHalt (cvDbgWritten 1 s) := by
  obtain ⟨-, h1, h2, h3⟩ := cvDbgBit_bits s (b := 1) (by decide) (by decide)
  unfold doCloveDebugHalt writeCvDbg
  rw [cloveOrDap_of hag, h1, h2, h3]
  rfl

theorem doCloveDebugStep_eq (hag : ag = .clove ∨ ag = .dap) (s : State) : doCloveDebugStep ag s = stepProc clove (cvDbgWritten 2 s) := by
  obtain ⟨-, h1, h2, h3⟩ := cvDbgBit_bits s (b := 2) (by decide) (by decide)
  unfold doCloveDebugStep writeCvDbg
  rw [cloveOrDap_of hag, h1, h2, h3]
  rfl

theorem doResume_eq (hag : ag = .clove ∨ ag = .dap) (s : State) : doResume ag s = cloveResume (cvDbgWritten 3 s) := by
  obtain ⟨-, h1, h2, h3⟩ := cvDbgBit_bits s (b := 3) (by decide) (by decide)
  unfold doResume writeCvDbg
  rw [cloveOrDap_of hag, h1, h2, h3]
  rfl

theorem not_mayDebug (h : ¬ (ag = .clove ∨ ag = .dap)) (q : Nat) (s : State) :
    doCloveDebugHalt ag s = s ∧ doCloveDebugStep ag s = s ∧ doResume ag s = s ∧ doSumacDebugStep ag q s = s := by
  have hno := cloveOrDap_of_not h
  unfold doCloveDebugHalt doCloveDebugStep doResume doSumacDebugStep writeCvDbg writeSuStep
  rw [hno]
  exact ⟨rfl, rfl, rfl, rfl⟩

/-! ### Boundaries -/

theorem atBoundary_of_eq {p : Nat} (hproc : (t.proc p).win = (s.proc p).win ∧ (t.proc p).u = (s.proc p).u ∧ (t.proc p).waitEv = (s.proc p).waitEv)
    (hctl : t.ctl = s.ctl) : atBoundary t p = atBoundary s p := by
  obtain ⟨h1, h2, h3⟩ := hproc
  unfold atBoundary
  rw [h1, h2, h3, hctl]

/-- A halt that waits is taken at a boundary. -/
theorem boundary_halts {p : Nat} (hst : procSt s p = 1) (hb : atBoundary s p = true) (hreq : ((s.proc p).haltReq || (s.proc p).stepping) = true) :
    boundary p s = setProcSt (s.mapProc p (fun c => { c with haltReq := false, stepping := false })) p 3 := by
  unfold boundary
  rw [if_neg (by rintro (e | e); exacts [e hst, e hb]), if_pos hreq]

theorem boundary_not_running {p : Nat} (h : procSt s p ≠ 1) : boundary p s = s := by
  unfold boundary
  exact if_pos (.inl h)

/-- Clove, running, with a halt requested through DBG_CV_CTL. -/
def cloveHaltAsked (s : State) : State := (cvDbgWritten 1 s).mapProc 96 (fun c => { c with haltReq := true })

theorem cloveHaltAsked_proc (s : State) : (cloveHaltAsked s).proc 96 = { s.proc 96 with haltReq := true } := by
  rw [← cvDbgWritten_proc 1 s 96]
  exact proc_setProc_same ..

theorem cloveHaltAsked_st (s : State) : procSt (cloveHaltAsked s) 96 = procSt s 96 := cvDbgWritten_st 1 s

theorem cloveHaltAsked_atBoundary (s : State) : atBoundary (cloveHaltAsked s) 96 = atBoundary s 96 :=
  atBoundary_of_eq (by rw [cloveHaltAsked_proc]; exact ⟨rfl, rfl, rfl⟩) (cvDbgWritten_ctl 1 s)

theorem doCloveDebugHalt_running (hag : ag = .clove ∨ ag = .dap) (hst : procSt s 96 = 1) :
    doCloveDebugHalt ag s = boundary 96 (cloveHaltAsked s) := by
  rw [doCloveDebugHalt_eq hag]
  exact if_pos (.inl ((cvDbgWritten_st 1 s).trans hst))

theorem cloveHalt_at_boundary (hag : ag = .clove ∨ ag = .dap) (hst : procSt s 96 = 1) (hb : atBoundary s 96 = true) :
    procSt (doCloveDebugHalt ag s) 96 = 3 ∧ ((doCloveDebugHalt ag s).proc 96).pc = (s.proc 96).pc ∧
      (doCloveDebugHalt ag s).fld DBG_CV_CTL DBG_CV_CTL_HOLD = s.fld DBG_CV_CTL DBG_CV_CTL_HOLD := by
  have hhold : (cloveHaltAsked s).fld DBG_CV_CTL DBG_CV_CTL_HOLD = s.fld DBG_CV_CTL DBG_CV_CTL_HOLD := cvDbgWritten_hold s (by decide) (by decide)
  have huproc := cloveHaltAsked_proc s
  rw [doCloveDebugHalt_running hag hst, boundary_halts ((cloveHaltAsked_st s).trans hst) ((cloveHaltAsked_atBoundary s).trans hb) (by rw [huproc]; rfl)]
  generalize cloveHaltAsked s = u at huproc hhold
  have hproc : (u.mapProc 96 (fun c => { c with haltReq := false, stepping := false })).proc 96 =
      { u.proc 96 with haltReq := false, stepping := false } := proc_setProc_same ..
  refine ⟨procSt_setProcSt _ _ (by decide), ?_, ?_⟩
  · exact (congrArg Cpu.pc hproc).trans (by rw [huproc])
  · exact (fld_setFld_other _ _ _ _ _ _ (by decide)).trans hhold

theorem cloveHalt_off_boundary (hag : ag = .clove ∨ ag = .dap) (hst : procSt s 96 = 1) (hb : atBoundary s 96 = false) :
    procSt (doCloveDebugHalt ag s) 96 = 1 ∧ ((doCloveDebugHalt ag s).proc 96).haltReq = true := by
  have hstay : boundary 96 (cloveHaltAsked s) = cloveHaltAsked s := by
    unfold boundary
    exact if_pos (.inr (by rw [cloveHaltAsked_atBoundary, hb]; decide))
  rw [doCloveDebugHalt_running hag hst, hstay, cloveHaltAsked_proc]
  exact ⟨(cloveHaltAsked_st s).trans hst, rfl⟩

/-- Clove set running through DBG_CV_CTL. -/
def cloveResumed (s : State) : State := setProcSt (cvDbgWritten 3 s) 96 1

theorem cloveResumed_proc (s : State) : (cloveResumed s).proc 96 = s.proc 96 := (proc_setFld ..).trans (cvDbgWritten_proc 3 s 96)

theorem cloveResumed_accepts (h : pres s 48 = 0) : cloveAccepts (cloveResumed s) = false := by
  have hpres : pres (cloveResumed s) 48 = 0 :=
    (pres_of_icPres_eq (congrArg State.icPres (writeByType_rest s DBG_CV_CTL (cvDbgBit s 3)) :) 48).trans h
  unfold cloveAccepts
  rw [hpres]
  simp

theorem cloveResumed_noSwap (h : s.fld MC_CV_STAT MC_CV_STAT_SWAP_PEND = 0) : dispatchSwap 96 (cloveResumed s) = cloveResumed s := by
  have hflag : (cloveResumed s).flag MC_CV_STAT MC_CV_STAT_SWAP_PEND = false :=
    (flag_eq_false_iff _ _ _).2 ((fld_setFld_other _ _ _ _ _ _ (by decide)).trans ((fld_of_reg_eq (cvDbgWritten_reg 3 s (by decide)) _).trans h))
  unfold dispatchSwap
  rw [hflag]
  exact if_neg fun e => absurd e.2 (by decide)

/-- Clove goes on, with nothing that waits for its boundary. -/
theorem resume_goes_on (hag : ag = .clove ∨ ag = .dap) (hst : procSt s 96 = 3) (hmchk : s.ctl.mchk = 0) (hpres : pres s 48 = 0)
    (hswap : s.fld MC_CV_STAT MC_CV_STAT_SWAP_PEND = 0) (hhalt : (s.proc 96).haltReq = false) (hstep : (s.proc 96).stepping = false) :
    procSt (doResume ag s) 96 = 1 ∧ (doResume ag s).proc 96 = s.proc 96 := by
  have hstay : boundary 96 (cloveResumed s) = cloveResumed s := by
    unfold boundary
    split
    · rfl
    · rw [cloveResumed_proc, hhalt, hstep, if_neg (by decide), cloveResumed_noSwap hswap]
      dsimp only
      refine if_neg fun e => ?_
      rw [show cloveAccepts (cloveResumed s) = false from cloveResumed_accepts hpres] at e
      exact absurd e.2 (by decide)
  have heq : doResume ag s = cloveResumed s := by
    rw [doResume_eq hag]
    unfold cloveResume
    refine (if_neg ?_).trans hstay
    rintro (e | e)
    · exact e ((cvDbgWritten_st 3 s).trans hst)
    · exact e (by rw [cvDbgWritten_ctl]; exact hmchk)
  rw [heq]
  exact ⟨procSt_setProcSt _ _ (by decide), cloveResumed_proc s⟩

/-! ### A step -/

/-- `y` is `s` with processor `p` started for one step, by a write of a debug register. -/
structure Stepped (p : Nat) (s y : State) : Prop where
  ctl : y.ctl = s.ctl
  mem : y.mem = s.mem
  reg : ∀ a, a ≠ procStat p → a ≠ DBG_CV_CTL → a ≠ DBG_SU_STEP → y.reg a = s.reg a
  proc : y.proc p = { s.proc p with stepping := true, haltReq := false }
  st : procSt y p = 1

namespace Stepped
variable {p : Nat}

theorem atBoundary (h : Stepped p s y) : Machine.atBoundary y p = Machine.atBoundary s p :=
  atBoundary_of_eq (by rw [h.proc]; exact ⟨rfl, rfl, rfl⟩) h.ctl

theorem dtEntry (h : Stepped p s y) (op : Nat) : Machine.dtEntry y p op = Machine.dtEntry s p op := by
  have hbank : y.fld MC_CV_STAT MC_CV_STAT_BANK = s.fld MC_CV_STAT MC_CV_STAT_BANK := by
    refine fld_of_reg_eq (h.reg _ ?_ (by decide) (by decide)) _
    unfold procStat
    split
    · decide
    · simp only [MC_CV_STAT, SU_c_p_STAT]
      omega
  unfold Machine.dtEntry dtActive activeBank ucodeGet
  rw [hbank, h.ctl]

theorem extFetch (h : Stepped 96 s y) (a : Nat) : Machine.extFetch y a = Machine.extFetch s a := by
  have hreg (c : Nat) (h1 : c ≠ CV_STAT) (h2 : c ≠ DBG_CV_CTL) (h3 : c ≠ DBG_SU_STEP) : y.reg c = s.reg c := h.reg c h1 h2 h3
  have haddr (u : Nat) : y.reg (CV_FPU_u_ADDR u) = s.reg (CV_FPU_u_ADDR u) :=
    hreg _ (by simp only [CV_FPU_u_ADDR, CV_STAT]; omega) (by simp only [CV_FPU_u_ADDR, DBG_CV_CTL]; omega)
      (by simp only [CV_FPU_u_ADDR, DBG_SU_STEP]; omega)
  have hdata (u : Nat) : y.reg (CV_FPU_u_DATA u) = s.reg (CV_FPU_u_DATA u) :=
    hreg _ (by simp only [CV_FPU_u_DATA, CV_STAT]; omega) (by simp only [CV_FPU_u_DATA, DBG_CV_CTL]; omega)
      (by simp only [CV_FPU_u_DATA, DBG_SU_STEP]; omega)
  have hrom : romMatch y a = romMatch s a := by
    have hmatch (m : Nat) (hm : m < 32) : y.reg (MC_ROMP_m_MATCH m) = s.reg (MC_ROMP_m_MATCH m) :=
      hreg _ (by simp only [MC_ROMP_m_MATCH, CV_STAT]; omega) (by simp only [MC_ROMP_m_MATCH, DBG_CV_CTL]; omega)
        (by simp only [MC_ROMP_m_MATCH, DBG_SU_STEP]; omega)
    unfold romMatch
    dsimp only
    refine congrArg List.head? (List.filterMap_congr fun m hm => ?_)
    have e := hmatch m (List.mem_range.1 hm)
    rw [flag_of_reg_eq e, fld_of_reg_eq e, fld_of_reg_eq e, fld_of_reg_eq e]
  have hunit : patchUnit y a = patchUnit s a := by
    unfold patchUnit
    refine congrArg List.head? (List.filterMap_congr fun u _ => ?_)
    rw [flag_of_reg_eq (haddr u), fld_of_reg_eq (haddr u), fld_of_reg_eq (hdata u)]
  have hread : extRead y a = extRead s a := by
    have hword : romWord y a = romWord s a := by
      unfold romWord
      rw [hrom]
      split
      · exact num_of_mem_eq h.mem _ _
      · rfl
    have hxip : xipWord y a = xipWord s a := by
      unfold xipWord xipWay
      rw [h.ctl]
    unfold extRead
    rw [hword, hxip, flag_of_reg_eq (hreg CV_CTL (by decide) (by decide) (by decide)), num_of_mem_eq h.mem]
  unfold Machine.extFetch
  rw [hunit, hread]

end Stepped

/-- What a step of NOP asks of a processor, whose state is the one before the step. -/
structure NopAhead (p : Nat) (s : State) : Prop where
  parity : parityOk (dtEntry s p 0) = true
  valid : dtValid (dtEntry s p 0) = true
  formed : dtForm (dtEntry s p 0) = 0
  low : dtIn (dtEntry s p 0) ≤ (s.proc p).os.length
  high : (s.proc p).os.length - dtIn (dtEntry s p 0) + dtOut (dtEntry s p 0) ≤ osCap p
  onClove : p = 96 → s.ctl.mchk = 0 ∧ s.ctl.inject = false ∧ s.fld MC_CV_STAT MC_CV_STAT_SWAP_PEND = 0 ∧
    (s.proc 96).pc < 2 ^ 24 ∧ ∃ i, i < 256 ∧ extFetch s (s.proc 96).pc = .word i
  onSumac : p ≠ 96 → (s.proc p).pc < 4096 ∧ s.byte (suProg p + (s.proc p).pc) = 0

section
variable {p : Nat}

theorem insLen_zero (p : Nat) : insLen p 0 = 1 := by
  unfold insLen
  split <;> rfl

/-- The instruction fetched is NOP. -/
theorem NopAhead.fetched (h : NopAhead p s) (hp : p ≤ 96) (hy : Stepped p s y) :
    ∃ imm, (if p = clove then cloveFetch y else sumacFetch y p) = .got 0 imm := by
  have hpc : (y.proc p).pc = (s.proc p).pc := by rw [hy.proc]
  by_cases h96 : p = 96
  · subst h96
    obtain ⟨-, -, -, -, i, hi, hword⟩ := h.onClove rfl
    have hop : i / 256 = 0 := by omega
    refine ⟨i % 256, ?_⟩
    have hform : ¬ dtForm (dtEntry y clove 0) = 2 := by
      rw [show dtEntry y clove 0 = dtEntry s 96 0 from hy.dtEntry 0, h.formed]
      decide
    rw [if_pos (by decide)]
    unfold cloveFetch
    dsimp only
    rw [show (y.proc clove).pc = (s.proc 96).pc from hpc, hy.extFetch, hword]
    dsimp only
    rw [hop, if_neg hform]
  · obtain ⟨hlt, hzero⟩ := h.onSumac h96
    refine ⟨0, ?_⟩
    have hb : (y.byte (suProg p + ((y.proc p).pc + 0))).toNat = 0 := by
      rw [hpc, byte_of_mem_eq hy.mem, Nat.add_zero, hzero]
      rfl
    have hform : dtForm (dtEntry y p 0) = 0 := by rw [hy.dtEntry, h.formed]
    rw [if_neg (show ¬ p = clove from h96)]
    unfold sumacFetch
    simp only [hb, hform, if_neg (show ¬ 4096 ≤ (y.proc p).pc by omega), if_true]

theorem NopAhead.fetchAt (h : NopAhead p s) (hy : Stepped p s y) : (Machine.fetchAt y p (y.proc p).pc 1).1 = 0 := by
  have hpc : (y.proc p).pc = (s.proc p).pc := by rw [hy.proc]
  rw [hpc]
  unfold Machine.fetchAt
  by_cases h96 : p = 96
  · subst h96
    obtain ⟨-, -, -, hlt, i, -, hword⟩ := h.onClove rfl
    rw [if_pos (by decide), Nat.mod_eq_of_lt hlt, hy.extFetch, hword]
    rfl
  · obtain ⟨hlt, -⟩ := h.onSumac h96
    rw [if_neg (show ¬ p = clove from h96), if_pos hlt]
    rfl

/-- NOP, dispatched in a step. -/
theorem NopAhead.dispatched (h : NopAhead p s) (hy : Stepped p s y) (imm : Nat) :
    ∃ n, insDispatch p 0 imm y = boundary p (counted p n (advanced p 0 y)) := by
  have hentry := hy.dtEntry 0
  have hos : (y.proc p).os = (s.proc p).os := by rw [hy.proc]
  have hgo : insGo p 0 imm (y.proc p).pc (Machine.dtEntry s p 0) y =
      boundary p (counted p (insCost p 0 (decide ((((advanced p 0 y).proc p).pc ≠ cpuNext p 0 y)))) (advanced p 0 y)) := by
    have hinject : ¬ (p = clove ∧ y.ctl.inject = true ∧ ((isaHas p 0 && decide (0 < 0xF0)) && writesStack 0) = true) := by
      rintro ⟨hp, he, -⟩
      rw [hy.ctl, (h.onClove hp).2.1] at he
      cases he
    have hrun : ¬ (p = clove ∧ y.ctl.mchk ≠ 0) := by
      rintro ⟨hp, he⟩
      rw [hy.ctl] at he
      exact he (h.onClove hp).1
    unfold insGo
    dsimp only
    rw [if_neg hinject, if_neg hrun, h.formed]
    rfl
  refine ⟨insCost p 0 (decide (((advanced p 0 y).proc p).pc ≠ cpuNext p 0 y)), ?_⟩
  unfold insDispatch
  dsimp only
  rw [hentry, h.formed, insLen_zero, h.fetchAt hy, if_neg (by decide), if_neg (by decide), h.parity, if_neg (by decide), h.valid, if_neg (by decide), hos,
    if_neg (Nat.not_lt.2 h.low), if_neg (Nat.not_lt.2 h.high)]
  exact hgo

theorem NopAhead.noSwap (h : NopAhead p s) (hy : Stepped p s y) : dispatchSwap p y = y := by
  unfold dispatchSwap
  refine if_neg ?_
  rintro ⟨hp, he⟩
  have hreg : y.reg MC_CV_STAT = s.reg MC_CV_STAT := by
    refine hy.reg _ ?_ (by decide) (by decide)
    rw [hp]
    decide
  rw [flag_of_reg_eq hreg, (flag_eq_false_iff _ _ _).2 (h.onClove hp).2.2.1] at he
  cases he

/-- One NOP from HALTED, and HALTED again. -/
theorem NopAhead.steps (h : NopAhead p s) (hp : p ≤ 96) (hy : Stepped p s y) (hb : Machine.atBoundary s p = true) :
    let t := boundary p (stepFetch p y)
    procSt t p = 3 ∧ (t.proc p).pc = cpuNext p 0 s ∧ (t.proc p).os = (s.proc p).os ∧ (t.proc p).rs = (s.proc p).rs ∧ t.mem = s.mem := by
  obtain ⟨imm, hfetch⟩ := h.fetched hp hy
  obtain ⟨n, hdisp⟩ := h.dispatched hy imm
  obtain ⟨z, hz⟩ : ∃ z, z = counted p n (advanced p 0 y) := ⟨_, rfl⟩
  have hzproc : z.proc p = { s.proc p with stepping := true, haltReq := false, pc := cpuNext p 0 y, cyc := (s.proc p).cyc + n } := by
    rw [hz, counted_proc, advanced_proc, hy.proc]
  have hnext : cpuNext p 0 y = cpuNext p 0 s := by
    unfold cpuNext
    rw [hy.proc]
  have hzst : procSt z p = 1 := by
    rw [hz]
    exact hy.st
  have hzb : Machine.atBoundary z p = true :=
    (atBoundary_of_eq (s := s) (by rw [hzproc]; exact ⟨rfl, rfl, rfl⟩) (by rw [hz]; exact hy.ctl)).trans hb
  have hhalt : boundary p z = setProcSt (z.mapProc p (fun c => { c with haltReq := false, stepping := false })) p 3 :=
    boundary_halts hzst hzb (by rw [hzproc]; rfl)
  have heq : boundary p (stepFetch p y) = setProcSt (z.mapProc p (fun c => { c with haltReq := false, stepping := false })) p 3 := by
    have hstep : stepFetch p y = boundary p z := by
      unfold stepFetch
      dsimp only
      rw [h.noSwap hy, hfetch]
      exact hdisp.trans (by rw [hz])
    rw [hstep, hhalt]
    exact boundary_not_running (by rw [procSt_setProcSt _ _ (by decide)]; decide)
  have hproc : (z.mapProc p (fun c => { c with haltReq := false, stepping := false })).proc p =
      { z.proc p with haltReq := false, stepping := false } := proc_setProc_same ..
  dsimp only
  rw [heq]
  refine ⟨procSt_setProcSt _ _ (by decide), ?_, ?_, ?_, ?_⟩
  · refine (congrArg Cpu.pc hproc).trans ?_
    rw [hzproc]
    exact hnext
  · refine (congrArg Cpu.os hproc).trans ?_
    rw [hzproc]
  · refine (congrArg Cpu.rs hproc).trans ?_
    rw [hzproc]
  · show z.mem = s.mem
    rw [hz]
    exact hy.mem

/-- The write of a debug register that starts a step. -/
theorem stepped_of_written {w : State} (hctl : w.ctl = s.ctl) (hmem : w.mem = s.mem)
    (hreg : ∀ a, a ≠ DBG_CV_CTL → a ≠ DBG_SU_STEP → w.reg a = s.reg a) (hproc : w.proc p = s.proc p) :
    Stepped p s (setProcSt (w.mapProc p (fun c => { c with stepping := true, haltReq := false })) p 1) where
  ctl := hctl
  mem := hmem
  reg a h1 h2 h3 := (reg_setFld_other _ _ _ _ _ h1).trans (hreg a h2 h3)
  proc := by
    rw [← hproc]
    exact proc_setProc_same ..
  st := procSt_setProcSt _ _ (by decide)

theorem procStat_ne_dbg (p : Nat) : procStat p ≠ DBG_CV_CTL ∧ procStat p ≠ DBG_SU_STEP := by
  unfold procStat
  split
  · decide
  · simp only [SU_c_p_STAT, DBG_CV_CTL, DBG_SU_STEP]
    omega

theorem stepProc_steps {w : State} (h : NopAhead p s) (hp : p ≤ 96) (hst : procSt s p = 3) (hb : Machine.atBoundary s p = true) (hctl : w.ctl = s.ctl)
    (hmem : w.mem = s.mem) (hreg : ∀ a, a ≠ DBG_CV_CTL → a ≠ DBG_SU_STEP → w.reg a = s.reg a) (hproc : w.proc p = s.proc p) :
    procSt (stepProc p w) p = 3 ∧ ((stepProc p w).proc p).pc = cpuNext p 0 s ∧ ((stepProc p w).proc p).os = (s.proc p).os ∧
      ((stepProc p w).proc p).rs = (s.proc p).rs ∧ (stepProc p w).mem = s.mem := by
  obtain ⟨hne1, hne2⟩ := procStat_ne_dbg p
  have hwst : procSt w p = 3 := (fld_of_reg_eq (hreg _ hne1 hne2) _).trans hst
  have hwb : Machine.atBoundary w p = true := (atBoundary_of_eq (by rw [hproc]; exact ⟨rfl, rfl, rfl⟩) hctl).trans hb
  have heq : stepProc p w = boundary p (stepFetch p (setProcSt (w.mapProc p (fun c => { c with stepping := true, haltReq := false })) p 1)) := by
    unfold stepProc
    refine if_neg ?_
    rintro (e | ⟨hc, e⟩ | e)
    · exact e hwst
    · rw [hctl] at e
      exact e (h.onClove hc).1
    · exact e hwb
  rw [heq]
  exact h.steps hp (stepped_of_written hctl hmem hreg hproc) hb

theorem cloveStep_nop (hag : ag = .clove ∨ ag = .dap) (h : NopAhead 96 s) (hst : procSt s 96 = 3) (hb : Machine.atBoundary s 96 = true) :
    procSt (doCloveDebugStep ag s) 96 = 3 ∧ ((doCloveDebugStep ag s).proc 96).pc = cpuNext 96 0 s ∧
      ((doCloveDebugStep ag s).proc 96).os = (s.proc 96).os ∧ ((doCloveDebugStep ag s).proc 96).rs = (s.proc 96).rs ∧
      (doCloveDebugStep ag s).mem = s.mem := by
  rw [doCloveDebugStep_eq hag]
  exact stepProc_steps h (by decide) hst hb (cvDbgWritten_ctl 2 s) (writeByType_mem ..) (fun a h1 _ => cvDbgWritten_reg 2 s h1) (cvDbgWritten_proc 2 s 96)

theorem sumacStep_nop {q : Nat} (hq : q < 96) (hag : ag = .clove ∨ ag = .dap) (h : NopAhead q s) (hst : procSt s q = 3)
    (hb : Machine.atBoundary s q = true) (hclk : procClock s q = true) :
    procSt (doSumacDebugStep ag q s) q = 3 ∧ ((doSumacDebugStep ag q s).proc q).pc = cpuNext q 0 s ∧
      ((doSumacDebugStep ag q s).proc q).os = (s.proc q).os ∧ ((doSumacDebugStep ag q s).proc q).rs = (s.proc q).rs ∧
      (doSumacDebugStep ag q s).mem = s.mem := by
  have hnat : (BitVec.ofNat 32 (2 ^ 31 + q)).toNat = 2 ^ 31 + q := Nat.mod_eq_of_lt (by omega)
  have hp : bits (BitVec.ofNat 32 (2 ^ 31 + q)).toNat 0 7 = q := by
    rw [hnat]
    unfold bits
    omega
  have hgo : bits (BitVec.ofNat 32 (2 ^ 31 + q)).toNat 31 1 = 1 := by
    rw [hnat]
    unfold bits
    omega
  have heq : doSumacDebugStep ag q s = stepProc q (s.writeByType DBG_SU_STEP (BitVec.ofNat 32 (2 ^ 31 + q))) := by
    unfold doSumacDebugStep writeSuStep
    dsimp only
    rw [cloveOrDap_of hag, hp, hgo, if_neg (by decide), if_pos ⟨rfl, hq, hclk⟩]
  rw [heq]
  exact stepProc_steps h (Nat.le_of_lt hq) hst hb (congrArg State.ctl (writeByType_rest s DBG_SU_STEP _) :) (writeByType_mem ..)
    (fun a _ h2 => reg_writeByType_other _ _ _ _ h2) (writeByType_proc ..)

end

end Sys2Proof.Machine
end

section

/-! SUPPORT. The virtual terminal, the readback window and Nutmeg (R421, R422, R424 to R427): O59. -/

namespace Sys2Proof.Machine
open R

variable {ag : Agent} {n u w : Nat} {v : Word} {s : State}

/-! ### The virtual terminal -/

theorem vtIn_ne_vtStat (u : Nat) : DBG_VT_t_IN u ≠ DBG_VT_t_STAT u := by
  simp only [DBG_VT_t_IN, DBG_VT_t_STAT]
  omega

theorem doVtOutRead_reads (u : Nat) (s : State) : OnlyRegs [DBG_VT_t_STAT u] { s with dev := (doVtOutRead u s).dev } (doVtOutRead u s) ∧
    (doVtOutRead u s).dev = { s.dev with lastRead := s.reg (DBG_VT_t_OUT u) } ∧ (doVtOutRead u s).fld (DBG_VT_t_STAT u) DBG_VT_t_STAT_OUT_FULL = 0 :=
  ⟨(onlyRegs_refl _ { s with dev := (doVtOutRead u s).dev }).setFld (List.mem_singleton_self _) _ _, rfl,
    fld_setFld_of_lt s (DBG_VT_t_STAT u) DBG_VT_t_STAT_OUT_FULL 0 (by decide) (by decide)⟩

theorem doVtInWrite_full (hag : ag = .clove ∨ ag = .dap) (h : s.fld (DBG_VT_t_STAT u) DBG_VT_t_STAT_IN_FULL = 1) :
    doVtInWrite ag u v s = s.setFld (DBG_VT_t_STAT u) DBG_VT_t_STAT_IN_OVF 1 := by
  unfold doVtInWrite
  rw [cloveOrDap_of hag, flag_eq_true_of_fld_eq_one _ _ _ h]
  rfl

theorem doVtInWrite_empty (hag : ag = .clove ∨ ag = .dap) (h : s.fld (DBG_VT_t_STAT u) DBG_VT_t_STAT_IN_FULL = 0) :
    doVtInWrite ag u v s = (s.setReg (DBG_VT_t_IN u) v).setFld (DBG_VT_t_STAT u) DBG_VT_t_STAT_IN_FULL 1 := by
  unfold doVtInWrite
  rw [cloveOrDap_of hag, (flag_eq_false_iff _ _ _).2 h]
  rfl

theorem doVtInWrite_stores (hag : ag = .clove ∨ ag = .dap) (h : s.fld (DBG_VT_t_STAT u) DBG_VT_t_STAT_IN_FULL = 0) :
    (doVtInWrite ag u v s).reg (DBG_VT_t_IN u) = v ∧ (doVtInWrite ag u v s).fld (DBG_VT_t_STAT u) DBG_VT_t_STAT_IN_FULL = 1 ∧
      OnlyRegs [DBG_VT_t_IN u, DBG_VT_t_STAT u] s (doVtInWrite ag u v s) := by
  rw [doVtInWrite_empty hag h]
  exact ⟨(reg_setFld_other _ _ _ _ _ (vtIn_ne_vtStat u)).trans (reg_setReg_same ..), fld_setFld_of_lt _ _ _ _ (by decide) (by decide),
    ((onlyRegs_refl _ s).setReg (by simp) _).setFld (by simp) _ _⟩

/-! ### Captures -/

theorem wordsFrom_cons (b x : Nat) (l : List Nat) : wordsFrom b (x :: l) = (b, x) :: wordsFrom (b + 1) l := by
  unfold wordsFrom
  rw [List.length_cons, List.range_succ_eq_map, List.zipWith_cons_cons, List.zipWith_map_left]
  refine congrArg ((b, x) :: ·) (congrArg (fun f => List.zipWith f (List.range l.length) l) ?_)
  funext i v
  exact Prod.ext (by dsimp only; omega) rfl

theorem le_of_mem_wordsFrom {b : Nat} {l : List Nat} {e : Nat × Nat} (h : e ∈ wordsFrom b l) : b ≤ e.1 := by
  induction l generalizing b with
  | nil => exact absurd h (by simp [wordsFrom])
  | cons x l ih =>
    rw [wordsFrom_cons] at h
    rcases List.mem_cons.1 h with rfl | h
    · exact Nat.le_refl _
    · have := ih h
      omega

/-- A table whose keys all lie above `k` does not hold `k`. -/
theorem tget_of_above {k : Nat} {l : List (Nat × Nat)} (h : ∀ e ∈ l, k < e.1) : tget 0 l k = 0 := by
  cases l with
  | nil => rfl
  | cons e l => exact if_pos (h e (by simp))

/-- The words of a window, those that are 0 left out. -/
theorem tget_window {b k : Nat} {l : List Nat} {rest : List (Nat × Nat)} (hrest : ∀ e ∈ rest, b + l.length ≤ e.1) (hk : k < l.length) :
    tget 0 ((wordsFrom b l ++ rest).filter (fun e => e.2 ≠ 0)) (b + k) = l[k] := by
  induction l generalizing b k with
  | nil => exact absurd hk (by simp)
  | cons x l ih =>
    rw [wordsFrom_cons, List.cons_append]
    have hrest' : ∀ e ∈ rest, b + 1 + l.length ≤ e.1 := fun e he => by
      have := hrest e he
      simp only [List.length_cons] at this
      omega
    have habove : ∀ e ∈ (wordsFrom (b + 1) l ++ rest).filter (fun e => e.2 ≠ 0), b < e.1 := fun e he => by
      rcases List.mem_append.1 (List.mem_filter.1 he).1 with h | h
      · exact le_of_mem_wordsFrom h
      · have := hrest' e h
        omega
    cases k with
    | zero =>
      by_cases hx : x = 0
      · rw [List.filter_cons_of_neg (by simp [hx])]
        exact (tget_of_above habove).trans hx.symm
      · rw [List.filter_cons_of_pos (by simp [hx])]
        exact (if_neg (by omega)).trans (if_pos rfl)
    | succ k =>
      have hstep := ih hrest' (k := k) (by simpa using hk)
      rw [show b + (k + 1) = b + 1 + k by omega]
      by_cases hx : x = 0
      · rw [List.filter_cons_of_neg (by simp [hx])]
        exact hstep
      · rw [List.filter_cons_of_pos (by simp [hx])]
        exact (if_neg (by omega)).trans ((if_neg (by omega)).trans hstep)

/-- The first 64 words of a core's window are its D registers. -/
theorem tget_winCore (s : State) (n : Nat) {k : Nat} (hk : k < 64) : tget 0 ((winCore s n).filter (fun e => e.2 ≠ 0)) k = (s.core n).d k := by
  unfold winCore
  dsimp only
  simp only [List.append_assoc]
  have h := fun rest hrest => tget_window (b := 0) (k := k) (l := (List.range 64).map (s.core n).d) (rest := rest) hrest (by simpa using hk)
  simp only [Nat.zero_add, List.getElem_map, List.getElem_range, List.length_map, List.length_range] at h
  refine h _ fun e he => ?_
  simp only [List.mem_append] at he
  rcases he with he | he | he | he | he | he | he
  · exact (le_of_mem_wordsFrom he)
  · exact (by decide : 64 ≤ 80).trans (le_of_mem_wordsFrom he)
  · exact (by decide : 64 ≤ 96).trans (le_of_mem_wordsFrom he)
  · rw [List.mem_singleton.1 he]
    exact (by decide : 64 ≤ 128)
  · exact (by decide : 64 ≤ 160).trans (le_of_mem_wordsFrom he)
  · rcases List.mem_cons.1 he with rfl | he
    · exact (by decide : 64 ≤ 192)
    · rw [List.mem_singleton.1 he]
      exact (by decide : 64 ≤ 193)
  · exact (by decide : 64 ≤ 256).trans (le_of_mem_wordsFrom he)

/-- The registers at a new selection, READY cleared. -/
def winChosen (v : Word) (s : State) : State := (s.writeByType DBG_WIN_SEL v).setFld DBG_WIN_STAT DBG_WIN_STAT_READY 0

theorem winChosen_sel (v : Word) (s : State) : (winChosen v s).fld DBG_WIN_SEL DBG_WIN_SEL_KIND = bits v.toNat 0 4 ∧
    (winChosen v s).fld DBG_WIN_SEL DBG_WIN_SEL_INST = bits v.toNat 16 12 := by
  have hne : DBG_WIN_SEL ≠ DBG_WIN_STAT := by decide
  have hrow : fieldsAt DBG_WIN_SEL = [⟨0, 4, .rw⟩, ⟨16, 12, .rw⟩] := by decide
  exact ⟨(fld_setFld_other _ _ _ _ _ _ hne).trans (fld_writeByType s DBG_WIN_SEL v DBG_WIN_SEL_KIND .rw hrow (by decide) (by decide)),
    (fld_setFld_other _ _ _ _ _ _ hne).trans (fld_writeByType s DBG_WIN_SEL v DBG_WIN_SEL_INST .rw hrow (by decide) (by decide))⟩

theorem winChosen_ready (v : Word) (s : State) : (winChosen v s).fld DBG_WIN_STAT DBG_WIN_STAT_READY = 0 :=
  fld_setFld_of_lt _ _ _ _ (by decide) (by decide)

/-- What WIN_SEL_WRITE leaves, with the capture `r`. -/
def winCaptured (r : Option (List (Nat × Nat))) (s : State) : State :=
  ((s.setFld DBG_WIN_STAT DBG_WIN_STAT_UNAVAIL (b2n r.isNone)).freeNext).mapDev (fun d =>
    { d with winDue := true, window := (r.getD []).filter (fun e => e.2 ≠ 0) })

theorem winCaptured_effect (r : Option (List (Nat × Nat))) (s : State) : (winCaptured r s).dev.winDue = true ∧
    (winCaptured r s).fld DBG_WIN_STAT DBG_WIN_STAT_READY = s.fld DBG_WIN_STAT DBG_WIN_STAT_READY ∧
    (winCaptured r s).fld DBG_WIN_STAT DBG_WIN_STAT_UNAVAIL = b2n r.isNone ∧
    (winCaptured r s).dev.window = (r.getD []).filter (fun e => e.2 ≠ 0) :=
  ⟨rfl, fld_setFld_ne s DBG_WIN_STAT DBG_WIN_STAT_UNAVAIL DBG_WIN_STAT_READY (b2n r.isNone) (by decide) (by decide),
    fld_setFld_of_lt s DBG_WIN_STAT DBG_WIN_STAT_UNAVAIL (b2n r.isNone) (by decide) (by cases r.isNone <;> decide), rfl⟩

theorem doWinSelWrite_core (hag : ag = .clove ∨ ag = .dap) (hkind : bits v.toNat 0 4 = 0) (hinst : bits v.toNat 16 12 = n) :
    doWinSelWrite ag v s = winCaptured (winSelect s 0 n) (winChosen v s) := by
  obtain ⟨h1, h2⟩ := winChosen_sel v s
  unfold doWinSelWrite
  dsimp only
  rw [cloveOrDap_of hag, if_neg (by decide)]
  show winCaptured (winSelect s ((winChosen v s).fld DBG_WIN_SEL DBG_WIN_SEL_KIND) ((winChosen v s).fld DBG_WIN_SEL DBG_WIN_SEL_INST)) (winChosen v s) = _
  rw [h1, h2, hkind, hinst]

theorem winSelect_core (h : n < 48) (hst : (s.core n).st = 1 ∨ (s.core n).st = 6) : winSelect s 0 n = some (winCore s n) := if_pos ⟨h, hst⟩

theorem winSelect_core_running (h1 : (s.core n).st ≠ 1) (h6 : (s.core n).st ≠ 6) : winSelect s 0 n = none :=
  if_neg fun e => e.2.elim h1 h6

theorem doWinSelWrite_captures (hn : n < 48) (hag : ag = .clove ∨ ag = .dap) (hkind : bits v.toNat 0 4 = 0) (hinst : bits v.toNat 16 12 = n) :
    let t := doWinSelWrite ag v s
    t.dev.winDue = true ∧ t.fld DBG_WIN_STAT DBG_WIN_STAT_READY = 0 ∧
      ((s.core n).st = 1 ∨ (s.core n).st = 6 → t.fld DBG_WIN_STAT DBG_WIN_STAT_UNAVAIL = 0 ∧
        ∀ k, k < 64 → tget 0 t.dev.window k = (s.core n).d k) ∧
      ((s.core n).st ≠ 1 → (s.core n).st ≠ 6 → t.fld DBG_WIN_STAT DBG_WIN_STAT_UNAVAIL = 1 ∧ t.dev.window = []) := by
  obtain ⟨hdue, hready, hun, hwin⟩ := winCaptured_effect (winSelect s 0 n) (winChosen v s)
  dsimp only
  rw [doWinSelWrite_core hag hkind hinst, hun, hwin]
  refine ⟨hdue, hready.trans (winChosen_ready v s), fun hst => ?_, fun h1 h6 => ?_⟩
  · rw [winSelect_core hn hst]
    exact ⟨rfl, fun k hk => tget_winCore s n hk⟩
  · rw [winSelect_core_running h1 h6]
    exact ⟨rfl, rfl⟩

theorem doWindowCaptureDone_idle (h : s.dev.winDue = false) : doWindowCaptureDone s = s := by
  unfold doWindowCaptureDone
  rw [h]
  rfl

theorem doWindowCaptureDone_ready (h : s.dev.winDue = true) : (doWindowCaptureDone s).fld DBG_WIN_STAT DBG_WIN_STAT_READY = 1 ∧
    (doWindowCaptureDone s).dev = { s.dev with winDue := false } := by
  unfold doWindowCaptureDone
  rw [if_pos h]
  exact ⟨fld_setFld_of_lt s DBG_WIN_STAT DBG_WIN_STAT_READY 1 (by decide) (by decide), rfl⟩

/-! ### Window writes -/

theorem doWindowWrite_refused (hag : ag = .clove ∨ ag = .dap)
    (h : winMay s (s.fld DBG_WIN_SEL DBG_WIN_SEL_KIND) = false ∨ 2 < s.fld DBG_WIN_SEL DBG_WIN_SEL_KIND) :
    doWindowWrite ag w v s = s.setFld DBG_ERR DBG_ERR_WIN_RO 1 := by
  have hno : (winMay s (s.fld DBG_WIN_SEL DBG_WIN_SEL_KIND) &&
      winWritable s (s.fld DBG_WIN_SEL DBG_WIN_SEL_KIND) (s.fld DBG_WIN_SEL DBG_WIN_SEL_INST) w) = false := by
    rcases h with h | h
    · rw [h, Bool.false_and]
    · generalize s.fld DBG_WIN_SEL DBG_WIN_SEL_KIND = k at h ⊢
      obtain ⟨j, rfl⟩ : ∃ j, k = j + 3 := ⟨k - 3, by omega⟩
      exact Bool.and_false _
  unfold doWindowWrite
  dsimp only
  rw [cloveOrDap_of hag, hno]
  rfl

/-- A write of one of the first 64 words of a halted core's window. -/
theorem doWindowWrite_core (hag : ag = .clove ∨ ag = .dap) (hn : n < 48) (hkind : s.fld DBG_WIN_SEL DBG_WIN_SEL_KIND = 0)
    (hinst : s.fld DBG_WIN_SEL DBG_WIN_SEL_INST = n) (hmay : winMay s 0 = true) (hst : (s.core n).st = 1) (hw : w < 64) :
    doWindowWrite ag w v s = s.setCore n ((s.core n).put w v.toNat) := by
  have hcan : winWritable s 0 n w = true := by
    unfold winWritable
    simp [hn, hst, show w ≤ 193 by omega]
  unfold doWindowWrite
  dsimp only
  rw [cloveOrDap_of hag, hkind, hinst, hmay, hcan, if_neg (by decide)]
  show winWriteCore n w v.toNat s = _
  exact congrArg (s.setCore n) (if_pos hw)

theorem doWindowWrite_writes (hag : ag = .clove ∨ ag = .dap) (hn : n < 48) (hkind : s.fld DBG_WIN_SEL DBG_WIN_SEL_KIND = 0)
    (hinst : s.fld DBG_WIN_SEL DBG_WIN_SEL_INST = n) (hmay : winMay s 0 = true) (hst : (s.core n).st = 1) (hw : w < 64) :
    let t := doWindowWrite ag w v s
    (t.core n).d w = v.toNat ∧ (∀ k, k ≠ w → (t.core n).get k = (s.core n).get k) ∧ (∀ m, m ≠ n → t.core m = s.core m) ∧ t.regs = s.regs := by
  dsimp only
  rw [doWindowWrite_core hag hn hkind hinst hmay hst hw, core_setCore_same]
  refine ⟨?_, fun k hk => get_put_other _ hk _, fun m hm => core_setCore_other _ _ hm, rfl⟩
  refine (get_put_same _ (by omega) _).trans ?_
  exact (if_pos hw).trans (Nat.mod_eq_of_lt v.isLt)

/-! ### Nutmeg -/

theorem doRearm_rearms (hag : ag = .clove ∨ ag = .dap) : OnlyRegs [BB_CTL, BB_STAT] s (doRearm ag s) ∧
    (doRearm ag s).fld BB_STAT BB_STAT_FROZEN = 0 ∧ (doRearm ag s).fld BB_STAT BB_STAT_ARMED = 1 ∧
    (doRearm ag s).fld BB_CTL BB_CTL_POST = s.fld BB_CTL BB_CTL_POST := by
  have hpost : s.fld BB_CTL BB_CTL_POST < 2 ^ 13 := fld_lt s BB_CTL BB_CTL_POST
  have hv : (BitVec.ofNat 32 (s.fld BB_CTL BB_CTL_POST + 2 ^ 16)).toNat = s.fld BB_CTL BB_CTL_POST + 2 ^ 16 := Nat.mod_eq_of_lt (by omega)
  have hbit : bits (BitVec.ofNat 32 (s.fld BB_CTL BB_CTL_POST + 2 ^ 16)).toNat 16 1 = 1 := by
    rw [hv]
    unfold bits
    omega
  have hlow : bits (BitVec.ofNat 32 (s.fld BB_CTL BB_CTL_POST + 2 ^ 16)).toNat 0 13 = s.fld BB_CTL BB_CTL_POST := by
    rw [hv]
    unfold bits
    omega
  have heq : doRearm ag s = (s.writeByType BB_CTL (BitVec.ofNat 32 (s.fld BB_CTL BB_CTL_POST + 2 ^ 16))).setFlds BB_STAT
      [(BB_STAT_FROZEN, 0), (BB_STAT_ARMED, 1)] := by
    unfold doRearm writeBbCtl
    dsimp only
    rw [cloveOrDap_of hag, if_neg (by decide), if_pos hbit]
  have hw := fld_writeByType s BB_CTL (BitVec.ofNat 32 (s.fld BB_CTL BB_CTL_POST + 2 ^ 16)) BB_CTL_POST .rw
    (fs := [⟨0, 13, .rw⟩, ⟨16, 1, .wo⟩]) (by decide) (by decide) (by decide)
  have hkeep := ((onlyRegs_refl [BB_CTL, BB_STAT] s).writeByType (a := BB_CTL) (by simp)
    (BitVec.ofNat 32 (s.fld BB_CTL BB_CTL_POST + 2 ^ 16)))
  rw [heq]
  generalize s.writeByType BB_CTL (BitVec.ofNat 32 (s.fld BB_CTL BB_CTL_POST + 2 ^ 16)) = x at hw hkeep ⊢
  refine ⟨hkeep.setFlds (by simp) _, ?_, fld_setFld_of_lt _ _ _ _ (by decide) (by decide), ?_⟩
  · exact (fld_setFld_ne _ _ _ _ _ (by decide) (by decide)).trans (fld_setFld_of_lt x BB_STAT BB_STAT_FROZEN 0 (by decide) (by decide))
  · exact (fld_setFlds_other _ _ _ _ _ (by decide)).trans (hw.trans hlow)

theorem doNutmegFreeze_freezes (h : s.bb.post = some 0) : (doNutmegFreeze s).bb = { s.bb with post := none } ∧
    (doNutmegFreeze s).fld BB_STAT BB_STAT_FROZEN = 1 := by
  unfold doNutmegFreeze
  rw [if_pos h]
  exact ⟨rfl, fld_setFld_of_lt _ BB_STAT BB_STAT_FROZEN 1 (by decide) (by decide)⟩

theorem bbAfter_seq (code : Nat) (q : Word) (s : State) : (bbAfter code q s).reg BB_SEQ = s.reg BB_SEQ ∧ (bbAfter code q s).mem = s.mem := by
  have hne : BB_SEQ ≠ BB_STAT := by decide
  unfold bbAfter
  split
  · split
    · exact ⟨reg_setFld_other _ _ _ _ _ hne, rfl⟩
    · exact ⟨rfl, rfl⟩
  · split
    · have h : ((s.setReg BB_TRIG_SEQ q).setFld BB_STAT BB_STAT_ARMED 0).reg BB_SEQ = s.reg BB_SEQ :=
        (reg_setFld_other _ _ _ _ _ hne).trans (reg_setReg_other _ _ _ _ (by decide))
      dsimp only
      split
      · exact ⟨(reg_setFld_other _ _ _ _ _ hne).trans h, rfl⟩
      · exact ⟨h, rfl⟩
    · exact ⟨rfl, rfl⟩

/-- A fatal record triggers while armed. -/
theorem bbAfter_triggers {code : Nat} (q : Word) (hpost : s.bb.post = none) (harmed : s.fld BB_STAT BB_STAT_ARMED = 1) (hfatal : 32768 ≤ code) :
    (bbAfter code q s).reg BB_TRIG_SEQ = q ∧ (bbAfter code q s).fld BB_STAT BB_STAT_ARMED = 0 := by
  have hgo : 32768 ≤ code ∧ s.flag BB_STAT BB_STAT_ARMED = true := ⟨hfatal, flag_eq_true_of_fld_eq_one _ _ _ harmed⟩
  have hseq : ((s.setReg BB_TRIG_SEQ q).setFld BB_STAT BB_STAT_ARMED 0).reg BB_TRIG_SEQ = q :=
    (reg_setFld_other _ _ _ _ _ (by decide)).trans (reg_setReg_same ..)
  have hclear : ((s.setReg BB_TRIG_SEQ q).setFld BB_STAT BB_STAT_ARMED 0).fld BB_STAT BB_STAT_ARMED = 0 :=
    fld_setFld_of_lt _ _ _ _ (by decide) (by decide)
  unfold bbAfter
  rw [hpost]
  dsimp only
  rw [if_pos hgo]
  split
  · exact ⟨(reg_setFld_other _ _ _ _ _ (by decide)).trans hseq, (fld_setFld_ne _ _ _ _ _ (by decide) (by decide)).trans hclear⟩
  · exact ⟨hseq, hclear⟩

theorem nutmeg_frozen (source code : Nat) (args : List Nat) (h : s.fld BB_STAT BB_STAT_FROZEN = 1) :
    (nutmeg source code args s).reg BB_SEQ = s.reg BB_SEQ + 1 ∧ (nutmeg source code args s).mem = s.mem ∧
      (nutmeg source code args s).reg BB_LOST = (if (s.reg BB_LOST).toNat + 1 < 2 ^ 32 then s.reg BB_LOST + 1 else s.reg BB_LOST) := by
  have heq : nutmeg source code args s = (bbLose s).setReg BB_SEQ (s.reg BB_SEQ + 1) := if_pos (flag_eq_true_of_fld_eq_one _ _ _ h)
  rw [heq]
  refine ⟨reg_setReg_same .., ?_, (reg_setReg_other _ _ _ _ (by decide)).trans ?_⟩
  · unfold bbLose
    split <;> rfl
  · unfold bbLose
    split
    · exact reg_setReg_same ..
    · rfl

theorem bbRecord_length (s : State) (source code : Nat) (args : List Nat) : (bbRecord s source code args).length = 32 := by
  unfold bbRecord
  simp only [List.length_append, leBytes_length]

theorem nutmeg_writes (source code : Nat) (args : List Nat) (h : s.fld BB_STAT BB_STAT_FROZEN = 0) :
    (nutmeg source code args s).reg BB_SEQ = s.reg BB_SEQ + 1 ∧
      (nutmeg source code args s).bytes (bbSlot (s.reg BB_SEQ).toNat) 32 = bbRecord s source code args ∧
      (s.bb.post = none → s.fld BB_STAT BB_STAT_ARMED = 1 → 32768 ≤ code →
        (nutmeg source code args s).reg BB_TRIG_SEQ = s.reg BB_SEQ ∧ (nutmeg source code args s).fld BB_STAT BB_STAT_ARMED = 0) := by
  obtain ⟨y, hy⟩ : ∃ y, y = s.setBytes (bbSlot (s.reg BB_SEQ).toNat) (bbRecord s source code args) := ⟨_, rfl⟩
  have heq : nutmeg source code args s = bbAfter code (s.reg BB_SEQ) (y.setReg BB_SEQ (s.reg BB_SEQ + 1)) := by
    rw [hy]
    unfold nutmeg
    rw [(flag_eq_false_iff _ _ _).2 h]
    rfl
  have hreg (a : Nat) : y.reg a = s.reg a := by
    rw [hy]
    exact reg_setBytes ..
  have hbb : y.bb = s.bb := by
    rw [hy]
    exact (congrArg State.bb (setBytes_rest ..) :)
  have hbytes : y.bytes (bbSlot (s.reg BB_SEQ).toNat) 32 = bbRecord s source code args := by
    have hb := bytes_setBytes (bbRecord s source code args) s (bbSlot (s.reg BB_SEQ).toNat)
    rwa [bbRecord_length, ← hy] at hb
  clear hy
  obtain ⟨hseq, hmem⟩ := bbAfter_seq code (s.reg BB_SEQ) (y.setReg BB_SEQ (s.reg BB_SEQ + 1))
  rw [heq]
  refine ⟨hseq.trans (reg_setReg_same ..), (bytes_of_mem_eq (s := y) hmem _ _).trans hbytes, fun hpost harmed hfatal => ?_⟩
  exact bbAfter_triggers _ ((congrArg Bb.post hbb).trans hpost) ((fld_of_reg_eq ((reg_setReg_other _ _ _ _ (by decide)).trans (hreg _)) _).trans harmed) hfatal

/-- A record that Clove commits through BB_WR_HDR. -/
theorem doNutmegRecord_commits (v : Word) (s : State) :
    let t := doNutmegRecord .clove v s
    t.reg BB_SEQ = s.reg BB_SEQ + 1 ∧
      (s.fld BB_STAT BB_STAT_FROZEN = 1 → t.mem = s.mem ∧
        t.reg BB_LOST = (if (s.reg BB_LOST).toNat + 1 < 2 ^ 32 then s.reg BB_LOST + 1 else s.reg BB_LOST)) ∧
      (s.fld BB_STAT BB_STAT_FROZEN = 0 → t.bytes (bbSlot (s.reg BB_SEQ).toNat) 32 =
          leBytes 8 (s.timeNs % 2 ^ 63 + b2n (bbUnsync s) * 2 ^ 63) ++ leBytes 2 (bits v.toNat 16 16) ++ leBytes 2 (bits v.toNat 0 16) ++
            leBytes 4 (s.reg BB_SEQ).toNat ++ (List.range 4).flatMap (fun k => leBytes 4 (s.reg (BB_WR_ARG_k k)).toNat)) ∧
      (s.fld BB_STAT BB_STAT_FROZEN = 0 → s.bb.post = none → s.fld BB_STAT BB_STAT_ARMED = 1 → 32768 ≤ bits v.toNat 0 16 →
        t.reg BB_TRIG_SEQ = s.reg BB_SEQ ∧ t.fld BB_STAT BB_STAT_ARMED = 0) := by
  have heq : doNutmegRecord .clove v s = nutmeg (bits v.toNat 16 16) (bits v.toNat 0 16)
      ((List.range 4).map (fun k => (s.reg (BB_WR_ARG_k k)).toNat)) (s.writeByType BB_WR_HDR v) := if_neg (by decide)
  have hreg (a : Nat) (h : a ≠ BB_WR_HDR) : (s.writeByType BB_WR_HDR v).reg a = s.reg a := reg_writeByType_other _ _ _ _ h
  have hrest := writeByType_rest s BB_WR_HDR v
  have hmem : (s.writeByType BB_WR_HDR v).mem = s.mem := writeByType_mem ..
  have hbb : (s.writeByType BB_WR_HDR v).bb = s.bb := (congrArg State.bb hrest :)
  have htime : (s.writeByType BB_WR_HDR v).timeNs = s.timeNs := (congrArg State.timeNs hrest :)
  have hphase : (s.writeByType BB_WR_HDR v).phase = s.phase := (congrArg State.phase hrest :)
  rw [heq]
  generalize s.writeByType BB_WR_HDR v = x at hreg hmem hbb htime hphase
  have hseq := hreg BB_SEQ (by decide)
  have hlost := hreg BB_LOST (by decide)
  have hstat := fun f => fld_of_reg_eq (f := f) (hreg BB_STAT (by decide))
  have hunsync : bbUnsync x = bbUnsync s := by
    unfold bbUnsync
    rw [hbb, hphase, flag_of_reg_eq (hreg PM_STAT (by decide))]
  dsimp only
  have hbit : s.fld BB_STAT BB_STAT_FROZEN = 0 ∨ s.fld BB_STAT BB_STAT_FROZEN = 1 := by
    have : s.fld BB_STAT BB_STAT_FROZEN < 2 := fld_lt s BB_STAT BB_STAT_FROZEN
    omega
  rcases hbit with h | h
  · obtain ⟨h1, h2, h3⟩ := nutmeg_writes (s := x) (bits v.toNat 16 16) (bits v.toNat 0 16)
      ((List.range 4).map (fun k => (s.reg (BB_WR_ARG_k k)).toNat)) ((hstat _).trans h)
    rw [hseq] at h1 h2 h3
    rw [hbb, hstat] at h3
    refine ⟨h1, fun e => absurd (h.symm.trans e) (by decide), fun _ => h2.trans ?_, fun _ => h3⟩
    unfold bbRecord
    rw [htime, hunsync, hseq]
    simp [List.range_succ]
  · obtain ⟨h1, h2, h3⟩ := nutmeg_frozen (s := x) (bits v.toNat 16 16) (bits v.toNat 0 16)
      ((List.range 4).map (fun k => (s.reg (BB_WR_ARG_k k)).toNat)) ((hstat _).trans h)
    rw [hseq] at h1
    rw [hlost] at h3
    exact ⟨h1, fun _ => ⟨h2.trans hmem, h3⟩, fun e => absurd (h.symm.trans e) (by decide), fun e => absurd (h.symm.trans e) (by decide)⟩

theorem not_mayAccess (h : ¬ (ag = .clove ∨ ag = .dap)) (u w : Nat) (v : Word) (s : State) :
    doVtInWrite ag u v s = s ∧ doWinSelWrite ag v s = s ∧ doWindowWrite ag w v s = s ∧ doRearm ag s = s := by
  have hno := cloveOrDap_of_not h
  unfold doVtInWrite doWinSelWrite doWindowWrite doRearm writeBbCtl
  rw [hno]
  exact ⟨rfl, rfl, rfl, rfl⟩

/-- A core that freezes between bundles. -/
theorem freezeTaken_core (hreq : (s.core n).freezeReq = true) (hst : (s.core n).st ≠ 6) (hhold : (s.core n).hold = [])
    (hwait : (s.core n).waitLock = false) (hstep : (s.core n).stepping = false) (hstores : (s.core n).stores = []) (hlock : holdsLock s n = false) :
    doFreezeTaken n s = s.setCore n { s.core n with st := 6, frozenFrom := (s.core n).st, freezeReq := false } := by
  rw [doFreezeTaken_freezes hreq hst hhold hwait hlock, hstep, freezeNow_plain hstores]
  refine congrArg (s.setCore n) ?_
  generalize s.core n = c at hstep hstores
  obtain ⟨⟩ := c
  dsimp only at hstep hstores ⊢
  rw [hstep, hstores]

/-- A core that freezes inside a locked sequence, which is broken. -/
theorem freezeLockBreak_core (hreq : (s.core n).freezeReq = true) (hlock : holdsLock s n = true) (hhold : (s.core n).hold = [])
    (hstep : (s.core n).stepping = false) (hstores : (s.core n).stores = []) : holdsLock (doFreezeLockBreak n s) n = false ∧
      ((doFreezeLockBreak n s).core n).st = 6 ∧ (doFreezeLockBreak n s).mem = s.mem ∧
      ∀ m, m ≠ n → (doFreezeLockBreak n s).core m = s.core m := by
  obtain ⟨hfree, hmem, hother, hkept⟩ := dropLock_drops hlock
  rw [doFreezeLockBreak_breaks hreq hlock hhold, hstep, freezeNow_plain (hkept.trans hstores), core_setCore_same]
  exact ⟨hfree, rfl, hmem, fun m hm => (core_setCore_other _ _ hm).trans (hother m hm)⟩

/-- One NOP of Clove or of a Sumac processor in a debugger's step. -/
theorem debugStep_nop {q : Fin 96} (hag : ag = .clove ∨ ag = .dap) {p : Nat} (hp : p ∈ [96, q.val]) (h : NopAhead p s) (hst : procSt s p = 3)
    (hb : atBoundary s p = true) (hclk : procClock s p = true) :
    ∃ t, Completes (if p = 96 then .cloveDebugStep ag else .sumacDebugStep ag q) s t ∧ procSt t p = 3 ∧
      (t.proc p).pc = cpuNext p 0 s ∧ (t.proc p).os = (s.proc p).os ∧ (t.proc p).rs = (s.proc p).rs ∧ t.mem = s.mem := by
  have hne : q.val ≠ 96 := Nat.ne_of_lt q.isLt
  rcases List.mem_cons.1 hp with rfl | hp
  · rw [if_pos rfl]
    exact ⟨_, rfl, cloveStep_nop hag h hst hb⟩
  · obtain rfl := List.mem_singleton.1 hp
    rw [if_neg hne]
    exact ⟨_, rfl, sumacStep_nop q.isLt hag h hst hb hclk⟩

/-- Settles O59. -/
theorem debugAndAccessCommandsComplete : Obligations.DebugAndAccessCommandsComplete := by
  unfold Obligations.DebugAndAccessCommandsComplete
  intro ag n q u w v a wr nse s
  extract_lets may c x plain
  have hplain (h : plain) : Plain (a.val / 4 * 4) := ⟨h.1, h.2, Nat.mul_mod_left _ _⟩
  refine ⟨?_, ?_, ?_, ?_, ?_, ?_, ?_, ?_, ?_, ?_, ?_, ?_, ?_, ?_, ?_, ?_, ?_, ?_, ?_, ?_, ?_, ?_, ?_, ?_, ?_, ?_, ?_, ?_, ?_, ?_⟩
  · exact fun h => Completes.of_eq (t := doDapAccess a v wr nse s) rfl (doDapAccess_denied h)
  · exact fun h hp => Completes.of_eq (t := doDapAccess a v true nse s) rfl (doDapAccess_writes h (hplain hp))
  · exact fun h hp => ⟨_, rfl, doDapAccess_reads h (hplain hp)⟩
  · exact fun h hlo hhi => ⟨_, rfl, doDapAccess_doorbell h hlo hhi⟩
  · exact fun h => ⟨Completes.of_eq (t := doRegisterWrite .host a v s) rfl (doRegisterWrite_host h).1,
      Completes.of_eq (t := doRcRead .host a s) rfl (doRegisterWrite_host (v := v) h).2⟩
  · exact fun hag hp => ⟨Completes.of_eq (t := doRegisterWrite ag a v s) rfl (doRegisterWrite_plain hag (hplain hp)),
      Completes.of_eq (t := doRcRead ag a s) rfl (doRcRead_plain hag (hplain hp))⟩
  · exact fun i hi => ⟨_, rfl, doRcRead_mbCnt i.isLt hi⟩
  · exact fun hag => ⟨⟨_, rfl, loHalf_frame hag⟩, ⟨_, rfl, loHalf_anStart hag⟩⟩
  · exact fun h => Completes.of_eq (t := doOutboundTimeout ag a wr s) rfl (doOutboundTimeout_elsewhere h)
  · exact fun hlo hhi => ⟨Completes.of_eq (t := doOutboundTimeout .store a wr s) rfl (doOutboundTimeout_store hlo hhi),
      fun hst hsrc => ⟨_, rfl, doOutboundTimeout_trunk hlo hhi hst hsrc⟩⟩
  · exact fun h => ⟨_, rfl, ioUnitReady_sets h⟩
  · exact fun h => Completes.of_eq (t := doFreeze n s) rfl (doFreeze_idle h)
  · exact fun h => ⟨_, Completes.of_eq (t := doFreeze n s) rfl (doFreeze_requests h), core_setCore_same ..,
      fun m hm => core_setCore_other _ _ fun e => hm (Fin.ext e), rfl⟩
  · exact fun h => Completes.of_eq (t := doFreezeTaken n s) rfl (doFreezeTaken_waits h)
  · intro hreq hst hhold hwait hstep hstores hlock
    refine ⟨_, Completes.of_eq (t := doFreezeTaken n s) rfl (freezeTaken_core hreq hst hhold hwait hstep hstores hlock), core_setCore_same ..,
      fun m hm => core_setCore_other _ _ fun e => hm (Fin.ext e), rfl⟩
  · exact fun h => Completes.of_eq (t := doFreezeLockBreak n s) rfl (doFreezeLockBreak_idle h)
  · intro hreq hlock hhold hstep hstores
    obtain ⟨h1, h2, h3, h4⟩ := freezeLockBreak_core hreq hlock hhold hstep hstores
    exact ⟨_, rfl, h1, h2, h3, fun m hm => h4 m fun e => hm (Fin.ext e)⟩
  · exact fun h => Completes.of_eq (t := doBstep n s) rfl (doBstep_idle h)
  · intro o hst hfrom hon hgap _ _ hflight hstores _ hwait hpc hrep hbr hloop hlock hmarks hdec hbp
    exact ⟨_, rfl, doBstep_steps hst hfrom hon hgap hflight hstores hwait hpc hrep hbr hloop hlock hmarks hdec hbp⟩
  · intro h
    obtain ⟨h1, h2, h3, h4⟩ := not_mayDebug h q s
    exact ⟨Completes.of_eq (t := doCloveDebugHalt ag s) rfl h1, Completes.of_eq (t := doCloveDebugStep ag s) rfl h2,
      Completes.of_eq (t := doResume ag s) rfl h3, Completes.of_eq (t := doSumacDebugStep ag q s) rfl h4⟩
  · intro hag
    refine ⟨fun hst hb => ⟨_, rfl, cloveHalt_at_boundary hag hst hb⟩, fun hst hb => ⟨_, rfl, cloveHalt_off_boundary hag hst hb⟩,
      fun hst hmchk hpres hswap hhalt hstep => ⟨_, rfl, resume_goes_on hag hst hmchk hpres hswap hhalt hstep⟩, ?_⟩
    intro p hp hst hb hclk hclove hsumac hentry
    obtain ⟨hpar, hvalid, hform, hlow, hhigh⟩ := hentry
    exact debugStep_nop hag hp ⟨hpar, hvalid, hform, hlow, hhigh, hclove, hsumac⟩ hst hb hclk
  · exact ⟨_, rfl, doVtOutRead_reads u s⟩
  · intro h
    obtain ⟨h1, h2, h3, h4⟩ := not_mayAccess h u w v s
    exact ⟨Completes.of_eq (t := doVtInWrite ag u v s) rfl h1, Completes.of_eq (t := doWinSelWrite ag v s) rfl h2,
      Completes.of_eq (t := doWindowWrite ag w v s) rfl h3, Completes.of_eq (t := doRearm ag s) rfl h4⟩
  · intro hag
    refine ⟨fun h => Completes.of_eq (t := doVtInWrite ag u v s) rfl (doVtInWrite_full hag h), fun h => ⟨_, rfl, doVtInWrite_stores hag h⟩,
      fun hkind hinst => ⟨_, rfl, doWinSelWrite_captures n.isLt hag hkind hinst⟩, ?_,
      fun h => Completes.of_eq (t := doWindowWrite ag w v s) rfl (doWindowWrite_refused hag h), ⟨_, rfl, doRearm_rearms hag⟩⟩
    intro hkind hinst hmay hst hw
    obtain ⟨h1, h2, h3, h4⟩ := doWindowWrite_writes (v := v) hag n.isLt hkind hinst hmay hst hw
    exact ⟨_, rfl, h1, h2, fun m hm => h3 m fun e => hm (Fin.ext e), h4⟩
  · exact fun h => Completes.of_eq (t := doWindowCaptureDone s) rfl (doWindowCaptureDone_idle h)
  · exact fun h => ⟨_, rfl, doWindowCaptureDone_ready h⟩
  · exact fun h => Completes.of_eq (t := doNutmegRecord ag v s) rfl (if_pos h)
  · exact ⟨_, rfl, doNutmegRecord_commits v s⟩
  · exact fun h => ⟨_, rfl, doNutmegFreeze_freezes h⟩
  · exact fun h => Completes.of_eq (t := doNutmegFreeze s) rfl (if_neg h)

end Sys2Proof.Machine
end

section

/-! SUPPORT. Resets of the device and the release of RESET_N (R393 to R395): O58. -/

namespace Sys2Proof.Machine
open R

variable {s t : State}

/-! ### Memory without some of its contents -/

theorem byte_tdrop_dropped {p : Nat → Bool} {a : Nat} (m : List Host.Cell) (h : p a = true) : tget memDefault (tdrop p m) a = 0 :=
  tget_tdrop memDefault m h

/-- A key that the canonical table keeps reads as before. -/
theorem tget_tdrop_kept {α : Type} [DecidableEq α] {d : α} {p : Nat → Bool} {l : List (Nat × α)} (hwf : twf (fun _ => d) l = true) {k : Nat}
    (h : p k = false) : tget d (tdrop p l) k = tget d l k := by
  have hlow {l : List (Nat × α)} (ha : ∀ e ∈ l, k < e.1) : tget d l k = d := by
    cases l with
    | nil => rfl
    | cons e l => exact if_pos (ha e (by simp))
  induction l with
  | nil => rfl
  | cons e l ih =>
    obtain ⟨j, w⟩ := e
    obtain ⟨-, habove, hl⟩ := (twf_cons _ j w l).1 hwf
    have hrest : tget d (tdrop p l) k = tget d l k := ih hl
    unfold tdrop at hrest ⊢
    rw [List.filter_cons]
    split
    · unfold tget
      rw [hrest]
    next hj =>
      have hne : ¬ k = j := fun e => by
        rw [← e, h] at hj
        exact absurd hj (by decide)
      rw [hrest]
      by_cases hk : k < j
      · rw [hlow fun e he => Nat.lt_trans hk (habove e he)]
        exact (if_pos hk).symm
      · exact ((if_neg hk).trans (if_neg hne)).symm

/-! ### What the always-on domain holds -/

/-- The registers of the always-on domain. -/
def aonAddrs : List Nat := [BB_STAT, BB_SEQ, BB_TRIG_SEQ, BB_LOST, WD_RST_CAUSE, BT_STAT, BT_CAUSE] ++ (List.range 48).map IC_EDGE_e_CFG

theorem each_reg_other {α : Type} {f : State → α → State} {l : List α} (a : Nat) (h : ∀ u x, x ∈ l → (f u x).reg a = u.reg a) (s : State) :
    (s.each l f).reg a = s.reg a :=
  each_induction (P := fun u => u.reg a = s.reg a) rfl fun u x hx hu => (h u x hx).trans hu

theorem edge_off {a : Nat} (h : a < IC_EDGE_e_CFG 0 ∨ IC_EDGE_e_CFG 48 ≤ a) {e : Nat} (he : e < 48) : a ≠ IC_EDGE_e_CFG e := by
  simp only [IC_EDGE_e_CFG] at h ⊢
  omega

/-- The first part of `aonRegs`: the black box and the causes. -/
def aonFirst (s nw : State) : State := nw.each [BB_STAT, BB_SEQ, BB_TRIG_SEQ, BB_LOST, WD_RST_CAUSE] (fun x a => x.setReg a (s.reg a))

/-- The second part: the starts. -/
def aonStarts (s x : State) : State :=
  (x.setFlds BT_STAT [(BT_STAT_LAST_SLOT, s.fld BT_STAT BT_STAT_LAST_SLOT), (BT_STAT_ATTEMPT, s.fld BT_STAT BT_STAT_ATTEMPT)]).setFld
    BT_CAUSE BT_CAUSE_LAST (s.fld BT_CAUSE BT_CAUSE_LAST)

/-- The third part: the edge latches. -/
def aonEdges (s x : State) : State :=
  x.each (List.range 48) (fun x e => x.setFld (IC_EDGE_e_CFG e) IC_EDGE_e_CFG_LATCH (s.fld (IC_EDGE_e_CFG e) IC_EDGE_e_CFG_LATCH))

theorem aonRegs_eq (s nw : State) : aonRegs s nw = aonEdges s (aonStarts s (aonFirst s nw)) := rfl

theorem aonEdges_reg (s x : State) {a : Nat} (h : a < IC_EDGE_e_CFG 0 ∨ IC_EDGE_e_CFG 48 ≤ a) : (aonEdges s x).reg a = x.reg a :=
  each_reg_other a (fun _ _ he => reg_setFld_other _ _ _ _ _ (edge_off h (List.mem_range.1 he))) x

theorem aonRegs_onlyRegs (s nw : State) : OnlyRegs aonAddrs nw (aonRegs s nw) := by
  have h1 : OnlyRegs aonAddrs nw (aonFirst s nw) :=
    each_induction (P := OnlyRegs aonAddrs nw) (onlyRegs_refl _ _) fun u a ha hu => hu.setReg
      (List.mem_append_left _ (List.mem_append_left [BT_STAT, BT_CAUSE] ha)) _
  have h2 : OnlyRegs aonAddrs nw (aonStarts s (aonFirst s nw)) :=
    (h1.setFlds (List.mem_append_left _ (by simp)) _).setFld (List.mem_append_left _ (by simp)) _ _
  rw [aonRegs_eq]
  exact each_induction (P := OnlyRegs aonAddrs nw) h2 fun u e he hu => hu.setFld (List.mem_append_right _ (List.mem_map_of_mem he)) _ _

theorem aonFirst_reg (s nw : State) {a : Nat} (h : a ∈ [BB_STAT, BB_SEQ, BB_TRIG_SEQ, BB_LOST, WD_RST_CAUSE]) :
    (aonFirst s nw).reg a = s.reg a := by
  have heq : aonFirst s nw = ((((nw.setReg BB_STAT (s.reg BB_STAT)).setReg BB_SEQ (s.reg BB_SEQ)).setReg BB_TRIG_SEQ (s.reg BB_TRIG_SEQ)).setReg
    BB_LOST (s.reg BB_LOST)).setReg WD_RST_CAUSE (s.reg WD_RST_CAUSE) := rfl
  simp only [List.mem_cons, List.not_mem_nil, or_false] at h
  rw [heq]
  rcases h with rfl | rfl | rfl | rfl | rfl
  all_goals
    simp only [reg_setReg_same, reg_setReg_other _ _ _ _ (show BB_STAT ≠ BB_SEQ by decide), reg_setReg_other _ _ _ _ (show BB_STAT ≠ BB_TRIG_SEQ by decide),
      reg_setReg_other _ _ _ _ (show BB_STAT ≠ BB_LOST by decide), reg_setReg_other _ _ _ _ (show BB_STAT ≠ WD_RST_CAUSE by decide),
      reg_setReg_other _ _ _ _ (show BB_SEQ ≠ BB_TRIG_SEQ by decide), reg_setReg_other _ _ _ _ (show BB_SEQ ≠ BB_LOST by decide),
      reg_setReg_other _ _ _ _ (show BB_SEQ ≠ WD_RST_CAUSE by decide), reg_setReg_other _ _ _ _ (show BB_TRIG_SEQ ≠ BB_LOST by decide),
      reg_setReg_other _ _ _ _ (show BB_TRIG_SEQ ≠ WD_RST_CAUSE by decide), reg_setReg_other _ _ _ _ (show BB_LOST ≠ WD_RST_CAUSE by decide)]

/-- What every reset but that of the always-on domain leaves in `t` from `s`: a clean device, and what the always-on domain holds. -/
structure AonHeld (s t : State) : Prop where
  cores : t.cores = []
  request : t.rstReq = []
  otp : t.otp = s.otp
  seq : t.reg BB_SEQ = s.reg BB_SEQ
  trig : t.reg BB_TRIG_SEQ = s.reg BB_TRIG_SEQ
  attempt : t.fld BT_STAT BT_STAT_ATTEMPT = s.fld BT_STAT BT_STAT_ATTEMPT
  run : t.fld BT_STAT BT_STAT_RUN = 0
  other : ∀ a, a ∉ aonAddrs → a ∉ [MC_PERR, CK_CTL, CK_STAT] → t.reg a = State.reset.reg a

namespace AonHeld

theorem setReg (h : AonHeld s t) {a : Nat} (ha : a = WD_RST_CAUSE ∨ a ∈ [MC_PERR, CK_CTL, CK_STAT]) (v : Word) : AonHeld s (t.setReg a v) := by
  have hne (b : Nat) (hb : b ≠ WD_RST_CAUSE) (hb' : b ∉ [MC_PERR, CK_CTL, CK_STAT]) : b ≠ a := by
    rintro rfl
    exact ha.elim hb hb'
  have hreg (b : Nat) (hb : b ≠ WD_RST_CAUSE) (hb' : b ∉ [MC_PERR, CK_CTL, CK_STAT]) : (t.setReg a v).reg b = t.reg b :=
    reg_setReg_other _ _ _ _ (hne b hb hb')
  exact
    { cores := h.cores
      request := h.request
      otp := h.otp
      seq := (hreg _ (by decide) (by decide)).trans h.seq
      trig := (hreg _ (by decide) (by decide)).trans h.trig
      attempt := (fld_of_reg_eq (hreg _ (by decide) (by decide)) _).trans h.attempt
      run := (fld_of_reg_eq (hreg _ (by decide) (by decide)) _).trans h.run
      other := fun b hb hb' => (hreg b (fun e => hb (e ▸ by decide)) hb').trans (h.other b hb hb') }

theorem noteStart (h : AonHeld s t) (u : State) (w : Bool) : AonHeld s (Machine.noteStart u w t) := by
  unfold Machine.noteStart
  split
  · have hcause (b : Nat) (hb : b ≠ BT_STAT) (hb' : b ≠ BT_CAUSE) :
        ((t.setFld BT_CAUSE BT_CAUSE_LAST (if w then 1 else 2)).setFld BT_STAT BT_STAT_LAST_SLOT (u.fld BT_STAT BT_STAT_SLOT)).reg b = t.reg b :=
      (reg_setFld_other _ _ _ _ _ hb).trans (reg_setFld_other _ _ _ _ _ hb')
    exact
      { cores := h.cores
        request := h.request
        otp := h.otp
        seq := (hcause _ (by decide) (by decide)).trans h.seq
        trig := (hcause _ (by decide) (by decide)).trans h.trig
        attempt := (fld_setFld_ne _ _ _ _ _ (by decide) (by decide)).trans ((fld_setFld_other _ _ _ _ _ _ (by decide)).trans h.attempt)
        run := (fld_setFld_ne _ _ _ _ _ (by decide) (by decide)).trans ((fld_setFld_other _ _ _ _ _ _ (by decide)).trans h.run)
        other := fun b hb hb' => (hcause b (fun e => hb (e ▸ by decide)) (fun e => hb (e ▸ by decide))).trans (h.other b hb hb') }
  · exact h

end AonHeld

theorem aonRegs_held {nw : State} (hcores : nw.cores = []) (hreq : nw.rstReq = []) (hotp : nw.otp = s.otp) (hregs : nw.regs = []) : AonHeld s (aonRegs s nw) := by
  have honly := aonRegs_onlyRegs s nw
  have hreset (a : Nat) : nw.reg a = State.reset.reg a := by
    unfold State.reg
    rw [hregs]
    rfl
  have hedge : BT_STAT < IC_EDGE_e_CFG 0 ∨ IC_EDGE_e_CFG 48 ≤ BT_STAT := by decide
  have hstat : (aonFirst s nw).reg BT_STAT = State.reset.reg BT_STAT := by
    have h : (aonFirst s nw).reg BT_STAT = nw.reg BT_STAT :=
      each_reg_other BT_STAT (fun u a ha => reg_setReg_other _ _ _ _ fun e => absurd (e ▸ ha) (by decide)) nw
    exact h.trans (hreset _)
  have hstart (f : Fld) : (aonRegs s nw).fld BT_STAT f = ((aonFirst s nw).setFlds BT_STAT
      [(BT_STAT_LAST_SLOT, s.fld BT_STAT BT_STAT_LAST_SLOT), (BT_STAT_ATTEMPT, s.fld BT_STAT BT_STAT_ATTEMPT)]).fld BT_STAT f := by
    rw [aonRegs_eq]
    exact fld_of_reg_eq ((aonEdges_reg s _ hedge).trans (reg_setFld_other _ _ _ _ _ (by decide))) f
  have hbb (a : Nat) (h : a ∈ [BB_STAT, BB_SEQ, BB_TRIG_SEQ, BB_LOST, WD_RST_CAUSE]) (hb : a ≠ BT_STAT) (hb' : a ≠ BT_CAUSE)
      (he : a < IC_EDGE_e_CFG 0 ∨ IC_EDGE_e_CFG 48 ≤ a) : (aonRegs s nw).reg a = s.reg a := by
    rw [aonRegs_eq, aonEdges_reg s _ he]
    exact (reg_setFld_other _ _ _ _ _ hb').trans ((reg_setFlds_other _ _ _ _ hb).trans (aonFirst_reg s nw h))
  have hseq := hbb BB_SEQ (by simp) (by decide) (by decide) (by decide)
  have htrig := hbb BB_TRIG_SEQ (by simp) (by decide) (by decide) (by decide)
  have hattempt : (aonRegs s nw).fld BT_STAT BT_STAT_ATTEMPT = s.fld BT_STAT BT_STAT_ATTEMPT :=
    (hstart _).trans (fld_setFld_of_lt _ _ _ _ (by decide) (fld_lt s BT_STAT BT_STAT_ATTEMPT))
  have hrun : (aonRegs s nw).fld BT_STAT BT_STAT_RUN = 0 := by
    refine (hstart _).trans ((fld_setFlds_beside _ _ _ _ fun f hf => ?_).trans ((fld_of_reg_eq hstat _).trans (by decide)))
    simp only [List.mem_cons, List.not_mem_nil, or_false] at hf
    rcases hf with rfl | rfl <;> dsimp only <;> decide
  clear hbb hstart hedge hstat
  generalize aonRegs s nw = x at honly hseq htrig hattempt hrun
  obtain ⟨hrest, hother⟩ := honly
  exact
    { cores := (congrArg State.cores hrest :).trans hcores
      request := (congrArg State.rstReq hrest :).trans hreq
      otp := (congrArg State.otp hrest :).trans hotp
      seq := hseq
      trig := htrig
      attempt := hattempt
      run := hrun
      other := fun a ha _ => (hother a ha).trans (hreset a) }

/-! ### The resets -/

/-- What the device holds after a reset. -/
structure Low (s t : State) : Prop where
  cores : ∀ m : Fin 48, (t.core m).st = 0
  request : t.rstReq = []
  otp : t.otp = s.otp
  seq : t.reg BB_SEQ = s.reg BB_SEQ
  trig : t.reg BB_TRIG_SEQ = s.reg BB_TRIG_SEQ
  attempt : t.fld BT_STAT BT_STAT_ATTEMPT = s.fld BT_STAT BT_STAT_ATTEMPT
  exchange : t.reg SX_CTL = State.reset.reg SX_CTL
  tiles : t.reg PM_TILE_CTL = State.reset.reg PM_TILE_CTL
  run : t.fld BT_STAT BT_STAT_RUN = 0

theorem off_aonAddrs {a : Nat} (h : a ∉ [BB_STAT, BB_SEQ, BB_TRIG_SEQ, BB_LOST, WD_RST_CAUSE, BT_STAT, BT_CAUSE])
    (he : a < IC_EDGE_e_CFG 0 ∨ IC_EDGE_e_CFG 48 ≤ a) : a ∉ aonAddrs := by
  intro hin
  rcases List.mem_append.1 hin with hin | hin
  · exact h hin
  · obtain ⟨e, hlt, rfl⟩ := List.mem_map.1 hin
    exact edge_off he (List.mem_range.1 hlt) rfl

theorem AonHeld.low (h : AonHeld s t) : Low s t where
  cores m := by
    have hcore : t.core m = Core.reset := by
      unfold State.core
      rw [h.cores]
      rfl
    rw [hcore]
    rfl
  request := h.request
  otp := h.otp
  seq := h.seq
  trig := h.trig
  attempt := h.attempt
  exchange := h.other _ (off_aonAddrs (by decide) (by decide)) (by decide)
  tiles := h.other _ (off_aonAddrs (by decide) (by decide)) (by decide)
  run := h.run

/-- A wide reset's clean device. -/
def wideClean (pin : Bool) (s : State) : State :=
  let m := tdrop isPatchRam s.mem
  { lasting s (if pin then m else tdrop (fun a => !isStore a && !isRing a) m) with bb := s.bb, ecc := if pin then s.ecc else [] }

theorem wideReset_eq (pin : Bool) (s : State) : wideReset pin s =
    (noteStart s false (aonRegs s (wideClean pin s))).setReg WD_RST_CAUSE (if pin then 4 else 2) := rfl

theorem noteStart_rest (s : State) (w : Bool) (x : State) : { noteStart s w x with regs := x.regs } = x := by
  unfold noteStart
  split <;> rfl

theorem wideReset_rest (pin : Bool) (s : State) : { wideReset pin s with regs := [] } = wideClean pin s := by
  have h1 := (aonRegs_onlyRegs s (wideClean pin s)).1
  have h2 := noteStart_rest s false (aonRegs s (wideClean pin s))
  rw [wideReset_eq]
  generalize aonRegs s (wideClean pin s) = x at h1 h2
  generalize noteStart s false x = y at h2
  exact (congrArg (fun z : State => { z with regs := [] }) h2).trans h1

theorem wideReset_held (pin : Bool) (s : State) : AonHeld s (wideReset pin s) := by
  rw [wideReset_eq]
  exact ((aonRegs_held (s := s) (nw := wideClean pin s) rfl rfl rfl rfl).noteStart s false).setReg (.inl rfl) _

theorem wideReset_cause (pin : Bool) (s : State) : (wideReset pin s).reg WD_RST_CAUSE = if pin then 4 else 2 := by
  rw [wideReset_eq]
  exact reg_setReg_same ..

theorem wideReset_phase (pin : Bool) (s : State) : (wideReset pin s).phase = 0 := (congrArg State.phase (wideReset_rest pin s) :)

theorem wideReset_mem (pin : Bool) (s : State) : (wideReset pin s).mem =
    if pin then tdrop isPatchRam s.mem else tdrop (fun a => !isStore a && !isRing a) (tdrop isPatchRam s.mem) :=
  (congrArg State.mem (wideReset_rest pin s) :)

theorem powerOn_clears {a : Nat} (hs : isStore a = false) (hr : isRing a = false) (s : State) : (wideReset false s).byte a = 0 := by
  unfold State.byte
  rw [wideReset_mem, if_neg (by decide)]
  exact byte_tdrop_dropped _ (by rw [hs, hr]; rfl)

theorem pinReset_keeps (hwf : memWf s.mem) {a : Nat} (h : isPatchRam a = false) : (wideReset true s).byte a = s.byte a := by
  unfold State.byte
  rw [wideReset_mem, if_pos rfl]
  exact tget_tdrop_kept hwf h

/-- A warm reset's clean device. -/
def warmClean (s : State) : State :=
  { lasting s (tdrop isPatchRam s.mem) with
    ecc := s.ecc, bb := s.bb, phase := 1
    ctl := { Ctl.reset with ucode := tdrop (fun k => 65536 ≤ k) s.ctl.ucode, romBanks := s.ctl.romBanks }
    dev := { (lasting s (tdrop isPatchRam s.mem)).dev with switching := s.dev.switching } }

/-- The state of PLLs and of the reference, which a warm reset keeps. -/
def clockRegs (s x : State) : State := x.each [MC_PERR, CK_CTL, CK_STAT] (fun x a => x.setReg a (s.reg a))

theorem warmReset_eq (l : List Nat) (s : State) : warmReset l s =
    (noteStart s (l.contains 7) (clockRegs s (aonRegs s (warmClean s)))).setReg WD_RST_CAUSE
      (BitVec.ofNat 32 (l.eraseDups.foldl (fun x b => x + 2 ^ b) 0)) := rfl

theorem clockRegs_regs (s x : State) : (clockRegs s x).reg CK_CTL = s.reg CK_CTL ∧ (clockRegs s x).reg MC_PERR = s.reg MC_PERR := by
  have heq : clockRegs s x = ((x.setReg MC_PERR (s.reg MC_PERR)).setReg CK_CTL (s.reg CK_CTL)).setReg CK_STAT (s.reg CK_STAT) := rfl
  rw [heq]
  exact ⟨(reg_setReg_other _ _ _ _ (by decide)).trans (reg_setReg_same ..),
    (reg_setReg_other _ _ _ _ (by decide)).trans ((reg_setReg_other _ _ _ _ (by decide)).trans (reg_setReg_same ..))⟩

theorem noteStart_reg (s : State) (w : Bool) (x : State) {a : Nat} (h1 : a ≠ BT_STAT) (h2 : a ≠ BT_CAUSE) : (noteStart s w x).reg a = x.reg a := by
  unfold noteStart
  split
  · exact (reg_setFld_other _ _ _ _ _ h1).trans (reg_setFld_other _ _ _ _ _ h2)
  · rfl

theorem clockRegs_rest (s x : State) : { clockRegs s x with regs := [] } = { x with regs := [] } := rfl

theorem warmReset_rest (l : List Nat) (s : State) : { warmReset l s with regs := [] } = warmClean s := by
  have h1 := (aonRegs_onlyRegs s (warmClean s)).1
  have h2 := clockRegs_rest s (aonRegs s (warmClean s))
  have h3 := noteStart_rest s (l.contains 7) (clockRegs s (aonRegs s (warmClean s)))
  rw [warmReset_eq]
  generalize aonRegs s (warmClean s) = x at h1 h2 h3
  generalize clockRegs s x = y at h2 h3
  generalize noteStart s (l.contains 7) y = z at h3
  exact ((congrArg (fun z : State => { z with regs := [] }) h3).trans h2).trans h1

theorem warmReset_held (l : List Nat) (s : State) : AonHeld s (warmReset l s) := by
  have hclock : AonHeld s (clockRegs s (aonRegs s (warmClean s))) :=
    (((aonRegs_held (s := s) (nw := warmClean s) rfl rfl rfl rfl).setReg (.inr (by simp)) _).setReg (.inr (by simp)) _).setReg (.inr (by simp)) _
  rw [warmReset_eq]
  exact (hclock.noteStart s _).setReg (.inl rfl) _

theorem warmReset_cause (l : List Nat) (s : State) : (warmReset l s).reg WD_RST_CAUSE =
    BitVec.ofNat 32 (l.eraseDups.foldl (fun x b => x + 2 ^ b) 0) := by
  rw [warmReset_eq]
  exact reg_setReg_same ..

theorem warmReset_clocks (l : List Nat) (s : State) : (warmReset l s).reg CK_CTL = s.reg CK_CTL ∧ (warmReset l s).reg MC_PERR = s.reg MC_PERR := by
  obtain ⟨h1, h2⟩ := clockRegs_regs s (aonRegs s (warmClean s))
  rw [warmReset_eq]
  exact ⟨(reg_setReg_other _ _ _ _ (by decide)).trans ((noteStart_reg _ _ _ (by decide) (by decide)).trans h1),
    (reg_setReg_other _ _ _ _ (by decide)).trans ((noteStart_reg _ _ _ (by decide) (by decide)).trans h2)⟩

theorem warmReset_phase (l : List Nat) (s : State) : (warmReset l s).phase = 1 := (congrArg State.phase (warmReset_rest l s) :)

theorem warmReset_ecc (l : List Nat) (s : State) : (warmReset l s).ecc = s.ecc := (congrArg State.ecc (warmReset_rest l s) :)

theorem warmReset_keeps (l : List Nat) (hwf : memWf s.mem) {a : Nat} (h : isPatchRam a = false) : (warmReset l s).byte a = s.byte a := by
  have hmem : (warmReset l s).mem = tdrop isPatchRam s.mem := (congrArg State.mem (warmReset_rest l s) :)
  unfold State.byte
  rw [hmem]
  exact tget_tdrop_kept hwf h

/-- What a warm reset leaves. -/
theorem doWarmReset_soft (h : s.rstReq = []) : doWarmReset true s = warmReset [5] s := by
  unfold doWarmReset
  rw [h]
  rfl

theorem doWarmReset_idle (h : s.rstReq = []) : doWarmReset false s = s := by
  unfold doWarmReset
  rw [h]
  rfl

theorem doWarmReset_watchdog (h : s.rstReq = [3]) : doWarmReset false s = warmReset [3] s := by
  unfold doWarmReset
  rw [h]
  rfl

theorem alwaysOn_clears {a : Nat} (h : isStore a = false) (s : State) : (doAlwaysOnPowerUp s).byte a = 0 := by
  have hmem : (doAlwaysOnPowerUp s).mem = tdrop (fun a => !isStore a) s.mem := rfl
  unfold State.byte
  rw [hmem]
  exact byte_tdrop_dropped s.mem (by rw [h]; rfl)

/-! ### RESET_RELEASE -/

theorem raiseEvent_phase (n : Nat) (s : State) : (raiseEvent s n).phase = s.phase := by
  unfold raiseEvent setSrcBit
  split <;> rfl

theorem releaseEdges_phase (s : State) : (releaseEdges s).phase = s.phase := by
  refine each_induction (P := fun u => u.phase = s.phase) rfl fun u e _ hu => Eq.trans ?_ hu
  split
  · exact raiseEvent_phase ..
  · rfl

/-- Sources 32 i to 32 i + 31 for i below 32 are all there are; CK_STAT lies in none of their words. -/
theorem raiseEvent_clock (n : Nat) (s : State) : (raiseEvent s n).reg CK_STAT = s.reg CK_STAT := by
  unfold raiseEvent setSrcBit
  split
  next h =>
    refine reg_setReg_other _ _ _ _ ?_
    have hn : n < 1023 := by
      unfold usable at h
      simp only [Bool.and_eq_true, decide_eq_true_eq] at h
      omega
    simp only [CK_STAT, IC_PEND_SET_i]
    omega
  · rfl

theorem releaseEdges_clock (s : State) : (releaseEdges s).reg CK_STAT = s.reg CK_STAT := by
  refine each_reg_other CK_STAT (fun u e he => ?_) s
  split
  · exact (raiseEvent_clock ..).trans (reg_setFld_other _ _ _ _ _ (edge_off (by decide) (List.mem_range.1 he)))
  · rfl

theorem doResetRelease_idle (h : s.phase ≠ 0 ∨ s.dev.low ≠ [] ∨ (s.dev.refPresent = false ∧ s.dev.xtal = false)) : doResetRelease s = s := by
  unfold doResetRelease
  refine if_pos ?_
  rcases h with h | h | ⟨h1, h2⟩
  · exact .inl h
  · exact .inr (.inl h)
  · exact .inr (.inr (by rw [h1, h2]; decide))

theorem doResetRelease_locks (h0 : s.phase = 0) (hlow : s.dev.low = []) (href : s.dev.refPresent = true) :
    (doResetRelease s).phase = 1 ∧ (doResetRelease s).fld CK_STAT CK_STAT_LOCKED = 15 ∧
      (doResetRelease s).fld CK_STAT CK_STAT_REF_SEL = 0 ∧ (doResetRelease s).fld CK_STAT CK_STAT_REF_OK = 1 := by
  have heq : doResetRelease s = releaseEdges { s.setFlds CK_STAT [(CK_STAT_LOCKED, 15), (CK_STAT_REF_SEL, 0), (CK_STAT_REF_OK, 1)] with phase := 1 } := by
    unfold doResetRelease
    rw [href, if_neg]
    · rfl
    · rintro (e | e | e)
      · exact e h0
      · exact e hlow
      · exact e rfl
  have hfld (f : Fld) : (doResetRelease s).fld CK_STAT f =
      (s.setFlds CK_STAT [(CK_STAT_LOCKED, 15), (CK_STAT_REF_SEL, 0), (CK_STAT_REF_OK, 1)]).fld CK_STAT f := by
    rw [heq]
    exact fld_of_reg_eq (releaseEdges_clock _) f
  refine ⟨by rw [heq]; exact releaseEdges_phase _, (hfld _).trans ?_, (hfld _).trans ?_, (hfld _).trans ?_⟩
  · exact (fld_setFld_ne _ _ _ _ _ (by decide) (by decide)).trans ((fld_setFld_ne _ _ _ _ _ (by decide) (by decide)).trans
      (fld_setFld_of_lt s CK_STAT CK_STAT_LOCKED 15 (by decide) (by decide)))
  · exact (fld_setFld_ne _ _ _ _ _ (by decide) (by decide)).trans (fld_setFld_of_lt _ CK_STAT CK_STAT_REF_SEL 0 (by decide) (by decide))
  · exact fld_setFld_of_lt _ CK_STAT CK_STAT_REF_OK 1 (by decide) (by decide)

end Sys2Proof.Machine
end

section

/-! SUPPORT. Resets, gates and power of a tile (R393, R395, R398, R399): O58. -/

namespace Sys2Proof.Machine
open R

variable {q n : Nat} {s t u : State}

/-! ### One bit of a field -/

theorem bits_mod {v w i : Nat} (h : i < w) : bits (v % 2 ^ w) i 1 = bits v i 1 := by
  rw [bits_one_eq_testBit, bits_one_eq_testBit, Nat.testBit_mod_two_pow]
  simp [h]

theorem setBit_same (s : State) (a : Nat) {f : Fld} (hf : f.lo + f.w ≤ 32) {i : Nat} (hi : i < f.w) (b : Bool) :
    bits ((setBit s a f i b).fld a f) i 1 = b2n b := by
  unfold setBit
  rw [fld_setFld_same _ _ _ _ hf, bits_mod hi, bits_setBits_same]
  cases b <;> rfl

theorem setBit_other (s : State) (a : Nat) {f : Fld} (hf : f.lo + f.w ≤ 32) {i j : Nat} (hj : j < f.w) (h : j ≠ i) (b : Bool) :
    bits ((setBit s a f i b).fld a f) j 1 = bits (s.fld a f) j 1 := by
  unfold setBit
  rw [fld_setFld_same _ _ _ _ hf, bits_mod hj, bits_setBits_one, if_neg (by omega)]

theorem setBit_beside (s : State) (a : Nat) (f g : Fld) (hf : f.lo + f.w ≤ 32) (h : f.lo + f.w ≤ g.lo ∨ g.lo + g.w ≤ f.lo) (i : Nat) (b : Bool) :
    (setBit s a f i b).fld a g = s.fld a g := fld_setFld_ne _ _ _ _ _ hf h

theorem setBit_reg (s : State) (a : Nat) (f : Fld) (i : Nat) (b : Bool) {c : Nat} (h : c ≠ a) : (setBit s a f i b).reg c = s.reg c :=
  reg_setFld_other _ _ _ _ _ h

/-- What a loop does for each of its elements stays while it goes on. -/
theorem each_sets {α : Type} {P : α → State → Prop} {f : State → α → State} {l : List α} (set : ∀ u x, x ∈ l → P x (f u x))
    (keep : ∀ u x y, x ∈ l → y ∈ l → P y u → P y (f u x)) (s : State) : ∀ x ∈ l, P x (s.each l f) := by
  have hkeep (m : List α) (hm : ∀ x ∈ m, x ∈ l) (v : State) (y : α) (hy : y ∈ l) (h : P y v) : P y (v.each m f) :=
    each_induction (P := P y) h fun u x hx hu => keep u x y (hm x hx) hy hu
  have hall (m : List α) (hm : ∀ x ∈ m, x ∈ l) (v : State) : ∀ x ∈ m, P x (v.each m f) := by
    induction m generalizing v with
    | nil => exact fun x hx => absurd hx (by simp)
    | cons z m ih =>
      intro x hx
      have htail : ∀ x ∈ m, x ∈ l := fun x hx => hm x (List.mem_cons_of_mem _ hx)
      rcases List.mem_cons.1 hx with rfl | hx
      · exact hkeep m htail _ _ (hm _ (by simp)) (set v _ (hm _ (by simp)))
      · exact ih htail (f v z) x hx
  exact hall l (fun _ h => h) s

/-! ### Tile reset -/

/-- Work inside a tile: the registers outside the tiles and the device stay. -/
structure TileWork (s t : State) : Prop where
  dev : t.dev = s.dev
  high : ∀ a, 0x2000000000 ≤ a → t.reg a = s.reg a

namespace TileWork

theorem refl (s : State) : TileWork s s := ⟨rfl, fun _ _ => rfl⟩

theorem trans (h : TileWork s t) (k : TileWork t u) : TileWork s u := ⟨k.dev.trans h.dev, fun a ha => (k.high a ha).trans (h.high a ha)⟩

theorem setReg (h : TileWork s t) {a : Nat} (ha : a < 0x2000000000) (v : Word) : TileWork s (t.setReg a v) :=
  ⟨h.dev, fun b hb => (reg_setReg_other _ _ _ _ (by omega)).trans (h.high b hb)⟩

theorem setFld (h : TileWork s t) {a : Nat} (ha : a < 0x2000000000) (f : Fld) (x : Nat) : TileWork s (t.setFld a f x) := h.setReg ha _

theorem each {α : Type} {f : State → α → State} {l : List α} (h : ∀ u x, x ∈ l → TileWork u (f u x)) (s : State) : TileWork s (s.each l f) :=
  each_induction (P := TileWork s) (refl s) fun u x hx hu => hu.trans (h u x hx)

end TileWork

theorem bkTest_low (b : Nat) (hq : q < 12) (hb : b < 9) : bkTest q b < 0x2000000000 := by
  unfold bkTest
  split
  · simp only [TL_t_BK_b_TEST]
    omega
  · simp only [TL_t_CB_TEST]
    omega

/-- A test window of bank `b` closed in `x`; window `n` is the next one. -/
def windowClosed (t b n : Nat) (x : State) : State :=
  let s2 := x.setFld (bkTest t b) TL_t_BK_b_TEST_ACTIVE 0
  let s3 := { s2 with nextWin := tput 0 s2.nextWin (9 * t + b) n }
  if n = 0 then s3.setFld (bkTest t b) TL_t_BK_b_TEST_PASSES (s3.fld (bkTest t b) TL_t_BK_b_TEST_PASSES + 1) else s3

theorem doTestWindowEnd_closes {b : Nat} (h : windowOpen s q b = true) : ∃ n, doTestWindowEnd q b none s =
    windowClosed q b n (s.each (List.range 64) (copyWord (saveBase q b) (arrayAddr s q b (512 * windowNo s q b)))) := by
  refine ⟨if windowNo s q b + 1 < windowsOf b then windowNo s q b + 1 else 0, ?_⟩
  unfold doTestWindowEnd
  exact if_pos h

theorem windowClosed_work {b : Nat} (m : Nat) (hq : q < 12) (hb : b < 9) (x : State) :
    TileWork x (windowClosed q b m x) ∧ (windowClosed q b m x).cores = x.cores := by
  have hclosed : TileWork x (x.setFld (bkTest q b) TL_t_BK_b_TEST_ACTIVE 0) := (TileWork.refl x).setFld (bkTest_low b hq hb) _ _
  have hnext : TileWork x { x.setFld (bkTest q b) TL_t_BK_b_TEST_ACTIVE 0 with
      nextWin := tput 0 (x.setFld (bkTest q b) TL_t_BK_b_TEST_ACTIVE 0).nextWin (9 * q + b) m } := ⟨hclosed.dev, hclosed.high⟩
  unfold windowClosed
  dsimp only
  split
  · exact ⟨hnext.setFld (bkTest_low b hq hb) _ _, rfl⟩
  · exact ⟨hnext, rfl⟩

/-- The end of a test window without a failure. -/
theorem doTestWindowEnd_work (b : Nat) (hq : q < 12) (hb : b < 9) (s : State) :
    TileWork s (doTestWindowEnd q b none s) ∧ (doTestWindowEnd q b none s).cores = s.cores := by
  by_cases hopen : windowOpen s q b = true
  · have hrest := copyWords_rest (saveBase q b) (arrayAddr s q b (512 * windowNo s q b)) (List.range 64) s
    have hregs := copyWords_regs (saveBase q b) (arrayAddr s q b (512 * windowNo s q b)) (List.range 64) s
    obtain ⟨m, hm⟩ := doTestWindowEnd_closes hopen
    rw [hm]
    generalize s.each (List.range 64) (copyWord (saveBase q b) (arrayAddr s q b (512 * windowNo s q b))) = x at hrest hregs
    have hcopied : TileWork s x := ⟨(congrArg State.dev hrest :), fun a _ => reg_of_regs_eq hregs a⟩
    obtain ⟨hwork, hcores⟩ := windowClosed_work m hq hb x
    exact ⟨hcopied.trans hwork, hcores.trans (congrArg State.cores hrest :)⟩
  · have hsame : doTestWindowEnd q b none s = s := if_neg hopen
    rw [hsame]
    exact ⟨.refl s, rfl⟩

theorem coreReset_work (hn : n < 48) (s : State) : TileWork s (coreReset n s) := by
  have hlock : TL_t_LOCK (n / 4) < 0x2000000000 := by
    simp only [TL_t_LOCK]
    omega
  have hfault : SC_n_FAULT n < 0x2000000000 := by
    simp only [SC_n_FAULT]
    omega
  have hfree : TileWork s (if holdsLock s n = true then releaseLock n s else s) := by
    split
    · exact (TileWork.refl s).setFld hlock _ _
    · exact .refl s
  unfold coreReset
  dsimp only
  generalize (if holdsLock s n = true then releaseLock n s else s) = x at hfree
  have hcore : TileWork s (x.setCore n Core.reset) := ⟨hfree.dev, hfree.high⟩
  exact hcore.setReg hfault 0

theorem coreReset_core (n m : Nat) (s : State) : (coreReset n s).core m = if m = n then Core.reset else s.core m := by
  rw [core_of_cores_eq (coreReset_eq n s).1]
  split
  next h => rw [h, core_setCore_same]
  next h => exact core_setCore_other _ _ h

theorem tileDmaStep_work (c : Nat) (hq : q < 12) (hc : c < 16) (s : State) :
    TileWork s (setDmaState q c 0 (s.mapDma q c (fun _ => DmaCh.reset))) := by
  have hstat : dmaStat q c < 0x2000000000 := by
    unfold dmaStat dmaBase
    rw [if_pos hq]
    simp only [DMA_t_CH_c_W0]
    omega
  have hbusy : DMA_t_BUSY q < 0x2000000000 := by
    simp only [DMA_t_BUSY]
    omega
  unfold setDmaState
  dsimp only
  rw [if_pos hq]
  have hmap : TileWork s (s.mapDma q c (fun _ => DmaCh.reset)) := ⟨rfl, fun _ _ => rfl⟩
  exact (hmap.setFld hstat _ _).setFld hbusy _ _

theorem tileDmaReset_work (hq : q < 12) (s : State) : TileWork s (tileDmaReset q s) :=
  TileWork.each (fun u c hc => tileDmaStep_work c hq (List.mem_range.1 hc) u) s

theorem tileDmaReset_cores (hq : q < 12) (s : State) : (tileDmaReset q s).cores = s.cores := by
  refine each_induction (P := fun u => u.cores = s.cores) rfl fun u c _ hu => Eq.trans ?_ hu
  unfold setDmaState
  dsimp only
  rw [if_pos hq]
  rfl

theorem tileDmaReset_idle (hq : q < 12) (s : State) {j : Nat} (hj : j < 16) : dmaState (tileDmaReset q s) q j = 0 := by
  refine each_sets (P := fun c (u : State) => dmaState u q c = 0) ?_ ?_ s j (List.mem_range.2 hj)
  · intro u c hc
    exact dmaState_setDmaState (by have := List.mem_range.1 hc; unfold dmaChannels; rw [if_pos hq]; omega) (by decide) _
  · intro u c d hc hd h
    have hc16 := List.mem_range.1 hc
    have hd16 := List.mem_range.1 hd
    by_cases hcd : d = c
    · subst hcd
      exact dmaState_setDmaState (by unfold dmaChannels; rw [if_pos hq]; omega) (by decide) _
    · refine (fld_of_reg_eq ?_ _).trans h
      have hne : dmaStat q d ≠ dmaStat q c ∧ dmaStat q d ≠ DMA_t_BUSY q := by
        unfold dmaStat dmaBase
        rw [if_pos hq, if_pos hq]
        simp only [DMA_t_CH_c_W0, DMA_t_BUSY]
        omega
      unfold setDmaState
      dsimp only
      rw [if_pos hq]
      exact (reg_setFld_other _ _ _ _ _ hne.2).trans (reg_setFld_other _ _ _ _ _ hne.1)

/-- The registers of the tile block that a tile reset writes. -/
def tileBlockRegs (t : Nat) : List Nat := (List.range 8).map (TL_t_BK_b_OWNER t) ++ [TL_t_LOCK t, TL_t_CAP t, TL_t_ERR t, TL_t_VIOL t]

theorem tileBlockReset_onlyRegs (t : Nat) (s : State) : OnlyRegs (tileBlockRegs t) s (tileBlockReset t s) := by
  have howners : OnlyRegs (tileBlockRegs t) s (s.each (List.range 8) (fun s b => s.setReg (TL_t_BK_b_OWNER t b) 0x707)) :=
    each_induction (P := OnlyRegs (tileBlockRegs t) s) (onlyRegs_refl _ _) fun u b hb hu =>
      hu.setReg (List.mem_append_left _ (List.mem_map_of_mem hb)) _
  unfold tileBlockReset
  dsimp only
  generalize s.each (List.range 8) (fun s b => s.setReg (TL_t_BK_b_OWNER t b) 0x707) = x at howners
  have hin (a : Nat) (h : a ∈ [TL_t_LOCK t, TL_t_CAP t, TL_t_ERR t, TL_t_VIOL t]) : a ∈ tileBlockRegs t := List.mem_append_right _ h
  exact (((howners.setFlds (hin _ (by simp)) _).setReg (hin _ (by simp)) _).setReg (hin _ (by simp)) _).setReg (hin _ (by simp)) _

theorem tileBlockReset_rest (q : Nat) (s : State) : (tileBlockReset q s).cores = s.cores ∧ (tileBlockReset q s).dev = s.dev := by
  have h := (tileBlockReset_onlyRegs q s).1
  generalize tileBlockReset q s = x at h
  exact ⟨(congrArg State.cores h :), (congrArg State.dev h :)⟩

theorem not_tileBlockRegs {a : Nat} (h : ∀ b, b < 8 → a ≠ TL_t_BK_b_OWNER q b) (h1 : a ≠ TL_t_LOCK q) (h2 : a ≠ TL_t_CAP q)
    (h3 : a ≠ TL_t_ERR q) (h4 : a ≠ TL_t_VIOL q) : a ∉ tileBlockRegs q := by
  intro hin
  rcases List.mem_append.1 hin with hin | hin
  · obtain ⟨b, hb, rfl⟩ := List.mem_map.1 hin
    exact h b (List.mem_range.1 hb) rfl
  · simp only [List.mem_cons, List.not_mem_nil, or_false] at hin
    omega

theorem tileBlockReset_reg (s : State) {a : Nat} (h : ∀ b, b < 8 → a ≠ TL_t_BK_b_OWNER q b) (h1 : a ≠ TL_t_LOCK q) (h2 : a ≠ TL_t_CAP q)
    (h3 : a ≠ TL_t_ERR q) (h4 : a ≠ TL_t_VIOL q) : (tileBlockReset q s).reg a = s.reg a :=
  (tileBlockReset_onlyRegs q s).2 a (not_tileBlockRegs h h1 h2 h3 h4)

theorem tileBlockReset_work (hq : q < 12) (s : State) : TileWork s (tileBlockReset q s) := by
  refine ⟨(tileBlockReset_rest q s).2, fun a ha => tileBlockReset_reg s ?_ ?_ ?_ ?_ ?_⟩
  · intro b hb
    simp only [TL_t_BK_b_OWNER]
    omega
  all_goals
    simp only [TL_t_LOCK, TL_t_CAP, TL_t_ERR, TL_t_VIOL]
    omega

theorem tileBlockReset_dma (s : State) (hq : q < 12) {j : Nat} (hj : j < 16) : dmaState (tileBlockReset q s) q j = dmaState s q j := by
  have hstat : dmaStat q j = 0x1000C10824 + q * 0x1000000 + j * 0x40 := by
    unfold dmaStat dmaBase
    rw [if_pos hq]
    simp only [DMA_t_CH_c_W0]
    omega
  refine fld_of_reg_eq (tileBlockReset_reg s ?_ ?_ ?_ ?_ ?_) _
  · intro b hb
    simp only [hstat, TL_t_BK_b_OWNER]
    omega
  all_goals
    simp only [hstat, TL_t_LOCK, TL_t_CAP, TL_t_ERR, TL_t_VIOL]
    omega

/-- The test windows of a tile, closed. -/
def windowsEnded (t : Nat) (s : State) : State := s.each (List.range 9) (fun s b => doTestWindowEnd t b none s)

/-- Its four cores, reset. -/
def coresReset (t : Nat) (s : State) : State := s.each (List.range 4) (fun s c => coreReset (4 * t + c) s)

theorem tileReset_eq (t : Nat) (s : State) : tileReset t s = tileBlockReset t (tileDmaReset t (coresReset t (windowsEnded t s))) := rfl

theorem windowsEnded_work (hq : q < 12) (s : State) : TileWork s (windowsEnded q s) ∧ (windowsEnded q s).cores = s.cores :=
  each_induction (P := fun u => TileWork s u ∧ u.cores = s.cores) ⟨.refl s, rfl⟩ fun u b hb hu =>
    ⟨hu.1.trans (doTestWindowEnd_work b hq (List.mem_range.1 hb) u).1, (doTestWindowEnd_work b hq (List.mem_range.1 hb) u).2.trans hu.2⟩

theorem coresReset_work (hq : q < 12) (s : State) : TileWork s (coresReset q s) :=
  TileWork.each (fun u c hc => coreReset_work (by have := List.mem_range.1 hc; omega) u) s

theorem coresReset_core (s : State) {j : Nat} (hj : j < 4) : (coresReset q s).core (4 * q + j) = Core.reset := by
  refine each_sets (P := fun c (u : State) => u.core (4 * q + c) = Core.reset) ?_ ?_ s j (List.mem_range.2 hj)
  · intro u c _
    rw [coreReset_core, if_pos rfl]
  · intro u c d _ _ h
    rw [coreReset_core, h, ite_self]

theorem coresReset_other (s : State) {m : Nat} (h : m / 4 ≠ q) : (coresReset q s).core m = s.core m := by
  refine each_induction (P := fun u => u.core m = s.core m) rfl fun u c hc hu => ?_
  have hc4 := List.mem_range.1 hc
  rw [coreReset_core, if_neg (by omega), hu]

theorem tileReset_work (hq : q < 12) (s : State) : TileWork s (tileReset q s) := by
  rw [tileReset_eq]
  exact (((windowsEnded_work hq s).1.trans (coresReset_work hq _)).trans (tileDmaReset_work hq _)).trans (tileBlockReset_work hq _)

theorem tileReset_cores (hq : q < 12) (s : State) : (tileReset q s).cores = (coresReset q (windowsEnded q s)).cores := by
  rw [tileReset_eq, (tileBlockReset_rest q _).1, tileDmaReset_cores hq]

theorem tileReset_core (hq : q < 12) (s : State) {j : Nat} (hj : j < 4) : ((tileReset q s).core (4 * q + j)).st = 0 := by
  rw [core_of_cores_eq (tileReset_cores hq s), coresReset_core _ hj]
  rfl

theorem tileReset_other (hq : q < 12) (s : State) {m : Nat} (h : m / 4 ≠ q) : (tileReset q s).core m = s.core m := by
  rw [core_of_cores_eq (tileReset_cores hq s), coresReset_other _ h]
  exact core_of_cores_eq (windowsEnded_work hq s).2 m

theorem tileReset_dma (hq : q < 12) (s : State) {j : Nat} (hj : j < 16) : dmaState (tileReset q s) q j = 0 := by
  rw [tileReset_eq, tileBlockReset_dma _ hq hj, tileDmaReset_idle hq _ hj]

end Sys2Proof.Machine
end

section

/-! SUPPORT. Gates and power of a tile (R398, R399): O58. -/

namespace Sys2Proof.Machine
open R

variable {ag : Agent} {q n : Nat} {v : Word} {s t u : State}

/-- A loop that visits `x` once: what holds up to the visit, and what the visit makes true. -/
theorem each_visits {α : Type} {Pre Post : State → Prop} {f : State → α → State} {l : List α} (hn : l.Nodup) {x : α} (hx : x ∈ l)
    (keepPre : ∀ u y, y ∈ l → y ≠ x → Pre u → Pre (f u y)) (visit : ∀ u, Pre u → Post (f u x))
    (keepPost : ∀ u y, y ∈ l → y ≠ x → Post u → Post (f u y)) (h : Pre s) : Post (s.each l f) := by
  obtain ⟨a, b, rfl⟩ := List.append_of_mem hx
  obtain ⟨-, hb, hab⟩ := List.nodup_append.1 hn
  have hxb := (List.nodup_cons.1 hb).1
  have hbefore : Pre (s.each a f) := each_induction (P := Pre) h fun u y hy hu =>
    keepPre u y (List.mem_append_left _ hy) (fun e => hab y hy x (by simp) e) hu
  have heq : s.each (a ++ x :: b) f = (f (s.each a f) x).each b f := by
    unfold State.each
    rw [List.foldl_append, List.foldl_cons]
  rw [heq]
  exact each_induction (P := Post) (visit _ hbefore) fun u y hy hu =>
    keepPost u y (List.mem_append_right _ (List.mem_cons_of_mem _ hy)) (fun e => hxb (e ▸ hy)) hu

theorem tilePend_set (q x : Nat) (s : State) : tilePend (setTilePend q x s) q = x := tget_tput_same ..

theorem tilePend_set_other {j : Nat} (h : j ≠ q) (x : Nat) (s : State) : tilePend (setTilePend q x s) j = tilePend s j := tget_tput_other _ _ _ _ _ _ h

theorem tileOn_of_reg_eq (h : t.reg PM_STAT = s.reg PM_STAT) (q : Nat) : tileOn t q = tileOn s q := by
  unfold tileOn
  rw [fld_of_reg_eq h]

/-! ### PM_TILE_CTL -/

theorem mayGate_congr (hq : q < 12) (hreg : ∀ a, a ≠ PM_TILE_CTL → a ≠ PM_ERR → t.reg a = s.reg a) (hcores : t.cores = s.cores) :
    mayGate t q = mayGate s q := by
  have hlow (a : Nat) (ha : a < PM_TILE_CTL) : t.reg a = s.reg a := hreg a (Nat.ne_of_lt ha) (Nat.ne_of_lt (ha.trans (by decide)))
  have hdma (c : Nat) (hc : c < 16) : dmaState t q c = dmaState s q c := by
    refine fld_of_reg_eq (hlow _ ?_) _
    unfold dmaStat dmaBase
    rw [if_pos hq]
    simp only [DMA_t_CH_c_W0, PM_TILE_CTL]
    omega
  have hphys (p : Nat) (hp : p < 12) : t.fld (SX_TP_t_PHYS p) SX_TP_t_PHYS_CUR = s.fld (SX_TP_t_PHYS p) SX_TP_t_PHYS_CUR :=
    fld_of_reg_eq (hlow _ (by simp only [SX_TP_t_PHYS, PM_TILE_CTL]; omega)) _
  have hport : portOfTile t q = portOfTile s q := by
    have hfilter : (List.range 12).filter (fun p => decide (t.fld (SX_TP_t_PHYS p) SX_TP_t_PHYS_CUR = q) && decide (p ≠ q)) =
        (List.range 12).filter (fun p => decide (s.fld (SX_TP_t_PHYS p) SX_TP_t_PHYS_CUR = q) && decide (p ≠ q)) :=
      List.filter_congr fun p hp => by rw [hphys p (List.mem_range.1 hp)]
    unfold portOfTile
    rw [hfilter, hphys q hq]
  have hrun : sxRunning t = sxRunning s := flag_of_reg_eq (hlow _ (by decide)) _
  unfold mayGate
  rw [hport, hrun]
  refine congrArg₂ and (congrArg₂ and ?_ ?_) rfl
  · simp only [core_of_cores_eq hcores]
  · rw [Bool.eq_iff_iff, List.all_eq_true, List.all_eq_true]
    exact forall₂_congr fun c hc => by rw [hdma c (List.mem_range.1 hc)]

/-- Two states agree on everything but the gates: PM_TILE_CTL, PM_ERR and the power changes that wait. -/
structure GateWork (s t : State) : Prop where
  reg : ∀ a, a ≠ PM_TILE_CTL → a ≠ PM_ERR → t.reg a = s.reg a
  ret : t.fld PM_TILE_CTL PM_TILE_CTL_RET = s.fld PM_TILE_CTL PM_TILE_CTL_RET
  cores : t.cores = s.cores

namespace GateWork

theorem refl (s : State) : GateWork s s := ⟨fun _ _ _ => rfl, rfl, rfl⟩

theorem trans (h : GateWork s t) (k : GateWork t u) : GateWork s u :=
  ⟨fun a h1 h2 => (k.reg a h1 h2).trans (h.reg a h1 h2), k.ret.trans h.ret, k.cores.trans h.cores⟩

theorem pend (q x : Nat) (s : State) : GateWork s (setTilePend q x s) := ⟨fun _ _ _ => rfl, rfl, rfl⟩

theorem gate (s : State) (q : Nat) (b : Bool) : GateWork s (setBit s PM_TILE_CTL PM_TILE_CTL_GATE q b) :=
  ⟨fun _ h _ => setBit_reg _ _ _ _ _ h, setBit_beside _ _ _ _ (by decide) (by decide) _ _, rfl⟩

theorem busy (s : State) : GateWork s (s.setFld PM_ERR PM_ERR_GATE_BUSY 1) :=
  ⟨fun _ _ h => reg_setFld_other _ _ _ _ _ h, fld_setFld_other _ _ _ _ _ _ (by decide), rfl⟩

theorem mayGate (h : GateWork s t) (hq : q < 12) : Machine.mayGate t q = Machine.mayGate s q := mayGate_congr hq h.reg h.cores

end GateWork

theorem gateTile_gates (h1 : bits v.toNat q 1 = 1) (h2 : tileGate s q = false) (h3 : mayGate s q = true) :
    gateTile v s q = setTilePend q 1 (setBit s PM_TILE_CTL PM_TILE_CTL_GATE q true) := by
  unfold gateTile
  dsimp only
  rw [if_pos ⟨h1, by rw [h2]; decide⟩, if_pos h3]

theorem gateTile_refuses (h1 : bits v.toNat q 1 = 1) (h2 : tileGate s q = false) (h3 : mayGate s q = false) :
    gateTile v s q = s.setFld PM_ERR PM_ERR_GATE_BUSY 1 := by
  unfold gateTile
  dsimp only
  rw [if_pos ⟨h1, by rw [h2]; decide⟩, if_neg (by rw [h3]; decide)]

theorem gateTile_opens (h1 : bits v.toNat q 1 = 0) (h2 : tileGate s q = true) :
    gateTile v s q = setTilePend q 2 (setBit s PM_TILE_CTL PM_TILE_CTL_GATE q false) := by
  have hno : ¬ bits v.toNat q 1 = 1 := by omega
  unfold gateTile
  dsimp only
  rw [if_neg fun e => hno e.1, if_pos ⟨hno, h2⟩]

/-- The write of one tile's bit either does nothing, records a refusal, or moves the bit with its power change. -/
theorem gateTile_cases (v : Word) (s : State) (q : Nat) : gateTile v s q = s ∨ gateTile v s q = s.setFld PM_ERR PM_ERR_GATE_BUSY 1 ∨
    ∃ b x, gateTile v s q = setTilePend q x (setBit s PM_TILE_CTL PM_TILE_CTL_GATE q b) := by
  unfold gateTile
  dsimp only
  split
  · split
    · exact .inr (.inr ⟨_, _, rfl⟩)
    · exact .inr (.inl rfl)
  · split
    · exact .inr (.inr ⟨_, _, rfl⟩)
    · exact .inl rfl

theorem gateTile_work (v : Word) (s : State) (q : Nat) : GateWork s (gateTile v s q) := by
  obtain h | h | ⟨b, x, h⟩ := gateTile_cases v s q
  · rw [h]
    exact .refl s
  · rw [h]
    exact .busy s
  · rw [h]
    exact (GateWork.gate s q b).trans (.pend _ _ _)

/-- What one tile sees of the write of another's bit. -/
theorem gateTile_other {j : Nat} (hj : j < 12) (h : j ≠ q) (v : Word) (s : State) : tileGate (gateTile v s q) j = tileGate s j ∧
    tilePend (gateTile v s q) j = tilePend s j ∧
    (s.fld PM_ERR PM_ERR_GATE_BUSY = 1 → (gateTile v s q).fld PM_ERR PM_ERR_GATE_BUSY = 1) := by
  obtain e | e | ⟨b, x, e⟩ := gateTile_cases v s q
  · rw [e]
    exact ⟨rfl, rfl, id⟩
  · rw [e]
    refine ⟨?_, rfl, fun _ => fld_setFld_of_lt _ _ _ _ (by decide) (by decide)⟩
    unfold tileGate
    rw [fld_setFld_other _ _ _ _ _ _ (by decide)]
  · rw [e]
    refine ⟨?_, tilePend_set_other h _ _, fun hb => (fld_of_reg_eq (setBit_reg _ _ _ _ _ (by decide)) _).trans hb⟩
    have hbit := setBit_other s PM_TILE_CTL (f := PM_TILE_CTL_GATE) (by decide) (i := q) (j := j) hj h b
    exact congrArg (fun k => decide (k = 1)) hbit

/-- The gates as PM_TILE_CTL is written. -/
def gatesWritten (v : Word) (s : State) : State :=
  (s.setFld PM_TILE_CTL PM_TILE_CTL_RET (bits v.toNat 16 12)).each (List.range 12) (gateTile v)

/-- A tile without its gate and without power comes on. -/
def powerUngated (s : State) (t : Nat) : State := if !tileGate s t && !tileOn s t && tilePend s t = 0 then setTilePend t 2 s else s

theorem doTileGateWrite_eq (hag : ag = .clove ∨ ag = .dap) (v : Word) (s : State) :
    doTileGateWrite ag v s = (gatesWritten v s).each (List.range 12) powerUngated := by
  unfold doTileGateWrite writeTileCtl
  rw [cloveOrDap_of hag]
  rfl

theorem powerUngated_cases (s : State) (q : Nat) : powerUngated s q = s ∨ powerUngated s q = setTilePend q 2 s := by
  unfold powerUngated
  split
  · exact .inr rfl
  · exact .inl rfl

theorem powerUngated_work (s : State) (q : Nat) : GateWork s (powerUngated s q) ∧ (powerUngated s q).regs = s.regs := by
  rcases powerUngated_cases s q with h | h
  · rw [h]
    exact ⟨.refl s, rfl⟩
  · rw [h]
    exact ⟨.pend _ _ _, rfl⟩

theorem powerUngated_other {j : Nat} (h : j ≠ q) (s : State) : tilePend (powerUngated s q) j = tilePend s j := by
  rcases powerUngated_cases s q with e | e
  · rw [e]
  · rw [e, tilePend_set_other h]

theorem powerUngated_keeps (h : tileGate s q = true ∨ tilePend s q ≠ 0) : powerUngated s q = s := by
  unfold powerUngated
  refine if_neg ?_
  rcases h with h | h <;> simp [h]

/-- The whole write but for the power changes that it starts. -/
theorem ungated_all (s : State) : GateWork s (s.each (List.range 12) powerUngated) ∧ (s.each (List.range 12) powerUngated).regs = s.regs :=
  each_induction (P := fun u => GateWork s u ∧ u.regs = s.regs) ⟨.refl s, rfl⟩ fun u k _ hu =>
    ⟨hu.1.trans (powerUngated_work u k).1, (powerUngated_work u k).2.trans hu.2⟩

theorem ungated_pend (h : tileGate s q = true ∨ tilePend s q ≠ 0) : tilePend (s.each (List.range 12) powerUngated) q = tilePend s q := by
  have hgate (u : State) (hu : u.regs = s.regs) : tileGate u q = tileGate s q := by
    unfold tileGate
    rw [fld_of_reg_eq (reg_of_regs_eq hu _)]
  refine (each_induction (P := fun u => u.regs = s.regs ∧ tilePend u q = tilePend s q) ⟨rfl, rfl⟩ fun u k _ hu => ?_).2
  refine ⟨(powerUngated_work u k).2.trans hu.1, ?_⟩
  by_cases hk : q = k
  · subst hk
    rw [powerUngated_keeps (by rw [hgate u hu.1, hu.2]; exact h), hu.2]
  · rw [powerUngated_other hk, hu.2]

theorem gatesWritten_work (v : Word) (s : State) :
    GateWork (s.setFld PM_TILE_CTL PM_TILE_CTL_RET (bits v.toNat 16 12)) (gatesWritten v s) :=
  each_induction (P := GateWork (s.setFld PM_TILE_CTL PM_TILE_CTL_RET (bits v.toNat 16 12))) (.refl _) fun u k _ hu =>
    hu.trans (gateTile_work v u k)

/-- What tile `q` sees of the writes of the other tiles' bits. -/
structure GateAhead (q : Nat) (s u : State) : Prop where
  work : GateWork s u
  gate : tileGate u q = tileGate s q
  pend : tilePend u q = tilePend s q

theorem GateAhead.step (hq : q < 12) (h : GateAhead q s u) (v : Word) {j : Nat} (hj : j ≠ q) : GateAhead q s (gateTile v u j) := by
  obtain ⟨h1, h2, -⟩ := gateTile_other hq (Ne.symm hj) v u
  exact ⟨h.work.trans (gateTile_work v u j), h1.trans h.gate, h2.trans h.pend⟩

/-- The write of all gates, seen by tile `q`: `Post` holds after its own bit is written. -/
theorem gates_visit (hq : q < 12) (v : Word) (s : State) {Post : State → Prop} (visit : ∀ u, GateAhead q s u → Post (gateTile v u q))
    (keep : ∀ u j, j ≠ q → Post u → Post (gateTile v u j)) : Post (s.each (List.range 12) (gateTile v)) :=
  each_visits (Pre := GateAhead q s) List.nodup_range (List.mem_range.2 hq) (fun _ _ _ hne hu => hu.step hq v hne) visit
    (fun u j _ hne hu => keep u j hne hu) ⟨.refl s, rfl, rfl⟩

theorem tileGate_setBit (hq : q < 12) (s : State) (b : Bool) (x : Nat) :
    tileGate (setTilePend q x (setBit s PM_TILE_CTL PM_TILE_CTL_GATE q b)) q = b := by
  have h := setBit_same s PM_TILE_CTL (f := PM_TILE_CTL_GATE) (by decide) hq b
  refine (congrArg (fun k => decide (k = 1)) h).trans ?_
  cases b <;> rfl

theorem gates_gated (hq : q < 12) (h1 : bits v.toNat q 1 = 1) (h2 : tileGate s q = false) (h3 : mayGate s q = true) :
    tileGate (s.each (List.range 12) (gateTile v)) q = true ∧ tilePend (s.each (List.range 12) (gateTile v)) q = 1 := by
  refine gates_visit (Post := fun u => tileGate u q = true ∧ tilePend u q = 1) hq v s (fun u hu => ?_) fun u j hj hu => ?_
  · rw [gateTile_gates h1 (hu.gate.trans h2) ((hu.work.mayGate hq).trans h3)]
    exact ⟨tileGate_setBit hq u true 1, tilePend_set _ _ _⟩
  · obtain ⟨e1, e2, -⟩ := gateTile_other hq (Ne.symm hj) v u
    exact ⟨e1.trans hu.1, e2.trans hu.2⟩

theorem gates_refused (hq : q < 12) (h1 : bits v.toNat q 1 = 1) (h2 : tileGate s q = false) (h3 : mayGate s q = false) :
    tileGate (s.each (List.range 12) (gateTile v)) q = false ∧ (s.each (List.range 12) (gateTile v)).fld PM_ERR PM_ERR_GATE_BUSY = 1 := by
  refine gates_visit (Post := fun u => tileGate u q = false ∧ u.fld PM_ERR PM_ERR_GATE_BUSY = 1) hq v s (fun u hu => ?_) fun u j hj hu => ?_
  · rw [gateTile_refuses h1 (hu.gate.trans h2) ((hu.work.mayGate hq).trans h3)]
    refine ⟨?_, fld_setFld_of_lt _ _ _ _ (by decide) (by decide)⟩
    refine Eq.trans ?_ (hu.gate.trans h2)
    unfold tileGate
    rw [fld_setFld_other _ _ _ _ _ _ (by decide)]
  · obtain ⟨e1, -, e3⟩ := gateTile_other hq (Ne.symm hj) v u
    exact ⟨e1.trans hu.1, e3 hu.2⟩

theorem gates_opened (hq : q < 12) (h1 : bits v.toNat q 1 = 0) (h2 : tileGate s q = true) :
    tileGate (s.each (List.range 12) (gateTile v)) q = false ∧ tilePend (s.each (List.range 12) (gateTile v)) q = 2 := by
  refine gates_visit (Post := fun u => tileGate u q = false ∧ tilePend u q = 2) hq v s (fun u hu => ?_) fun u j hj hu => ?_
  · rw [gateTile_opens h1 (hu.gate.trans h2)]
    exact ⟨tileGate_setBit hq u false 2, tilePend_set _ _ _⟩
  · obtain ⟨e1, e2, -⟩ := gateTile_other hq (Ne.symm hj) v u
    exact ⟨e1.trans hu.1, e2.trans hu.2⟩

/-- The retention bits, written first, leave the gates. -/
theorem retWritten_gate (v : Word) (s : State) (q : Nat) : tileGate (s.setFld PM_TILE_CTL PM_TILE_CTL_RET (bits v.toNat 16 12)) q = tileGate s q := by
  unfold tileGate
  rw [fld_setFld_ne _ _ _ _ _ (by decide) (by decide)]

theorem retWritten_mayGate (hq : q < 12) (v : Word) (s : State) :
    mayGate (s.setFld PM_TILE_CTL PM_TILE_CTL_RET (bits v.toNat 16 12)) q = mayGate s q :=
  mayGate_congr hq (fun _ h _ => reg_setFld_other _ _ _ _ _ h) rfl

/-- A write of PM_TILE_CTL, seen by one tile. -/
theorem doTileGateWrite_effect (hq : q < 12) (hag : ag = .clove ∨ ag = .dap) (v : Word) (s : State) :
    let t := doTileGateWrite ag v s
    t.fld PM_TILE_CTL PM_TILE_CTL_RET = bits v.toNat 16 12 ∧
      (∀ a, a ≠ PM_TILE_CTL → a ≠ PM_ERR → t.reg a = s.reg a) ∧
      (bits v.toNat q 1 = 1 → tileGate s q = false → mayGate s q = true → tileGate t q = true ∧ tilePend t q = 1) ∧
      (bits v.toNat q 1 = 1 → tileGate s q = false → mayGate s q = false → tileGate t q = false ∧ t.fld PM_ERR PM_ERR_GATE_BUSY = 1) ∧
      (bits v.toNat q 1 = 0 → tileGate s q = true → tileGate t q = false ∧ tilePend t q = 2) := by
  have hret : bits v.toNat 16 12 < 2 ^ 12 := Nat.mod_lt _ (by decide)
  have hset := fld_setFld_of_lt s PM_TILE_CTL PM_TILE_CTL_RET (bits v.toNat 16 12) (by decide) hret
  have hwork := gatesWritten_work v s
  obtain ⟨hup, hregs⟩ := ungated_all (gatesWritten v s)
  have hgate : tileGate ((gatesWritten v s).each (List.range 12) powerUngated) q = tileGate (gatesWritten v s) q := by
    unfold tileGate
    rw [fld_of_reg_eq (reg_of_regs_eq hregs _)]
  have hpend := ungated_pend (q := q) (s := gatesWritten v s)
  dsimp only
  rw [doTileGateWrite_eq hag, hgate]
  refine ⟨hup.ret.trans (hwork.ret.trans hset), fun a h1 h2 => ?_, fun h1 h2 h3 => ?_, fun h1 h2 h3 => ?_, fun h1 h2 => ?_⟩
  · exact (reg_of_regs_eq hregs a).trans ((hwork.reg a h1 h2).trans (reg_setFld_other _ _ _ _ _ h1))
  · obtain ⟨e1, e2⟩ := gates_gated hq h1 ((retWritten_gate v s q).trans h2) ((retWritten_mayGate hq v s).trans h3)
    exact ⟨e1, (hpend (.inl e1)).trans e2⟩
  · obtain ⟨e1, e2⟩ := gates_refused hq h1 ((retWritten_gate v s q).trans h2) ((retWritten_mayGate hq v s).trans h3)
    exact ⟨e1, (fld_of_reg_eq (reg_of_regs_eq hregs _) _).trans e2⟩
  · obtain ⟨e1, e2⟩ := gates_opened hq h1 ((retWritten_gate v s q).trans h2)
    have e2' : tilePend (gatesWritten v s) q = 2 := e2
    exact ⟨e1, (hpend (.inr (by rw [e2']; decide))).trans e2⟩

/-! ### TILE_POWER_OFF and TILE_POWER_ON -/

/-- A tile whose power has just changed. -/
def powerSet (q : Nat) (b : Bool) (s : State) : State := setBit (setTilePend q 0 s) PM_STAT PM_STAT_TILE_ON q b

theorem powerSet_on (hq : q < 12) (b : Bool) (s : State) : tileOn (powerSet q b s) q = b := by
  have h := setBit_same (setTilePend q 0 s) PM_STAT (f := PM_STAT_TILE_ON) (by decide) hq b
  refine (congrArg (fun k => decide (k = 1)) h).trans ?_
  cases b <;> rfl

theorem powerSet_pend (q : Nat) (b : Bool) (s : State) : tilePend (powerSet q b s) q = 0 := tilePend_set q 0 s

theorem powerSet_onlyRegs (q : Nat) (b : Bool) (s : State) : OnlyRegs [PM_STAT] { s with dev := (powerSet q b s).dev } (powerSet q b s) :=
  (onlyRegs_refl _ { s with dev := (powerSet q b s).dev }).setFld (by simp) _ _

theorem tilePowerOff_idle (h : tilePend s q ≠ 1) : doTilePowerOff q s = s := if_pos h

theorem tilePowerOff_retains (h : tilePend s q = 1) (hr : tileRet s q = true) : doTilePowerOff q s = powerSet q false s :=
  (if_neg (not_not.2 h)).trans (if_pos hr)

/-- The contents of a tile's memories are gone. -/
def contentsLost (q : Nat) (x : State) : State := { x with mem := tdrop (inTile q) x.mem, ecc := tdrop (fun w => inTile q (8 * w)) x.ecc }

theorem contentsLost_work (q : Nat) (x : State) : TileWork x (contentsLost q x) := ⟨rfl, fun _ _ => rfl⟩

theorem contentsLost_core (q m : Nat) (x : State) : (contentsLost q x).core m = x.core m := rfl

theorem contentsLost_byte {a : Nat} (ha : inTile q a = true) (x : State) : (contentsLost q x).byte a = 0 := byte_tdrop_dropped (p := inTile q) x.mem ha

theorem tilePowerOff_loses (h : tilePend s q = 1) (hr : tileRet s q = false) : doTilePowerOff q s = contentsLost q (tileReset q (powerSet q false s)) :=
  (if_neg (not_not.2 h)).trans (if_neg (by rw [hr]; decide))

theorem doTilePowerOff_effect (hq : q < 12) (h : tilePend s q = 1) : tileOn (doTilePowerOff q s) q = false ∧ tilePend (doTilePowerOff q s) q = 0 ∧
    (tileRet s q = true → OnlyRegs [PM_STAT] { s with dev := (doTilePowerOff q s).dev } (doTilePowerOff q s)) ∧
    (tileRet s q = false → (∀ j : Fin 4, ((doTilePowerOff q s).core (4 * q + j)).st = 0) ∧
      ∀ a, inTile q a = true → (doTilePowerOff q s).byte a = 0) := by
  cases hr : tileRet s q with
  | true =>
    rw [tilePowerOff_retains h hr]
    exact ⟨powerSet_on hq false s, powerSet_pend q false s, fun _ => powerSet_onlyRegs q false s, fun e => absurd e (by decide)⟩
  | false =>
    have hreset := tileReset_work hq (powerSet q false s)
    have hcore := fun j (hj : j < 4) => tileReset_core hq (powerSet q false s) hj
    rw [tilePowerOff_loses h hr]
    generalize tileReset q (powerSet q false s) = x at hreset hcore ⊢
    have hwork := hreset.trans (contentsLost_work q x)
    refine ⟨(tileOn_of_reg_eq (hwork.high _ (by decide)) q).trans (powerSet_on hq false s), ?_, fun e => absurd e (by decide),
      fun _ => ⟨fun j => (congrArg Core.st (contentsLost_core q _ x)).trans (hcore j j.isLt), fun a ha => contentsLost_byte ha x⟩⟩
    unfold tilePend
    rw [hwork.dev]
    exact powerSet_pend q false s

/-- What a wait of core `n` leaves of memory, of the device and of the registers. -/
structure WaitWork (n : Nat) (s t : State) : Prop where
  mem : t.mem = s.mem
  dev : t.dev = s.dev
  reg : ∀ a, a ≠ SC_n_WINGAP n → a ≠ WD_SC_n_STAT n → t.reg a = s.reg a
  ticks : s.fld (WD_SC_n_STAT n) WD_SC_n_STAT_TICKS = 0 → t.fld (WD_SC_n_STAT n) WD_SC_n_STAT_TICKS = 0

namespace WaitWork

theorem refl (n : Nat) (s : State) : WaitWork n s s := ⟨rfl, rfl, fun _ _ _ => rfl, id⟩

theorem trans (h : WaitWork n s t) (k : WaitWork n t u) : WaitWork n s u :=
  ⟨k.mem.trans h.mem, k.dev.trans h.dev, fun a h1 h2 => (k.reg a h1 h2).trans (h.reg a h1 h2), fun e => k.ticks (h.ticks e)⟩

theorem mapCore (n m : Nat) (f : Core → Core) (s : State) : WaitWork n s (s.mapCore m f) := ⟨rfl, rfl, fun _ _ _ => rfl, id⟩

theorem kick (n : Nat) (s : State) : WaitWork n s (kickCore n s) :=
  ⟨rfl, rfl, fun _ _ h => reg_setFld_other _ _ _ _ _ h, fun _ => fld_setFld_of_lt _ _ _ _ (by decide) (by decide)⟩

theorem note (n : Nat) (s : State) : WaitWork n s (noteOpportunity n s) := by
  have hne : WD_SC_n_STAT n ≠ SC_n_WINGAP n := by
    simp only [WD_SC_n_STAT, SC_n_WINGAP]
    omega
  unfold noteOpportunity
  dsimp only
  split
  · have hgap (x : Nat) : WaitWork n s (s.setFld (SC_n_WINGAP n) SC_n_WINGAP_MAXGAP x) :=
      ⟨rfl, rfl, fun _ h _ => reg_setFld_other _ _ _ _ _ h, fun e => (fld_setFld_other _ _ _ _ _ _ hne).trans e⟩
    exact (hgap _).trans (.mapCore n n _ _)
  · exact .mapCore n n _ s

theorem accept (n w wait : Nat) (s : State) : WaitWork n s (Machine.accept n w wait s) := by
  unfold Machine.accept
  split
  · exact .refl n s
  · exact .mapCore n n _ s

theorem inWait (n : Nat) (s : State) : WaitWork n s (Machine.inWait n s) := by
  unfold Machine.inWait
  dsimp only
  split
  · exact (WaitWork.mapCore n n _ s).trans (.kick n _)
  · have haccept : WaitWork n s (if (s.core n).freezeReq = true then noteOpportunity n s
        else Machine.accept n (s.core n).cyc (s.core n).st (noteOpportunity n s)) := by
      split
      · exact .note n s
      · exact (WaitWork.note n s).trans (.accept n _ _ _)
    generalize (if (s.core n).freezeReq = true then noteOpportunity n s
        else Machine.accept n (s.core n).cyc (s.core n).st (noteOpportunity n s)) = x at haccept ⊢
    split
    · exact haccept
    · split
      · exact haccept.trans (.mapCore n n _ _)
      · exact haccept

theorem presented (n : Nat) (s : State) : WaitWork n s (corePresented n s) := by
  unfold corePresented
  dsimp only
  split
  · exact .inWait n s
  · exact .refl n s

end WaitWork

/-- What TILE_POWER_ON does for one core. -/
def coreWoken (q : Nat) (s : State) (c : Nat) : State :=
  let n := 4 * q + c
  let s2 := s.setFld (WD_SC_n_STAT n) WD_SC_n_STAT_TICKS 0
  if pres s2 n ≠ 0 then corePresented n s2 else s2

theorem coreWoken_work (q : Nat) (s : State) (c : Nat) : WaitWork (4 * q + c) s (coreWoken q s c) ∧
    (coreWoken q s c).fld (WD_SC_n_STAT (4 * q + c)) WD_SC_n_STAT_TICKS = 0 := by
  have hkick := WaitWork.kick (4 * q + c) s
  have hzero : (kickCore (4 * q + c) s).fld (WD_SC_n_STAT (4 * q + c)) WD_SC_n_STAT_TICKS = 0 := fld_setFld_of_lt _ _ _ _ (by decide) (by decide)
  have heq : coreWoken q s c = if pres (kickCore (4 * q + c) s) (4 * q + c) ≠ 0 then corePresented (4 * q + c) (kickCore (4 * q + c) s)
      else kickCore (4 * q + c) s := rfl
  rw [heq]
  generalize kickCore (4 * q + c) s = x at hkick hzero
  split
  · have h := WaitWork.presented (4 * q + c) x
    exact ⟨hkick.trans h, h.ticks hzero⟩
  · exact ⟨hkick, hzero⟩

theorem doTilePowerOn_eq (h : tilePend s q = 2) : doTilePowerOn q s = (powerSet q true s).each (List.range 4) (coreWoken q) := if_neg (not_not.2 h)

theorem doTilePowerOn_effect (hq : q < 12) (h : tilePend s q = 2) : tileOn (doTilePowerOn q s) q = true ∧ tilePend (doTilePowerOn q s) q = 0 ∧
    (doTilePowerOn q s).mem = s.mem ∧ ∀ j : Fin 4, (doTilePowerOn q s).fld (WD_SC_n_STAT (4 * q + j)) WD_SC_n_STAT_TICKS = 0 := by
  have hstat (n : Nat) : PM_STAT ≠ SC_n_WINGAP n ∧ PM_STAT ≠ WD_SC_n_STAT n ∨ 48 ≤ n := by
    simp only [PM_STAT, SC_n_WINGAP, WD_SC_n_STAT]
    omega
  rw [doTilePowerOn_eq h]
  have hkept : ((powerSet q true s).each (List.range 4) (coreWoken q)).mem = (powerSet q true s).mem ∧
      ((powerSet q true s).each (List.range 4) (coreWoken q)).dev = (powerSet q true s).dev ∧
      ((powerSet q true s).each (List.range 4) (coreWoken q)).reg PM_STAT = (powerSet q true s).reg PM_STAT := by
    refine each_induction (P := fun u => u.mem = (powerSet q true s).mem ∧ u.dev = (powerSet q true s).dev ∧
      u.reg PM_STAT = (powerSet q true s).reg PM_STAT) ⟨rfl, rfl, rfl⟩ fun u c hc hu => ?_
    obtain ⟨hmem, hdev, hreg⟩ := hu
    have hwork := (coreWoken_work q u c).1
    have hc4 := List.mem_range.1 hc
    obtain ⟨h1, h2⟩ := (hstat (4 * q + c)).resolve_right (by omega)
    exact ⟨hwork.mem.trans hmem, hwork.dev.trans hdev, (hwork.reg _ h1 h2).trans hreg⟩
  obtain ⟨hmem, hdev, hreg⟩ := hkept
  refine ⟨(tileOn_of_reg_eq hreg q).trans (powerSet_on hq true s), ?_, hmem.trans rfl, fun j => ?_⟩
  · unfold tilePend
    rw [hdev]
    exact powerSet_pend q true s
  · refine each_sets (P := fun c (u : State) => u.fld (WD_SC_n_STAT (4 * q + c)) WD_SC_n_STAT_TICKS = 0) (fun u c _ => (coreWoken_work q u c).2)
      (fun u c d hc hd hu => ?_) _ j.val (List.mem_range.2 j.isLt)
    have hc4 := List.mem_range.1 hc
    have hd4 := List.mem_range.1 hd
    by_cases hcd : d = c
    · subst hcd
      exact (coreWoken_work q u d).2
    · refine (fld_of_reg_eq ((coreWoken_work q u c).1.reg _ ?_ ?_) _).trans hu
      · simp only [WD_SC_n_STAT, SC_n_WINGAP]
        omega
      · simp only [WD_SC_n_STAT]
        omega

end Sys2Proof.Machine
end

section

/-! SUPPORT. The start of the device: containers, loading and minimal mode (R362 to R381): O58. -/

namespace Sys2Proof.Machine
open R

variable {q : Nat} {s t u : State}

/-! ### What a verification reads -/

theorem certOk_congr (h : t.otp = s.otp) (l : List Byte) : certOk t l = certOk s l := by
  unfold certOk
  rw [h]

theorem chainRest_congr (h : t.otp = s.otp) (l : List Byte) (rest : List (List Byte)) : chainRest t l rest = chainRest s l rest := by
  induction rest generalizing l with
  | nil => rfl
  | cons e rest ih =>
    unfold chainRest
    rw [certOk_congr h, ih]

theorem chainSigner_congr (h : t.otp = s.otp) (l : List Byte) (n a c : Nat) : chainSigner t l n a c = chainSigner s l n a c := by
  unfold chainSigner
  cases certsOf l n with
  | nil => rfl
  | cons e rest =>
    dsimp only
    rw [h, certOk_congr h, chainRest_congr h]

/-- Two states in which containers verify alike: the same memory, one-time bits and version of the ROM. -/
structure SameImages (s t : State) : Prop where
  mem : t.mem = s.mem
  otp : t.otp = s.otp
  rom : t.reg MC_ROM_VER = s.reg MC_ROM_VER

namespace SameImages

theorem trans (h : SameImages s t) (k : SameImages t u) : SameImages s u := ⟨k.mem.trans h.mem, k.otp.trans h.otp, k.rom.trans h.rom⟩

theorem manifestReason (h : SameImages s t) (b : Nat) : Machine.manifestReason t b = Machine.manifestReason s b := by
  have hnum := num_of_mem_eq h.mem
  have hbytes := bytes_of_mem_eq h.mem
  have hchain := chainSigner_congr h.otp
  unfold Machine.manifestReason headerOk cMagic cFormat sigAt manifestLen cNent cCertOff cCertLen
  simp only [hnum, hbytes, hchain]

theorem rollbackReason (h : SameImages s t) (b : Nat) : Machine.rollbackReason t b = Machine.rollbackReason s b := by
  unfold Machine.rollbackReason cRollback
  rw [num_of_mem_eq h.mem, h.otp]

theorem imageKey (h : SameImages s t) (k : Nat) : Machine.imageKey t k = Machine.imageKey s k := by
  have hladder (k : Nat) : ladderKey t k = ladderKey s k := by
    unfold ladderKey
    rw [h.otp]
  unfold Machine.imageKey keyRecord
  simp only [num_of_mem_eq h.mem, bytes_of_mem_eq h.mem, hladder, h.otp]

theorem keyId (h : SameImages s t) (b : Nat) : cKeyId t b = cKeyId s b := num_of_mem_eq h.mem _ _

theorem entriesReason (h : SameImages s t) (b : Nat) (key : List Byte) : Machine.entriesReason t b key = Machine.entriesReason s b key := by
  have hnum := num_of_mem_eq h.mem
  have hbytes := bytes_of_mem_eq h.mem
  have hchain := chainSigner_congr h.otp
  have hpay (k : List Byte) (e : Entry) : payload t b k e = payload s b k e := by
    unfold payload
    simp only [hbytes]
  have hpatch (l : List Byte) : patchOk t l = patchOk s l := by
    unfold patchOk
    rw [h.rom]
  have hcust (l : List Byte) : customerOk t l = customerOk s l := by
    unfold customerOk
    simp only [hchain]
  have hentry (k : List Byte) (l : List Entry) (j : Nat) (e : Entry) : entryReason t b k l j e = entryReason s b k l j e := by
    unfold entryReason
    simp only [hpay, hpatch, hcust]
  have hentries : entries t b = entries s b := by
    unfold entries entryAt cNent
    simp only [hnum, hbytes]
  unfold Machine.entriesReason
  simp only [hentries, hentry]

theorem verifyReason (h : SameImages s t) (b : Nat) : Machine.verifyReason t b = Machine.verifyReason s b := by
  unfold Machine.verifyReason
  simp only [h.manifestReason, h.rollbackReason, h.keyId, h.imageKey, h.entriesReason]

end SameImages

theorem firstOf_eq_zero {l : List Nat} (h : firstOf l = 0) : ∀ x ∈ l, x = 0 := by
  unfold firstOf at h
  cases hf : l.find? (· ≠ 0) with
  | none =>
    intro x hx
    simpa using List.find?_eq_none.1 hf x hx
  | some y =>
    have hy : y ≠ 0 := by simpa using List.find?_some hf
    rw [hf] at h
    exact absurd h hy

theorem firstOf_zero {l : List Nat} (h : ∀ x ∈ l, x = 0) : firstOf l = 0 := by
  unfold firstOf
  rw [List.find?_eq_none.2 fun x hx => by simp [h x hx]]
  rfl

/-- A container that verifies passes every step. -/
theorem verified {b : Nat} (h : verifyReason s b = 0) : manifestReason s b = 0 ∧ rollbackReason s b = 0 ∧
    ∃ key, imageKey s (cKeyId s b) = some key ∧ (entriesReason s b key).1 = 0 := by
  have hall := firstOf_eq_zero h
  refine ⟨hall _ (by simp), hall _ (by simp), ?_⟩
  have hkey := hall _ (List.mem_cons_of_mem _ (List.mem_cons_of_mem _ (List.mem_cons_self ..)))
  cases hk : imageKey s (cKeyId s b) with
  | none =>
    rw [hk] at hkey
    exact absurd (show rKeyBlob = 0 from hkey) (by decide)
  | some key =>
    rw [hk] at hkey
    exact ⟨key, rfl, hkey⟩

/-! ### Loading -/

/-- What loading leaves: the device and the power of the tiles. -/
structure LoadWork (s t : State) : Prop where
  dev : t.dev = s.dev
  power : t.reg PM_STAT = s.reg PM_STAT

namespace LoadWork

theorem refl (s : State) : LoadWork s s := ⟨rfl, rfl⟩

theorem trans (h : LoadWork s t) (k : LoadWork t u) : LoadWork s u := ⟨k.dev.trans h.dev, k.power.trans h.power⟩

theorem setReg (h : LoadWork s t) {a : Nat} (ha : PM_STAT ≠ a) (v : Word) : LoadWork s (t.setReg a v) :=
  ⟨h.dev, (reg_setReg_other _ _ _ _ ha).trans h.power⟩

theorem setFld (h : LoadWork s t) {a : Nat} (ha : PM_STAT ≠ a) (f : Fld) (x : Nat) : LoadWork s (t.setFld a f x) := h.setReg ha _

theorem setBytes (h : LoadWork s t) (a : Nat) (l : List Byte) : LoadWork s (t.setBytes a l) :=
  ⟨(congrArg State.dev (setBytes_rest ..) :).trans h.dev, (reg_setBytes ..).trans h.power⟩

theorem each {α : Type} {f : State → α → State} {l : List α} (h : ∀ u x, x ∈ l → LoadWork u (f u x)) (s : State) : LoadWork s (s.each l f) :=
  each_induction (P := LoadWork s) (refl s) fun u x hx hu => hu.trans (h u x hx)

theorem ucodePut (s : State) (key v : Nat) : LoadWork s (Machine.ucodePut s key v) := ⟨rfl, rfl⟩

theorem mapFw (h : LoadWork s t) (f : Fw → Fw) : LoadWork s (t.mapFw f) := ⟨h.dev, h.power⟩

theorem of_bankOnly {k b : Nat} (h : BankOnly k b s t) : LoadWork s t := by
  refine ⟨(congrArg State.dev h.rest :), h.reg _ ?_ ?_⟩
  · unfold bkEcc
    split <;> simp only [PM_STAT, TL_t_BK_b_ECC, TL_t_CB_ECC] <;> omega
  · unfold bkEccAddr
    split <;> simp only [PM_STAT, TL_t_BK_b_ECCADDR, TL_t_CB_ECCADDR] <;> omega

theorem controlStore (k w g : Nat) (v : Word) (s : State) : LoadWork s (doControlStoreWrite .clove k w g v s) := by
  unfold doControlStoreWrite
  dsimp only
  split
  · exact .refl s
  · split
    · exact (refl s).setReg (by decide) _
    · generalize (if k = 12 then csClove (loadBank s) w g else csSumac k w g) = key
      split
      · exact .refl s
      · exact .ucodePut ..

theorem decodeTable (k e : Nat) (v : Word) (s : State) : LoadWork s (doDecodeTableWrite .clove k e v s) := by
  have hne : PM_STAT ≠ dtErrReg k := by
    unfold dtErrReg
    split
    · decide
    · simp only [PM_STAT, SU_c_DT_ERR]
      omega
  unfold doDecodeTableWrite
  dsimp only
  split
  · exact .refl s
  · split
    · exact (refl s).setReg hne _
    · split
      · exact (refl s).setFld (by decide) _ _
      · exact .ucodePut ..

theorem suCtl (k : Nat) : PM_STAT ≠ SU_c_CTL k := by
  simp only [PM_STAT, SU_c_CTL]
  omega

theorem custOpen (k : Nat) (s : State) : LoadWork s (doCustOpen .clove k s) := by
  unfold doCustOpen
  split
  · exact .refl s
  · split
    · exact (refl s).setFld (by decide) _ _
    · exact (refl s).setFld (suCtl k) _ _

theorem loadWords (k w : Nat) (p : List Byte) (s : State) : LoadWork s (loadWordsAt k w p s) :=
  .each (fun u i _ => .each (fun u g _ => controlStore k (w + i) g _ u) u) s

theorem table (k : Nat) (p : List Byte) (s : State) : LoadWork s (loadTable k p s) := .each (fun u e _ => decodeTable k e _ u) s

theorem romMatch {m : Nat} (hm : m < 65536) (v : Word) (s : State) : LoadWork s (doRomPatchMatchWrite .clove m v s) := by
  have hne : PM_STAT ≠ MC_ROMP_m_MATCH m := by
    simp only [PM_STAT, MC_ROMP_m_MATCH]
    omega
  unfold doRomPatchMatchWrite
  dsimp only
  split
  · exact .refl s
  · split
    · exact (refl s).setReg (by decide) _
    · exact ⟨(congrArg State.dev (writeByType_rest s _ v) :), reg_writeByType_other _ _ _ _ hne⟩

theorem patch (p : List Byte) (s : State) : LoadWork s (loadPatch p s) := by
  have hn : le p 0xC 2 < 65536 := le_lt p 0xC 2
  unfold loadPatch
  dsimp only
  have hset := (refl s).setBytes (cvMem 0xC000) (slice p (0x10 + 4 * le p 0xC 2) (2 * le p 0xE 2))
  generalize s.setBytes (cvMem 0xC000) (slice p (0x10 + 4 * le p 0xC 2) (2 * le p 0xE 2)) = x at hset
  have hmatch := hset.trans (each (l := List.range (le p 0xC 2)) (f := fun s m => doRomPatchMatchWrite .clove m (BitVec.ofNat 32
    (le p (0x10 + 4 * m) 4)) s) (fun u m hm => romMatch (Nat.lt_trans (List.mem_range.1 hm) hn) _ u) x)
  generalize x.each (List.range (le p 0xC 2)) (fun s m => doRomPatchMatchWrite .clove m (BitVec.ofNat 32 (le p (0x10 + 4 * m) 4)) s) = y at hmatch
  have hlock : LoadWork s (doRompLock .clove y) := hmatch.setFld (by decide) _ _
  exact hlock.mapFw _

theorem coreMem (n l : Nat) (d : List Byte) (s : State) : LoadWork s (loadCoreMem n l d s) := by
  have hne : PM_STAT ≠ SC_n_ERR n := by
    simp only [PM_STAT, SC_n_ERR]
    omega
  unfold loadCoreMem
  dsimp only
  split
  · refine (each (fun u w _ => ?_) s).setBytes _ _
    split
    · exact ⟨rfl, rfl⟩
    · exact .refl u
  · exact (refl s).setFld hne _ _

theorem bankImage (e : Entry) (p : List Byte) (s : State) : LoadWork s (loadBankImage e p s) := by
  have hne : PM_STAT ≠ TL_t_BK_b_OWNER (e.unit / 8) (e.unit % 8) := by
    simp only [PM_STAT, TL_t_BK_b_OWNER]
    omega
  have howner : LoadWork s (s.setFlds (TL_t_BK_b_OWNER (e.unit / 8) (e.unit % 8)) [(TL_t_BK_b_OWNER_OWNER, 6), (TL_t_BK_b_OWNER_CUR, 6)]) :=
    ((refl s).setFld hne _ _).setFld hne _ _
  exact howner.trans (of_bankOnly (bankWrite_bankOnly ..))

theorem dtVer {k : Nat} (hk : k < 256) : PM_STAT ≠ dtVerReg k := by
  unfold dtVerReg
  split
  · decide
  · simp only [PM_STAT, SU_c_DT_VER]
    omega

theorem customer (p : List Byte) (s : State) : LoadWork s (loadCustomer p s) := by
  have hu : cuTarget p < 256 := le_lt p 4 1
  unfold loadCustomer
  dsimp only
  exact (((custOpen _ s).trans (each (fun u i _ => decodeTable _ _ _ u) _)).trans (loadWords _ _ _ _)).setFld (dtVer hu) _ _

theorem entry (e : Entry) (p : List Byte) (s : State) : LoadWork s (loadEntry e p s) := by
  unfold loadEntry
  split
  · exact patch p s
  · exact loadWords _ _ p s
  · exact table _ p s
  · exact loadWords _ _ p s
  · exact table _ p s
  · exact (refl s).setBytes _ _
  · exact (refl s).setBytes _ _
  · exact coreMem _ _ p s
  · exact coreMem _ _ p s
  · exact bankImage e p s
  · exact ((refl s).setFld (by decide) _ _).mapFw _
  · exact customer p s
  · exact .refl s

theorem dtLock (k : Nat) (s : State) : LoadWork s (doDtLock .clove k s) := by
  unfold doDtLock
  split
  · exact .refl s
  · split
    · exact ((refl s).setFld (by decide) _ _).setFld (by decide) _ _
    · exact ((refl s).setFld (suCtl k) _ _).setFld (suCtl k) _ _

theorem storeLock {k : Nat} (hk : k < 256) (s : State) : LoadWork s (doControlStoreLock .clove k s) := by
  have hne : PM_STAT ≠ MC_SU_c_CTL k := by
    simp only [PM_STAT, MC_SU_c_CTL]
    omega
  unfold doControlStoreLock
  split
  · exact .refl s
  · split
    · exact (refl s).setFld (by decide) _ _
    · exact (refl s).setFld hne _ _

theorem freeNext (h : LoadWork s t) : LoadWork s t.freeNext := ⟨h.dev, h.power⟩

theorem locks (s : State) : LoadWork s (lockStores s) := by
  have hbank : LoadWork s (if s.flag MC_CV_CTL MC_CV_CTL_LOCK then s
      else (s.setFld MC_CV_STAT MC_CV_STAT_BANK (loadBank s)).setFld MC_CV_STAT MC_CV_STAT_SWAP_PEND 0) := by
    split
    · exact .refl s
    · exact ((refl s).setFld (by decide) _ _).setFld (by decide) _ _
  refine hbank.trans (each (fun u k hk => ?_) _)
  have hk13 := List.mem_range.1 hk
  exact (((refl u).setFld (dtVer (by omega)) _ _).freeNext.trans (dtLock k _)).trans (storeLock (by omega) _)

theorem entriesLoaded (b : Nat) (key : List Byte) (l : List Entry) (s : State) :
    LoadWork s (l.foldl (fun (s : State) (e : Entry) => loadEntry e (payload s b key e).2 s) s) := each (fun u e _ => entry e _ u) s

theorem slot (b : Nat) (key : List Byte) (s : State) : LoadWork s (loadSlot b key s) :=
  ((entriesLoaded b key _ s).trans (locks _)).trans (entriesLoaded b key _ _)

end LoadWork

/-- The measurement of a container. -/
def measured (b : Nat) (s : State) : State :=
  s.each (List.range 12) (fun x i => x.setReg (SEC_MEAS_k i) (BitVec.ofNat 32 (le (sha384 (s.bytes b (manifestLen s b))) (4 * i) 4)))

theorem measured_work (b : Nat) (s : State) : LoadWork s (measured b s) := by
  refine LoadWork.each (fun u i hi => (LoadWork.refl u).setReg ?_ _) s
  have hi12 := List.mem_range.1 hi
  simp only [PM_STAT, SEC_MEAS_k]
  omega

/-- The firmware and the processor after the jump. -/
def slotJump (s x : State) (k b : Nat) (pc : Nat) : State :=
  ((x.setFlds BT_STAT [(BT_STAT_SLOT, k), (BT_STAT_KIND, cKind s b)]).mapFw (fun f =>
    { f with fwVer := cFwVer s b, fwBuild := cFwBuild s b, rollback := cRollback s b })).mapProc clove (fun c => { c with pc := pc })

theorem enterSlot_eq (k b : Nat) (s : State) : ∃ pc, enterSlot k b s = slotJump s (measured b s) k b pc := ⟨_, rfl⟩

theorem slotJump_work (s x : State) (k b pc : Nat) : LoadWork x (slotJump s x k b pc) :=
  ⟨rfl, (reg_setFlds_other _ _ _ _ (by decide) : (x.setFlds BT_STAT [(BT_STAT_SLOT, k), (BT_STAT_KIND, cKind s b)]).reg PM_STAT = x.reg PM_STAT)⟩

theorem slotJump_slot (s x : State) {k : Nat} (hk : k < 2) (b pc : Nat) : (slotJump s x k b pc).fld BT_STAT BT_STAT_SLOT = k := by
  have h : (x.setFlds BT_STAT [(BT_STAT_SLOT, k), (BT_STAT_KIND, cKind s b)]).fld BT_STAT BT_STAT_SLOT = k :=
    (fld_setFld_ne _ _ _ _ _ (by decide) (by decide)).trans (fld_setFld_of_lt _ _ _ _ (by decide) hk)
  exact h

theorem enterSlot_effect {k : Nat} (hk : k < 2) (b : Nat) (s : State) : LoadWork s (enterSlot k b s) ∧ (enterSlot k b s).fld BT_STAT BT_STAT_SLOT = k := by
  obtain ⟨pc, h⟩ := enterSlot_eq k b s
  rw [h]
  exact ⟨(measured_work b s).trans (slotJump_work ..), slotJump_slot s _ hk b pc⟩

/-! ### The choice of a slot -/

theorem slotOrder_lt {k : Nat} (h : k ∈ slotOrder s) : k < 2 := by
  unfold slotOrder at h
  dsimp only at h
  split at h
  · simp only [List.mem_cons, List.not_mem_nil, or_false] at h
    split at h
    · split at h
      · split at h <;> omega
      · split at h <;> omega
    · omega
  · exact List.mem_range.1 (List.mem_filter.1 h).1

theorem powerTiles_on (hq : q < 12) (s : State) : tileOn (powerTiles s) q = true := by
  have h : (powerTiles s).fld PM_STAT PM_STAT_TILE_ON = 0xFFF := fld_setFld_of_lt _ PM_STAT PM_STAT_TILE_ON 0xFFF (by decide) (by decide)
  unfold tileOn
  rw [h]
  have hbit (k : Nat) (hk : k < 12) : bits 0xFFF k 1 = 1 := by
    have := (by decide : ∀ j : Fin 12, bits 0xFFF j 1 = 1) ⟨k, hk⟩
    exact this
  rw [hbit q hq]
  rfl

/-- The tiles with power for the container tried. -/
def slotPowered (key : List Byte) (s : State) : State := powerTiles (s.mapSec (fun x => { x with keys := tput [] x.keys 2 key }))

theorem slotPowered_same (key : List Byte) (s : State) : SameImages s (slotPowered key s) := by
  refine ⟨rfl, rfl, ?_⟩
  have h : (slotPowered key s).reg MC_ROM_VER = ((((s.mapSec (fun x => { x with keys := tput [] x.keys 2 key })).setFld PM_DDR_CFG PM_DDR_CFG_MIRROR 1).setReg
      PM_TILE_CTL 0).setFld PM_STAT PM_STAT_TILE_ON 0xFFF).reg MC_ROM_VER := rfl
  rw [h, reg_setFld_other _ _ _ _ _ (by decide), reg_setReg_other _ _ _ _ (by decide), reg_setFld_other _ _ _ _ _ (by decide)]
  rfl

/-- A slot that can be read and verifies starts. -/
theorem trySlot_starts {bad : List Nat} {k : Nat} (hbad : ¬ k ∈ bad) (h : verifyReason s (slotBase k) = 0) :
    ∃ key, trySlot bad k s = .started (enterSlot k (slotBase k) (loadSlot (slotBase k) key (slotPowered key s))) := by
  obtain ⟨hman, hroll, key, hkey, hentries⟩ := verified h
  refine ⟨key, ?_⟩
  have hread : bad.contains k = false := by simpa using hbad
  have hpass : firstOf [if bad.contains k = true then rRead else 0, manifestReason s (slotBase k), rollbackReason s (slotBase k)] = 0 := by
    refine firstOf_zero fun x hx => ?_
    simp only [List.mem_cons, List.not_mem_nil, or_false] at hx
    rcases hx with rfl | rfl | rfl
    · rw [hread]
      rfl
    · exact hman
    · exact hroll
  have hq : (entriesReason (slotPowered key s) (slotBase k) key).1 = 0 := by rw [(slotPowered_same key s).entriesReason, hentries]
  unfold trySlot
  dsimp only
  rw [hpass, if_neg (by decide), hkey]
  exact if_neg (not_not.2 hq)

/-! ### Minimal mode -/

/-- Tiles that lose their power keep the registers outside the tiles but PM_STAT. -/
theorem doTilePowerOff_high (hq : q < 12) (s : State) {a : Nat} (ha : 0x2000000000 ≤ a) (h : a ≠ PM_STAT) : (doTilePowerOff q s).reg a = s.reg a := by
  have hset : (powerSet q false s).reg a = s.reg a := setBit_reg _ _ _ _ _ h
  by_cases hp : tilePend s q = 1
  · cases hr : tileRet s q with
    | true => rw [tilePowerOff_retains hp hr, hset]
    | false =>
      rw [tilePowerOff_loses hp hr, ((tileReset_work hq _).trans (contentsLost_work q _)).high a ha, hset]
  · rw [tilePowerOff_idle hp]

/-- What minimal mode records before the tiles lose their power. -/
def minimalNoted (code detail entry : Nat) (s : State) : State :=
  (((s.setFlds BT_CAUSE [(BT_CAUSE_CODE, code), (BT_CAUSE_DETAIL, detail), (BT_CAUSE_ENTRY, entry)]).setFld BT_STAT BT_STAT_MINIMAL 1).setFld
    PM_TILE_CTL PM_TILE_CTL_GATE 0xFFF).setFld PM_DDR_CFG PM_DDR_CFG_MIRROR 0

def tilesOff (s : State) : State := s.each ((List.range 12).filter (tileOn s)) (fun s t => doTilePowerOff t (setTilePend t 1 s))

theorem enterMinimal_eq (code detail entry : Nat) (s : State) : enterMinimal code detail entry s =
    ((tilesOff (minimalNoted code detail entry s)).setFld NET_PTP_STAT NET_PTP_STAT_HOLDOVER 1).mapDev (fun d => { d with winRun := false }) := rfl

theorem tilesOff_high (s : State) {a : Nat} (ha : 0x2000000000 ≤ a) (h : a ≠ PM_STAT) : (tilesOff s).reg a = s.reg a :=
  each_reg_other a (fun u _ hk => doTilePowerOff_high (List.mem_range.1 (List.mem_filter.1 hk).1) (setTilePend _ 1 u) ha h) s

/-- The start ends in minimal mode with cause `code`. -/
structure StartStopped (code : Nat) (t : State) : Prop where
  code : t.fld BT_CAUSE BT_CAUSE_CODE = code
  minimal : t.fld BT_STAT BT_STAT_MINIMAL = 1
  win : t.dev.winRun = false

theorem enterMinimal_stops {code : Nat} (hc : code < 256) (detail entry : Nat) (s : State) : StartStopped code (enterMinimal code detail entry s) := by
  have hkept (a : Nat) (ha : 0x2000000000 ≤ a) (h : a ≠ PM_STAT) (h' : a ≠ NET_PTP_STAT) :
      (enterMinimal code detail entry s).reg a = (minimalNoted code detail entry s).reg a := by
    rw [enterMinimal_eq]
    exact (reg_setFld_other _ _ _ _ _ h').trans (tilesOff_high _ ha h)
  refine ⟨(fld_of_reg_eq (hkept _ (by decide) (by decide) (by decide)) _).trans ?_,
    (fld_of_reg_eq (hkept _ (by decide) (by decide) (by decide)) _).trans ?_, by rw [enterMinimal_eq]; rfl⟩
  · refine (fld_setFld_other _ _ _ _ _ _ (by decide)).trans ((fld_setFld_other _ _ _ _ _ _ (by decide)).trans
      ((fld_setFld_other _ _ _ _ _ _ (by decide)).trans ?_))
    exact (fld_setFld_ne _ _ _ _ _ (by decide) (by decide)).trans ((fld_setFld_ne _ _ _ _ _ (by decide) (by decide)).trans
      (fld_setFld_of_lt s BT_CAUSE BT_CAUSE_CODE code (by decide) hc))
  · refine (fld_setFld_other _ _ _ _ _ _ (by decide)).trans ((fld_setFld_other _ _ _ _ _ _ (by decide)).trans ?_)
    exact fld_setFld_of_lt _ _ _ _ (by decide) (by decide)

/-! ### BOOT_START -/

/-- The state in which a start begins: the record of its cause is clean. -/
def startBegun (s : State) : State := s.setFlds BT_CAUSE [(BT_CAUSE_CODE, 0), (BT_CAUSE_DETAIL, 0), (BT_CAUSE_ENTRY, 0)]

/-- The start counts an attempt, and its window opens. -/
def attemptCounted (s : State) : State :=
  ((startBegun s).setFld BT_STAT BT_STAT_ATTEMPT (s.fld BT_STAT BT_STAT_ATTEMPT + 1)).mapDev (fun d => { d with winRun := true })

theorem mapDev_reg (s : State) (f : Dev → Dev) (a : Nat) : (s.mapDev f).reg a = s.reg a := rfl

theorem startBegun_same (s : State) : SameImages s (startBegun s) := ⟨rfl, rfl, reg_setFlds_other _ _ _ _ (by decide)⟩

theorem setFld_same (x : State) {a : Nat} (h : MC_ROM_VER ≠ a) (f : Fld) (n : Nat) : SameImages x (x.setFld a f n) :=
  ⟨rfl, rfl, reg_setFld_other _ _ _ _ _ h⟩

theorem mapDev_same (x : State) (f : Dev → Dev) : SameImages x (x.mapDev f) := ⟨rfl, rfl, rfl⟩

theorem attemptCounted_same (s : State) : SameImages s (attemptCounted s) :=
  ((startBegun_same s).trans (setFld_same (startBegun s) (a := BT_STAT) (by decide) BT_STAT_ATTEMPT _)).trans (mapDev_same _ _)

/-- What the starts of the slots make of the choice. -/
def slotsTried (bad : List Nat) (s : State) : State :=
  match trySlots bad (slotOrder s) (rHeader, 0) (attemptCounted s) with
  | .failed r e s2 => enterMinimal 2 r e s2
  | .started s2 => routeMailboxes s2

theorem doBootStart_eq {sfdp : Bool} {bad : List Nat} (h : bootPending s = true) : doBootStart sfdp bad s =
    if s.otp.lcs = 2 then enterMinimal 4 0 0 (startBegun s)
    else if s.flag WD_RST_CAUSE WD_RST_CAUSE_MCHK then enterMinimal 3 0 0 (startBegun s)
    else if bootLimit s ≤ s.fld BT_STAT BT_STAT_ATTEMPT then enterMinimal 1 0 0 (startBegun s)
    else if !sfdp then enterMinimal 5 0 0 (attemptCounted s) else slotsTried bad s := by
  unfold doBootStart
  rw [h]
  rfl

theorem routeMailboxes_kept (s : State) {a : Nat} (h : ∀ n, n < 1024 → a ≠ IC_SRC_s_MASK_LO n ∧ a ≠ IC_SRC_s_MASK_HI n) :
    (routeMailboxes s).dev = s.dev ∧ (routeMailboxes s).reg a = s.reg a := by
  have hroute (l : List Nat) (hl : ∀ n ∈ l, n < 1024) (w : Nat) (x : State) (hx : x.dev = s.dev ∧ x.reg a = s.reg a) :
      let y := x.each l (fun y n => (y.setReg (IC_SRC_s_MASK_LO n) 0).setReg (IC_SRC_s_MASK_HI n) (BitVec.ofNat 32 w))
      y.dev = s.dev ∧ y.reg a = s.reg a := by
    refine each_induction (P := fun y => y.dev = s.dev ∧ y.reg a = s.reg a) hx fun y n hn hy => ?_
    obtain ⟨h1, h2⟩ := h n (hl n hn)
    exact ⟨hy.1, (reg_setReg_other _ _ _ _ h2).trans ((reg_setReg_other _ _ _ _ h1).trans hy.2)⟩
  have hlow : ∀ n ∈ ((List.range 16).map (515 + ·)) ++ [589, 590], n < 1024 := by decide
  have hhigh : ∀ n ∈ (List.range 18).map (531 + ·), n < 1024 := by decide
  exact hroute _ hhigh 0x20000 _ (hroute _ hlow 0x10000 s ⟨rfl, rfl⟩)

/-- A slot that verifies, tried first, starts with all tiles powered and its window open. -/
theorem slotsTried_starts (hq : q < 12) {bad : List Nat} {k : Nat} {rest : List Nat} (horder : slotOrder s = k :: rest) (hbad : ¬ k ∈ bad)
    (h : verifyReason s (slotBase k) = 0) : (slotsTried bad s).fld BT_STAT BT_STAT_SLOT = k ∧ (slotsTried bad s).dev.winRun = true ∧
      tileOn (slotsTried bad s) q = true := by
  have hk : k < 2 := slotOrder_lt (s := s) (by rw [horder]; simp)
  have hsame := attemptCounted_same s
  have hver : verifyReason (attemptCounted s) (slotBase k) = 0 := (hsame.verifyReason _).trans h
  obtain ⟨key, htry⟩ := trySlot_starts hbad hver
  have heq : slotsTried bad s = routeMailboxes (enterSlot k (slotBase k) (loadSlot (slotBase k) key (slotPowered key (attemptCounted s)))) := by
    unfold slotsTried
    rw [horder]
    unfold trySlots
    rw [htry]
  have hpower := powerTiles_on hq ((attemptCounted s).mapSec (fun x => { x with keys := tput [] x.keys 2 key }))
  have hload := LoadWork.slot (slotBase k) key (slotPowered key (attemptCounted s))
  have hwin : (slotPowered key (attemptCounted s)).dev.winRun = true := rfl
  obtain ⟨henter, hslot⟩ := enterSlot_effect hk (slotBase k) (loadSlot (slotBase k) key (slotPowered key (attemptCounted s)))
  have hwork := hload.trans henter
  rw [heq]
  generalize enterSlot k (slotBase k) (loadSlot (slotBase k) key (slotPowered key (attemptCounted s))) = x at hslot hwork
  have hoff (a : Nat) (ha : IC_SRC_s_MASK_HI 1024 ≤ a) (n : Nat) (hn : n < 1024) : a ≠ IC_SRC_s_MASK_LO n ∧ a ≠ IC_SRC_s_MASK_HI n := by
    simp only [IC_SRC_s_MASK_LO, IC_SRC_s_MASK_HI] at ha ⊢
    omega
  obtain ⟨hdev, hstat⟩ := routeMailboxes_kept x (hoff BT_STAT (by decide))
  obtain ⟨-, hpm⟩ := routeMailboxes_kept x (hoff PM_STAT (by decide))
  refine ⟨(fld_of_reg_eq hstat _).trans hslot, ?_, (tileOn_of_reg_eq (hpm.trans hwork.power) q).trans hpower⟩
  rw [hdev, hwork.dev]
  exact hwin

theorem slotsTried_none {bad : List Nat} (h : slotOrder s = []) : slotsTried bad s = enterMinimal 2 rHeader 0 (attemptCounted s) := by
  unfold slotsTried
  rw [h]
  rfl

/-- BOOT_START of a device that waits for its start. -/
theorem doBootStart_effect (hq : q < 12) (sfdp : Bool) (bad : List Nat) (h : bootPending s = true) :
    let t := doBootStart sfdp bad s
    let att := s.fld BT_STAT BT_STAT_ATTEMPT
    (s.otp.lcs = 2 → StartStopped 4 t) ∧
      (s.otp.lcs ≠ 2 → s.fld WD_RST_CAUSE WD_RST_CAUSE_MCHK = 1 → StartStopped 3 t) ∧
      (s.otp.lcs ≠ 2 → s.fld WD_RST_CAUSE WD_RST_CAUSE_MCHK = 0 →
        (bootLimit s ≤ att → StartStopped 1 t) ∧
        (att < bootLimit s → sfdp = false → StartStopped 5 t) ∧
        (att < bootLimit s → sfdp = true → slotOrder s = [] → StartStopped 2 t) ∧
        (att < bootLimit s → sfdp = true → ∀ slot rest, slotOrder s = slot :: rest → ¬ slot ∈ bad → verifyReason s (slotBase slot) = 0 →
          t.fld BT_STAT BT_STAT_SLOT = slot ∧ t.dev.winRun = true ∧ tileOn t q = true)) := by
  dsimp only
  rw [doBootStart_eq h]
  refine ⟨fun hl => ?_, fun hl hm => ?_, fun hl hm => ?_⟩
  · rw [if_pos hl]
    exact enterMinimal_stops (by decide) _ _ _
  · rw [if_neg hl, if_pos (flag_eq_true_of_fld_eq_one _ _ _ hm)]
    exact enterMinimal_stops (by decide) _ _ _
  · have hno : ¬ s.flag WD_RST_CAUSE WD_RST_CAUSE_MCHK = true := by
      rw [(flag_eq_false_iff _ _ _).2 hm]
      decide
    rw [if_neg hl, if_neg hno]
    refine ⟨fun ha => ?_, fun ha hs => ?_, fun ha hs ho => ?_, fun ha hs slot rest ho hb hv => ?_⟩
    · rw [if_pos ha]
      exact enterMinimal_stops (by decide) _ _ _
    · rw [if_neg (Nat.not_le.2 ha), hs]
      exact enterMinimal_stops (by decide) _ _ _
    · rw [if_neg (Nat.not_le.2 ha), hs, if_neg (by decide), slotsTried_none ho]
      exact enterMinimal_stops (by decide) _ _ _
    · rw [if_neg (Nat.not_le.2 ha), hs, if_neg (by decide)]
      exact slotsTried_starts hq ho hb hv

end Sys2Proof.Machine
end

section

/-! SUPPORT. BOOT_DONE, COMMIT_RB, the notice, security jobs and debug authentication (R372, R376, R381, R383 to R387, R411, R412): O58. -/

namespace Sys2Proof.Machine
open R

variable {ag : Agent} {hash : Bool} {a : Nat} {v : Word} {s t : State}

/-! ### BT_CTL -/

/-- BT_CTL after a write, and nothing else. -/
def btWritten (v : Word) (s : State) : State := s.writeByType BT_CTL v

theorem btWritten_reg (v : Word) (s : State) {a : Nat} (h : a ≠ BT_CTL) : (btWritten v s).reg a = s.reg a := reg_writeByType_other _ _ _ _ h

theorem btWritten_onlyRegs (v : Word) (s : State) : OnlyRegs [BT_CTL] s (btWritten v s) := (onlyRegs_refl _ s).writeByType (by simp) v

theorem btWritten_inRun (v : Word) (s : State) : inRun (btWritten v s) = inRun s := flag_of_reg_eq (btWritten_reg v s (by decide)) _

theorem doBootDone_eq (hag : ag = .clove ∨ ag = .dap) (s : State) : doBootDone ag s = bootDone (btWritten 1 s) := by
  unfold doBootDone writeBtCtl
  rw [cloveOrDap_of hag]
  rfl

theorem doCommitRb_eq (hag : ag = .clove ∨ ag = .dap) (s : State) : doCommitRb ag s = commitRb (btWritten 2 s) := by
  unfold doCommitRb writeBtCtl
  rw [cloveOrDap_of hag]
  rfl

theorem doXipWp_eq (hag : ag = .clove ∨ ag = .dap) (s : State) : doXipWp ag s = btWritten 4 s := by
  unfold doXipWp writeBtCtl
  rw [cloveOrDap_of hag]
  rfl

theorem not_mayStart (h : ¬ (ag = .clove ∨ ag = .dap)) (s : State) : doBootDone ag s = s ∧ doCommitRb ag s = s ∧ doXipWp ag s = s := by
  have hno := cloveOrDap_of_not h
  unfold doBootDone doCommitRb doXipWp writeBtCtl
  rw [hno]
  exact ⟨rfl, rfl, rfl⟩

theorem settleGroup_kept (g : Nat) (s : State) : (settleGroup g s).dev = s.dev ∧ (g < 8 → (settleGroup g s).reg BT_STAT = s.reg BT_STAT) := by
  have hgrp : g < 8 → BT_STAT ≠ DRV_GRP_g_CTL g := fun h => by
    simp only [BT_STAT, DRV_GRP_g_CTL]
    omega
  unfold settleGroup
  split
  · exact ⟨rfl, fun h => reg_setFld_other _ _ _ _ _ (hgrp h)⟩
  · unfold doDriveEnableLoss
    split
    · have hdrop : ∀ u n, n ∈ groupChannels g → (dropChannel u n).dev = u.dev ∧ (g < 8 → (dropChannel u n).reg BT_STAT = u.reg BT_STAT) := by
        intro u n hn
        unfold dropChannel
        split
        · refine ⟨rfl, fun h => reg_setFld_other _ _ _ _ _ ?_⟩
          obtain ⟨i, hi, rfl⟩ := List.mem_map.1 hn
          have hi8 := List.mem_range.1 hi
          simp only [BT_STAT, DRV_n_STAT]
          omega
        · exact ⟨rfl, fun _ => rfl⟩
      refine each_induction (P := fun u => u.dev = s.dev ∧ (g < 8 → u.reg BT_STAT = s.reg BT_STAT))
        ⟨rfl, fun h => reg_setFld_other _ _ _ _ _ (hgrp h)⟩ fun u n hn hu => ?_
      exact ⟨(hdrop u n hn).1.trans hu.1, fun h => ((hdrop u n hn).2 h).trans (hu.2 h)⟩
    · exact ⟨rfl, fun _ => rfl⟩

theorem settleGroups_kept (s : State) : (settleGroups s).dev = s.dev ∧ (settleGroups s).reg BT_STAT = s.reg BT_STAT :=
  each_induction (P := fun u => u.dev = s.dev ∧ u.reg BT_STAT = s.reg BT_STAT) ⟨rfl, rfl⟩ fun u g hg hu =>
    ⟨(settleGroup_kept g u).1.trans hu.1, ((settleGroup_kept g u).2 (List.mem_range.1 hg)).trans hu.2⟩

theorem bootDone_enters (h : inRun s = false) (hm : s.fld BT_STAT BT_STAT_MINIMAL = 0) (hp : s.phase = 2) :
    (bootDone s).fld BT_STAT BT_STAT_RUN = 1 ∧ (bootDone s).fld BT_STAT BT_STAT_ATTEMPT = 0 ∧ (bootDone s).dev.winRun = false := by
  have heq : bootDone s = settleGroups ((s.setFlds BT_STAT [(BT_STAT_ATTEMPT, 0), (BT_STAT_RUN, 1)]).mapDev (fun d => { d with winRun := false })) := by
    unfold bootDone
    rw [h, (flag_eq_false_iff _ _ _).2 hm, hp]
    rfl
  obtain ⟨hdev, hreg⟩ := settleGroups_kept ((s.setFlds BT_STAT [(BT_STAT_ATTEMPT, 0), (BT_STAT_RUN, 1)]).mapDev (fun d => { d with winRun := false }))
  have hfld (f : Fld) : (bootDone s).fld BT_STAT f = (s.setFlds BT_STAT [(BT_STAT_ATTEMPT, 0), (BT_STAT_RUN, 1)]).fld BT_STAT f := by
    rw [heq]
    exact fld_of_reg_eq (hreg.trans (mapDev_reg _ _ _)) f
  refine ⟨(hfld _).trans (fld_setFld_of_lt _ _ _ _ (by decide) (by decide)), (hfld _).trans ?_, by rw [heq, hdev]; rfl⟩
  exact (fld_setFld_ne _ _ _ _ _ (by decide) (by decide)).trans (fld_setFld_of_lt s BT_STAT BT_STAT_ATTEMPT 0 (by decide) (by decide))

theorem doBootDone_effect (hag : ag = .clove ∨ ag = .dap) (s : State) :
    (inRun s = false → s.fld BT_STAT BT_STAT_MINIMAL = 0 → s.phase = 2 →
      (doBootDone ag s).fld BT_STAT BT_STAT_RUN = 1 ∧ (doBootDone ag s).fld BT_STAT BT_STAT_ATTEMPT = 0 ∧ (doBootDone ag s).dev.winRun = false) ∧
      (inRun s = true → OnlyRegs [BT_CTL] s (doBootDone ag s)) := by
  rw [doBootDone_eq hag]
  refine ⟨fun h hm hp => ?_, fun h => ?_⟩
  · exact bootDone_enters ((btWritten_inRun 1 s).trans h) ((fld_of_reg_eq (btWritten_reg 1 s (by decide)) _).trans hm)
      ((congrArg State.phase (writeByType_rest s BT_CTL 1) :).trans hp)
  · have hsame : bootDone (btWritten 1 s) = btWritten 1 s := by
      unfold bootDone
      rw [btWritten_inRun, h]
      rfl
    rw [hsame]
    exact btWritten_onlyRegs 1 s

theorem doCommitRb_effect (hag : ag = .clove ∨ ag = .dap) (s : State) :
    (inRun s = true → s.fld BT_STAT BT_STAT_KIND = 0 →
      (doCommitRb ag s).otp = { s.otp with rollback := max s.otp.rollback s.fw.rollback }) ∧
      (inRun s = false ∨ s.fld BT_STAT BT_STAT_KIND = 1 → OnlyRegs [BT_CTL] s (doCommitRb ag s)) := by
  have hotp : (btWritten 2 s).otp = s.otp := (congrArg State.otp (writeByType_rest s BT_CTL 2) :)
  have hfw : (btWritten 2 s).fw = s.fw := (congrArg State.fw (writeByType_rest s BT_CTL 2) :)
  have hkind := fld_of_reg_eq (btWritten_reg 2 s (by decide : BT_STAT ≠ BT_CTL)) BT_STAT_KIND
  have honly := btWritten_onlyRegs 2 s
  have hrun := btWritten_inRun 2 s
  rw [doCommitRb_eq hag]
  generalize btWritten 2 s = x at hotp hfw hkind honly hrun
  unfold commitRb
  refine ⟨fun h hk => ?_, fun h => ?_⟩
  · rw [hrun, h, (flag_eq_false_iff x BT_STAT BT_STAT_KIND).2 (hkind.trans hk), if_pos (by decide), ← hotp, ← hfw]
  · rw [hrun, if_neg]
    · exact honly
    · rcases h with h | h
      · rw [h, Bool.false_and]
        decide
      · rw [flag_eq_true_of_fld_eq_one _ _ _ (hkind.trans h)]
        simp

theorem doXipWp_effect (hag : ag = .clove ∨ ag = .dap) (s : State) :
    OnlyRegs [BT_CTL] s (doXipWp ag s) ∧ (doXipWp ag s).fld BT_CTL BT_CTL_XIP_WP = 1 := by
  rw [doXipWp_eq hag]
  refine ⟨btWritten_onlyRegs 4 s, ?_⟩
  have h := fld_writeByType s BT_CTL 4 BT_CTL_XIP_WP .w1s (fs := [⟨0, 2, .wo⟩, ⟨2, 1, .w1s⟩]) (by decide) (by decide) (by decide)
  refine h.trans ?_
  have hold : s.fld BT_CTL BT_CTL_XIP_WP < 2 := fld_lt s BT_CTL BT_CTL_XIP_WP
  generalize s.fld BT_CTL BT_CTL_XIP_WP = x at hold
  obtain rfl | rfl : x = 0 ∨ x = 1 := by omega
  · decide
  · decide

theorem doMinimalNotice_sends (h : s.fld BT_STAT BT_STAT_MINIMAL = 1) : (doMinimalNotice s).regs = s.regs ∧ (doMinimalNotice s).fw.sentRemote =
    [(0xFFFFFFFFFFFF, [1, 2, 0, 0] ++ leBytes 8 s.otp.serial ++ leBytes 4 (s.reg BT_CAUSE).toNat ++ leBytes 4 (s.reg MC_ROM_VER).toNat)] := by
  unfold doMinimalNotice
  rw [if_pos (flag_eq_true_of_fld_eq_one _ _ _ h)]
  exact ⟨rfl, rfl⟩

theorem doMinimalNotice_silent (h : s.fld BT_STAT BT_STAT_MINIMAL = 0) : doMinimalNotice s = s := by
  unfold doMinimalNotice
  rw [(flag_eq_false_iff _ _ _).2 h]
  rfl

theorem doStartWindowExpiry_requests (h : s.dev.winRun = true) (hs : sysHalt s = false) :
    doStartWindowExpiry s = { s with rstReq := s.rstReq ++ [7] } := by
  unfold doStartWindowExpiry
  rw [h, hs]
  rfl

theorem doStartWindowExpiry_idle (h : s.dev.winRun = false ∨ sysHalt s = true) : doStartWindowExpiry s = s := by
  unfold doStartWindowExpiry
  refine if_neg ?_
  rcases h with h | h <;> simp [h]

/-! ### Records of the black box -/

theorem bbAfter_reg (code : Nat) (w : Word) (s : State) (h3 : a ≠ BB_STAT) (h4 : a ≠ BB_TRIG_SEQ) : (bbAfter code w s).reg a = s.reg a := by
  unfold bbAfter
  split
  · split
    · exact reg_setFld_other _ _ _ _ _ h3
    · rfl
  · split
    · have h5 : ((s.setReg BB_TRIG_SEQ w).setFld BB_STAT BB_STAT_ARMED 0).reg a = s.reg a :=
        (reg_setFld_other _ _ _ _ _ h3).trans (reg_setReg_other _ _ _ _ h4)
      dsimp only
      split
      · exact (reg_setFld_other _ _ _ _ _ h3).trans h5
      · exact h5
    · rfl

/-- A record changes the registers of the black box alone. -/
theorem nutmeg_reg_off (source code : Nat) (args : List Nat) (s : State) (h : a ∉ [BB_SEQ, BB_LOST, BB_STAT, BB_TRIG_SEQ]) :
    (nutmeg source code args s).reg a = s.reg a := by
  simp only [List.mem_cons, List.not_mem_nil, or_false, not_or] at h
  obtain ⟨h1, h2, h3, h4⟩ := h
  unfold nutmeg
  dsimp only
  split
  · unfold bbLose
    split
    · exact (reg_setReg_other _ _ _ _ h1).trans (reg_setReg_other _ _ _ _ h2)
    · exact reg_setReg_other _ _ _ _ h1
  · rw [bbAfter_reg _ _ _ h3 h4, reg_setReg_other _ _ _ _ h1, reg_setBytes]

theorem nutmeg_seq (source code : Nat) (args : List Nat) (s : State) : (nutmeg source code args s).reg BB_SEQ = s.reg BB_SEQ + 1 := by
  have hbit : s.fld BB_STAT BB_STAT_FROZEN = 0 ∨ s.fld BB_STAT BB_STAT_FROZEN = 1 := by
    have : s.fld BB_STAT BB_STAT_FROZEN < 2 := fld_lt s BB_STAT BB_STAT_FROZEN
    omega
  rcases hbit with h | h
  · exact (nutmeg_writes source code args h).1
  · exact (nutmeg_frozen source code args h).1

theorem nutmeg_rest (source code : Nat) (args : List Nat) (s : State) :
    (nutmeg source code args s).sec = s.sec ∧ (nutmeg source code args s).dev = s.dev ∧ (nutmeg source code args s).rstReq = s.rstReq ∧
      (nutmeg source code args s).phase = s.phase := by
  obtain ⟨r, m, b, h⟩ := nutmeg_eq source code args s
  rw [h]
  exact ⟨rfl, rfl, rfl, rfl⟩

theorem doGlitchDetect_clears (clock : Bool) (s : State) : (∀ i, 2 ≤ i → tget [] (doGlitchDetect clock s).sec.keys i = []) ∧
    (doGlitchDetect clock s).fld SEC_ALARM (if clock then SEC_ALARM_CGLITCH else SEC_ALARM_VGLITCH) = 1 ∧
    (doGlitchDetect clock s).reg BB_SEQ = s.reg BB_SEQ + 1 := by
  let x := (s.setFld SEC_ALARM (if clock then SEC_ALARM_CGLITCH else SEC_ALARM_VGLITCH) 1).mapSec (fun x => { x with keys := tdrop (fun k => 2 ≤ k) x.keys })
  have heq : doGlitchDetect clock s = nutmeg 0x500 (if clock then 0x8002 else 0x8001) [(x.reg SEC_ALARM).toNat] x := rfl
  have hseq : x.reg BB_SEQ = s.reg BB_SEQ := reg_setFld_other _ _ _ _ _ (by decide)
  have hkeys (i : Nat) (hi : 2 ≤ i) : tget [] x.sec.keys i = [] :=
    tget_tdrop [] (p := fun k => decide (2 ≤ k)) s.sec.keys (decide_eq_true hi)
  have hset : x.fld SEC_ALARM (if clock then SEC_ALARM_CGLITCH else SEC_ALARM_VGLITCH) = 1 := by
    show (s.setFld SEC_ALARM (if clock then SEC_ALARM_CGLITCH else SEC_ALARM_VGLITCH) 1).fld SEC_ALARM _ = 1
    cases clock
    · exact fld_setFld_of_lt _ _ _ _ (by decide) (by decide)
    · exact fld_setFld_of_lt _ _ _ _ (by decide) (by decide)
  rw [heq]
  clear heq
  clear_value x
  obtain ⟨hsec, -⟩ := nutmeg_rest 0x500 (if clock then 0x8002 else 0x8001) [(x.reg SEC_ALARM).toNat] x
  refine ⟨fun i hi => ?_, ?_, (nutmeg_seq ..).trans (by rw [hseq])⟩
  · rw [hsec]
    exact hkeys i hi
  · exact (fld_of_reg_eq (nutmeg_reg_off _ _ _ _ (by decide)) _).trans hset

/-! ### Jobs of the security engines -/

theorem GoodDdr.engRead {n : Nat} (h : GoodDdr s a n) (port : Nat) : Machine.engRead port s a n = { data := s.bytes a n, err := false, ecc := false, s := s } := by
  have hplace : placeOf s a n = .ddr := if_pos ⟨h.2.1, h.2.2.1⟩
  have hread : memRead s a n = { data := s.bytes a n, err := false, ecc := false, s := s } := by
    unfold memRead
    rw [hplace, h.ddrRead]
  unfold Machine.engRead
  rw [hread]
  rfl

/-- DDR5 stays good where the registers of power and clocks stay. -/
theorem GoodDdr.of_regs {n : Nat} (h : GoodDdr s a n) (hecc : t.ecc = s.ecc) (hcap : t.ddrCap = s.ddrCap)
    (hreg : ∀ b ∈ [PM_DDR_CFG, PM_DDR_STAT, CK_GATE_LO, CK_GATE_HI], t.reg b = s.reg b) : GoodDdr t a n := by
  obtain ⟨h1, h2, h3, h4, h5, h6⟩ := h
  have hcfg := hreg PM_DDR_CFG (by simp)
  have hstat := hreg PM_DDR_STAT (by simp)
  have hlimit : ddrLimit t = ddrLimit s := by
    unfold ddrLimit ddrMirror
    rw [flag_of_reg_eq hcfg, hcap]
  have hlost (c : Nat) : chLost t c = chLost s c := by
    unfold chLost
    rw [flag_of_reg_eq hstat, flag_of_reg_eq hstat]
  refine ⟨h1, by rw [hlimit]; exact h2, ?_, (hlost 0).trans h4, (hlost 1).trans h5, fun w hw => ?_⟩
  · exact (ddrClock_congr hcap hcfg (hreg CK_GATE_LO (by simp)) (hreg CK_GATE_HI (by simp)) a).trans h3
  · unfold eccMark
    rw [hecc]
    exact h6 w hw

theorem jobStat_ne (hash : Bool) : jobStat hash ≠ jobHi hash ∧ jobStat hash ≠ SEC_ALARM ∧ jobCtl hash ≠ jobHi hash := by
  cases hash <;> decide

theorem fieldsAt_jobHi (hash : Bool) : fieldsAt (jobHi hash) = [⟨0, 8, .rw⟩] := by cases hash <;> decide

/-- The job engine with the upper half of the address written. -/
def jobAimed (hash : Bool) (v : Word) (s : State) : State := s.writeByType (jobHi hash) v

theorem jobAimed_addr (hash : Bool) (v : Word) (s : State) :
    jobAddr (jobAimed hash v s) hash = bits (s.reg (jobCtl hash)).toNat 6 26 * 64 + bits v.toNat 0 8 * 2 ^ 32 := by
  have hhi := fld_writeByType s (jobHi hash) v ⟨0, 8⟩ .rw (fieldsAt_jobHi hash) (by decide) (by decide)
  have hlo := fld_of_reg_eq (reg_writeByType_other s _ v _ (jobStat_ne hash).2.2) ⟨6, 26⟩
  unfold jobAddr jobAimed
  rw [hhi, hlo]
  rfl

theorem jobAimed_good {n : Nat} (h : GoodDdr s a n) (hash : Bool) (v : Word) : GoodDdr (jobAimed hash v s) a n := by
  have hrest := writeByType_rest s (jobHi hash) v
  refine h.of_regs (congrArg State.ecc hrest :) (congrArg State.ddrCap hrest :) fun b hb => reg_writeByType_other _ _ _ _ ?_
  have hoff : ∀ b ∈ [PM_DDR_CFG, PM_DDR_STAT, CK_GATE_LO, CK_GATE_HI], b ≠ SEC_HASH_JOB_HI ∧ b ≠ SEC_PKE_JOB_HI := by decide
  cases hash
  · exact (hoff b hb).2
  · exact (hoff b hb).1

theorem startJob_idle (h : ¬ (ag = .clove ∨ ag = .dap) ∨ s.flag (jobStat hash) ⟨0, 1⟩ = true) : doSecurityJobStart ag hash v s = s := by
  unfold doSecurityJobStart startJob
  refine if_pos ?_
  rcases h with h | h
  · rw [cloveOrDap_of_not h]
    rfl
  · rw [h, Bool.or_true]

theorem bytes_two (s : State) (a : Nat) : le (s.bytes a 2) 0 1 = (s.byte a).toNat ∧ le (s.bytes a 2) 1 1 = (s.byte (a + 1)).toNat := ⟨rfl, rfl⟩

theorem startJob_good (hag : ag = .clove ∨ ag = .dap) (hb : s.flag (jobStat hash) ⟨0, 1⟩ = false)
    (ha : a = bits (s.reg (jobCtl hash)).toNat 6 26 * 64 + bits v.toNat 0 8 * 2 ^ 32) (h : GoodDdr s a 2) :
    doSecurityJobStart ag hash v s = if keyMisuse (s.byte a).toNat (s.byte (a + 1)).toNat (fromRom s ag) then
      (secErr hash 2 (jobAimed hash v s)).setFld SEC_ALARM SEC_ALARM_KEY_MISUSE 1
    else (secErr hash 0 (jobAimed hash v s)).setFld (jobStat hash) ⟨0, 1⟩ 1 := by
  have haddr := jobAimed_addr hash v s
  have hread := (jobAimed_good h hash v).engRead 33
  have hmem : (jobAimed hash v s).mem = s.mem := writeByType_mem ..
  obtain ⟨e1, e2⟩ := bytes_two (jobAimed hash v s) a
  unfold doSecurityJobStart startJob
  rw [cloveOrDap_of hag, hb, if_neg (by decide)]
  rw [show s.writeByType (jobHi hash) v = jobAimed hash v s from rfl]
  dsimp only
  rw [haddr, ← ha, hread]
  dsimp only
  rw [e1, e2, byte_of_mem_eq hmem, byte_of_mem_eq hmem]
  rfl

theorem secErr_err (hash : Bool) {e : Nat} (he : e < 16) (s : State) : (secErr hash e s).fld (jobStat hash) ⟨4, 4⟩ = e :=
  fld_setFld_of_lt _ _ _ _ (by decide) he

theorem startJob_starts (hag : ag = .clove ∨ ag = .dap) (hb : s.flag (jobStat hash) ⟨0, 1⟩ = false)
    (ha : a = bits (s.reg (jobCtl hash)).toNat 6 26 * 64 + bits v.toNat 0 8 * 2 ^ 32) (h : GoodDdr s a 2)
    (hk : keyMisuse (s.byte a).toNat (s.byte (a + 1)).toNat (fromRom s ag) = false) :
    (doSecurityJobStart ag hash v s).fld (jobStat hash) ⟨0, 1⟩ = 1 ∧ (doSecurityJobStart ag hash v s).fld (jobStat hash) ⟨4, 4⟩ = 0 := by
  rw [startJob_good hag hb ha h, hk, if_neg (by decide)]
  exact ⟨fld_setFld_of_lt _ _ _ _ (by decide) (by decide), (fld_setFld_ne _ _ _ _ _ (by decide) (by decide)).trans (secErr_err hash (by decide) _)⟩

theorem startJob_misused (hag : ag = .clove ∨ ag = .dap) (hb : s.flag (jobStat hash) ⟨0, 1⟩ = false)
    (ha : a = bits (s.reg (jobCtl hash)).toNat 6 26 * 64 + bits v.toNat 0 8 * 2 ^ 32) (h : GoodDdr s a 2)
    (hk : keyMisuse (s.byte a).toNat (s.byte (a + 1)).toNat (fromRom s ag) = true) :
    (doSecurityJobStart ag hash v s).fld (jobStat hash) ⟨0, 1⟩ = 0 ∧ (doSecurityJobStart ag hash v s).fld (jobStat hash) ⟨4, 4⟩ = 2 ∧
      (doSecurityJobStart ag hash v s).fld SEC_ALARM SEC_ALARM_KEY_MISUSE = 1 := by
  obtain ⟨hne, halarm, -⟩ := jobStat_ne hash
  rw [startJob_good hag hb ha h, hk, if_pos rfl]
  refine ⟨?_, (fld_setFld_other _ _ _ _ _ _ halarm).trans (secErr_err hash (by decide) _), fld_setFld_of_lt _ _ _ _ (by decide) (by decide)⟩
  refine (fld_setFld_other _ _ _ _ _ _ halarm).trans ((fld_setFld_ne _ _ _ _ _ (by decide) (by decide)).trans ?_)
  exact (fld_of_reg_eq (reg_writeByType_other _ _ _ _ hne) _).trans ((flag_eq_false_iff _ _ _).1 hb)

theorem endJob_ends (hash : Bool) {e : Nat} (he : e < 16) (s : State) : (endJob hash e s).fld (jobStat hash) ⟨0, 1⟩ = 0 ∧
    (endJob hash e s).fld (jobStat hash) ⟨1, 1⟩ = 1 ∧ (endJob hash e s).fld (jobStat hash) ⟨4, 4⟩ = e :=
  ⟨(fld_setFld_ne _ _ _ _ _ (by decide) (by decide)).trans (fld_setFld_of_lt _ _ _ _ (by decide) (by decide)),
    fld_setFld_of_lt _ _ _ _ (by decide) (by decide),
    (fld_setFld_ne _ _ _ _ _ (by decide) (by decide)).trans ((fld_setFld_ne _ _ _ _ _ (by decide) (by decide)).trans (secErr_err hash he s))⟩

theorem doSecurityJobDone_idle (h : s.flag (jobStat hash) ⟨0, 1⟩ = false) : doSecurityJobDone hash s = s := by
  unfold doSecurityJobDone
  rw [h]
  rfl

theorem doSecurityJobDone_runs (h : s.flag (jobStat hash) ⟨0, 1⟩ = true) (hg : GoodDdr s (jobAddr s hash) 64) :
    doSecurityJobDone hash s = runJob hash (s.bytes (jobAddr s hash) 64) s := by
  unfold doSecurityJobDone
  rw [h, hg.engRead 33]
  rfl

theorem runJob_unknown (j : List Byte) (h : opOk hash (le j 0 1) = false) : runJob hash j s = endJob hash 1 s := by
  unfold runJob
  dsimp only
  rw [h]
  rfl

theorem runJob_digest {j : List Byte} (h1 : le j 0 1 = 1) (hsrc : GoodDdr s (le j 8 8) (le j 4 4)) :
    runJob true j s = jobWrite true 0 (le j 0x10 8) (slice (Config.digest 256 (s.bytes (le j 8 8) (le j 4 4))) 0 32) s := by
  unfold runJob
  dsimp only
  rw [h1, hsrc.engRead 33]
  simp [opOk]

theorem slice_length (l : List Byte) (o n : Nat) : (slice l o n).length = n := by
  unfold slice
  simp only [List.length_append, List.length_take, zeros, List.length_replicate]
  omega

theorem jobWrite_writes {e dst : Nat} (he : e < 16) {l : List Byte} (hl : l.length = 32) (hg : GoodDdr s dst 32) :
    (jobWrite hash e dst l s).fld (jobStat hash) ⟨0, 1⟩ = 0 ∧ (jobWrite hash e dst l s).fld (jobStat hash) ⟨1, 1⟩ = 1 ∧
      (jobWrite hash e dst l s).fld (jobStat hash) ⟨4, 4⟩ = e ∧ (jobWrite hash e dst l s).bytes dst 32 = l := by
  have hw : engWrite 33 s dst l = (false, ddrWrite s dst l) := engWrite_ddr 33 (by rw [hl]; exact if_pos ⟨hg.2.1, hg.2.2.1⟩)
  have heq : jobWrite hash e dst l s = endJob hash e (ddrWrite s dst l) := by
    unfold jobWrite
    rw [hw]
    rfl
  have hmem := ddrWrite_mem s dst l
  have hbytes : (s.setBytes dst l).bytes dst 32 = l := by
    have h := bytes_setBytes l s dst
    rwa [hl] at h
  rw [heq]
  generalize ddrWrite s dst l = x at hmem
  obtain ⟨h1, h2, h3⟩ := endJob_ends hash he x
  refine ⟨h1, h2, h3, ?_⟩
  have hkept : (endJob hash e x).mem = (s.setBytes dst l).mem := hmem
  exact (bytes_of_mem_eq hkept _ _).trans hbytes

/-! ### Debug authentication -/

theorem doDebugAuthGo_eq (hag : ag = .clove ∨ ag = .dap) {len : Nat} (hl : len < 262144) (s : State) : doDebugAuthGo ag len s =
    if s.sec.checking.isSome || s.sec.lockout then
      (s.writeByType DBG_AUTH_CTL (BitVec.ofNat 32 (len + 2 ^ 31))).setFld DBG_AUTH_STAT DBG_AUTH_STAT_LOCKOUT 1
    else ((s.writeByType DBG_AUTH_CTL (BitVec.ofNat 32 (len + 2 ^ 31))).setFld DBG_AUTH_STAT DBG_AUTH_STAT_BUSY 1).mapSec
      (fun x => { x with checking := some len }) := by
  have hv : (BitVec.ofNat 32 (len + 2 ^ 31)).toNat = len + 2 ^ 31 := by
    rw [BitVec.toNat_ofNat]
    omega
  have hgo : bits (BitVec.ofNat 32 (len + 2 ^ 31)).toNat 31 1 = 1 := by
    rw [hv]
    unfold bits
    omega
  have hlen : bits (BitVec.ofNat 32 (len + 2 ^ 31)).toNat 0 18 = len := by
    rw [hv]
    unfold bits
    omega
  unfold doDebugAuthGo writeAuthCtl
  rw [cloveOrDap_of hag, if_pos rfl]
  generalize BitVec.ofNat 32 (len + 2 ^ 31) = w at hgo hlen ⊢
  dsimp only
  rw [hgo, hlen, if_neg (by decide)]

theorem authBegun (len : Nat) (x : State) : ((x.setFld DBG_AUTH_STAT DBG_AUTH_STAT_BUSY 1).mapSec (fun z => { z with checking := some len })).fld
    DBG_AUTH_STAT DBG_AUTH_STAT_BUSY = 1 := by
  have h : (x.setFld DBG_AUTH_STAT DBG_AUTH_STAT_BUSY 1).fld DBG_AUTH_STAT DBG_AUTH_STAT_BUSY = 1 := fld_setFld_of_lt _ _ _ _ (by decide) (by decide)
  generalize x.setFld DBG_AUTH_STAT DBG_AUTH_STAT_BUSY 1 = y at h
  exact h

theorem doDebugAuthGo_checks (hag : ag = .clove ∨ ag = .dap) {len : Nat} (hl : len < 262144) (hc : s.sec.checking = none) (hk : s.sec.lockout = false) :
    (doDebugAuthGo ag len s).fld DBG_AUTH_STAT DBG_AUTH_STAT_BUSY = 1 ∧ (doDebugAuthGo ag len s).sec = { s.sec with checking := some len } := by
  have heq := doDebugAuthGo_eq hag hl s
  rw [hc, hk, if_neg (by decide)] at heq
  rw [heq]
  generalize BitVec.ofNat 32 (len + 2 ^ 31) = w
  have hsec : (s.writeByType DBG_AUTH_CTL w).sec = s.sec := (congrArg State.sec (writeByType_rest s DBG_AUTH_CTL w) :)
  generalize s.writeByType DBG_AUTH_CTL w = x at hsec ⊢
  refine ⟨authBegun len x, ?_⟩
  rw [mapSec_sec, setFld_sec, hsec]

theorem doDebugAuthGo_ignored (hag : ag = .clove ∨ ag = .dap) {len : Nat} (hl : len < 262144)
    (h : s.sec.checking ≠ none ∨ s.sec.lockout = true) :
    (doDebugAuthGo ag len s).sec = s.sec ∧ (doDebugAuthGo ag len s).fld DBG_AUTH_STAT DBG_AUTH_STAT_LOCKOUT = 1 := by
  have hgo : (s.sec.checking.isSome || s.sec.lockout) = true := by
    rcases h with h | h
    · rw [Option.isSome_iff_ne_none.2 h]
      rfl
    · rw [h, Bool.or_true]
  rw [doDebugAuthGo_eq hag hl, hgo, if_pos rfl]
  generalize BitVec.ofNat 32 (len + 2 ^ 31) = w
  have hsec : (s.writeByType DBG_AUTH_CTL w).sec = s.sec := (congrArg State.sec (writeByType_rest s DBG_AUTH_CTL w) :)
  generalize s.writeByType DBG_AUTH_CTL w = x at hsec ⊢
  refine ⟨?_, fld_setFld_of_lt _ _ _ _ (by decide) (by decide)⟩
  rw [setFld_sec, hsec]

theorem doSessionLock_locks (hag : ag = .clove ∨ ag = .dap) (s : State) : OnlyRegs [SEC_DBG] s (doSessionLock ag s) ∧
    session (doSessionLock ag s) = false ∧ (doSessionLock ag s).fld SEC_DBG SEC_DBG_PERMS = 0 := by
  have heq : doSessionLock ag s = s.setFlds SEC_DBG [(SEC_DBG_PERMS, 0), (SEC_DBG_UNLOCKED, 0), (SEC_DBG_LOCK, 1)] := by
    unfold doSessionLock
    rw [cloveOrDap_of hag]
    rfl
  rw [heq]
  refine ⟨(onlyRegs_refl _ s).setFlds (by simp) _, (flag_eq_false_iff _ _ _).2 ?_, ?_⟩
  · exact (fld_setFld_ne _ _ _ _ _ (by decide) (by decide)).trans (fld_setFld_of_lt _ SEC_DBG SEC_DBG_UNLOCKED 0 (by decide) (by decide))
  · exact (fld_setFld_ne _ _ _ _ _ (by decide) (by decide)).trans ((fld_setFld_ne _ _ _ _ _ (by decide) (by decide)).trans
      (fld_setFld_of_lt s SEC_DBG SEC_DBG_PERMS 0 (by decide) (by decide)))

theorem not_maySession (h : ¬ (ag = .clove ∨ ag = .dap)) (len : Nat) (s : State) : doDebugAuthGo ag len s = s ∧ doSessionLock ag s = s := by
  have hno := cloveOrDap_of_not h
  unfold doDebugAuthGo doSessionLock
  rw [hno]
  exact ⟨rfl, rfl⟩

/-- The check of a response does not depend on the check under way. -/
theorem responsePerms_checking (b : List Byte) (c : Option Nat) (s : State) :
    responsePerms (s.mapSec (fun x => { x with checking := c })) b = responsePerms s b := by
  have hcong := chainSigner_congr (t := s.mapSec (fun x => { x with checking := c })) (s := s) rfl
  unfold responsePerms
  dsimp only
  rw [hcong]
  rfl

/-- A check that has ended. -/
def authEnded (ok : Bool) (s : State) : State :=
  (s.setFld DBG_AUTH_STAT DBG_AUTH_STAT_BUSY 0).setFld DBG_AUTH_STAT (if ok then DBG_AUTH_STAT_OK else DBG_AUTH_STAT_FAIL) 1

theorem authEnded_stat (ok : Bool) (s : State) : (authEnded ok s).fld DBG_AUTH_STAT DBG_AUTH_STAT_BUSY = 0 ∧
    (authEnded ok s).fld DBG_AUTH_STAT (if ok then DBG_AUTH_STAT_OK else DBG_AUTH_STAT_FAIL) = 1 ∧ (authEnded ok s).reg SEC_DBG = s.reg SEC_DBG := by
  refine ⟨?_, ?_, (reg_setFld_other _ _ _ _ _ (by decide)).trans (reg_setFld_other _ _ _ _ _ (by decide))⟩
  · refine Eq.trans ?_ (fld_setFld_of_lt s DBG_AUTH_STAT DBG_AUTH_STAT_BUSY 0 (by decide) (by decide))
    cases ok
    · exact fld_setFld_ne _ _ _ _ _ (by decide) (by decide)
    · exact fld_setFld_ne _ _ _ _ _ (by decide) (by decide)
  · cases ok
    · exact fld_setFld_of_lt _ _ _ _ (by decide) (by decide)
    · exact fld_setFld_of_lt _ _ _ _ (by decide) (by decide)

theorem doDebugAuthDone_eq {m : Nat} (h : s.sec.checking = some m) : doDebugAuthDone s =
    let r := checkResponse (s.bytes dbgResponse (min m 131072)) (s.mapSec (fun x => { x with checking := none }))
    authEnded r.1 r.2 := by
  unfold doDebugAuthDone
  rw [h]
  rfl

theorem doDebugAuthDone_grants {m g : Nat} (h : s.sec.checking = some m) (hg : responsePerms s (s.bytes dbgResponse (min m 131072)) = some g) :
    session (doDebugAuthDone s) = true ∧ (doDebugAuthDone s).fld SEC_DBG SEC_DBG_PERMS = g % 32 ∧
      (doDebugAuthDone s).fld DBG_AUTH_STAT DBG_AUTH_STAT_BUSY = 0 ∧ (doDebugAuthDone s).fld DBG_AUTH_STAT DBG_AUTH_STAT_OK = 1 := by
  obtain ⟨x, hx⟩ : ∃ x : State, checkResponse (s.bytes dbgResponse (min m 131072)) (s.mapSec (fun x => { x with checking := none })) =
      (true, x.setFlds SEC_DBG [(SEC_DBG_PERMS, g), (SEC_DBG_UNLOCKED, 1)]) := by
    unfold checkResponse
    rw [responsePerms_checking, hg]
    exact ⟨_, rfl⟩
  have heq : doDebugAuthDone s = authEnded true (x.setFlds SEC_DBG [(SEC_DBG_PERMS, g), (SEC_DBG_UNLOCKED, 1)]) := by
    rw [doDebugAuthDone_eq h, hx]
  obtain ⟨h1, h2, h3⟩ := authEnded_stat true (x.setFlds SEC_DBG [(SEC_DBG_PERMS, g), (SEC_DBG_UNLOCKED, 1)])
  rw [heq]
  refine ⟨(flag_of_reg_eq h3 _).trans (flag_eq_true_of_fld_eq_one _ _ _ (fld_setFld_of_lt _ _ _ _ (by decide) (by decide))),
    (fld_of_reg_eq h3 _).trans ?_, h1, h2⟩
  exact (fld_setFld_ne _ _ _ _ _ (by decide) (by decide)).trans (fld_setFld_same x SEC_DBG SEC_DBG_PERMS g (by decide))

/-- A refused response. -/
def responseRefused (s : State) : State :=
  let s1 := s.mapSec (fun x => { x with chalTime := none, refused := x.refused + 1 })
  if 3 ≤ s1.sec.refused then
    ((s1.setFld SEC_ALARM SEC_ALARM_DBG_FAIL 1).setFld DBG_AUTH_STAT DBG_AUTH_STAT_LOCKOUT 1).mapSec (fun x => { x with refused := 0, lockout := true })
  else s1

theorem responseRefused_effect (s : State) : (responseRefused s).reg SEC_DBG = s.reg SEC_DBG ∧
    (2 ≤ s.sec.refused → (responseRefused s).sec.lockout = true) := by
  have hcount : (s.mapSec (fun x => { x with chalTime := none, refused := x.refused + 1 })).sec.refused = s.sec.refused + 1 := rfl
  have hreg : (s.mapSec (fun x => { x with chalTime := none, refused := x.refused + 1 })).reg SEC_DBG = s.reg SEC_DBG := rfl
  unfold responseRefused
  dsimp only
  generalize s.mapSec (fun x => { x with chalTime := none, refused := x.refused + 1 }) = x at hcount hreg
  split
  · refine ⟨Eq.trans ?_ hreg, fun _ => rfl⟩
    exact (reg_setFld_other _ _ _ _ _ (by decide) :
      ((x.setFld SEC_ALARM SEC_ALARM_DBG_FAIL 1).setFld DBG_AUTH_STAT DBG_AUTH_STAT_LOCKOUT 1).reg SEC_DBG = _).trans
      (reg_setFld_other _ _ _ _ _ (by decide))
  next hno => exact ⟨hreg, fun h => absurd (by omega) hno⟩

theorem doDebugAuthDone_refuses {m : Nat} (h : s.sec.checking = some m) (hg : responsePerms s (s.bytes dbgResponse (min m 131072)) = none) :
    session (doDebugAuthDone s) = session s ∧ (doDebugAuthDone s).fld DBG_AUTH_STAT DBG_AUTH_STAT_BUSY = 0 ∧
      (doDebugAuthDone s).fld DBG_AUTH_STAT DBG_AUTH_STAT_FAIL = 1 ∧ (2 ≤ s.sec.refused → (doDebugAuthDone s).sec.lockout = true) := by
  have hx : checkResponse (s.bytes dbgResponse (min m 131072)) (s.mapSec (fun x => { x with checking := none })) =
      (false, responseRefused (s.mapSec (fun x => { x with checking := none }))) := by
    unfold checkResponse responseRefused
    rw [responsePerms_checking, hg]
    dsimp only
    split <;> rfl
  have heq : doDebugAuthDone s = authEnded false (responseRefused (s.mapSec (fun x => { x with checking := none }))) := by
    rw [doDebugAuthDone_eq h, hx]
  obtain ⟨hreg, hlock⟩ := responseRefused_effect (s.mapSec (fun x => { x with checking := none }))
  rw [heq]
  generalize responseRefused (s.mapSec (fun x => { x with checking := none })) = x at hreg hlock
  obtain ⟨h1, h2, h3⟩ := authEnded_stat false x
  exact ⟨flag_of_reg_eq (h3.trans hreg) _, h1, h2, hlock⟩

theorem doDebugAuthDone_idle (h : s.sec.checking = none) : doDebugAuthDone s = s := by
  unfold doDebugAuthDone
  rw [h]

theorem doDebugLockoutEnd_ends (s : State) : OnlyRegs [DBG_AUTH_STAT] { s with sec := (doDebugLockoutEnd s).sec } (doDebugLockoutEnd s) ∧
    (doDebugLockoutEnd s).sec = { s.sec with lockout := false } ∧ (doDebugLockoutEnd s).fld DBG_AUTH_STAT DBG_AUTH_STAT_LOCKOUT = 0 :=
  ⟨(onlyRegs_refl _ { s with sec := (doDebugLockoutEnd s).sec }).setFld (by simp) _ _, rfl,
    fld_setFld_of_lt s DBG_AUTH_STAT DBG_AUTH_STAT_LOCKOUT 0 (by decide) (by decide)⟩

end Sys2Proof.Machine
end

section

/-! SUPPORT. The reference, the PLLs and the loss of a link (R160, R390 to R392): O58. -/

namespace Sys2Proof.Machine
open R

variable {ag : Agent} {a p : Nat} {s t u : State}

/-! ### The reference -/

theorem wakeRequest_reg (s : State) (a : Nat) : (wakeRequest s).reg a = s.reg a := by
  unfold wakeRequest
  split
  · rfl
  · split <;> rfl

theorem raiseEvent_reg (n : Nat) (s : State) (h : ∀ i, i < 32 → a ≠ IC_PEND_SET_i i) : (raiseEvent s n).reg a = s.reg a := by
  unfold raiseEvent setSrcBit
  split
  next hn =>
    unfold usable at hn
    simp only [Bool.and_eq_true, decide_eq_true_eq] at hn
    exact reg_setReg_other _ _ _ _ (h _ (by omega))
  · rfl

/-- An edge writes only its own latch and the pending words. -/
theorem latchEdge_reg (e : Nat) (rising : Bool) (s : State) (h : a ≠ IC_EDGE_e_CFG e) (hp : ∀ i, i < 32 → a ≠ IC_PEND_SET_i i) :
    (latchEdge e rising s).reg a = s.reg a := by
  cases htaken : edgeTaken (s.fld (IC_EDGE_e_CFG e) IC_EDGE_e_CFG_POL) rising with
  | false => rw [latchEdge_other htaken]
  | true =>
    have hwake : (if srcWake s (549 + e) then wakeRequest s else s).reg a = s.reg a := by
      split
      · exact wakeRequest_reg s a
      · rfl
    rw [latchEdge_taken htaken]
    dsimp only
    split
    · exact (reg_setFld_other _ _ _ _ _ h).trans hwake
    · exact (raiseEvent_reg _ _ hp).trans hwake

/-- The state that the loss of the reference leaves before its edge and its record. -/
def refLost (s : State) : State :=
  (s.mapDev (fun d => { d with refPresent := false })).setFlds CK_STAT
    [(CK_STAT_REF_LOST, 1), (CK_STAT_REF_OK, 0), (CK_STAT_HOLD, if s.flag CK_STAT CK_STAT_REF_SEL then s.fld CK_STAT CK_STAT_HOLD else 1)]

theorem refLost_effect (s : State) : (refLost s).fld CK_STAT CK_STAT_REF_LOST = 1 ∧ (refLost s).fld CK_STAT CK_STAT_REF_OK = 0 ∧
    (s.fld CK_STAT CK_STAT_REF_SEL = 0 → (refLost s).fld CK_STAT CK_STAT_HOLD = 1) ∧ (refLost s).reg BB_SEQ = s.reg BB_SEQ := by
  have hhold : s.fld CK_STAT CK_STAT_REF_SEL = 0 → (if s.flag CK_STAT CK_STAT_REF_SEL then s.fld CK_STAT CK_STAT_HOLD else 1) = 1 := fun h =>
    if_neg (by rw [(flag_eq_false_iff _ _ _).2 h]; decide)
  have hseq : (s.mapDev (fun d => { d with refPresent := false })).reg BB_SEQ = s.reg BB_SEQ := mapDev_reg _ _ _
  unfold refLost
  generalize s.mapDev (fun d => { d with refPresent := false }) = x at hseq ⊢
  generalize (if s.flag CK_STAT CK_STAT_REF_SEL then s.fld CK_STAT CK_STAT_HOLD else 1) = hold at hhold ⊢
  refine ⟨(fld_setFld_ne _ _ _ _ _ (by decide) (by decide)).trans ((fld_setFld_ne _ _ _ _ _ (by decide) (by decide)).trans
    (fld_setFld_of_lt x CK_STAT CK_STAT_REF_LOST 1 (by decide) (by decide))), (fld_setFld_ne _ _ _ _ _ (by decide) (by decide)).trans
    (fld_setFld_of_lt _ CK_STAT CK_STAT_REF_OK 0 (by decide) (by decide)), fun h => ?_, (reg_setFlds_other _ _ _ _ (by decide)).trans hseq⟩
  rw [hhold h]
  exact fld_setFld_of_lt _ CK_STAT CK_STAT_HOLD 1 (by decide) (by decide)

theorem doRefclkLoss_idle (h : s.dev.refPresent = false) : doRefclkLoss s = s := by
  unfold doRefclkLoss
  rw [h]
  rfl

theorem doRefclkLoss_effect (h : s.dev.refPresent = true) : (doRefclkLoss s).fld CK_STAT CK_STAT_REF_LOST = 1 ∧
    (doRefclkLoss s).fld CK_STAT CK_STAT_REF_OK = 0 ∧ (s.fld CK_STAT CK_STAT_REF_SEL = 0 → (doRefclkLoss s).fld CK_STAT CK_STAT_HOLD = 1) ∧
    (doRefclkLoss s).reg BB_SEQ = s.reg BB_SEQ + 1 := by
  have heq : doRefclkLoss s = nutmeg 0x700 1 [((refLost s).reg CK_STAT).toNat] (latchEdge 46 true (refLost s)) := by
    unfold doRefclkLoss
    rw [h]
    rfl
  have hpend (b : Nat) (hb : b < IC_PEND_SET_i 0 ∨ IC_PEND_SET_i 32 ≤ b) (i : Nat) (hi : i < 32) : b ≠ IC_PEND_SET_i i := by
    simp only [IC_PEND_SET_i] at hb ⊢
    omega
  obtain ⟨h1, h2, h3, h4⟩ := refLost_effect s
  rw [heq]
  generalize refLost s = x at h1 h2 h3 h4
  have hstat : (nutmeg 0x700 1 [(x.reg CK_STAT).toNat] (latchEdge 46 true x)).reg CK_STAT = x.reg CK_STAT :=
    (nutmeg_reg_off _ _ _ _ (by decide)).trans (latchEdge_reg _ _ _ (by decide) (hpend _ (by decide)))
  refine ⟨(fld_of_reg_eq hstat _).trans h1, (fld_of_reg_eq hstat _).trans h2, fun h0 => (fld_of_reg_eq hstat _).trans (h3 h0), ?_⟩
  rw [nutmeg_seq, latchEdge_reg _ _ _ (by decide) (hpend _ (by decide)), h4]

theorem switchRef_effect {sel : Nat} (h : sel < 2) (s : State) : (switchRef sel s).fld CK_STAT CK_STAT_REF_SEL = sel ∧
    (switchRef sel s).fld CK_STAT CK_STAT_HOLD = 0 ∧ (switchRef sel s).dev.switching = true :=
  ⟨(fld_setFld_ne _ _ _ _ _ (by decide) (by decide)).trans (fld_setFld_of_lt _ _ _ _ (by decide) h),
    fld_setFld_of_lt _ CK_STAT CK_STAT_HOLD 0 (by decide) (by decide), rfl⟩

theorem doHoldExpiry_idle (h : s.fld CK_STAT CK_STAT_HOLD = 0 ∨ s.fld CK_STAT CK_STAT_FREERUN = 1) : doHoldExpiry s = s := by
  unfold doHoldExpiry
  refine if_pos ?_
  rcases h with h | h
  · rw [(flag_eq_false_iff _ _ _).2 h]
    rfl
  · rw [flag_eq_true_of_fld_eq_one _ _ _ h]
    simp

theorem doHoldExpiry_expires (h : s.fld CK_STAT CK_STAT_HOLD = 1) (hf : s.fld CK_STAT CK_STAT_FREERUN = 0) : doHoldExpiry s =
    if s.flag CK_CTL CK_CTL_XTAL_EN && s.flag CK_STAT CK_STAT_XTAL_OK then switchRef 1 s else s.setFld CK_STAT CK_STAT_FREERUN 1 := by
  unfold doHoldExpiry
  rw [flag_eq_true_of_fld_eq_one _ _ _ h, (flag_eq_false_iff _ _ _).2 hf]
  rfl

theorem doHoldExpiry_effect (h : s.fld CK_STAT CK_STAT_HOLD = 1) (hf : s.fld CK_STAT CK_STAT_FREERUN = 0) :
    (s.fld CK_CTL CK_CTL_XTAL_EN = 1 → s.fld CK_STAT CK_STAT_XTAL_OK = 1 → doHoldExpiry s = switchRef 1 s) ∧
      (s.fld CK_CTL CK_CTL_XTAL_EN = 0 ∨ s.fld CK_STAT CK_STAT_XTAL_OK = 0 → doHoldExpiry s = s.setFld CK_STAT CK_STAT_FREERUN 1) := by
  rw [doHoldExpiry_expires h hf]
  refine ⟨fun he hx => ?_, fun hx => if_neg ?_⟩
  · rw [flag_eq_true_of_fld_eq_one _ _ _ he, flag_eq_true_of_fld_eq_one _ _ _ hx]
    rfl
  · rcases hx with hx | hx
    · rw [(flag_eq_false_iff _ _ _).2 hx]
      simp
    · rw [(flag_eq_false_iff _ _ _).2 hx]
      simp

theorem doFallbackLock_idle (h : s.dev.switching = false) : doFallbackLock s = s := by
  unfold doFallbackLock
  rw [h]
  rfl

theorem doFallbackLock_effect (h : s.dev.switching = true) : (doFallbackLock s).fld CK_STAT CK_STAT_LOCKED = 15 ∧
    (doFallbackLock s).fld CK_STAT CK_STAT_FALLBACK = 1 ∧ (doFallbackLock s).dev = { s.dev with switching := false } := by
  have heq : doFallbackLock s = (s.setFlds CK_STAT [(CK_STAT_FALLBACK, 1), (CK_STAT_LOCKED, 15)]).mapDev (fun d => { d with switching := false }) := by
    unfold doFallbackLock
    rw [h]
    rfl
  rw [heq]
  exact ⟨fld_setFld_of_lt _ CK_STAT CK_STAT_LOCKED 15 (by decide) (by decide),
    (fld_setFld_ne _ _ _ _ _ (by decide) (by decide)).trans (fld_setFld_of_lt s CK_STAT CK_STAT_FALLBACK 1 (by decide) (by decide)), rfl⟩

theorem doXtalReady_effect (s : State) :
    (s.fld CK_CTL CK_CTL_XTAL_EN = 1 → s.dev.xtal = true → doXtalReady s = s.setFld CK_STAT CK_STAT_XTAL_OK 1) ∧
      (s.fld CK_CTL CK_CTL_XTAL_EN = 0 ∨ s.dev.xtal = false → doXtalReady s = s) := by
  unfold doXtalReady
  refine ⟨fun he hx => ?_, fun h => if_neg ?_⟩
  · rw [flag_eq_true_of_fld_eq_one _ _ _ he, hx]
    rfl
  · rcases h with h | h
    · rw [(flag_eq_false_iff _ _ _).2 h]
      simp
    · rw [h]
      simp

theorem ckReturn_switches (h1 : s.fld CK_STAT CK_STAT_REF_OK = 1) (h2 : s.fld CK_STAT CK_STAT_REF_SEL = 1) : ckReturn s = switchRef 0 s := by
  unfold ckReturn
  rw [flag_eq_true_of_fld_eq_one _ _ _ h1, flag_eq_true_of_fld_eq_one _ _ _ h2]
  rfl

theorem ckReturn_idle (h : s.fld CK_STAT CK_STAT_REF_OK = 0) : ckReturn s = s := by
  unfold ckReturn
  rw [(flag_eq_false_iff _ _ _).2 h]
  rfl

theorem doRefOk_idle (h : s.dev.refPresent = false ∨ s.fld CK_STAT CK_STAT_REF_SEL = 0) : doRefOk s = s := by
  unfold doRefOk
  refine if_neg ?_
  rcases h with h | h
  · rw [h]
    simp
  · rw [(flag_eq_false_iff _ _ _).2 h]
    simp

theorem doRefOk_stable (h : s.dev.refPresent = true) (hs : s.fld CK_STAT CK_STAT_REF_SEL = 1) : doRefOk s =
    if s.flag CK_CTL CK_CTL_AUTO_RETURN then ckReturn (s.setFld CK_STAT CK_STAT_REF_OK 1) else s.setFld CK_STAT CK_STAT_REF_OK 1 := by
  unfold doRefOk
  rw [h, flag_eq_true_of_fld_eq_one _ _ _ hs]
  rfl

theorem doRefOk_effect (h : s.dev.refPresent = true) (hs : s.fld CK_STAT CK_STAT_REF_SEL = 1) :
    (s.fld CK_CTL CK_CTL_AUTO_RETURN = 0 → doRefOk s = s.setFld CK_STAT CK_STAT_REF_OK 1) ∧
      (s.fld CK_CTL CK_CTL_AUTO_RETURN = 1 → doRefOk s = switchRef 0 (s.setFld CK_STAT CK_STAT_REF_OK 1)) := by
  rw [doRefOk_stable h hs]
  refine ⟨fun ha => ?_, fun ha => ?_⟩
  · rw [(flag_eq_false_iff _ _ _).2 ha]
    rfl
  · rw [if_pos (flag_eq_true_of_fld_eq_one _ _ _ ha)]
    exact ckReturn_switches (fld_setFld_of_lt _ _ _ _ (by decide) (by decide)) ((fld_setFld_ne _ _ _ _ _ (by decide) (by decide)).trans hs)

/-- CK_CTL after a write with RETURN. -/
def returnWritten (s : State) : State :=
  let x := s.writeByType CK_CTL (BitVec.ofNat 32 (bits (s.reg CK_CTL).toNat 0 2 + 4))
  if bits (BitVec.ofNat 32 (bits (s.reg CK_CTL).toNat 0 2 + 4)).toNat 0 1 = 1 then x else x.setFld CK_STAT CK_STAT_XTAL_OK 0

theorem returnWritten_effect (s : State) : (returnWritten s).dev = s.dev ∧
    ∀ f : Fld, CK_STAT_XTAL_OK.lo + CK_STAT_XTAL_OK.w ≤ f.lo ∨ f.lo + f.w ≤ CK_STAT_XTAL_OK.lo → (returnWritten s).fld CK_STAT f = s.fld CK_STAT f := by
  unfold returnWritten
  generalize BitVec.ofNat 32 (bits (s.reg CK_CTL).toNat 0 2 + 4) = v
  have hdev : (s.writeByType CK_CTL v).dev = s.dev := (congrArg State.dev (writeByType_rest s CK_CTL v) :)
  have hfld (f : Fld) : (s.writeByType CK_CTL v).fld CK_STAT f = s.fld CK_STAT f := fld_of_reg_eq (reg_writeByType_other _ _ _ _ (by decide)) f
  generalize s.writeByType CK_CTL v = x at hdev hfld
  dsimp only
  split
  · exact ⟨hdev, fun f _ => hfld f⟩
  · exact ⟨hdev, fun f hf => (fld_setFld_ne _ _ _ _ _ (by decide) hf).trans (hfld f)⟩

theorem doReturn_idle (h : ¬ (ag = .clove ∨ ag = .dap)) (s : State) : doReturn ag s = s := by
  unfold doReturn writeCkCtl
  rw [cloveOrDap_of_not h]
  rfl

theorem doReturn_eq (hag : ag = .clove ∨ ag = .dap) (s : State) : doReturn ag s = ckReturn (returnWritten s) := by
  have hbit : bits (BitVec.ofNat 32 (bits (s.reg CK_CTL).toNat 0 2 + 4)).toNat 2 1 = 1 := by
    have h : bits (s.reg CK_CTL).toNat 0 2 < 4 := Nat.mod_lt _ (by decide)
    generalize bits (s.reg CK_CTL).toNat 0 2 = x at h
    unfold bits
    rw [BitVec.toNat_ofNat]
    omega
  unfold doReturn writeCkCtl
  rw [cloveOrDap_of hag]
  exact if_pos hbit

theorem doReturn_effect (hag : ag = .clove ∨ ag = .dap) (s : State) :
    (s.fld CK_STAT CK_STAT_REF_OK = 1 → s.fld CK_STAT CK_STAT_REF_SEL = 1 → (doReturn ag s).fld CK_STAT CK_STAT_REF_SEL = 0 ∧
      (doReturn ag s).fld CK_STAT CK_STAT_HOLD = 0 ∧ (doReturn ag s).dev.switching = true) ∧
    (s.fld CK_STAT CK_STAT_REF_OK = 0 → (doReturn ag s).fld CK_STAT CK_STAT_REF_SEL = s.fld CK_STAT CK_STAT_REF_SEL ∧ (doReturn ag s).dev = s.dev) := by
  obtain ⟨hdev, hfld⟩ := returnWritten_effect s
  have hok := hfld CK_STAT_REF_OK (by decide)
  have hsel := hfld CK_STAT_REF_SEL (by decide)
  rw [doReturn_eq hag]
  generalize returnWritten s = x at hdev hok hsel
  refine ⟨fun h1 h2 => ?_, fun h => ?_⟩
  · rw [ckReturn_switches (hok.trans h1) (hsel.trans h2)]
    exact switchRef_effect (by decide) x
  · rw [ckReturn_idle (hok.trans h)]
    exact ⟨hsel, hdev⟩

theorem doRefclkReturn_effect (s : State) : (doRefclkReturn s).dev = { s.dev with refPresent := true } ∧
    (s.fld CK_STAT CK_STAT_REF_SEL = 0 → (doRefclkReturn s).fld CK_STAT CK_STAT_HOLD = 0 ∧ (doRefclkReturn s).fld CK_STAT CK_STAT_FREERUN = 0) := by
  unfold doRefclkReturn
  refine ⟨?_, fun h => ?_⟩
  · dsimp only
    split <;> rfl
  · rw [(flag_eq_false_iff _ _ _).2 h]
    generalize s.mapDev (fun d => { d with refPresent := true }) = x
    exact ⟨(fld_setFld_ne _ _ _ _ _ (by decide) (by decide)).trans (fld_setFld_of_lt x CK_STAT CK_STAT_HOLD 0 (by decide) (by decide)),
      fld_setFld_of_lt _ CK_STAT CK_STAT_FREERUN 0 (by decide) (by decide)⟩

/-! ### Links that go down -/

/-- Work of links that go down: only the network's own registers change, and no link comes up. -/
structure LinkLoss (s t : State) : Prop where
  dev : t.dev = s.dev
  request : t.rstReq = s.rstReq
  phase : t.phase = s.phase
  reg : ∀ a, a ∉ [NET_RING_STAT, NET_PTP_STAT, NET_DCO_FREQ] → (∀ e, e < 4 → a ≠ NET_PORT_p_STAT e) → t.reg a = s.reg a
  link : ∀ e, s.fld (NET_PORT_p_STAT e) NET_PORT_p_STAT_LINK = 0 → t.fld (NET_PORT_p_STAT e) NET_PORT_p_STAT_LINK = 0

namespace LinkLoss

theorem refl (s : State) : LinkLoss s s := ⟨rfl, rfl, rfl, fun _ _ _ => rfl, fun _ h => h⟩

theorem trans (h : LinkLoss s t) (k : LinkLoss t u) : LinkLoss s u :=
  ⟨k.dev.trans h.dev, k.request.trans h.request, k.phase.trans h.phase, fun a h1 h2 => (k.reg a h1 h2).trans (h.reg a h1 h2),
    fun e he => k.link e (h.link e he)⟩

end LinkLoss

theorem linkUp_false (h : s.fld (NET_PORT_p_STAT p) NET_PORT_p_STAT_LINK = 0) : linkUp s p = false := by
  unfold linkUp
  rw [(flag_eq_false_iff _ _ _).2 h]
  rfl

theorem enterHoldover_rest (s : State) : (enterHoldover s).dev = s.dev ∧ (enterHoldover s).rstReq = s.rstReq ∧ (enterHoldover s).phase = s.phase := by
  unfold enterHoldover
  split
  · exact ⟨rfl, rfl, rfl⟩
  · exact ⟨rfl, rfl, rfl⟩

theorem checkIsolation_rest (s : State) : (checkIsolation s).dev = s.dev ∧ (checkIsolation s).rstReq = s.rstReq ∧ (checkIsolation s).phase = s.phase := by
  unfold checkIsolation isolate
  split
  · exact ⟨rfl, rfl, rfl⟩
  · split
    · split
      · exact ⟨rfl, rfl, rfl⟩
      · exact enterHoldover_rest _
    · exact ⟨rfl, rfl, rfl⟩

theorem checkIsolation_loss (s : State) : LinkLoss s (checkIsolation s) := by
  have hreg (a : Nat) (ha : a ∉ [NET_RING_STAT, NET_PTP_STAT, NET_DCO_FREQ]) : (checkIsolation s).reg a = s.reg a := by
    simp only [List.mem_cons, List.not_mem_nil, or_false, not_or] at ha
    obtain ⟨h0, h1, h2⟩ := ha
    exact checkIsolation_reg s h0 h1 h2
  obtain ⟨hdev, hreq, hphase⟩ := checkIsolation_rest s
  refine ⟨hdev, hreq, hphase, fun a ha _ => hreg a ha, fun e he => (fld_of_reg_eq (hreg _ ?_) _).trans he⟩
  simp only [List.mem_cons, List.not_mem_nil, or_false, not_or, NET_PORT_p_STAT, NET_RING_STAT, NET_PTP_STAT, NET_DCO_FREQ]
  omega

/-- The marks of a lost link, before the isolation check. -/
def linkMarked (p : Nat) (s : State) : State :=
  setMismatch (ringOf p) (((s.setFld (NET_PORT_p_STAT p) NET_PORT_p_STAT_LINK 0).setFld (NET_PORT_p_STAT p)
    NET_PORT_p_STAT_LINK_LOST 1).setFld NET_RING_STAT (ringOpenFld (ringOf p)) 1)

theorem linkMarked_own (p : Nat) (s : State) : (linkMarked p s).fld (NET_PORT_p_STAT p) NET_PORT_p_STAT_LINK = 0 := by
  unfold linkMarked
  rw [setMismatch_beside _ _ _ (by decide), fld_setFld_other _ _ _ _ _ _ (ringStat_ne_portStat p).symm, fld_setFld_ne _ _ _ _ _ (by decide) (by decide)]
  exact fld_setFld_of_lt _ _ _ _ (by decide) (by decide)

theorem linkMarked_loss (hp : p < 4) (s : State) : LinkLoss s (linkMarked p s) := by
  refine ⟨rfl, rfl, rfl, fun a ha hport => ?_, fun e he => ?_⟩
  · have hring : a ≠ NET_RING_STAT := fun h => ha (h ▸ List.mem_cons_self ..)
    have hlt : 2 * ringOf p + 1 < 4 := by
      unfold ringOf
      omega
    exact (setMismatch_reg _ _ (hport _ (by omega)) (hport _ hlt)).trans ((reg_setFld_other _ _ _ _ _ hring).trans
      ((reg_setFld_other _ _ _ _ _ (hport p hp)).trans (reg_setFld_other _ _ _ _ _ (hport p hp))))
  · by_cases h : e = p
    · subst h
      exact linkMarked_own e s
    · unfold linkMarked
      rw [setMismatch_beside _ _ _ (by decide), fld_setFld_other _ _ _ _ _ _ (ringStat_ne_portStat e).symm,
        fld_setFld_other _ _ _ _ _ _ (portStat_inj h), fld_setFld_other _ _ _ _ _ _ (portStat_inj h)]
      exact he

theorem doLinkDown_loss (hp : p < 4) (s : State) : LinkLoss s (doLinkDown p s) ∧
    (doLinkDown p s).fld (NET_PORT_p_STAT p) NET_PORT_p_STAT_LINK = 0 := by
  cases h : s.flag (NET_PORT_p_STAT p) NET_PORT_p_STAT_LINK with
  | false =>
    have heq : doLinkDown p s = s := by
      unfold doLinkDown
      rw [h]
      rfl
    rw [heq]
    exact ⟨LinkLoss.refl s, (flag_eq_false_iff _ _ _).1 h⟩
  | true =>
    have heq : ∃ f, doLinkDown p s = checkIsolation ((linkMarked p s).mapNet f) := ⟨_, doLinkDown_linked ((flag_eq_true_iff s _ rfl).1 h)⟩
    obtain ⟨f, heq⟩ := heq
    have hmark := linkMarked_loss hp s
    have hown := linkMarked_own p s
    rw [heq]
    generalize linkMarked p s = x at hmark hown
    have hnet : LinkLoss x (x.mapNet f) := ⟨rfl, rfl, rfl, fun _ _ _ => rfl, fun _ h => h⟩
    have hcheck := checkIsolation_loss (x.mapNet f)
    exact ⟨(hmark.trans hnet).trans hcheck, hcheck.link p (hnet.link p hown)⟩

/-- The ports of `l` go down, one after another. -/
theorem linksDown_loss {l : List Nat} (hl : ∀ e ∈ l, e < 4) (s : State) : LinkLoss s (s.each l (fun s p => doLinkDown p s)) ∧
    ∀ e ∈ l, (s.each l (fun s p => doLinkDown p s)).fld (NET_PORT_p_STAT e) NET_PORT_p_STAT_LINK = 0 :=
  ⟨each_induction (P := LinkLoss s) (LinkLoss.refl s) fun u p hp hu => hu.trans (doLinkDown_loss (hl p hp) u).1,
    each_sets (P := fun e u => u.fld (NET_PORT_p_STAT e) NET_PORT_p_STAT_LINK = 0) (fun u p hp => (doLinkDown_loss (hl p hp) u).2)
      (fun u p e hp _ h => (doLinkDown_loss (hl p hp) u).1.link e h) s⟩

theorem portsDown_loss (s : State) : LinkLoss s (portsDown s) ∧ ∀ e, e < 4 → linkUp (portsDown s) e = false := by
  obtain ⟨h1, h2⟩ := linksDown_loss (l := List.range 4) (fun e he => List.mem_range.1 he) s
  exact ⟨h1, fun e he => linkUp_false (h2 e (List.mem_range.2 he))⟩

/-! ### The PLLs -/

/-- The bits of a PLL that has lost its lock. -/
def lockLost (p : Nat) (s : State) : State := setBit (setBit s CK_STAT CK_STAT_LOCK_LOST p true) CK_STAT CK_STAT_LOCKED p false

theorem lockLost_bits (hp : p < 4) (s : State) : bits ((lockLost p s).fld CK_STAT CK_STAT_LOCKED) p 1 = 0 ∧
    bits ((lockLost p s).fld CK_STAT CK_STAT_LOCK_LOST) p 1 = 1 := by
  refine ⟨setBit_same _ CK_STAT (f := CK_STAT_LOCKED) (by decide) hp false, ?_⟩
  have h := setBit_same s CK_STAT (f := CK_STAT_LOCK_LOST) (by decide) hp true
  unfold lockLost
  rw [setBit_beside _ _ _ _ (by decide) (by decide)]
  exact h

theorem doPllLockLoss_effect (hp : p < 4) (s : State) : bits ((doPllLockLoss p s).fld CK_STAT CK_STAT_LOCKED) p 1 = 0 ∧
    bits ((doPllLockLoss p s).fld CK_STAT CK_STAT_LOCK_LOST) p 1 = 1 ∧ (doPllLockLoss p s).rstReq = (if p < 2 then s.rstReq ++ [8] else s.rstReq) ∧
    (p = 2 → ∀ e : Fin 4, linkUp (doPllLockLoss p s) e = false) ∧ (p = 3 → (doPllLockLoss p s).fld NET_PTP_STAT NET_PTP_STAT_LOCKED = 0) := by
  have heq : doPllLockLoss p s = if p < 2 then warmRequest 8 (lockLost p s) else if p = 2 then portsDown (lockLost p s)
    else (lockLost p s).setFld NET_PTP_STAT NET_PTP_STAT_LOCKED 0 := rfl
  have hreq : (lockLost p s).rstReq = s.rstReq := rfl
  obtain ⟨h1, h2⟩ := lockLost_bits hp s
  rw [heq]
  generalize lockLost p s = x at h1 h2 hreq
  by_cases hlow : p < 2
  · rw [if_pos hlow, if_pos hlow]
    exact ⟨h1, h2, congrArg (· ++ [8]) hreq, fun h => by omega, fun h => by omega⟩
  rw [if_neg hlow, if_neg hlow]
  by_cases hlink : p = 2
  · obtain ⟨hloss, hdown⟩ := portsDown_loss x
    have hstat := hloss.reg CK_STAT (by decide) fun e he => by
      simp only [CK_STAT, NET_PORT_p_STAT]
      omega
    rw [if_pos hlink, fld_of_reg_eq hstat, fld_of_reg_eq hstat]
    exact ⟨h1, h2, hloss.request.trans hreq, fun _ e => hdown e e.isLt, fun h => by omega⟩
  · have hstat : (x.setFld NET_PTP_STAT NET_PTP_STAT_LOCKED 0).reg CK_STAT = x.reg CK_STAT := reg_setFld_other _ _ _ _ _ (by decide)
    rw [if_neg hlink, fld_of_reg_eq hstat, fld_of_reg_eq hstat]
    exact ⟨h1, h2, hreq, fun h => absurd h hlink, fun _ => fld_setFld_of_lt _ _ _ _ (by decide) (by decide)⟩

theorem doPllLockReturn_effect (hp : p < 4) (s : State) : OnlyRegs [CK_STAT] s (doPllLockReturn p s) ∧
    bits ((doPllLockReturn p s).fld CK_STAT CK_STAT_LOCKED) p 1 = 1 :=
  ⟨(onlyRegs_refl _ s).setFld (by simp) _ _, setBit_same s CK_STAT (f := CK_STAT_LOCKED) (by decide) hp true⟩

end Sys2Proof.Machine
end

section

/-! SUPPORT. Clock gates, Standby and the watchdogs (R389, R400 to R407): O58. -/

namespace Sys2Proof.Machine
open R

variable {ag : Agent} {a n : Nat} {v : Word} {s t u : State}

/-! ### Clock gates -/

theorem doClockGateWrite_effect (hag : ag = .clove ∨ ag = .dap) (v : Word) (s : State) :
    doClockGateWrite ag true v s = s.setReg CK_GATE_HI (v &&& 0x3FFFEFFF#32) ∧
      doClockGateWrite ag false v s = s.setReg CK_GATE_LO (v &&& 0xFFFFCFFF#32) := by
  unfold doClockGateWrite
  rw [cloveOrDap_of hag]
  exact ⟨rfl, rfl⟩

theorem not_mayGates (h : ¬ (ag = .clove ∨ ag = .dap)) (hi : Bool) (v : Word) (s : State) :
    doClockGateWrite ag hi v s = s ∧ doTileGateWrite ag v s = s := by
  unfold doClockGateWrite doTileGateWrite writeTileCtl
  rw [cloveOrDap_of_not h]
  exact ⟨rfl, rfl⟩

/-! ### Standby -/

/-- PM_CTL after a write, and nothing else. -/
def pmWritten (v : Word) (s : State) : State := s.writeByType PM_CTL v

theorem pmWritten_only (v : Word) (s : State) : OnlyRegs [PM_CTL] s (pmWritten v s) := (onlyRegs_refl _ s).writeByType (by simp) v

theorem pmWritten_reg (v : Word) (s : State) (h : a ≠ PM_CTL) : (pmWritten v s).reg a = s.reg a := reg_writeByType_other _ _ _ _ h

theorem pmWritten_dev (v : Word) (s : State) : (pmWritten v s).dev = s.dev := (congrArg State.dev (writeByType_rest s PM_CTL v) :)

theorem doStby_eq (hag : ag = .clove ∨ ag = .dap) (s : State) : doStby ag s = enterStandby (pmWritten 1 s) := by
  unfold doStby writePmCtl
  rw [cloveOrDap_of hag]
  rfl

theorem doWake_eq (hag : ag = .clove ∨ ag = .dap) (s : State) : doWake ag s = wakeRequest (pmWritten 2 s) := by
  unfold doWake writePmCtl
  rw [cloveOrDap_of hag]
  rfl

theorem not_mayStandby (h : ¬ (ag = .clove ∨ ag = .dap)) (s : State) : doStby ag s = s ∧ doWake ag s = s := by
  unfold doStby doWake writePmCtl
  rw [cloveOrDap_of_not h]
  exact ⟨rfl, rfl⟩

theorem enterStandby_enters (h1 : inRun s = true) (h2 : sxRunning s = false) (h3 : s.dev.stby = 0)
    (h4 : ∀ g : Fin 8, s.fld (DRV_GRP_g_CTL g) DRV_GRP_g_CTL_EN_OUT = 0) (h5 : ∀ j : Fin 12, tileGate s j = true ∨ tileOn s j = false) :
    enterStandby s = s.mapDev (fun d => { d with stby := 1, wakeLater := false }) := by
  have hgroups : (List.range 8).all (fun g => !s.flag (DRV_GRP_g_CTL g) DRV_GRP_g_CTL_EN_OUT) = true := by
    refine List.all_eq_true.2 fun g hg => ?_
    rw [(flag_eq_false_iff _ _ _).2 (h4 ⟨g, List.mem_range.1 hg⟩)]
    rfl
  have htiles : (List.range 12).all (fun t => tileGate s t || !tileOn s t) = true := by
    refine List.all_eq_true.2 fun j hj => ?_
    rcases h5 ⟨j, List.mem_range.1 hj⟩ with h | h
    · rw [h]
      rfl
    · rw [h]
      exact Bool.or_true _
  unfold enterStandby
  rw [h1, h2, hgroups, htiles, h3]
  rfl

theorem enterStandby_busy (h : inRun s = false ∨ sxRunning s = true ∨ s.dev.stby ≠ 0) : enterStandby s = s.setFld PM_ERR PM_ERR_STBY_BUSY 1 := by
  unfold enterStandby
  refine if_neg ?_
  rcases h with h | h | h
  · simp [h]
  · simp [h]
  · simp [h]

theorem doStby_enters (hag : ag = .clove ∨ ag = .dap) (h1 : inRun s = true) (h2 : sxRunning s = false) (h3 : s.dev.stby = 0)
    (h4 : ∀ g : Fin 8, s.fld (DRV_GRP_g_CTL g) DRV_GRP_g_CTL_EN_OUT = 0) (h5 : ∀ j : Fin 12, tileGate s j = true ∨ tileOn s j = false) :
    (doStby ag s).dev = { s.dev with stby := 1, wakeLater := false } ∧ (doStby ag s).reg PM_ERR = s.reg PM_ERR := by
  have hreg (b : Nat) (hb : b ≠ PM_CTL) := pmWritten_reg 1 s hb
  have hdev := pmWritten_dev 1 s
  rw [doStby_eq hag]
  generalize pmWritten 1 s = x at hreg hdev
  have hgroup (g : Fin 8) : DRV_GRP_g_CTL g ≠ PM_CTL := by
    simp only [DRV_GRP_g_CTL, PM_CTL]
    omega
  have hgate (j : Fin 12) : tileGate x j = tileGate s j := by
    unfold tileGate
    rw [fld_of_reg_eq (hreg _ (by decide))]
  rw [enterStandby_enters ((flag_of_reg_eq (hreg _ (by decide)) _).trans h1) ((flag_of_reg_eq (hreg _ (by decide)) _).trans h2)
    ((congrArg Dev.stby hdev).trans h3) (fun g => (fld_of_reg_eq (hreg _ (hgroup g)) _).trans (h4 g))
    (fun j => (h5 j).imp (hgate j).trans (tileOn_of_reg_eq (hreg _ (by decide)) j).trans)]
  exact ⟨congrArg (fun d : Dev => { d with stby := 1, wakeLater := false }) hdev, hreg _ (by decide)⟩

theorem doStby_busy (hag : ag = .clove ∨ ag = .dap) (h : inRun s = false ∨ sxRunning s = true ∨ s.dev.stby ≠ 0) :
    (doStby ag s).dev = s.dev ∧ (doStby ag s).fld PM_ERR PM_ERR_STBY_BUSY = 1 := by
  have hrun : inRun (pmWritten 1 s) = inRun s := flag_of_reg_eq (pmWritten_reg 1 s (by decide)) _
  have hsx : sxRunning (pmWritten 1 s) = sxRunning s := flag_of_reg_eq (pmWritten_reg 1 s (by decide)) _
  have hdev := pmWritten_dev 1 s
  rw [doStby_eq hag]
  generalize pmWritten 1 s = x at hrun hsx hdev
  rw [enterStandby_busy (by rw [hrun, hsx, hdev]; exact h)]
  exact ⟨hdev, fld_setFld_of_lt _ _ _ _ (by decide) (by decide)⟩

theorem doWake_effect (hag : ag = .clove ∨ ag = .dap) (s : State) :
    (s.dev.stby = 2 → (doWake ag s).dev = { s.dev with stby := 3 }) ∧ (s.dev.stby = 1 → (doWake ag s).dev = { s.dev with wakeLater := true }) ∧
      (s.dev.stby = 0 → OnlyRegs [PM_CTL] s (doWake ag s)) := by
  have hdev := pmWritten_dev 2 s
  have honly := pmWritten_only 2 s
  rw [doWake_eq hag]
  generalize pmWritten 2 s = x at hdev honly
  have hstby (k : Nat) (h : s.dev.stby = k) : x.dev.stby = k := (congrArg Dev.stby hdev).trans h
  unfold wakeRequest
  refine ⟨fun h => ?_, fun h => ?_, fun h => ?_⟩
  · rw [if_pos (hstby 2 h)]
    exact congrArg (fun d : Dev => { d with stby := 3 }) hdev
  · rw [if_neg (by rw [hstby 1 h]; decide), if_pos (hstby 1 h)]
    exact congrArg (fun d : Dev => { d with wakeLater := true }) hdev
  · rw [if_neg (by rw [hstby 0 h]; decide), if_neg (by rw [hstby 0 h]; decide)]
    exact honly

/-- The registers once the links have stopped for Standby. -/
def linksStopped (s : State) : State :=
  ((s.setFld PM_STAT PM_STAT_STANDBY 1).each [1, 2, 3] (fun s p => doLinkDown p s)).each [0, 1] (fun s p => s.setFld (NV_p_STAT p) NV_p_STAT_LINK 0)

theorem nvLinks_effect (s : State) : OnlyRegs [NV_p_STAT 0, NV_p_STAT 1] s (s.each [0, 1] (fun s p => s.setFld (NV_p_STAT p) NV_p_STAT_LINK 0)) ∧
    ∀ d : Fin 2, (s.each [0, 1] (fun s p => s.setFld (NV_p_STAT p) NV_p_STAT_LINK 0)).fld (NV_p_STAT d) NV_p_STAT_LINK = 0 := by
  have heq : s.each [0, 1] (fun s p => s.setFld (NV_p_STAT p) NV_p_STAT_LINK 0) =
    (s.setFld (NV_p_STAT 0) NV_p_STAT_LINK 0).setFld (NV_p_STAT 1) NV_p_STAT_LINK 0 := rfl
  rw [heq]
  refine ⟨((onlyRegs_refl _ s).setFld (by simp) _ _).setFld (by simp) _ _, fun d => ?_⟩
  match d with
  | 0 => exact (fld_setFld_other _ _ _ _ _ _ (by decide)).trans (fld_setFld_of_lt _ (NV_p_STAT 0) NV_p_STAT_LINK 0 (by decide) (by decide))
  | 1 => exact fld_setFld_of_lt _ (NV_p_STAT 1) NV_p_STAT_LINK 0 (by decide) (by decide)

theorem linksStopped_effect (s : State) : (linksStopped s).dev = s.dev ∧ (linksStopped s).fld PM_STAT PM_STAT_STANDBY = 1 ∧
    (∀ e : Fin 4, e.val ≠ 0 → linkUp (linksStopped s) e = false) ∧ ∀ d : Fin 2, (linksStopped s).fld (NV_p_STAT d) NV_p_STAT_LINK = 0 := by
  unfold linksStopped
  have hset : (s.setFld PM_STAT PM_STAT_STANDBY 1).fld PM_STAT PM_STAT_STANDBY = 1 := fld_setFld_of_lt _ _ _ _ (by decide) (by decide)
  have hdev : (s.setFld PM_STAT PM_STAT_STANDBY 1).dev = s.dev := rfl
  generalize s.setFld PM_STAT PM_STAT_STANDBY 1 = x at hset hdev
  obtain ⟨hloss, hdown⟩ := linksDown_loss (l := [1, 2, 3]) (by decide) x
  generalize x.each [1, 2, 3] (fun s p => doLinkDown p s) = y at hloss hdown
  obtain ⟨⟨hrest, hother⟩, hnv⟩ := nvLinks_effect y
  generalize y.each [0, 1] (fun s p => s.setFld (NV_p_STAT p) NV_p_STAT_LINK 0) = z at hrest hother hnv
  refine ⟨((congrArg State.dev hrest :).trans hloss.dev).trans hdev, ?_, fun e he => ?_, hnv⟩
  · have hpm := hloss.reg PM_STAT (by decide) fun e he => by
      simp only [PM_STAT, NET_PORT_p_STAT]
      omega
    exact (fld_of_reg_eq ((hother _ (by decide)).trans hpm) _).trans hset
  · have hport : NET_PORT_p_STAT e ∉ [NV_p_STAT 0, NV_p_STAT 1] := by
      simp only [List.mem_cons, List.not_mem_nil, or_false, NET_PORT_p_STAT, NV_p_STAT]
      omega
    refine linkUp_false ((fld_of_reg_eq (hother _ hport) _).trans (hdown e ?_))
    simp only [List.mem_cons, List.not_mem_nil, or_false]
    omega

theorem doStandbyEntered_idle (h : s.dev.stby ≠ 1) : doStandbyEntered s = s := if_pos h

/-- The device once the links have stopped. -/
def standbyIn (s : State) : State := (linksStopped s).mapDev (fun d => { d with stby := 2, hpe := false })

theorem doStandbyEntered_stops (h : s.dev.stby = 1) : doStandbyEntered s =
    if (standbyIn s).dev.wakeLater then wakeRequest ((standbyIn s).mapDev (fun d => { d with wakeLater := false })) else standbyIn s :=
  if_neg (not_not_intro h)

theorem standbyIn_dev (s : State) : (standbyIn s).dev = { s.dev with stby := 2, hpe := false } :=
  congrArg (fun d : Dev => { d with stby := 2, hpe := false }) (linksStopped_effect s).1

theorem doStandbyEntered_effect (h : s.dev.stby = 1) (hw : s.dev.wakeLater = false) : (doStandbyEntered s).fld PM_STAT PM_STAT_STANDBY = 1 ∧
    (doStandbyEntered s).dev.stby = 2 ∧ (doStandbyEntered s).dev.hpe = false ∧ (∀ e : Fin 4, e.val ≠ 0 → linkUp (doStandbyEntered s) e = false) ∧
    ∀ d : Fin 2, (doStandbyEntered s).fld (NV_p_STAT d) NV_p_STAT_LINK = 0 := by
  obtain ⟨-, hpm, hlink, hnv⟩ := linksStopped_effect s
  have hdev := standbyIn_dev s
  have hreg (a : Nat) : (standbyIn s).reg a = (linksStopped s).reg a := mapDev_reg _ _ _
  rw [doStandbyEntered_stops h, if_neg (by rw [hdev]; simp [hw]), hdev]
  generalize linksStopped s = x at hpm hlink hnv hreg
  generalize standbyIn s = y at hreg
  refine ⟨(fld_of_reg_eq (hreg _) _).trans hpm, rfl, rfl, fun e he => ?_, fun d => (fld_of_reg_eq (hreg _) _).trans (hnv d)⟩
  refine Eq.trans ?_ (hlink e he)
  unfold linkUp portRate
  rw [flag_of_reg_eq (hreg _), fld_of_reg_eq (hreg _)]

theorem doStandbyEntered_wakes (h : s.dev.stby = 1) (hw : s.dev.wakeLater = true) : (doStandbyEntered s).dev.stby = 3 := by
  have hdev := standbyIn_dev s
  have hlater : (standbyIn s).dev.wakeLater = true := (congrArg Dev.wakeLater hdev).trans hw
  have hstby : (standbyIn s).dev.stby = 2 := congrArg Dev.stby hdev
  rw [doStandbyEntered_stops h, if_pos hlater]
  generalize standbyIn s = y at hstby
  exact congrArg (fun u : State => u.dev.stby) (if_pos hstby)

theorem doStandbyExited_idle (h : s.dev.stby ≠ 3) : doStandbyExited s = s := if_pos h

theorem doStandbyExited_effect (h : s.dev.stby = 3) : OnlyRegs [PM_STAT] { s with dev := (doStandbyExited s).dev } (doStandbyExited s) ∧
    (doStandbyExited s).fld PM_STAT PM_STAT_STANDBY = 0 ∧ (doStandbyExited s).dev = { s.dev with stby := 0 } := by
  have heq : doStandbyExited s = (s.setFld PM_STAT PM_STAT_STANDBY 0).mapDev (fun d => { d with stby := 0 }) := if_neg (not_not_intro h)
  rw [heq]
  refine ⟨⟨rfl, fun a ha => reg_setFld_other _ _ _ _ _ ?_⟩, fld_setFld_of_lt _ PM_STAT PM_STAT_STANDBY 0 (by decide) (by decide), rfl⟩
  exact fun e => ha (e ▸ List.mem_singleton_self _)

/-! ### The watchdogs -/

theorem devExpire_effect (s : State) : (devExpire s).rstReq = s.rstReq ++ [3] ∧ (devExpire s).dev.wdo = true ∧
    (devExpire s).reg BB_SEQ = s.reg BB_SEQ + 1 := by
  unfold devExpire
  have hreq : ((warmRequest 3 s).mapDev (fun d => { d with wdo := true })).rstReq = s.rstReq ++ [3] := rfl
  have hwdo : ((warmRequest 3 s).mapDev (fun d => { d with wdo := true })).dev.wdo = true := rfl
  have hseq : ((warmRequest 3 s).mapDev (fun d => { d with wdo := true })).reg BB_SEQ = s.reg BB_SEQ := rfl
  generalize (warmRequest 3 s).mapDev (fun d => { d with wdo := true }) = x at hreq hwdo hseq
  obtain ⟨-, h1, h2, -⟩ := nutmeg_rest 0x600 0x8001 [devElapsed s] x
  exact ⟨h2.trans hreq, (congrArg Dev.wdo h1).trans hwdo, (nutmeg_seq ..).trans (by rw [hseq])⟩

theorem cvExpire_effect (s : State) : (cvExpire s).rstReq = s.rstReq ++ [4] ∧ (cvExpire s).reg BB_SEQ = s.reg BB_SEQ + 1 := by
  unfold cvExpire
  obtain ⟨-, -, h2, -⟩ := nutmeg_rest 0x600 0x8002 [cvElapsed s] (warmRequest 4 s)
  exact ⟨h2, nutmeg_seq ..⟩

/-- One register of the watchdogs after a write, and nothing else. -/
structure DogWritten (a : Nat) (s t : State) : Prop where
  only : OnlyRegs [a] s t
  dev : t.dev = s.dev
  request : t.rstReq = s.rstReq
  time : t.timeNs = s.timeNs
  seq : t.reg BB_SEQ = s.reg BB_SEQ

theorem dogWritten (ha : BB_SEQ ≠ a) (v : Word) (s : State) : DogWritten a s (s.writeByType a v) where
  only := (onlyRegs_refl _ s).writeByType (by simp) v
  dev := (congrArg State.dev (writeByType_rest s a v) :)
  request := (congrArg State.rstReq (writeByType_rest s a v) :)
  time := (congrArg State.timeNs (writeByType_rest s a v) :)
  seq := reg_writeByType_other _ _ _ _ ha

theorem doWdDevKick_unarmed (hag : ag = .clove ∨ ag = .dap) (h : devArmed s = false) : OnlyRegs [WD_DEV_KICK] s (doWdDevKick ag v s) := by
  have heq : doWdDevKick ag v s = s.writeByType WD_DEV_KICK v := by
    unfold doWdDevKick
    rw [cloveOrDap_of hag, h]
    rfl
  rw [heq]
  exact (dogWritten (by decide) v s).only

theorem doWdDevKick_armed (hag : ag = .clove ∨ ag = .dap) (h : devArmed s = true) : doWdDevKick ag v s =
    if bits v.toNat 0 16 ≠ 0x5744 ∨ devElapsed s < s.fld WD_DEV_CFG WD_DEV_CFG_OPEN then devExpire (s.writeByType WD_DEV_KICK v)
    else (s.writeByType WD_DEV_KICK v).mapDev (fun d => { d with devKick := s.timeNs }) := by
  unfold doWdDevKick
  rw [cloveOrDap_of hag, h]
  rfl

theorem doWdDevKick_good (hag : ag = .clove ∨ ag = .dap) (h : devArmed s = true) (hg : bits v.toNat 0 16 = 0x5744)
    (ho : s.fld WD_DEV_CFG WD_DEV_CFG_OPEN ≤ devElapsed s) :
    (doWdDevKick ag v s).dev = { s.dev with devKick := s.timeNs } ∧ (doWdDevKick ag v s).rstReq = s.rstReq := by
  have hw := dogWritten (a := WD_DEV_KICK) (by decide) v s
  rw [doWdDevKick_armed hag h, if_neg (by omega)]
  generalize s.writeByType WD_DEV_KICK v = x at hw
  exact ⟨congrArg (fun d : Dev => { d with devKick := s.timeNs }) hw.dev, hw.request⟩

theorem doWdDevKick_bad (hag : ag = .clove ∨ ag = .dap) (h : devArmed s = true)
    (hb : ¬ bits v.toNat 0 16 = 0x5744 ∨ devElapsed s < s.fld WD_DEV_CFG WD_DEV_CFG_OPEN) :
    (doWdDevKick ag v s).rstReq = s.rstReq ++ [3] ∧ (doWdDevKick ag v s).dev.wdo = true ∧ (doWdDevKick ag v s).reg BB_SEQ = s.reg BB_SEQ + 1 := by
  have hw := dogWritten (a := WD_DEV_KICK) (by decide) v s
  rw [doWdDevKick_armed hag h, if_pos hb]
  generalize s.writeByType WD_DEV_KICK v = x at hw
  rw [← hw.request, ← hw.seq]
  exact devExpire_effect x

theorem doWdCvKick_eq (hag : ag = .clove ∨ ag = .dap) : doWdCvKick ag v s =
    if bits v.toNat 0 16 ≠ 0x5744 then cvExpire (s.writeByType WD_CV_KICK v)
    else (s.writeByType WD_CV_KICK v).mapDev (fun d => { d with cvKick := s.timeNs }) := by
  unfold doWdCvKick
  rw [cloveOrDap_of hag]
  exact if_neg (by decide)

theorem doWdCvKick_effect (hag : ag = .clove ∨ ag = .dap) (v : Word) (s : State) :
    (bits v.toNat 0 16 = 0x5744 → (doWdCvKick ag v s).dev = { s.dev with cvKick := s.timeNs } ∧ (doWdCvKick ag v s).rstReq = s.rstReq) ∧
      (¬ bits v.toNat 0 16 = 0x5744 → (doWdCvKick ag v s).rstReq = s.rstReq ++ [4] ∧ (doWdCvKick ag v s).reg BB_SEQ = s.reg BB_SEQ + 1) := by
  have hw := dogWritten (a := WD_CV_KICK) (by decide) v s
  rw [doWdCvKick_eq hag]
  generalize s.writeByType WD_CV_KICK v = x at hw
  refine ⟨fun h => ?_, fun h => ?_⟩
  · rw [if_neg (not_not_intro h)]
    exact ⟨congrArg (fun d : Dev => { d with cvKick := s.timeNs }) hw.dev, hw.request⟩
  · rw [if_pos h, ← hw.request, ← hw.seq]
    exact cvExpire_effect x

theorem doWdDevArm_effect (hag : ag = .clove ∨ ag = .dap) (s : State) : (doWdDevArm ag s).fld WD_DEV_CTL WD_DEV_CTL_EN = 1 ∧
    (s.fld WD_DEV_CTL WD_DEV_CTL_EN = 0 → (doWdDevArm ag s).dev = { s.dev with devKick := s.timeNs, devFrozen := none }) := by
  have hpause : s.fld WD_DEV_CTL WD_DEV_CTL_STBY_PAUSE < 2 := fld_lt s WD_DEV_CTL WD_DEV_CTL_STBY_PAUSE
  have hbit : bits (BitVec.ofNat 32 (1 + 2 * s.fld WD_DEV_CTL WD_DEV_CTL_STBY_PAUSE)).toNat 0 1 = 1 := by
    unfold bits
    rw [BitVec.toNat_ofNat]
    omega
  have hw := dogWritten (a := WD_DEV_CTL) (by decide) (BitVec.ofNat 32 (1 + 2 * s.fld WD_DEV_CTL WD_DEV_CTL_STBY_PAUSE)) s
  have hen : (s.writeByType WD_DEV_CTL (BitVec.ofNat 32 (1 + 2 * s.fld WD_DEV_CTL WD_DEV_CTL_STBY_PAUSE))).fld WD_DEV_CTL WD_DEV_CTL_EN = 1 := by
    have h := fld_writeByType s WD_DEV_CTL (BitVec.ofNat 32 (1 + 2 * s.fld WD_DEV_CTL WD_DEV_CTL_STBY_PAUSE)) WD_DEV_CTL_EN .w1s
      (fs := [⟨0, 1, .w1s⟩, ⟨1, 1, .rw⟩]) (by decide) (by decide) (by decide)
    rw [h, show bits _ WD_DEV_CTL_EN.lo WD_DEV_CTL_EN.w = 1 from hbit]
    have hold : s.fld WD_DEV_CTL WD_DEV_CTL_EN < 2 := fld_lt s WD_DEV_CTL WD_DEV_CTL_EN
    generalize s.fld WD_DEV_CTL WD_DEV_CTL_EN = y at hold
    obtain rfl | rfl : y = 0 ∨ y = 1 := by omega
    · decide
    · decide
  unfold doWdDevArm writeDevCtl
  rw [cloveOrDap_of hag]
  generalize BitVec.ofNat 32 (1 + 2 * s.fld WD_DEV_CTL WD_DEV_CTL_STBY_PAUSE) = v at hbit hw hen
  generalize s.writeByType WD_DEV_CTL v = x at hw hen
  dsimp only [Bool.not_true]
  rw [if_neg (by decide)]
  refine ⟨?_, fun h => ?_⟩
  · split
    · exact hen
    · exact hen
  · rw [if_pos ⟨hbit, by rw [(flag_eq_false_iff _ _ _).2 h]; decide⟩]
    exact congrArg (fun d : Dev => { d with devKick := s.timeNs, devFrozen := none }) hw.dev

theorem not_mayKick (h : ¬ (ag = .clove ∨ ag = .dap)) (v : Word) (s : State) :
    doWdDevKick ag v s = s ∧ doWdCvKick ag v s = s ∧ doWdDevArm ag s = s := by
  unfold doWdDevKick doWdCvKick doWdDevArm writeDevCtl
  rw [cloveOrDap_of_not h]
  exact ⟨rfl, rfl, rfl⟩

theorem doDeviceWatchdogWarning_warns (h : devArmed s = true) (hw : s.fld WD_DEV_CFG WD_DEV_CFG_WARN ≠ 0) :
    doDeviceWatchdogWarning s = s.setFld WD_DEV_STAT WD_DEV_STAT_WARNED 1 := by
  unfold doDeviceWatchdogWarning
  rw [h]
  exact if_pos (decide_eq_true hw)

theorem deviceWatchdog_unarmed (h : devArmed s = false) : doDeviceWatchdogWarning s = s ∧ doDeviceWatchdogExpiry s = s := by
  unfold doDeviceWatchdogWarning doDeviceWatchdogExpiry
  rw [h]
  exact ⟨rfl, rfl⟩

theorem doDeviceWatchdogExpiry_expires (h : devArmed s = true) : doDeviceWatchdogExpiry s = devExpire s := if_pos h

theorem cloveWatchdog_runs (h : s.dev.cvFrozen = none) : doCloveWatchdogWarning s = s.setFld WD_CV_STAT WD_CV_STAT_WARNED 1 ∧
    doCloveWatchdogExpiry s = cvExpire s := by
  unfold doCloveWatchdogWarning doCloveWatchdogExpiry
  rw [h]
  exact ⟨rfl, rfl⟩

theorem cloveWatchdog_frozen (h : s.dev.cvFrozen ≠ none) : doCloveWatchdogWarning s = s ∧ doCloveWatchdogExpiry s = s := by
  have hsome := Option.isSome_iff_ne_none.2 h
  exact ⟨if_pos hsome, if_pos hsome⟩

end Sys2Proof.Machine
end

section

/-! SUPPORT. DDR5 channels, supplies, the test access port (R408, R409, R432, R433, R454): O58. -/

namespace Sys2Proof.Machine
open R

variable {ag : Agent} {q c k ir : Nat} {s t u : State}

/-! ### A tile reset that the host asks for -/

theorem doTileReset_on (hag : ag = .clove ∨ ag = .dap) (h : tileOn s q = true) : doTileReset ag q s = tileReset q s := by
  unfold doTileReset
  rw [cloveOrDap_of hag, h]
  rfl

theorem doTileReset_gated (hag : ag = .clove ∨ ag = .dap) (h : tileOn s q = false) : doTileReset ag q s = s.setFld PM_ERR PM_ERR_GATED 1 := by
  unfold doTileReset
  rw [cloveOrDap_of hag, h]
  rfl

theorem doTileReset_other (h : ¬ (ag = .clove ∨ ag = .dap)) (q : Nat) (s : State) : doTileReset ag q s = s := by
  unfold doTileReset
  rw [cloveOrDap_of_not h]
  rfl

/-! ### DDR5 channels -/

/-- The mark of channel `c`. -/
def lostFld (c : Nat) : Fld := if c = 0 then PM_DDR_STAT_CH0_LOST else PM_DDR_STAT_CH1_LOST

theorem chLost_eq (s : State) (c : Nat) : chLost s c = s.flag PM_DDR_STAT (lostFld c) := by
  unfold chLost lostFld
  split <;> rfl

theorem setLost_eq (c : Nat) (b : Bool) (s : State) : setLost c b s = s.setFld PM_DDR_STAT (lostFld c) (b2n b) := rfl

theorem lostFld_fits (c : Nat) : (lostFld c).lo + (lostFld c).w ≤ 32 ∧ (lostFld c).w = 1 := by
  unfold lostFld
  split <;> decide

theorem chLost_setLost (c : Nat) (b : Bool) (s : State) : chLost (setLost c b s) c = b := by
  obtain ⟨hfit, hw⟩ := lostFld_fits c
  rw [chLost_eq, setLost_eq, flag_eq, fld_setFld_of_lt _ _ _ _ hfit (by rw [hw]; cases b <;> decide)]
  cases b <;> rfl

theorem chLost_setLost_other {d : Nat} (hd : d < 2) (hc : c < 2) (h : d ≠ c) (b : Bool) (s : State) : chLost (setLost c b s) d = chLost s d := by
  have hbeside : (lostFld c).lo + (lostFld c).w ≤ (lostFld d).lo ∨ (lostFld d).lo + (lostFld d).w ≤ (lostFld c).lo := by
    obtain ⟨rfl, rfl⟩ | ⟨rfl, rfl⟩ : (c = 0 ∧ d = 1) ∨ (c = 1 ∧ d = 0) := by omega
    · decide
    · decide
  rw [chLost_eq, chLost_eq, setLost_eq, flag_eq, flag_eq, fld_setFld_ne _ _ _ _ _ (lostFld_fits c).1 hbeside]

theorem chLost_of_reg_eq (h : t.reg PM_DDR_STAT = s.reg PM_DDR_STAT) (c : Nat) : chLost t c = chLost s c := by
  rw [chLost_eq, chLost_eq, flag_of_reg_eq h]

theorem doDdrChannelLost_cases (c : Nat) (s : State) : (inRun s = false ∧ doDdrChannelLost c s = setLost c true s) ∨
    (inRun s = true ∧ ddrMirror s = true ∧ doDdrChannelLost c s = nutmeg 0x1000 8 [c] (setLost c true s)) ∨
    (inRun s = true ∧ ddrMirror s = false ∧ doDdrChannelLost c s = warmRequest 5 (nutmeg 0x1000 8 [c] (setLost c true s))) := by
  unfold doDdrChannelLost
  cases h : inRun s with
  | false => exact .inl ⟨rfl, rfl⟩
  | true =>
    cases hm : ddrMirror s with
    | true => exact .inr (.inl ⟨rfl, rfl, rfl⟩)
    | false => exact .inr (.inr ⟨rfl, rfl, rfl⟩)

theorem doDdrChannelLost_effect (hc : c < 2) (s : State) : chLost (doDdrChannelLost c s) c = true ∧
    chLost (doDdrChannelLost c s) (1 - c) = chLost s (1 - c) ∧
    (doDdrChannelLost c s).rstReq = if inRun s && !ddrMirror s then s.rstReq ++ [5] else s.rstReq := by
  have hown := chLost_setLost c true s
  have hother := chLost_setLost_other (d := 1 - c) (by omega) hc (by omega) true s
  have hreq : (setLost c true s).rstReq = s.rstReq := rfl
  obtain ⟨-, -, hrec, -⟩ := nutmeg_rest 0x1000 8 [c] (setLost c true s)
  have hstat : (nutmeg 0x1000 8 [c] (setLost c true s)).reg PM_DDR_STAT = (setLost c true s).reg PM_DDR_STAT := nutmeg_reg_off _ _ _ _ (by decide)
  have heq := doDdrChannelLost_cases c s
  generalize setLost c true s = x at hown hother hreq hrec hstat heq
  generalize nutmeg 0x1000 8 [c] x = y at hrec hstat heq
  rcases heq with ⟨h, heq⟩ | ⟨h, hm, heq⟩ | ⟨h, hm, heq⟩
  · rw [heq, h]
    exact ⟨hown, hother, hreq⟩
  · rw [heq, h, hm, chLost_of_reg_eq hstat, chLost_of_reg_eq hstat]
    exact ⟨hown, hother, hrec.trans hreq⟩
  · have hwarm : (warmRequest 5 y).reg PM_DDR_STAT = x.reg PM_DDR_STAT := hstat
    rw [heq, h, hm, chLost_of_reg_eq hwarm, chLost_of_reg_eq hwarm]
    exact ⟨hown, hother, congrArg (· ++ [5]) (hrec.trans hreq)⟩

theorem doDdrRedirectDone_redirects (hc : c < 2) (hm : ddrMirror s = true) (hl : chLost s c = true) : OnlyRegs [PM_DDR_CFG] s (doDdrRedirectDone c s) ∧
    bits ((doDdrRedirectDone c s).fld PM_DDR_CFG PM_DDR_CFG_REDIR) c 1 = 1 := by
  have heq : doDdrRedirectDone c s = setBit s PM_DDR_CFG PM_DDR_CFG_REDIR c true := by
    unfold doDdrRedirectDone
    rw [hm, hl]
    rfl
  rw [heq]
  exact ⟨(onlyRegs_refl _ s).setFld (by simp) _ _, setBit_same s PM_DDR_CFG (f := PM_DDR_CFG_REDIR) (by decide) hc true⟩

theorem doDdrRedirectDone_idle (h : ddrMirror s = false ∨ chLost s c = false) : doDdrRedirectDone c s = s := by
  unfold doDdrRedirectDone
  refine if_neg ?_
  rcases h with h | h
  · simp [h]
  · simp [h]

/-! ### Supplies -/

theorem wideReset_low (pin : Bool) (s : State) : (wideReset pin s).dev.low = s.dev.low := (congrArg (fun x : State => x.dev.low) (wideReset_rest pin s) :)

/-- A supply has fallen, and one has risen. -/
def supplyFallen (k : Nat) (s : State) : State := s.mapDev (fun d => { d with low := if d.low.contains k then d.low else k :: d.low })
def supplyRisen (k : Nat) (s : State) : State := s.mapDev (fun d => { d with low := d.low.filter (fun x => x ≠ k) })

theorem supplyFallen_low (k : Nat) (s : State) : (supplyFallen k s).dev.low.contains k = true := by
  show (if s.dev.low.contains k then s.dev.low else k :: s.dev.low).contains k = true
  split
  · assumption
  · simp

theorem supplyRisen_low (k : Nat) (s : State) : (supplyRisen k s).dev.low.contains k = false := by
  show (s.dev.low.filter (fun x => x ≠ k)).contains k = false
  simp

theorem linksDown_effect (s : State) : (linksDown s).dev = { s.dev with hpe := false } ∧ (linksDown s).phase = s.phase ∧
    ∀ e : Fin 4, linkUp (linksDown s) e = false := by
  obtain ⟨hloss, hdown⟩ := linksDown_loss (l := List.range 4) (fun e he => List.mem_range.1 he) s
  have heq : linksDown s = ((s.each (List.range 4) (fun s p => doLinkDown p s)).each [0, 1]
    (fun s p => s.setFld (NV_p_STAT p) NV_p_STAT_LINK 0)).mapDev (fun d => { d with hpe := false }) := rfl
  rw [heq]
  generalize s.each (List.range 4) (fun s p => doLinkDown p s) = y at hloss hdown
  obtain ⟨⟨hrest, hother⟩, -⟩ := nvLinks_effect y
  generalize y.each [0, 1] (fun s p => s.setFld (NV_p_STAT p) NV_p_STAT_LINK 0) = z at hrest hother
  have hdev : z.dev = s.dev := (congrArg State.dev hrest :).trans hloss.dev
  refine ⟨congrArg (fun d : Dev => { d with hpe := false }) hdev, (congrArg State.phase hrest :).trans hloss.phase, fun e => linkUp_false ?_⟩
  have hport : NET_PORT_p_STAT e ∉ [NV_p_STAT 0, NV_p_STAT 1] := by
    simp only [List.mem_cons, List.not_mem_nil, or_false, NET_PORT_p_STAT, NV_p_STAT]
    omega
  exact (fld_of_reg_eq ((mapDev_reg _ _ _).trans (hother _ hport)) _).trans (hdown e (List.mem_range.2 e.isLt))

theorem doSupplyMonitorFall_core (h : k < 5) : doSupplyMonitorFall k s = wideReset false (supplyFallen k s) := if_pos h

theorem doSupplyMonitorFall_link (h : k = 5 ∨ k = 6) : doSupplyMonitorFall k s = linksDown (supplyFallen k s) :=
  (if_neg (by omega)).trans (if_pos (by omega))

theorem doSupplyMonitorFall_ddr : doSupplyMonitorFall 7 s = setLost 1 true (setLost 0 true (supplyFallen 7 s)) := rfl

theorem doSupplyMonitorFall_effect (hk : k < 8) (s : State) : (doSupplyMonitorFall k s).dev.low.contains k = true ∧
    (k < 5 → (doSupplyMonitorFall k s).phase = 0 ∧ (doSupplyMonitorFall k s).reg WD_RST_CAUSE = 2) ∧
    (k = 5 ∨ k = 6 → (doSupplyMonitorFall k s).phase = s.phase ∧ (doSupplyMonitorFall k s).dev.hpe = false ∧
      ∀ e : Fin 4, linkUp (doSupplyMonitorFall k s) e = false) ∧
    (k = 7 → chLost (doSupplyMonitorFall k s) 0 = true ∧ chLost (doSupplyMonitorFall k s) 1 = true) := by
  have hlow := supplyFallen_low k s
  have hphase : (supplyFallen k s).phase = s.phase := rfl
  obtain h | h | rfl : k < 5 ∨ (k = 5 ∨ k = 6) ∨ k = 7 := by omega
  · rw [doSupplyMonitorFall_core h]
    generalize supplyFallen k s = x at hlow hphase
    refine ⟨by rw [wideReset_low]; exact hlow, fun _ => ⟨wideReset_phase .., wideReset_cause ..⟩, fun h => by omega, fun h => by omega⟩
  · rw [doSupplyMonitorFall_link h]
    generalize supplyFallen k s = x at hlow hphase
    obtain ⟨hdev, hph, hlink⟩ := linksDown_effect x
    refine ⟨by rw [hdev]; exact hlow, fun h => by omega, fun _ => ⟨hph.trans hphase, by rw [hdev], hlink⟩, fun h => by omega⟩
  · rw [doSupplyMonitorFall_ddr]
    generalize supplyFallen 7 s = x at hlow hphase
    refine ⟨hlow, fun h => by omega, fun h => by omega, fun _ => ⟨?_, chLost_setLost ..⟩⟩
    rw [chLost_setLost_other (by decide) (by decide) (by decide), chLost_setLost]

theorem doSupplyMonitorRise_aon : doSupplyMonitorRise 3 s = doAlwaysOnPowerUp (supplyRisen 3 s) := rfl

theorem doSupplyMonitorRise_core (h : k = 0 ∨ k = 4) : doSupplyMonitorRise k s = wideReset false (supplyRisen k s) :=
  (if_neg (by omega)).trans (if_pos h)

/-- A DDR5 channel that was not redirected is back. -/
def channelBack (s : State) (c : Nat) : State := if bits (s.fld PM_DDR_CFG PM_DDR_CFG_REDIR) c 1 = 1 then s else setLost c false s

theorem doSupplyMonitorRise_rest (h : k ≠ 3 ∧ k ≠ 0 ∧ k ≠ 4) : doSupplyMonitorRise k s =
    if k = 7 ∧ s.dev.low.contains 7 then (supplyRisen k s).each [0, 1] channelBack else supplyRisen k s :=
  (if_neg h.1).trans (if_neg (by omega))

theorem channelBack_dev (s : State) (c : Nat) : (channelBack s c).dev = s.dev := by
  unfold channelBack
  split <;> rfl

theorem channelBack_lost (h : s.fld PM_DDR_CFG PM_DDR_CFG_REDIR = 0) : channelBack s c = setLost c false s :=
  if_neg (by rw [h, bits, Nat.zero_div]; decide)

theorem doSupplyMonitorRise_effect (s : State) (k : Nat) : (doSupplyMonitorRise k s).dev.low.contains k = false ∧
    (k = 3 → (doSupplyMonitorRise k s).timeNs = 0 ∧ (doSupplyMonitorRise k s).phase = 0) ∧
    (k = 0 ∨ k = 4 → (doSupplyMonitorRise k s).phase = 0 ∧ (doSupplyMonitorRise k s).reg WD_RST_CAUSE = 2) ∧
    (k = 7 → s.dev.low.contains 7 = true → s.fld PM_DDR_CFG PM_DDR_CFG_REDIR = 0 →
      chLost (doSupplyMonitorRise k s) 0 = false ∧ chLost (doSupplyMonitorRise k s) 1 = false) := by
  have hlow := supplyRisen_low k s
  by_cases h3 : k = 3
  · subst h3
    rw [doSupplyMonitorRise_aon]
    exact ⟨hlow, fun _ => ⟨rfl, rfl⟩, fun h => by omega, fun h => by omega⟩
  by_cases h04 : k = 0 ∨ k = 4
  · rw [doSupplyMonitorRise_core h04]
    exact ⟨by rw [wideReset_low]; exact hlow, fun h => absurd h h3, fun _ => ⟨wideReset_phase .., wideReset_cause ..⟩, fun h => by omega⟩
  rw [doSupplyMonitorRise_rest ⟨h3, fun h => h04 (.inl h), fun h => h04 (.inr h)⟩]
  have hcfg : (supplyRisen k s).reg PM_DDR_CFG = s.reg PM_DDR_CFG := mapDev_reg _ _ _
  generalize supplyRisen k s = x at hlow hcfg
  have hdev : (x.each [0, 1] channelBack).dev = x.dev := (channelBack_dev _ 1).trans (channelBack_dev x 0)
  refine ⟨?_, fun h => absurd h h3, fun h => absurd h h04, fun h7 hc hr => ?_⟩
  · split
    · rw [hdev]
      exact hlow
    · exact hlow
  · have hr0 : x.fld PM_DDR_CFG PM_DDR_CFG_REDIR = 0 := (fld_of_reg_eq hcfg _).trans hr
    have hr1 : (setLost 0 false x).fld PM_DDR_CFG PM_DDR_CFG_REDIR = 0 := (fld_setFld_other _ _ _ _ _ _ (by decide)).trans hr0
    have heq : x.each [0, 1] channelBack = setLost 1 false (setLost 0 false x) := by
      show channelBack (channelBack x 0) 1 = _
      rw [channelBack_lost hr0, channelBack_lost hr1]
    rw [if_pos ⟨h7, hc⟩, heq, chLost_setLost_other (by decide) (by decide) (by decide), chLost_setLost, chLost_setLost]
    exact ⟨rfl, rfl⟩

/-! ### The test access port -/

/-- The instructions that the port takes. -/
def tapOpen (s : State) (ir : Nat) : Prop :=
  ir = 1 ∨ ir = 2 ∨ ir = 0x20 ∨ ((s.otp.lcs = 0 ∨ sessionHas s 3 = true) ∧ ir ∈ [0, 3, 4, 5, 6])

/-- The model's decision about an instruction. -/
def tapTaken (s : State) (ir : Nat) : Bool :=
  if [0x00, 0x03, 0x04, 0x05, 0x06].contains ir then s.otp.lcs = 0 || sessionHas s 3 else ir = 0x01 || ir = 0x02 || ir = 0x20

theorem tapTaken_iff (s : State) (ir : Nat) : tapTaken s ir = true ↔ tapOpen s ir := by
  unfold tapTaken tapOpen
  by_cases h : ir ∈ [0, 3, 4, 5, 6]
  · have hne : ¬ ir = 1 ∧ ¬ ir = 2 ∧ ¬ ir = 0x20 := by
      simp only [List.mem_cons, List.not_mem_nil, or_false] at h
      omega
    rw [if_pos (List.contains_iff_mem.2 h)]
    simp [h, hne]
  · rw [if_neg (fun e => h (List.contains_iff_mem.1 e))]
    simp [h]
    tauto

theorem doTapInstructionUpdate_effect (s : State) (ir : Nat) :
    (tapOpen s ir → doTapInstructionUpdate ir s = { s with dev := { s.dev with tapIr := ir } }) ∧
      (¬ tapOpen s ir → doTapInstructionUpdate ir s = { s with dev := { s.dev with tapIr := 0xFF } }) := by
  have heq : doTapInstructionUpdate ir s = { s with dev := { s.dev with tapIr := if tapTaken s ir then ir else 0xFF } } := rfl
  rw [heq]
  refine ⟨fun h => ?_, fun h => ?_⟩
  · rw [if_pos ((tapTaken_iff s ir).2 h)]
  · rw [if_neg (fun e => h ((tapTaken_iff s ir).1 e))]

end Sys2Proof.Machine
end

section

/-! Resets, the start, security jobs, clocks, power, watchdogs and supplies (O58). -/

namespace Sys2Proof.Machine
open R

/-- Settles O58. -/
theorem powerAndSecurityCommandsComplete : Obligations.PowerAndSecurityCommandsComplete := by
  unfold Obligations.PowerAndSecurityCommandsComplete
  intro ag v q p c k n len hash sfdp hi bad s may low
  have hlow {t : State} (h : Low s t) : low t :=
    ⟨h.cores, h.request, h.otp, h.seq, h.trig, h.attempt, h.exchange, h.tiles, h.run⟩
  refine ⟨?_, ?_, ?_, ?_, ?_, ?_, ?_, ?_, ?_, ?_, ?_, ?_, ?_, ?_, ?_, ?_, ?_, ?_, ?_, ?_, ?_, ?_, ?_, ?_, ?_, ?_, ?_, ?_, ?_, ?_, ?_, ?_, ?_, ?_, ?_, ?_,
    ?_, ?_, ?_, ?_, ?_, ?_, ?_, ?_, ?_, ?_, ?_, ?_, ?_, ?_, ?_, ?_, ?_, ?_, ?_, ?_, ?_, ?_, ?_, ?_, ?_, ?_, ?_, ?_, ?_, ?_, ?_, ?_, ?_, ?_, ?_, ?_, ?_⟩
  -- resets
  · exact ⟨doAlwaysOnPowerUp s, rfl, rfl, rfl, rfl, fun _ => rfl, fun _ h => alwaysOn_clears h s⟩
  · exact ⟨wideReset false s, rfl, hlow (wideReset_held false s).low, wideReset_phase false s, wideReset_cause false s,
      fun _ hs hr => powerOn_clears hs hr s⟩
  · exact ⟨wideReset true s, rfl, hlow (wideReset_held true s).low, wideReset_phase true s, wideReset_cause true s,
      (congrArg State.ecc (wideReset_rest true s) :), fun hwf _ h => pinReset_keeps hwf h⟩
  · exact fun h => Completes.of_eq (t := doWarmReset false s) rfl (doWarmReset_idle h)
  · exact fun h => ⟨warmReset [5] s, Completes.of_eq (t := doWarmReset true s) rfl (doWarmReset_soft h), hlow (warmReset_held [5] s).low,
      warmReset_phase [5] s, (warmReset_cause [5] s).trans (by decide), (warmReset_clocks [5] s).1, (warmReset_clocks [5] s).2, warmReset_ecc [5] s,
      fun hwf _ h => warmReset_keeps [5] hwf h⟩
  · exact fun h => ⟨warmReset [3] s, Completes.of_eq (t := doWarmReset false s) rfl (doWarmReset_watchdog h), hlow (warmReset_held [3] s).low,
      warmReset_phase [3] s, (warmReset_cause [3] s).trans (by decide)⟩
  · exact fun h => Completes.of_eq (t := doTileReset ag q s) rfl (doTileReset_other h q s)
  · exact fun hag h => Completes.of_eq (t := doTileReset ag q s) rfl (doTileReset_gated hag h)
  · exact fun hag h => ⟨tileReset q s, Completes.of_eq (t := doTileReset ag q s) rfl (doTileReset_on hag h), fun j => tileReset_core q.isLt s j.isLt,
      fun j => tileReset_dma q.isLt s j.isLt, fun _ hm => tileReset_other q.isLt s hm⟩
  · exact fun h => Completes.of_eq (t := doResetRelease s) rfl (doResetRelease_idle h)
  · exact fun h0 hl hr => ⟨doResetRelease s, rfl, doResetRelease_locks h0 hl hr⟩
  -- the start
  · intro h
    refine Completes.of_eq (t := doBootStart sfdp bad s) rfl ?_
    unfold doBootStart
    rw [h]
    rfl
  · intro h
    have stop {code : Nat} (hs : StartStopped code (doBootStart sfdp bad s)) : ∃ t, Completes (.bootStart sfdp bad) s t ∧
        t.fld BT_CAUSE BT_CAUSE_CODE = code ∧ t.fld BT_STAT BT_STAT_MINIMAL = 1 ∧ t.dev.winRun = false := ⟨_, rfl, hs.code, hs.minimal, hs.win⟩
    obtain ⟨h4, h3, hrest⟩ := doBootStart_effect q.isLt sfdp bad h
    refine ⟨fun hl => stop (h4 hl), fun hl hm => stop (h3 hl hm), fun hl hm => ?_⟩
    obtain ⟨h1, h5, h2, hgo⟩ := hrest hl hm
    exact ⟨fun ha => stop (h1 ha), fun ha hs => stop (h5 ha hs), fun ha hs ho => stop (h2 ha hs ho),
      fun ha hs slot rest ho hb hv => ⟨_, rfl, hgo ha hs slot rest ho hb hv⟩⟩
  · exact fun h hs => Completes.of_eq (t := doStartWindowExpiry s) rfl (doStartWindowExpiry_requests h hs)
  · exact fun h => Completes.of_eq (t := doStartWindowExpiry s) rfl (doStartWindowExpiry_idle h)
  · intro h
    obtain ⟨h1, h2, h3⟩ := not_mayStart h s
    exact ⟨Completes.of_eq (t := doBootDone ag s) rfl h1, Completes.of_eq (t := doCommitRb ag s) rfl h2, Completes.of_eq (t := doXipWp ag s) rfl h3⟩
  · intro hag
    obtain ⟨h1, h2⟩ := doBootDone_effect hag s
    obtain ⟨h3, h4⟩ := doCommitRb_effect hag s
    exact ⟨fun hr hm hp => ⟨_, rfl, h1 hr hm hp⟩, fun hr => ⟨_, rfl, h2 hr⟩, fun hr hk => ⟨_, rfl, h3 hr hk⟩, fun hr => ⟨_, rfl, h4 hr⟩,
      _, rfl, doXipWp_effect hag s⟩
  · exact fun h => Completes.of_eq (t := doMinimalNotice s) rfl (doMinimalNotice_silent h)
  · exact fun h => ⟨_, rfl, doMinimalNotice_sends h⟩
  -- security
  · refine ⟨fun h => Completes.of_eq (t := doSecurityJobStart ag hash v s) rfl (startJob_idle h), fun hag hb hg => ⟨?_, ?_⟩, ?_, ?_⟩
    · exact fun hk => ⟨_, rfl, startJob_starts hag hb rfl hg hk⟩
    · exact fun hk => ⟨_, rfl, startJob_misused hag hb rfl hg hk⟩
    · exact fun hb => Completes.of_eq (t := doSecurityJobDone hash s) rfl (doSecurityJobDone_idle hb)
    · intro hb hg
      have hrun := doSecurityJobDone_runs hb hg
      refine ⟨fun hop => ?_, fun hh h1 hsrc hdst => ?_⟩
      · exact ⟨_, Completes.of_eq (t := doSecurityJobDone hash s) rfl (hrun.trans (runJob_unknown _ hop)), endJob_ends hash (by decide) s⟩
      · subst hh
        exact ⟨_, Completes.of_eq (t := doSecurityJobDone true s) rfl (hrun.trans (runJob_digest h1 hsrc)),
          jobWrite_writes (by decide) (slice_length ..) hdst⟩
  · exact fun clock => ⟨_, rfl, doGlitchDetect_clears clock s⟩
  · intro h
    obtain ⟨h1, h2⟩ := not_maySession h len s
    exact ⟨Completes.of_eq (t := doDebugAuthGo ag len s) rfl h1, Completes.of_eq (t := doSessionLock ag s) rfl h2⟩
  · exact fun hag => ⟨fun hc hk => ⟨_, rfl, doDebugAuthGo_checks hag len.isLt hc hk⟩, fun h => ⟨_, rfl, doDebugAuthGo_ignored hag len.isLt h⟩,
      _, rfl, doSessionLock_locks hag s⟩
  · exact fun h => Completes.of_eq (t := doDebugAuthDone s) rfl (doDebugAuthDone_idle h)
  · exact fun m h => ⟨fun g hg => ⟨_, rfl, doDebugAuthDone_grants h hg⟩, fun hg => ⟨_, rfl, doDebugAuthDone_refuses h hg⟩⟩
  · exact ⟨_, rfl, doDebugLockoutEnd_ends s⟩
  -- the reference and the PLLs
  · exact fun h => Completes.of_eq (t := doRefclkLoss s) rfl (doRefclkLoss_idle h)
  · exact fun h => ⟨_, rfl, doRefclkLoss_effect h⟩
  · exact fun h => Completes.of_eq (t := doHoldExpiry s) rfl (doHoldExpiry_idle h)
  · intro h hf
    obtain ⟨h1, h2⟩ := doHoldExpiry_effect h hf
    exact ⟨fun he hx => ⟨_, Completes.of_eq (t := doHoldExpiry s) rfl (h1 he hx), switchRef_effect (by decide) s⟩,
      fun hx => Completes.of_eq (t := doHoldExpiry s) rfl (h2 hx)⟩
  · exact fun h => Completes.of_eq (t := doFallbackLock s) rfl (doFallbackLock_idle h)
  · exact fun h => ⟨_, rfl, doFallbackLock_effect h⟩
  · exact fun he hx => Completes.of_eq (t := doXtalReady s) rfl ((doXtalReady_effect s).1 he hx)
  · exact fun h => Completes.of_eq (t := doXtalReady s) rfl ((doXtalReady_effect s).2 h)
  · exact fun h => Completes.of_eq (t := doRefOk s) rfl (doRefOk_idle h)
  · intro h hs
    obtain ⟨h1, h2⟩ := doRefOk_effect h hs
    obtain ⟨hsel, -, hsw⟩ := switchRef_effect (sel := 0) (by decide) (s.setFld CK_STAT CK_STAT_REF_OK 1)
    exact ⟨fun ha => Completes.of_eq (t := doRefOk s) rfl (h1 ha), fun ha => ⟨_, Completes.of_eq (t := doRefOk s) rfl (h2 ha), hsel, hsw⟩⟩
  · exact fun h => Completes.of_eq (t := doReturn ag s) rfl (doReturn_idle h s)
  · exact fun hag h1 h2 => ⟨_, rfl, (doReturn_effect hag s).1 h1 h2⟩
  · exact fun hag h => ⟨_, rfl, (doReturn_effect hag s).2 h⟩
  · exact ⟨_, rfl, doRefclkReturn_effect s⟩
  · exact ⟨_, rfl, doPllLockLoss_effect p.isLt s⟩
  · exact ⟨_, rfl, doPllLockReturn_effect p.isLt s⟩
  -- gates and Standby
  · intro h
    obtain ⟨h1, h2⟩ := not_mayGates h hi v s
    exact ⟨Completes.of_eq (t := doClockGateWrite ag hi v s) rfl h1, Completes.of_eq (t := doTileGateWrite ag v s) rfl h2⟩
  · intro hag
    obtain ⟨h1, h2⟩ := doClockGateWrite_effect hag v s
    exact ⟨Completes.of_eq (t := doClockGateWrite ag true v s) rfl h1, Completes.of_eq (t := doClockGateWrite ag false v s) rfl h2⟩
  · exact fun hag => ⟨_, rfl, doTileGateWrite_effect q.isLt hag v s⟩
  · exact fun h => Completes.of_eq (t := doTilePowerOff q s) rfl (tilePowerOff_idle h)
  · exact fun h => ⟨_, rfl, doTilePowerOff_effect q.isLt h⟩
  · exact fun h => Completes.of_eq (t := doTilePowerOn q s) rfl (if_pos h)
  · exact fun h => ⟨_, rfl, doTilePowerOn_effect q.isLt h⟩
  · intro h
    obtain ⟨h1, h2⟩ := not_mayStandby h s
    exact ⟨Completes.of_eq (t := doStby ag s) rfl h1, Completes.of_eq (t := doWake ag s) rfl h2⟩
  · intro hag
    obtain ⟨h2, h1, h0⟩ := doWake_effect hag s
    exact ⟨fun hr hx hs hg ht => ⟨_, rfl, doStby_enters hag hr hx hs hg ht⟩, fun h => ⟨_, rfl, doStby_busy hag h⟩, fun h => ⟨_, rfl, h2 h⟩,
      fun h => ⟨_, rfl, h1 h⟩, fun h => ⟨_, rfl, h0 h⟩⟩
  · exact fun h => Completes.of_eq (t := doStandbyEntered s) rfl (doStandbyEntered_idle h)
  · exact fun h hw => ⟨_, rfl, doStandbyEntered_effect h hw⟩
  · exact fun h hw => ⟨_, rfl, doStandbyEntered_wakes h hw⟩
  · exact fun h => Completes.of_eq (t := doStandbyExited s) rfl (doStandbyExited_idle h)
  · exact fun h => ⟨_, rfl, doStandbyExited_effect h⟩
  -- watchdogs
  · intro h
    obtain ⟨h1, h2, h3⟩ := not_mayKick h v s
    exact ⟨Completes.of_eq (t := doWdDevKick ag v s) rfl h1, Completes.of_eq (t := doWdCvKick ag v s) rfl h2,
      Completes.of_eq (t := doWdDevArm ag s) rfl h3⟩
  · intro hag
    obtain ⟨h1, h2⟩ := doWdCvKick_effect hag v s
    exact ⟨fun h => ⟨_, rfl, doWdDevKick_unarmed hag h⟩, fun h hg ho => ⟨_, rfl, doWdDevKick_good hag h hg ho⟩,
      fun h hb => ⟨_, rfl, doWdDevKick_bad hag h hb⟩, fun hg => ⟨_, rfl, h1 hg⟩, fun hg => ⟨_, rfl, h2 hg⟩, _, rfl, doWdDevArm_effect hag s⟩
  · exact fun h hw => Completes.of_eq (t := doDeviceWatchdogWarning s) rfl (doDeviceWatchdogWarning_warns h hw)
  · intro h
    obtain ⟨h1, h2⟩ := deviceWatchdog_unarmed h
    exact ⟨Completes.of_eq (t := doDeviceWatchdogWarning s) rfl h1, Completes.of_eq (t := doDeviceWatchdogExpiry s) rfl h2⟩
  · intro h
    obtain ⟨h1, h2, -⟩ := devExpire_effect s
    exact ⟨_, Completes.of_eq (t := doDeviceWatchdogExpiry s) rfl (doDeviceWatchdogExpiry_expires h), h1, h2⟩
  · intro h
    obtain ⟨h1, h2⟩ := cloveWatchdog_runs h
    exact ⟨Completes.of_eq (t := doCloveWatchdogWarning s) rfl h1, _, Completes.of_eq (t := doCloveWatchdogExpiry s) rfl h2, (cvExpire_effect s).1⟩
  · intro h
    obtain ⟨h1, h2⟩ := cloveWatchdog_frozen h
    exact ⟨Completes.of_eq (t := doCloveWatchdogWarning s) rfl h1, Completes.of_eq (t := doCloveWatchdogExpiry s) rfl h2⟩
  · have hdue : s.flag (WD_SC_n_CFG n) WD_SC_n_CFG_EN && decide (max (s.fld (WD_SC_n_CFG n) WD_SC_n_CFG_LIMIT) 1 ≤
        s.fld (WD_SC_n_STAT n) WD_SC_n_STAT_TICKS) ↔ s.fld (WD_SC_n_CFG n) WD_SC_n_CFG_EN = 1 ∧
          max (s.fld (WD_SC_n_CFG n) WD_SC_n_CFG_LIMIT) 1 ≤ s.fld (WD_SC_n_STAT n) WD_SC_n_STAT_TICKS := by
      rw [Bool.and_eq_true, decide_eq_true_eq, flag_eq_true_iff s _ rfl]
    exact ⟨fun h => Completes.of_eq (t := doCoreWatchdogExpiry n s) rfl (if_pos (hdue.2 h)),
      fun h => Completes.of_eq (t := doCoreWatchdogExpiry n s) rfl (if_neg fun e => h (hdue.1 e))⟩
  · exact ⟨_, rfl, rfl⟩
  -- DDR5, supplies, links and the test access port
  · exact ⟨_, rfl, doDdrChannelLost_effect c.isLt s⟩
  · exact fun hm hl => ⟨_, rfl, doDdrRedirectDone_redirects c.isLt hm hl⟩
  · exact fun h => Completes.of_eq (t := doDdrRedirectDone c s) rfl (doDdrRedirectDone_idle h)
  · exact ⟨_, rfl, doSupplyMonitorFall_effect k.isLt s⟩
  · exact ⟨_, rfl, doSupplyMonitorRise_effect s k⟩
  · exact ⟨rfl, rfl, rfl, rfl, rfl, rfl⟩
  · exact fun _ _ => rfl
  · intro ir
    obtain ⟨h1, h2⟩ := doTapInstructionUpdate_effect s ir
    exact ⟨fun h => Completes.of_eq (t := doTapInstructionUpdate ir s) rfl (h1 h), fun h => Completes.of_eq (t := doTapInstructionUpdate ir s) rfl (h2 h)⟩

end Sys2Proof.Machine
end

section

/-! SUPPORT. What the users of the ticks leave of F, the time, the active maps and firmware's work (R19, R20, R466): O11. -/

namespace Sys2Proof.Machine
open R

variable {α β γ : Type} {a n : Nat} {s t u : State}

/-! ### Loops that keep a value -/

theorem each_keeps {f : State → α → State} {l : List α} (g : State → γ) (h : ∀ u x, x ∈ l → g (f u x) = g u) (s : State) :
    g (s.each l f) = g s :=
  each_induction (P := fun u => g u = g s) rfl fun u x hx hu => (h u x hx).trans hu

/-! ### What follows the tick -/

/-- F, the time, what is due and active in the exchange, and firmware's work. -/
def tickView (s : State) : Nat × Nat × Bool × List (Nat × Word) × List (Nat × Word) × Fw :=
  (s.frame, s.timeNs, s.sx.blockDue, s.sx.prodActive, s.sx.consActive, s.fw)

theorem tickView_setFld (s : State) (a : Nat) (f : Fld) (x : Nat) : tickView (s.setFld a f x) = tickView s := rfl

theorem tickView_incSat (s : State) (a : Nat) (f : Fld) : tickView (s.incSat a f) = tickView s := by
  unfold State.incSat
  split <;> rfl

theorem tickView_of_access (h : MemAccess s t) : tickView t = tickView s := (congrArg tickView h.rest :)

theorem nutmeg_tick (source code : Nat) (args : List Nat) (s : State) : tickView (nutmeg source code args s) = tickView s := by
  obtain ⟨r, m, b, h⟩ := nutmeg_eq source code args s
  rw [h]
  rfl

/-! #### Events of the processors -/

theorem cloveTrap_tick (code arg pc : Nat) (s : State) : tickView (cloveTrap code arg pc s) = tickView s := by
  unfold cloveTrap machineCheck
  dsimp only
  split
  · split
    · rfl
    · exact nutmeg_tick ..
  · rfl

theorem cloveEntry_tick (s : State) : tickView (cloveEntry s) = tickView s := by
  unfold cloveEntry
  dsimp only
  split
  · exact cloveTrap_tick ..
  · rfl

theorem dispatchSwap_tick (p : Nat) (s : State) : tickView (dispatchSwap p s) = tickView s := by
  unfold dispatchSwap
  split <;> rfl

theorem boundary_tick (p : Nat) (s : State) : tickView (boundary p s) = tickView s := by
  unfold boundary
  dsimp only
  split
  · rfl
  · split
    · rfl
    · split
      · exact (cloveEntry_tick _).trans (dispatchSwap_tick p s)
      · exact dispatchSwap_tick p s

theorem evWake_tick (p : Nat) (s : State) : tickView (evWake p s) = tickView s := by
  unfold evWake
  split
  · dsimp only
    split
    · rfl
    · exact boundary_tick ..
  · rfl

theorem evAll_tick (b : Nat) (s : State) : tickView (evAll b s) = tickView s :=
  each_keeps tickView (fun u p _ => evWake_tick p u) { s with cpu := evFill b 96 0 s.cpu }

/-! #### The player and the streams -/

theorem imageError_tick (c r : Nat) (s : State) : tickView (imageError c r s) = tickView s := rfl

theorem playSample_tick (s : State) (c F : Nat) : tickView (playSample s c F).2 = tickView s := by
  unfold playSample
  split
  · rfl
  · split
    · rfl
    · split
      · rfl
      · split
        · rfl
        · split
          · dsimp only
            split
            · exact (imageError_tick ..).trans (tickView_of_access (ddrRead_memAccess ..).1)
            · exact tickView_of_access (ddrRead_memAccess ..).1
          · rfl

theorem playStatus_tick (c : Nat) (s : State) : tickView (playStatus c s) = tickView s := by
  unfold playStatus
  split
  · rfl
  · split <;> rfl

theorem playerFrame_tick (s : State) : tickView (playerFrame s) = tickView s := by
  unfold playerFrame
  dsimp only
  have hsamples := foldl_keeps (l := plChannels s) (f := fun (a : List (Nat × Word) × State) c =>
    (tput 0 a.1 c (playSample a.2 c (s.frame + 2)).1, (playSample a.2 c (s.frame + 2)).2)) (fun a => tickView a.2)
    (fun a c => playSample_tick a.2 c _) ([], s)
  exact (each_keeps tickView (fun u c _ => playStatus_tick c u) _).trans hsamples

theorem fetchChannel_tick (f F : Nat) (present : Bool) (a : List (Nat × Word) × List Nat × State) (k : Nat) :
    tickView (fetchChannel f F present a k).2.2 = tickView a.2.2 := by
  have hread := (engRead_memAccess 28 a.2.2 (jbAddr a.2.2 f k F) 4).1
  have hwrite := engWrite_memAccess 28 (memNum 28 a.2.2 (jbAddr a.2.2 f k F) 4).2 (jbAddr a.2.2 f k F) (leBytes 4 0)
  have hboth := (tickView_of_access hwrite).trans (tickView_of_access (s := a.2.2) hread)
  unfold fetchChannel
  dsimp only
  split
  · exact hboth
  · exact hboth

theorem fetchFlow_tick (F : Nat) (a : List (Nat × Word) × List Nat × State) (f : Nat) : tickView (fetchFlow F a f).2.2 = tickView a.2.2 := by
  unfold fetchFlow
  dsimp only
  have hch := foldl_keeps (l := List.range (flChn a.2.2 f)) (fun b : List (Nat × Word) × List Nat × State => tickView b.2.2)
    (fun b k => fetchChannel_tick f F ((a.2.2.flow f).present.contains (F % flDepth a.2.2 f)) b k) a
  split
  · exact hch
  · exact hch

theorem hsReport_tick (used : List Nat) (s : State) (k : Nat) : tickView (hsReport used s k) = tickView s := by
  have hset : tickView (if s.flag (MS_HS_k_STAT k) MS_HS_k_STAT_ACTIVE ≠ used.contains k then
      (s.setFld (MS_HS_k_STAT k) MS_HS_k_STAT_ACTIVE (b2n (used.contains k))).setFld MS_STAT MS_STAT_SUBST_EVT 1 else s) = tickView s := by
    split <;> rfl
  unfold hsReport
  dsimp only
  split
  · exact (tickView_incSat ..).trans hset
  · exact hset

theorem streamFetch_tick (s : State) : tickView (streamFetch s) = tickView s := by
  unfold streamFetch
  dsimp only
  have hfetch := foldl_keeps (l := (rxFlows s).filter (flActive s)) (fun b : List (Nat × Word) × List Nat × State => tickView b.2.2)
    (fun b f => fetchFlow_tick (s.frame + 2) b f) ([], [], s)
  exact (each_keeps tickView (fun u k _ => hsReport_tick _ u k) _).trans hfetch

theorem releaseHeld_tick (s : State) : tickView (releaseHeld s) = tickView s := by
  obtain ⟨a, b, h⟩ := releaseHeld_eq s
  rw [h]
  rfl

theorem planeTick_tick (s : State) (cause : Bool) : tickView (planeTick s cause) = tickView s := by
  have hoff : tickView (if s.sx.holdEnd ≤ s.frame then s.setFld SX_PLANE_STAT SX_PLANE_STAT_HELD_OFF 0 else s) = tickView s := by
    split <;> rfl
  unfold planeTick
  dsimp only
  generalize (if s.sx.holdEnd ≤ s.frame then s.setFld SX_PLANE_STAT SX_PLANE_STAT_HELD_OFF 0 else s) = x at hoff ⊢
  split
  · exact hoff
  · split
    · exact hoff
    · exact hoff

end Sys2Proof.Machine
end

section

/-! SUPPORT. The block tick (R20): O11. -/

namespace Sys2Proof.Machine
open R

variable {α : Type} {a n : Nat} {s t u : State}

/-! ### The exchange's part -/

theorem checkPort_tick (s : State) (p : Nat) : tickView (checkPort s p) = tickView s := by
  unfold checkPort
  split
  · rfl
  · split
    · rfl
    · have hlate : tickView ((s.incSat (SX_TP_t_STAT p) SX_TP_t_STAT_LATE_RUN).setFld (SX_TP_t_STAT p) SX_TP_t_STAT_TX_LATE 1) = tickView s :=
        tickView_incSat ..
      dsimp only
      split
      · exact hlate
      · exact hlate

theorem tilePorts_tick (s : State) (check : Bool) : tickView (tilePorts s check) = tickView s := by
  have hclear (u : State) : tickView ((List.range 12).foldl clearTxrdy u) = tickView u :=
    foldl_keeps tickView (fun v p => tickView_setFld v (SX_TP_t_STAT p) _ 0) _ u
  have hnone : tickView { s with sx := { s.sx with sending := [] } } = tickView s := rfl
  unfold tilePorts
  generalize ({ s with sx := { s.sx with sending := [] } } : State) = x at hnone
  refine (hclear _).trans (Eq.trans ?_ hnone)
  split
  · exact foldl_keeps tickView checkPort_tick _ x
  · rfl

theorem tileRemap_tick (s : State) (p : Nat) : tickView (tileRemap s p) = tickView s := by
  unfold tileRemap
  split
  · rfl
  · split <;> rfl

theorem tileRemaps_tick (s : State) : tickView (tileRemaps s) = tickView s := by
  have h := foldl_keeps tickView tileRemap_tick (List.range 12) s
  unfold tileRemaps
  generalize (List.range 12).foldl tileRemap s = x at h
  exact h

/-- What a swap leaves: F, the time, what is due and firmware's work. -/
def swapView (s : State) : Nat × Nat × Bool × Fw := (s.frame, s.timeNs, s.sx.blockDue, s.fw)

theorem swapView_of_tick (h : tickView t = tickView s) : swapView t = swapView s :=
  congrArg (fun v => (v.1, v.2.1, v.2.2.1, v.2.2.2.2.2)) h

theorem takeCounts_swap (s : State) (p : Nat) : swapView (takeCounts s p) = swapView s := by
  unfold takeCounts
  split <;> rfl

theorem recordFails_swap (s : State) (l : List Nat) : swapView (recordFails s l) = swapView s := by
  unfold recordFails
  split
  · rfl
  · dsimp only
    split <;> rfl

theorem mapSwap_swap (s : State) : swapView (mapSwap s) = swapView s := by
  have h := foldl_keeps swapView takeCounts_swap (List.range 12) s
  unfold mapSwap
  dsimp only
  generalize (List.range 12).foldl takeCounts s = x at h
  have hfails := (recordFails_swap x (countFails s ++ mapFails x)).trans h
  generalize recordFails x (countFails s ++ mapFails x) = y at hfails
  exact hfails

/-- A block tick swaps the maps: a first one, or one with a swap pending (R26, R45). -/
def swapDue (s : State) : Bool := s.flag SX_CTL SX_CTL_RUN && (!sxRunning s || s.flag SX_MAP_STAT SX_MAP_STAT_SWAP_PEND)

/-- The state once the ports are checked and the tiles remapped. -/
def portsSettled (check : Bool) (s : State) : State := tileRemaps (tilePorts s check)

theorem portsSettled_tick (check : Bool) (s : State) : tickView (portsSettled check s) = tickView s :=
  (tileRemaps_tick _).trans (tilePorts_tick s check)

theorem portsSettled_inputs (check : Bool) (s : State) : KeepsSwapInputs s (portsSettled check s) :=
  (tilePorts_keepsSwapInputs s check).trans (tileRemaps_keepsSwapInputs _)

/-- What the exchange's block tick does to `s`, by what it does to the settled state `x`. -/
structure BlockTicked (swap : Bool) (s t : State) : Prop where
  view : swapView t = swapView s
  prod : t.sx.prodActive = if swap then s.sx.prodShadow else s.sx.prodActive
  cons : t.sx.consActive = if swap then s.sx.consShadow else s.sx.consActive

theorem blockTicked_swaps (hv : tickView t = tickView s) (hk : KeepsSwapInputs s t) : BlockTicked true s (mapSwap t) where
  view := (mapSwap_swap t).trans (swapView_of_tick hv)
  prod := (mapSwap_prodActive t).trans hk.prodShadow
  cons := (mapSwap_consActive t).trans hk.consShadow

theorem blockTicked_keeps (hv : tickView t = tickView s) : BlockTicked false s t where
  view := swapView_of_tick hv
  prod := congrArg (fun v => v.2.2.2.1) hv
  cons := congrArg (fun v => v.2.2.2.2.1) hv

/-- The halves change places, and the words on their way are dropped. -/
def halvesSwapped (x : State) : State := { x with sx := { x.sx with half := 1 - x.sx.half } }
def delayEmptied (x : State) : State := { x with sx := { x.sx with history := [] } }
def halvesStarted (x : State) : State := { x with sx := { x.sx with half := 1 - x.sx.half, history := [] } }

theorem sxBlockTick_eq (s : State) : sxBlockTick s =
    if sxRunning s && s.flag SX_CTL SX_CTL_RUN then
      halvesSwapped (if (portsSettled true s).flag SX_MAP_STAT SX_MAP_STAT_SWAP_PEND then mapSwap (portsSettled true s) else portsSettled true s)
    else if sxRunning s then delayEmptied (((portsSettled false s).setFld SX_STAT SX_STAT_RUNNING 0).setFld SX_STAT SX_STAT_STARTING 0)
    else if s.flag SX_CTL SX_CTL_RUN then
      halvesStarted (mapSwap (((portsSettled false s).setFld SX_STAT SX_STAT_STARTING 0).setFld SX_STAT SX_STAT_RUNNING 1))
    else portsSettled false s := rfl

namespace BlockTicked

variable {b : Bool}

theorem swapped (h : BlockTicked b s t) : BlockTicked b s (halvesSwapped t) := ⟨h.view, h.prod, h.cons⟩

theorem emptied (h : BlockTicked b s t) : BlockTicked b s (delayEmptied t) := ⟨h.view, h.prod, h.cons⟩

theorem started (h : BlockTicked b s t) : BlockTicked b s (halvesStarted t) := ⟨h.view, h.prod, h.cons⟩

end BlockTicked

theorem sxBlockTick_ticks (s : State) : BlockTicked (swapDue s) s (sxBlockTick s) := by
  have hv (check : Bool) := portsSettled_tick check s
  have hk (check : Bool) := portsSettled_inputs check s
  have hpend : (portsSettled true s).flag SX_MAP_STAT SX_MAP_STAT_SWAP_PEND = s.flag SX_MAP_STAT SX_MAP_STAT_SWAP_PEND :=
    flag_of_reg_eq ((hk true).reg _ not_beforeSwapReg_mapStat) _
  have hstart (x : State) (h : tickView x = tickView s) : tickView ((x.setFld SX_STAT SX_STAT_STARTING 0).setFld SX_STAT SX_STAT_RUNNING 1) = tickView s := h
  have hstop (x : State) (h : tickView x = tickView s) : tickView ((x.setFld SX_STAT SX_STAT_RUNNING 0).setFld SX_STAT SX_STAT_STARTING 0) = tickView s := h
  rw [sxBlockTick_eq, hpend]
  unfold swapDue
  cases s.flag SX_CTL SX_CTL_RUN with
  | false =>
    rw [Bool.and_false, Bool.false_and, if_neg (by decide)]
    cases sxRunning s with
    | false => exact blockTicked_keeps (hv false)
    | true => exact (blockTicked_keeps (hstop _ (hv false))).emptied
  | true =>
    rw [Bool.and_true, Bool.true_and]
    cases sxRunning s with
    | false =>
      exact (blockTicked_swaps (hstart _ (hv false)) (((hk false).setFld beforeSwapReg_stat _ _).setFld beforeSwapReg_stat _ _)).started
    | true =>
      rw [if_pos rfl]
      cases s.flag SX_MAP_STAT SX_MAP_STAT_SWAP_PEND with
      | false => exact (blockTicked_keeps (hv true)).swapped
      | true => exact (blockTicked_swaps (hv true) (hk true)).swapped

/-! ### The cores and the drive channels -/

theorem coreDogTick_tick (n : Nat) (s : State) : tickView (coreDogTick n s) = tickView s := by
  unfold coreDogTick
  dsimp only
  split
  · split <;> rfl
  · rfl

theorem coreBlockTick_tick (n blk : Nat) (s : State) : tickView (coreBlockTick n blk s) = tickView s := by
  have hdog := coreDogTick_tick n s
  unfold coreBlockTick
  dsimp only
  split
  · rfl
  · split
    · rfl
    · split
      · exact hdog
      · split
        · exact hdog
        · exact (tickView_incSat _ _ _).trans hdog

theorem coresTick_tick (s : State) : tickView (coresTick s) = tickView s := by
  unfold coresTick
  split
  · exact each_keeps tickView (fun u n _ => coreBlockTick_tick n _ u) s
  · rfl

theorem drvEnter_tick (s : State) (n : Nat) : tickView (drvEnter s n) = tickView s := by
  unfold drvEnter
  dsimp only
  split
  · rfl
  · split
    · rfl
    · split <;> rfl

theorem setClip_tick (n : Nat) (s : State) : tickView (setClip n s) = tickView s := rfl

theorem gainStep_tick (gs : Nat) (w : Word) (s : State) : tickView (gainStep gs w s).2.2 = tickView s := by
  unfold gainStep
  dsimp only
  split
  · rfl
  · split <;> rfl

theorem addProbe_tick (n : Nat) (on : Bool) (a : List Word × State) (w : Word) : tickView (addProbe n on a w).2 = tickView a.2 := by
  unfold addProbe
  split
  · rfl
  · dsimp only
    split <;> rfl

theorem injStatus_tick (n : Nat) (inj : Bool) (s : State) : tickView (injStatus n inj s) = tickView s := by
  unfold injStatus
  dsimp only
  generalize (if inj then (s.an.gainNow.filter (fun e => e.1 / 31 = n)).length else 0) = k
  split <;> rfl

theorem injectProbe_tick (before : List (Nat × Int)) (s : State) (n : Nat) : tickView (injectProbe before s n) = tickView s := by
  unfold injectProbe
  dsimp only
  refine (injStatus_tick _ _ _).trans ?_
  split
  · exact foldl_keeps (fun a : List Word × State => tickView a.2) (addProbe_tick n _) _ ([], s)
  · rfl

theorem abortRun_tick (s : State) : tickView (abortRun s) = tickView s := by
  unfold abortRun
  split <;> rfl

theorem takeLaw_tick (s : State) : tickView (takeLaw s) = tickView s := rfl

theorem aniseTick_tick (stops : Bool) (s : State) : tickView (aniseTick stops s) = tickView s := by
  have habort : tickView (if anMode s = 0 || stops then abortRun s else s) = tickView s := by
    split
    · exact abortRun_tick s
    · rfl
  unfold aniseTick
  exact (foldl_keeps tickView (injectProbe_tick _) _ _).trans ((takeLaw_tick _).trans habort)

theorem noteBlock_tick (s : State) (n : Nat) : tickView (noteBlock s n) = tickView s := by
  unfold noteBlock
  split <;> rfl

theorem memNum_tick (port : Nat) (s : State) (a n : Nat) : tickView (memNum port s a n).2 = tickView s :=
  tickView_of_access (engRead_memAccess port s a n).1

theorem pathGain_tick (s : State) (n b : Nat) : tickView (pathGain s n b).2 = tickView s := by
  unfold pathGain
  generalize s.an.mem + 0x2424000 + 0x80 * n + 4 * b = a
  have h := memNum_tick 30 s a 4
  generalize memNum 30 s a 4 = x at h ⊢
  obtain ⟨v, u⟩ := x
  exact (h : tickView u = tickView s)

theorem quietLevel_tick (s : State) (n b : Nat) : tickView (quietLevel s n b).2 = tickView s := by
  have hgain := pathGain_tick s n b
  unfold quietLevel
  generalize pathGain s n b = x at hgain ⊢
  obtain ⟨g, u⟩ := x
  dsimp only at hgain ⊢
  split
  · exact (hgain : tickView u = tickView s)
  · exact (hgain : tickView u = tickView s)

theorem targetLevel_tick (s : State) (n b : Nat) (m : Int) : tickView (targetLevel s n b m).2 = tickView s := by
  unfold targetLevel
  dsimp only
  split
  · exact quietLevel_tick s n b
  · rfl

theorem spreadLevel_tick (s : State) (n : Nat) : tickView (spreadLevel s n).2 = tickView s := by
  unfold spreadLevel
  split <;> rfl

theorem lawBand_tick (n : Nat) (s : State) (b : Nat) : tickView (lawBand n s b) = tickView s :=
  (targetLevel_tick (spreadLevel s n).2 n b _).trans (spreadLevel_tick s n)

theorem ambientBand_tick (m : Nat) (hold : Bool) (s : State) (b : Nat) : tickView (ambientBand m hold s b) = tickView s := by
  unfold ambientBand
  dsimp only
  split <;> rfl

theorem ambientMic_tick (s : State) (m : Nat) : tickView (ambientMic s m) = tickView s := foldl_keeps tickView (ambientBand_tick m _) _ s

theorem levelLaw_tick (s : State) : tickView (levelLaw s) = tickView s := by
  have hlaw : tickView ((List.range 16).foldl ambientMic ((anEnabled s).foldl (fun s n => (List.range 31).foldl (lawBand n) s) s)) = tickView s :=
    (foldl_keeps tickView ambientMic_tick _ _).trans
      (foldl_keeps tickView (f := fun s n => (List.range 31).foldl (lawBand n) s) (fun u n => foldl_keeps tickView (lawBand_tick n) _ u) _ s)
  unfold levelLaw
  dsimp only
  split
  · rfl
  · exact hlaw

theorem aniseBlock_tick (s : State) : tickView (aniseBlock s) = tickView s := by
  refine (levelLaw_tick _).trans (foldl_keeps tickView (fun u n => ?_) _ s)
  split
  · exact noteBlock_tick u n
  · rfl

/-- The words that a channel takes from the one it mirrors. -/
theorem mirrored_tick (gs p : Nat) (l : List Word) (h : tickView u = tickView s) :
    tickView (l.foldl (fun (a : List Word × State) w => (a.1 ++ [(gainStep gs w a.2).1],
      if (gainStep gs w a.2).2.1 then setClip p (gainStep gs w a.2).2.2 else (gainStep gs w a.2).2.2)) ([], u)).2 = tickView s := by
  refine (foldl_keeps (fun a : List Word × State => tickView a.2) (fun a w => ?_) l ([], u)).trans h
  dsimp only
  split
  · exact (setClip_tick p _).trans (gainStep_tick gs w a.2)
  · exact gainStep_tick gs w a.2

/-- The words of a channel that starts. -/
theorem started_tick (l : List Word) (h : tickView u = tickView s) :
    tickView (l.foldl (fun (a : List Word × State) w =>
      if w = 0 then (a.1 ++ [0], a.2) else (a.1 ++ [BitVec.ofNat 32 (a.2.free .modulator)], a.2.freeNext)) ([], u)).2 = tickView s := by
  refine (foldl_keeps (fun a : List Word × State => tickView a.2) (fun a w => ?_) l ([], u)).trans h
  split <;> rfl

theorem drvSource_tick (s : State) (p : Nat) : tickView (drvSource s p) = tickView s := by
  have hmark : tickView (s.setFld (DRV_n_STAT p) DRV_n_STAT_MIRRORING (b2n (mirrorOf s p).isSome)) = tickView s := rfl
  unfold drvSource
  dsimp only
  generalize s.setFld (DRV_n_STAT p) DRV_n_STAT_MIRRORING (b2n (mirrorOf s p).isSome) = x at hmark ⊢
  split
  · split
    · exact started_tick _ hmark
    · exact started_tick _ (mirrored_tick _ p _ hmark)
  · split
    · exact hmark
    · exact mirrored_tick _ p _ hmark

theorem markWanted_tick (s : State) (n : Nat) : tickView (markWanted s n) = tickView s := rfl

theorem drvLatch_tick (s : State) (n : Nat) : tickView (drvLatch s n) = tickView s := rfl

/-- The channels enter their states and latch their words. -/
theorem latched_tick (l : List Nat) (s : State) : tickView (((s.each l markWanted).each l drvEnter).each l drvLatch) = tickView s :=
  (each_keeps (f := drvLatch) tickView (fun u n _ => drvLatch_tick u n) _).trans ((each_keeps tickView (fun u n _ => drvEnter_tick u n) _).trans
    (each_keeps (f := markWanted) tickView (fun u n _ => markWanted_tick u n) s))

theorem driveTick_tick (stops : Bool) (s : State) : tickView (driveTick stops s) = tickView s := by
  have hlatched := latched_tick (List.range 64) s
  unfold driveTick
  dsimp only
  generalize ((s.each (List.range 64) markWanted).each (List.range 64) drvEnter).each (List.range 64) drvLatch = x at hlatched ⊢
  have hprobe := (aniseTick_tick stops x).trans hlatched
  generalize aniseTick stops x = y at hprobe ⊢
  exact (aniseBlock_tick _).trans ((each_keeps (f := drvSource) tickView (fun u p _ => drvSource_tick u p) y).trans hprobe)

/-! ### The streams, the player, the DMA engines -/

theorem flowTick_tick (s : State) (f : Nat) : tickView (flowTick s f) = tickView s := by
  unfold flowTick
  dsimp only
  split <;> rfl

theorem flowsTick_tick (s : State) : tickView (flowsTick s) = tickView s := each_keeps tickView (fun u f _ => flowTick_tick u f) s

theorem playerTick_tick (s : State) : tickView (playerTick s) = tickView s := by
  unfold playerTick
  exact each_keeps (f := fun (s : State) (c : Nat) => s.mapStore (fun x => { x with plCfg := tput plDefault x.plCfg c (plRegs s c) }))
    tickView (fun _ _ _ => rfl) s

theorem setDmaState_tick (e c st : Nat) (s : State) : tickView (setDmaState e c st s) = tickView s := by
  unfold setDmaState
  dsimp only
  split
  · rfl
  · split <;> rfl

theorem dmaTick_tick (s : State) : tickView (dmaTick s) = tickView s := by
  refine foldl_keeps tickView (fun u x => ?_) _ s
  dsimp only
  split
  · exact setDmaState_tick ..
  · rfl

/-! ### The whole block tick -/

/-- What firmware's turn leaves where it has nothing to do. -/
def frameView (s : State) : Nat × Nat × Sx := (s.frame, s.timeNs, s.sx)

theorem fwBlockTick_idle (hj : s.fw.jobs = []) (hs : s.fw.stops = []) (he : s.fw.sched.entries = []) (ha : s.fw.archDone = true) :
    frameView (fwBlockTick s) = frameView s := by
  have hjobs : fwJobs s = s.mapFw (fun f => { f with jobs := [] }) := by
    unfold fwJobs
    rw [hj]
    rfl
  have hstops (u : State) (h : u.fw.stops = []) : fwStops u = u.mapFw (fun f => { f with stops := [] }) := by
    unfold fwStops
    rw [h]
    show u.mapFw (fun f => { f with stops := f.stops.filter (fun e => !(e.2 ≤ u.frame)) }) = _
    unfold State.mapFw
    dsimp only
    rw [h]
    rfl
  have harm (u : State) (h : u.fw.sched.entries = []) : armAll u = u := by
    unfold armAll
    rw [h]
    rfl
  have harchive (u : State) (h : u.fw.archDone = true) : archive u = u := by
    unfold archive
    rw [h]
    rfl
  unfold fwBlockTick
  split
  · have h1 : (s.mapFw (fun f => { f with jobs := [] })).fw.stops = [] := hs
    have h2 : ((s.mapFw (fun f => { f with jobs := [] })).mapFw (fun f => { f with stops := [] })).fw.sched.entries = [] := he
    have h3 : ((s.mapFw (fun f => { f with jobs := [] })).mapFw (fun f => { f with stops := [] })).fw.archDone = true := ha
    rw [hjobs, hstops _ h1, harm _ h2, harchive _ h3]
    rfl
  · rfl

theorem doBlockTick_idle (h : s.sx.blockDue = false) : doBlockTick s = s := by
  unfold doBlockTick
  rw [h]
  rfl

/-- A due block tick is taken. -/
def dueTaken (s : State) : State := { s with sx := { s.sx with blockDue := false } }

theorem swapDue_taken (s : State) : swapDue (dueTaken s) = swapDue s := rfl

/-- The users of a due block tick, before firmware's turn. -/
def blockUsers (s : State) : State :=
  evAll 1 (dmaTick (playerTick (flowsTick (driveTick (sxRunning s && !s.flag SX_CTL SX_CTL_RUN)
    (coresTick (sxBlockTick (dueTaken s)))))))

theorem doBlockTick_due (h : s.sx.blockDue = true) : doBlockTick s = fwBlockTick (blockUsers s) := if_pos h

theorem blockUsers_tick (s : State) : tickView (blockUsers s) = tickView (sxBlockTick (dueTaken s)) :=
  (evAll_tick 1 _).trans ((dmaTick_tick _).trans ((playerTick_tick _).trans ((flowsTick_tick _).trans ((driveTick_tick _ _).trans
    (coresTick_tick _)))))

end Sys2Proof.Machine
end

section

/-! SUPPORT. The traffic of a frame leaves F and the configuration of the exchange (R19): O11. -/

namespace Sys2Proof.Machine
open R

variable {a n : Nat} {s t u : State}

/-- F and the configuration of the exchange. -/
def clockView (s : State) : Nat × Word := (s.frame, s.reg SX_CFG)

theorem clockView_setReg (s : State) (h : SX_CFG ≠ a) (v : Word) : clockView (s.setReg a v) = clockView s :=
  congrArg (Prod.mk s.frame) (reg_setReg_other _ _ _ _ h)

theorem clockView_setFld (s : State) (h : SX_CFG ≠ a) (f : Fld) (x : Nat) : clockView (s.setFld a f x) = clockView s :=
  congrArg (Prod.mk s.frame) (reg_setFld_other _ _ _ _ _ h)

theorem clockView_incSat (s : State) (h : SX_CFG ≠ a) (f : Fld) : clockView (s.incSat a f) = clockView s := by
  unfold State.incSat
  split
  · exact clockView_setFld s h f _
  · rfl

theorem not_busReg_cfg : ¬ busReg SX_CFG := by
  unfold busReg
  decide

theorem clockView_of_access (h : MemAccess s t) : clockView t = clockView s :=
  Prod.ext (congrArg State.frame h.rest :) (h.reg _ not_busReg_cfg)

/-! ### The planes -/

/-- The slot of the first mismatch is noted, and what the mismatches of a frame set. -/
def slotNoted (slot : Nat) (s : State) : State :=
  if s.flag SX_PLANE_STAT SX_PLANE_STAT_MISMATCH then s
  else s.setReg SX_PLANE_MISSLOT (BitVec.ofNat 32 (slot + s.frame % 65536 * 65536))

def mismatchNoted (slot : Nat) (bad : List (Nat × Transfer)) (s : State) : State :=
  let s2 := ((slotNoted slot s).setFld SX_PLANE_STAT SX_PLANE_STAT_MISMATCH 1).incSat SX_PLANE_STAT SX_PLANE_STAT_MISCNT
  let s3 := if bad.any (fun e => e.2.parA) then s2.setFld SX_PLANE_STAT SX_PLANE_STAT_PAR_A 1 else s2
  if bad.any (fun e => e.2.parB) then s3.setFld SX_PLANE_STAT SX_PLANE_STAT_PAR_B 1 else s3

theorem slotNoted_clock (slot : Nat) (s : State) : clockView (slotNoted slot s) = clockView s := by
  unfold slotNoted
  split
  · rfl
  · exact clockView_setReg s (by decide) _

theorem mismatchNoted_clock (slot : Nat) (bad : List (Nat × Transfer)) (s : State) : clockView (mismatchNoted slot bad s) = clockView s := by
  have hset (u : State) (f : Fld) : clockView (u.setFld SX_PLANE_STAT f 1) = clockView u := clockView_setFld u (by decide) f 1
  have h1 := slotNoted_clock slot s
  unfold mismatchNoted
  generalize slotNoted slot s = s1 at h1 ⊢
  have h2 := ((clockView_incSat (s1.setFld SX_PLANE_STAT SX_PLANE_STAT_MISMATCH 1) (by decide : SX_CFG ≠ SX_PLANE_STAT)
    SX_PLANE_STAT_MISCNT).trans (hset s1 _)).trans h1
  generalize (s1.setFld SX_PLANE_STAT SX_PLANE_STAT_MISMATCH 1).incSat SX_PLANE_STAT SX_PLANE_STAT_MISCNT = s2 at h2 ⊢
  dsimp only
  generalize bad.any (fun e => e.2.parA) = a
  generalize bad.any (fun e => e.2.parB) = b
  cases a <;> cases b
  · exact h2
  · exact (hset s2 _).trans h2
  · exact (hset s2 _).trans h2
  · exact (hset _ _).trans ((hset s2 _).trans h2)

theorem planeRecords_cases (s : State) (xs : List (Nat × Transfer)) : (planeRecords s xs).1 = s ∨ ∃ slot bad,
    (planeRecords s xs).1 = mismatchNoted slot bad s ∨
      (planeRecords s xs).1 = (mismatchNoted slot bad s).setFld SX_PLANE_STAT SX_PLANE_STAT_REF_FAIL 1 := by
  unfold planeRecords
  cases compareOn s with
  | false => exact .inl rfl
  | true =>
    rw [if_neg (by decide)]
    cases hbad : xs.filter (fun e => mismatch e.2) with
    | nil => exact .inl rfl
    | cons e l =>
      obtain ⟨slot, x⟩ := e
      refine .inr ⟨slot, (slot, x) :: l, ?_⟩
      cases href : ((slot, x) :: l).filter (fun e => refereeCase e.2) with
      | nil =>
        dsimp only
        rw [href]
        exact .inl rfl
      | cons e' l' =>
        dsimp only
        rw [href]
        dsimp only
        generalize (if activePlane s = 0 then e'.2.a else e'.2.b) = act
        generalize (if activePlane s = 0 then e'.2.b else e'.2.a) = oth
        split
        · exact .inl rfl
        · split
          · exact .inl rfl
          · exact .inr rfl

theorem planeRecords_clock (s : State) (xs : List (Nat × Transfer)) : clockView (planeRecords s xs).1 = clockView s := by
  rcases planeRecords_cases s xs with h | ⟨slot, bad, h | h⟩
  · rw [h]
  · rw [h]
    exact mismatchNoted_clock slot bad s
  · rw [h]
    exact (clockView_setFld _ (by decide) _ _).trans (mismatchNoted_clock slot bad s)

/-! ### The consumers -/

theorem captureWord_clock {t : Nat} (ht : t < 16) (s : State) (c : Nat) (w : Word) : clockView (captureWord s t c w) = clockView s := by
  unfold captureWord
  split
  · have hb : s.fld (TL_t_CAP t) TL_t_CAP_BANK < 8 := fld_lt s (TL_t_CAP t) TL_t_CAP_BANK
    generalize (s.fld (TL_t_CAP t) TL_t_CAP_PTR + 4 * c) % 0x80000 = off
    exact clockView_of_access (.of_bankOnly (bankWrite_bankOnly ..) (by omega) (by omega))
  · rfl

theorem receiveWord_clock (l : List Taken) (p : Nat) (s : State) (c : Nat) : clockView (receiveWord l p s c) = clockView s := by
  have hcur : s.fld (SX_TP_t_PHYS p) SX_TP_t_PHYS_CUR < 16 := fld_lt s (SX_TP_t_PHYS p) SX_TP_t_PHYS_CUR
  have hset : clockView (s.setNum (rxHalf p (exchangeHalf s) + halfOffset s c (s.frame % blockN s)) 4 (consWord l p c).toNat) = clockView s :=
    clockView_of_access ((MemAccess.refl s).setBytes _ _)
  unfold receiveWord
  dsimp only
  generalize s.setNum (rxHalf p (exchangeHalf s) + halfOffset s c (s.frame % blockN s)) 4 (consWord l p c).toNat = x at hset ⊢
  split
  · split
    · exact (captureWord_clock hcur x c _).trans hset
    · exact hset
  · exact hset

theorem receivePort_clock (l : List Taken) (s : State) (p : Nat) : clockView (receivePort l s p) = clockView s :=
  each_keeps clockView (fun u c _ => receiveWord_clock l p u c) s

theorem txCapture_clock (F : Nat) (word : Nat → Word) (s : State) (f : Nat) : clockView (txCapture F word s f) = clockView s := by
  unfold txCapture
  split <;> rfl

theorem writeHalf_clock (r half first : Nat) (s : State) : clockView (writeHalf r half first s) = clockView s := by
  have hne : SX_CFG ≠ MS_REC_s_STAT r := by
    simp only [SX_CFG, MS_REC_s_STAT]
    omega
  unfold writeHalf
  dsimp only
  split
  · exact clockView_setFld s hne _ _
  · split
    · exact (clockView_setFld _ hne _ _).trans (clockView_setFld s hne _ _)
    · rfl

theorem doRecordHalfFull_clock (r : Nat) (s : State) : clockView (doRecordHalfFull r s) = clockView s := by
  have hne : SX_CFG ≠ MS_REC_s_STAT r := by
    simp only [SX_CFG, MS_REC_s_STAT]
    omega
  unfold doRecordHalfFull
  dsimp only
  split
  · rfl
  · split
    · exact clockView_setFld s hne _ _
    · exact (writeHalf_clock r _ _ _).trans (clockView_setFld s hne MS_REC_s_STAT_HALF _)

theorem memPut_clock (port : Nat) (s : State) (a n v : Nat) : clockView (memPut port s a n v) = clockView s :=
  clockView_of_access (engWrite_memAccess port s a (leBytes n v))

theorem setRec_clock (s : State) (r : Nat) (x : Recorder) : clockView (s.setRec r x) = clockView s := rfl

/-- A sample enters the buffer of its recorder. -/
def sampleStored (F r v : Nat) (s : State) : State :=
  let x := s.recOf r
  if halfSamples ≤ x.pos then (s.setFld (MS_REC_s_STAT r) MS_REC_s_STAT_DROP 1).setRec r { x with lost := x.lost + 1 }
  else
    let s1 := memPut 29 s (recBuf s r (s.fld (MS_REC_s_STAT r) MS_REC_s_STAT_HALF) + 3 * x.pos) 3 v
    doRecordHalfFull r (s1.setRec r { x with pos := x.pos + 1, first := if x.pos = 0 then F else x.first })

theorem recSample_eq (F : Nat) (w : Word) (s : State) (r : Nat) : recSample F w s r =
    if !recOn s r || (fsHz s = 96000 && F % 2 = 1) then s
    else sampleStored F r (if fsHz s = 96000 then s.free .recorder % 2 ^ 24 else recRound w) (if fsHz s = 96000 then s.freeNext else s) := rfl

theorem sampleStored_clock (F r v : Nat) (s : State) : clockView (sampleStored F r v s) = clockView s := by
  have hne : SX_CFG ≠ MS_REC_s_STAT r := by
    simp only [SX_CFG, MS_REC_s_STAT]
    omega
  have hdrop := clockView_setFld s hne MS_REC_s_STAT_DROP 1
  have hput (b : Nat) := memPut_clock 29 s b 3 v
  unfold sampleStored
  generalize s.setFld (MS_REC_s_STAT r) MS_REC_s_STAT_DROP 1 = d at hdrop ⊢
  generalize s.recOf r = x
  generalize halfSamples = m
  dsimp only
  split
  · exact (setRec_clock ..).trans hdrop
  · exact (doRecordHalfFull_clock r _).trans ((setRec_clock ..).trans (hput _))

theorem recSample_clock (F : Nat) (w : Word) (s : State) (r : Nat) : clockView (recSample F w s r) = clockView s := by
  have hfree : clockView (if fsHz s = 96000 then s.freeNext else s) = clockView s := by
    split <;> rfl
  rw [recSample_eq]
  split
  · rfl
  · exact (sampleStored_clock ..).trans hfree

theorem tapWord_clock (c : Nat) (w : Word) (s : State) : clockView (tapWord c w s) = clockView s := by
  unfold tapWord
  split <;> rfl

theorem sfTap_clock (c : Nat) (w : Word) (s : State) : clockView (sfTap c w s) = clockView s := by
  unfold sfTap
  dsimp only
  generalize ((if sext 32 w.toNat = 0 then 0 else 1) ||| (if sext 32 w.toNat = 2 ^ 31 - 1 ∨ sext 32 w.toNat = -(2 ^ 31) then 2 else 0) : Nat) = f
  split <;> rfl

theorem driveCollect_clock (n : Nat) (w : Word) (s : State) : clockView (driveCollect n w s) = clockView s := rfl

theorem tdmSend_clock (c : Nat) (w : Word) (s : State) : clockView (tdmSend c w s) = clockView s := rfl

theorem pushDelay_clock (l : List Taken) (s : State) : clockView (pushDelay l s) = clockView s := rfl

/-- The network, the drives and the TDM ports take their words. -/
def flowsTake (F : Nat) (l : List Taken) (s : State) : State := s.each (s.flows.map (·.1)) (txCapture F (consWord l 12))

def drivesTake (l : List Taken) (s : State) : State := s.each (List.range 64) (fun s n => driveCollect n (lateWord s l 13 n) s)

def portsTake (l : List Taken) (s : State) : State := { s with tdmOut := [] }.each (portWords l 15) (fun s e => tdmSend e.1 e.2 s)

/-- The recorder, Anise and Saffron take theirs. -/
def recordersTake (F : Nat) (l : List Taken) (s : State) : State :=
  let s5 := s.each (s.listed (MS_REC_s_CFG 0) 0x10 256) (fun s r => recSample F (lateWord s l 17 r) s r)
  let s6 := s5.each (portWords l 18) (fun s e => tapWord e.1 e.2 s)
  pushDelay l (s6.each (portWords l 19) (fun s e => sfTap e.1 e.2 s))

theorem flowsTake_clock (F : Nat) (l : List Taken) (s : State) : clockView (flowsTake F l s) = clockView s :=
  each_keeps clockView (fun u f _ => txCapture_clock F (consWord l 12) u f) s

theorem drivesTake_clock (l : List Taken) (s : State) : clockView (drivesTake l s) = clockView s :=
  each_keeps (f := fun s n => driveCollect n (lateWord s l 13 n) s) clockView (fun u n _ => driveCollect_clock n _ u) s

theorem portsTake_clock (l : List Taken) (s : State) : clockView (portsTake l s) = clockView s :=
  each_keeps (f := fun (s : State) (e : Nat × Word) => tdmSend e.1 e.2 s) clockView (fun u e _ => tdmSend_clock e.1 e.2 u) { s with tdmOut := [] }

theorem recordersTake_clock (F : Nat) (l : List Taken) (s : State) : clockView (recordersTake F l s) = clockView s := by
  unfold recordersTake
  dsimp only
  have h5 := each_keeps (f := fun s r => recSample F (lateWord s l 17 r) s r) clockView (fun u r _ => recSample_clock F _ u r)
    (l := s.listed (MS_REC_s_CFG 0) 0x10 256) s
  generalize s.each (s.listed (MS_REC_s_CFG 0) 0x10 256) (fun s r => recSample F (lateWord s l 17 r) s r) = x at h5 ⊢
  exact (pushDelay_clock l _).trans ((each_keeps (f := fun (s : State) (e : Nat × Word) => sfTap e.1 e.2 s) clockView
    (fun u e _ => sfTap_clock e.1 e.2 u) _).trans ((each_keeps (f := fun (s : State) (e : Nat × Word) => tapWord e.1 e.2 s) clockView
    (fun u e _ => tapWord_clock e.1 e.2 u) x).trans h5))

theorem consume_eq (l : List Taken) (s : State) : consume l s =
    recordersTake s.frame l (portsTake l (drivesTake l (flowsTake s.frame l (s.each (List.range 12) (receivePort l))))) := rfl

theorem consume_clock (l : List Taken) (s : State) : clockView (consume l s) = clockView s := by
  rw [consume_eq]
  exact (recordersTake_clock ..).trans ((portsTake_clock ..).trans ((drivesTake_clock ..).trans ((flowsTake_clock ..).trans
    (each_keeps clockView (fun u p _ => receivePort_clock l u p) s))))

theorem frameTraffic_clock (fs : List PlaneFault) (s : State) : clockView (frameTraffic fs s).1 = clockView s := by
  unfold frameTraffic
  split
  · have h := planeRecords_clock s (transfers s fs)
    dsimp only
    generalize planeRecords s (transfers s fs) = r at h ⊢
    have hlatch : clockView { r.1 with sx := { r.1.sx with latch := presentedWords s } } = clockView r.1 := rfl
    exact (consume_clock _ _).trans (hlatch.trans h)
  · exact consume_clock [] s

/-! ### The inputs of the frame -/

theorem captureTick_clock {t : Nat} (ht : t < 12) (s : State) : clockView (captureTick s t) = clockView s := by
  have hne : SX_CFG ≠ TL_t_CAP t := by
    simp only [SX_CFG, TL_t_CAP]
    omega
  unfold captureTick captureAdvance
  split
  · split
    · split
      · exact clockView_setFld s hne _ _
      · rfl
    · rfl
  · rfl

theorem calFrame_clock (xs : List (Nat × Word)) (s : State) (n : Nat) : clockView (calFrame xs s n) = clockView s := by
  unfold calFrame
  split <;> rfl

theorem roundFree_clock (s : State) (a : Int) (b : Nat) : clockView (roundFree s a b).2 = clockView s := by
  unfold roundFree
  split <;> rfl

theorem senseSample_clock (s : State) (n : Nat) (x : Word) : clockView (senseSample s n x).2 = clockView s := by
  unfold senseSample senseCal
  split
  · rfl
  · split
    · rfl
    · dsimp only
      split
      · exact roundFree_clock ..
      · rfl

theorem senseFrame_clock (xs : List (Nat × Word)) (s : State) : clockView (senseFrame xs s) = clockView s := by
  have h := foldl_keeps (f := fun (a : List (Nat × Word) × State) n => (tput 0 a.1 n (senseSample a.2 n (rawSense xs n)).1,
    (senseSample a.2 n (rawSense xs n)).2)) (fun a => clockView a.2) (fun a n => senseSample_clock a.2 n _)
    ((List.range 128).filter (senseOn s)) ([], s)
  exact h

theorem tdmFrame_clock (xs : List (Nat × Word)) (s : State) : clockView (tdmFrame xs s) = clockView s := rfl

theorem anFrame_clock (F : Nat) (tap : Nat → Word) (s : State) : clockView (anFrame F tap s) = clockView s := by
  unfold anFrame
  split
  · rfl
  · split <;> rfl

/-- The traffic of the frame that ends and its inputs. -/
def frameWork (x : FrameIn) (s : State) : State :=
  let r := frameTraffic x.faults s
  let s1 := r.1.each (List.range 12) captureTick
  anFrame s.frame (consWord r.2.2 18) (tdmFrame x.tdm (senseFrame x.sense (s1.each (List.range 64) (calFrame x.sense))))

theorem frameWork_clock (x : FrameIn) (s : State) : clockView (frameWork x s) = clockView s := by
  have h := frameTraffic_clock x.faults s
  unfold frameWork
  generalize frameTraffic x.faults s = r at h ⊢
  exact (anFrame_clock ..).trans ((tdmFrame_clock ..).trans ((senseFrame_clock ..).trans ((each_keeps clockView (fun u n _ => calFrame_clock _ u n) _).trans
    ((each_keeps clockView (fun u t ht => captureTick_clock (List.mem_range.1 ht) u) _).trans h))))

end Sys2Proof.Machine
end

section

/-! The frame tick and the block tick (O11). -/

namespace Sys2Proof.Machine
open R

variable {s : State}

/-- What follows the tick of F: the planes, the player, the streams, the waiting frames, the processors' events. -/
def afterAdvance (cause : Bool) (s : State) : State := evAll 0 (releaseHeld (streamFetch (playerFrame (planeTick s cause))))

theorem afterAdvance_tick (cause : Bool) (s : State) : tickView (afterAdvance cause s) = tickView s :=
  (evAll_tick 0 _).trans ((releaseHeld_tick _).trans ((streamFetch_tick _).trans ((playerFrame_tick _).trans (planeTick_tick s cause))))

theorem doFrameTick_eq (x : FrameIn) (h : s.sx.blockDue = false) : doFrameTick x s =
    afterAdvance (frameTraffic x.faults s).2.1 (advanceFrame (frameWork x s)) := by
  unfold doFrameTick
  rw [doBlockTick_idle h]
  rfl

theorem fsHz_of_clock {s t : State} (h : clockView t = clockView s) : fsHz t = fsHz s ∧ blockN t = blockN s ∧ t.frame = s.frame := by
  obtain ⟨hframe, hcfg⟩ := Prod.mk.inj h
  refine ⟨?_, blockN_congr hcfg, hframe⟩
  unfold fsHz
  rw [fld_of_reg_eq hcfg]

theorem advanceFrame_effect (s : State) : (advanceFrame s).frame = (s.frame + 1) % 2 ^ 64 ∧
    (advanceFrame s).timeNs = timeOfFrame (fsHz s) ((s.frame + 1) % 2 ^ 64) ∧
    ((advanceFrame s).sx.blockDue = true ↔ (s.frame + 1) % 2 ^ 64 % blockN s = 0) :=
  ⟨rfl, rfl, decide_eq_true_iff⟩

theorem doFrameTick_effect (x : FrameIn) (h : s.sx.blockDue = false) : (doFrameTick x s).frame = (s.frame + 1) % 2 ^ 64 ∧
    (doFrameTick x s).timeNs = timeOfFrame (fsHz s) (doFrameTick x s).frame ∧
    ((doFrameTick x s).sx.blockDue = true ↔ (doFrameTick x s).frame % blockN s = 0) := by
  obtain ⟨hfs, hn, hframe⟩ := fsHz_of_clock (frameWork_clock x s)
  have hafter := afterAdvance_tick (frameTraffic x.faults s).2.1 (advanceFrame (frameWork x s))
  have hstep := advanceFrame_effect (frameWork x s)
  rw [doFrameTick_eq x h]
  generalize afterAdvance (frameTraffic x.faults s).2.1 (advanceFrame (frameWork x s)) = t at hafter
  generalize frameWork x s = y at hfs hn hframe hafter hstep
  obtain ⟨h1, h2, h3⟩ := hstep
  generalize advanceFrame y = z at hafter h1 h2 h3
  rw [hframe] at h1 h2 h3
  rw [hfs] at h2
  rw [hn] at h3
  have tframe : t.frame = (s.frame + 1) % 2 ^ 64 := (congrArg (fun v => v.1) hafter : t.frame = z.frame).trans h1
  have ttime : t.timeNs = z.timeNs := congrArg (fun v => v.2.1) hafter
  have tdue : t.sx.blockDue = z.sx.blockDue := congrArg (fun v => v.2.2.1) hafter
  rw [tframe, ttime, tdue]
  exact ⟨rfl, h2, h3⟩

theorem doBlockTick_effect (h : s.sx.blockDue = true) (hj : s.fw.jobs = []) (hs : s.fw.stops = []) (he : s.fw.sched.entries = [])
    (ha : s.fw.archDone = true) : (doBlockTick s).sx.blockDue = false ∧ (doBlockTick s).frame = s.frame ∧ (doBlockTick s).timeNs = s.timeNs ∧
    (doBlockTick s).sx.prodActive = (sxBlockTick s).sx.prodActive ∧ (doBlockTick s).sx.consActive = (sxBlockTick s).sx.consActive := by
  have hsame := sxBlockTick_ticks s
  have htaken := sxBlockTick_ticks (dueTaken s)
  rw [swapDue_taken] at htaken
  have husers := blockUsers_tick s
  rw [doBlockTick_due h]
  generalize sxBlockTick s = u at hsame
  generalize sxBlockTick (dueTaken s) = v at htaken husers
  generalize blockUsers s = w at husers
  have hview : swapView w = swapView (dueTaken s) := (swapView_of_tick husers).trans htaken.view
  have hfw : w.fw = s.fw := congrArg (fun v => v.2.2.2) hview
  have hidle := fwBlockTick_idle (s := w) (by rw [hfw]; exact hj) (by rw [hfw]; exact hs) (by rw [hfw]; exact he) (by rw [hfw]; exact ha)
  generalize fwBlockTick w = z at hidle
  have hsx : z.sx = w.sx := congrArg (fun v => v.2.2) hidle
  have hprod : w.sx.prodActive = v.sx.prodActive := congrArg (fun v => v.2.2.2.1) husers
  have hcons : w.sx.consActive = v.sx.consActive := congrArg (fun v => v.2.2.2.2.1) husers
  rw [hsx]
  exact ⟨congrArg (fun v => v.2.2.1) hview, (congrArg (fun v => v.1) hidle).trans (congrArg (fun v => v.1) hview),
    (congrArg (fun v => v.2.1) hidle).trans (congrArg (fun v => v.2.1) hview), (hprod.trans htaken.prod).trans hsame.prod.symm,
    (hcons.trans htaken.cons).trans hsame.cons.symm⟩

/-- Settles O11. -/
theorem frameAndBlockTicksAdvance : Obligations.FrameAndBlockTicksAdvance := by
  unfold Obligations.FrameAndBlockTicksAdvance
  intro x s
  refine ⟨fun h => ⟨_, rfl, doFrameTick_effect x h⟩, fun h => Completes.of_eq (t := doBlockTick s) rfl (doBlockTick_idle h), ?_⟩
  exact fun h hj hs he ha => ⟨_, rfl, doBlockTick_effect h hj hs he ha⟩

end Sys2Proof.Machine
end
